-- ==== Sys2Proof/Word.lean ====
section
/-! DEFINITION. The words of the part and their plainest arithmetic: the 32-bit register word (R6), bytes, the numbers
that name groups, channels, streams, rings and Drover channels (R2 to R5, R322), and the requesters of R20. -/

namespace Sys2Proof

/-- A register word (R6). -/
abbrev Word := BitVec 32
/-- A byte. -/
abbrev Byte := BitVec 8
/-- A group: A to D are 0 to 3 (R2). -/
abbrev Grp := Fin 4
/-- A channel of the module, c = 8g + n (R3). -/
abbrev Ch := Fin 32
/-- A channel number inside its group (R2). -/
abbrev ChN := Fin 8
/-- A stream; 2c is the V stream and 2c + 1 the I stream of channel c (R4). -/
abbrev Strm := Fin 64
/-- A ring (R322). -/
abbrev RingNo := Fin 8
/-- A Drover channel (Table 16.1). -/
abbrev DrvNo := Fin 24
/-- A check unit (R368). -/
abbrev CkNo := Fin 8
/-- A reflex rule (R228). -/
abbrev RuleNo := Fin 64

/-- The requesters of the register arbiter (R20, R335, R354). -/
inductive Req where
  /-- A direct BAR0 access of the host link. -/
  | host
  /-- A ring 0 command: an access of the host link requester (R335). -/
  | ring0
  /-- The supervisor port. -/
  | sv
  /-- The embedded controller. -/
  | fw
  /-- A Drover bulk channel (R354). -/
  | bulk (k : DrvNo)
deriving DecidableEq, Repr

/-- Where the effect of a group-die register write is taken: served at the arbiter of the hub die, or executed at the
group die that the Staed link brought it to (R15). -/
inductive Side where
  | hub | die
deriving DecidableEq, Repr

/-- The group of a channel (R3). -/
def grpOf (c : Ch) : Grp := ⟨c.val / 8, by omega⟩
/-- The number of a channel in its group (R3). -/
def chN (c : Ch) : ChN := ⟨c.val % 8, by omega⟩
/-- Channel n of group g (R3). -/
def chOf (g : Grp) (n : ChN) : Ch := ⟨8 * g.val + n.val, by omega⟩
/-- The V stream of a channel (R4). -/
def vStream (c : Ch) : Strm := ⟨2 * c.val, by omega⟩
/-- The I stream of a channel (R4). -/
def iStream (c : Ch) : Strm := ⟨2 * c.val + 1, by omega⟩
/-- The channel of a stream (R4). -/
def streamCh (s : Strm) : Ch := ⟨s.val / 2, by omega⟩
/-- The next channel of the module, held at the last one. -/
def chSucc (c : Ch) : Ch := if h : c.val + 1 < 32 then ⟨c.val + 1, h⟩ else c
/-- The channel before this one, held at the first one. -/
def chPred (c : Ch) : Ch := ⟨c.val - 1, by omega⟩

/-- A number of w bits read as two's complement. -/
def sgn (w v : Nat) : Int := if v < 2 ^ (w - 1) then (v : Int) else (v : Int) - 2 ^ w
/-- The w-bit two's complement code of an integer. -/
def unsgn (w : Nat) (x : Int) : Nat := (x % 2 ^ w).toNat
/-- Bits [hi:lo] of a number. -/
def bitsOf (v hi lo : Nat) : Nat := (v / 2 ^ lo) % 2 ^ (hi + 1 - lo)
/-- Bit k of a number. -/
def bit (v k : Nat) : Bool := v.testBit k
/-- 1 for true and 0 for false. -/
def b2n (b : Bool) : Nat := if b then 1 else 0
/-- A value bounded to lo and hi. -/
def clampN (lo hi v : Nat) : Nat := if v < lo then lo else if hi < v then hi else v
/-- An integer bounded to lo and hi. -/
def clampI (lo hi v : Int) : Int := if v < lo then lo else if hi < v then hi else v
/-- The least k bytes of v, least significant first (R6). -/
def leBytes : Nat → Nat → List Byte
  | 0, _ => []
  | k + 1, v => BitVec.ofNat 8 v :: leBytes k (v / 256)
/-- The number that little-endian bytes give (R6). -/
def ofLe : List Byte → Nat
  | [] => 0
  | b :: bs => b.toNat + 256 * ofLe bs

end Sys2Proof
end

