-- ==== Sys2Proof/Syntax.lean ====
section
/-! DEFINITION. The commands of the block: one constructor for each row of the spec's opcode table, with what the row
needs from outside (the requester, offset, byte enables and value of an access; the bytes that came over a link; a
measured quantity). Nothing here says what a command does. -/

namespace Sys2Proof

/-- A frame of the supervisor port as it was shifted in (R380): the command and address phases, the data words, the CRC_M
received, the bit count at which SV_CS_N rose, and the period of SV_SCK in ns (R387). -/
structure SvFrame where
  cmd : BitVec 8
  addr : BitVec 24
  data : List Word
  crc : BitVec 16
  bits : Nat
  sck : Nat
deriving DecidableEq, Repr

/-- What direct parameter page 1 of an IO-Link device says (R262, Table 12.6): its identity, MinCycleTime (coded as R265),
M-sequence capability, the octets of its process data, and whether it offers an operate type other than 1_V and 2_V. -/
structure IolDevice where
  vendor : Nat
  device : Nat
  revision : Nat
  minCycle : Nat
  mseq : Nat
  pdIn : Nat
  pdOut : Nat
  fixedTypes : Bool
deriving DecidableEq, Repr

/-- The PCI Express errors of Table 15.3, each with its bit in the AER status register of its class. -/
inductive PcieErr where
  /-- Receiver Error, Bad TLP, Bad DLLP, Replay Timer Timeout, REPLAY_NUM Rollover, Corrected Internal Error. -/
  | correctable (bit : Nat)
  /-- A poisoned write to BAR0 or BAR2, an unsupported request, an unexpected completion; whether it is a case in which PCI Express
  permits an advisory report, and the header of its TLP. -/
  | request (bit : Nat) (advisory : Bool) (hdr : List Word)
  /-- A failed completion on a fetch of this ring, with its header. -/
  | ringFetch (r : RingNo) (bit : Nat) (hdr : List Word)
  /-- Malformed TLP, Receiver Overflow, Flow Control or Data Link Protocol Error, Uncorrectable Internal Error, with the header of the TLP. -/
  | link (bit : Nat) (hdr : List Word)
deriving DecidableEq, Repr

/-- The current in mA of a switch, a leg of a pair by itself (R76, R88). -/
structure LegCurrent where
  c : Ch
  ma : Int
deriving DecidableEq, Repr

/-- The current of a channel in mA as its 100 us and its 10 us mean, and whether its clamp has conducted (R75, R85). -/
structure MeanCurrent where
  us100 : Int
  us10 : Int
  clamp : Bool
deriving DecidableEq, Repr

/-- What stood 20 us after a turn-off gate edge of a channel: its current in mA, whether its terminal was above 50 % of L+, and whether a
clamp conducted (R99, R100). -/
structure GateOffSeen where
  ma : Int
  high : Bool
  clamp : Bool
deriving DecidableEq, Repr

/-- What stood 20 us after a turn-off of a channel beside another channel k of its group: k's 10 us mean before and then, in mA (R99). -/
structure CrossSeen where
  k : ChN
  off : GateOffSeen
  i : Int × Int
deriving DecidableEq, Repr

/-- The level to which LIMPx has gone, asserted or not by the row, and whether it has stood there for 10 ms (R293, R294). -/
structure LimpEdge where
  g : Grp
  held : Bool := true
deriving DecidableEq, Repr

/-- The status lane of an up-link frame, and its check bits unless a symbol of it is no code (R276). -/
structure LaneEnd where
  lane : List Byte
  check : Option (BitVec 16)
deriving DecidableEq, Repr

/-- A failed read of the Drover (R363): the bit of its uncorrectable error, the elements that a device-to-host descriptor had moved by
then, and the bytes that had come for a host-to-device one. -/
structure ReadFail where
  bit : Nat
  moved : Nat
  data : List Byte
  hdr : List Word := []
deriving DecidableEq, Repr

/-- The commands (spec/opcode_table.json), in the table's order. -/
inductive Instr where
  /-- REGISTER_WRITE (R20): A write from any requester to a register that has no row of its own is served whole at the register arbiter. -/
  | registerWrite (rq : Req) (off : Nat) (be : Fin 16) (v : Word)
  /-- CROSSING_DELIVERY (R46): A transfer held in a crossing is delivered exactly once when the destination clock returns. -/
  | crossingDelivery
  /-- PAIR_LOW_READ (R40): A read of the low word of a 64-bit pair returns it and copies the high word into the requester's snapshot register. -/
  | pairLowRead (rq : Req) (off : Nat)
  /-- PAIR_HIGH_READ (R40): A read of the high word of a pair returns the snapshot if the pair is the one marked, and otherwise the live high word. -/
  | pairHighRead (rq : Req) (off : Nat)
  /-- PAIR_LOW_WRITE (R41): A write of the low word of a writable pair is held in the requester's staging register and changes nothing yet. -/
  | pairLowWrite (rq : Req) (off : Nat) (be : Fin 16) (v : Word)
  /-- PAIR_HIGH_WRITE (R41): A write of the high word commits the staged low word and the high word to the pair in one tick. -/
  | pairHighWrite (rq : Req) (off : Nat) (be : Fin 16) (v : Word)
  /-- IRQ_CAUSE_WRITE (R50): A W1C write to a unit's IRQ_CAUSE clears causes and requests a message if the pending set stays non-empty. -/
  | irqCauseWrite (rq : Req) (off : Nat) (be : Fin 16) (v : Word)
  /-- IRQ_ENABLE_WRITE (R50): A write to IRQ_ENABLE changes the pending set and requests a message if the set is left non-empty. -/
  | irqEnableWrite (rq : Req) (off : Nat) (be : Fin 16) (v : Word)
  /-- LOCK_WRITE (R39): A write of 1 to a unit lock bit locks every RWL field of that unit until the power-on reset of the hub die. -/
  | lockWrite (rq : Req) (off : Nat) (be : Fin 16) (v : Word)
  /-- GOV_CEILING_WRITE (R27): A write of ROOT_GOV_CEILING is always accepted, and sets OVER if the model then exceeds the effective ceiling. -/
  | govCeilingWrite (rq : Req) (be : Fin 16) (v : Word)
  /-- GOV_VDECL_WRITE (R27): A write of ROOT_GOV_VDECL is always accepted, bounded per group, and changes the model. -/
  | govVdeclWrite (rq : Req) (be : Fin 16) (v : Word)
  /-- PCLK_MIRROR_REFRESH (R44): Every 1 us the PCLK mirror is refreshed whole and its FRESH count rises. -/
  | pclkMirrorRefresh
  /-- MIRROR_STALE (R44): When a mirror's AGE passes its stale limit, STALE sets and MIRROR_STALE is raised. -/
  | mirrorStale (m : Fin 5)
  /-- XIN_LOST (R494): CCLK shows no edge for 2 us; XIN is declared lost, a hub die reset begins, the Ledger records it and FAULT_N is asserted. -/
  | xinLost
  /-- PCLK_LOST (R23): The PCI Express reference is lost for 1 us; the host link goes down while held slots, outputs and the supervisor port go on. -/
  | pclkLost
  /-- MCLK_LOST (R23): A group die sees its down-link clock absent for 2 us; it holds its outputs for its watchdog time, its modulators stop and it writes a local record. -/
  | mclkLost (g : Grp)
  /-- GCLK_LOST (R290): A group die's watchdog on MCLKx finds GCLKx stopped; the group enters the safe state at once with cause 3. -/
  | gclkLost (g : Grp)
  /-- CH_MODE_WRITE (R57): A write of CH_MODE that changes MODE or SUPPLY is tested for legality and by the governor, and is accepted or refused. -/
  | chModeWrite (rq : Req) (c : Ch) (be : Fin 16) (v : Word)
  /-- PARK_END (R61): After 100 us of park, and once no clamp conducts, the channel enables its new mode in its start state. -/
  | parkEnd (c : Ch) (clamp : Bool)
  /-- CH_PERMIT_WRITE (R68): A write of CH_PERMIT permits or withdraws the driving of the channel's terminal. -/
  | chPermitWrite (d : Side) (rq : Req) (c : Ch) (be : Fin 16) (v : Word)
  /-- OUT_CMD_WRITE (R94): A write of OUT_CMD sets the commanded state and ends any PWM run when it executes at the group die. -/
  | outCmdWrite (d : Side) (rq : Req) (c : Ch) (be : Fin 16) (v : Word)
  /-- LIMIT_REACHED (R76): The switch current reaches its applicable limit and the channel enters Limiting. -/
  | limitReached (i : LegCurrent)
  /-- LIMITING_LEFT (R78): The current has stayed 5 % below the limit for 10 us, and the channel returns from Limiting. -/
  | limitingLeft (i : LegCurrent)
  /-- LIMIT_DWELL_EXPIRY (R78): The channel has stayed in Limiting outside its inrush window for LIMIT_DWELL, and it enters Fuse-tripped with DWELL_TRIP. -/
  | limitDwellExpiry (c : Ch)
  /-- INRUSH_WINDOW_END (R77): The inrush window expires and the applicable limit returns to CUR_LIMIT. -/
  | inrushWindowEnd (c : Ch) (i : Int)
  /-- MEAN_100US (R75): Every 100 us the group die forms the channel's mean current and runs the checks that use it. -/
  | mean100us (c : Ch) (i : MeanCurrent) (tj ua mv : Int)
  /-- OL_WINDOW_EXPIRY (R96): OL_WINDOW after the inrush window or the crossing, the on-state open-load check begins. -/
  | olWindowExpiry (c : Ch)
  /-- THERM_WARN (R82): The channel's Tj passes 150 C, or falls below 145 C, and THERM_WARN sets or clears. -/
  | thermWarn (c : Ch) (tj : Int)
  /-- THERMAL_OFF (R82): At Tj 170 C the channel enters Thermal-off within 10 us and turns off at its slew. -/
  | thermalOff (c : Ch) (tj : Int)
  /-- THERMAL_RETURN (R82): Tj falls below 155 C and the channel returns to its commanded state unless a higher rank holds it. -/
  | thermalReturn (c : Ch) (tj : Int)
  /-- CLAMP_EVENT_END (R85): A clamp event ends; its energy is subtracted from the bucket and reported in LAST_EVENT. -/
  | clampEventEnd (c : Ch) (e : Nat)
  /-- PAIR_IMBALANCE (R89): The switch currents of an on pair have differed by more than 30 % for 1 ms, and PAIR_IMBAL is set. -/
  | pairImbalance (c : Ch)
  /-- SENSE_CROSSING (R91): The sense comparator sees the 50 % crossing of an edge; the state advances and the delay is measured. -/
  | senseCrossing (c : Ch) (d : Nat)
  /-- CROSSING_TIMEOUT (R91): No crossing has come within 50 us of a turn-on, and the channel moves on with no delay measured. -/
  | crossingTimeout (c : Ch)
  /-- CLEAR_FAULT (R95): OUT_CLEAR.FAULT clears Fault-latched if its conditions hold, and sets the commanded state to off. -/
  | clearFault (d : Side) (rq : Req) (c : Ch) (i : Int) (clamp : Bool)
  /-- CLEAR_CLAMP (R95): OUT_CLEAR.CLAMP clears Clamp-locked while the bucket is full, and sets the commanded state to off. -/
  | clearClamp (d : Side) (rq : Req) (c : Ch)
  /-- CLEAR_FUSE (R95): OUT_CLEAR.FUSE clears Fuse-tripped while theta is at or below dt_p, and sets the commanded state to off. -/
  | clearFuse (d : Side) (rq : Req) (c : Ch)
  /-- OFF_CHECK_PHASE (R97): At the end of each 500 us phase of the off-state check, the comparator is read and a result is classified. -/
  | offCheckPhase (c : Ch) (high : Bool) (k : Option CrossSeen)
  /-- STUCK_ON (R100): 20 us after gate-off the current and terminal show a stuck switch; the channel is Fault-latched with cause 2 and FAULT_N is asserted. -/
  | stuckOn (c : Ch) (i : GateOffSeen)
  /-- WIRED_DETECT (R101): Within 20 us of an edge of one channel, another channel's current shows the signature, and WIRED is set on both. -/
  | wiredDetect (g : Grp) (j k : ChN) (i : Int × Int)
  /-- GROUP_SHED (R102): The group L+ current has stayed above 6.5 A for 200 us; one channel is shed to off and recorded. -/
  | groupShed (g : Grp) (cur : List Nat) (sum : Nat)
  /-- RING_ENTRY_FETCH (R327): A fetched inbound ring entry is tested for check value, sequence and form, and is consumed or refetched or halts the ring. -/
  | ringEntryFetch (r : RingNo) (e : List Byte)
  /-- ENTRY_REFETCH (R327): 1 us after a failed test the entry is fetched again, up to three times. -/
  | entryRefetch (r : RingNo) (e : List Byte)
  /-- SCHEDULE (R107): A SCHEDULE entry is moved whole into COUNT Fold slots with their release instants, or is refused. -/
  | schedule
  /-- CANCEL_ENTRY (R121): A CANCEL entry at the head of ring 2 cancels the held and due slots of its mask and instant range. -/
  | cancelEntry
  /-- SLOT_DUE (R110): Machine time reaches a slot's release instant; the slot is released to its group's transmit queue with its gate instant. -/
  | slotDue
  /-- QUEUE_ROOM (R111): Room appears in a transmit queue and waiting due slots are released in the order of R114. -/
  | queueRoom (g : Grp)
  /-- FOLD_ENABLE_WRITE (R117): A write of FOLD_CTRL.ENABLE lets slots fall due, and slots already passed become late with where 1. -/
  | foldEnableWrite (rq : Req) (be : Fin 16) (v : Word)
  /-- FOLD_CANCEL_WRITE (R121): A write of FOLD_CANCEL cancels every held or due slot of the channels in its mask. -/
  | foldCancelWrite (rq : Req) (be : Fin 16) (v : Word)
  /-- TIMED_ON (R113): At its gate instant the group die places the on-edge of a timed ON. -/
  | timedOn (c : Ch)
  /-- TIMED_OFF (R113): At its gate instant the group die places the off-edge of a timed OFF. -/
  | timedOff (c : Ch)
  /-- TIMED_PULSE (R109): At its gate instant the group die places the on-edge of a timed PULSE. -/
  | timedPulse (c : Ch)
  /-- PULSE_END (R109): After its width, the off-edge of a PULSE is placed. -/
  | pulseEnd (c : Ch)
  /-- TIMED_PWM_START (R129): At its gate instant a PWM run starts with its start edge and its peak phase. -/
  | timedPwmStart (c : Ch)
  /-- TIMED_PWM_STOP (R130): At its gate instant a PWM run ends with an edge to its end state. -/
  | timedPwmStop (c : Ch)
  /-- TIMED_PWM_DUTY (R130): A PWM_DUTY takes effect at the first grid on-edge at or after its instant. -/
  | timedPwmDuty (c : Ch)
  /-- TIMED_DAC (R178): At its instant the group die sets the DAC to the Fold action's code. -/
  | timedDac (c : Ch)
  /-- DELAY (R124): A delay measurement in the up-link updates the channel's D_ref filter. -/
  | delay (g : Grp) (ok : Bool)
  /-- EDGE_DONE_TIMEOUT (R131): 50 us after its gate instant with no measurement, a NOTIFY slot raises EDGE_DONE with flag bit 3. -/
  | edgeDoneTimeout (c : Ch)
  /-- PWM_EDGE (R128): A PWM run reaches an on-edge or off-edge of its grid, or the end of its peak phase. -/
  | pwmEdge (c : Ch)
  /-- PWM_RUN_START (R130): A write of TO_CFG with PWM_RUN 1 starts a run at once with PWM_PRESET when no run stands. -/
  | pwmRunStart (d : Side) (rq : Req) (c : Ch) (be : Fin 16) (v : Word)
  /-- PWM_RUN_END (R130): A write of TO_CFG with PWM_RUN 0 ends the run at once, to off. -/
  | pwmRunEnd (d : Side) (rq : Req) (c : Ch) (be : Fin 16) (v : Word)
  /-- CAPTURE_SAMPLE (R194): In each capture tick a chain produces a capture sample and the users of the capture tap evaluate it. -/
  | captureSample (s : Strm)
  /-- STROKE_WINDOW_EXPIRY (R138): The stroke window reaches t0 + WINDOW without a decision and gives NO_STROKE. -/
  | strokeWindowExpiry (c : Ch)
  /-- RELEARN (R142): A write of SK_CFG.RELEARN sets COUNT to 0 and restarts learning. -/
  | relearn (rq : Req) (c : Ch) (be : Fin 16) (v : Word)
  /-- SK_BASE_WRITE (R143): A write of SK_BASE sets the baseline and ends or continues learning from it. -/
  | skBaseWrite (rq : Req) (c : Ch) (be : Fin 16) (v : Word)
  /-- SK_TREND_WRITE (R144): A write of SK_TREND sets TREND and clears its fraction. -/
  | skTrendWrite (rq : Req) (c : Ch) (be : Fin 16) (v : Word)
  /-- COMPARATOR_CHANGE (R151): The input comparator changes; the glitch filter begins to hold it back, or discards a change that returned within F. -/
  | comparatorChange (c : Ch) (mv : Int)
  /-- EDGE_QUALIFIED (R151): A comparator change has lasted F; the qualified state changes and the edge is timestamped, tallied and reported. -/
  | edgeQualified (c : Ch)
  /-- TIMESTAMP (R159): A timestamp record reaches the hub die, is extended to 64 bits and written to IN_LAST. -/
  | timestamp (g : Grp) (ok : Bool)
  /-- TALLY (R48): A tally transfer whose toggle is new adds its count to the channel's 32-bit tally. -/
  | tally (c : Ch) (ok : Bool)
  /-- IN_TALLY_WRITE (R164): A write of IN_TALLY presets the tally; a transfer accepted in the same tick is added after it. -/
  | inTallyWrite (rq : Req) (c : Ch) (be : Fin 16) (v : Word)
  /-- WIRE_BREAK_SET (R167): The terminal current has stayed below the threshold for WB_TIME; WIRE_BREAK is set and notified. -/
  | wireBreakSet (g : Grp) (n : ChN)
  /-- WIRE_BREAK_CLEAR (R167): The current has stayed above the clear threshold for 1 ms; WIRE_BREAK clears and is notified. -/
  | wireBreakClear (g : Grp) (n : ChN)
  /-- LOOP_SHORT (R173): The loop supply has stayed at its limit for 1 ms and turns off with LOOP_SHORT. -/
  | loopShort (c : Ch)
  /-- LOOP_SUPPLY_RETRY (R173): Once a second the loop supply is tried for 1 ms and clears LOOP_SHORT if it stays below its limit. -/
  | loopSupplyRetry (c : Ch) (limit : Bool)
  /-- IN_OVERLOAD (R173): More than 30 mA has entered the low-side shunt for 1 ms; the shunt is disconnected with IN_OVERLOAD. -/
  | inOverload (c : Ch)
  /-- SHUNT_RETRY (R173): Once a second the shunt is reconnected for 1 ms and clears IN_OVERLOAD if the current stays below the limit. -/
  | shuntRetry (c : Ch) (limit : Bool)
  /-- LOOP_CHECK (R174): The loop current has stayed outside or inside its band for CHECK_TIME, and UNDER or OVER sets or clears. -/
  | loopCheck (g : Grp) (n : ChN) (high : Bool)
  /-- AN_DAC_WRITE (R178): A write of AN_DAC takes effect at the group die, bounded by AN_CLAMP, as a step or a ramp. -/
  | anDacWrite (d : Side) (rq : Req) (c : Ch) (be : Fin 16) (v : Word)
  /-- AN_CLAMP_WRITE (R181): A write of AN_CLAMP changes the bounds and retargets any ramp in progress. -/
  | anClampWrite (d : Side) (rq : Req) (c : Ch) (be : Fin 16) (v : Word)
  /-- DAC_RAMP_STEP (R179): Every 1 us a running ramp moves DAC_NOW toward the effective command. -/
  | dacRampStep (c : Ch)
  /-- COMPLIANCE (R182): The current source has stayed in saturation for 100 us, and COMPLIANCE is set. -/
  | compliance (c : Ch)
  /-- COMPLIANCE_CLEAR (R182): The regulator has been out of saturation for 1 ms, and COMPLIANCE clears. -/
  | complianceClear (c : Ch)
  /-- MISMATCH (R184): The reading has differed from the command, or agreed again, for MISMATCH_TIME, and MISMATCH sets or clears. -/
  | mismatch (g : Grp) (n : ChN)
  /-- BUFFER_OVERLOAD (R185): The voltage buffer has held its current limit for 1 ms, or stayed below it for 1 ms, and OVERLOAD sets or clears. -/
  | bufferOverload (c : Ch) (set : Bool)
  /-- ANALOG_HOT (R185): An analogue channel reaches 170 C; its driving block turns off and HOT is set. -/
  | analogHot (c : Ch)
  /-- ANALOG_HOT_CLEAR (R185): Tj falls below 155 C; the block turns on at its effective command and HOT clears. -/
  | analogHotClear (c : Ch)
  /-- COARSE_SAMPLE (R217): Every eighth mean is delivered as the 625 kS/s coarse sample. -/
  | coarseSample (s : Strm)
  /-- FIR_OUTPUT (R197): Once per FIR period the FIR and DC blocker produce an output from the active bank or the fade. -/
  | firOutput (s : Strm)
  /-- FINE_SAMPLE (R206): The resampler produces the fine sample for instant t_k. -/
  | fineSample (s : Strm)
  /-- SC_CFG_WRITE (R215): A write of SC_CFG that changes SET, HB or FIR_EN makes a synchronising reset of the chain. -/
  | scCfgWrite (rq : Req) (s : Strm) (be : Fin 16) (v : Word)
  /-- CHAIN_SYNC (R215): A write of SC_CFG.SYNC fills the chain's history with zeros and restarts it with SETTLING. -/
  | chainSync (rq : Req) (s : Strm) (be : Fin 16) (v : Word)
  /-- SWAP_REQUEST (R201): A write of SC_SWAP with REQ 1 requests a bank swap, which starts, becomes pending or replaces the pending request. -/
  | swapRequest (rq : Req) (s : Strm) (be : Fin 16) (v : Word)
  /-- DC_CLEAR (R205): A write of SC_DC.CLEAR sets the DC blocker estimate to 0 before the next output. -/
  | dcClear (rq : Req) (s : Strm) (be : Fin 16) (v : Word)
  /-- COEF_WRITE (R200): A write to a coefficient or SET_INFO word is applied, or discarded and counted if its bank is in service. -/
  | coefWrite (rq : Req) (off : Nat) (be : Fin 16) (v : Word)
  /-- WIN_WRITE (R226): A write of a comparator's bounds or control takes effect at the next evaluation, or makes it UNSET or starts it. -/
  | winWrite (rq : Req) (s : Strm) (k : Fin 4) (be : Fin 16) (v : Word)
  /-- URGENT_CONDITION (R229): An urgent condition word from a group die enters the reflex lane's queue, or is lost if the queue is full. -/
  | urgentCondition (g : Grp) (ok : Bool)
  /-- CONDITION_EVALUATE (R232): A lane evaluates the condition at the head of its queue against all its rules, and matching rules fire. -/
  | conditionEvaluate (g : Grp)
  /-- REFLEX_CANCEL (R230): In the tick after the match, a CANCEL action cancels the target's held and due Fold slots on the hub die. -/
  | reflexCancel
  /-- URGENT_ACTION (R279): The group die takes an urgent action word in sequence order, holds an early one or acknowledges a repeat. -/
  | urgentAction (g : Grp) (ok : Bool)
  /-- REFLEX_ON (R234): At the MCLKx edge after its arrival a reflex ON turns the target's switch on. -/
  | reflexOn (c : Ch)
  /-- REFLEX_OFF (R234): At the MCLKx edge after its arrival a reflex OFF turns the target's switch off. -/
  | reflexOff (c : Ch)
  /-- REFLEX_PULSE (R234): A reflex PULSE turns the target on at arrival and off after its width. -/
  | reflexPulse (c : Ch)
  /-- REFLEX_PWM (R234): A reflex PWM starts a run of the named preset at arrival. -/
  | reflexPwm (c : Ch)
  /-- RFX_ARM_WRITE (R235): A write of RFX_ARM disarms a rule or arms it repeating or one-shot, waiting or live by ARM_AT. -/
  | rfxArmWrite (rq : Req) (r : RuleNo) (be : Fin 16) (v : Word)
  /-- ARM_AT_COMMIT (R235): A commit of RFX_ARM_AT changes the instant at which a waiting rule turns live. -/
  | armAtCommit (rq : Req) (r : RuleNo) (be : Fin 16) (v : Word)
  /-- RULE_LIVE (R235): Machine time reaches ARM_AT and a waiting rule turns live. -/
  | ruleLive (r : RuleNo)
  /-- HOLDOFF_END (R235): HOLDOFF us after a firing, the rule is live again. -/
  | holdoffEnd (r : RuleNo)
  /-- RULE_WRITE (R236): A write of RFX_COND, RFX_ACTION or RFX_PARAM changes a disarmed rule, or is discarded as a refusal if the rule is armed. -/
  | ruleWrite (rq : Req) (r : RuleNo) (k : Fin 3) (be : Fin 16) (v : Word)
  /-- RATE_WRITE (R243): A write of TB_RATE changes the advance of machine time from the next tick. -/
  | rateWrite (rq : Req) (be : Fin 16) (v : Word)
  /-- SLEW_WRITE (R244): A write of TB_SLEW.AMOUNT starts, replaces or ends a slew. -/
  | slewWrite (rq : Req) (be : Fin 16) (v : Word)
  /-- SLEW_DONE (R244): The slew amount has been absorbed; S becomes 0, SLEWING clears and SLEW_DONE is set. -/
  | slewDone
  /-- STEP_COMMIT (R245): A commit of TB_STEP requests a step of machine time, pending if a group has not taken the previous one. -/
  | stepCommit (rq : Req) (be : Fin 16) (v : Word)
  /-- STEP_APPLY (R245): In the step tick machine time steps by delta, the epoch inverts, held instants move in relative mode and TIME_STEP is raised. -/
  | stepApply
  /-- SYNC_IN_EDGE (R250): A selected SYNC_IN edge is captured with its machine time, and loads TB_LOAD by a step when LOAD_ARM is set. -/
  | syncInEdge (rising : Bool)
  /-- SYNC_OUT_PULSE (R251): Machine time reaches a SYNC_OUT instant and SYNC_OUT is asserted. -/
  | syncOutPulse
  /-- SYNC_OUT_END (R251): WIDTH x 4 ns after assertion SYNC_OUT is deasserted. -/
  | syncOutEnd
  /-- PORT_START (R260): A write of IOL_CTRL.START 1 enters SIO or POWERING and turns on a switched supplier. -/
  | portStart (rq : Req) (c : Ch) (be : Fin 16) (v : Word)
  /-- PORT_STOP (R262): A write of IOL_CTRL.START 0 makes the port INACTIVE and forgets its reference. -/
  | portStop (rq : Req) (c : Ch) (be : Fin 16) (v : Word)
  /-- ADMIT (R262): A write of ADMIT while HELD with reason 8 makes the present device the reference and lets it proceed. -/
  | admitDevice (rq : Req) (c : Ch) (be : Fin 16) (v : Word)
  /-- POWERING_END (R259): 300 ms after the supplier conducts the port leaves POWERING for SEEKING. -/
  | poweringEnd (c : Ch)
  /-- WAKE_UP (R259): In SEEKING the port makes a wake-up pulse and its COM attempts by the seeking rhythm. -/
  | wakeUp (c : Ch)
  /-- DEVICE_ANSWER (R259): A device answers a seeking attempt and the port enters STARTUP at that COM rate. -/
  | deviceAnswer (c : Ch) (com : Fin 4)
  /-- PAGE1_INSPECTED (R262): Direct parameter page 1 has been read; the device is admitted, or held as incompatible or changed. -/
  | page1Inspected (c : Ch) (d : IolDevice)
  /-- PREOPERATE_DONE (R259): The first PREOPERATE event round is done and the port enters OPERATE. -/
  | preoperateDone (c : Ch)
  /-- IOL_CYCLE (R265): A master message starts on the machine-time grid and its cycle exchanges process data. -/
  | iolCycle (c : Ch) (good : Bool) (pd : Nat)
  /-- IOL_PD_WRITE (R266): A write of PDOUT is sent in the first cycle at least 2 us after it reaches the group die. -/
  | iolPdWrite (d : Side) (rq : Req) (c : Ch) (be : Fin 16) (v : Word)
  /-- ISDU_READ (R268): A ring 4 ISDU_READ is queued at its port or refused. -/
  | isduRead
  /-- ISDU_WRITE (R268): A ring 4 ISDU_WRITE fragment is queued at its port or refused. -/
  | isduWrite
  /-- POWER_CYCLE (R264): A ring 4 POWER_CYCLE turns a switched supplier off and aborts the port's ISDUs. -/
  | powerCycle
  /-- POWER_CYCLE_END (R264): The requested off time ends; the supplier turns on and the port enters POWERING. -/
  | powerCycleEnd (c : Ch)
  /-- PD_OUT (R266): A ring 4 PD_OUT writes PDOUT of each listed port. -/
  | pdOut
  /-- ABORT (R267): A ring 4 ABORT ends every ISDU of the port with status 4. -/
  | abort
  /-- ISDU_RESPONSE (R268): A device answers an ISDU and an ISDU_RESP entry is written to ring 5. -/
  | isduResponse (c : Ch) (status err : Nat) (data : List Byte)
  /-- ISDU_TIMEOUT (R268): An ISDU with no answer for 5 s ends with status 2. -/
  | isduTimeout (c : Ch)
  /-- PORT_EVENT (R269): A device flags an event; the firmware reads it, writes PORT_EVENT entries and then confirms them. -/
  | portEvent (c : Ch) (ev : List (Nat × Nat))
  /-- DRIVER_OVERLOAD (R258): The C/Q driver has stayed at its limit for 1 ms; it goes to receive only and the port to NO_SUPPLY with reason 9. -/
  | driverOverload (c : Ch)
  /-- DRIVER_RETRY (R258): Once a second the C/Q driver is tried for 1 ms and the port leaves NO_SUPPLY if it stays below the limit. -/
  | driverRetry (c : Ch) (limit : Bool)
  /-- FRAME_COMPOSE (R273): At a frame's grid instant the hub die composes a down-link frame, full or short, with retries first. -/
  | frameCompose (g : Grp)
  /-- PART_A_TAKEN (R274): The group die checks part A of a down-link frame, acknowledges it and takes its commands. -/
  | partATaken (g : Grp) (check : Option (BitVec 16))
  /-- PART_B_TAKEN (R274): The group die checks part B, acknowledges it, takes its commands and its tally and record acknowledgements. -/
  | partBTaken (g : Grp) (check : Option (BitVec 16))
  /-- DL_WRITE (R15): A down-link WRITE is applied to the group die register it names. -/
  | dlWrite (g : Grp)
  /-- DL_RULE (R280): A down-link RULE sets the group die's action table entry of the rule. -/
  | dlRule (g : Grp)
  /-- DL_ACTION (R274): A down-link ACTION is executed at the group die as a reflex action. -/
  | dlAction (g : Grp)
  /-- DL_TIME (R285): A down-link TIME loads the group die's full copy of machine time. -/
  | dlTime (g : Grp)
  /-- DL_STEP (R246): A down-link STEP is applied at the group die before the frame's commands, moving its held instants in relative mode. -/
  | dlStep (g : Grp)
  /-- DL_IOL (R274): A down-link IOL gives the group die on-request octets for a port. -/
  | dlIol (g : Grp)
  /-- END_LOAD (R285): CONTROL END_LOAD ends a reload; every channel leaves park in one MCLKx tick and the watchdog starts. -/
  | endLoad (g : Grp)
  /-- CONTROL_RELEASE (R291): CONTROL RELEASE ends the safe state at the die; outputs go off and PWM runs end. -/
  | controlRelease (g : Grp)
  /-- CONTROL_RESTART (R296): CONTROL RESTART turns off the group's driving blocks and resets its logic, keeping its Ledger. -/
  | controlRestart (g : Grp)
  /-- CONTROL_HOLD (R284): CONTROL HOLD keeps every channel of a refused die disabled with its park resistor. -/
  | controlHold (g : Grp)
  /-- PART_ACK (R277): A part acknowledgement reaches the hub die and confirms the part's commands, or leaves them for retry. -/
  | partAck (g : Grp) (ok : Bool)
  /-- ACTION_ACK (R279): An urgent action acknowledgement reaches the hub die and frees its sequence place. -/
  | actionAck (g : Grp) (ok : Bool)
  /-- URGENT_RETRY (R279): 320 ns without acknowledgement an urgent action word is sent again. -/
  | urgentRetry (g : Grp)
  /-- URGENT_SKIP (R279): A held early urgent word's predecessor has not come within 1.3 us; it is skipped and counted lost. -/
  | urgentSkip (g : Grp)
  /-- UPLINK_FRAME (R276): An up-link frame reaches the hub die; its bitstreams go to the chains and its status lane to the records, or it is gap-flagged. -/
  | uplinkFrame (g : Grp) (bits : List (BitVec 20)) (e : LaneEnd)
  /-- RECORD_RESEND (R276): A reliable record unacknowledged for 2 us is sent again by the group die. -/
  | recordResend (g : Grp) (k : Nat) (ok : Bool)
  /-- EVENT (R276): A reliable EVENT record reaches the hub die and carries diagnostics, mode reports, state changes and local Ledger entries. -/
  | event (g : Grp) (ok : Bool)
  /-- IOL_RECORD (R276): A reliable IOL record brings received on-request octets of a port to the hub die. -/
  | iolRecord (g : Grp) (ok : Bool)
  /-- LINKSTAT (R285): A LINKSTAT record updates the group's link flags, intact, limp and detaching states. -/
  | linkstat (g : Grp) (ok : Bool)
  /-- IDENT (R284): An IDENT record in LINKING or RESTARTING is cached and checked, and begins a full or resume attach or a refusal. -/
  | ident (g : Grp) (id : List Byte)
  /-- MIRROR (R44): A MIRROR record fills a word of the hidden copy of the group's mirror. -/
  | mirror (g : Grp) (w : Nat)
  /-- REFRESH (R44): A REFRESH record replaces the visible mirror whole and raises FRESH. -/
  | refresh (g : Grp)
  /-- UPLINK_LOCK (R283): The up-link of an absent group locks and the group enters LINKING. -/
  | uplinkLock (g : Grp)
  /-- UPLINK_LOST (R278): LCLKx stops for 1 us or eight frames fail; the group enters UPLINK_LOST or becomes ABSENT. -/
  | uplinkLost (g : Grp)
  /-- UPLINK_LOST_TIMEOUT (R278): The up-link has stayed lost for 10 ms and the group becomes ABSENT. -/
  | uplinkLostTimeout (g : Grp)
  /-- WATCHDOG_EXPIRY (R282): The link watchdog runs for TIME without a restart and the group enters the safe state with cause 1. -/
  | watchdogExpiry (g : Grp)
  /-- GRP_FEED (R281): A write of GRP_FEED with the key from a permitted requester makes the next frame carry FED. -/
  | grpFeed (rq : Req) (g : Grp) (be : Fin 16) (v : Word)
  /-- FORCE_SAFE (R290): A write of GRP_CTRL.FORCE_SAFE makes the hub die send SAFE in every frame. -/
  | forceSafe (rq : Req) (g : Grp) (be : Fin 16) (v : Word)
  /-- UNFORCE (R290): A write of GRP_CTRL.UNFORCE stops the sending of SAFE. -/
  | unforce (rq : Req) (g : Grp) (be : Fin 16) (v : Word)
  /-- RELEASE (R291): A write of GRP_CTRL.RELEASE while no cause holds sends CONTROL RELEASE; otherwise it does nothing. -/
  | release (rq : Req) (g : Grp) (be : Fin 16) (v : Word)
  /-- RESTART (R296): A write of GRP_CTRL.RESTART sends CONTROL RESTART and the group enters RESTARTING. -/
  | restart (rq : Req) (g : Grp) (be : Fin 16) (v : Word)
  /-- GCLK_RETURN (R291): GCLKx has shown edges for 10 us and the die reports it running. -/
  | gclkReturn (g : Grp)
  /-- LIMP_HOME_BEGIN (R293): LIMPx has been asserted for 10 ms with limp-home enabled and locked; mapped outputs follow their sources. -/
  | limpHomeBegin (e : LimpEdge)
  /-- LIMP_HOME_END (R294): LIMPx has been deasserted for 10 ms; followed outputs take their safe values or go off. -/
  | limpHomeEnd (e : LimpEdge)
  /-- UV_WARN_SET (R299): LPx has stayed below 19.2 V for 100 us and UV_WARN is set. -/
  | uvWarnSet (g : Grp) (lp : Int) (hold : Nat)
  /-- UV_WARN_CLEAR (R299): LPx has stayed above 19.7 V for 1 ms and UV_WARN clears. -/
  | uvWarnClear (g : Grp) (lp : Int) (hold : Nat)
  /-- UV_LOCKOUT (R300): LPx has stayed below 13.0 V for 20 us; every driving block turns off and the local Ledger commit begins. -/
  | uvLockout (g : Grp) (lp : Int) (hold : Nat)
  /-- HOLDUP_BEGIN (R301): LPx falls to within 0.6 V of HOLDx and the die runs from HOLDx. -/
  | holdupBegin (g : Grp) (lp : Int) (hold : Nat)
  /-- HOLDUP_EXHAUSTED (R302): HOLDx falls below 9.2 V; the die finishes its commit, reports detaching and stops. -/
  | holdupExhausted (g : Grp) (lp : Int) (hold : Nat)
  /-- HOLD_CAP_MEASURED (R303): A charge of HOLDx from below 9.2 V ends and its capacitance is written, setting HOLD_LOW if below 200 uF. -/
  | holdCapMeasured (g : Grp) (uf : Nat)
  /-- LOCKOUT_RELEASE (R304): LPx has stayed above 15.0 V for 1 ms with no other condition; the group leaves lockout under its RESTORE policy. -/
  | lockoutRelease (g : Grp) (lp : Int) (hold : Nat)
  /-- CHANNEL_RELEASE (R305): At its instant after release or acknowledgement a channel returns to its commanded, safe or mapped state. -/
  | channelRelease (c : Ch)
  /-- SUPPLY_ACK (R306): A write of GRP_SUP_CTRL.ACK while AWAIT_ACK reads 1 starts the staggered return of the outputs. -/
  | supplyAck (d : Side) (rq : Req) (g : Grp) (be : Fin 16) (v : Word)
  /-- OV_LOCKOUT (R308): LPx has stayed above 33.0 V for 50 us and every driving block turns off. -/
  | ovLockout (g : Grp) (lp : Int) (hold : Nat)
  /-- CLAMP_DISARM (R308): During overvoltage a channel's current falls below 20 mA and its clamp is disarmed. -/
  | clampDisarm (c : Ch) (i : Int)
  /-- OV_CLEAR (R308): LPx has stayed below 31.0 V for 1 ms and the overvoltage lockout ends. -/
  | ovClear (g : Grp) (lp : Int) (hold : Nat)
  /-- REVERSE_LPLUS (R310): LPx below -2.0 V for 5 us turns off every driving block, sets REVERSE and commits the Ledger. -/
  | reverseLplus (g : Grp) (lp : Int) (hold : Nat)
  /-- GNDF_LOSS (R311): The die senses loss of GNDFx, turns every switch off within 5 us and holds its logic in reset. -/
  | gndfLoss (g : Grp)
  /-- CHECK_RESUME (R313): 10 ms after a supply release the suspended diagnostic checks resume. -/
  | checkResume (g : Grp)
  /-- DOORBELL (R329): A doorbell write to a ring page sets a producer or consumer index if valid, or is ignored with DOORBELL_ERR. -/
  | doorbell (off : Nat) (data : List Byte)
  /-- RING_WB_WRITE (R330): The device writes a ring's write-back record of its index and status. -/
  | ringWbWrite (r : RingNo)
  /-- OUTBOUND_ENTRY (R331): The device writes an entry into an outbound ring slot the host has released. -/
  | outboundEntry (r : RingNo)
  /-- RING_MESSAGE (R331): A ring requests its MSI-X message after THRESH entries or HOLDOFF us. -/
  | ringMessage (r : RingNo)
  /-- RING_ENABLE (R340): A write of RING_CFG.ENABLE 1 resets the ring's indices and sequence count and starts it. -/
  | ringEnable (rq : Req) (r : RingNo) (be : Fin 16) (v : Word)
  /-- RING_DISABLE (R341): A write of RING_CFG.ENABLE 0 stops the ring at an entry boundary. -/
  | ringDisable (rq : Req) (r : RingNo) (be : Fin 16) (v : Word)
  /-- RING_RESUME (R334): A write of RING_CFG.RESUME clears a halt of cause 1 or 2 and fetches again. -/
  | ringResume (rq : Req) (r : RingNo) (be : Fin 16) (v : Word)
  /-- NOP (R336): A ring 0 NOP completes with status 0. -/
  | nop
  /-- WRITE (R337): A ring 0 WRITE writes up to six words in order as host link accesses. -/
  | write
  /-- WRITE_MASKED (R336): A ring 0 WRITE_MASKED changes the masked bits of up to four words, each in one access. -/
  | writeMasked
  /-- READ (R337): A ring 0 READ returns up to eleven words in its completion. -/
  | read
  /-- READ_BLOCK (R337): A ring 0 READ_BLOCK returns up to eleven consecutive words in its completion. -/
  | readBlock
  /-- RECORD_COPY (R338): A ring 0 RECORD_COPY copies Ledger records to ring 6 in ascending index order. -/
  | recordCopy
  /-- CONFIG_WRITE (R317): A configuration write changes the writable bits of the function's configuration header or capabilities. -/
  | configWrite (off : Nat) (be : Fin 16) (v : Word)
  /-- PCIE_ERROR (R320): A PCI Express error is logged by its class and handled as Table 15.3 lays down. -/
  | pcieError (e : PcieErr)
  /-- LINK_EVENT (R319): The link trains up or changes speed or width and a LINK_EVENT is raised. -/
  | linkEvent (up : Bool) (speed width : Nat)
  /-- POWER_STATE_CHANGE (R319): The function enters or leaves D3hot, pausing or resuming its rings and Drover. -/
  | powerStateChange (d3 : Bool)
  /-- LINK_DOWN (R342): The link goes down; the host link unit, the Drover and the check units reset. -/
  | linkDown
  /-- PERST_N (R456): PERST_N resets the endpoint, the PCLK domain, the host link unit, Drover, check units and configuration space. -/
  | perstN
  /-- HOT_RESET (R456): A hot reset has the effect of PERST_N. -/
  | hotReset
  /-- FUNCTION_LEVEL_RESET (R457): A Function Level Reset has the effect of the root soft reset and resets the configuration space as the Base Specification lays down. -/
  | functionLevelReset
  /-- ROOT_SOFT_RESET (R457): ROOT_RESET with the key and SOFT 1 resets the host link unit, Drover and check units with the link kept up. -/
  | rootSoftReset (rq : Req) (be : Fin 16) (v : Word)
  /-- HUB_DIE_RESET_REQUEST (R458): ROOT_RESET with the key and HUB 1 begins a hub die reset. -/
  | hubDieResetRequest (rq : Req) (be : Fin 16) (v : Word)
  /-- HUB_RESET_END (R458): A hub die reset ends; machine time restarts, the Fold empties, chains resynchronise and the down-links restart. -/
  | hubResetEnd
  /-- DRV_START (R356): A START doorbell fetches the descriptor at DRV_CH_HEAD and the channel becomes RUNNING. -/
  | drvStart (k : DrvNo)
  /-- DRV_CONTINUE (R360): A CONTINUE doorbell sets RESCAN, or rescans an ended chain. -/
  | drvContinue (k : DrvNo)
  /-- DRV_STOP (R357): A STOP doorbell or DRV_CH_CTRL.STOP takes no further descriptor and moves the channel toward IDLE. -/
  | drvStop (k : DrvNo) (rq : Option Req)
  /-- DRV_CLEAR (R357): DRV_CH_CTRL.CLEAR moves a channel halted with cause 1, 2, 3 or 5 to IDLE. -/
  | drvClear (rq : Req) (k : DrvNo)
  /-- RECOVER (R364): DRV_CTRL.RECOVER clears BUS_ERR and moves channels halted with cause 4 to IDLE. -/
  | recover (rq : Req)
  /-- DRV_CFG_WRITE (R366): A write of DRV_CH_CFG or DRV_CH_STREAMS takes effect, or is discarded and counted while the channel runs. -/
  | drvCfgWrite (rq : Req) (k : DrvNo) (w : Fin 3) (be : Fin 16) (v : Word)
  /-- DESCRIPTOR_FETCH (R347): A fetched descriptor is validated, and a failed one halts the channel after the one before it. -/
  | descriptorFetch (k : DrvNo) (bytes : List Byte)
  /-- DESCRIPTOR_START (R358): The arbiter starts the next ready descriptor of a direction, including a stream window now formed. -/
  | descriptorStart (h2d : Bool)
  /-- DESCRIPTOR_COMPLETE (R359): A descriptor completes; WB is written, DONE advances, a message may be requested and the next descriptor is taken. -/
  | descriptorComplete (k : DrvNo) (data : List Byte)
  /-- RESCAN_READ (R360): A rescan read of the last descriptor completes and the chain continues or ends. -/
  | rescanRead (k : DrvNo) (bytes : List Byte)
  /-- BUS_ERROR (R363): A failed Drover read halts every active channel with cause 4 and sets BUS_ERR. -/
  | busError (addr : Nat) (e : ReadFail)
  /-- BLOCK_TEST (R374): Once the last host byte of an inbound block has been read, the block is tested against its trailer and passes or fails. -/
  | blockTest (u : CkNo) (trailer : List Byte)
  /-- CK_BIND_WRITE (R370): A write of CK_BIND binds a check unit to a channel, or is discarded while the channel runs. -/
  | ckBindWrite (rq : Req) (u : CkNo) (be : Fin 16) (v : Word)
  /-- CK_RUN_WRITE (R375): A write of CK_RUN restores a running register and sets IN_BLOCK. -/
  | ckRunWrite (rq : Req) (u : CkNo) (be : Fin 16) (v : Word)
  /-- ABANDON (R375): CK_STATUS.ABANDON closes an open block without a trailer. -/
  | abandon (rq : Req) (u : CkNo)
  /-- SV_FRAME_START (R390): SV_CS_N falls; a frame begins with the status word, or is ignored with BUSY during a commit. -/
  | svFrameStart (cpol : Bool)
  /-- SV_READ (R384): A supervisor READ reads its words while they are shifted, or shifts zeros. -/
  | svRead (f : SvFrame)
  /-- SV_WRITE (R385): An accepted supervisor WRITE commits its words back to back as supervisor accesses. -/
  | svWrite (f : SvFrame)
  /-- FEED (R391): A supervisor FEED writes GRP_FEED of each group in its mask. -/
  | feed (f : SvFrame)
  /-- GROUP (R392): A supervisor GROUP writes RELEASE, UNFORCE, FORCE_SAFE and ACK of each group in its mask. -/
  | group (f : SvFrame)
  /-- KEEP_ENTER (R393): A KEEP with ENTER 1 enters keeper mode, empties the Fold, disables reflexes and shuts host writes out. -/
  | keepEnter (f : SvFrame)
  /-- KEEP_EXIT (R395): A KEEP with ENTER 0 ends keeper mode and gives the outputs back to the host. -/
  | keepExit (f : SvFrame)
  /-- OUTPUT (R394): In keeper mode an OUTPUT frame writes OUT_CMD.ON of each masked channel. -/
  | output (f : SvFrame)
  /-- SV_DAC (R394): In keeper mode a DAC frame writes AN_DAC.CODE of each named channel. -/
  | svDac (f : SvFrame)
  /-- HANDBACK_REQUEST (R395): A host write of SV_HANDBACK.REQ sets HOST_REQ and its cause. -/
  | handbackRequest (rq : Req) (be : Fin 16) (v : Word)
  /-- BOOT_SEQUENCE (R401): After the power-on reset the boot sequencer reads and verifies flash copy 0, then copy 1, and starts the first that passes. -/
  | bootSequence (flash : Bool) (copy0 copy1 : List Byte)
  /-- VERIFY (R400): A write of FW_CTRL.VERIFY starts hardware verification of the slot that is not running. -/
  | verify (rq : Req) (be : Fin 16) (v : Word)
  /-- VERIFY_DONE (R400): A verification ends, passing and staging the image or failing with its code, and sets VERIFIED. -/
  | verifyDone
  /-- ACTIVATE (R402): A write of FW_CTRL.ACTIVATE with STAGED 1 starts the staged image or begins a hitless update. -/
  | activate (rq : Req) (be : Fin 16) (v : Word)
  /-- HANDOVER (R404): The old firmware writes its handover record; the controller is reset and started at RESUME of the new image. -/
  | handover
  /-- HANDOVER_TIMEOUT (R405): 6 s after ACTIVATE without a handover, the controller switches regardless and starts the new image cold. -/
  | handoverTimeout
  /-- FW_RESTART (R407): A write of FW_CTRL.RESTART restarts the running slot. -/
  | fwRestart (rq : Req) (be : Fin 16) (v : Word)
  /-- FW_STOP (R407): A write of FW_CTRL.STOP holds the controller in reset and STATE becomes STOPPED. -/
  | fwStop (rq : Req) (be : Fin 16) (v : Word)
  /-- FW_KICK (R407): A controller write of FW_KICK with the key restarts its watchdog and makes a starting image RUNNING. -/
  | fwKick (rq : Req) (be : Fin 16) (v : Word)
  /-- FW_WATCHDOG_EXPIRY (R407): The controller watchdog expires and the controller restarts with FAIL 5. -/
  | fwWatchdogExpiry (flash : Bool) (copy0 copy1 : List Byte)
  /-- RAM_UNCORRECTABLE (R407): An uncorrectable error in the controller RAM restarts the controller with FAIL 6. -/
  | ramUncorrectable (addr : Nat) (flash : Bool) (copy0 copy1 : List Byte)
  /-- START_TIMEOUT (R403): An image has not kicked within 100 ms of its start and the start fails with FAIL 7. -/
  | startTimeout (flash : Bool) (copy0 copy1 : List Byte)
  /-- RAM_DATA_ACCESS (R398): An access of FW_RAM_DATA reads or writes the RAM word at ADDR and advances ADDR. -/
  | ramDataAccess (rq : Req) (wr : Option (Fin 16 × Word))
  /-- TEMP_UPDATE (R411): Every 100 us the hub temperatures update and TEMP_WARN or TEMP_CRIT may change. -/
  | tempUpdate (t0 t1 t2 t3 : Int)
  /-- RAIL_UPDATE (R412): Every 10 us the hub rails are read and a rail bit may set or clear. -/
  | railUpdate (rail : Fin 5) (mv : Nat)
  /-- PROCESS_UPDATE (R413): Every 100 us the process monitors give their slack and the hub slack. -/
  | processUpdate (count : List Nat)
  /-- VID_RAISE_FW (R424): The hub slack has stayed below SLACK_UP for 1 s and the firmware raises REQ by 1. -/
  | vidRaiseFw
  /-- VID_RAISE_HW (R424): The hub slack has stayed below SLACK_HARD for 10 us and the hardware raises REQ by 1. -/
  | vidRaiseHw
  /-- VID_APPLY (R424): A raise held by the 1 ms spacing is applied to NOW, or meets CEIL and sets AT_CEILING. -/
  | vidApply
  /-- VID_REQ_WRITE (R423): A write of HK_VID.REQ changes the requested code, or is discarded if firmware lowers it. -/
  | vidReqWrite (rq : Req) (be : Fin 16) (v : Word)
  /-- SEQUENCE_A (R415): A tick of the housekeeping timer starts sequence A, or is ignored as an overrun. -/
  | sequenceA (g : Grp)
  /-- SEQUENCE_B (R415): A change of GRP_HK_SEQ_B.TOKEN starts sequence B, or is ignored as an overrun. -/
  | sequenceB (g : Grp)
  /-- URGENT_CONVERSION (R417): A change of GRP_HK_URGENT.TOKEN requests one conversion, made at once or dropped. -/
  | urgentConversion (g : Grp)
  /-- CONVERSION_DONE (R418): A housekeeping conversion ends; its code moves its slot's window and an exit is recorded. -/
  | conversionDone (g : Grp) (code : Nat)
  /-- RES_MEASUREMENT (R420): A drop and current pair is accepted, normalised and folded into RNOW. -/
  | resMeasurement (c : Ch) (uv ma : Nat) (tj dt : Int) (steady : Bool)
  /-- HOURS_TICK (R419): Each second one second is added to each present die's temperature bin. -/
  | hoursTick
  /-- HOURS_WRITE (R419): A write of HK_HOURS sets a bin and clears the seconds held. -/
  | hoursWrite (rq : Req) (d : Fin 5) (b : Fin 4) (be : Fin 16) (v : Word)
  /-- DRIFT_UPDATE (R419): Every 10 s the process drift of each die is computed. -/
  | driftUpdate (hub : List Nat) (grp : List Nat)
  /-- EYE_SWEEP (R419): Every 10 s the monitor slicer measures the eye margin of each link direction. -/
  | eyeSweep (g : Grp) (up down : Nat)
  /-- BASELINE_WRITE (R422): A first-life baseline item is written whole into the one-time store and REPLAN kind 7 is raised. -/
  | baselineWrite (item : Nat) (value : Nat)
  /-- REDUCE_WRITE (R426): A write of GRP_AGE_DERATE changes a channel's REDUCE and derates its fuse model, or is discarded if firmware lowers it. -/
  | reduceWrite (rq : Req) (g : Grp) (hi : Bool) (be : Fin 16) (v : Word)
  /-- RETUNE (R427): A write of GRP_AGE_EYE.RETUNE on a present group starts a link retune. -/
  | retune (rq : Req) (g : Grp) (be : Fin 16) (v : Word)
  /-- RETUNE_DONE (R427): A retune ends with the best settings kept and raises REPLAN kind 5 or 6. -/
  | retuneDone (g : Grp) (up down : List Nat) (eq emph : Nat)
  /-- LEDGER_WRITE (R434): The Ledger queue writes its next record into the next free hub slot. -/
  | ledgerWrite
  /-- LEDGER_POST (R436): A write of LDG_FW_POST posts a record of class at most 2, or is discarded for a code outside its range. -/
  | ledgerPost (rq : Req) (be : Fin 16) (v : Word)
  /-- UNFREEZE (R439): A write of LDG_CTRL.UNFREEZE writes record 0x0F and ends the freeze. -/
  | unfreeze (rq : Req) (be : Fin 16) (v : Word)
  /-- FAULT_ACK (R443): A write of LDG_CTRL.FAULT_ACK releases FAULT_N unless a stuck-on latch remains. -/
  | faultAck (rq : Req) (be : Fin 16) (v : Word)
  /-- HOURLY_COMMIT (R437): An hour with an uncommitted record passes and the group die commits its store. -/
  | hourlyCommit (g : Grp)
  /-- LOCAL_COMMIT_END (R437): A local commit completes within 600 us. -/
  | localCommitEnd (g : Grp)
  /-- VAUX_APPLIED (R454): VAUX rises after a loss; the Ledger, accumulators and identity cache are cleared. -/
  | vauxApplied
  /-- VAUX_LOST (R452): VAUX falls below 2.70 V; the retention domain is lost and FAULT_N is held low. -/
  | vauxLost
  /-- HUB_POWER_ON_RESET (R453): VDD_CORE or VDD_IO falls below its threshold and the power-on reset of the hub die holds. -/
  | hubPowerOnReset (core : Bool)
  /-- POWER_ON_RESET_END (R453): 1 ms after both rails rise, the power-on reset ends and the hub die reads its store and starts its PLL. -/
  | powerOnResetEnd
  /-- CCLK_LOCK (R453): The CCLK PLL locks; machine time and the down-links start, record 0x01 is written and register access is served. -/
  | cclkLock
  /-- PHY_RAIL_LOW (R455): VDD_PHY or VDD_PHYH falls below its threshold and the endpoint is held in reset. -/
  | phyRailLow
  /-- VDD_IO_FALL (R458): VDD_IO falls below its threshold; a hub die reset with record 0x04 precedes the power-on reset. -/
  | vddIoFall
  /-- BOUNDARY_SCAN_RESET (R458): A TAP instruction that takes the pins holds the hub die in reset. -/
  | boundaryScanReset (take : Bool)
  /-- GROUP_DIE_POR (R461): LPx returns and the group die makes its power-on reset with every channel disabled and its store restored. -/
  | groupDiePor (g : Grp)
  /-- MCLK_LOCK (R21): A group die locks MCLKx to the down-link again, so its modulators, machine-time copy and timestamps resume and its GCLKx intervals are trimmed to +-0.1 %. -/
  | mclkLock (g : Grp)
  /-- PLL_LOCK_LOSS (R494): The PLL loses lock on an XIN gap, CCLK is gated off, the hub die freezes and the down-links stop sending. -/
  | pllLockLoss
  /-- XIN_RETURN (R458): XIN returns after a loss and the PLL relocks, starting the 1.0 ms until the hub die reset ends. -/
  | xinReturn
  /-- HUB_RAIL_RISE (R453): VDD_CORE and VDD_IO rise above their thresholds; VID is driven to code 2 and the 1.0 ms to the end of the power-on reset begins. -/
  | hubRailRise
  /-- PHY_RAIL_RISE (R455): VDD_PHY and VDD_PHYH rise above their thresholds and the endpoint leaves reset to begin link training within 1 ms. -/
  | phyRailRise
  /-- PERST_N_RELEASE (R455): PERST_N is deasserted, ending the lasting reset of R342 and letting the endpoint begin link training. -/
  | perstNRelease
  /-- HOLDUP_END (R301): LPx rises more than 0.6 V above HOLDx, the die takes its supply from LPx again and HOLDUP clears. -/
  | holdupEnd (g : Grp) (lp : Int) (hold : Nat)
  /-- REVERSE_CLEAR (R298): LPx rises above 0 V after a reversal, and the reverse condition and GRP_SUP_STATUS.REVERSE clear. -/
  | reverseClear (g : Grp) (lp : Int) (hold : Nat)
  /-- SV_FRAME_REJECTED (R383): At the rise of SV_CS_N, a frame with a reserved opcode, a wrong bit count or a failed CRC is judged, flagged in the next status word and counted, and changes nothing else. -/
  | svFrameRejected (f : SvFrame)
  /-- BASELINE_RUN_START (R422): 100 ms after CCLK locks, or after a VID change that abandoned a run, the first-life baseline run of the hub monitors begins and BASELINE_RUN sets. -/
  | baselineRunStart
deriving DecidableEq, Repr

end Sys2Proof
end

