-- ==== Sys2Proof/Config.lean ====
section
/-! DEFINITION. What an implementation of the spec fixes and the spec does not state: constants with no body, so that
nothing can be proved of their values. -/

namespace Sys2Proof

/-- A fresh value the spec leaves open, by the number of open values taken before it (log entry 8). -/
opaque Config.freeValue : Nat → Nat
/-- Whether a value that the spec does not say how to round is rounded up, by the place where it arises and the exact
number (log entry 9). -/
opaque Config.roundUp : Nat → Rat → Bool
/-- By how much GCLKx of a die is off in 4 ns, in 2^-32 ns, by the die and the instant of the model's clock; it acts within the
tolerance of R22 (log entry 169). -/
opaque Config.gclkDrift : Nat → Nat → Int
/-- The factory-trimmed delay of a channel, direction (1 on, 0 off) and slew mode, in ns, in the one-time store (R125). -/
opaque Config.factoryTrim : Nat → Nat → Nat → Nat
/-- Bytes 2 to 11 of the identity record of a die or coupler: the hub die (0), couplers (1 to 4) (R33, R34). -/
opaque Config.identBytes : Nat → Nat → Nat
/-- STEPPING of a barrier coupler (R33). -/
opaque Config.couplerStepping : Nat → Nat
/-- Coefficients 0 to 46 of the factory set, as 18-bit codes; the set is symmetric, and its coefficient 47 makes its DC gain 1 (R199).
The passband and stopband that the spec states are not imposed on the free taps (log entry 160). -/
opaque Config.factoryCoef : Nat → Nat
/-- Taps 0 to 20 of the half-band stage, times 2^30; the filter is symmetric, and its middle tap makes its DC gain 1 (R196, log entry
160). -/
opaque Config.halfBandTap : Nat → Int
/-- The prototype low-pass of the resampler: phase 0 to 63, tap 0 to 15, times 2^30, but tap 8 of phase 32, which makes its DC gain 1
(R207, log entry 160). -/
opaque Config.protoTap : Nat → Nat → Int
/-- The two public keys of the one-time store, by their index: the coordinates of a point of P-256 (R400, log entry 15). -/
opaque Config.fwKey : Nat → Nat × Nat
/-- The frequency in Hz at which the path beside hub monitor m just meets the period of CCLK, from the one-time store (R413). -/
opaque Config.critFreq : Nat → Nat
/-- The factor that brings the frequency of a monitor (0 to 7 the hub die's, 8 + 2g + k those of group g) at a temperature in 1/16 degree
and a VID code to 25 degrees and code 2, by the coefficients of the one-time store (R419, R422, log entry 192). -/
opaque Config.freqScale : Nat → Int → Nat → Rat
/-- Where in the data region the handover record of a format lies, and its length (R404, log entry 190). -/
opaque Config.handoverSpan : Nat → Nat × Nat
end Sys2Proof
end

