-- ==== Sys2Proof/Machine/Fields.lean ====
section
/-! DEFINITION. The units of the register space (Tables 2.3 and 24.1), the key of a register field, and one name
for every field of every register table of the spec, with its place, its width and its reset value. The names are
the manual's REGISTER_FIELD. -/

namespace Sys2Proof.Machine

/-- A unit of the register space, or one of the repeated register blocks inside a unit (Tables 2.3, 15.18, 16.13,
17.7, 17.8, 10.17, 20.12, 20.13). -/
inductive U where
  | root | tb | hl | ring (r : Fin 8) | drv | drvCh (k : Fin 24) | ck | ckE (u : Fin 2) | ckU (u : Fin 8) | sv
  | fold | rfx | rule (r : Fin 64) | hk | hours (d : Fin 5) | age (c : Fin 32) | ldg | fw | bank
  | chain (s : Fin 64) | grp (g : Fin 4) | ch (c : Fin 32)
deriving DecidableEq, Repr

/-- The key of a register field: its unit, the byte offset of its word, its lowest bit, its width and its reset value.
Two fields of the spec never share unit, offset and lowest bit. -/
structure Fld where
  unit : U
  off : Nat
  lo : Nat
  w : Nat
  dflt : Nat
deriving DecidableEq, Repr

/-- ROOT_GOV_CEILING.CEILING (Table 1.10). -/
abbrev F.ROOT_GOV_CEILING : Fld := ⟨.root, 0x40, 0, 14, 8630⟩
/-- ROOT_GOV_VDECL.VDECL_D (Table 1.11). -/
abbrev F.ROOT_GOV_VDECL_VDECL_D : Fld := ⟨.root, 0x44, 24, 8, 150⟩
/-- ROOT_GOV_VDECL.VDECL_C (Table 1.11). -/
abbrev F.ROOT_GOV_VDECL_VDECL_C : Fld := ⟨.root, 0x44, 16, 8, 150⟩
/-- ROOT_GOV_VDECL.VDECL_B (Table 1.11). -/
abbrev F.ROOT_GOV_VDECL_VDECL_B : Fld := ⟨.root, 0x44, 8, 8, 150⟩
/-- ROOT_GOV_VDECL.VDECL_A (Table 1.11). -/
abbrev F.ROOT_GOV_VDECL_VDECL_A : Fld := ⟨.root, 0x44, 0, 8, 150⟩
/-- ROOT_GOV_MODEL.MODEL (Table 1.12). -/
abbrev F.ROOT_GOV_MODEL : Fld := ⟨.root, 0x48, 0, 14, 3300⟩
/-- ROOT_GOV_STATUS.REFUSED_TALLY (Table 1.13). -/
abbrev F.ROOT_GOV_STATUS_REFUSED_TALLY : Fld := ⟨.root, 0x4c, 16, 16, 0⟩
/-- ROOT_GOV_STATUS.LAST_CHANNEL (Table 1.13). -/
abbrev F.ROOT_GOV_STATUS_LAST_CHANNEL : Fld := ⟨.root, 0x4c, 8, 5, 0⟩
/-- ROOT_GOV_STATUS.REFUSED (Table 1.13). -/
abbrev F.ROOT_GOV_STATUS_REFUSED : Fld := ⟨.root, 0x4c, 1, 1, 0⟩
/-- ROOT_GOV_STATUS.OVER (Table 1.13). -/
abbrev F.ROOT_GOV_STATUS_OVER : Fld := ⟨.root, 0x4c, 0, 1, 0⟩
/-- ROOT_ACCESS_TALLY_A.UNMAPPED (Table 2.10). -/
abbrev F.ROOT_ACCESS_TALLY_A_UNMAPPED : Fld := ⟨.root, 0x64, 16, 16, 0⟩
/-- ROOT_ACCESS_TALLY_A.LOCKED (Table 2.10). -/
abbrev F.ROOT_ACCESS_TALLY_A_LOCKED : Fld := ⟨.root, 0x64, 0, 16, 0⟩
/-- ROOT_ACCESS_TALLY_B.HO_DISCARD (Table 2.11). -/
abbrev F.ROOT_ACCESS_TALLY_B_HO_DISCARD : Fld := ⟨.root, 0x68, 16, 16, 0⟩
/-- ROOT_ACCESS_TALLY_B.CROSS_BLOCKED (Table 2.11). -/
abbrev F.ROOT_ACCESS_TALLY_B_CROSS_BLOCKED : Fld := ⟨.root, 0x68, 0, 16, 0⟩
/-- ROOT_RESET.KEY (Table 22.5). -/
abbrev F.ROOT_RESET_KEY : Fld := ⟨.root, 0x24, 16, 16, 0⟩
/-- ROOT_RESET.HUB (Table 22.5). -/
abbrev F.ROOT_RESET_HUB : Fld := ⟨.root, 0x24, 1, 1, 0⟩
/-- ROOT_RESET.SOFT (Table 22.5). -/
abbrev F.ROOT_RESET_SOFT : Fld := ⟨.root, 0x24, 0, 1, 0⟩
/-- ROOT_RESET_STATUS.CAUSE (Table 22.6). -/
abbrev F.ROOT_RESET_STATUS_CAUSE : Fld := ⟨.root, 0x28, 28, 4, 0⟩
/-- ROOT_RESET_STATUS.HUB_RESETS (Table 22.6). -/
abbrev F.ROOT_RESET_STATUS_HUB_RESETS : Fld := ⟨.root, 0x28, 16, 8, 0⟩
/-- ROOT_RESET_STATUS.SOFT_RESETS (Table 22.6). -/
abbrev F.ROOT_RESET_STATUS_SOFT_RESETS : Fld := ⟨.root, 0x28, 8, 8, 0⟩
/-- ROOT_RESET_STATUS.BOOT_DONE (Table 22.6). -/
abbrev F.ROOT_RESET_STATUS_BOOT_DONE : Fld := ⟨.root, 0x28, 2, 1, 0⟩
/-- ROOT_RESET_STATUS.CCLK_LOCK (Table 22.6). -/
abbrev F.ROOT_RESET_STATUS_CCLK_LOCK : Fld := ⟨.root, 0x28, 1, 1, 0⟩
/-- ROOT_RESET_STATUS.BASELINE_RUN (Table 22.6). -/
abbrev F.ROOT_RESET_STATUS_BASELINE_RUN : Fld := ⟨.root, 0x28, 0, 1, 0⟩
/-- ROOT_FRESH_PCIE.STALE (Table 2.5). -/
abbrev F.ROOT_FRESH_PCIE_STALE : Fld := ⟨.root, 0x50, 31, 1, 1⟩
/-- ROOT_FRESH_PCIE.AGE (Table 2.5). -/
abbrev F.ROOT_FRESH_PCIE_AGE : Fld := ⟨.root, 0x50, 16, 15, 32767⟩
/-- ROOT_FRESH_PCIE.FRESH (Table 2.5). -/
abbrev F.ROOT_FRESH_PCIE_FRESH : Fld := ⟨.root, 0x50, 0, 16, 0⟩
/-- ROOT_FRESH_A.STALE (Table 2.5). -/
abbrev F.ROOT_FRESH_A_STALE : Fld := ⟨.root, 0x54, 31, 1, 1⟩
/-- ROOT_FRESH_A.AGE (Table 2.5). -/
abbrev F.ROOT_FRESH_A_AGE : Fld := ⟨.root, 0x54, 16, 15, 32767⟩
/-- ROOT_FRESH_A.FRESH (Table 2.5). -/
abbrev F.ROOT_FRESH_A_FRESH : Fld := ⟨.root, 0x54, 0, 16, 0⟩
/-- ROOT_FRESH_B.STALE (Table 2.5). -/
abbrev F.ROOT_FRESH_B_STALE : Fld := ⟨.root, 0x58, 31, 1, 1⟩
/-- ROOT_FRESH_B.AGE (Table 2.5). -/
abbrev F.ROOT_FRESH_B_AGE : Fld := ⟨.root, 0x58, 16, 15, 32767⟩
/-- ROOT_FRESH_B.FRESH (Table 2.5). -/
abbrev F.ROOT_FRESH_B_FRESH : Fld := ⟨.root, 0x58, 0, 16, 0⟩
/-- ROOT_FRESH_C.STALE (Table 2.5). -/
abbrev F.ROOT_FRESH_C_STALE : Fld := ⟨.root, 0x5c, 31, 1, 1⟩
/-- ROOT_FRESH_C.AGE (Table 2.5). -/
abbrev F.ROOT_FRESH_C_AGE : Fld := ⟨.root, 0x5c, 16, 15, 32767⟩
/-- ROOT_FRESH_C.FRESH (Table 2.5). -/
abbrev F.ROOT_FRESH_C_FRESH : Fld := ⟨.root, 0x5c, 0, 16, 0⟩
/-- ROOT_FRESH_D.STALE (Table 2.5). -/
abbrev F.ROOT_FRESH_D_STALE : Fld := ⟨.root, 0x60, 31, 1, 1⟩
/-- ROOT_FRESH_D.AGE (Table 2.5). -/
abbrev F.ROOT_FRESH_D_AGE : Fld := ⟨.root, 0x60, 16, 15, 32767⟩
/-- ROOT_FRESH_D.FRESH (Table 2.5). -/
abbrev F.ROOT_FRESH_D_FRESH : Fld := ⟨.root, 0x60, 0, 16, 0⟩
/-- TB_CTRL.STEP_MODE (Table 11.6). -/
abbrev F.TB_CTRL_STEP_MODE : Fld := ⟨.tb, 0x20, 8, 1, 0⟩
/-- TB_CTRL.LOAD_ARM (Table 11.6). -/
abbrev F.TB_CTRL_LOAD_ARM : Fld := ⟨.tb, 0x20, 7, 1, 0⟩
/-- TB_CTRL.SO_POL (Table 11.6). -/
abbrev F.TB_CTRL_SO_POL : Fld := ⟨.tb, 0x20, 4, 1, 0⟩
/-- TB_CTRL.SO_EN (Table 11.6). -/
abbrev F.TB_CTRL_SO_EN : Fld := ⟨.tb, 0x20, 3, 1, 0⟩
/-- TB_CTRL.SI_EDGE (Table 11.6). -/
abbrev F.TB_CTRL_SI_EDGE : Fld := ⟨.tb, 0x20, 0, 2, 0⟩
/-- TB_STATUS.STEPS (Table 11.10). -/
abbrev F.TB_STATUS_STEPS : Fld := ⟨.tb, 0x64, 16, 16, 0⟩
/-- TB_STATUS.SI_OVERRUN (Table 11.10). -/
abbrev F.TB_STATUS_SI_OVERRUN : Fld := ⟨.tb, 0x64, 8, 8, 0⟩
/-- TB_STATUS.ALIGNED (Table 11.10). -/
abbrev F.TB_STATUS_ALIGNED : Fld := ⟨.tb, 0x64, 4, 4, 15⟩
/-- TB_STATUS.EPOCH (Table 11.10). -/
abbrev F.TB_STATUS_EPOCH : Fld := ⟨.tb, 0x64, 3, 1, 0⟩
/-- TB_STATUS.STEP_PENDING (Table 11.10). -/
abbrev F.TB_STATUS_STEP_PENDING : Fld := ⟨.tb, 0x64, 2, 1, 0⟩
/-- TB_STATUS.SLEWING (Table 11.10). -/
abbrev F.TB_STATUS_SLEWING : Fld := ⟨.tb, 0x64, 1, 1, 0⟩
/-- TB_STEP_AT_LO.STEP_AT (Table 11.11). -/
abbrev F.TB_STEP_AT_LO : Fld := ⟨.tb, 0x68, 0, 32, 0⟩
/-- TB_STEP_AT_HI.STEP_AT (Table 11.11). -/
abbrev F.TB_STEP_AT_HI : Fld := ⟨.tb, 0x6c, 0, 32, 0⟩
/-- TB_TIME_LO.TIME (Table 11.7). -/
abbrev F.TB_TIME_LO : Fld := ⟨.tb, 0x24, 0, 32, 0⟩
/-- TB_TIME_HI.TIME (Table 11.7). -/
abbrev F.TB_TIME_HI : Fld := ⟨.tb, 0x28, 0, 32, 0⟩
/-- TB_RATE.RATE (Table 11.7). -/
abbrev F.TB_RATE : Fld := ⟨.tb, 0x2c, 0, 32, 0⟩
/-- TB_STEP_LO.STEP (Table 11.7). -/
abbrev F.TB_STEP_LO : Fld := ⟨.tb, 0x30, 0, 32, 0⟩
/-- TB_STEP_HI.STEP (Table 11.7). -/
abbrev F.TB_STEP_HI : Fld := ⟨.tb, 0x34, 0, 32, 0⟩
/-- TB_SLEW.AMOUNT (Table 11.7). -/
abbrev F.TB_SLEW : Fld := ⟨.tb, 0x38, 0, 32, 0⟩
/-- TB_SLEW_RATE.RATE (Table 11.7). -/
abbrev F.TB_SLEW_RATE : Fld := ⟨.tb, 0x3c, 0, 23, 429497⟩
/-- TB_LOAD_LO.LOAD (Table 11.8). -/
abbrev F.TB_LOAD_LO : Fld := ⟨.tb, 0x40, 0, 32, 0⟩
/-- TB_LOAD_HI.LOAD (Table 11.8). -/
abbrev F.TB_LOAD_HI : Fld := ⟨.tb, 0x44, 0, 32, 0⟩
/-- TB_SI_LO.CAPTURE (Table 11.8). -/
abbrev F.TB_SI_LO : Fld := ⟨.tb, 0x48, 0, 32, 0⟩
/-- TB_SI_HI.CAPTURE (Table 11.8). -/
abbrev F.TB_SI_HI : Fld := ⟨.tb, 0x4c, 0, 32, 0⟩
/-- TB_SI_STATUS.COUNT (Table 11.8). -/
abbrev F.TB_SI_STATUS_COUNT : Fld := ⟨.tb, 0x50, 16, 16, 0⟩
/-- TB_SI_STATUS.DIR (Table 11.8). -/
abbrev F.TB_SI_STATUS_DIR : Fld := ⟨.tb, 0x50, 0, 1, 0⟩
/-- TB_SO_START_LO.START (Table 11.9). -/
abbrev F.TB_SO_START_LO : Fld := ⟨.tb, 0x54, 0, 32, 0⟩
/-- TB_SO_START_HI.START (Table 11.9). -/
abbrev F.TB_SO_START_HI : Fld := ⟨.tb, 0x58, 0, 32, 0⟩
/-- TB_SO_PERIOD.PERIOD (Table 11.9). -/
abbrev F.TB_SO_PERIOD : Fld := ⟨.tb, 0x5c, 0, 32, 1000000⟩
/-- TB_SO_WIDTH.WIDTH (Table 11.9). -/
abbrev F.TB_SO_WIDTH : Fld := ⟨.tb, 0x60, 0, 16, 250⟩
/-- HL_LINK_STATUS.FUNC_MASK (Table 15.14). -/
abbrev F.HL_LINK_STATUS_FUNC_MASK : Fld := ⟨.hl, 0x20, 20, 1, 0⟩
/-- HL_LINK_STATUS.MSIX_EN (Table 15.14). -/
abbrev F.HL_LINK_STATUS_MSIX_EN : Fld := ⟨.hl, 0x20, 19, 1, 0⟩
/-- HL_LINK_STATUS.BME (Table 15.14). -/
abbrev F.HL_LINK_STATUS_BME : Fld := ⟨.hl, 0x20, 18, 1, 0⟩
/-- HL_LINK_STATUS.MSE (Table 15.14). -/
abbrev F.HL_LINK_STATUS_MSE : Fld := ⟨.hl, 0x20, 17, 1, 0⟩
/-- HL_LINK_STATUS.DL_UP (Table 15.14). -/
abbrev F.HL_LINK_STATUS_DL_UP : Fld := ⟨.hl, 0x20, 16, 1, 0⟩
/-- HL_LINK_STATUS.DSTATE (Table 15.14). -/
abbrev F.HL_LINK_STATUS_DSTATE : Fld := ⟨.hl, 0x20, 12, 2, 0⟩
/-- HL_LINK_STATUS.WIDTH (Table 15.14). -/
abbrev F.HL_LINK_STATUS_WIDTH : Fld := ⟨.hl, 0x20, 4, 6, 0⟩
/-- HL_LINK_STATUS.SPEED (Table 15.14). -/
abbrev F.HL_LINK_STATUS_SPEED : Fld := ⟨.hl, 0x20, 0, 4, 0⟩
/-- HL_ERR_TALLY_A.CORRECTABLE (Table 15.15). -/
abbrev F.HL_ERR_TALLY_A_CORRECTABLE : Fld := ⟨.hl, 0x24, 16, 16, 0⟩
/-- HL_ERR_TALLY_A.UNCORRECTABLE (Table 15.15). -/
abbrev F.HL_ERR_TALLY_A_UNCORRECTABLE : Fld := ⟨.hl, 0x24, 0, 16, 0⟩
/-- HL_ERR_TALLY_B.DOORBELL_BAD (Table 15.16). -/
abbrev F.HL_ERR_TALLY_B_DOORBELL_BAD : Fld := ⟨.hl, 0x28, 16, 16, 0⟩
/-- HL_ERR_TALLY_B.CHECK_FAIL (Table 15.16). -/
abbrev F.HL_ERR_TALLY_B_CHECK_FAIL : Fld := ⟨.hl, 0x28, 0, 16, 0⟩
/-- HL_CMD_STATUS.FENCE_WAIT (Table 15.17). -/
abbrev F.HL_CMD_STATUS_FENCE_WAIT : Fld := ⟨.hl, 0x2c, 7, 1, 0⟩
/-- HL_CMD_STATUS.OUTSTANDING (Table 15.17). -/
abbrev F.HL_CMD_STATUS_OUTSTANDING : Fld := ⟨.hl, 0x2c, 0, 6, 0⟩
/-- RING_BASE_LO.BASE (Table 15.18). -/
abbrev F.RING_BASE_LO (r : Fin 8) : Fld := ⟨.ring r, 0x0, 12, 20, 0⟩
/-- RING_BASE_HI.BASE (Table 15.18). -/
abbrev F.RING_BASE_HI (r : Fin 8) : Fld := ⟨.ring r, 0x4, 0, 32, 0⟩
/-- RING_CFG.LOG2 (Table 15.18). -/
abbrev F.RING_CFG_LOG2 (r : Fin 8) : Fld := ⟨.ring r, 0x8, 16, 5, 4⟩
/-- RING_CFG.PAYLOAD_ONLY (Table 15.18). -/
abbrev F.RING_CFG_PAYLOAD_ONLY (r : Fin 8) : Fld := ⟨.ring r, 0x8, 8, 1, 0⟩
/-- RING_CFG.RESUME (Table 15.18). -/
abbrev F.RING_CFG_RESUME (r : Fin 8) : Fld := ⟨.ring r, 0x8, 1, 1, 0⟩
/-- RING_CFG.ENABLE (Table 15.18). -/
abbrev F.RING_CFG_ENABLE (r : Fin 8) : Fld := ⟨.ring r, 0x8, 0, 1, 0⟩
/-- RING_SEQ.SEQ (Table 15.18). -/
abbrev F.RING_SEQ (r : Fin 8) : Fld := ⟨.ring r, 0xc, 0, 32, 0⟩
/-- RING_WB_LO.ADDR (Table 15.18). -/
abbrev F.RING_WB_LO (r : Fin 8) : Fld := ⟨.ring r, 0x10, 3, 29, 0⟩
/-- RING_WB_HI.ADDR (Table 15.18). -/
abbrev F.RING_WB_HI (r : Fin 8) : Fld := ⟨.ring r, 0x14, 0, 32, 0⟩
/-- RING_PROD.PROD (Table 15.18). -/
abbrev F.RING_PROD (r : Fin 8) : Fld := ⟨.ring r, 0x18, 0, 32, 0⟩
/-- RING_CONS.CONS (Table 15.18). -/
abbrev F.RING_CONS (r : Fin 8) : Fld := ⟨.ring r, 0x1c, 0, 32, 0⟩
/-- RING_IRQ.EN (Table 15.18). -/
abbrev F.RING_IRQ_EN (r : Fin 8) : Fld := ⟨.ring r, 0x20, 31, 1, 0⟩
/-- RING_IRQ.HOLDOFF (Table 15.18). -/
abbrev F.RING_IRQ_HOLDOFF (r : Fin 8) : Fld := ⟨.ring r, 0x20, 16, 8, 0⟩
/-- RING_IRQ.THRESH (Table 15.18). -/
abbrev F.RING_IRQ_THRESH (r : Fin 8) : Fld := ⟨.ring r, 0x20, 8, 8, 1⟩
/-- RING_IRQ.VECTOR (Table 15.18). -/
abbrev F.RING_IRQ_VECTOR (r : Fin 8) : Fld := ⟨.ring r, 0x20, 0, 6, 0⟩
/-- RING_STATUS.CAUSE (Table 15.18). -/
abbrev F.RING_STATUS_CAUSE (r : Fin 8) : Fld := ⟨.ring r, 0x24, 4, 2, 0⟩
/-- RING_STATUS.FULL (Table 15.18). -/
abbrev F.RING_STATUS_FULL (r : Fin 8) : Fld := ⟨.ring r, 0x24, 3, 1, 0⟩
/-- RING_STATUS.HALTED (Table 15.18). -/
abbrev F.RING_STATUS_HALTED (r : Fin 8) : Fld := ⟨.ring r, 0x24, 2, 1, 0⟩
/-- RING_STATUS.IDLE (Table 15.18). -/
abbrev F.RING_STATUS_IDLE (r : Fin 8) : Fld := ⟨.ring r, 0x24, 1, 1, 0⟩
/-- RING_STATUS.ENABLED (Table 15.18). -/
abbrev F.RING_STATUS_ENABLED (r : Fin 8) : Fld := ⟨.ring r, 0x24, 0, 1, 0⟩
/-- RING_TALLY.CHECK_FAIL (Table 15.18). -/
abbrev F.RING_TALLY_CHECK_FAIL (r : Fin 8) : Fld := ⟨.ring r, 0x28, 16, 16, 0⟩
/-- RING_TALLY.LOST (Table 15.18). -/
abbrev F.RING_TALLY_LOST (r : Fin 8) : Fld := ⟨.ring r, 0x28, 0, 16, 0⟩
/-- DRV_CTRL.RECOVER (Table 16.9). -/
abbrev F.DRV_CTRL_RECOVER : Fld := ⟨.drv, 0x20, 0, 1, 0⟩
/-- DRV_STATUS.FATAL (Table 16.10). -/
abbrev F.DRV_STATUS_FATAL : Fld := ⟨.drv, 0x24, 25, 1, 0⟩
/-- DRV_STATUS.BUS_ERR (Table 16.10). -/
abbrev F.DRV_STATUS_BUS_ERR : Fld := ⟨.drv, 0x24, 24, 1, 0⟩
/-- DRV_STATUS.RUNNING (Table 16.10). -/
abbrev F.DRV_STATUS_RUNNING : Fld := ⟨.drv, 0x24, 0, 24, 0⟩
/-- DRV_TALLY.BUS_ERRS (Table 16.12). -/
abbrev F.DRV_TALLY_BUS_ERRS : Fld := ⟨.drv, 0x30, 16, 16, 0⟩
/-- DRV_TALLY.FATAL_STOPS (Table 16.12). -/
abbrev F.DRV_TALLY_FATAL_STOPS : Fld := ⟨.drv, 0x30, 0, 16, 0⟩
/-- DRV_BUS_ERR_ADDR_LO.ADDR (Table 16.11). -/
abbrev F.DRV_BUS_ERR_ADDR_LO : Fld := ⟨.drv, 0x28, 0, 32, 0⟩
/-- DRV_BUS_ERR_ADDR_HI.ADDR (Table 16.11). -/
abbrev F.DRV_BUS_ERR_ADDR_HI : Fld := ⟨.drv, 0x2c, 0, 32, 0⟩
/-- DRV_CH_CFG.HDR (Table 16.13). -/
abbrev F.DRV_CH_CFG_HDR (k : Fin 24) : Fld := ⟨.drvCh k, 0x0, 31, 1, 0⟩
/-- DRV_CH_STREAMS_LO.STREAMS (Table 16.13). -/
abbrev F.DRV_CH_STREAMS_LO (k : Fin 24) : Fld := ⟨.drvCh k, 0x4, 0, 32, 0⟩
/-- DRV_CH_STREAMS_HI.STREAMS (Table 16.13). -/
abbrev F.DRV_CH_STREAMS_HI (k : Fin 24) : Fld := ⟨.drvCh k, 0x8, 0, 32, 0⟩
/-- DRV_CH_HEAD_LO.HEAD (Table 16.13). -/
abbrev F.DRV_CH_HEAD_LO (k : Fin 24) : Fld := ⟨.drvCh k, 0xc, 0, 32, 0⟩
/-- DRV_CH_HEAD_HI.HEAD (Table 16.13). -/
abbrev F.DRV_CH_HEAD_HI (k : Fin 24) : Fld := ⟨.drvCh k, 0x10, 0, 32, 0⟩
/-- DRV_CH_CUR_LO.CUR (Table 16.13). -/
abbrev F.DRV_CH_CUR_LO (k : Fin 24) : Fld := ⟨.drvCh k, 0x14, 0, 32, 0⟩
/-- DRV_CH_CUR_HI.CUR (Table 16.13). -/
abbrev F.DRV_CH_CUR_HI (k : Fin 24) : Fld := ⟨.drvCh k, 0x18, 0, 32, 0⟩
/-- DRV_CH_STATUS.PERIOD_MISMATCH (Table 16.13). -/
abbrev F.DRV_CH_STATUS_PERIOD_MISMATCH (k : Fin 24) : Fld := ⟨.drvCh k, 0x1c, 31, 1, 0⟩
/-- DRV_CH_STATUS.RESCAN (Table 16.13). -/
abbrev F.DRV_CH_STATUS_RESCAN (k : Fin 24) : Fld := ⟨.drvCh k, 0x1c, 30, 1, 0⟩
/-- DRV_CH_STATUS.WAIT_DATA (Table 16.13). -/
abbrev F.DRV_CH_STATUS_WAIT_DATA (k : Fin 24) : Fld := ⟨.drvCh k, 0x1c, 29, 1, 0⟩
/-- DRV_CH_STATUS.PREFETCHED (Table 16.13). -/
abbrev F.DRV_CH_STATUS_PREFETCHED (k : Fin 24) : Fld := ⟨.drvCh k, 0x1c, 28, 1, 0⟩
/-- DRV_CH_STATUS.CAUSE (Table 16.13). -/
abbrev F.DRV_CH_STATUS_CAUSE (k : Fin 24) : Fld := ⟨.drvCh k, 0x1c, 4, 3, 0⟩
/-- DRV_CH_STATUS.STATE (Table 16.13). -/
abbrev F.DRV_CH_STATUS_STATE (k : Fin 24) : Fld := ⟨.drvCh k, 0x1c, 0, 3, 0⟩
/-- DRV_CH_EVENT.DB_IGNORED (Table 16.13). -/
abbrev F.DRV_CH_EVENT_DB_IGNORED (k : Fin 24) : Fld := ⟨.drvCh k, 0x20, 5, 1, 0⟩
/-- DRV_CH_EVENT.OVERFLOW (Table 16.13). -/
abbrev F.DRV_CH_EVENT_OVERFLOW (k : Fin 24) : Fld := ⟨.drvCh k, 0x20, 4, 1, 0⟩
/-- DRV_CH_EVENT.HALTED (Table 16.13). -/
abbrev F.DRV_CH_EVENT_HALTED (k : Fin 24) : Fld := ⟨.drvCh k, 0x20, 3, 1, 0⟩
/-- DRV_CH_EVENT.STOPPED (Table 16.13). -/
abbrev F.DRV_CH_EVENT_STOPPED (k : Fin 24) : Fld := ⟨.drvCh k, 0x20, 2, 1, 0⟩
/-- DRV_CH_EVENT.ENDED (Table 16.13). -/
abbrev F.DRV_CH_EVENT_ENDED (k : Fin 24) : Fld := ⟨.drvCh k, 0x20, 1, 1, 0⟩
/-- DRV_CH_EVENT.DESC_DONE (Table 16.13). -/
abbrev F.DRV_CH_EVENT_DESC_DONE (k : Fin 24) : Fld := ⟨.drvCh k, 0x20, 0, 1, 0⟩
/-- DRV_CH_EVENT_EN.EN (Table 16.13). -/
abbrev F.DRV_CH_EVENT_EN (k : Fin 24) : Fld := ⟨.drvCh k, 0x24, 0, 6, 0⟩
/-- DRV_CH_IRQ.EN (Table 16.13). -/
abbrev F.DRV_CH_IRQ_EN (k : Fin 24) : Fld := ⟨.drvCh k, 0x28, 31, 1, 0⟩
/-- DRV_CH_IRQ.VECTOR (Table 16.13). -/
abbrev F.DRV_CH_IRQ_VECTOR (k : Fin 24) : Fld := ⟨.drvCh k, 0x28, 0, 6, 0⟩
/-- DRV_CH_DONE.DONE (Table 16.13). -/
abbrev F.DRV_CH_DONE (k : Fin 24) : Fld := ⟨.drvCh k, 0x2c, 0, 32, 0⟩
/-- DRV_CH_DROP.DROPPED (Table 16.13). -/
abbrev F.DRV_CH_DROP_DROPPED (k : Fin 24) : Fld := ⟨.drvCh k, 0x30, 16, 16, 0⟩
/-- DRV_CH_DROP.DISCARDED (Table 16.13). -/
abbrev F.DRV_CH_DROP_DISCARDED (k : Fin 24) : Fld := ⟨.drvCh k, 0x30, 0, 16, 0⟩
/-- DRV_CH_COUNTS.DEV_DISCARD (Table 16.13). -/
abbrev F.DRV_CH_COUNTS_DEV_DISCARD (k : Fin 24) : Fld := ⟨.drvCh k, 0x34, 16, 16, 0⟩
/-- DRV_CH_COUNTS.DB_IGNORED (Table 16.13). -/
abbrev F.DRV_CH_COUNTS_DB_IGNORED (k : Fin 24) : Fld := ⟨.drvCh k, 0x34, 8, 8, 0⟩
/-- DRV_CH_COUNTS.BUSY_WRITE (Table 16.13). -/
abbrev F.DRV_CH_COUNTS_BUSY_WRITE (k : Fin 24) : Fld := ⟨.drvCh k, 0x34, 0, 8, 0⟩
/-- DRV_CH_QUEUE.PEAK (Table 16.13). -/
abbrev F.DRV_CH_QUEUE_PEAK (k : Fin 24) : Fld := ⟨.drvCh k, 0x38, 16, 16, 0⟩
/-- DRV_CH_QUEUE.LEVEL (Table 16.13). -/
abbrev F.DRV_CH_QUEUE_LEVEL (k : Fin 24) : Fld := ⟨.drvCh k, 0x38, 0, 16, 0⟩
/-- DRV_CH_CTRL.CLEAR (Table 16.13). -/
abbrev F.DRV_CH_CTRL_CLEAR (k : Fin 24) : Fld := ⟨.drvCh k, 0x3c, 1, 1, 0⟩
/-- DRV_CH_CTRL.STOP (Table 16.13). -/
abbrev F.DRV_CH_CTRL_STOP (k : Fin 24) : Fld := ⟨.drvCh k, 0x3c, 0, 1, 0⟩
/-- CK_RUN01.RUN (Table 17.7). -/
abbrev F.CK_RUN01 (u : Fin 2) : Fld := ⟨.ckE u, 0x10, 0, 32, 0⟩
/-- CK_ENTRIES.ENTRIES (Table 17.7). -/
abbrev F.CK_ENTRIES (u : Fin 2) : Fld := ⟨.ckE u, 0x18, 0, 32, 0⟩
/-- CK_TALLY01.FAILED (Table 17.7). -/
abbrev F.CK_TALLY01_FAILED (u : Fin 2) : Fld := ⟨.ckE u, 0x1c, 16, 16, 0⟩
/-- CK_TALLY01.RECOVERED (Table 17.7). -/
abbrev F.CK_TALLY01_RECOVERED (u : Fin 2) : Fld := ⟨.ckE u, 0x1c, 0, 16, 0⟩
/-- CK_BIND.EN (Table 17.8). -/
abbrev F.CK_BIND_EN (u : Fin 8) : Fld := ⟨.ckU u, 0x0, 31, 1, 0⟩
/-- CK_BIND.HOLD (Table 17.8). -/
abbrev F.CK_BIND_HOLD (u : Fin 8) : Fld := ⟨.ckU u, 0x0, 30, 1, 0⟩
/-- CK_BIND.PAYLOAD_ONLY (Table 17.8). -/
abbrev F.CK_BIND_PAYLOAD_ONLY (u : Fin 8) : Fld := ⟨.ckU u, 0x0, 29, 1, 0⟩
/-- CK_BIND.ALG (Table 17.8). -/
abbrev F.CK_BIND_ALG (u : Fin 8) : Fld := ⟨.ckU u, 0x0, 24, 2, 0⟩
/-- CK_BIND.CHANNEL (Table 17.8). -/
abbrev F.CK_BIND_CHANNEL (u : Fin 8) : Fld := ⟨.ckU u, 0x0, 0, 5, 0⟩
/-- CK_SEQ.SEQ (Table 17.8). -/
abbrev F.CK_SEQ (u : Fin 8) : Fld := ⟨.ckU u, 0x4, 0, 32, 0⟩
/-- CK_TRAIL_LO.BASE (Table 17.8). -/
abbrev F.CK_TRAIL_LO_BASE (u : Fin 8) : Fld := ⟨.ckU u, 0x8, 12, 20, 0⟩
/-- CK_TRAIL_HI.BASE (Table 17.8). -/
abbrev F.CK_TRAIL_HI (u : Fin 8) : Fld := ⟨.ckU u, 0xc, 0, 32, 0⟩
/-- CK_TRAIL_LO.LOG2 (Table 17.8). -/
abbrev F.CK_TRAIL_LO_LOG2 (u : Fin 8) : Fld := ⟨.ckU u, 0x8, 0, 4, 0⟩
/-- CK_RUN.RUN (Table 17.8). -/
abbrev F.CK_RUN (u : Fin 8) : Fld := ⟨.ckU u, 0x10, 0, 32, 4294967295⟩
/-- CK_COUNT.COUNT (Table 17.8). -/
abbrev F.CK_COUNT (u : Fin 8) : Fld := ⟨.ckU u, 0x14, 0, 32, 0⟩
/-- CK_STATUS.IN_BLOCK (Table 17.8). -/
abbrev F.CK_STATUS_IN_BLOCK (u : Fin 8) : Fld := ⟨.ckU u, 0x18, 31, 1, 0⟩
/-- CK_STATUS.CARRIED (Table 17.8). -/
abbrev F.CK_STATUS_CARRIED (u : Fin 8) : Fld := ⟨.ckU u, 0x18, 30, 1, 0⟩
/-- CK_STATUS.REASON (Table 17.8). -/
abbrev F.CK_STATUS_REASON (u : Fin 8) : Fld := ⟨.ckU u, 0x18, 24, 4, 0⟩
/-- CK_STATUS.ABANDON (Table 17.8). -/
abbrev F.CK_STATUS_ABANDON (u : Fin 8) : Fld := ⟨.ckU u, 0x18, 0, 1, 0⟩
/-- CK_BLOCK_TALLY.BLOCKS (Table 17.8). -/
abbrev F.CK_BLOCK_TALLY_BLOCKS (u : Fin 8) : Fld := ⟨.ckU u, 0x1c, 16, 16, 0⟩
/-- CK_BLOCK_TALLY.FAILED (Table 17.8). -/
abbrev F.CK_BLOCK_TALLY_FAILED (u : Fin 8) : Fld := ⟨.ckU u, 0x1c, 8, 8, 0⟩
/-- CK_BLOCK_TALLY.BUSY_WRITE (Table 17.8). -/
abbrev F.CK_BLOCK_TALLY_BUSY_WRITE (u : Fin 8) : Fld := ⟨.ckU u, 0x1c, 0, 8, 0⟩
/-- SV_CFG.KEEPER_EN (Table 18.8). -/
abbrev F.SV_CFG_KEEPER_EN : Fld := ⟨.sv, 0x20, 31, 1, 0⟩
/-- SV_CFG.DUMMY_WR (Table 18.8). -/
abbrev F.SV_CFG_DUMMY_WR : Fld := ⟨.sv, 0x20, 16, 5, 0⟩
/-- SV_CFG.DUMMY_RD (Table 18.8). -/
abbrev F.SV_CFG_DUMMY_RD : Fld := ⟨.sv, 0x20, 8, 5, 4⟩
/-- SV_CFG.CPHA (Table 18.8). -/
abbrev F.SV_CFG_CPHA : Fld := ⟨.sv, 0x20, 0, 1, 0⟩
/-- SV_STATUS.STATUS (Table 18.9). -/
abbrev F.SV_STATUS : Fld := ⟨.sv, 0x24, 0, 32, 0⟩
/-- SV_LOCK.LOCK (Table 18.10). -/
abbrev F.SV_LOCK : Fld := ⟨.sv, 0x28, 0, 1, 0⟩
/-- SV_LAST.WORD (Table 18.13). -/
abbrev F.SV_LAST_WORD : Fld := ⟨.sv, 0x40, 16, 6, 0⟩
/-- SV_LAST.CODE (Table 18.13). -/
abbrev F.SV_LAST_CODE : Fld := ⟨.sv, 0x40, 8, 8, 0⟩
/-- SV_LAST.REASON (Table 18.13). -/
abbrev F.SV_LAST_REASON : Fld := ⟨.sv, 0x40, 0, 4, 0⟩
/-- SV_KEEP.ACTIVE (Table 18.11). -/
abbrev F.SV_KEEP_ACTIVE : Fld := ⟨.sv, 0x2c, 31, 1, 0⟩
/-- SV_KEEP.HOST_REQ (Table 18.11). -/
abbrev F.SV_KEEP_HOST_REQ : Fld := ⟨.sv, 0x2c, 30, 1, 0⟩
/-- SV_KEEP.ENTRIES (Table 18.11). -/
abbrev F.SV_KEEP_ENTRIES : Fld := ⟨.sv, 0x2c, 0, 16, 0⟩
/-- SV_HANDBACK.REQ (Table 18.11). -/
abbrev F.SV_HANDBACK_REQ : Fld := ⟨.sv, 0x30, 0, 1, 0⟩
/-- SV_TALLY_A.GOOD (Table 18.12). -/
abbrev F.SV_TALLY_A_GOOD : Fld := ⟨.sv, 0x34, 16, 16, 0⟩
/-- SV_TALLY_A.CRC_ERR (Table 18.12). -/
abbrev F.SV_TALLY_A_CRC_ERR : Fld := ⟨.sv, 0x34, 0, 16, 0⟩
/-- SV_TALLY_B.STALE (Table 18.12). -/
abbrev F.SV_TALLY_B_STALE : Fld := ⟨.sv, 0x38, 16, 16, 0⟩
/-- SV_TALLY_B.ABORTED (Table 18.12). -/
abbrev F.SV_TALLY_B_ABORTED : Fld := ⟨.sv, 0x38, 0, 16, 0⟩
/-- SV_TALLY_C.HOST_DISCARD (Table 18.12). -/
abbrev F.SV_TALLY_C_HOST_DISCARD : Fld := ⟨.sv, 0x3c, 16, 16, 0⟩
/-- SV_TALLY_C.BUSY (Table 18.12). -/
abbrev F.SV_TALLY_C_BUSY : Fld := ⟨.sv, 0x3c, 8, 8, 0⟩
/-- SV_TALLY_C.MALFORMED (Table 18.12). -/
abbrev F.SV_TALLY_C_MALFORMED : Fld := ⟨.sv, 0x3c, 0, 8, 0⟩
/-- FOLD_CTRL.LEAD (Table 5.11). -/
abbrev F.FOLD_CTRL_LEAD : Fld := ⟨.fold, 0x20, 24, 8, 50⟩
/-- FOLD_CTRL.LOW_WATER (Table 5.11). -/
abbrev F.FOLD_CTRL_LOW_WATER : Fld := ⟨.fold, 0x20, 16, 8, 48⟩
/-- FOLD_CTRL.LATE_POLICY (Table 5.11). -/
abbrev F.FOLD_CTRL_LATE_POLICY : Fld := ⟨.fold, 0x20, 2, 2, 1⟩
/-- FOLD_CTRL.ENABLE (Table 5.11). -/
abbrev F.FOLD_CTRL_ENABLE : Fld := ⟨.fold, 0x20, 0, 1, 0⟩
/-- FOLD_GRACE.GRACE (Table 5.12). -/
abbrev F.FOLD_GRACE : Fld := ⟨.fold, 0x24, 0, 16, 10⟩
/-- FOLD_STATUS.PEAK_OCC (Table 5.13). -/
abbrev F.FOLD_STATUS_PEAK_OCC : Fld := ⟨.fold, 0x28, 24, 8, 0⟩
/-- FOLD_STATUS.DUE (Table 5.13). -/
abbrev F.FOLD_STATUS_DUE : Fld := ⟨.fold, 0x28, 16, 8, 0⟩
/-- FOLD_STATUS.FULL_WAIT (Table 5.13). -/
abbrev F.FOLD_STATUS_FULL_WAIT : Fld := ⟨.fold, 0x28, 15, 1, 0⟩
/-- FOLD_STATUS.LOW (Table 5.13). -/
abbrev F.FOLD_STATUS_LOW : Fld := ⟨.fold, 0x28, 14, 1, 0⟩
/-- FOLD_STATUS.OCCUPANCY (Table 5.13). -/
abbrev F.FOLD_STATUS_OCCUPANCY : Fld := ⟨.fold, 0x28, 0, 8, 0⟩
/-- FOLD_CANCEL.MASK (Table 5.14). -/
abbrev F.FOLD_CANCEL : Fld := ⟨.fold, 0x2c, 0, 32, 0⟩
/-- FOLD_NEXT_LO.NEXT (Table 5.15). -/
abbrev F.FOLD_NEXT_LO : Fld := ⟨.fold, 0x30, 0, 32, 4294967295⟩
/-- FOLD_NEXT_HI.NEXT (Table 5.15). -/
abbrev F.FOLD_NEXT_HI : Fld := ⟨.fold, 0x34, 0, 32, 4294967295⟩
/-- FOLD_TALLY_A.LATE_EXEC (Table 5.16). -/
abbrev F.FOLD_TALLY_A_LATE_EXEC : Fld := ⟨.fold, 0x38, 16, 16, 0⟩
/-- FOLD_TALLY_A.LATE_DROP (Table 5.16). -/
abbrev F.FOLD_TALLY_A_LATE_DROP : Fld := ⟨.fold, 0x38, 0, 16, 0⟩
/-- FOLD_TALLY_B.CANCELLED (Table 5.16). -/
abbrev F.FOLD_TALLY_B_CANCELLED : Fld := ⟨.fold, 0x3c, 16, 16, 0⟩
/-- FOLD_TALLY_B.LINK_LATE (Table 5.16). -/
abbrev F.FOLD_TALLY_B_LINK_LATE : Fld := ⟨.fold, 0x3c, 0, 16, 0⟩
/-- FOLD_TALLY_C.QUEUE_WAITS (Table 5.16). -/
abbrev F.FOLD_TALLY_C_QUEUE_WAITS : Fld := ⟨.fold, 0x40, 24, 8, 0⟩
/-- FOLD_TALLY_C.REFUSED (Table 5.16). -/
abbrev F.FOLD_TALLY_C_REFUSED : Fld := ⟨.fold, 0x40, 16, 8, 0⟩
/-- FOLD_TALLY_C.FULL_WAITS (Table 5.16). -/
abbrev F.FOLD_TALLY_C_FULL_WAITS : Fld := ⟨.fold, 0x40, 8, 8, 0⟩
/-- FOLD_TALLY_C.ORDER_ADJ (Table 5.16). -/
abbrev F.FOLD_TALLY_C_ORDER_ADJ : Fld := ⟨.fold, 0x40, 4, 4, 0⟩
/-- FOLD_TALLY_C.COINCIDENT (Table 5.16). -/
abbrev F.FOLD_TALLY_C_COINCIDENT : Fld := ⟨.fold, 0x40, 0, 4, 0⟩
/-- FOLD_RELEASED.RELEASED (Table 5.16). -/
abbrev F.FOLD_RELEASED : Fld := ⟨.fold, 0x44, 0, 32, 0⟩
/-- RFX_CTRL.ENABLE (Table 10.12). -/
abbrev F.RFX_CTRL_ENABLE : Fld := ⟨.rfx, 0x20, 0, 1, 1⟩
/-- RFX_TALLY_A.XG_BACKLOG (Table 10.13). -/
abbrev F.RFX_TALLY_A_XG_BACKLOG : Fld := ⟨.rfx, 0x24, 16, 16, 0⟩
/-- RFX_TALLY_A.URGENT_WAIT (Table 10.13). -/
abbrev F.RFX_TALLY_A_URGENT_WAIT : Fld := ⟨.rfx, 0x24, 0, 16, 0⟩
/-- RFX_TALLY_B.COND_LOST (Table 10.14). -/
abbrev F.RFX_TALLY_B_COND_LOST : Fld := ⟨.rfx, 0x28, 16, 16, 0⟩
/-- RFX_TALLY_B.WIN_SUPPRESSED (Table 10.14). -/
abbrev F.RFX_TALLY_B_WIN_SUPPRESSED : Fld := ⟨.rfx, 0x28, 0, 16, 0⟩
/-- RFX_DISCARD.REFLEX (Table 10.15). -/
abbrev F.RFX_DISCARD_REFLEX : Fld := ⟨.rfx, 0x2c, 16, 16, 0⟩
/-- RFX_DISCARD.FOLD (Table 10.15). -/
abbrev F.RFX_DISCARD_FOLD : Fld := ⟨.rfx, 0x2c, 0, 16, 0⟩
/-- RFX_LAST.BUSY_WRITE (Table 10.16). -/
abbrev F.RFX_LAST_BUSY_WRITE : Fld := ⟨.rfx, 0x30, 16, 16, 0⟩
/-- RFX_LAST.DISCARD_VALID (Table 10.16). -/
abbrev F.RFX_LAST_DISCARD_VALID : Fld := ⟨.rfx, 0x30, 15, 1, 0⟩
/-- RFX_LAST.DISCARD_FOLD (Table 10.16). -/
abbrev F.RFX_LAST_DISCARD_FOLD : Fld := ⟨.rfx, 0x30, 14, 1, 0⟩
/-- RFX_LAST.DISCARD_CHANNEL (Table 10.16). -/
abbrev F.RFX_LAST_DISCARD_CHANNEL : Fld := ⟨.rfx, 0x30, 8, 5, 0⟩
/-- RFX_LAST.FIRED_VALID (Table 10.16). -/
abbrev F.RFX_LAST_FIRED_VALID : Fld := ⟨.rfx, 0x30, 7, 1, 0⟩
/-- RFX_LAST.LAST_RULE (Table 10.16). -/
abbrev F.RFX_LAST_LAST_RULE : Fld := ⟨.rfx, 0x30, 0, 6, 0⟩
/-- RFX_ARMED_LO.ARMED (Table 10.16). -/
abbrev F.RFX_ARMED_LO : Fld := ⟨.rfx, 0x38, 0, 32, 0⟩
/-- RFX_ARMED_HI.ARMED (Table 10.16). -/
abbrev F.RFX_ARMED_HI : Fld := ⟨.rfx, 0x3c, 0, 32, 0⟩
/-- RFX_COND.KIND (Table 10.17). -/
abbrev F.RFX_COND_KIND (r : Fin 64) : Fld := ⟨.rule r, 0x0, 28, 4, 0⟩
/-- RFX_COND.SOURCE (Table 10.17). -/
abbrev F.RFX_COND_SOURCE (r : Fin 64) : Fld := ⟨.rule r, 0x0, 16, 6, 0⟩
/-- RFX_COND.MASK (Table 10.17). -/
abbrev F.RFX_COND_MASK (r : Fin 64) : Fld := ⟨.rule r, 0x0, 8, 8, 0⟩
/-- RFX_ARM.ARM (Table 10.17). -/
abbrev F.RFX_ARM_ARM (r : Fin 64) : Fld := ⟨.rule r, 0x4, 30, 2, 0⟩
/-- RFX_ARM.PHASE (Table 10.17). -/
abbrev F.RFX_ARM_PHASE (r : Fin 64) : Fld := ⟨.rule r, 0x4, 28, 2, 0⟩
/-- RFX_ARM.HOLDOFF (Table 10.17). -/
abbrev F.RFX_ARM_HOLDOFF (r : Fin 64) : Fld := ⟨.rule r, 0x4, 0, 16, 0⟩
/-- RFX_ACTION.NOTIFY (Table 10.17). -/
abbrev F.RFX_ACTION_NOTIFY (r : Fin 64) : Fld := ⟨.rule r, 0x8, 31, 1, 0⟩
/-- RFX_ACTION.CODE (Table 10.17). -/
abbrev F.RFX_ACTION_CODE (r : Fin 64) : Fld := ⟨.rule r, 0x8, 24, 4, 0⟩
/-- RFX_ACTION.TARGET (Table 10.17). -/
abbrev F.RFX_ACTION_TARGET (r : Fin 64) : Fld := ⟨.rule r, 0x8, 16, 5, 0⟩
/-- RFX_PARAM.PARAM (Table 10.17). -/
abbrev F.RFX_PARAM (r : Fin 64) : Fld := ⟨.rule r, 0xc, 0, 32, 0⟩
/-- RFX_ARM_AT_LO.ARM_AT (Table 10.17). -/
abbrev F.RFX_ARM_AT_LO (r : Fin 64) : Fld := ⟨.rule r, 0x10, 0, 32, 0⟩
/-- RFX_ARM_AT_HI.ARM_AT (Table 10.17). -/
abbrev F.RFX_ARM_AT_HI (r : Fin 64) : Fld := ⟨.rule r, 0x14, 0, 32, 0⟩
/-- RFX_FIRES.FIRES (Table 10.17). -/
abbrev F.RFX_FIRES_FIRES (r : Fin 64) : Fld := ⟨.rule r, 0x18, 16, 16, 0⟩
/-- RFX_FIRES.IGNORED (Table 10.17). -/
abbrev F.RFX_FIRES_IGNORED (r : Fin 64) : Fld := ⟨.rule r, 0x18, 0, 16, 0⟩
/-- RFX_LAST_FIRE.TIME_LO (Table 10.17). -/
abbrev F.RFX_LAST_FIRE (r : Fin 64) : Fld := ⟨.rule r, 0x1c, 0, 32, 0⟩
/-- HK_TEMP_A.T1 (Table 20.10). -/
abbrev F.HK_TEMP_A_T1 : Fld := ⟨.hk, 0x20, 16, 16, 0⟩
/-- HK_TEMP_A.T0 (Table 20.10). -/
abbrev F.HK_TEMP_A_T0 : Fld := ⟨.hk, 0x20, 0, 16, 0⟩
/-- HK_TEMP_B.T3 (Table 20.10). -/
abbrev F.HK_TEMP_B_T3 : Fld := ⟨.hk, 0x24, 16, 16, 0⟩
/-- HK_TEMP_B.T2 (Table 20.10). -/
abbrev F.HK_TEMP_B_T2 : Fld := ⟨.hk, 0x24, 0, 16, 0⟩
/-- HK_TEMP_CFG.WARN (Table 20.10). -/
abbrev F.HK_TEMP_CFG_WARN : Fld := ⟨.hk, 0x28, 24, 8, 110⟩
/-- HK_TEMP_CFG.CRIT (Table 20.10). -/
abbrev F.HK_TEMP_CFG_CRIT : Fld := ⟨.hk, 0x28, 16, 8, 125⟩
/-- HK_RAIL_A.VDD_PHY (Table 20.10). -/
abbrev F.HK_RAIL_A_VDD_PHY : Fld := ⟨.hk, 0x2c, 16, 16, 0⟩
/-- HK_RAIL_A.VDD_CORE (Table 20.10). -/
abbrev F.HK_RAIL_A_VDD_CORE : Fld := ⟨.hk, 0x2c, 0, 16, 0⟩
/-- HK_RAIL_B.VDD_IO (Table 20.10). -/
abbrev F.HK_RAIL_B_VDD_IO : Fld := ⟨.hk, 0x30, 16, 16, 0⟩
/-- HK_RAIL_B.VDD_PHYH (Table 20.10). -/
abbrev F.HK_RAIL_B_VDD_PHYH : Fld := ⟨.hk, 0x30, 0, 16, 0⟩
/-- HK_RAIL_C.VAUX (Table 20.10). -/
abbrev F.HK_RAIL_C_VAUX : Fld := ⟨.hk, 0x34, 0, 16, 0⟩
/-- HK_STATUS.ACCUM_VALID (Table 20.10). -/
abbrev F.HK_STATUS_ACCUM_VALID : Fld := ⟨.hk, 0x38, 8, 1, 0⟩
/-- HK_STATUS.AT_CEILING (Table 20.10). -/
abbrev F.HK_STATUS_AT_CEILING : Fld := ⟨.hk, 0x38, 7, 1, 0⟩
/-- HK_STATUS.TEMP_CRIT (Table 20.10). -/
abbrev F.HK_STATUS_TEMP_CRIT : Fld := ⟨.hk, 0x38, 6, 1, 0⟩
/-- HK_STATUS.TEMP_WARN (Table 20.10). -/
abbrev F.HK_STATUS_TEMP_WARN : Fld := ⟨.hk, 0x38, 5, 1, 0⟩
/-- HK_STATUS.RAIL (Table 20.10). -/
abbrev F.HK_STATUS_RAIL : Fld := ⟨.hk, 0x38, 0, 5, 0⟩
/-- HK_VID.HW_RAISES (Table 20.11). -/
abbrev F.HK_VID_HW_RAISES : Fld := ⟨.hk, 0x3c, 24, 8, 0⟩
/-- HK_VID.NOW (Table 20.11). -/
abbrev F.HK_VID_NOW : Fld := ⟨.hk, 0x3c, 16, 3, 2⟩
/-- HK_VID.CEIL (Table 20.11). -/
abbrev F.HK_VID_CEIL : Fld := ⟨.hk, 0x3c, 8, 3, 6⟩
/-- HK_VID.REQ (Table 20.11). -/
abbrev F.HK_VID_REQ : Fld := ⟨.hk, 0x3c, 0, 3, 2⟩
/-- HK_SLACK_A.S1 (Table 20.11). -/
abbrev F.HK_SLACK_A_S1 : Fld := ⟨.hk, 0x40, 16, 16, 0⟩
/-- HK_SLACK_A.S0 (Table 20.11). -/
abbrev F.HK_SLACK_A_S0 : Fld := ⟨.hk, 0x40, 0, 16, 0⟩
/-- HK_SLACK_B.S3 (Table 20.11). -/
abbrev F.HK_SLACK_B_S3 : Fld := ⟨.hk, 0x44, 16, 16, 0⟩
/-- HK_SLACK_B.S2 (Table 20.11). -/
abbrev F.HK_SLACK_B_S2 : Fld := ⟨.hk, 0x44, 0, 16, 0⟩
/-- HK_SLACK_C.S5 (Table 20.11). -/
abbrev F.HK_SLACK_C_S5 : Fld := ⟨.hk, 0x48, 16, 16, 0⟩
/-- HK_SLACK_C.S4 (Table 20.11). -/
abbrev F.HK_SLACK_C_S4 : Fld := ⟨.hk, 0x48, 0, 16, 0⟩
/-- HK_SLACK_D.S7 (Table 20.11). -/
abbrev F.HK_SLACK_D_S7 : Fld := ⟨.hk, 0x4c, 16, 16, 0⟩
/-- HK_SLACK_D.S6 (Table 20.11). -/
abbrev F.HK_SLACK_D_S6 : Fld := ⟨.hk, 0x4c, 0, 16, 0⟩
/-- HK_DRIFT_A.D1 (Table 20.11). -/
abbrev F.HK_DRIFT_A_D1 : Fld := ⟨.hk, 0x50, 16, 16, 0⟩
/-- HK_DRIFT_A.D0 (Table 20.11). -/
abbrev F.HK_DRIFT_A_D0 : Fld := ⟨.hk, 0x50, 0, 16, 0⟩
/-- HK_DRIFT_B.D3 (Table 20.11). -/
abbrev F.HK_DRIFT_B_D3 : Fld := ⟨.hk, 0x54, 16, 16, 0⟩
/-- HK_DRIFT_B.D2 (Table 20.11). -/
abbrev F.HK_DRIFT_B_D2 : Fld := ⟨.hk, 0x54, 0, 16, 0⟩
/-- HK_DRIFT_C.D5 (Table 20.11). -/
abbrev F.HK_DRIFT_C_D5 : Fld := ⟨.hk, 0x58, 16, 16, 0⟩
/-- HK_DRIFT_C.D4 (Table 20.11). -/
abbrev F.HK_DRIFT_C_D4 : Fld := ⟨.hk, 0x58, 0, 16, 0⟩
/-- HK_DRIFT_D.D7 (Table 20.11). -/
abbrev F.HK_DRIFT_D_D7 : Fld := ⟨.hk, 0x5c, 16, 16, 0⟩
/-- HK_DRIFT_D.D6 (Table 20.11). -/
abbrev F.HK_DRIFT_D_D6 : Fld := ⟨.hk, 0x5c, 0, 16, 0⟩
/-- HK_AGE_CFG.EYE_MIN (Table 20.11). -/
abbrev F.HK_AGE_CFG_EYE_MIN : Fld := ⟨.hk, 0x60, 24, 6, 16⟩
/-- HK_AGE_CFG.DERATE_AT (Table 20.11). -/
abbrev F.HK_AGE_CFG_DERATE_AT : Fld := ⟨.hk, 0x60, 16, 8, 20⟩
/-- HK_AGE_CFG.SLACK_HARD (Table 20.11). -/
abbrev F.HK_AGE_CFG_SLACK_HARD : Fld := ⟨.hk, 0x60, 8, 8, 20⟩
/-- HK_AGE_CFG.SLACK_UP (Table 20.11). -/
abbrev F.HK_AGE_CFG_SLACK_UP : Fld := ⟨.hk, 0x60, 0, 8, 50⟩
/-- HK_LOCK.LOCK (Table 20.11). -/
abbrev F.HK_LOCK : Fld := ⟨.hk, 0x64, 0, 1, 0⟩
/-- HK_NOTIFY.HK (Table 20.11). -/
abbrev F.HK_NOTIFY : Fld := ⟨.hk, 0x68, 0, 4, 0⟩
/-- AGE_SWITCHES.COUNT (Table 20.13). -/
abbrev F.AGE_SWITCHES (c : Fin 32) : Fld := ⟨.age c, 0x0, 0, 32, 0⟩
/-- AGE_CLAMP.ENERGY (Table 20.13). -/
abbrev F.AGE_CLAMP (c : Fin 32) : Fld := ⟨.age c, 0x4, 0, 32, 0⟩
/-- AGE_RES.RBASE (Table 20.13). -/
abbrev F.AGE_RES_RBASE (c : Fin 32) : Fld := ⟨.age c, 0x8, 16, 16, 0⟩
/-- AGE_RES.RNOW (Table 20.13). -/
abbrev F.AGE_RES_RNOW (c : Fin 32) : Fld := ⟨.age c, 0x8, 0, 16, 0⟩
/-- AGE_STAT.BASE_VALID (Table 20.13). -/
abbrev F.AGE_STAT_BASE_VALID (c : Fin 32) : Fld := ⟨.age c, 0xc, 31, 1, 0⟩
/-- AGE_STAT.RATIO (Table 20.13). -/
abbrev F.AGE_STAT_RATIO (c : Fin 32) : Fld := ⟨.age c, 0xc, 0, 16, 0⟩
/-- LDG_CTRL.UNFREEZE (Table 21.11). -/
abbrev F.LDG_CTRL_UNFREEZE : Fld := ⟨.ldg, 0x20, 1, 1, 0⟩
/-- LDG_CTRL.FAULT_ACK (Table 21.11). -/
abbrev F.LDG_CTRL_FAULT_ACK : Fld := ⟨.ldg, 0x20, 0, 1, 0⟩
/-- LDG_CFG.SUPPRESS (Table 21.11). -/
abbrev F.LDG_CFG_SUPPRESS : Fld := ⟨.ldg, 0x24, 8, 1, 1⟩
/-- LDG_CFG.FAULT_MIN (Table 21.11). -/
abbrev F.LDG_CFG_FAULT_MIN : Fld := ⟨.ldg, 0x24, 0, 3, 4⟩
/-- LDG_LOCK.LOCK (Table 21.11). -/
abbrev F.LDG_LOCK : Fld := ⟨.ldg, 0x28, 0, 1, 0⟩
/-- LDG_STATUS.FROZEN (Table 21.11). -/
abbrev F.LDG_STATUS_FROZEN : Fld := ⟨.ldg, 0x2c, 31, 1, 0⟩
/-- LDG_STATUS.FAULT (Table 21.11). -/
abbrev F.LDG_STATUS_FAULT : Fld := ⟨.ldg, 0x2c, 30, 1, 0⟩
/-- LDG_STATUS.FREEZE_LAST (Table 21.11). -/
abbrev F.LDG_STATUS_FREEZE_LAST : Fld := ⟨.ldg, 0x2c, 16, 9, 0⟩
/-- LDG_STATUS.NEXT (Table 21.11). -/
abbrev F.LDG_STATUS_NEXT : Fld := ⟨.ldg, 0x2c, 0, 9, 0⟩
/-- LDG_SEQ.SEQ (Table 21.11). -/
abbrev F.LDG_SEQ : Fld := ⟨.ldg, 0x30, 0, 32, 0⟩
/-- LDG_BOOT.BOOT (Table 21.11). -/
abbrev F.LDG_BOOT : Fld := ⟨.ldg, 0x34, 0, 16, 0⟩
/-- LDG_FAULT.CODE (Table 21.11). -/
abbrev F.LDG_FAULT_CODE : Fld := ⟨.ldg, 0x38, 24, 8, 0⟩
/-- LDG_FAULT.SOURCE (Table 21.11). -/
abbrev F.LDG_FAULT_SOURCE : Fld := ⟨.ldg, 0x38, 21, 3, 0⟩
/-- LDG_FAULT.CLASS (Table 21.11). -/
abbrev F.LDG_FAULT_CLASS : Fld := ⟨.ldg, 0x38, 18, 3, 0⟩
/-- LDG_FAULT.SEQ (Table 21.11). -/
abbrev F.LDG_FAULT_SEQ : Fld := ⟨.ldg, 0x38, 0, 16, 0⟩
/-- LDG_TALLY.FREEZE_MISSED (Table 21.11). -/
abbrev F.LDG_TALLY_FREEZE_MISSED : Fld := ⟨.ldg, 0x3c, 24, 8, 0⟩
/-- LDG_TALLY.LOST (Table 21.11). -/
abbrev F.LDG_TALLY_LOST : Fld := ⟨.ldg, 0x3c, 16, 8, 0⟩
/-- LDG_TALLY.SUPPRESSED (Table 21.11). -/
abbrev F.LDG_TALLY_SUPPRESSED : Fld := ⟨.ldg, 0x3c, 0, 16, 0⟩
/-- LDG_FW_DATA_A.DATA (Table 21.11). -/
abbrev F.LDG_FW_DATA_A : Fld := ⟨.ldg, 0x40, 0, 32, 0⟩
/-- LDG_FW_DATA_B.DATA (Table 21.11). -/
abbrev F.LDG_FW_DATA_B : Fld := ⟨.ldg, 0x44, 0, 32, 0⟩
/-- LDG_FW_POST.CH (Table 21.11). -/
abbrev F.LDG_FW_POST_CH : Fld := ⟨.ldg, 0x48, 16, 8, 0⟩
/-- LDG_FW_POST.CLASS (Table 21.11). -/
abbrev F.LDG_FW_POST_CLASS : Fld := ⟨.ldg, 0x48, 8, 3, 0⟩
/-- LDG_FW_POST.CODE (Table 21.11). -/
abbrev F.LDG_FW_POST_CODE : Fld := ⟨.ldg, 0x48, 0, 8, 0⟩
/-- FW_STATUS.STATE (Table 19.9). -/
abbrev F.FW_STATUS_STATE : Fld := ⟨.fw, 0x20, 28, 4, 0⟩
/-- FW_STATUS.FAIL (Table 19.9). -/
abbrev F.FW_STATUS_FAIL : Fld := ⟨.fw, 0x20, 24, 4, 0⟩
/-- FW_STATUS.SLOT (Table 19.9). -/
abbrev F.FW_STATUS_SLOT : Fld := ⟨.fw, 0x20, 23, 1, 0⟩
/-- FW_STATUS.STAGED (Table 19.9). -/
abbrev F.FW_STATUS_STAGED : Fld := ⟨.fw, 0x20, 22, 1, 0⟩
/-- FW_STATUS.SOURCE (Table 19.9). -/
abbrev F.FW_STATUS_SOURCE : Fld := ⟨.fw, 0x20, 20, 2, 0⟩
/-- FW_CTRL.STOP (Table 19.10). -/
abbrev F.FW_CTRL_STOP : Fld := ⟨.fw, 0x24, 3, 1, 0⟩
/-- FW_CTRL.RESTART (Table 19.10). -/
abbrev F.FW_CTRL_RESTART : Fld := ⟨.fw, 0x24, 2, 1, 0⟩
/-- FW_CTRL.ACTIVATE (Table 19.10). -/
abbrev F.FW_CTRL_ACTIVATE : Fld := ⟨.fw, 0x24, 1, 1, 0⟩
/-- FW_CTRL.VERIFY (Table 19.10). -/
abbrev F.FW_CTRL_VERIFY : Fld := ⟨.fw, 0x24, 0, 1, 0⟩
/-- FW_WD.TIME (Table 19.11). -/
abbrev F.FW_WD_TIME : Fld := ⟨.fw, 0x28, 0, 10, 100⟩
/-- FW_KICK.KEY (Table 19.11). -/
abbrev F.FW_KICK_KEY : Fld := ⟨.fw, 0x2c, 0, 16, 0⟩
/-- FW_VERSION.VERSION (Table 19.12). -/
abbrev F.FW_VERSION : Fld := ⟨.fw, 0x30, 0, 32, 0⟩
/-- FW_MINVER.FLOOR (Table 19.12). -/
abbrev F.FW_MINVER_FLOOR : Fld := ⟨.fw, 0x34, 0, 16, 0⟩
/-- FW_RAM_ADDR.ADDR (Table 19.13). -/
abbrev F.FW_RAM_ADDR : Fld := ⟨.fw, 0x38, 2, 16, 0⟩
/-- FW_RAM_DATA.DATA (Table 19.13). -/
abbrev F.FW_RAM_DATA : Fld := ⟨.fw, 0x3c, 0, 32, 0⟩
/-- FW_TALLY.FILTERED (Table 19.14). -/
abbrev F.FW_TALLY_FILTERED : Fld := ⟨.fw, 0x40, 16, 16, 0⟩
/-- FW_TALLY.REJECTS (Table 19.14). -/
abbrev F.FW_TALLY_REJECTS : Fld := ⟨.fw, 0x40, 12, 4, 0⟩
/-- FW_TALLY.RESTARTS (Table 19.14). -/
abbrev F.FW_TALLY_RESTARTS : Fld := ⟨.fw, 0x40, 8, 4, 0⟩
/-- FW_TALLY.RAM_DISCARD (Table 19.14). -/
abbrev F.FW_TALLY_RAM_DISCARD : Fld := ⟨.fw, 0x40, 0, 8, 0⟩
/-- FW_LOCK.LOCK (Table 19.14). -/
abbrev F.FW_LOCK : Fld := ⟨.fw, 0x44, 0, 1, 0⟩
/-- SCB_COEF_TALLY.DISCARDED (Table 9.21). -/
abbrev F.SCB_COEF_TALLY_DISCARDED : Fld := ⟨.bank, 0x24, 0, 16, 0⟩
/-- SCB_INUSE.INUSE (Table 9.22). -/
abbrev F.SCB_INUSE : Fld := ⟨.bank, 0x28, 0, 32, 1⟩
/-- SC_CFG.SYNC (Table 9.13). -/
abbrev F.SC_CFG_SYNC (s : Fin 64) : Fld := ⟨.chain s, 0x20, 31, 1, 0⟩
/-- SC_CFG.SET (Table 9.13). -/
abbrev F.SC_CFG_SET (s : Fin 64) : Fld := ⟨.chain s, 0x20, 24, 4, 0⟩
/-- SC_CFG.HB (Table 9.13). -/
abbrev F.SC_CFG_HB (s : Fin 64) : Fld := ⟨.chain s, 0x20, 16, 3, 2⟩
/-- SC_CFG.FIR_EN (Table 9.13). -/
abbrev F.SC_CFG_FIR_EN (s : Fin 64) : Fld := ⟨.chain s, 0x20, 8, 1, 1⟩
/-- SC_SWAP.REPLACED (Table 9.15). -/
abbrev F.SC_SWAP_REPLACED (s : Fin 64) : Fld := ⟨.chain s, 0x2c, 16, 16, 0⟩
/-- SC_SWAP.REQ (Table 9.15). -/
abbrev F.SC_SWAP_REQ (s : Fin 64) : Fld := ⟨.chain s, 0x2c, 15, 1, 0⟩
/-- SC_SWAP.BANK (Table 9.15). -/
abbrev F.SC_SWAP_BANK (s : Fin 64) : Fld := ⟨.chain s, 0x2c, 14, 1, 0⟩
/-- SC_SWAP.FADING (Table 9.15). -/
abbrev F.SC_SWAP_FADING (s : Fin 64) : Fld := ⟨.chain s, 0x2c, 13, 1, 0⟩
/-- SC_SWAP.PENDING (Table 9.15). -/
abbrev F.SC_SWAP_PENDING (s : Fin 64) : Fld := ⟨.chain s, 0x2c, 12, 1, 0⟩
/-- SC_SWAP.FADE (Table 9.15). -/
abbrev F.SC_SWAP_FADE (s : Fin 64) : Fld := ⟨.chain s, 0x2c, 0, 12, 0⟩
/-- SC_DC.FREEZE (Table 9.16). -/
abbrev F.SC_DC_FREEZE (s : Fin 64) : Fld := ⟨.chain s, 0x30, 31, 1, 1⟩
/-- SC_DC.CLEAR (Table 9.16). -/
abbrev F.SC_DC_CLEAR (s : Fin 64) : Fld := ⟨.chain s, 0x30, 30, 1, 0⟩
/-- SC_DC.K (Table 9.16). -/
abbrev F.SC_DC_K (s : Fin 64) : Fld := ⟨.chain s, 0x30, 24, 5, 12⟩
/-- SC_DC.EST (Table 9.16). -/
abbrev F.SC_DC_EST (s : Fin 64) : Fld := ⟨.chain s, 0x30, 0, 24, 0⟩
/-- SC_STATUS.GAP_TALLY (Table 9.17). -/
abbrev F.SC_STATUS_GAP_TALLY (s : Fin 64) : Fld := ⟨.chain s, 0x34, 16, 16, 0⟩
/-- SC_STATUS.OVER (Table 9.17). -/
abbrev F.SC_STATUS_OVER (s : Fin 64) : Fld := ⟨.chain s, 0x34, 5, 1, 0⟩
/-- SC_STATUS.GAP (Table 9.17). -/
abbrev F.SC_STATUS_GAP (s : Fin 64) : Fld := ⟨.chain s, 0x34, 4, 1, 0⟩
/-- SC_STATUS.COARSE_SETTLING (Table 9.17). -/
abbrev F.SC_STATUS_COARSE_SETTLING (s : Fin 64) : Fld := ⟨.chain s, 0x34, 1, 1, 1⟩
/-- SC_STATUS.FINE_SETTLING (Table 9.17). -/
abbrev F.SC_STATUS_FINE_SETTLING (s : Fin 64) : Fld := ⟨.chain s, 0x34, 0, 1, 1⟩
/-- SC_FINE.SAMPLE (Table 9.18). -/
abbrev F.SC_FINE (s : Fin 64) : Fld := ⟨.chain s, 0x38, 0, 32, 0⟩
/-- SC_COARSE.SAMPLE (Table 9.19). -/
abbrev F.SC_COARSE (s : Fin 64) : Fld := ⟨.chain s, 0x3c, 0, 32, 0⟩
/-- SC_PERIOD_LO.PERIOD (Table 9.14). -/
abbrev F.SC_PERIOD_LO (s : Fin 64) : Fld := ⟨.chain s, 0x24, 0, 32, 1073741824⟩
/-- SC_PERIOD_HI.PERIOD (Table 9.14). -/
abbrev F.SC_PERIOD_HI (s : Fin 64) : Fld := ⟨.chain s, 0x28, 0, 19, 6⟩
/-- WIN_C_LOW.LOW (Table 10.9). -/
abbrev F.WIN_C_LOW_LOW (s : Fin 64) : Fld := ⟨.chain s, 0x40, 8, 24, 8388608⟩
/-- WIN_C_LOW.HYST (Table 10.9). -/
abbrev F.WIN_C_LOW_HYST (s : Fin 64) : Fld := ⟨.chain s, 0x40, 0, 8, 0⟩
/-- WIN_C_HIGH.HIGH (Table 10.10). -/
abbrev F.WIN_C_HIGH_HIGH (s : Fin 64) : Fld := ⟨.chain s, 0x44, 8, 24, 8388607⟩
/-- WIN_C_HIGH.EN (Table 10.10). -/
abbrev F.WIN_C_HIGH_EN (s : Fin 64) : Fld := ⟨.chain s, 0x44, 7, 1, 0⟩
/-- WIN_C_HIGH.NOTIFY (Table 10.10). -/
abbrev F.WIN_C_HIGH_NOTIFY (s : Fin 64) : Fld := ⟨.chain s, 0x44, 6, 1, 0⟩
/-- WIN_C_HIGH.START (Table 10.10). -/
abbrev F.WIN_C_HIGH_START (s : Fin 64) : Fld := ⟨.chain s, 0x44, 5, 1, 0⟩
/-- WIN_C_HIGH.STATE (Table 10.10). -/
abbrev F.WIN_C_HIGH_STATE (s : Fin 64) : Fld := ⟨.chain s, 0x44, 2, 2, 3⟩
/-- WIN_F_LOW.LOW (Table 10.9). -/
abbrev F.WIN_F_LOW_LOW (s : Fin 64) : Fld := ⟨.chain s, 0x48, 8, 24, 8388608⟩
/-- WIN_F_LOW.HYST (Table 10.9). -/
abbrev F.WIN_F_LOW_HYST (s : Fin 64) : Fld := ⟨.chain s, 0x48, 0, 8, 0⟩
/-- WIN_F_HIGH.HIGH (Table 10.10). -/
abbrev F.WIN_F_HIGH_HIGH (s : Fin 64) : Fld := ⟨.chain s, 0x4c, 8, 24, 8388607⟩
/-- WIN_F_HIGH.EN (Table 10.10). -/
abbrev F.WIN_F_HIGH_EN (s : Fin 64) : Fld := ⟨.chain s, 0x4c, 7, 1, 0⟩
/-- WIN_F_HIGH.NOTIFY (Table 10.10). -/
abbrev F.WIN_F_HIGH_NOTIFY (s : Fin 64) : Fld := ⟨.chain s, 0x4c, 6, 1, 0⟩
/-- WIN_F_HIGH.START (Table 10.10). -/
abbrev F.WIN_F_HIGH_START (s : Fin 64) : Fld := ⟨.chain s, 0x4c, 5, 1, 0⟩
/-- WIN_F_HIGH.STATE (Table 10.10). -/
abbrev F.WIN_F_HIGH_STATE (s : Fin 64) : Fld := ⟨.chain s, 0x4c, 2, 2, 3⟩
/-- GRP_OUT_SUM.SUM (Table 4.26). -/
abbrev F.GRP_OUT_SUM (g : Fin 4) : Fld := ⟨.grp g, 0x40, 0, 16, 0⟩
/-- GRP_OUT_SHED.TALLY (Table 4.27). -/
abbrev F.GRP_OUT_SHED_TALLY (g : Fin 4) : Fld := ⟨.grp g, 0x44, 16, 16, 0⟩
/-- GRP_OUT_SHED.VALID (Table 4.27). -/
abbrev F.GRP_OUT_SHED_VALID (g : Fin 4) : Fld := ⟨.grp g, 0x44, 5, 1, 0⟩
/-- GRP_OUT_SHED.LAST (Table 4.27). -/
abbrev F.GRP_OUT_SHED_LAST (g : Fin 4) : Fld := ⟨.grp g, 0x44, 0, 5, 0⟩
/-- GRP_STATUS.STATE (Table 13.12). -/
abbrev F.GRP_STATUS_STATE (g : Fin 4) : Fld := ⟨.grp g, 0x20, 28, 4, 0⟩
/-- GRP_STATUS.REFUSE (Table 13.12). -/
abbrev F.GRP_STATUS_REFUSE (g : Fin 4) : Fld := ⟨.grp g, 0x20, 24, 4, 0⟩
/-- GRP_STATUS.SAFE_CAUSE (Table 13.12). -/
abbrev F.GRP_STATUS_SAFE_CAUSE (g : Fin 4) : Fld := ⟨.grp g, 0x20, 20, 4, 0⟩
/-- GRP_STATUS.SAFE (Table 13.12). -/
abbrev F.GRP_STATUS_SAFE (g : Fin 4) : Fld := ⟨.grp g, 0x20, 19, 1, 0⟩
/-- GRP_STATUS.FORCED (Table 13.12). -/
abbrev F.GRP_STATUS_FORCED (g : Fin 4) : Fld := ⟨.grp g, 0x20, 18, 1, 0⟩
/-- GRP_STATUS.LIMP (Table 13.12). -/
abbrev F.GRP_STATUS_LIMP (g : Fin 4) : Fld := ⟨.grp g, 0x20, 17, 1, 0⟩
/-- GRP_STATUS.LIMP_PIN (Table 13.12). -/
abbrev F.GRP_STATUS_LIMP_PIN (g : Fin 4) : Fld := ⟨.grp g, 0x20, 16, 1, 0⟩
/-- GRP_STATUS.FULL (Table 13.12). -/
abbrev F.GRP_STATUS_FULL (g : Fin 4) : Fld := ⟨.grp g, 0x20, 15, 1, 0⟩
/-- GRP_STATUS.MCLK_LOCK (Table 13.12). -/
abbrev F.GRP_STATUS_MCLK_LOCK (g : Fin 4) : Fld := ⟨.grp g, 0x20, 14, 1, 0⟩
/-- GRP_STATUS.GCLK_RUN (Table 13.12). -/
abbrev F.GRP_STATUS_GCLK_RUN (g : Fin 4) : Fld := ⟨.grp g, 0x20, 13, 1, 0⟩
/-- GRP_CTRL.RESTART (Table 13.13). -/
abbrev F.GRP_CTRL_RESTART (g : Fin 4) : Fld := ⟨.grp g, 0x24, 3, 1, 0⟩
/-- GRP_CTRL.RELEASE (Table 13.13). -/
abbrev F.GRP_CTRL_RELEASE (g : Fin 4) : Fld := ⟨.grp g, 0x24, 2, 1, 0⟩
/-- GRP_CTRL.UNFORCE (Table 13.13). -/
abbrev F.GRP_CTRL_UNFORCE (g : Fin 4) : Fld := ⟨.grp g, 0x24, 1, 1, 0⟩
/-- GRP_CTRL.FORCE_SAFE (Table 13.13). -/
abbrev F.GRP_CTRL_FORCE_SAFE (g : Fin 4) : Fld := ⟨.grp g, 0x24, 0, 1, 0⟩
/-- GRP_WD.AUTO (Table 13.14). -/
abbrev F.GRP_WD_AUTO (g : Fin 4) : Fld := ⟨.grp g, 0x28, 31, 1, 1⟩
/-- GRP_WD.HOST (Table 13.14). -/
abbrev F.GRP_WD_HOST (g : Fin 4) : Fld := ⟨.grp g, 0x28, 30, 1, 0⟩
/-- GRP_WD.SV (Table 13.14). -/
abbrev F.GRP_WD_SV (g : Fin 4) : Fld := ⟨.grp g, 0x28, 29, 1, 0⟩
/-- GRP_WD.TIME (Table 13.14). -/
abbrev F.GRP_WD_TIME (g : Fin 4) : Fld := ⟨.grp g, 0x28, 0, 17, 100⟩
/-- GRP_FEED.KEY (Table 13.15). -/
abbrev F.GRP_FEED_KEY (g : Fin 4) : Fld := ⟨.grp g, 0x2c, 0, 16, 0⟩
/-- GRP_LOCK.LOCK (Table 13.16). -/
abbrev F.GRP_LOCK (g : Fin 4) : Fld := ⟨.grp g, 0x30, 0, 1, 0⟩
/-- GRP_IMAGE.WRITTEN (Table 13.17). -/
abbrev F.GRP_IMAGE_WRITTEN (g : Fin 4) : Fld := ⟨.grp g, 0x34, 16, 16, 0⟩
/-- GRP_IMAGE.APPLIED (Table 13.17). -/
abbrev F.GRP_IMAGE_APPLIED (g : Fin 4) : Fld := ⟨.grp g, 0x34, 0, 16, 0⟩
/-- GRP_LIMP_CTRL.ENABLE (Table 13.19). -/
abbrev F.GRP_LIMP_CTRL_ENABLE (g : Fin 4) : Fld := ⟨.grp g, 0x48, 31, 1, 0⟩
/-- GRP_LIMP_CTRL.ACTIVE_LOW (Table 13.19). -/
abbrev F.GRP_LIMP_CTRL_ACTIVE_LOW (g : Fin 4) : Fld := ⟨.grp g, 0x48, 30, 1, 0⟩
/-- GRP_ATTACH.ATTACHES (Table 13.21). -/
abbrev F.GRP_ATTACH_ATTACHES (g : Fin 4) : Fld := ⟨.grp g, 0x54, 16, 16, 0⟩
/-- GRP_ATTACH.REFUSALS (Table 13.21). -/
abbrev F.GRP_ATTACH_REFUSALS (g : Fin 4) : Fld := ⟨.grp g, 0x54, 8, 8, 0⟩
/-- GRP_ATTACH.RESTARTS (Table 13.21). -/
abbrev F.GRP_ATTACH_RESTARTS (g : Fin 4) : Fld := ⟨.grp g, 0x54, 0, 8, 0⟩
/-- GRP_EDGE_URGENT.MASK (Table 13.23). -/
abbrev F.GRP_EDGE_URGENT_MASK (g : Fin 4) : Fld := ⟨.grp g, 0x58, 0, 8, 0⟩
/-- GRP_SUP_CFG.RESTORE (Table 14.7). -/
abbrev F.GRP_SUP_CFG_RESTORE (g : Fin 4) : Fld := ⟨.grp g, 0x80, 0, 1, 1⟩
/-- GRP_SUP_CTRL.ACK (Table 14.8). -/
abbrev F.GRP_SUP_CTRL_ACK (g : Fin 4) : Fld := ⟨.grp g, 0x84, 0, 1, 0⟩
/-- GRP_SUP_STATUS.LPX (Table 14.9). -/
abbrev F.GRP_SUP_STATUS_LPX (g : Fin 4) : Fld := ⟨.grp g, 0x88, 20, 12, 0⟩
/-- GRP_SUP_STATUS.HOLD (Table 14.9). -/
abbrev F.GRP_SUP_STATUS_HOLD (g : Fin 4) : Fld := ⟨.grp g, 0x88, 12, 8, 0⟩
/-- GRP_SUP_STATUS.HOLD_READY (Table 14.9). -/
abbrev F.GRP_SUP_STATUS_HOLD_READY (g : Fin 4) : Fld := ⟨.grp g, 0x88, 8, 1, 0⟩
/-- GRP_SUP_STATUS.HOLD_LOW (Table 14.9). -/
abbrev F.GRP_SUP_STATUS_HOLD_LOW (g : Fin 4) : Fld := ⟨.grp g, 0x88, 7, 1, 0⟩
/-- GRP_SUP_STATUS.AWAIT_ACK (Table 14.9). -/
abbrev F.GRP_SUP_STATUS_AWAIT_ACK (g : Fin 4) : Fld := ⟨.grp g, 0x88, 6, 1, 0⟩
/-- GRP_SUP_STATUS.HOLDUP (Table 14.9). -/
abbrev F.GRP_SUP_STATUS_HOLDUP (g : Fin 4) : Fld := ⟨.grp g, 0x88, 5, 1, 0⟩
/-- GRP_SUP_STATUS.REVERSE (Table 14.9). -/
abbrev F.GRP_SUP_STATUS_REVERSE (g : Fin 4) : Fld := ⟨.grp g, 0x88, 4, 1, 0⟩
/-- GRP_SUP_STATUS.OVERVOLTAGE (Table 14.9). -/
abbrev F.GRP_SUP_STATUS_OVERVOLTAGE (g : Fin 4) : Fld := ⟨.grp g, 0x88, 3, 1, 0⟩
/-- GRP_SUP_STATUS.LOCKOUT (Table 14.9). -/
abbrev F.GRP_SUP_STATUS_LOCKOUT (g : Fin 4) : Fld := ⟨.grp g, 0x88, 2, 1, 0⟩
/-- GRP_SUP_STATUS.UV_WARN (Table 14.9). -/
abbrev F.GRP_SUP_STATUS_UV_WARN (g : Fin 4) : Fld := ⟨.grp g, 0x88, 1, 1, 0⟩
/-- GRP_SUP_LAST.HOLD_CAP (Table 14.10). -/
abbrev F.GRP_SUP_LAST_HOLD_CAP (g : Fin 4) : Fld := ⟨.grp g, 0x8c, 24, 8, 0⟩
/-- GRP_SUP_LAST.PEAK (Table 14.10). -/
abbrev F.GRP_SUP_LAST_PEAK (g : Fin 4) : Fld := ⟨.grp g, 0x8c, 16, 8, 0⟩
/-- GRP_SUP_LAST.CAUSE (Table 14.10). -/
abbrev F.GRP_SUP_LAST_CAUSE (g : Fin 4) : Fld := ⟨.grp g, 0x8c, 0, 4, 0⟩
/-- GRP_SUP_TALLY_C.REVERSE (Table 14.12). -/
abbrev F.GRP_SUP_TALLY_C_REVERSE (g : Fin 4) : Fld := ⟨.grp g, 0x98, 16, 16, 0⟩
/-- GRP_SUP_TALLY_C.UNANNOUNCED (Table 14.12). -/
abbrev F.GRP_SUP_TALLY_C_UNANNOUNCED (g : Fin 4) : Fld := ⟨.grp g, 0x98, 0, 16, 0⟩
/-- GRP_LINK_A.DOWN_ERR (Table 13.18). -/
abbrev F.GRP_LINK_A_DOWN_ERR (g : Fin 4) : Fld := ⟨.grp g, 0x38, 16, 16, 0⟩
/-- GRP_LINK_A.UP_ERR (Table 13.18). -/
abbrev F.GRP_LINK_A_UP_ERR (g : Fin 4) : Fld := ⟨.grp g, 0x38, 0, 16, 0⟩
/-- GRP_LINK_B.RETRIES (Table 13.18). -/
abbrev F.GRP_LINK_B_RETRIES (g : Fin 4) : Fld := ⟨.grp g, 0x3c, 16, 16, 0⟩
/-- GRP_LINK_B.LOST (Table 13.18). -/
abbrev F.GRP_LINK_B_LOST (g : Fin 4) : Fld := ⟨.grp g, 0x3c, 0, 16, 0⟩
/-- GRP_SUP_TALLY_A.LOCKOUTS (Table 14.11). -/
abbrev F.GRP_SUP_TALLY_A_LOCKOUTS (g : Fin 4) : Fld := ⟨.grp g, 0x90, 16, 16, 0⟩
/-- GRP_SUP_TALLY_A.UV_WARNS (Table 14.11). -/
abbrev F.GRP_SUP_TALLY_A_UV_WARNS (g : Fin 4) : Fld := ⟨.grp g, 0x90, 0, 16, 0⟩
/-- GRP_SUP_TALLY_B.OV_EVENTS (Table 14.11). -/
abbrev F.GRP_SUP_TALLY_B_OV_EVENTS (g : Fin 4) : Fld := ⟨.grp g, 0x94, 16, 16, 0⟩
/-- GRP_SUP_TALLY_B.RIDE_THROUGHS (Table 14.11). -/
abbrev F.GRP_SUP_TALLY_B_RIDE_THROUGHS (g : Fin 4) : Fld := ⟨.grp g, 0x94, 0, 16, 0⟩
/-- GRP_HK_SEQ_A.EN (Table 20.14). -/
abbrev F.GRP_HK_SEQ_A_EN (g : Fin 4) : Fld := ⟨.grp g, 0xa0, 31, 1, 1⟩
/-- GRP_HK_SEQ_A.MASK (Table 20.14). -/
abbrev F.GRP_HK_SEQ_A_MASK (g : Fin 4) : Fld := ⟨.grp g, 0xa0, 0, 24, 65535⟩
/-- GRP_HK_SEQ_B.EN (Table 20.14). -/
abbrev F.GRP_HK_SEQ_B_EN (g : Fin 4) : Fld := ⟨.grp g, 0xa4, 31, 1, 0⟩
/-- GRP_HK_SEQ_B.TOKEN (Table 20.14). -/
abbrev F.GRP_HK_SEQ_B_TOKEN (g : Fin 4) : Fld := ⟨.grp g, 0xa4, 30, 1, 0⟩
/-- GRP_HK_SEQ_B.MASK (Table 20.14). -/
abbrev F.GRP_HK_SEQ_B_MASK (g : Fin 4) : Fld := ⟨.grp g, 0xa4, 0, 24, 0⟩
/-- GRP_HK_TIMER.PERIOD (Table 20.14). -/
abbrev F.GRP_HK_TIMER_PERIOD (g : Fin 4) : Fld := ⟨.grp g, 0xa8, 0, 16, 100⟩
/-- GRP_HK_HYST.HYST (Table 20.14). -/
abbrev F.GRP_HK_HYST (g : Fin 4) : Fld := ⟨.grp g, 0xac, 0, 8, 8⟩
/-- GRP_HK_URGENT.TOKEN (Table 20.14). -/
abbrev F.GRP_HK_URGENT_TOKEN (g : Fin 4) : Fld := ⟨.grp g, 0xb0, 31, 1, 0⟩
/-- GRP_HK_URGENT.SLOT (Table 20.14). -/
abbrev F.GRP_HK_URGENT_SLOT (g : Fin 4) : Fld := ⟨.grp g, 0xb0, 24, 5, 0⟩
/-- GRP_HK_URGENT.URG_DONE (Table 20.14). -/
abbrev F.GRP_HK_URGENT_URG_DONE (g : Fin 4) : Fld := ⟨.grp g, 0xb0, 16, 4, 0⟩
/-- GRP_HK_URGENT.RESULT (Table 20.14). -/
abbrev F.GRP_HK_URGENT_RESULT (g : Fin 4) : Fld := ⟨.grp g, 0xb0, 0, 12, 0⟩
/-- GRP_HK_TALLY.OVERRUNS (Table 20.14). -/
abbrev F.GRP_HK_TALLY_OVERRUNS (g : Fin 4) : Fld := ⟨.grp g, 0xb4, 16, 16, 0⟩
/-- GRP_HK_TALLY.DROPPED (Table 20.14). -/
abbrev F.GRP_HK_TALLY_DROPPED (g : Fin 4) : Fld := ⟨.grp g, 0xb4, 0, 16, 0⟩
/-- GRP_HK_EXIT.EXIT (Table 20.14). -/
abbrev F.GRP_HK_EXIT (g : Fin 4) : Fld := ⟨.grp g, 0xb8, 0, 24, 0⟩
/-- GRP_AGE_PM.D1 (Table 20.14). -/
abbrev F.GRP_AGE_PM_D1 (g : Fin 4) : Fld := ⟨.grp g, 0x158, 16, 16, 0⟩
/-- GRP_AGE_PM.D0 (Table 20.14). -/
abbrev F.GRP_AGE_PM_D0 (g : Fin 4) : Fld := ⟨.grp g, 0x158, 0, 16, 0⟩
/-- GRP_AGE_EYE.RETUNE (Table 20.14). -/
abbrev F.GRP_AGE_EYE_RETUNE (g : Fin 4) : Fld := ⟨.grp g, 0x15c, 31, 1, 0⟩
/-- GRP_AGE_EYE.RETUNING (Table 20.14). -/
abbrev F.GRP_AGE_EYE_RETUNING (g : Fin 4) : Fld := ⟨.grp g, 0x15c, 30, 1, 0⟩
/-- GRP_AGE_EYE.UP_MARGIN (Table 20.14). -/
abbrev F.GRP_AGE_EYE_UP_MARGIN (g : Fin 4) : Fld := ⟨.grp g, 0x15c, 24, 6, 0⟩
/-- GRP_AGE_EYE.DOWN_MARGIN (Table 20.14). -/
abbrev F.GRP_AGE_EYE_DOWN_MARGIN (g : Fin 4) : Fld := ⟨.grp g, 0x15c, 16, 6, 0⟩
/-- GRP_AGE_EYE.UP_EQ (Table 20.14). -/
abbrev F.GRP_AGE_EYE_UP_EQ (g : Fin 4) : Fld := ⟨.grp g, 0x15c, 8, 4, 8⟩
/-- GRP_AGE_EYE.DOWN_EMPH (Table 20.14). -/
abbrev F.GRP_AGE_EYE_DOWN_EMPH (g : Fin 4) : Fld := ⟨.grp g, 0x15c, 0, 4, 4⟩
/-- CH_MODE.SUPPLY (Table 3.7). -/
abbrev F.CH_MODE_SUPPLY (c : Fin 32) : Fld := ⟨.ch c, 0x20, 4, 2, 0⟩
/-- CH_MODE.MODE (Table 3.7). -/
abbrev F.CH_MODE_MODE (c : Fin 32) : Fld := ⟨.ch c, 0x20, 0, 4, 0⟩
/-- CH_MODE_STATUS.ACTIVE (Table 3.8). -/
abbrev F.CH_MODE_STATUS_ACTIVE (c : Fin 32) : Fld := ⟨.ch c, 0x24, 4, 4, 0⟩
/-- CH_MODE_STATUS.SERVED (Table 3.8). -/
abbrev F.CH_MODE_STATUS_SERVED (c : Fin 32) : Fld := ⟨.ch c, 0x24, 3, 1, 0⟩
/-- CH_MODE_STATUS.NOT_PERMITTED (Table 3.8). -/
abbrev F.CH_MODE_STATUS_NOT_PERMITTED (c : Fin 32) : Fld := ⟨.ch c, 0x24, 2, 1, 0⟩
/-- CH_MODE_STATUS.PAIR_MEMBER (Table 3.8). -/
abbrev F.CH_MODE_STATUS_PAIR_MEMBER (c : Fin 32) : Fld := ⟨.ch c, 0x24, 1, 1, 0⟩
/-- CH_MODE_STATUS.CHANGING (Table 3.8). -/
abbrev F.CH_MODE_STATUS_CHANGING (c : Fin 32) : Fld := ⟨.ch c, 0x24, 0, 1, 0⟩
/-- CH_PERMIT.PERMIT (Table 3.9). -/
abbrev F.CH_PERMIT (c : Fin 32) : Fld := ⟨.ch c, 0x28, 0, 1, 0⟩
/-- CH_LOCK.LOCK (Table 3.10). -/
abbrev F.CH_LOCK (c : Fin 32) : Fld := ⟨.ch c, 0x2c, 0, 1, 0⟩
/-- CH_REFUSE.TALLY (Table 3.11). -/
abbrev F.CH_REFUSE_TALLY (c : Fin 32) : Fld := ⟨.ch c, 0x30, 16, 16, 0⟩
/-- CH_REFUSE.REQ_MODE (Table 3.11). -/
abbrev F.CH_REFUSE_REQ_MODE (c : Fin 32) : Fld := ⟨.ch c, 0x30, 8, 4, 0⟩
/-- CH_REFUSE.CODE (Table 3.11). -/
abbrev F.CH_REFUSE_CODE (c : Fin 32) : Fld := ⟨.ch c, 0x30, 0, 4, 0⟩
/-- OUT_CMD.ON (Table 4.12). -/
abbrev F.OUT_CMD_ON (c : Fin 32) : Fld := ⟨.ch c, 0x40, 0, 1, 0⟩
/-- OUT_CFG.OL_WINDOW (Table 4.13). -/
abbrev F.OUT_CFG_OL_WINDOW (c : Fin 32) : Fld := ⟨.ch c, 0x44, 24, 8, 10⟩
/-- OUT_CFG.OL_THRESH (Table 4.13). -/
abbrev F.OUT_CFG_OL_THRESH (c : Fin 32) : Fld := ⟨.ch c, 0x44, 16, 8, 4⟩
/-- OUT_CFG.OFFCHK (Table 4.13). -/
abbrev F.OUT_CFG_OFFCHK (c : Fin 32) : Fld := ⟨.ch c, 0x44, 3, 1, 1⟩
/-- OUT_CFG.SLEW (Table 4.13). -/
abbrev F.OUT_CFG_SLEW (c : Fin 32) : Fld := ⟨.ch c, 0x44, 0, 2, 0⟩
/-- OUT_LIMIT.INRUSH_WINDOW (Table 4.14). -/
abbrev F.OUT_LIMIT_INRUSH_WINDOW (c : Fin 32) : Fld := ⟨.ch c, 0x48, 16, 10, 0⟩
/-- OUT_LIMIT.INRUSH_LIMIT (Table 4.14). -/
abbrev F.OUT_LIMIT_INRUSH_LIMIT (c : Fin 32) : Fld := ⟨.ch c, 0x48, 8, 5, 0⟩
/-- OUT_LIMIT.CUR_LIMIT (Table 4.14). -/
abbrev F.OUT_LIMIT_CUR_LIMIT (c : Fin 32) : Fld := ⟨.ch c, 0x48, 0, 5, 12⟩
/-- OUT_FUSE.LIMIT_DWELL (Table 4.15). -/
abbrev F.OUT_FUSE_LIMIT_DWELL (c : Fin 32) : Fld := ⟨.ch c, 0x4c, 8, 8, 25⟩
/-- OUT_FUSE.WIRE_CLASS (Table 4.15). -/
abbrev F.OUT_FUSE_WIRE_CLASS (c : Fin 32) : Fld := ⟨.ch c, 0x4c, 0, 3, 0⟩
/-- OUT_CLAMP.DRAIN (Table 4.16). -/
abbrev F.OUT_CLAMP_DRAIN (c : Fin 32) : Fld := ⟨.ch c, 0x50, 16, 9, 50⟩
/-- OUT_CLAMP.CAPACITY (Table 4.16). -/
abbrev F.OUT_CLAMP_CAPACITY (c : Fin 32) : Fld := ⟨.ch c, 0x50, 0, 10, 100⟩
/-- OUT_STATE.SWITCH (Table 4.17). -/
abbrev F.OUT_STATE_SWITCH (c : Fin 32) : Fld := ⟨.ch c, 0x54, 23, 1, 0⟩
/-- OUT_STATE.INRUSH_RUN (Table 4.17). -/
abbrev F.OUT_STATE_INRUSH_RUN (c : Fin 32) : Fld := ⟨.ch c, 0x54, 22, 1, 0⟩
/-- OUT_STATE.CMD_HELD (Table 4.17). -/
abbrev F.OUT_STATE_CMD_HELD (c : Fin 32) : Fld := ⟨.ch c, 0x54, 21, 1, 0⟩
/-- OUT_STATE.SUPPLY_OFF (Table 4.17). -/
abbrev F.OUT_STATE_SUPPLY_OFF (c : Fin 32) : Fld := ⟨.ch c, 0x54, 20, 1, 0⟩
/-- OUT_STATE.DERATED (Table 4.17). -/
abbrev F.OUT_STATE_DERATED (c : Fin 32) : Fld := ⟨.ch c, 0x54, 19, 1, 0⟩
/-- OUT_STATE.DWELL_TRIP (Table 4.17). -/
abbrev F.OUT_STATE_DWELL_TRIP (c : Fin 32) : Fld := ⟨.ch c, 0x54, 18, 1, 0⟩
/-- OUT_STATE.LATCHES (Table 4.17). -/
abbrev F.OUT_STATE_LATCHES (c : Fin 32) : Fld := ⟨.ch c, 0x54, 8, 4, 0⟩
/-- OUT_STATE.STATE (Table 4.17). -/
abbrev F.OUT_STATE_STATE (c : Fin 32) : Fld := ⟨.ch c, 0x54, 0, 4, 0⟩
/-- OUT_DIAG.SUSPECT (Table 4.18). -/
abbrev F.OUT_DIAG_SUSPECT (c : Fin 32) : Fld := ⟨.ch c, 0x58, 16, 5, 0⟩
/-- OUT_DIAG.THERM_WARN (Table 4.18). -/
abbrev F.OUT_DIAG_THERM_WARN (c : Fin 32) : Fld := ⟨.ch c, 0x58, 6, 1, 0⟩
/-- OUT_DIAG.PAIR_IMBAL (Table 4.18). -/
abbrev F.OUT_DIAG_PAIR_IMBAL (c : Fin 32) : Fld := ⟨.ch c, 0x58, 5, 1, 0⟩
/-- OUT_DIAG.WIRED (Table 4.18). -/
abbrev F.OUT_DIAG_WIRED (c : Fin 32) : Fld := ⟨.ch c, 0x58, 4, 1, 0⟩
/-- OUT_DIAG.CROSS_DRIVE (Table 4.18). -/
abbrev F.OUT_DIAG_CROSS_DRIVE (c : Fin 32) : Fld := ⟨.ch c, 0x58, 3, 1, 0⟩
/-- OUT_DIAG.SHORT_LPLUS (Table 4.18). -/
abbrev F.OUT_DIAG_SHORT_LPLUS (c : Fin 32) : Fld := ⟨.ch c, 0x58, 2, 1, 0⟩
/-- OUT_DIAG.OL_OFF (Table 4.18). -/
abbrev F.OUT_DIAG_OL_OFF (c : Fin 32) : Fld := ⟨.ch c, 0x58, 1, 1, 0⟩
/-- OUT_DIAG.OL_ON (Table 4.18). -/
abbrev F.OUT_DIAG_OL_ON (c : Fin 32) : Fld := ⟨.ch c, 0x58, 0, 1, 0⟩
/-- OUT_CURRENT.CURRENT (Table 4.19). -/
abbrev F.OUT_CURRENT (c : Fin 32) : Fld := ⟨.ch c, 0x5c, 0, 16, 0⟩
/-- OUT_FUSE_STATE.THETA (Table 4.20). -/
abbrev F.OUT_FUSE_STATE_THETA (c : Fin 32) : Fld := ⟨.ch c, 0x60, 0, 16, 0⟩
/-- OUT_TEMP.TJ (Table 4.21). -/
abbrev F.OUT_TEMP_TJ (c : Fin 32) : Fld := ⟨.ch c, 0x64, 0, 16, 0⟩
/-- OUT_BUCKET.LAST_EVENT (Table 4.22). -/
abbrev F.OUT_BUCKET_LAST_EVENT (c : Fin 32) : Fld := ⟨.ch c, 0x68, 16, 16, 0⟩
/-- OUT_BUCKET.LEVEL (Table 4.22). -/
abbrev F.OUT_BUCKET_LEVEL (c : Fin 32) : Fld := ⟨.ch c, 0x68, 0, 16, 0⟩
/-- OUT_CLEAR.FAULT (Table 4.23). -/
abbrev F.OUT_CLEAR_FAULT (c : Fin 32) : Fld := ⟨.ch c, 0x6c, 2, 1, 0⟩
/-- OUT_CLEAR.CLAMP (Table 4.23). -/
abbrev F.OUT_CLEAR_CLAMP (c : Fin 32) : Fld := ⟨.ch c, 0x6c, 1, 1, 0⟩
/-- OUT_CLEAR.FUSE (Table 4.23). -/
abbrev F.OUT_CLEAR_FUSE (c : Fin 32) : Fld := ⟨.ch c, 0x6c, 0, 1, 0⟩
/-- OUT_FAULT.THERM_COUNT (Table 4.24). -/
abbrev F.OUT_FAULT_THERM_COUNT (c : Fin 32) : Fld := ⟨.ch c, 0x70, 8, 8, 0⟩
/-- OUT_FAULT.CAUSE (Table 4.24). -/
abbrev F.OUT_FAULT_CAUSE (c : Fin 32) : Fld := ⟨.ch c, 0x70, 0, 4, 0⟩
/-- TO_CFG.PWM_PRESET (Table 5.18). -/
abbrev F.TO_CFG_PWM_PRESET (c : Fin 32) : Fld := ⟨.ch c, 0x80, 5, 1, 0⟩
/-- TO_CFG.PWM_RUN (Table 5.18). -/
abbrev F.TO_CFG_PWM_RUN (c : Fin 32) : Fld := ⟨.ch c, 0x80, 4, 1, 0⟩
/-- TO_CFG.COMP (Table 5.18). -/
abbrev F.TO_CFG_COMP (c : Fin 32) : Fld := ⟨.ch c, 0x80, 0, 1, 1⟩
/-- TO_DELAY_ON.DREF (Table 5.19). -/
abbrev F.TO_DELAY_ON_DREF (c : Fin 32) : Fld := ⟨.ch c, 0x84, 16, 16, 0⟩
/-- TO_DELAY_ON.LAST (Table 5.19). -/
abbrev F.TO_DELAY_ON_LAST (c : Fin 32) : Fld := ⟨.ch c, 0x84, 0, 16, 0⟩
/-- TO_DELAY_OFF.DREF (Table 5.20). -/
abbrev F.TO_DELAY_OFF_DREF (c : Fin 32) : Fld := ⟨.ch c, 0x88, 16, 16, 0⟩
/-- TO_DELAY_OFF.LAST (Table 5.20). -/
abbrev F.TO_DELAY_OFF_LAST (c : Fin 32) : Fld := ⟨.ch c, 0x88, 0, 16, 0⟩
/-- TO_STATUS.OUTLIERS (Table 5.21). -/
abbrev F.TO_STATUS_OUTLIERS (c : Fin 32) : Fld := ⟨.ch c, 0x8c, 16, 16, 0⟩
/-- TO_STATUS.OFF_N (Table 5.21). -/
abbrev F.TO_STATUS_OFF_N (c : Fin 32) : Fld := ⟨.ch c, 0x8c, 8, 4, 0⟩
/-- TO_STATUS.ON_N (Table 5.21). -/
abbrev F.TO_STATUS_ON_N (c : Fin 32) : Fld := ⟨.ch c, 0x8c, 4, 4, 0⟩
/-- TO_STATUS.PWM_ACTIVE (Table 5.21). -/
abbrev F.TO_STATUS_PWM_ACTIVE (c : Fin 32) : Fld := ⟨.ch c, 0x8c, 2, 1, 0⟩
/-- TO_STATUS.PEAK (Table 5.21). -/
abbrev F.TO_STATUS_PEAK (c : Fin 32) : Fld := ⟨.ch c, 0x8c, 1, 1, 0⟩
/-- TO_STATUS.LAST_UNCOMP (Table 5.21). -/
abbrev F.TO_STATUS_LAST_UNCOMP (c : Fin 32) : Fld := ⟨.ch c, 0x8c, 0, 1, 0⟩
/-- SK_CFG.INDUCTIVE (Table 6.5). -/
abbrev F.SK_CFG_INDUCTIVE (c : Fin 32) : Fld := ⟨.ch c, 0xa0, 31, 1, 0⟩
/-- SK_CFG.NOTIFY (Table 6.5). -/
abbrev F.SK_CFG_NOTIFY (c : Fin 32) : Fld := ⟨.ch c, 0xa0, 30, 1, 0⟩
/-- SK_CFG.RELEARN (Table 6.5). -/
abbrev F.SK_CFG_RELEARN (c : Fin 32) : Fld := ⟨.ch c, 0xa0, 29, 1, 0⟩
/-- SK_CFG.SMOOTH (Table 6.5). -/
abbrev F.SK_CFG_SMOOTH (c : Fin 32) : Fld := ⟨.ch c, 0xa0, 26, 3, 4⟩
/-- SK_CFG.WINDOW (Table 6.5). -/
abbrev F.SK_CFG_WINDOW (c : Fin 32) : Fld := ⟨.ch c, 0xa0, 16, 10, 100⟩
/-- SK_CFG.DEPTH (Table 6.5). -/
abbrev F.SK_CFG_DEPTH (c : Fin 32) : Fld := ⟨.ch c, 0xa0, 10, 6, 5⟩
/-- SK_CFG.SLOW (Table 6.5). -/
abbrev F.SK_CFG_SLOW (c : Fin 32) : Fld := ⟨.ch c, 0xa0, 7, 3, 2⟩
/-- SK_CFG.BLANK (Table 6.5). -/
abbrev F.SK_CFG_BLANK (c : Fin 32) : Fld := ⟨.ch c, 0xa0, 0, 7, 5⟩
/-- SK_BASE.COUNT (Table 6.6). -/
abbrev F.SK_BASE_COUNT (c : Fin 32) : Fld := ⟨.ch c, 0xa4, 27, 5, 0⟩
/-- SK_BASE.BDEPTH (Table 6.6). -/
abbrev F.SK_BASE_BDEPTH (c : Fin 32) : Fld := ⟨.ch c, 0xa4, 16, 8, 0⟩
/-- SK_BASE.BSTROKE (Table 6.6). -/
abbrev F.SK_BASE_BSTROKE (c : Fin 32) : Fld := ⟨.ch c, 0xa4, 0, 16, 0⟩
/-- SK_LAST.RESULT (Table 6.7). -/
abbrev F.SK_LAST_RESULT (c : Fin 32) : Fld := ⟨.ch c, 0xa8, 28, 4, 0⟩
/-- SK_LAST.REASON (Table 6.7). -/
abbrev F.SK_LAST_REASON (c : Fin 32) : Fld := ⟨.ch c, 0xa8, 24, 4, 0⟩
/-- SK_LAST.DEPTH (Table 6.7). -/
abbrev F.SK_LAST_DEPTH (c : Fin 32) : Fld := ⟨.ch c, 0xa8, 16, 8, 0⟩
/-- SK_LAST.STROKE (Table 6.7). -/
abbrev F.SK_LAST_STROKE (c : Fin 32) : Fld := ⟨.ch c, 0xa8, 0, 16, 0⟩
/-- SK_TREND.TREND (Table 6.8). -/
abbrev F.SK_TREND_TREND (c : Fin 32) : Fld := ⟨.ch c, 0xac, 16, 16, 0⟩
/-- SK_TREND.MISSES (Table 6.8). -/
abbrev F.SK_TREND_MISSES (c : Fin 32) : Fld := ⟨.ch c, 0xac, 0, 16, 0⟩
/-- IN_CFG.TYPE (Table 7.9). -/
abbrev F.IN_CFG_TYPE (c : Fin 32) : Fld := ⟨.ch c, 0xb0, 30, 2, 2⟩
/-- IN_CFG.TS_EDGE (Table 7.9). -/
abbrev F.IN_CFG_TS_EDGE (c : Fin 32) : Fld := ⟨.ch c, 0xb0, 28, 2, 0⟩
/-- IN_CFG.TALLY_EDGE (Table 7.9). -/
abbrev F.IN_CFG_TALLY_EDGE (c : Fin 32) : Fld := ⟨.ch c, 0xb0, 26, 2, 0⟩
/-- IN_CFG.NOTIFY (Table 7.9). -/
abbrev F.IN_CFG_NOTIFY (c : Fin 32) : Fld := ⟨.ch c, 0xb0, 25, 1, 0⟩
/-- IN_CFG.HYST (Table 7.9). -/
abbrev F.IN_CFG_HYST (c : Fin 32) : Fld := ⟨.ch c, 0xb0, 16, 8, 20⟩
/-- IN_CFG.THRESH (Table 7.9). -/
abbrev F.IN_CFG_THRESH (c : Fin 32) : Fld := ⟨.ch c, 0xb0, 0, 9, 80⟩
/-- IN_FILTER.RANGE (Table 7.10). -/
abbrev F.IN_FILTER_RANGE (c : Fin 32) : Fld := ⟨.ch c, 0xb4, 12, 2, 0⟩
/-- IN_FILTER.COUNT (Table 7.10). -/
abbrev F.IN_FILTER_COUNT (c : Fin 32) : Fld := ⟨.ch c, 0xb4, 0, 10, 25⟩
/-- IN_WB.WB_TIME (Table 7.11). -/
abbrev F.IN_WB_WB_TIME (c : Fin 32) : Fld := ⟨.ch c, 0xb8, 16, 8, 10⟩
/-- IN_WB.WB_THRESH (Table 7.11). -/
abbrev F.IN_WB_WB_THRESH (c : Fin 32) : Fld := ⟨.ch c, 0xb8, 0, 8, 0⟩
/-- IN_STATUS.EDGE_SEQ (Table 7.12). -/
abbrev F.IN_STATUS_EDGE_SEQ (c : Fin 32) : Fld := ⟨.ch c, 0xbc, 16, 16, 0⟩
/-- IN_STATUS.TS_LOST (Table 7.12). -/
abbrev F.IN_STATUS_TS_LOST (c : Fin 32) : Fld := ⟨.ch c, 0xbc, 4, 1, 0⟩
/-- IN_STATUS.TALLY_OVF (Table 7.12). -/
abbrev F.IN_STATUS_TALLY_OVF (c : Fin 32) : Fld := ⟨.ch c, 0xbc, 3, 1, 0⟩
/-- IN_STATUS.WIRE_BREAK (Table 7.12). -/
abbrev F.IN_STATUS_WIRE_BREAK (c : Fin 32) : Fld := ⟨.ch c, 0xbc, 2, 1, 0⟩
/-- IN_STATUS.VALID (Table 7.12). -/
abbrev F.IN_STATUS_VALID (c : Fin 32) : Fld := ⟨.ch c, 0xbc, 1, 1, 0⟩
/-- IN_STATUS.STATE (Table 7.12). -/
abbrev F.IN_STATUS_STATE (c : Fin 32) : Fld := ⟨.ch c, 0xbc, 0, 1, 0⟩
/-- IN_TALLY.TALLY (Table 7.13). -/
abbrev F.IN_TALLY (c : Fin 32) : Fld := ⟨.ch c, 0xc0, 0, 32, 0⟩
/-- IN_COUNTS.GLITCHES (Table 7.15). -/
abbrev F.IN_COUNTS_GLITCHES (c : Fin 32) : Fld := ⟨.ch c, 0xcc, 16, 16, 0⟩
/-- IN_COUNTS.TS_LOST (Table 7.15). -/
abbrev F.IN_COUNTS_TS_LOST (c : Fin 32) : Fld := ⟨.ch c, 0xcc, 0, 16, 0⟩
/-- AN_CFG.LOOP_SUPPLY (Table 8.7). -/
abbrev F.AN_CFG_LOOP_SUPPLY (c : Fin 32) : Fld := ⟨.ch c, 0xd0, 31, 1, 0⟩
/-- AN_CFG.RAMP (Table 8.7). -/
abbrev F.AN_CFG_RAMP (c : Fin 32) : Fld := ⟨.ch c, 0xd0, 16, 8, 0⟩
/-- AN_CFG.MISMATCH (Table 8.7). -/
abbrev F.AN_CFG_MISMATCH (c : Fin 32) : Fld := ⟨.ch c, 0xd0, 8, 8, 10⟩
/-- AN_CFG.MISMATCH_TIME (Table 8.7). -/
abbrev F.AN_CFG_MISMATCH_TIME (c : Fin 32) : Fld := ⟨.ch c, 0xd0, 0, 8, 10⟩
/-- AN_LOOP.HIGH (Table 8.8). -/
abbrev F.AN_LOOP_HIGH (c : Fin 32) : Fld := ⟨.ch c, 0xd4, 24, 8, 210⟩
/-- AN_LOOP.LOW (Table 8.8). -/
abbrev F.AN_LOOP_LOW (c : Fin 32) : Fld := ⟨.ch c, 0xd4, 16, 8, 36⟩
/-- AN_LOOP.CHECK_TIME (Table 8.8). -/
abbrev F.AN_LOOP_CHECK_TIME (c : Fin 32) : Fld := ⟨.ch c, 0xd4, 0, 8, 10⟩
/-- AN_DAC.CODE (Table 8.9). -/
abbrev F.AN_DAC_CODE (c : Fin 32) : Fld := ⟨.ch c, 0xd8, 0, 16, 0⟩
/-- AN_CLAMP.CODE_MAX (Table 8.10). -/
abbrev F.AN_CLAMP_CODE_MAX (c : Fin 32) : Fld := ⟨.ch c, 0xdc, 16, 16, 65535⟩
/-- AN_CLAMP.CODE_MIN (Table 8.10). -/
abbrev F.AN_CLAMP_CODE_MIN (c : Fin 32) : Fld := ⟨.ch c, 0xdc, 0, 16, 0⟩
/-- AN_STATUS.DAC_NOW (Table 8.11). -/
abbrev F.AN_STATUS_DAC_NOW (c : Fin 32) : Fld := ⟨.ch c, 0xe0, 16, 16, 0⟩
/-- AN_STATUS.HOT (Table 8.11). -/
abbrev F.AN_STATUS_HOT (c : Fin 32) : Fld := ⟨.ch c, 0xe0, 10, 1, 0⟩
/-- AN_STATUS.CLAMPED (Table 8.11). -/
abbrev F.AN_STATUS_CLAMPED (c : Fin 32) : Fld := ⟨.ch c, 0xe0, 9, 1, 0⟩
/-- AN_STATUS.RAMPING (Table 8.11). -/
abbrev F.AN_STATUS_RAMPING (c : Fin 32) : Fld := ⟨.ch c, 0xe0, 8, 1, 0⟩
/-- AN_STATUS.IN_OVERLOAD (Table 8.11). -/
abbrev F.AN_STATUS_IN_OVERLOAD (c : Fin 32) : Fld := ⟨.ch c, 0xe0, 7, 1, 0⟩
/-- AN_STATUS.LOOP_SHORT (Table 8.11). -/
abbrev F.AN_STATUS_LOOP_SHORT (c : Fin 32) : Fld := ⟨.ch c, 0xe0, 6, 1, 0⟩
/-- AN_STATUS.OVERLOAD (Table 8.11). -/
abbrev F.AN_STATUS_OVERLOAD (c : Fin 32) : Fld := ⟨.ch c, 0xe0, 5, 1, 0⟩
/-- AN_STATUS.OPEN (Table 8.11). -/
abbrev F.AN_STATUS_OPEN (c : Fin 32) : Fld := ⟨.ch c, 0xe0, 4, 1, 0⟩
/-- AN_STATUS.MISMATCH (Table 8.11). -/
abbrev F.AN_STATUS_MISMATCH (c : Fin 32) : Fld := ⟨.ch c, 0xe0, 3, 1, 0⟩
/-- AN_STATUS.COMPLIANCE (Table 8.11). -/
abbrev F.AN_STATUS_COMPLIANCE (c : Fin 32) : Fld := ⟨.ch c, 0xe0, 2, 1, 0⟩
/-- AN_STATUS.OVER (Table 8.11). -/
abbrev F.AN_STATUS_OVER (c : Fin 32) : Fld := ⟨.ch c, 0xe0, 1, 1, 0⟩
/-- AN_STATUS.UNDER (Table 8.11). -/
abbrev F.AN_STATUS_UNDER (c : Fin 32) : Fld := ⟨.ch c, 0xe0, 0, 1, 0⟩
/-- AN_MEAS.VOLT (Table 8.12). -/
abbrev F.AN_MEAS_VOLT (c : Fin 32) : Fld := ⟨.ch c, 0xe4, 16, 16, 0⟩
/-- AN_MEAS.CURRENT (Table 8.12). -/
abbrev F.AN_MEAS_CURRENT (c : Fin 32) : Fld := ⟨.ch c, 0xe4, 0, 16, 0⟩
/-- IOL_CTRL.START (Table 12.10). -/
abbrev F.IOL_CTRL_START (c : Fin 32) : Fld := ⟨.ch c, 0xe8, 31, 1, 0⟩
/-- IOL_CTRL.TARGET (Table 12.10). -/
abbrev F.IOL_CTRL_TARGET (c : Fin 32) : Fld := ⟨.ch c, 0xe8, 29, 2, 0⟩
/-- IOL_CTRL.ADMIT (Table 12.10). -/
abbrev F.IOL_CTRL_ADMIT (c : Fin 32) : Fld := ⟨.ch c, 0xe8, 28, 1, 0⟩
/-- IOL_CTRL.REASON (Table 12.10). -/
abbrev F.IOL_CTRL_REASON (c : Fin 32) : Fld := ⟨.ch c, 0xe8, 24, 4, 0⟩
/-- IOL_CTRL.STATE (Table 12.10). -/
abbrev F.IOL_CTRL_STATE (c : Fin 32) : Fld := ⟨.ch c, 0xe8, 20, 4, 0⟩
/-- IOL_CTRL.COM (Table 12.10). -/
abbrev F.IOL_CTRL_COM (c : Fin 32) : Fld := ⟨.ch c, 0xe8, 18, 2, 0⟩
/-- IOL_CTRL.PD_VALID (Table 12.10). -/
abbrev F.IOL_CTRL_PD_VALID (c : Fin 32) : Fld := ⟨.ch c, 0xe8, 17, 1, 0⟩
/-- IOL_CTRL.PD_NOTIFY (Table 12.10). -/
abbrev F.IOL_CTRL_PD_NOTIFY (c : Fin 32) : Fld := ⟨.ch c, 0xe8, 16, 1, 0⟩
/-- IOL_CTRL.CYCLE (Table 12.10). -/
abbrev F.IOL_CTRL_CYCLE (c : Fin 32) : Fld := ⟨.ch c, 0xe8, 8, 8, 0⟩
/-- IOL_CTRL.OFFSET (Table 12.10). -/
abbrev F.IOL_CTRL_OFFSET (c : Fin 32) : Fld := ⟨.ch c, 0xe8, 0, 8, 0⟩
/-- IOL_PD.PDIN (Table 12.11). -/
abbrev F.IOL_PD_PDIN (c : Fin 32) : Fld := ⟨.ch c, 0xec, 16, 16, 0⟩
/-- IOL_PD.PDOUT (Table 12.11). -/
abbrev F.IOL_PD_PDOUT (c : Fin 32) : Fld := ⟨.ch c, 0xec, 0, 16, 0⟩
/-- IN_LAST_LO.INSTANT (Table 7.14). -/
abbrev F.IN_LAST_LO_INSTANT (c : Fin 32) : Fld := ⟨.ch c, 0xc4, 2, 30, 0⟩
/-- IN_LAST_HI.INSTANT (Table 7.14). -/
abbrev F.IN_LAST_HI (c : Fin 32) : Fld := ⟨.ch c, 0xc8, 0, 32, 0⟩
/-- IN_LAST_LO.VALID (Table 7.14). -/
abbrev F.IN_LAST_LO_VALID (c : Fin 32) : Fld := ⟨.ch c, 0xc4, 1, 1, 0⟩
/-- IN_LAST_LO.DIR (Table 7.14). -/
abbrev F.IN_LAST_LO_DIR (c : Fin 32) : Fld := ⟨.ch c, 0xc4, 0, 1, 0⟩
/-- OUT_TALLY_A.FUSE_TRIPS (Table 4.25). -/
abbrev F.OUT_TALLY_A_FUSE_TRIPS (c : Fin 32) : Fld := ⟨.ch c, 0x74, 16, 16, 0⟩
/-- OUT_TALLY_A.THERMAL_OFFS (Table 4.25). -/
abbrev F.OUT_TALLY_A_THERMAL_OFFS (c : Fin 32) : Fld := ⟨.ch c, 0x74, 0, 16, 0⟩
/-- OUT_TALLY_B.CLAMP_LOCKS (Table 4.25). -/
abbrev F.OUT_TALLY_B_CLAMP_LOCKS (c : Fin 32) : Fld := ⟨.ch c, 0x78, 16, 16, 0⟩
/-- OUT_TALLY_B.SHEDS (Table 4.25). -/
abbrev F.OUT_TALLY_B_SHEDS (c : Fin 32) : Fld := ⟨.ch c, 0x78, 0, 16, 0⟩
/-- OUT_TALLY_C.CLEAR_REFUSED (Table 4.25). -/
abbrev F.OUT_TALLY_C_CLEAR_REFUSED (c : Fin 32) : Fld := ⟨.ch c, 0x7c, 16, 16, 0⟩
/-- OUT_TALLY_C.FAULT_LATCHES (Table 4.25). -/
abbrev F.OUT_TALLY_C_FAULT_LATCHES (c : Fin 32) : Fld := ⟨.ch c, 0x7c, 0, 16, 0⟩
/-- PWM_P0_TIMING.PERIOD (Table 5.22). -/
abbrev F.PWM_P0_TIMING_PERIOD (c : Fin 32) : Fld := ⟨.ch c, 0x90, 8, 24, 625⟩
/-- PWM_P1_TIMING.PERIOD (Table 5.22). -/
abbrev F.PWM_P1_TIMING_PERIOD (c : Fin 32) : Fld := ⟨.ch c, 0x98, 8, 24, 625⟩
/-- PWM_P0_TIMING.PHASE (Table 5.22). -/
abbrev F.PWM_P0_TIMING_PHASE (c : Fin 32) : Fld := ⟨.ch c, 0x90, 0, 8, 0⟩
/-- PWM_P1_TIMING.PHASE (Table 5.22). -/
abbrev F.PWM_P1_TIMING_PHASE (c : Fin 32) : Fld := ⟨.ch c, 0x98, 0, 8, 0⟩
/-- PWM_P0_SHAPE.DUTY (Table 5.22). -/
abbrev F.PWM_P0_SHAPE_DUTY (c : Fin 32) : Fld := ⟨.ch c, 0x94, 16, 16, 0⟩
/-- PWM_P1_SHAPE.DUTY (Table 5.22). -/
abbrev F.PWM_P1_SHAPE_DUTY (c : Fin 32) : Fld := ⟨.ch c, 0x9c, 16, 16, 0⟩
/-- PWM_P0_SHAPE.PEAK (Table 5.22). -/
abbrev F.PWM_P0_SHAPE_PEAK (c : Fin 32) : Fld := ⟨.ch c, 0x94, 0, 16, 0⟩
/-- PWM_P1_SHAPE.PEAK (Table 5.22). -/
abbrev F.PWM_P1_SHAPE_PEAK (c : Fin 32) : Fld := ⟨.ch c, 0x9c, 0, 16, 0⟩

/-- GRP_SAFE_n.KIND (Table 13.22). -/
abbrev F.GRP_SAFE_KIND (g : Fin 4) (n : Fin 8) : Fld := ⟨.grp g, 0x60 + 4 * n.val, 29, 3, 0⟩
/-- GRP_SAFE_n.CODE (Table 13.22). -/
abbrev F.GRP_SAFE_CODE (g : Fin 4) (n : Fin 8) : Fld := ⟨.grp g, 0x60 + 4 * n.val, 0, 16, 0⟩
/-- EN of the limp-home map entry of output channel n (Table 13.20). -/
abbrev F.GRP_LIMP_EN (g : Fin 4) (n : Fin 8) : Fld := ⟨.grp g, 0x4c + 4 * (n.val / 4), 8 * (n.val % 4) + 7, 1, 0⟩
/-- INV of the limp-home map entry of output channel n (Table 13.20). -/
abbrev F.GRP_LIMP_INV (g : Fin 4) (n : Fin 8) : Fld := ⟨.grp g, 0x4c + 4 * (n.val / 4), 8 * (n.val % 4) + 6, 1, 0⟩
/-- SRC of the limp-home map entry of output channel n (Table 13.20). -/
abbrev F.GRP_LIMP_SRC (g : Fin 4) (n : Fin 8) : Fld := ⟨.grp g, 0x4c + 4 * (n.val / 4), 8 * (n.val % 4), 3, 0⟩
/-- GRP_AGE_DERATE REDUCE of channel n (Table 20.14). -/
abbrev F.GRP_AGE_REDUCE (g : Fin 4) (n : Fin 8) : Fld := ⟨.grp g, 0x150 + 4 * (n.val / 4), 8 * (n.val % 4), 8, 0⟩
/-- Window state of housekeeping slot k (GRP_HK_RESULT_j STATE_L and STATE_H, Table 20.14). -/
abbrev F.GRP_HK_STATE (g : Fin 4) (k : Fin 24) : Fld := ⟨.grp g, 0xc0 + 4 * (k.val / 2), 14 + 16 * (k.val % 2), 2, 3⟩
/-- Last code of housekeeping slot k (GRP_HK_RESULT_j CODE_L and CODE_H, Table 20.14). -/
abbrev F.GRP_HK_CODE (g : Fin 4) (k : Fin 24) : Fld := ⟨.grp g, 0xc0 + 4 * (k.val / 2), 16 * (k.val % 2), 12, 0⟩
/-- The window at reset of housekeeping slot k: EN, HIGH, LOW (Table 20.3). -/
def hkWinReset (k : Nat) : Nat × Nat × Nat :=
  if k = 0 then (1, 3264, 384) else if k ≤ 8 then (1, 3424, 384)
  else if k = 11 then (1, 1100, 900) else if k = 12 then (1, 3465, 3135)
  else if k = 13 then (1, 1260, 1140) else if k = 14 ∨ k = 15 then (1, 2510, 2490)
  else (0, 4095, 0)
/-- GRP_HK_WIN_k.EN (Tables 20.14 and 20.3). -/
abbrev F.GRP_HK_WIN_EN (g : Fin 4) (k : Fin 24) : Fld := ⟨.grp g, 0xf0 + 4 * k.val, 31, 1, (hkWinReset k.val).1⟩
/-- GRP_HK_WIN_k.HIGH (Tables 20.14 and 20.3). -/
abbrev F.GRP_HK_WIN_HIGH (g : Fin 4) (k : Fin 24) : Fld := ⟨.grp g, 0xf0 + 4 * k.val, 16, 12, (hkWinReset k.val).2.1⟩
/-- GRP_HK_WIN_k.LOW (Tables 20.14 and 20.3). -/
abbrev F.GRP_HK_WIN_LOW (g : Fin 4) (k : Fin 24) : Fld := ⟨.grp g, 0xf0 + 4 * k.val, 0, 12, (hkWinReset k.val).2.2⟩
/-- HK_HOURS of die d, bin b (Table 20.12). -/
abbrev F.HK_HOURS (d : Fin 5) (b : Fin 4) : Fld := ⟨.hours d, 4 * b.val, 0, 32, 0⟩
/-- LDG_LOCAL_g.LAST (Table 21.11). -/
abbrev F.LDG_LOCAL_LAST (g : Fin 4) : Fld := ⟨.ldg, 0x4c + 4 * g.val, 16, 16, 0⟩
/-- LDG_LOCAL_g.GAPS (Table 21.11). -/
abbrev F.LDG_LOCAL_GAPS (g : Fin 4) : Fld := ⟨.ldg, 0x4c + 4 * g.val, 8, 8, 0⟩
/-- LDG_LOCAL_g.FROZEN (Table 21.11). -/
abbrev F.LDG_LOCAL_FROZEN (g : Fin 4) : Fld := ⟨.ldg, 0x4c + 4 * g.val, 7, 1, 0⟩
/-- LDG_LOCAL_g.COUNT (Table 21.11). -/
abbrev F.LDG_LOCAL_COUNT (g : Fin 4) : Fld := ⟨.ldg, 0x4c + 4 * g.val, 0, 7, 0⟩
/-- IRQ_CAUSE of a unit (Table 2.8). -/
abbrev F.CAUSE (u : U) : Fld := ⟨u, 0x10, 0, 32, 0⟩
/-- IRQ_ENABLE of a unit (Table 2.8). -/
abbrev F.ENABLE (u : U) : Fld := ⟨u, 0x14, 0, 32, 0⟩
/-- IRQ_ROUTE.FW of a unit (Table 2.8). -/
abbrev F.ROUTE_FW (u : U) : Fld := ⟨u, 0x18, 9, 1, 0⟩
/-- IRQ_ROUTE.SV of a unit (Table 2.8). -/
abbrev F.ROUTE_SV (u : U) : Fld := ⟨u, 0x18, 8, 1, 0⟩
/-- IRQ_ROUTE.MSIX of a unit (Table 2.8). -/
abbrev F.ROUTE_MSIX (u : U) : Fld := ⟨u, 0x18, 7, 1, 0⟩
/-- IRQ_ROUTE.VECTOR of a unit (Table 2.8). -/
abbrev F.ROUTE_VECTOR (u : U) : Fld := ⟨u, 0x18, 0, 6, 0⟩

end Sys2Proof.Machine
end

