-- ==== Sys2Proof/Machine/RegTable.lean ====
section
/-! DEFINITION. The layout of every register word: for each unit the list of its fields with their access code
(R8, Table 0.3), as the register tables of the spec give them, the interrupt words of R49, and the BAR0 offsets of the
units (R35, R490). A bit that no row names is reserved (R7). -/

namespace Sys2Proof.Machine

/-- The access codes of Table 0.3 that a field carries beside HO. -/
inductive Acc where
  | ro | rw | w1c | wo | rwl
deriving DecidableEq, Repr

/-- One row of a register table: word offset in the unit, lowest bit, width, reset value, access code, and whether the
field is HO (R8). -/
structure Row where
  off : Nat
  lo : Nat
  w : Nat
  dflt : Nat
  acc : Acc
  ho : Bool
deriving DecidableEq, Repr

/-- The interrupt words of every unit (R49, Table 2.8). -/
def irqRows : List Row :=
  [⟨0x10, 0, 32, 0, .w1c, false⟩, ⟨0x14, 0, 32, 0, .rw, false⟩, ⟨0x18, 9, 1, 0, .rw, false⟩,
   ⟨0x18, 8, 1, 0, .rw, false⟩, ⟨0x18, 7, 1, 0, .rw, false⟩, ⟨0x18, 0, 6, 0, .rw, false⟩]

/-- Fields of the root unit (Tables 1.10 to 1.13, 2.5, 2.10, 2.11, 22.5, 22.6), part 0. -/
def layout_root_0 : List Row :=
  [⟨0x24, 16, 16, 0, .wo, true⟩,
   ⟨0x24, 1, 1, 0, .wo, true⟩,
   ⟨0x24, 0, 1, 0, .wo, true⟩,
   ⟨0x28, 28, 4, 0, .ro, false⟩,
   ⟨0x28, 16, 8, 0, .ro, false⟩,
   ⟨0x28, 8, 8, 0, .ro, false⟩,
   ⟨0x28, 2, 1, 0, .ro, false⟩,
   ⟨0x28, 1, 1, 0, .ro, false⟩,
   ⟨0x28, 0, 1, 0, .ro, false⟩,
   ⟨0x40, 0, 14, 8630, .rw, true⟩,
   ⟨0x44, 24, 8, 150, .rw, true⟩,
   ⟨0x44, 16, 8, 150, .rw, true⟩,
   ⟨0x44, 8, 8, 150, .rw, true⟩,
   ⟨0x44, 0, 8, 150, .rw, true⟩,
   ⟨0x48, 0, 14, 3300, .ro, false⟩,
   ⟨0x4c, 16, 16, 0, .ro, false⟩,
   ⟨0x4c, 8, 5, 0, .ro, false⟩,
   ⟨0x4c, 1, 1, 0, .w1c, false⟩,
   ⟨0x4c, 0, 1, 0, .ro, false⟩,
   ⟨0x50, 31, 1, 1, .ro, false⟩,
   ⟨0x50, 16, 15, 32767, .ro, false⟩,
   ⟨0x50, 0, 16, 0, .ro, false⟩,
   ⟨0x54, 31, 1, 1, .ro, false⟩,
   ⟨0x54, 16, 15, 32767, .ro, false⟩]
/-- Fields of the root unit (Tables 1.10 to 1.13, 2.5, 2.10, 2.11, 22.5, 22.6), part 1. -/
def layout_root_1 : List Row :=
  [⟨0x54, 0, 16, 0, .ro, false⟩,
   ⟨0x58, 31, 1, 1, .ro, false⟩,
   ⟨0x58, 16, 15, 32767, .ro, false⟩,
   ⟨0x58, 0, 16, 0, .ro, false⟩,
   ⟨0x5c, 31, 1, 1, .ro, false⟩,
   ⟨0x5c, 16, 15, 32767, .ro, false⟩,
   ⟨0x5c, 0, 16, 0, .ro, false⟩,
   ⟨0x60, 31, 1, 1, .ro, false⟩,
   ⟨0x60, 16, 15, 32767, .ro, false⟩,
   ⟨0x60, 0, 16, 0, .ro, false⟩,
   ⟨0x64, 16, 16, 0, .ro, false⟩,
   ⟨0x64, 0, 16, 0, .ro, false⟩,
   ⟨0x68, 16, 16, 0, .ro, false⟩,
   ⟨0x68, 0, 16, 0, .ro, false⟩]
/-- Fields of the root unit (Tables 1.10 to 1.13, 2.5, 2.10, 2.11, 22.5, 22.6). -/
def layout_root : List Row := layout_root_0 ++ layout_root_1
/-- Fields of the time base (Tables 11.6 to 11.11), part 0. -/
def layout_tb_0 : List Row :=
  [⟨0x20, 8, 1, 0, .rw, false⟩,
   ⟨0x20, 7, 1, 0, .rw, false⟩,
   ⟨0x20, 4, 1, 0, .rw, false⟩,
   ⟨0x20, 3, 1, 0, .rw, false⟩,
   ⟨0x20, 0, 2, 0, .rw, false⟩,
   ⟨0x24, 0, 32, 0, .ro, false⟩,
   ⟨0x28, 0, 32, 0, .ro, false⟩,
   ⟨0x2c, 0, 32, 0, .rw, false⟩,
   ⟨0x30, 0, 32, 0, .rw, false⟩,
   ⟨0x34, 0, 32, 0, .rw, false⟩,
   ⟨0x38, 0, 32, 0, .rw, false⟩,
   ⟨0x3c, 0, 23, 429497, .rw, false⟩,
   ⟨0x40, 0, 32, 0, .rw, false⟩,
   ⟨0x44, 0, 32, 0, .rw, false⟩,
   ⟨0x48, 0, 32, 0, .ro, false⟩,
   ⟨0x4c, 0, 32, 0, .ro, false⟩,
   ⟨0x50, 16, 16, 0, .ro, false⟩,
   ⟨0x50, 0, 1, 0, .ro, false⟩,
   ⟨0x54, 0, 32, 0, .rw, false⟩,
   ⟨0x58, 0, 32, 0, .rw, false⟩,
   ⟨0x5c, 0, 32, 1000000, .rw, false⟩,
   ⟨0x60, 0, 16, 250, .rw, false⟩,
   ⟨0x64, 16, 16, 0, .ro, false⟩,
   ⟨0x64, 8, 8, 0, .ro, false⟩]
/-- Fields of the time base (Tables 11.6 to 11.11), part 1. -/
def layout_tb_1 : List Row :=
  [⟨0x64, 4, 4, 15, .ro, false⟩,
   ⟨0x64, 3, 1, 0, .ro, false⟩,
   ⟨0x64, 2, 1, 0, .ro, false⟩,
   ⟨0x64, 1, 1, 0, .ro, false⟩,
   ⟨0x68, 0, 32, 0, .ro, false⟩,
   ⟨0x6c, 0, 32, 0, .ro, false⟩]
/-- Fields of the time base (Tables 11.6 to 11.11). -/
def layout_tb : List Row := layout_tb_0 ++ layout_tb_1
/-- Fields of the host link unit (Tables 15.14 to 15.17). -/
def layout_hl : List Row :=
  [⟨0x20, 20, 1, 0, .ro, false⟩,
   ⟨0x20, 19, 1, 0, .ro, false⟩,
   ⟨0x20, 18, 1, 0, .ro, false⟩,
   ⟨0x20, 17, 1, 0, .ro, false⟩,
   ⟨0x20, 16, 1, 0, .ro, false⟩,
   ⟨0x20, 12, 2, 0, .ro, false⟩,
   ⟨0x20, 4, 6, 0, .ro, false⟩,
   ⟨0x20, 0, 4, 0, .ro, false⟩,
   ⟨0x24, 16, 16, 0, .ro, false⟩,
   ⟨0x24, 0, 16, 0, .ro, false⟩,
   ⟨0x28, 16, 16, 0, .ro, false⟩,
   ⟨0x28, 0, 16, 0, .ro, false⟩,
   ⟨0x2c, 7, 1, 0, .ro, false⟩,
   ⟨0x2c, 0, 6, 0, .ro, false⟩]
/-- Fields of a ring (Table 15.18). -/
def layout_ring : List Row :=
  [⟨0x0, 12, 20, 0, .rw, false⟩,
   ⟨0x4, 0, 32, 0, .rw, false⟩,
   ⟨0x8, 16, 5, 4, .rw, false⟩,
   ⟨0x8, 8, 1, 0, .rw, false⟩,
   ⟨0x8, 1, 1, 0, .wo, false⟩,
   ⟨0x8, 0, 1, 0, .rw, false⟩,
   ⟨0xc, 0, 32, 0, .rw, false⟩,
   ⟨0x10, 3, 29, 0, .rw, false⟩,
   ⟨0x14, 0, 32, 0, .rw, false⟩,
   ⟨0x18, 0, 32, 0, .ro, false⟩,
   ⟨0x1c, 0, 32, 0, .ro, false⟩,
   ⟨0x20, 31, 1, 0, .rw, false⟩,
   ⟨0x20, 16, 8, 0, .rw, false⟩,
   ⟨0x20, 8, 8, 1, .rw, false⟩,
   ⟨0x20, 0, 6, 0, .rw, false⟩,
   ⟨0x24, 4, 2, 0, .ro, false⟩,
   ⟨0x24, 3, 1, 0, .ro, false⟩,
   ⟨0x24, 2, 1, 0, .ro, false⟩,
   ⟨0x24, 1, 1, 0, .ro, false⟩,
   ⟨0x24, 0, 1, 0, .ro, false⟩,
   ⟨0x28, 16, 16, 0, .ro, false⟩,
   ⟨0x28, 0, 16, 0, .ro, false⟩]
/-- Fields of the Drover (Tables 16.9 to 16.12). -/
def layout_drv : List Row :=
  [⟨0x20, 0, 1, 0, .wo, false⟩,
   ⟨0x24, 25, 1, 0, .ro, false⟩,
   ⟨0x24, 24, 1, 0, .ro, false⟩,
   ⟨0x24, 0, 24, 0, .ro, false⟩,
   ⟨0x28, 0, 32, 0, .ro, false⟩,
   ⟨0x2c, 0, 32, 0, .ro, false⟩,
   ⟨0x30, 16, 16, 0, .ro, false⟩,
   ⟨0x30, 0, 16, 0, .ro, false⟩]
/-- Fields of a Drover channel (Table 16.13), part 0. -/
def layout_drvCh_0 : List Row :=
  [⟨0x0, 31, 1, 0, .rw, false⟩,
   ⟨0x4, 0, 32, 0, .rw, false⟩,
   ⟨0x8, 0, 32, 0, .rw, false⟩,
   ⟨0xc, 0, 32, 0, .rw, false⟩,
   ⟨0x10, 0, 32, 0, .rw, false⟩,
   ⟨0x14, 0, 32, 0, .ro, false⟩,
   ⟨0x18, 0, 32, 0, .ro, false⟩,
   ⟨0x1c, 31, 1, 0, .ro, false⟩,
   ⟨0x1c, 30, 1, 0, .ro, false⟩,
   ⟨0x1c, 29, 1, 0, .ro, false⟩,
   ⟨0x1c, 28, 1, 0, .ro, false⟩,
   ⟨0x1c, 4, 3, 0, .ro, false⟩,
   ⟨0x1c, 0, 3, 0, .ro, false⟩,
   ⟨0x20, 5, 1, 0, .w1c, false⟩,
   ⟨0x20, 4, 1, 0, .w1c, false⟩,
   ⟨0x20, 3, 1, 0, .w1c, false⟩,
   ⟨0x20, 2, 1, 0, .w1c, false⟩,
   ⟨0x20, 1, 1, 0, .w1c, false⟩,
   ⟨0x20, 0, 1, 0, .w1c, false⟩,
   ⟨0x24, 0, 6, 0, .rw, false⟩,
   ⟨0x28, 31, 1, 0, .rw, false⟩,
   ⟨0x28, 0, 6, 0, .rw, false⟩,
   ⟨0x2c, 0, 32, 0, .ro, false⟩,
   ⟨0x30, 16, 16, 0, .ro, false⟩]
/-- Fields of a Drover channel (Table 16.13), part 1. -/
def layout_drvCh_1 : List Row :=
  [⟨0x30, 0, 16, 0, .ro, false⟩,
   ⟨0x34, 16, 16, 0, .ro, false⟩,
   ⟨0x34, 8, 8, 0, .ro, false⟩,
   ⟨0x34, 0, 8, 0, .ro, false⟩,
   ⟨0x38, 16, 16, 0, .rw, false⟩,
   ⟨0x38, 0, 16, 0, .ro, false⟩,
   ⟨0x3c, 1, 1, 0, .wo, false⟩,
   ⟨0x3c, 0, 1, 0, .wo, false⟩]
/-- Fields of a Drover channel (Table 16.13). -/
def layout_drvCh : List Row := layout_drvCh_0 ++ layout_drvCh_1
/-- The check units have no words of their own beside the units (R369). -/
def layout_ck : List Row :=
  []
/-- Fields of check units 0 and 1 (Table 17.7). -/
def layout_ckE : List Row :=
  [⟨0x10, 0, 32, 0, .ro, false⟩,
   ⟨0x18, 0, 32, 0, .ro, false⟩,
   ⟨0x1c, 16, 16, 0, .ro, false⟩,
   ⟨0x1c, 0, 16, 0, .ro, false⟩]
/-- Fields of check units 2 to 7 (Table 17.8). -/
def layout_ckU : List Row :=
  [⟨0x0, 31, 1, 0, .rw, false⟩,
   ⟨0x0, 30, 1, 0, .rw, false⟩,
   ⟨0x0, 29, 1, 0, .rw, false⟩,
   ⟨0x0, 24, 2, 0, .rw, false⟩,
   ⟨0x0, 0, 5, 0, .rw, false⟩,
   ⟨0x4, 0, 32, 0, .rw, false⟩,
   ⟨0x8, 12, 20, 0, .rw, false⟩,
   ⟨0x8, 0, 4, 0, .rw, false⟩,
   ⟨0xc, 0, 32, 0, .rw, false⟩,
   ⟨0x10, 0, 32, 4294967295, .rw, false⟩,
   ⟨0x14, 0, 32, 0, .rw, false⟩,
   ⟨0x18, 31, 1, 0, .ro, false⟩,
   ⟨0x18, 30, 1, 0, .ro, false⟩,
   ⟨0x18, 24, 4, 0, .ro, false⟩,
   ⟨0x18, 0, 1, 0, .wo, false⟩,
   ⟨0x1c, 16, 16, 0, .ro, false⟩,
   ⟨0x1c, 8, 8, 0, .ro, false⟩,
   ⟨0x1c, 0, 8, 0, .ro, false⟩]
/-- Fields of the supervisor port (Tables 18.8 to 18.13). -/
def layout_sv : List Row :=
  [⟨0x20, 31, 1, 0, .rwl, true⟩,
   ⟨0x20, 16, 5, 0, .rw, true⟩,
   ⟨0x20, 8, 5, 4, .rw, true⟩,
   ⟨0x20, 0, 1, 0, .rw, true⟩,
   ⟨0x24, 0, 32, 0, .ro, false⟩,
   ⟨0x28, 0, 1, 0, .rw, true⟩,
   ⟨0x2c, 31, 1, 0, .ro, false⟩,
   ⟨0x2c, 30, 1, 0, .ro, false⟩,
   ⟨0x2c, 0, 16, 0, .ro, false⟩,
   ⟨0x30, 0, 1, 0, .wo, true⟩,
   ⟨0x34, 16, 16, 0, .ro, false⟩,
   ⟨0x34, 0, 16, 0, .ro, false⟩,
   ⟨0x38, 16, 16, 0, .ro, false⟩,
   ⟨0x38, 0, 16, 0, .ro, false⟩,
   ⟨0x3c, 16, 16, 0, .ro, false⟩,
   ⟨0x3c, 8, 8, 0, .ro, false⟩,
   ⟨0x3c, 0, 8, 0, .ro, false⟩,
   ⟨0x40, 16, 6, 0, .ro, false⟩,
   ⟨0x40, 8, 8, 0, .ro, false⟩,
   ⟨0x40, 0, 4, 0, .ro, false⟩]
/-- Fields of the Fold (Tables 5.11 to 5.16). -/
def layout_fold : List Row :=
  [⟨0x20, 24, 8, 50, .rw, false⟩,
   ⟨0x20, 16, 8, 48, .rw, false⟩,
   ⟨0x20, 2, 2, 1, .rw, false⟩,
   ⟨0x20, 0, 1, 0, .rw, false⟩,
   ⟨0x24, 0, 16, 10, .rw, false⟩,
   ⟨0x28, 24, 8, 0, .rw, false⟩,
   ⟨0x28, 16, 8, 0, .ro, false⟩,
   ⟨0x28, 15, 1, 0, .ro, false⟩,
   ⟨0x28, 14, 1, 0, .ro, false⟩,
   ⟨0x28, 0, 8, 0, .ro, false⟩,
   ⟨0x2c, 0, 32, 0, .wo, false⟩,
   ⟨0x30, 0, 32, 4294967295, .ro, false⟩,
   ⟨0x34, 0, 32, 4294967295, .ro, false⟩,
   ⟨0x38, 16, 16, 0, .ro, false⟩,
   ⟨0x38, 0, 16, 0, .ro, false⟩,
   ⟨0x3c, 16, 16, 0, .ro, false⟩,
   ⟨0x3c, 0, 16, 0, .ro, false⟩,
   ⟨0x40, 24, 8, 0, .ro, false⟩,
   ⟨0x40, 16, 8, 0, .ro, false⟩,
   ⟨0x40, 8, 8, 0, .ro, false⟩,
   ⟨0x40, 4, 4, 0, .ro, false⟩,
   ⟨0x40, 0, 4, 0, .ro, false⟩,
   ⟨0x44, 0, 32, 0, .ro, false⟩]
/-- Fields of the reflex unit (Tables 10.12 to 10.16). -/
def layout_rfx : List Row :=
  [⟨0x20, 0, 1, 1, .rw, false⟩,
   ⟨0x24, 16, 16, 0, .ro, false⟩,
   ⟨0x24, 0, 16, 0, .ro, false⟩,
   ⟨0x28, 16, 16, 0, .ro, false⟩,
   ⟨0x28, 0, 16, 0, .ro, false⟩,
   ⟨0x2c, 16, 16, 0, .ro, false⟩,
   ⟨0x2c, 0, 16, 0, .ro, false⟩,
   ⟨0x30, 16, 16, 0, .ro, false⟩,
   ⟨0x30, 15, 1, 0, .ro, false⟩,
   ⟨0x30, 14, 1, 0, .ro, false⟩,
   ⟨0x30, 8, 5, 0, .ro, false⟩,
   ⟨0x30, 7, 1, 0, .ro, false⟩,
   ⟨0x30, 0, 6, 0, .ro, false⟩,
   ⟨0x38, 0, 32, 0, .ro, false⟩,
   ⟨0x3c, 0, 32, 0, .ro, false⟩]
/-- Fields of a reflex rule (Table 10.17). -/
def layout_rule : List Row :=
  [⟨0x0, 28, 4, 0, .rw, false⟩,
   ⟨0x0, 16, 6, 0, .rw, false⟩,
   ⟨0x0, 8, 8, 0, .rw, false⟩,
   ⟨0x4, 30, 2, 0, .rw, false⟩,
   ⟨0x4, 28, 2, 0, .ro, false⟩,
   ⟨0x4, 0, 16, 0, .rw, false⟩,
   ⟨0x8, 31, 1, 0, .rw, false⟩,
   ⟨0x8, 24, 4, 0, .rw, false⟩,
   ⟨0x8, 16, 5, 0, .rw, false⟩,
   ⟨0xc, 0, 32, 0, .rw, false⟩,
   ⟨0x10, 0, 32, 0, .rw, false⟩,
   ⟨0x14, 0, 32, 0, .rw, false⟩,
   ⟨0x18, 16, 16, 0, .ro, false⟩,
   ⟨0x18, 0, 16, 0, .ro, false⟩,
   ⟨0x1c, 0, 32, 0, .ro, false⟩]
/-- Fields of the health unit (Tables 20.10 and 20.11), part 0. -/
def layout_hk_0 : List Row :=
  [⟨0x20, 16, 16, 0, .ro, false⟩,
   ⟨0x20, 0, 16, 0, .ro, false⟩,
   ⟨0x24, 16, 16, 0, .ro, false⟩,
   ⟨0x24, 0, 16, 0, .ro, false⟩,
   ⟨0x28, 24, 8, 110, .rw, false⟩,
   ⟨0x28, 16, 8, 125, .rw, false⟩,
   ⟨0x2c, 16, 16, 0, .ro, false⟩,
   ⟨0x2c, 0, 16, 0, .ro, false⟩,
   ⟨0x30, 16, 16, 0, .ro, false⟩,
   ⟨0x30, 0, 16, 0, .ro, false⟩,
   ⟨0x34, 0, 16, 0, .ro, false⟩,
   ⟨0x38, 8, 1, 0, .rw, true⟩,
   ⟨0x38, 7, 1, 0, .ro, false⟩,
   ⟨0x38, 6, 1, 0, .ro, false⟩,
   ⟨0x38, 5, 1, 0, .ro, false⟩,
   ⟨0x38, 0, 5, 0, .ro, false⟩,
   ⟨0x3c, 24, 8, 0, .ro, false⟩,
   ⟨0x3c, 16, 3, 2, .ro, false⟩,
   ⟨0x3c, 8, 3, 6, .rwl, true⟩,
   ⟨0x3c, 0, 3, 2, .rw, false⟩,
   ⟨0x40, 16, 16, 0, .ro, false⟩,
   ⟨0x40, 0, 16, 0, .ro, false⟩,
   ⟨0x44, 16, 16, 0, .ro, false⟩,
   ⟨0x44, 0, 16, 0, .ro, false⟩]
/-- Fields of the health unit (Tables 20.10 and 20.11), part 1. -/
def layout_hk_1 : List Row :=
  [⟨0x48, 16, 16, 0, .ro, false⟩,
   ⟨0x48, 0, 16, 0, .ro, false⟩,
   ⟨0x4c, 16, 16, 0, .ro, false⟩,
   ⟨0x4c, 0, 16, 0, .ro, false⟩,
   ⟨0x50, 16, 16, 0, .ro, false⟩,
   ⟨0x50, 0, 16, 0, .ro, false⟩,
   ⟨0x54, 16, 16, 0, .ro, false⟩,
   ⟨0x54, 0, 16, 0, .ro, false⟩,
   ⟨0x58, 16, 16, 0, .ro, false⟩,
   ⟨0x58, 0, 16, 0, .ro, false⟩,
   ⟨0x5c, 16, 16, 0, .ro, false⟩,
   ⟨0x5c, 0, 16, 0, .ro, false⟩,
   ⟨0x60, 24, 6, 16, .rw, false⟩,
   ⟨0x60, 16, 8, 20, .rwl, true⟩,
   ⟨0x60, 8, 8, 20, .rwl, true⟩,
   ⟨0x60, 0, 8, 50, .rw, false⟩,
   ⟨0x64, 0, 1, 0, .rw, true⟩,
   ⟨0x68, 0, 4, 0, .rw, false⟩]
/-- Fields of the health unit (Tables 20.10 and 20.11). -/
def layout_hk : List Row := layout_hk_0 ++ layout_hk_1
/-- Fields of HK_HOURS of a die (Table 20.12). -/
def layout_hours : List Row :=
  [⟨0x0, 0, 32, 0, .rw, true⟩,
   ⟨0x4, 0, 32, 0, .rw, true⟩,
   ⟨0x8, 0, 32, 0, .rw, true⟩,
   ⟨0xc, 0, 32, 0, .rw, true⟩]
/-- Fields of the ageing of a channel (Table 20.13). -/
def layout_age : List Row :=
  [⟨0x0, 0, 32, 0, .rw, true⟩,
   ⟨0x4, 0, 32, 0, .rw, true⟩,
   ⟨0x8, 16, 16, 0, .ro, false⟩,
   ⟨0x8, 0, 16, 0, .ro, false⟩,
   ⟨0xc, 31, 1, 0, .ro, false⟩,
   ⟨0xc, 0, 16, 0, .ro, false⟩]
/-- Fields of the Ledger (Table 21.11), part 0. -/
def layout_ldg_0 : List Row :=
  [⟨0x20, 1, 1, 0, .wo, true⟩,
   ⟨0x20, 0, 1, 0, .wo, true⟩,
   ⟨0x24, 8, 1, 1, .rwl, true⟩,
   ⟨0x24, 0, 3, 4, .rwl, true⟩,
   ⟨0x28, 0, 1, 0, .rw, true⟩,
   ⟨0x2c, 31, 1, 0, .ro, false⟩,
   ⟨0x2c, 30, 1, 0, .ro, false⟩,
   ⟨0x2c, 16, 9, 0, .ro, false⟩,
   ⟨0x2c, 0, 9, 0, .ro, false⟩,
   ⟨0x30, 0, 32, 0, .ro, false⟩,
   ⟨0x34, 0, 16, 0, .ro, false⟩,
   ⟨0x38, 24, 8, 0, .ro, false⟩,
   ⟨0x38, 21, 3, 0, .ro, false⟩,
   ⟨0x38, 18, 3, 0, .ro, false⟩,
   ⟨0x38, 0, 16, 0, .ro, false⟩,
   ⟨0x3c, 24, 8, 0, .ro, false⟩,
   ⟨0x3c, 16, 8, 0, .ro, false⟩,
   ⟨0x3c, 0, 16, 0, .ro, false⟩,
   ⟨0x40, 0, 32, 0, .rw, false⟩,
   ⟨0x44, 0, 32, 0, .rw, false⟩,
   ⟨0x48, 16, 8, 0, .wo, false⟩,
   ⟨0x48, 8, 3, 0, .wo, false⟩,
   ⟨0x48, 0, 8, 0, .wo, false⟩,
   ⟨0x4c, 16, 16, 0, .ro, false⟩]
/-- Fields of the Ledger (Table 21.11), part 1. -/
def layout_ldg_1 : List Row :=
  [⟨0x4c, 8, 8, 0, .ro, false⟩,
   ⟨0x4c, 7, 1, 0, .ro, false⟩,
   ⟨0x4c, 0, 7, 0, .ro, false⟩,
   ⟨0x50, 16, 16, 0, .ro, false⟩,
   ⟨0x50, 8, 8, 0, .ro, false⟩,
   ⟨0x50, 7, 1, 0, .ro, false⟩,
   ⟨0x50, 0, 7, 0, .ro, false⟩,
   ⟨0x54, 16, 16, 0, .ro, false⟩,
   ⟨0x54, 8, 8, 0, .ro, false⟩,
   ⟨0x54, 7, 1, 0, .ro, false⟩,
   ⟨0x54, 0, 7, 0, .ro, false⟩,
   ⟨0x58, 16, 16, 0, .ro, false⟩,
   ⟨0x58, 8, 8, 0, .ro, false⟩,
   ⟨0x58, 7, 1, 0, .ro, false⟩,
   ⟨0x58, 0, 7, 0, .ro, false⟩]
/-- Fields of the Ledger (Table 21.11). -/
def layout_ldg : List Row := layout_ldg_0 ++ layout_ldg_1
/-- Fields of the firmware controller (Tables 19.9 to 19.14). -/
def layout_fw : List Row :=
  [⟨0x20, 28, 4, 0, .ro, false⟩,
   ⟨0x20, 24, 4, 0, .ro, false⟩,
   ⟨0x20, 23, 1, 0, .ro, false⟩,
   ⟨0x20, 22, 1, 0, .ro, false⟩,
   ⟨0x20, 20, 2, 0, .ro, false⟩,
   ⟨0x24, 3, 1, 0, .wo, true⟩,
   ⟨0x24, 2, 1, 0, .wo, true⟩,
   ⟨0x24, 1, 1, 0, .wo, true⟩,
   ⟨0x24, 0, 1, 0, .wo, true⟩,
   ⟨0x28, 0, 10, 100, .rwl, true⟩,
   ⟨0x2c, 0, 16, 0, .wo, false⟩,
   ⟨0x30, 0, 32, 0, .ro, false⟩,
   ⟨0x34, 0, 16, 0, .rwl, true⟩,
   ⟨0x38, 2, 16, 0, .rw, false⟩,
   ⟨0x3c, 0, 32, 0, .rw, false⟩,
   ⟨0x40, 16, 16, 0, .ro, false⟩,
   ⟨0x40, 12, 4, 0, .ro, false⟩,
   ⟨0x40, 8, 4, 0, .ro, false⟩,
   ⟨0x40, 0, 8, 0, .ro, false⟩,
   ⟨0x44, 0, 1, 0, .rw, true⟩]
/-- Fields of the sample chain bank (Tables 9.21 and 9.22). -/
def layout_bank : List Row :=
  [⟨0x24, 0, 16, 0, .ro, false⟩,
   ⟨0x28, 0, 32, 1, .ro, false⟩]
/-- Fields of a sample chain (Tables 9.13 to 9.19, 10.9, 10.10), part 0. -/
def layout_chain_0 : List Row :=
  [⟨0x20, 31, 1, 0, .wo, false⟩,
   ⟨0x20, 24, 4, 0, .rw, false⟩,
   ⟨0x20, 16, 3, 2, .rw, false⟩,
   ⟨0x20, 8, 1, 1, .rw, false⟩,
   ⟨0x24, 0, 32, 1073741824, .rw, false⟩,
   ⟨0x28, 0, 19, 6, .rw, false⟩,
   ⟨0x2c, 16, 16, 0, .ro, false⟩,
   ⟨0x2c, 15, 1, 0, .wo, false⟩,
   ⟨0x2c, 14, 1, 0, .rw, false⟩,
   ⟨0x2c, 13, 1, 0, .ro, false⟩,
   ⟨0x2c, 12, 1, 0, .ro, false⟩,
   ⟨0x2c, 0, 12, 0, .rw, false⟩,
   ⟨0x30, 31, 1, 1, .rw, false⟩,
   ⟨0x30, 30, 1, 0, .wo, false⟩,
   ⟨0x30, 24, 5, 12, .rw, false⟩,
   ⟨0x30, 0, 24, 0, .ro, false⟩,
   ⟨0x34, 16, 16, 0, .ro, false⟩,
   ⟨0x34, 5, 1, 0, .w1c, false⟩,
   ⟨0x34, 4, 1, 0, .w1c, false⟩,
   ⟨0x34, 1, 1, 1, .ro, false⟩,
   ⟨0x34, 0, 1, 1, .ro, false⟩,
   ⟨0x38, 0, 32, 0, .ro, false⟩,
   ⟨0x3c, 0, 32, 0, .ro, false⟩,
   ⟨0x40, 8, 24, 8388608, .rw, false⟩]
/-- Fields of a sample chain (Tables 9.13 to 9.19, 10.9, 10.10), part 1. -/
def layout_chain_1 : List Row :=
  [⟨0x40, 0, 8, 0, .rw, false⟩,
   ⟨0x44, 8, 24, 8388607, .rw, false⟩,
   ⟨0x44, 7, 1, 0, .rw, false⟩,
   ⟨0x44, 6, 1, 0, .rw, false⟩,
   ⟨0x44, 5, 1, 0, .rw, false⟩,
   ⟨0x44, 2, 2, 3, .ro, false⟩,
   ⟨0x48, 8, 24, 8388608, .rw, false⟩,
   ⟨0x48, 0, 8, 0, .rw, false⟩,
   ⟨0x4c, 8, 24, 8388607, .rw, false⟩,
   ⟨0x4c, 7, 1, 0, .rw, false⟩,
   ⟨0x4c, 6, 1, 0, .rw, false⟩,
   ⟨0x4c, 5, 1, 0, .rw, false⟩,
   ⟨0x4c, 2, 2, 3, .ro, false⟩]
/-- Fields of a sample chain (Tables 9.13 to 9.19, 10.9, 10.10). -/
def layout_chain : List Row := layout_chain_0 ++ layout_chain_1
/-- Fields of a group die unit (Tables 4.26, 4.27, 13.12 to 13.23, 14.7 to 14.12, 20.14), part 0. -/
def layout_grp_0 : List Row :=
  [⟨0x20, 28, 4, 0, .ro, false⟩,
   ⟨0x20, 24, 4, 0, .ro, false⟩,
   ⟨0x20, 20, 4, 0, .ro, false⟩,
   ⟨0x20, 19, 1, 0, .ro, false⟩,
   ⟨0x20, 18, 1, 0, .ro, false⟩,
   ⟨0x20, 17, 1, 0, .ro, false⟩,
   ⟨0x20, 16, 1, 0, .ro, false⟩,
   ⟨0x20, 15, 1, 0, .ro, false⟩,
   ⟨0x20, 14, 1, 0, .ro, false⟩,
   ⟨0x20, 13, 1, 0, .ro, false⟩,
   ⟨0x24, 3, 1, 0, .wo, true⟩,
   ⟨0x24, 2, 1, 0, .wo, true⟩,
   ⟨0x24, 1, 1, 0, .wo, true⟩,
   ⟨0x24, 0, 1, 0, .wo, true⟩,
   ⟨0x28, 31, 1, 1, .rwl, true⟩,
   ⟨0x28, 30, 1, 0, .rwl, true⟩,
   ⟨0x28, 29, 1, 0, .rwl, true⟩,
   ⟨0x28, 0, 17, 100, .rwl, true⟩,
   ⟨0x2c, 0, 16, 0, .wo, true⟩,
   ⟨0x30, 0, 1, 0, .rw, true⟩,
   ⟨0x34, 16, 16, 0, .ro, false⟩,
   ⟨0x34, 0, 16, 0, .ro, false⟩,
   ⟨0x38, 16, 16, 0, .ro, false⟩,
   ⟨0x38, 0, 16, 0, .ro, false⟩]
/-- Fields of a group die unit (Tables 4.26, 4.27, 13.12 to 13.23, 14.7 to 14.12, 20.14), part 1. -/
def layout_grp_1 : List Row :=
  [⟨0x3c, 16, 16, 0, .ro, false⟩,
   ⟨0x3c, 0, 16, 0, .ro, false⟩,
   ⟨0x40, 0, 16, 0, .ro, false⟩,
   ⟨0x44, 16, 16, 0, .ro, false⟩,
   ⟨0x44, 5, 1, 0, .ro, false⟩,
   ⟨0x44, 0, 5, 0, .ro, false⟩,
   ⟨0x48, 31, 1, 0, .rwl, true⟩,
   ⟨0x48, 30, 1, 0, .rwl, true⟩,
   ⟨0x4c, 31, 1, 0, .rwl, true⟩, ⟨0x4c, 30, 1, 0, .rwl, true⟩, ⟨0x4c, 24, 3, 0, .rwl, true⟩,
   ⟨0x4c, 23, 1, 0, .rwl, true⟩, ⟨0x4c, 22, 1, 0, .rwl, true⟩, ⟨0x4c, 16, 3, 0, .rwl, true⟩,
   ⟨0x4c, 15, 1, 0, .rwl, true⟩, ⟨0x4c, 14, 1, 0, .rwl, true⟩, ⟨0x4c, 8, 3, 0, .rwl, true⟩,
   ⟨0x4c, 7, 1, 0, .rwl, true⟩, ⟨0x4c, 6, 1, 0, .rwl, true⟩, ⟨0x4c, 0, 3, 0, .rwl, true⟩,
   ⟨0x50, 31, 1, 0, .rwl, true⟩, ⟨0x50, 30, 1, 0, .rwl, true⟩, ⟨0x50, 24, 3, 0, .rwl, true⟩,
   ⟨0x50, 23, 1, 0, .rwl, true⟩, ⟨0x50, 22, 1, 0, .rwl, true⟩, ⟨0x50, 16, 3, 0, .rwl, true⟩,
   ⟨0x50, 15, 1, 0, .rwl, true⟩, ⟨0x50, 14, 1, 0, .rwl, true⟩, ⟨0x50, 8, 3, 0, .rwl, true⟩,
   ⟨0x50, 7, 1, 0, .rwl, true⟩, ⟨0x50, 6, 1, 0, .rwl, true⟩, ⟨0x50, 0, 3, 0, .rwl, true⟩,
   ⟨0x54, 16, 16, 0, .ro, false⟩,
   ⟨0x54, 8, 8, 0, .ro, false⟩,
   ⟨0x54, 0, 8, 0, .ro, false⟩,
   ⟨0x58, 0, 8, 0, .ro, false⟩,
   ⟨0x60, 29, 3, 0, .rwl, true⟩,
   ⟨0x60, 0, 16, 0, .rwl, true⟩,
   ⟨0x64, 29, 3, 0, .rwl, true⟩,
   ⟨0x64, 0, 16, 0, .rwl, true⟩]
/-- Fields of a group die unit (Tables 4.26, 4.27, 13.12 to 13.23, 14.7 to 14.12, 20.14), part 2. -/
def layout_grp_2 : List Row :=
  [⟨0x68, 29, 3, 0, .rwl, true⟩,
   ⟨0x68, 0, 16, 0, .rwl, true⟩,
   ⟨0x6c, 29, 3, 0, .rwl, true⟩,
   ⟨0x6c, 0, 16, 0, .rwl, true⟩,
   ⟨0x70, 29, 3, 0, .rwl, true⟩,
   ⟨0x70, 0, 16, 0, .rwl, true⟩,
   ⟨0x74, 29, 3, 0, .rwl, true⟩,
   ⟨0x74, 0, 16, 0, .rwl, true⟩,
   ⟨0x78, 29, 3, 0, .rwl, true⟩,
   ⟨0x78, 0, 16, 0, .rwl, true⟩,
   ⟨0x7c, 29, 3, 0, .rwl, true⟩,
   ⟨0x7c, 0, 16, 0, .rwl, true⟩,
   ⟨0x80, 0, 1, 1, .rwl, true⟩,
   ⟨0x84, 0, 1, 0, .wo, true⟩,
   ⟨0x88, 20, 12, 0, .ro, false⟩,
   ⟨0x88, 12, 8, 0, .ro, false⟩,
   ⟨0x88, 8, 1, 0, .ro, false⟩,
   ⟨0x88, 7, 1, 0, .ro, false⟩,
   ⟨0x88, 6, 1, 0, .ro, false⟩,
   ⟨0x88, 5, 1, 0, .ro, false⟩,
   ⟨0x88, 4, 1, 0, .ro, false⟩,
   ⟨0x88, 3, 1, 0, .ro, false⟩,
   ⟨0x88, 2, 1, 0, .ro, false⟩,
   ⟨0x88, 1, 1, 0, .ro, false⟩]
/-- Fields of a group die unit (Tables 4.26, 4.27, 13.12 to 13.23, 14.7 to 14.12, 20.14), part 3. -/
def layout_grp_3 : List Row :=
  [⟨0x8c, 24, 8, 0, .ro, false⟩,
   ⟨0x8c, 16, 8, 0, .ro, false⟩,
   ⟨0x8c, 0, 4, 0, .ro, false⟩,
   ⟨0x90, 16, 16, 0, .ro, false⟩,
   ⟨0x90, 0, 16, 0, .ro, false⟩,
   ⟨0x94, 16, 16, 0, .ro, false⟩,
   ⟨0x94, 0, 16, 0, .ro, false⟩,
   ⟨0x98, 16, 16, 0, .ro, false⟩,
   ⟨0x98, 0, 16, 0, .ro, false⟩,
   ⟨0xa0, 31, 1, 1, .rw, false⟩,
   ⟨0xa0, 0, 24, 65535, .rw, false⟩,
   ⟨0xa4, 31, 1, 0, .rw, false⟩,
   ⟨0xa4, 30, 1, 0, .rw, false⟩,
   ⟨0xa4, 0, 24, 0, .rw, false⟩,
   ⟨0xa8, 0, 16, 100, .rw, false⟩,
   ⟨0xac, 0, 8, 8, .rw, false⟩,
   ⟨0xb0, 31, 1, 0, .rw, false⟩,
   ⟨0xb0, 24, 5, 0, .rw, false⟩,
   ⟨0xb0, 16, 4, 0, .ro, false⟩,
   ⟨0xb0, 0, 12, 0, .ro, false⟩,
   ⟨0xb4, 16, 16, 0, .ro, false⟩,
   ⟨0xb4, 0, 16, 0, .ro, false⟩,
   ⟨0xb8, 0, 24, 0, .w1c, false⟩,
   ⟨0xc0, 30, 2, 3, .ro, false⟩]
/-- Fields of a group die unit (Tables 4.26, 4.27, 13.12 to 13.23, 14.7 to 14.12, 20.14), part 4. -/
def layout_grp_4 : List Row :=
  [⟨0xc0, 16, 12, 0, .ro, false⟩,
   ⟨0xc0, 14, 2, 3, .ro, false⟩,
   ⟨0xc0, 0, 12, 0, .ro, false⟩,
   ⟨0xc4, 30, 2, 3, .ro, false⟩,
   ⟨0xc4, 16, 12, 0, .ro, false⟩,
   ⟨0xc4, 14, 2, 3, .ro, false⟩,
   ⟨0xc4, 0, 12, 0, .ro, false⟩,
   ⟨0xc8, 30, 2, 3, .ro, false⟩,
   ⟨0xc8, 16, 12, 0, .ro, false⟩,
   ⟨0xc8, 14, 2, 3, .ro, false⟩,
   ⟨0xc8, 0, 12, 0, .ro, false⟩,
   ⟨0xcc, 30, 2, 3, .ro, false⟩,
   ⟨0xcc, 16, 12, 0, .ro, false⟩,
   ⟨0xcc, 14, 2, 3, .ro, false⟩,
   ⟨0xcc, 0, 12, 0, .ro, false⟩,
   ⟨0xd0, 30, 2, 3, .ro, false⟩,
   ⟨0xd0, 16, 12, 0, .ro, false⟩,
   ⟨0xd0, 14, 2, 3, .ro, false⟩,
   ⟨0xd0, 0, 12, 0, .ro, false⟩,
   ⟨0xd4, 30, 2, 3, .ro, false⟩,
   ⟨0xd4, 16, 12, 0, .ro, false⟩,
   ⟨0xd4, 14, 2, 3, .ro, false⟩,
   ⟨0xd4, 0, 12, 0, .ro, false⟩,
   ⟨0xd8, 30, 2, 3, .ro, false⟩]
/-- Fields of a group die unit (Tables 4.26, 4.27, 13.12 to 13.23, 14.7 to 14.12, 20.14), part 5. -/
def layout_grp_5 : List Row :=
  [⟨0xd8, 16, 12, 0, .ro, false⟩,
   ⟨0xd8, 14, 2, 3, .ro, false⟩,
   ⟨0xd8, 0, 12, 0, .ro, false⟩,
   ⟨0xdc, 30, 2, 3, .ro, false⟩,
   ⟨0xdc, 16, 12, 0, .ro, false⟩,
   ⟨0xdc, 14, 2, 3, .ro, false⟩,
   ⟨0xdc, 0, 12, 0, .ro, false⟩,
   ⟨0xe0, 30, 2, 3, .ro, false⟩,
   ⟨0xe0, 16, 12, 0, .ro, false⟩,
   ⟨0xe0, 14, 2, 3, .ro, false⟩,
   ⟨0xe0, 0, 12, 0, .ro, false⟩,
   ⟨0xe4, 30, 2, 3, .ro, false⟩,
   ⟨0xe4, 16, 12, 0, .ro, false⟩,
   ⟨0xe4, 14, 2, 3, .ro, false⟩,
   ⟨0xe4, 0, 12, 0, .ro, false⟩,
   ⟨0xe8, 30, 2, 3, .ro, false⟩,
   ⟨0xe8, 16, 12, 0, .ro, false⟩,
   ⟨0xe8, 14, 2, 3, .ro, false⟩,
   ⟨0xe8, 0, 12, 0, .ro, false⟩,
   ⟨0xec, 30, 2, 3, .ro, false⟩,
   ⟨0xec, 16, 12, 0, .ro, false⟩,
   ⟨0xec, 14, 2, 3, .ro, false⟩,
   ⟨0xec, 0, 12, 0, .ro, false⟩,
   ⟨0xf0, 31, 1, 1, .rw, false⟩]
/-- Fields of a group die unit (Tables 4.26, 4.27, 13.12 to 13.23, 14.7 to 14.12, 20.14), part 6. -/
def layout_grp_6 : List Row :=
  [⟨0xf0, 16, 12, 3264, .rw, false⟩,
   ⟨0xf0, 0, 12, 384, .rw, false⟩,
   ⟨0xf4, 31, 1, 1, .rw, false⟩,
   ⟨0xf4, 16, 12, 3424, .rw, false⟩,
   ⟨0xf4, 0, 12, 384, .rw, false⟩,
   ⟨0xf8, 31, 1, 1, .rw, false⟩,
   ⟨0xf8, 16, 12, 3424, .rw, false⟩,
   ⟨0xf8, 0, 12, 384, .rw, false⟩,
   ⟨0xfc, 31, 1, 1, .rw, false⟩,
   ⟨0xfc, 16, 12, 3424, .rw, false⟩,
   ⟨0xfc, 0, 12, 384, .rw, false⟩,
   ⟨0x100, 31, 1, 1, .rw, false⟩,
   ⟨0x100, 16, 12, 3424, .rw, false⟩,
   ⟨0x100, 0, 12, 384, .rw, false⟩,
   ⟨0x104, 31, 1, 1, .rw, false⟩,
   ⟨0x104, 16, 12, 3424, .rw, false⟩,
   ⟨0x104, 0, 12, 384, .rw, false⟩,
   ⟨0x108, 31, 1, 1, .rw, false⟩,
   ⟨0x108, 16, 12, 3424, .rw, false⟩,
   ⟨0x108, 0, 12, 384, .rw, false⟩,
   ⟨0x10c, 31, 1, 1, .rw, false⟩,
   ⟨0x10c, 16, 12, 3424, .rw, false⟩,
   ⟨0x10c, 0, 12, 384, .rw, false⟩,
   ⟨0x110, 31, 1, 1, .rw, false⟩]
/-- Fields of a group die unit (Tables 4.26, 4.27, 13.12 to 13.23, 14.7 to 14.12, 20.14), part 7. -/
def layout_grp_7 : List Row :=
  [⟨0x110, 16, 12, 3424, .rw, false⟩,
   ⟨0x110, 0, 12, 384, .rw, false⟩,
   ⟨0x114, 31, 1, 0, .rw, false⟩,
   ⟨0x114, 16, 12, 4095, .rw, false⟩,
   ⟨0x114, 0, 12, 0, .rw, false⟩,
   ⟨0x118, 31, 1, 0, .rw, false⟩,
   ⟨0x118, 16, 12, 4095, .rw, false⟩,
   ⟨0x118, 0, 12, 0, .rw, false⟩,
   ⟨0x11c, 31, 1, 1, .rw, false⟩,
   ⟨0x11c, 16, 12, 1100, .rw, false⟩,
   ⟨0x11c, 0, 12, 900, .rw, false⟩,
   ⟨0x120, 31, 1, 1, .rw, false⟩,
   ⟨0x120, 16, 12, 3465, .rw, false⟩,
   ⟨0x120, 0, 12, 3135, .rw, false⟩,
   ⟨0x124, 31, 1, 1, .rw, false⟩,
   ⟨0x124, 16, 12, 1260, .rw, false⟩,
   ⟨0x124, 0, 12, 1140, .rw, false⟩,
   ⟨0x128, 31, 1, 1, .rw, false⟩,
   ⟨0x128, 16, 12, 2510, .rw, false⟩,
   ⟨0x128, 0, 12, 2490, .rw, false⟩,
   ⟨0x12c, 31, 1, 1, .rw, false⟩,
   ⟨0x12c, 16, 12, 2510, .rw, false⟩,
   ⟨0x12c, 0, 12, 2490, .rw, false⟩,
   ⟨0x130, 31, 1, 0, .rw, false⟩]
/-- Fields of a group die unit (Tables 4.26, 4.27, 13.12 to 13.23, 14.7 to 14.12, 20.14), part 8. -/
def layout_grp_8 : List Row :=
  [⟨0x130, 16, 12, 4095, .rw, false⟩,
   ⟨0x130, 0, 12, 0, .rw, false⟩,
   ⟨0x134, 31, 1, 0, .rw, false⟩,
   ⟨0x134, 16, 12, 4095, .rw, false⟩,
   ⟨0x134, 0, 12, 0, .rw, false⟩,
   ⟨0x138, 31, 1, 0, .rw, false⟩,
   ⟨0x138, 16, 12, 4095, .rw, false⟩,
   ⟨0x138, 0, 12, 0, .rw, false⟩,
   ⟨0x13c, 31, 1, 0, .rw, false⟩,
   ⟨0x13c, 16, 12, 4095, .rw, false⟩,
   ⟨0x13c, 0, 12, 0, .rw, false⟩,
   ⟨0x140, 31, 1, 0, .rw, false⟩,
   ⟨0x140, 16, 12, 4095, .rw, false⟩,
   ⟨0x140, 0, 12, 0, .rw, false⟩,
   ⟨0x144, 31, 1, 0, .rw, false⟩,
   ⟨0x144, 16, 12, 4095, .rw, false⟩,
   ⟨0x144, 0, 12, 0, .rw, false⟩,
   ⟨0x148, 31, 1, 0, .rw, false⟩,
   ⟨0x148, 16, 12, 4095, .rw, false⟩,
   ⟨0x148, 0, 12, 0, .rw, false⟩,
   ⟨0x14c, 31, 1, 0, .rw, false⟩,
   ⟨0x14c, 16, 12, 4095, .rw, false⟩,
   ⟨0x14c, 0, 12, 0, .rw, false⟩,
   ⟨0x150, 24, 8, 0, .rw, false⟩]
/-- Fields of a group die unit (Tables 4.26, 4.27, 13.12 to 13.23, 14.7 to 14.12, 20.14), part 9. -/
def layout_grp_9 : List Row :=
  [⟨0x150, 16, 8, 0, .rw, false⟩,
   ⟨0x150, 8, 8, 0, .rw, false⟩,
   ⟨0x150, 0, 8, 0, .rw, false⟩,
   ⟨0x154, 24, 8, 0, .rw, false⟩,
   ⟨0x154, 16, 8, 0, .rw, false⟩,
   ⟨0x154, 8, 8, 0, .rw, false⟩,
   ⟨0x154, 0, 8, 0, .rw, false⟩,
   ⟨0x158, 16, 16, 0, .ro, false⟩,
   ⟨0x158, 0, 16, 0, .ro, false⟩,
   ⟨0x15c, 31, 1, 0, .wo, false⟩,
   ⟨0x15c, 30, 1, 0, .ro, false⟩,
   ⟨0x15c, 24, 6, 0, .ro, false⟩,
   ⟨0x15c, 16, 6, 0, .ro, false⟩,
   ⟨0x15c, 8, 4, 8, .ro, false⟩,
   ⟨0x15c, 0, 4, 4, .ro, false⟩]
/-- Fields of a group die unit (Tables 4.26, 4.27, 13.12 to 13.23, 14.7 to 14.12, 20.14). -/
def layout_grp : List Row := layout_grp_0 ++ layout_grp_1 ++ layout_grp_2 ++ layout_grp_3 ++ layout_grp_4 ++ layout_grp_5 ++ layout_grp_6 ++ layout_grp_7 ++ layout_grp_8 ++ layout_grp_9
/-- Fields of a channel (Tables 3.7 to 3.11, 4.12 to 4.25, 5.18 to 5.22, 6.5 to 6.8, 7.9 to 7.15, 8.7 to 8.12, 12.10, 12.11), part 0. -/
def layout_ch_0 : List Row :=
  [⟨0x20, 4, 2, 0, .rw, false⟩,
   ⟨0x20, 0, 4, 0, .rw, false⟩,
   ⟨0x24, 4, 4, 0, .ro, false⟩,
   ⟨0x24, 3, 1, 0, .ro, false⟩,
   ⟨0x24, 2, 1, 0, .ro, false⟩,
   ⟨0x24, 1, 1, 0, .ro, false⟩,
   ⟨0x24, 0, 1, 0, .ro, false⟩,
   ⟨0x28, 0, 1, 0, .rwl, true⟩,
   ⟨0x2c, 0, 1, 0, .rw, true⟩,
   ⟨0x30, 16, 16, 0, .ro, false⟩,
   ⟨0x30, 8, 4, 0, .ro, false⟩,
   ⟨0x30, 0, 4, 0, .ro, false⟩,
   ⟨0x40, 0, 1, 0, .rw, false⟩,
   ⟨0x44, 24, 8, 10, .rw, false⟩,
   ⟨0x44, 16, 8, 4, .rw, false⟩,
   ⟨0x44, 3, 1, 1, .rw, false⟩,
   ⟨0x44, 0, 2, 0, .rw, false⟩,
   ⟨0x48, 16, 10, 0, .rwl, true⟩,
   ⟨0x48, 8, 5, 0, .rwl, true⟩,
   ⟨0x48, 0, 5, 12, .rwl, true⟩,
   ⟨0x4c, 8, 8, 25, .rwl, true⟩,
   ⟨0x4c, 0, 3, 0, .rwl, true⟩,
   ⟨0x50, 16, 9, 50, .rwl, true⟩,
   ⟨0x50, 0, 10, 100, .rwl, true⟩]
/-- Fields of a channel (Tables 3.7 to 3.11, 4.12 to 4.25, 5.18 to 5.22, 6.5 to 6.8, 7.9 to 7.15, 8.7 to 8.12, 12.10, 12.11), part 1. -/
def layout_ch_1 : List Row :=
  [⟨0x54, 23, 1, 0, .ro, false⟩,
   ⟨0x54, 22, 1, 0, .ro, false⟩,
   ⟨0x54, 21, 1, 0, .ro, false⟩,
   ⟨0x54, 20, 1, 0, .ro, false⟩,
   ⟨0x54, 19, 1, 0, .ro, false⟩,
   ⟨0x54, 18, 1, 0, .ro, false⟩,
   ⟨0x54, 8, 4, 0, .ro, false⟩,
   ⟨0x54, 0, 4, 0, .ro, false⟩,
   ⟨0x58, 16, 5, 0, .ro, false⟩,
   ⟨0x58, 6, 1, 0, .ro, false⟩,
   ⟨0x58, 5, 1, 0, .ro, false⟩,
   ⟨0x58, 4, 1, 0, .ro, false⟩,
   ⟨0x58, 3, 1, 0, .ro, false⟩,
   ⟨0x58, 2, 1, 0, .ro, false⟩,
   ⟨0x58, 1, 1, 0, .ro, false⟩,
   ⟨0x58, 0, 1, 0, .ro, false⟩,
   ⟨0x5c, 0, 16, 0, .ro, false⟩,
   ⟨0x60, 0, 16, 0, .ro, false⟩,
   ⟨0x64, 0, 16, 0, .ro, false⟩,
   ⟨0x68, 16, 16, 0, .ro, false⟩,
   ⟨0x68, 0, 16, 0, .ro, false⟩,
   ⟨0x6c, 2, 1, 0, .wo, true⟩,
   ⟨0x6c, 1, 1, 0, .wo, true⟩,
   ⟨0x6c, 0, 1, 0, .wo, true⟩]
/-- Fields of a channel (Tables 3.7 to 3.11, 4.12 to 4.25, 5.18 to 5.22, 6.5 to 6.8, 7.9 to 7.15, 8.7 to 8.12, 12.10, 12.11), part 2. -/
def layout_ch_2 : List Row :=
  [⟨0x70, 8, 8, 0, .ro, false⟩,
   ⟨0x70, 0, 4, 0, .ro, false⟩,
   ⟨0x74, 16, 16, 0, .ro, false⟩,
   ⟨0x74, 0, 16, 0, .ro, false⟩,
   ⟨0x78, 16, 16, 0, .ro, false⟩,
   ⟨0x78, 0, 16, 0, .ro, false⟩,
   ⟨0x7c, 16, 16, 0, .ro, false⟩,
   ⟨0x7c, 0, 16, 0, .ro, false⟩,
   ⟨0x80, 5, 1, 0, .rw, false⟩,
   ⟨0x80, 4, 1, 0, .rw, false⟩,
   ⟨0x80, 0, 1, 1, .rw, false⟩,
   ⟨0x84, 16, 16, 0, .ro, false⟩,
   ⟨0x84, 0, 16, 0, .ro, false⟩,
   ⟨0x88, 16, 16, 0, .ro, false⟩,
   ⟨0x88, 0, 16, 0, .ro, false⟩,
   ⟨0x8c, 16, 16, 0, .ro, false⟩,
   ⟨0x8c, 8, 4, 0, .ro, false⟩,
   ⟨0x8c, 4, 4, 0, .ro, false⟩,
   ⟨0x8c, 2, 1, 0, .ro, false⟩,
   ⟨0x8c, 1, 1, 0, .ro, false⟩,
   ⟨0x8c, 0, 1, 0, .ro, false⟩,
   ⟨0x90, 8, 24, 625, .rw, false⟩,
   ⟨0x90, 0, 8, 0, .rw, false⟩,
   ⟨0x94, 16, 16, 0, .rw, false⟩]
/-- Fields of a channel (Tables 3.7 to 3.11, 4.12 to 4.25, 5.18 to 5.22, 6.5 to 6.8, 7.9 to 7.15, 8.7 to 8.12, 12.10, 12.11), part 3. -/
def layout_ch_3 : List Row :=
  [⟨0x94, 0, 16, 0, .rw, false⟩,
   ⟨0x98, 8, 24, 625, .rw, false⟩,
   ⟨0x98, 0, 8, 0, .rw, false⟩,
   ⟨0x9c, 16, 16, 0, .rw, false⟩,
   ⟨0x9c, 0, 16, 0, .rw, false⟩,
   ⟨0xa0, 31, 1, 0, .rw, false⟩,
   ⟨0xa0, 30, 1, 0, .rw, false⟩,
   ⟨0xa0, 29, 1, 0, .wo, false⟩,
   ⟨0xa0, 26, 3, 4, .rw, false⟩,
   ⟨0xa0, 16, 10, 100, .rw, false⟩,
   ⟨0xa0, 10, 6, 5, .rw, false⟩,
   ⟨0xa0, 7, 3, 2, .rw, false⟩,
   ⟨0xa0, 0, 7, 5, .rw, false⟩,
   ⟨0xa4, 27, 5, 0, .rw, false⟩,
   ⟨0xa4, 16, 8, 0, .rw, false⟩,
   ⟨0xa4, 0, 16, 0, .rw, false⟩,
   ⟨0xa8, 28, 4, 0, .ro, false⟩,
   ⟨0xa8, 24, 4, 0, .ro, false⟩,
   ⟨0xa8, 16, 8, 0, .ro, false⟩,
   ⟨0xa8, 0, 16, 0, .ro, false⟩,
   ⟨0xac, 16, 16, 0, .rw, false⟩,
   ⟨0xac, 0, 16, 0, .ro, false⟩,
   ⟨0xb0, 30, 2, 2, .rw, false⟩,
   ⟨0xb0, 28, 2, 0, .rw, false⟩]
/-- Fields of a channel (Tables 3.7 to 3.11, 4.12 to 4.25, 5.18 to 5.22, 6.5 to 6.8, 7.9 to 7.15, 8.7 to 8.12, 12.10, 12.11), part 4. -/
def layout_ch_4 : List Row :=
  [⟨0xb0, 26, 2, 0, .rw, false⟩,
   ⟨0xb0, 25, 1, 0, .rw, false⟩,
   ⟨0xb0, 16, 8, 20, .rw, false⟩,
   ⟨0xb0, 0, 9, 80, .rw, false⟩,
   ⟨0xb4, 12, 2, 0, .rw, false⟩,
   ⟨0xb4, 0, 10, 25, .rw, false⟩,
   ⟨0xb8, 16, 8, 10, .rw, false⟩,
   ⟨0xb8, 0, 8, 0, .rw, false⟩,
   ⟨0xbc, 16, 16, 0, .ro, false⟩,
   ⟨0xbc, 4, 1, 0, .w1c, false⟩,
   ⟨0xbc, 3, 1, 0, .w1c, false⟩,
   ⟨0xbc, 2, 1, 0, .ro, false⟩,
   ⟨0xbc, 1, 1, 0, .ro, false⟩,
   ⟨0xbc, 0, 1, 0, .ro, false⟩,
   ⟨0xc0, 0, 32, 0, .rw, false⟩,
   ⟨0xc4, 2, 30, 0, .ro, false⟩,
   ⟨0xc4, 1, 1, 0, .ro, false⟩,
   ⟨0xc4, 0, 1, 0, .ro, false⟩,
   ⟨0xc8, 0, 32, 0, .ro, false⟩,
   ⟨0xcc, 16, 16, 0, .ro, false⟩,
   ⟨0xcc, 0, 16, 0, .ro, false⟩,
   ⟨0xd0, 31, 1, 0, .rw, false⟩,
   ⟨0xd0, 16, 8, 0, .rw, false⟩,
   ⟨0xd0, 8, 8, 10, .rw, false⟩]
/-- Fields of a channel (Tables 3.7 to 3.11, 4.12 to 4.25, 5.18 to 5.22, 6.5 to 6.8, 7.9 to 7.15, 8.7 to 8.12, 12.10, 12.11), part 5. -/
def layout_ch_5 : List Row :=
  [⟨0xd0, 0, 8, 10, .rw, false⟩,
   ⟨0xd4, 24, 8, 210, .rw, false⟩,
   ⟨0xd4, 16, 8, 36, .rw, false⟩,
   ⟨0xd4, 0, 8, 10, .rw, false⟩,
   ⟨0xd8, 0, 16, 0, .rw, false⟩,
   ⟨0xdc, 16, 16, 65535, .rwl, true⟩,
   ⟨0xdc, 0, 16, 0, .rwl, true⟩,
   ⟨0xe0, 16, 16, 0, .ro, false⟩,
   ⟨0xe0, 10, 1, 0, .ro, false⟩,
   ⟨0xe0, 9, 1, 0, .ro, false⟩,
   ⟨0xe0, 8, 1, 0, .ro, false⟩,
   ⟨0xe0, 7, 1, 0, .ro, false⟩,
   ⟨0xe0, 6, 1, 0, .ro, false⟩,
   ⟨0xe0, 5, 1, 0, .ro, false⟩,
   ⟨0xe0, 4, 1, 0, .ro, false⟩,
   ⟨0xe0, 3, 1, 0, .ro, false⟩,
   ⟨0xe0, 2, 1, 0, .ro, false⟩,
   ⟨0xe0, 1, 1, 0, .ro, false⟩,
   ⟨0xe0, 0, 1, 0, .ro, false⟩,
   ⟨0xe4, 16, 16, 0, .ro, false⟩,
   ⟨0xe4, 0, 16, 0, .ro, false⟩,
   ⟨0xe8, 31, 1, 0, .rw, false⟩,
   ⟨0xe8, 29, 2, 0, .rw, false⟩,
   ⟨0xe8, 28, 1, 0, .wo, false⟩]
/-- Fields of a channel (Tables 3.7 to 3.11, 4.12 to 4.25, 5.18 to 5.22, 6.5 to 6.8, 7.9 to 7.15, 8.7 to 8.12, 12.10, 12.11), part 6. -/
def layout_ch_6 : List Row :=
  [⟨0xe8, 24, 4, 0, .ro, false⟩,
   ⟨0xe8, 20, 4, 0, .ro, false⟩,
   ⟨0xe8, 18, 2, 0, .ro, false⟩,
   ⟨0xe8, 17, 1, 0, .ro, false⟩,
   ⟨0xe8, 16, 1, 0, .rw, false⟩,
   ⟨0xe8, 8, 8, 0, .rw, false⟩,
   ⟨0xe8, 0, 8, 0, .rw, false⟩,
   ⟨0xec, 16, 16, 0, .ro, false⟩,
   ⟨0xec, 0, 16, 0, .rw, false⟩]
/-- Fields of a channel (Tables 3.7 to 3.11, 4.12 to 4.25, 5.18 to 5.22, 6.5 to 6.8, 7.9 to 7.15, 8.7 to 8.12, 12.10, 12.11). -/
def layout_ch : List Row := layout_ch_0 ++ layout_ch_1 ++ layout_ch_2 ++ layout_ch_3 ++ layout_ch_4 ++ layout_ch_5 ++ layout_ch_6

/-- The fields of a unit, in register order (R490). -/
def layout : U → List Row
  | .root => irqRows ++ layout_root
  | .tb => irqRows ++ layout_tb
  | .hl => irqRows ++ layout_hl
  | .ring _ => layout_ring
  | .drv => irqRows ++ layout_drv
  | .drvCh _ => layout_drvCh
  | .ck => irqRows ++ layout_ck
  | .ckE _ => layout_ckE
  | .ckU u => if u.val < 2 then [] else layout_ckU
  | .sv => irqRows ++ layout_sv
  | .fold => irqRows ++ layout_fold
  | .rfx => irqRows ++ layout_rfx
  | .rule _ => layout_rule
  | .hk => irqRows ++ layout_hk
  | .hours _ => layout_hours
  | .age _ => layout_age
  | .ldg => irqRows ++ layout_ldg
  | .fw => irqRows ++ layout_fw
  | .bank => irqRows ++ layout_bank
  | .chain _ => irqRows ++ layout_chain
  | .grp _ => irqRows ++ layout_grp
  | .ch _ => irqRows ++ layout_ch

/-- The BAR0 offset of a unit or register block (Tables 2.3, 15.18, 16.13, 24.3; R5). -/
def U.base : U → Nat
  | .root => 0 | .tb => 0x1000 | .hl => 0x2000 | .ring r => 0x2100 + r.val * 0x40
  | .drv => 0x4000 | .drvCh k => 0x4080 + k.val * 0x60 | .ck => 0x5000
  | .ckE u => 0x5040 + u.val * 0x20 | .ckU u => 0x5040 + u.val * 0x20 | .sv => 0x5400
  | .fold => 0x6000 | .rfx => 0x7000 | .rule r => 0x7800 + r.val * 0x20
  | .hk => 0x8000 | .hours d => 0x8080 + d.val * 0x10 | .age c => 0x8100 + c.val * 0x10
  | .ldg => 0x9000 | .fw => 0xa000 | .bank => 0xb000 | .chain s => 0x10000 + s.val * 0x400
  | .grp g => 0x30000 + g.val * 0x10000
  | .ch c => 0x30000 + (c.val / 8) * 0x10000 + 0x1000 + (c.val % 8) * 0x1000

end Sys2Proof.Machine
end

