-- ==== Sys2Proof/Machine/Store.lean ====
section
/-! DEFINITION. A register store: the fields that do not stand at their reset value, as a list in one canonical form
(keys strictly rising, no value equal to the field's reset value, every value within the field's width), with its read
and its write. -/

namespace Sys2Proof.Machine

/-- The number of a unit's constructor, for the order of keys. -/
def U.kind : U → Nat
  | .root => 0 | .tb => 1 | .hl => 2 | .ring _ => 3 | .drv => 4 | .drvCh _ => 5 | .ck => 6 | .ckE _ => 7
  | .ckU _ => 8 | .sv => 9 | .fold => 10 | .rfx => 11 | .rule _ => 12 | .hk => 13 | .hours _ => 14 | .age _ => 15
  | .ldg => 16 | .fw => 17 | .bank => 18 | .chain _ => 19 | .grp _ => 20 | .ch _ => 21
/-- The index of a repeated unit; 0 for the others. -/
def U.idx : U → Nat
  | .ring r => r.val | .drvCh k => k.val | .ckE u => u.val | .ckU u => u.val | .rule r => r.val | .hours d => d.val
  | .age c => c.val | .chain s => s.val | .grp g => g.val | .ch c => c.val | _ => 0
/-- What keys are ordered by. -/
def Fld.key (f : Fld) : List Nat := [f.unit.kind, f.unit.idx, f.off, f.lo, f.w, f.dflt]
/-- The dictionary order of two lists of numbers. -/
def lexLt : List Nat → List Nat → Bool
  | _, [] => false
  | [], _ :: _ => true
  | a :: as, b :: bs => a < b || (a == b && lexLt as bs)
/-- The order of fields in a store. -/
def Fld.lt (f g : Fld) : Bool := lexLt f.key g.key

/-- A register store: the fields that differ from their reset value. -/
abbrev Store := List (Fld × Nat)

/-- The value of a field: the one listed, else its reset value. -/
def Store.get : Store → Fld → Nat
  | [], f => f.dflt
  | (k, v) :: t, f => if k = f then v else Store.get t f
/-- The store without a field's entry. -/
def Store.erase : Store → Fld → Store
  | [], _ => []
  | (k, v) :: t, f => if k = f then Store.erase t f else (k, v) :: Store.erase t f
/-- The store with an entry put at its place. -/
def Store.insert : Store → Fld → Nat → Store
  | [], f, v => [(f, v)]
  | (k, x) :: t, f, v =>
    if k = f then (f, v) :: t
    else if f.lt k then (f, v) :: (k, x) :: t
    else (k, x) :: Store.insert t f v
/-- Writing a field: the value is taken modulo the field's width, and the reset value removes the entry. -/
def Store.set (s : Store) (f : Fld) (v : Nat) : Store :=
  if v % 2 ^ f.w = f.dflt then s.erase f else s.insert f (v % 2 ^ f.w)

/-- Every key of the store stands above f. -/
def Store.above (f : Fld) : Store → Bool
  | [] => true
  | (k, _) :: t => f.lt k && Store.above f t
/-- The canonical form of a store: keys strictly rising, no value equal to the reset value, every value within width. -/
def Store.wf : Store → Bool
  | [] => true
  | (k, v) :: t => decide (v < 2 ^ k.w) && decide (v ≠ k.dflt) && Store.above k t && Store.wf t

/-! ### Memory -/

/-- Memory: address and byte pairs in one canonical form, addresses strictly rising and no byte 0; an address not listed reads
as 0 (log entry 11). -/
abbrev Mem := List Host.Cell

/-- The byte at an address. -/
def Mem.get : Mem → Nat → Byte
  | [], _ => 0
  | (k, b) :: t, a => if k = a then b else Mem.get t a
/-- Memory without an address. -/
def Mem.erase : Mem → Nat → Mem
  | [], _ => []
  | (k, b) :: t, a => if k = a then Mem.erase t a else (k, b) :: Mem.erase t a
/-- Memory with a byte put at its place. -/
def Mem.insert : Mem → Nat → Byte → Mem
  | [], a, v => [(a, v)]
  | (k, b) :: t, a, v =>
    if k = a then (a, v) :: t else if a < k then (a, v) :: (k, b) :: t else (k, b) :: Mem.insert t a v
/-- A byte is written; 0 removes the entry. -/
def Mem.set (m : Mem) (a : Nat) (b : Byte) : Mem := if b = 0 then m.erase a else m.insert a b
/-- Every address of the memory lies above a. -/
def Mem.above (a : Nat) : Mem → Bool
  | [] => true
  | (k, _) :: t => decide (a < k) && Mem.above a t
/-- The canonical form of a memory. -/
def Mem.wf : Mem → Bool
  | [] => true
  | (k, b) :: t => decide (b ≠ 0) && Mem.above k t && Mem.wf t
/-- Consecutive bytes are written from an address on. -/
def Mem.setBytes (m : Mem) : Nat → List Byte → Mem
  | _, [] => m
  | a, b :: t => Mem.setBytes (m.set a b) (a + 1) t
/-- Consecutive bytes from an address on. -/
def Mem.bytes (m : Mem) (a n : Nat) : List Byte := (List.range n).map fun i => m.get (a + i)
/-- The cells of a byte string laid down from an address, without its zeros. -/
def cellsOf : Nat → List Byte → Mem
  | _, [] => []
  | a, b :: t => if b = 0 then cellsOf (a + 1) t else (a, b) :: cellsOf (a + 1) t
/-- A region of n bytes from an address on is replaced whole; bytes missing are 0. -/
def Mem.load (m : Mem) (a n : Nat) (l : List Byte) : Mem :=
  (m.filter fun c => c.1 < a) ++ cellsOf a (l.take n) ++ m.filter fun c => a + n ≤ c.1

end Sys2Proof.Machine
end

