-- ==== Sys2Proof/Machine/Types.lean ====
section
/-! DEFINITION. The state that stands beside the registers: clocks and time, crossings, rings, the Staed link at both of
its ends, what each group die keeps, the sample chains, the Fold, the reflex lanes, the Drover and check units, the
supervisor port, the controller, housekeeping and the Ledger. Every field has its reset value as its default. -/

namespace Sys2Proof.Machine

/-- Bytes placed in a 64-byte entry: first byte, number of bytes, value (little-endian, R324). -/
abbrev Place := Nat × Nat × Nat

/-- An entry for an outbound ring, before SEQ and CHECK are put in: its kind and the bytes placed (R324, R325). -/
structure OutEntry where
  kind : Nat
  body : List Place
deriving DecidableEq, Repr

/-- What the device has sent to the host: a posted write, a read request of the Drover with its length (R355), an MSI-X message (R330, R331,
R50), or an error message: 0 ERR_COR, 1 ERR_NONFATAL, 2 ERR_FATAL (R320). -/
inductive HostOut where
  | write (addr : Nat) (bytes : List Byte)
  | read (addr len : Nat)
  | msix (addr data : Nat)
  | err (cls : Nat)
deriving DecidableEq, Repr

/-- The hub die's run states: its power-on reset holds; its PLL is starting; it runs; it is frozen by a gated CCLK (R494);
a hub die reset lasts (R458). -/
inductive HubRun where
  | por | pllWait | running | frozen | reset
deriving DecidableEq, Repr

/-- A down-link command (Table 13.2). G is kept whole; its bit fields are what the wire carries (R275). A step carries the mode
in which it was made (R246). -/
inductive DlCmd where
  | edge (n : ChN) (on : Bool) (g : Nat)
  | pulse (n : ChN) (g width offG : Nat)
  | pwmStart (n : ChN) (preset : Nat) (duty : Option Nat) (g dOn dOff : Nat)
  | pwmStop (n : ChN) (on : Bool) (g delay : Nat)
  | pwmDuty (n : ChN) (g duty dOn dOff : Nat)
  | dac (n : ChN) (g code : Nat)
  | action (n : ChN) (code seq param : Nat)
  | write (off data : Nat)
  | rule (r : RuleNo) (code : Nat) (n : ChN) (param : Nat)
  | time (t : Nat)
  | step (delta : Int) (rel : Bool)
  | control (code seq : Nat)
  | iol (n : ChN) (seq : Nat) (octets : List Byte)
deriving DecidableEq, Repr

/-- What the hub die keeps with a released Fold action until its command is confirmed or lost (R113, R131). -/
structure SlotInfo where
  t : Nat
  target : Nat
  action : Nat
  late : Bool
  uncomp : Bool
  order : Nat
deriving DecidableEq, Repr

/-- What a down-link command belongs to: nothing; a rule of another lane (R19); a Fold slot; an image write, or a word of a reload, with the number of its write or of the next. -/
inductive TxTag where
  | plain
  | cross
  | slot (i : SlotInfo)
  | image (wid off : Nat)
  | rule (r : RuleNo)
  | reload (wid off : Nat)
  | endLoad
deriving DecidableEq, Repr

/-- A down-link command with what it belongs to and how often it has been sent (R277); at the die, the step epoch of the frame that
brought it (R246). -/
structure TxCmd where
  cmd : DlCmd
  tag : TxTag
  sent : Nat := 0
  epoch : Bool := false
deriving DecidableEq, Repr

/-- A part of a down-link frame: the instant of its frame's SYNC on the model's clock and the ns by which urgent words have delayed the
part since, the machine time of SYNC in 2^-32 ns and the rate that the frame carries, its header, the commands taken with it, and the
bytes that its CRC covers (Table 13.1). -/
structure Part where
  at_ : Nat
  hold : Nat := 0
  time : Nat
  rate : Int
  alive : Nat
  epoch : Bool
  fed : Bool
  safe : Bool
  short : Bool
  isB : Bool
  ackT : Nat
  ackR : Option Nat
  cmds : List TxCmd
  bytes : List Byte
deriving DecidableEq, Repr

/-- The hub die's end of a group's Staed link (R272 to R288): the next ALIVE, feed and hold of FED (R281, R459), the
tick at which the frame before ends and its grid instant (R273), the categories of a frame, the parts sent and not acknowledged and those on the wire, the
urgent words with the last two acknowledged (R279, R495), what the loss of the up-link kept unacknowledged (R278, R286), the last
record accepted, the words and rules not confirmed and the bits of words that keep none, the numbers of the image writes (R287), the
reload under way (full or not) and whether its END_LOAD is queued, the identities cached and last attached, failed frames in a
row, and the sequences given. -/
structure Link where
  alive : Nat := 0
  fedPend : Bool := false
  fedHold : Bool := false
  endT : Nat := 0
  grid : Option Nat := none
  stepTime : List TxCmd := []
  retry : List TxCmd := []
  action : List TxCmd := []
  tx : List TxCmd := []
  iol : List TxCmd := []
  ctrl : List TxCmd := []
  rule : List TxCmd := []
  write : List TxCmd := []
  flight : List Part := []
  wire : List Part := []
  urgQ : List (RuleNo × Bool) := []
  urgOut : List (Nat × RuleNo × Nat × Bool) := []
  urgDone : List (Nat × RuleNo) := []
  unAct : List TxCmd := []
  unUrg : Nat := 0
  urgSeq : Nat := 0
  urgWire : List (Nat × RuleNo) := []
  recSeq : Option Nat := none
  unW : List Nat := []
  unBits : List (Nat × Nat) := []
  unR : List RuleNo := []
  wid : Nat := 0
  order : List (Nat × Nat × Bool) := []
  load : Option Bool := none
  ending : Bool := false
  attached : List Byte := []
  cache : List Byte := []
  fails : Nat := 0
  ctlSeq : Nat := 0
  actSeq : Nat := 0
  iolSeq : Nat := 0
deriving DecidableEq, Repr

/-- A record of a group die's local store (R432), its CHECK computed when it is read. -/
structure LocRec where
  lseq : Nat
  time : Nat
  t : Bool
  code : Nat
  chan : Nat
  cls : Nat
  data : Nat
deriving DecidableEq, Repr

/-- What a reliable EVENT record carries (Table 13.5, R276). A shed carries the die's count of the channel's sheds, by which its two
reports are known for one (R105, log entry 170). -/
inductive EvData where
  | mode (n : ChN) (m : Nat) (member : Bool)
  | chCause (n : ChN) (bit : Nat)
  | grpCause (bit : Nat)
  | safe (on : Bool) (cause : Nat)
  | limp (on : Bool)
  | ledger (r : LocRec)
  | notify (e : OutEntry)
  | tallyOvf (n : ChN)
  | tsLost (n : ChN)
  | glitch (n : ChN)
  | discard (n : Option ChN) (fold : Bool)
  | late (i : SlotInfo) (lateness : Nat)
  | orderAdj (n : Option SlotInfo) (gate : Nat)
  | coincident
  | cmdOff (n : ChN)
  | shed (n : ChN) (k : Nat)
  | hkExit (slot dir code : Nat)
  | hkFault
  | rode
  | switches (n : ChN) (k : Nat)
  | clampE (n : ChN) (e : Nat)
  | dacCode (n : ChN) (code wid : Nat)
deriving DecidableEq, Repr

/-- A reliable record of the status lane (Table 13.5); `void` keeps the sequence of a timestamp that its group's absence lost. -/
inductive RecData where
  | void
  | timestamp (n : ChN) (rising epoch : Bool) (t : Nat)
  | event (e : EvData)
  | iol (n : ChN) (octets : List Byte)
deriving DecidableEq, Repr

/-- An urgent up-link word (Table 13.4); that of a shed carries the die's count of the channel's sheds (log entry 170). -/
inductive UrgUp where
  | cond (n : ChN) (code : Nat) (k : Nat := 0)
  | partAck (alive : Nat) (isB good : Bool)
  | actAck (seq : Nat) (r : RuleNo)
deriving DecidableEq, Repr

/-- A measured delay on its way to the hub die (R124): the channel, the direction, the delay and the group L+ at the edge, the instant of the
crossing on the die's copy, and the slot that made the edge. -/
structure DelayRec where
  n : ChN
  dir : Bool
  delay : Nat
  lp : Nat
  cross : Nat
  slot : Option Nat
deriving DecidableEq, Repr

/-- A timed command held at a group die (R113): the command as it came, its slot, whether it came late, the gate instants at which
its edges stand (R115), whether that was reported, the step epoch of the frame that brought it, and whether that came ahead
of the STEP of that epoch (R246). -/
structure Held where
  cmd : DlCmd
  info : Option SlotInfo
  late : Bool
  gate : Nat
  gateOff : Nat := 0
  adj : Bool := false
  epoch : Bool := false
  early : Bool := false
deriving DecidableEq, Repr

/-- A reflex action that waits at a group die for the next MCLKx edge (R234). -/
structure Act where
  n : ChN
  code : Nat
  param : Nat
deriving DecidableEq, Repr

/-- What the housekeeping converter is doing (R415 to R417): nothing, a sequence with the slots still to convert, or an
urgent conversion of a slot and the sequence to be run after it. -/
inductive Conv where
  | idle
  | seq (slots : List Nat)
  | urgent (slot : Nat) (next : List Nat)
deriving DecidableEq, Repr

/-- A group die, beside its registers and its channels. `powered` says that it has supply and runs, `hold` that a loss of
GNDFx holds its logic; `intact` that it was loaded since its power-on reset or restart; `timed` that MCLKx is locked and
`gotTime` that a TIME has come since its start; `time` is its copy of machine time in 2^-32 ns, counted on MCLKx with the `rate`
of the last good part B, and on GCLKx alone without MCLKx (R249); `expired`, `forced` and not
`gclk` are the causes of the safe state that hold; `gcount` counts GCLKx in 2^-32 ns and `lostAt` is its value
at the last record of a loss of MCLKx; `wdOld` is what `wdAt` was before its last restart; `limpPin` is the level of LIMPx with the instant
of the clock of its last change, `limpLvl` the level that it has held for 10 ms; `lane`, `left` and `urgCnt` are
the status-lane bytes of the present up-link frame not used yet, those that the frames before it left, and its urgent words (R276),
`mirSent` the mirror words sent since the last REFRESH, `timeAt` the instant of the clock to which the last TIME belongs; `uv` says that L+
has still to pass its release threshold, `rel` and `wait` name the channels whose release instant, or acknowledgement, is still to come;
`convAt` is when the urgent conversion in progress began, `seqAt` when a sequence last started and `convB` whether it was B, `hkSeen` the
slots whose window has a state since the attach (R418), `hourAt` the last hourly occasion of a commit (R437). -/
structure Die where
  powered : Bool := false
  intact : Bool := false
  loadedOnce : Bool := false
  hold : Bool := false
  gclk : Bool := false
  time : Nat := 0
  rate : Int := 0
  timed : Bool := false
  epoch : Bool := false
  hdr : Bool := false
  lastAlive : Option Nat := none
  expired : Bool := false
  wdAt : Nat := 0
  wdOld : Nat := 0
  gcount : Nat := 0
  lostAt : Option Nat := none
  forced : Bool := false
  safe : Bool := false
  safeCause : Nat := 0
  limp : Bool := false
  limpPin : Bool × Nat := (false, 0)
  limpLvl : Bool := false
  safeAt : Nat := 0
  gotTime : Bool := false
  loading : Bool := false
  inbox : List TxCmd := []
  held : List Held := []
  recents : List (Nat × DlCmd) := []
  seqs : List (Nat × DlCmd) := []
  acts : List Act := []
  table : List (RuleNo × Nat × ChN × Nat) := []
  urgExp : Nat := 0
  urgHeld : Option (Nat × RuleNo) := none
  urgUp : List UrgUp := []
  delayQ : List DelayRec := []
  tsQ : List RecData := []
  evQ : List RecData := []
  lane : Int := 0
  left : Nat := 0
  urgCnt : Nat := 0
  mirSent : List Nat := []
  timeAt : Nat := 0
  iolQ : List RecData := []
  sent : List (Nat × Nat × RecData) := []
  seq : Nat := 0
  firstAck : Bool := false
  downErr : Nat := 0
  detach : Nat := 0
  store : List LocRec := []
  cells : List LocRec := []
  lseq : Nat := 0
  commit : Bool := false
  recommit : Bool := false
  dirty : Bool := false
  uv : Bool := false
  ov : Bool := false
  rev : Bool := false
  await : Bool := false
  rel : List (ChN × Nat) := []
  wait : List ChN := []
  suspended : Bool := false
  conv : Conv := .idle
  convAt : Nat := 0
  convB : Bool := false
  hkAt : Nat := 0
  hkToken : Bool := false
  urgToken : Bool := false
  seqAt : Option Nat := none
  hkSeen : List Nat := []
  hourAt : Nat := 0
deriving DecidableEq, Repr

/-- The working states of an output channel (Table 4.6). -/
inductive Work where
  | off | turning | inrush | on | pwm | limiting
deriving DecidableEq, Repr

/-- Park of a channel (R61): the mode it leaves into, whether it leaves as a pair member, whether it waits for END_LOAD, and the
instant of the model's clock at which it began. -/
structure Park where
  mode : Nat
  member : Bool
  load : Bool
  since : Nat := 0
deriving DecidableEq, Repr

/-- A PWM run (R128 to R130): its preset, an overriding duty, its period, phase origin and duty in effect; while its peak phase
lasts, the terminal instant that the off-edge ending it must reach, and whether it must pass it; its next grid edge (on or off, at
which terminal instant); a PWM_DUTY waiting for its T, with its duty and its slot; whether it is led and on the machine-time grid; and the edges made. -/
structure Run where
  preset : Nat
  own : Option Nat
  period : Nat
  origin : Rat
  duty : Nat
  peak : Option (Nat × Bool)
  next : Bool × Rat := (true, 0)
  pend : Option (Nat × Nat × Option Nat) := none
  led : Bool := true
  onCnt : Nat := 0
  offCnt : Nat := 0
deriving DecidableEq, Repr

/-- The stroke detector's window of a channel (R136 to R140): its crossing, the group L+ at the edge in 0.1 V, whether
current was left at the gate edge, whether it serves a pair, what R139 tracks, and by how much steps of machine time have moved its
instants since its crossing (R248). -/
structure Stroke where
  t0 : Option Nat := none
  lp : Nat := 0
  residual : Bool
  pair : Bool
  m : Option Rat := none
  tOn : Nat := 0
  armed : Bool := false
  v : Rat := 0
  tEnd : Nat := 0
  limited : Bool := false
  shift : Int := 0
deriving DecidableEq, Repr

/-- A released slot whose first edge has not been measured yet (R126, R131): its T, TARGET, ACTION and G, the direction of that
edge, its place in the order of entry, and its flags. -/
structure EdgeWait where
  t : Nat
  target : Nat
  action : Nat
  g : Nat
  on : Bool
  order : Nat
  uncomp : Bool
  late : Bool
  adj : Bool
deriving DecidableEq, Repr

/-- An ISDU request of a port (R267, R268): the octets of a write with their total, and whether it has been refused or ended
while fragments of it are still to come. -/
structure Isdu where
  seq : Nat
  tag : Nat
  index : Nat
  sub : Nat
  write : Option (Nat × List Byte)
deriving DecidableEq, Repr

/-- An IO-Link port beside its registers (R257 to R270): what the firmware keeps (`asked` is a START that waits for firmware or for
the port, `startDue` and `admitDue` say that START 1, or ADMIT 1, was written while no firmware ran, `power` that the port has still to enter
POWERING, `evFlag` that the device keeps its event flag set until its events are confirmed, `hostOff` a supplier turned off by host software, `down` one that a protective state took down and that has not conducted
since, `lost` that no device has answered since a loss, `cycOff` the tick at which a power cycle's off time ends), then what the
group die keeps: the driver in receive only, the cycle and offset in ns in effect, the last start, the newest output data, the
writes of it not sent yet with their instants, what the last cycle carried and whether the device has been told that outputs are
valid, and on-request octets on their way out and in. -/
structure Port where
  ref : Option (Nat × Nat × Nat) := none
  dev : Option IolDevice := none
  missed : Nat := 0
  isdu : Option Isdu := none
  queue : List Isdu := []
  frag : Option Isdu := none
  stateEnt : Option (OutEntry × Nat) := none
  pdEnt : Option (OutEntry × Nat) := none
  events : List OutEntry := []
  resp : List OutEntry := []
  asked : Bool := false
  startDue : Bool := false
  admitDue : Bool := false
  power : Bool := false
  evFlag : Bool := false
  hostOff : Bool := false
  down : Bool := false
  lost : Bool := false
  cycOff : Option Nat := none
  pulses : Nat := 0
  outOk : Bool := false
  rxOnly : Bool := false
  cycle : Nat := 0
  offset : Nat := 0
  lastStart : Option Nat := none
  dieOut : Nat := 0
  outs : List (Nat × Nat) := []
  lineOut : Nat := 0
  odOut : List Byte := []
  odIn : List Byte := []
deriving DecidableEq, Repr

/-- A channel, beside its registers: first what its group die keeps, then what the hub die keeps. Of what is less plain: a pulse
is its off-edge's terminal and gate instants; `faults` names the fault causes recorded since the latch was last clear, a bit each; `acting`
is the slot whose action is being carried out and `edgeOf` that of the last gate edge; `cur10At` is the instant of the clock of the last 10 us
mean, `imbAt` that since which every mean of a pair has been out of balance; `shedN` counts the channel's sheds, `shedU` and `shedE` are those
of which the hub die has had the urgent word alone, and the last whose EVENT it has had; `crossOk` says that MCLKx was locked at the
comparator's change; `lpE` is the group L+ at the last gate edge and `edgeAt` its instant of the model's
clock, `cur10` the 10 us mean; `inrushAt`, `limAt`, `dwellAt` and `olAt` are the instants of the clock at which the inrush window,
Limiting, the dwell and the open-load delay began; `was` the working state before the last forced turn-off, with its instant;
`clamping` says that the clamp conducts, `clampEv` that an event runs which a disarm has cut short, `evE` is the clamp energy since the
last turn-off (0.1 mJ); `sup` the SUPPLY in effect (R61); `sink` the input's sink; `crossClk` and `crossF` the start and the span of the
glitch filter's wait; `wbAt`, `lowAt`, `highAt` and `misAt` the instants since which every mean has asked for a change of WIRE_BREAK,
UNDER, OVER and MISMATCH; `dacAt` and `loopChg` those of the last new effective command and of the last change of LOOP_SUPPLY;
`anNote` the last LOOP notification made, with the GCLKx tick and AN_STATUS before it, `dacFold` the MCLKx period of the last DAC action, `dacW` the last write of AN_DAC that was executed and `dacImg` the last that was made,
`rfxAt` the MCLKx period of the last reflex action, and `rangeAt` the instant of the model's clock of the last change of the I-stream
range (R191). -/
structure Chan where
  mode : Nat := 0
  member : Bool := false
  park : Option Park := none
  permitHeld : Bool := false
  cmdOn : Bool := false
  cmdRun : Option (Nat × Option Nat) := none
  run : Option Run := none
  dOn : Nat := 0
  dOff : Nat := 0
  work : Work := .off
  from_ : Work := .off
  sw : Bool := false
  inrush : Bool := false
  latFault : Nat := 0
  faults : Nat := 0
  latTherm : Bool := false
  latClamp : Bool := false
  latFuse : Bool := false
  dwell : Bool := false
  theta : Rat := 0
  level : Rat := 0
  therms : List Nat := []
  tj : Int := 0
  cur : Int := 0
  edge : Option (Bool × Bool) := none
  acting : Option Nat := none
  edgeOf : Option Nat := none
  olOn : Bool := false
  offHigh : Option Bool := none
  offPrev : Nat := 0
  onCross : Option Nat := none
  clampOff : Bool := false
  pulses : List (Nat × Nat) := []
  gateT : Nat := 0
  lpE : Nat := 0
  edgeAt : Nat := 0
  cur10 : Int := 0
  cur10At : Nat := 0
  imbAt : Option Nat := none
  inrushAt : Nat := 0
  limAt : Nat := 0
  dwellAt : Option Nat := none
  olAt : Option Nat := none
  was : Work × Nat := (.off, 0)
  clamping : Bool := false
  clampEv : Bool := false
  evE : Nat := 0
  sup : Nat := 0
  sink : Bool := false
  crossClk : Nat := 0
  crossF : Nat := 0
  wbAt : Option Nat := none
  lowAt : Option Nat := none
  highAt : Option Nat := none
  misAt : Option Nat := none
  dacAt : Option Nat := none
  loopChg : Option Nat := none
  dacFold : Option Nat := none
  anNote : Option (Nat × Nat × OutEntry) := none
  dacW : Nat := 0
  dacImg : Nat := 0
  rfxAt : Option Nat := none
  rangeAt : Nat := 0
  shedN : Nat := 0
  shedU : List Nat := []
  shedE : Nat := 0
  lastG : Nat := 0
  lastT : Nat := 0
  comp : Bool := false
  qual : Bool := false
  valid : Bool := false
  crossT : Nat := 0
  crossE : Bool := false
  crossOk : Bool := true
  acc : Nat := 0
  toggle : Bool := false
  sentA : Option Nat := none
  dacCmd : Nat := 0
  shuntOff : Bool := false
  loopOff : Bool := false
  anOff : Bool := false
  dref : Option Nat × Option Nat := (none, none)
  rej : Nat × Nat := (0, 0)
  waits : List EdgeWait := []
  stroke : Option Stroke := none
  trendFrac : Nat := 0
  tsFlag : Bool := false
  tallyOk : Option Bool := none
  port : Port := {}
deriving DecidableEq, Repr

/-- A sample with its flags (R211, R212): value, gap, settling, over, low range, and whether the gap came from a lost
frame (R213). -/
structure Smp where
  v : Int
  gap : Bool := false
  settle : Bool := false
  ovr : Bool := false
  low : Bool := false
  lost : Bool := false
deriving DecidableEq, Repr

/-- A modulator bit in the hub die's buffer (R192): the tick in which it reaches the decimator, the bit, its gap mark, whether the gap
is a lost frame's, and the range. -/
structure MBit where
  t : Nat := 0
  b : Bool
  gap : Bool
  lost : Bool
  low : Bool
deriving DecidableEq, Repr

/-- A bank change being carried out: outputs made, its length, the old and the new bank (R202). -/
structure Fade where
  j : Nat
  len : Nat
  old : Nat
  new : Nat
deriving DecidableEq, Repr

/-- A window comparator beside its registers (R222 to R227): it is suspended (R64); its next first value is taken as with
START 0 (R224); its last samples were a gap (R225); the tick of its last notification and the exits suppressed since. -/
structure Cmp where
  susp : Bool := false
  asZero : Bool := false
  gap : Bool := false
  lastN : Option Nat := none
  supp : Nat := 0
deriving DecidableEq, Repr

/-- A FIR output as the resampler keeps it: the sample after the DC blocker, its bank, fade and freeze flags, and its
machine time of production in 2^-32 ns. -/
structure FirOut where
  s : Smp
  bank : Nat
  fade : Bool
  dcf : Bool
  t : Nat
deriving DecidableEq, Repr

/-- A sample chain beside its registers (R192 to R217): bits waiting for the decimator, the tick in which the first bit of the next
up-link frame reaches it, and the last 13 bits it took, and the phase of the
pattern that fills a gap; how many of its outputs still carry SETTLING; the last 128 capture samples, newest first; the tick of the last capture and how many
came since the synchronising reset; the inputs of each half-band stage; the FIR inputs and the tick of its last output; a swap request (bank,
length, tick) and a fade; the DC
estimate; the resampler's inputs; the tick of the capture instant of the synchronising reset; the last fine instant in 2^-24 ns and the instants a
step jumped; the comparators; and whether a gap or an overrange run lasts. -/
structure Chain where
  bits : List MBit := []
  frame : Option Nat := none
  sinc : List MBit := []
  phase : Nat := 0
  clear : Nat := 2
  cap : List Smp := []
  capTick : Option Nat := none
  capCnt : Nat := 0
  hb : Vector (List Smp) 6 := Vector.replicate 6 []
  fir : List Smp := []
  firTick : Option Nat := none
  req : Option (Nat × Nat × Nat) := none
  fade : Option Fade := none
  est : Rat := 0
  res : List FirOut := []
  sync : Nat := 0
  lastT : Option Nat := none
  jump : List (Nat × Nat) := []
  coarse : Cmp := {}
  fine : Cmp := {}
  wasGap : Bool := false
  wasOver : Bool := false
deriving DecidableEq, Repr

/-- A Fold slot (R106): its place in the window, T, TARGET, ACTION, PARAM, late policy, entry order, release instant, and
whether it is due and waits for queue room (R111). -/
structure Slot where
  idx : Nat
  t : Nat
  target : Nat
  action : Nat
  param : Nat
  policy : Nat
  order : Nat
  r : Int
  due : Bool := false
  late : Bool := false
deriving DecidableEq, Repr

/-- A condition of the reflex engine (Table 10.3): kind, source, the MASK bit of its detail, its sample word, and whether
it is a learning result, and the tick of its entry (R232). -/
structure Cond where
  kind : Nat
  src : Nat
  bit : Nat
  word : Nat := 0
  learn : Bool := false
  tick : Nat := 0
deriving DecidableEq, Repr

/-- What a register write came to (R36, R39, R58, R287): applied at the hub die, unmapped, refused for a lock or an armed rule,
discarded with no status of its own, a mode refused with its code and the mode asked for, refused by the governor with the
model and the model refused, a word of a group's image with the number of its write, or a change of mode under way. -/
inductive WRes where
  | ok | unmapped | locked | dropped
  | modeRefused (code mode : Nat)
  | govRefused (model new : Nat)
  | grpWord (g : Grp) (wid : Nat)
  | modeChange (c : Ch) (wids : List Nat)
deriving DecidableEq, Repr

/-- Bytes of an inbound ring entry. -/
abbrev Entry := List Byte

/-- A ring beside its registers (R325 to R334). -/
structure RingSt where
  db : Nat := 0
  fails : Nat := 0
  refetch : Bool := false
  wbDue : Bool := false
  wbAt : Option Nat := none
  wbHalt : Bool := false
  unsig : Nat := 0
  sigAt : Nat := 0
  irqDue : Bool := false
  out : List OutEntry := []
deriving DecidableEq, Repr

/-- What an item of a ring 0 command waits for (R337). -/
inductive Item where
  | done (status : Nat)
  | image (g : Grp) (wid : Nat)
  | mode (c : Ch) (wids : List Nat)
deriving DecidableEq, Repr

/-- A ring 0 command executed and not completed (R335, R337). -/
structure Cmd where
  seq : Nat
  op : Nat
  items : List Item
  refused : Bool := false
  extra : List Place := []
  copy : Option (Nat × Nat × Nat) := none
deriving DecidableEq, Repr

/-- A request of the host that waits in the PCLK to CCLK crossing (R46, R453). -/
inductive HostReq where
  | write (addr : Nat) (be : Fin 16) (v : Nat)
  | read (addr : Nat)
  | doorbell (off : Nat) (data : List Byte)
deriving DecidableEq, Repr

/-- The host link beside its registers: in `pba` each vector that is pending stands with the unit whose message it is, or none for
a ring or a Drover channel; `aerUnc`, `aerCor`, `firstErr` and `hdrLog` are the status, the First Error Pointer and the header log of
Advanced Error Reporting, `devSta` the error bits of Device Status; `cross` and `held` are what the two crossings between PCLK and CCLK
hold, `blocked` the requests discarded while CCLK stands. -/
structure HostIf where
  rings : Vector RingSt 8 := Vector.replicate 8 {}
  notif : List OutEntry := []
  lost : Option (Nat × Nat × Nat × List Nat) := none
  queue : List Entry := []
  cmds : List Cmd := []
  head2 : Option Entry := none
  out : List HostOut := []
  msixVec : List (Nat × Nat) := []
  pba : List (Nat × Option U) := []
  cfg : List (Nat × Nat) := []
  aerUnc : Nat := 0
  aerCor : Nat := 0
  firstErr : Nat := 0
  hdrLog : List Nat := []
  devSta : Nat := 0
  fatal : Bool := false
  dlUp : Bool := false
  speed : Nat := 0
  width : Nat := 0
  d3 : Bool := false
  pclkLost : Bool := false
  perst : Bool := true
  phyLow : Bool := true
  cross : Option (Nat × Option U) := none
  held : Option HostReq := none
  blocked : Nat := 0
deriving DecidableEq, Repr

/-- A descriptor as it was fetched (Table 16.2). -/
structure Desc where
  addr : Nat
  ctrl : Nat
  c0 : Nat
  c1 : Nat
  c2 : Nat
  dev : Nat
  host : Nat
  s0 : Int
  s1 : Int
  s2 : Int
  d0 : Int
  d1 : Int
  d2 : Int
  next : Nat
deriving DecidableEq, Repr

/-- A frame in a stream channel's queue (R350): its bytes, and how many of them have been released. -/
structure Frame where
  bytes : List Byte
  gone : Nat := 0
deriving DecidableEq, Repr

/-- A Drover channel beside its registers: the last doorbell value that took effect; the address of a fetch in flight, and whether its read
request has left (R355); the descriptor taken, and whether it is in progress; the prefetched one, or the address and the cause of one that failed its validation; whether a rescan read is in
flight, and the descriptor that ended the chain; the run of zero-length descriptors; the queue, its frame sequence and drop
flag, and the frames being formed; its snapshot and staging registers; whether keeper mode held when the descriptor started. -/
structure DrvCh where
  db : Nat := 0
  fetch : Option Nat := none
  asked : Bool := false
  cur : Option Desc := none
  busy : Bool := false
  pre : Option Desc := none
  preAddr : Option Nat := none
  rescanning : Bool := false
  last : Option Desc := none
  badNext : Nat := 0
  zeros : Nat := 0
  frames : List Frame := []
  fseq : Nat := 0
  dropped : Bool := false
  parts : List (Nat × List (Nat × Nat)) := []
  snap : Option (Nat × Nat) := none
  stage : Option (Nat × Nat) := none
  shut : Bool := false
deriving DecidableEq, Repr

/-- The Drover: its channels, and the channel last served in each direction (R358). -/
structure DrvSt where
  chans : Vector DrvCh 24 := Vector.replicate 24 {}
  lastD2h : Nat := 23
  lastH2d : Nat := 23
deriving DecidableEq, Repr

/-- A check unit's open block beside its registers (R371, R374, R376): direction of the opening descriptor; RUN, COUNT and
IN_BLOCK before the descriptor in progress; the words of a closing inbound descriptor that waits for the test. -/
structure CkSt where
  dir : Option Bool := none
  save : Option (Nat × Nat × Bool) := none
  test : Option (List Byte) := none
deriving DecidableEq, Repr

/-- The supervisor port beside its registers (R378 to R390): the flags of the last frame judged, whether a frame is in progress
and whether it is ignored, KEEPER_EN as its start found it, the tick at which a commit ends, the mode and dummy widths latched, keeper mode,
the status word of the frame, whether the frame began before CCLK had locked (R453), and the data words shifted out in the last READ. -/
structure SvSt where
  lastAlive : Option Nat := none
  flags : Nat := 0
  inFrame : Bool := false
  busy : Bool := false
  keepEn : Bool := false
  commit : Nat := 0
  cpol : Bool := false
  cpha : Nat := 0
  dRd : Nat := 4
  dWr : Nat := 0
  keeper : Bool := false
  status : Nat := 0
  mute : Bool := false
  miso : List Nat := []
deriving DecidableEq, Repr

/-- What a verification of an image under way is for (R400, R407, R458): staging a slot, with the STATE shown before it; or
starting the running slot again, which R407 counts. -/
inductive FwJob where
  | stage (slot shown : Nat)
  | restart (counted : Bool)
deriving DecidableEq, Repr

/-- The embedded controller beside its registers (R398 to R408): its RAM; the verifications under way; the slot staged; whether a failed
restart waits for the flash, and whether it counts; the source of the image last run, while none runs; whether the boot sequence is due;
whether, in a hitless update, the new image has been started, and started cold; the ticks of the restarts, newest first; the ring 4 requests
it holds, and the ISDU_WRITEs refused whose fragments still come (R267). -/
structure FwSt where
  ram : Mem := []
  jobs : List FwJob := []
  staged : Nat := 0
  reload : Option Bool := none
  ran : Option Nat := none
  bootDue : Bool := false
  started : Bool := false
  cold : Bool := false
  kickAt : Nat := 0
  restarts : List Nat := []
  reqs : List Entry := []
  dead : List (Nat × Nat × Nat × Nat) := []
deriving DecidableEq, Repr

/-- A place of the one-time store that a baseline item has taken: the item (0 the hub die, 1 to 4 the groups, 8 + c the channels), whether
it lies in the second area, its bytes, and its CRC-32C, which an item cut short does not have (R422). -/
structure BaseCell where
  item : Nat
  second : Bool := false
  data : List Byte := []
  crc : Option Nat := none
deriving DecidableEq, Repr

/-- Health and ageing beside its registers (R411 to R427): the tick of the last change of NOW, a raise that waits and whether
hardware made it, whether kind 3 has been raised since NOW last changed, whether the hardware raises in this tick, the seconds held of each
die's bins, the baseline items in the one-time store, how many readings each rail has stayed inside its band, the clamp energy of each
channel short of 0.1 J, the accepted resistance values of each channel, newest first, and the count and sum of its first 64; the groups
whose baseline is being taken, the tick of the last lock of CCLK, that at which the baseline run began, and for each direction of a link the
tick since which its margin has lain below EYE_MIN. -/
structure HkSt where
  lastVid : Option Nat := none
  raise : Option Bool := none
  ceilSaid : Bool := false
  hwAsk : Bool := false
  secs : List (Nat × Nat) := []
  base : List BaseCell := []
  rails : List (Nat × Nat) := []
  clamp : List (Nat × Nat) := []
  ohms : List (Nat × List Rat) := []
  firsts : List (Nat × (Nat × Rat)) := []
  due : List Grp := []
  lockAt : Nat := 0
  runAt : Option Nat := none
  eyeLow : List (Nat × Nat) := []
deriving DecidableEq, Repr

/-- A hub Ledger record before it is written (R431): its code, class, source, channel byte, detail and data, whether machine time stands
still for it, the tick in which it is raised, and the machine time then. -/
structure LRec where
  code : Nat
  cls : Nat
  src : Nat := 0
  ch : Nat := 0xFF
  detail : Nat := 0
  data : Nat := 0
  stopped : Bool := false
  raised : Nat := 0
  held : Nat := 0
deriving DecidableEq, Repr

/-- A hub Ledger slot as it stands (Table 21.1). -/
structure LSlot where
  r : LRec
  time : Nat
  seq : Nat
  boot : Nat
deriving DecidableEq, Repr

/-- A slot of a copy of a group's store (R438). -/
structure CSlot where
  r : LocRec
  frozen : Bool
deriving DecidableEq, Repr

/-- A copy of a group's local store: slots by number, and its next slot. -/
structure LCopy where
  slots : List (Nat × CSlot) := []
  next : Nat := 0
deriving DecidableEq, Repr

/-- The Ledger beside its registers (R434 to R443): the queue, the hub slots and the copies, the last record written with its instant, when
the queue last wrote, and the sequence of the record that asserted FAULT_N. -/
structure LdgSt where
  queue : List LRec := []
  slots : List (Nat × LSlot) := []
  copies : Vector LCopy 4 := Vector.replicate 4 {}
  last : Option (Nat × Nat × Nat × Nat) := none
  wroteAt : Option Nat := none
  faultSeq : Nat := 0
deriving DecidableEq, Repr

/-- The hub die's clocks, supplies, time and requester registers: `clock` is the time in ns since State.reset, by which the model
measures what is counted on a clock of its own, and no register shows it; `since` its value when the 1.0 ms of R453 or R458 began;
`time` counts 2^-32 ns (R241), `slew` is the remainder of a
slew in 2^-32 ns, `step` the step of the next tick with its cause, the commits to count and the tick of the first, `disarm` says that LOAD_ARM clears with it, and `wait` one that waits (R247), `last` the last step's amount and its
instant in the old scale (R249), `snap`, `stage` and `rdata` what R40 and R41 keep of each requester and the word last returned
to it, `so` the tick at which a SYNC_OUT pulse
ends and `soNext` the next pulse instant, `fresh` the tick of each mirror's last refresh. -/
structure Hub where
  clock : Nat := 0
  run : HubRun := .por
  xin : Bool := true
  since : Nat := 0
  core : Bool := false
  vddIo : Bool := false
  vaux : Bool := false
  scan : Bool := false
  kept : Bool := false
  time : Nat := 0
  grid : Nat := 0
  slew : Int := 0
  step : Option (Int × Nat × Nat × Nat) := none
  disarm : Bool := false
  wait : Option (Int × Nat) := none
  last : Int × Nat := (0, 0)
  siTick : Option Nat := none
  so : Option Nat := none
  soNext : Option Nat := none
  fresh : Vector (Option Nat) 5 := Vector.replicate 5 none
  snap : Vector (Nat × Nat) 3 := Vector.replicate 3 (0, 0)
  stage : Vector (Option (Nat × Nat)) 3 := Vector.replicate 3 none
  rdata : Vector Nat 3 := Vector.replicate 3 0
  order : Nat := 0
deriving DecidableEq, Repr

/-- What has happened in the present tick of CCLK (R42, R164): the sticky bits that events have set; the fields that accesses have
written, with their values before; the tally counts accepted, and those to be added in the next tick. -/
structure TickSt where
  sets : List (Fld × Nat) := []
  old : List (Fld × Nat) := []
  came : List (Ch × Nat) := []
  later : List (Ch × Nat) := []
deriving DecidableEq, Repr

/-- The Fold beside its registers: its slots, the next entry order, whether FOLD_LOW is armed (R119), and the changes of
OUT_CMD.ON that stand at instants still to come (R496). -/
structure FoldSt where
  slots : List Slot := []
  order : Nat := 0
  armed : Bool := false
  cmdAt : List (Nat × Ch × Bool × Bool) := []
deriving DecidableEq, Repr

/-- The reflex engine beside its registers: its four lanes and the tick of each one's last evaluation; the cancels, with the tick of
their match; and the tick of each rule's last firing. -/
structure RfxSt where
  lanes : Vector (List Cond) 4 := Vector.replicate 4 []
  evalAt : Vector (Option Nat) 4 := Vector.replicate 4 none
  cancels : List (RuleNo × Ch × Nat) := []
  fired : List (Nat × Nat) := []
deriving DecidableEq, Repr

end Sys2Proof.Machine
end

