-- ==== Sys2Proof/Machine/State.lean ====
section
/-! DEFINITION. The state of the block, why a command can stop, and the state right after the power-on reset begins. -/

namespace Sys2Proof.Machine

/-- Why a command can fault: nothing of the spec faults; the type has no constructor. -/
inductive Fault
deriving DecidableEq, Repr

/-- Why a command can be refused. -/
inductive Refusal where
  /-- Raised by an arm of exec whose command has no meaning yet. Safe: nothing can be proved of what it would do. -/
  | notModelled (mnemonic : String)
deriving DecidableEq, Repr

/-- The state. `regs` holds every register field as a requester reads it at the hub die: the group images, what the hub
die keeps, and the visible mirrors. `die` holds the fields of the group units and channel units as the group dies have
them. `hid` is the hidden copy of the mirrors (R44). `tk` holds what the
present tick has seen. `free` counts the open values taken so far; it is the model's own
field, not the spec's. -/
structure State where
  pending : List Instr := []
  regs : Store := []
  die : Store := []
  hid : Store := []
  hub : Hub := {}
  host : HostIf := {}
  links : Vector Link 4 := Vector.replicate 4 {}
  dies : Vector Die 4 := Vector.replicate 4 {}
  chans : Vector Chan 32 := Vector.replicate 32 {}
  chains : Vector Chain 64 := Vector.replicate 64 {}
  coef : List (Nat × Nat) := []
  fold : FoldSt := {}
  rfx : RfxSt := {}
  drv : DrvSt := {}
  ck : Vector CkSt 8 := Vector.replicate 8 {}
  sv : SvSt := {}
  fw : FwSt := {}
  hk : HkSt := {}
  ldg : LdgSt := {}
  tk : TickSt := {}
  free : Nat := 0
deriving DecidableEq, Repr

/-- Right after reset: the hub die in its power-on reset, every register at its reset value, no group die powered, and
nothing waiting. -/
def State.reset : State := {}

end Sys2Proof.Machine
end

