-- ==== Sys2Proof/Machine/Ops.lean ====
section
/-! DEFINITION. The named operations that the meanings share: reading and writing fields, tallies, interrupt causes and
messages, notifications, Ledger records, the reports of a group die, and the image writes that go down a Staed link. -/

namespace Sys2Proof.Machine

/-! ### Fields -/

/-- A field as a requester reads it at the hub die. -/
def State.reg (s : State) (f : Fld) : Nat := s.regs.get f
/-- The same field with a value put in. -/
def State.setReg (s : State) (f : Fld) (v : Nat) : State := { s with regs := s.regs.set f v }
/-- A field at its group die. -/
def State.dreg (s : State) (f : Fld) : Nat := s.die.get f
/-- A field at its group die with a value put in. -/
def State.setDie (s : State) (f : Fld) (v : Nat) : State := { s with die := s.die.set f v }
/-- Whether a one-bit field reads 1. -/
def State.on (s : State) (f : Fld) : Bool := s.reg f == 1
/-- Whether a one-bit field reads 1 at the group die. -/
def State.don (s : State) (f : Fld) : Bool := s.dreg f == 1
/-- A tally that holds at its maximum counts k. -/
def State.tally (s : State) (f : Fld) (k : Nat := 1) : State := s.setReg f (min (s.reg f + k) (2 ^ f.w - 1))
/-- A wrapping count counts k. -/
def State.wrapTally (s : State) (f : Fld) (k : Nat := 1) : State := s.setReg f (s.reg f + k)
/-- A tally at the group die that holds at its maximum counts one. -/
def State.dieTally (s : State) (f : Fld) : State := s.setDie f (min (s.dreg f + 1) (2 ^ f.w - 1))

/-- A changed link end. -/
def State.updLink (s : State) (g : Grp) (k : Link → Link) : State := { s with links := s.links.set g.val (k s.links[g.val]) }
/-- A changed group die. -/
def State.updDie (s : State) (g : Grp) (k : Die → Die) : State := { s with dies := s.dies.set g.val (k s.dies[g.val]) }
/-- A changed channel. -/
def State.updCh (s : State) (c : Ch) (k : Chan → Chan) : State := { s with chans := s.chans.set c.val (k s.chans[c.val]) }
/-- A changed port. -/
def State.updPort (s : State) (c : Ch) (k : Port → Port) : State := s.updCh c fun x => { x with port := k x.port }
/-- A changed sample chain. -/
def State.updChain (s : State) (x : Strm) (k : Chain → Chain) : State := { s with chains := s.chains.set x.val (k s.chains[x.val]) }
/-- A changed ring. -/
def State.updRing (s : State) (r : RingNo) (k : RingSt → RingSt) : State :=
  { s with host := { s.host with rings := s.host.rings.set r.val (k s.host.rings[r.val]) } }
/-- A changed Drover channel. -/
def State.updDrv (s : State) (k : DrvNo) (f : DrvCh → DrvCh) : State :=
  { s with drv := { s.drv with chans := s.drv.chans.set k.val (f s.drv.chans[k.val]) } }
/-- A changed check unit. -/
def State.updCk (s : State) (u : CkNo) (f : CkSt → CkSt) : State := { s with ck := s.ck.set u.val (f s.ck[u.val]) }
/-- The link end of a group. -/
def State.link (s : State) (g : Grp) : Link := s.links[g.val]
/-- The die of a group. -/
def State.dieOf (s : State) (g : Grp) : Die := s.dies[g.val]
/-- A channel. -/
def State.ch (s : State) (c : Ch) : Chan := s.chans[c.val]
/-- A sample chain. -/
def State.chain (s : State) (x : Strm) : Chain := s.chains[x.val]
/-- A ring. -/
def State.ring (s : State) (r : RingNo) : RingSt := s.host.rings[r.val]
/-- A Drover channel. -/
def State.drvc (s : State) (k : DrvNo) : DrvCh := s.drv.chans[k.val]

/-- A fresh open value, and the state that has taken it (log entry 8). -/
def State.openValue (s : State) : Nat × State := (Config.freeValue s.free, { s with free := s.free + 1 })
/-- A number rounded where the spec does not say how: to one of its two neighbours, which of them being open (log entry 9). -/
def roundOpen (site : Nat) (q : Rat) : Int :=
  if q.den = 1 then q.num else if Config.roundUp site q then q.floor + 1 else q.floor
/-- Nearest whole number, halves away from zero (R124, R197). -/
def roundAway (q : Rat) : Int := if q < 0 then -((-q + 1 / 2).floor) else (q + 1 / 2).floor

/-- Insertion into a sorted list. -/
def insSorted {α : Type} (le : α → α → Bool) (x : α) : List α → List α
  | [] => [x]
  | y :: t => if le y x then y :: insSorted le x t else x :: y :: t
/-- A list in order; equal entries keep their order. -/
def sortBy {α : Type} (le : α → α → Bool) (l : List α) : List α := l.foldl (fun a x => insSorted le x a) []

/-- The value of a key in a list of pairs put in place of an old one, the keys in rising order. -/
def putAssoc {α : Type} (l : List (Nat × α)) (k : Nat) (v : α) : List (Nat × α) :=
  insSorted (fun a b => a.1 ≤ b.1) (k, v) (l.filter fun p => p.1 != k)

/-! ### Running -/

/-- Whether the hub die runs: CCLK is locked, not gated, and no reset of the hub die lasts (R453, R458, R494). -/
def State.hubOn (s : State) : Bool := s.hub.run == .running
/-- A command of the hub die: it has its effect while the hub die runs, and changes nothing otherwise (log entry 3). -/
def onHub (k : State → State) (s : State) : Host.Outcome State Fault Refusal := .next (if s.hubOn then k s else s)
/-- Whether the logic of a group die runs: it has supply, no loss of GNDFx holds it in reset (R311), and one of its clocks runs
(R445). -/
def State.dieOn (s : State) (g : Grp) : Bool :=
  (s.dieOf g).powered && !(s.dieOf g).hold && ((s.dieOf g).gclk || (s.dieOf g).timed)
/-- A command of a group die: it has its effect while the die's logic runs. -/
def onDie (g : Grp) (k : State → State) (s : State) : Host.Outcome State Fault Refusal := .next (if s.dieOn g then k s else s)
/-- Both ends run: a record of the up-link, or a frame of the down-link. -/
def onBoth (g : Grp) (k : State → State) (s : State) : Host.Outcome State Fault Refusal :=
  .next (if s.hubOn && s.dieOn g then k s else s)

/-- Machine time in ns (R242). -/
def State.now (s : State) : Nat := s.hub.time / 2 ^ 32 % 2 ^ 64
/-- Machine time as a group die has it (R249); without MCLKx it is the die's own count on GCLKx, which is no machine time. -/
def State.dieNow (s : State) (g : Grp) : Nat := (s.dieOf g).time / 2 ^ 32 % 2 ^ 64
/-- The CCLK tick (R193). -/
def State.tick (s : State) : Nat := s.hub.grid
/-- The time in ns since State.reset, on no clock of the device (log entry 2). -/
def State.clock (s : State) : Nat := s.hub.clock
/-- Whether an interval of n ns that a die counts can have passed since an instant of the model's clock: GCLKx is off by at most
10 %, or 0.1 % while it is trimmed to MCLKx (R22). -/
def State.passed (s : State) (g : Grp) (since n : Nat) : Bool :=
  if (s.dieOf g).timed then decide (999 * n ≤ 1000 * (s.clock - since)) else decide (9 * n ≤ 10 * (s.clock - since))

/-- The state of a group (Table 13.6). -/
def State.grpState (s : State) (g : Grp) : Nat := s.reg (F.GRP_STATUS_STATE g)
/-- A group in ABSENT, LINKING, RESTARTING or REFUSED is absent; in any other state it is present (R283). -/
def absentState (st : Nat) : Bool := st == 0 || st == 1 || st == 6 || st == 7
/-- Whether a group is absent. -/
def State.absent (s : State) (g : Grp) : Bool := absentState (s.grpState g)

/-- Whether the up-link of a group carries records to the hub die: it is locked and not lost (R278, R283). -/
def State.upOn (s : State) (g : Grp) : Bool := s.grpState g != 0 && s.grpState g != 4
/-- Whether the mirror of a group is refreshed: the group is present and its up-link is not lost (Table 2.6). -/
def State.mirrorOn (s : State) (g : Grp) : Bool := !s.absent g && s.grpState g != 4

/-! ### Messages to the host -/

/-- The configuration space at its reset (Tables 15.1 and 15.2); fields that the tables do not give follow the PCI Express Base
Specification. -/
def cfgReset (off : Nat) : Nat :=
  ([(0x00, 0x32041D4B), (0x04, 0x00100000), (0x08, 0x118000B0), (0x10, 4), (0x18, 4), (0x2C, 0x00311D4B), (0x34, 0x40),
    (0x40, 0x00035001), (0x44, 8), (0x50, 0x003F7011), (0x54, 0x000F0000), (0x58, 0x000F8000), (0x70, 0x00020010),
    (0x74, 0x10008021), (0x78, 0x2810), (0x7C, 0x10843), (0x94, 0x13), (0x9C, 0xE), (0xA0, 3), (0x100, 0x14820001),
    (0x108, 0x00400000), (0x10C, 0x00462010), (0x114, 0x6000), (0x148, 0x00010019), (0x154, 0x7F007F00), (0x158, 0x7F007F00)].lookup off).getD 0
/-- A word of the configuration space (R317), the header log of four words among them (R318). -/
def HostIf.cfgWord (h : HostIf) (off : Nat) : Nat :=
  if off = 0x104 then h.aerUnc
  else if off = 0x110 then h.aerCor
  else if 0x11C ≤ off ∧ off < 0x12C then h.hdrLog.getD ((off - 0x11C) / 4) 0
  else
    let w := (h.cfg.lookup off).getD (cfgReset off)
    if off = 0x78 then w + h.devSta * 2 ^ 16 else if off = 0x118 then w + h.firstErr else w
/-- Bus Master Enable. -/
def HostIf.bme (h : HostIf) : Bool := bit (h.cfgWord 4) 2
/-- Memory Space Enable. -/
def HostIf.mse (h : HostIf) : Bool := bit (h.cfgWord 4) 1
/-- MSI-X Enable. -/
def HostIf.msixEn (h : HostIf) : Bool := bit (h.cfgWord 0x50) 31
/-- MSI-X Function Mask. -/
def HostIf.funcMask (h : HostIf) : Bool := bit (h.cfgWord 0x50) 30
/-- A word of the MSI-X table; the vector control words come up masked. -/
def HostIf.msixWord (h : HostIf) (k j : Nat) : Nat := (h.msixVec.lookup (4 * k + j)).getD (if j = 3 then 1 else 0)
/-- Whether the function may issue requests (R319, R321). -/
def HostIf.mayIssue (h : HostIf) : Bool := h.dlUp && h.bme && !h.d3 && !h.fatal
/-- The message of a vector. -/
def HostIf.message (h : HostIf) (k : Nat) : HostOut := .msix (h.msixWord k 0 + 2 ^ 32 * h.msixWord k 1) (h.msixWord k 2)

/-- An event sets bits of a sticky field; a W1C of them in the same tick leaves them set (R42). -/
def State.stick (s : State) (f : Fld) (v : Nat) : State :=
  { s.setReg f (s.reg f ||| v) with tk := { s.tk with sets := (f, v) :: s.tk.sets } }
/-- The bits of a sticky field that events have set in the present tick. -/
def State.stuck (s : State) (f : Fld) : Nat := s.tk.sets.foldl (fun a p => if p.1 = f then a ||| p.2 else a) 0
/-- Setting a cause bit's register field without the message rules. -/
def State.orCause (s : State) (u : U) (k : Nat) : State := s.stick (F.CAUSE u) (2 ^ k)
/-- A field as it stood before the accesses of the present tick. -/
def State.regOld (s : State) (f : Fld) : Nat := (s.tk.old.lookup f).getD (s.reg f)
/-- Whether an access has written a field in the present tick. -/
def State.written (s : State) (f : Fld) : Bool := (s.tk.old.lookup f).isSome
/-- Hardware updates a field that is also written: in the tick of a write the written value holds (R42, Table 2.4). -/
def State.hwSet (s : State) (f : Fld) (v : Nat) : State := if s.written f then s else s.setReg f v
/-- A tally that accesses write too counts k (R42). -/
def State.hwTally (s : State) (f : Fld) (k : Nat) : State := s.hwSet f (min (s.reg f + k) (2 ^ f.w - 1))
/-- An access has written a field that stood at a value. -/
def State.noteWrite (s : State) (f : Fld) (was : Nat) : State :=
  if s.written f then s else { s with tk := { s.tk with old := (f, was) :: s.tk.old } }

/-- The pending set of a unit (R49). -/
def State.pendingSet (s : State) (u : U) : Nat := s.reg (F.CAUSE u) &&& s.reg (F.ENABLE u)
/-- A message request at the endpoint, for a unit or for a ring or channel: sent, or kept in the pending-bit array while a mask or
the function's state holds it back; nothing while MSI-X is disabled (R50). -/
def State.deliverMsix (s : State) (k : Nat) (u : Option U) : State :=
  if !s.host.msixEn then s
  else if s.host.funcMask || bit (s.host.msixWord k 3) 0 || !s.host.mayIssue then
    { s with host := { s.host with pba := if (k, u) ∈ s.host.pba then s.host.pba else s.host.pba ++ [(k, u)] } }
  else { s with host := { s.host with out := s.host.out ++ [s.host.message k] } }
/-- A message request discarded at a crossing that holds one is counted (R46); where that makes the pending set of the root
non-empty, the root's own request is discarded with it. -/
def State.crossBlocked (s : State) : State :=
  let s1 := (s.tally F.ROOT_ACCESS_TALLY_B_CROSS_BLOCKED).orCause .root 3
  if s.pendingSet .root = 0 ∧ s1.pendingSet .root ≠ 0 ∧ s.on (F.ROUTE_MSIX .root) then s1.tally F.ROOT_ACCESS_TALLY_B_CROSS_BLOCKED else s1
/-- A message request goes into the CCLK to PCLK crossing: it is held there while PCLK is stopped, and discarded and counted
when one is held already, which stays until it has been delivered (R46). -/
def State.requestMsix (s : State) (k : Nat) (u : Option U) : State :=
  if s.host.cross.isSome then s.crossBlocked
  else if !s.host.pclkLost then s.deliverMsix k u
  else { s with host := { s.host with cross := some (k, u) } }

/-- The unit's message, when its route asks for one and its pending set is not empty (R50). -/
def State.unitMessage (s : State) (u : U) : State :=
  if s.on (F.ROUTE_MSIX u) && s.pendingSet u != 0 then s.requestMsix (s.reg (F.ROUTE_VECTOR u)) (some u) else s
/-- What a write of a unit's causes or enables leaves pending is asked for again; a vector whose cause is dealt with is pending no
more (R50). -/
def State.unitAsked (s : State) (u : U) : State :=
  if s.pendingSet u = 0 then { s with host := { s.host with pba := s.host.pba.filter fun p => p.2 != some u } } else s.unitMessage u
/-- A cause of a unit is set; a message is requested when the pending set changes from empty to non-empty (R50). -/
def State.cause (s : State) (u : U) (k : Nat) : State :=
  if s.pendingSet u = 0 then (s.orCause u k).unitMessage u else s.orCause u k

/-! ### Notifications -/

/-- The bit set of the kinds lost. -/
def kindsLost (l : List Nat) : Nat := l.foldl (fun a k => a ||| 2 ^ k) 0
/-- The NOTIFY_LOST entry of a loss (Table 15.11). -/
def lostEntry (x : Nat × Nat × Nat × List Nat) : OutEntry :=
  { kind := 1, body := [(4, 8, x.2.1), (12, 4, x.1), (16, 8, x.2.2.1), (24, 32, kindsLost x.2.2.2)] }
/-- A notification is lost: counted, and kept with the time of the loss for the NOTIFY_LOST entry, whose place is apart from the
buffer (R333, R339). While the link is down the causes of the host link unit hold their reset value (R342). -/
def State.loseNote (s : State) (kind : Nat) : State :=
  let x := match s.host.lost with
    | none => (1, s.now, s.now, [kind])
    | some (n, t0, _, ks) => (n + 1, t0, s.now, if kind ∈ ks then ks else ks ++ [kind])
  let s1 := ({ s with host := { s.host with lost := some x } }).tally (F.RING_TALLY_LOST 3)
  if s.host.dlUp then s1.cause .hl 3 else s1
/-- A notification is raised with its machine time: queued for ring 3, or lost when the buffer is full or ring 3 is
disabled (R332, R333, R339). -/
def State.raise (s : State) (kind time : Nat) (body : List Place) : State :=
  if s.on (F.RING_CFG_ENABLE 3) && s.host.notif.length < 128 then
    { s with host := { s.host with notif := s.host.notif ++ [{ kind := kind, body := (4, 8, time) :: body }] } }
  else s.loseNote kind
/-- A notification stamped with the present machine time. -/
def State.notify (s : State) (kind : Nat) (body : List Place) : State := s.raise kind s.now body

/-! ### The hub Ledger's queue -/

/-- Whether a record goes before another one of the same tick: by SOURCE, then by CODE (R434). -/
def LRec.before (r x : LRec) : Bool := r.raised == x.raised && (decide (r.src < x.src) || (r.src == x.src && decide (r.code < x.code)))
/-- A record joins the queue behind those of earlier ticks, in its place among those of its own. -/
def queueRec (r : LRec) : List LRec → List LRec
  | [] => [r]
  | x :: t => if r.before x then r :: x :: t else x :: queueRec r t
/-- A hub record is raised: it enters the queue of 16, two places of which are kept for class 4 (R434). -/
def State.post (s : State) (r : LRec) : State :=
  if s.ldg.queue.length < (if r.cls = 4 then 16 else 14) then
    { s with ldg := { s.ldg with queue := queueRec { r with raised := s.tick, held := s.now } s.ldg.queue } }
  else (s.tally F.LDG_TALLY_LOST).cause .ldg 3

/-! ### Reports of a group die -/

/-- The die makes a reliable EVENT record (R276). -/
def State.evt (s : State) (g : Grp) (e : EvData) : State := s.updDie g fun d => { d with evQ := d.evQ ++ [.event e] }
/-- Whether the status lane of an up-link frame has room for the end of a record of n bytes of a rank in Table 13.5, which may have begun in
what the frames before it left, with no record of a higher rank waiting: 0 DELAY, 1 TALLY, 2 TIMESTAMP, 3 EVENT, 4 IOL, 5 the rest (R276,
log entry 167). -/
def State.laneFor (s : State) (g : Grp) (rank n : Nat) : Bool :=
  let d := s.dieOf g
  decide ((n : Int) ≤ d.lane + min d.left (n - 1)) && (rank == 0 || d.delayQ == []) &&
    (!d.firstAck ||
      ((rank ≤ 1 || (List.finRange 8).all fun k => s.chans[(chOf g k).val].acc == 0 || s.chans[(chOf g k).val].sentA.isSome) &&
        (rank ≤ 2 || d.tsQ == []) && (rank ≤ 3 || d.evQ == []) && (rank ≤ 4 || d.iolQ == [])))
/-- A record takes n bytes of the status lane: first of what the frames before the present one left. -/
def State.laneTake (s : State) (g : Grp) (n : Nat) : State :=
  s.updDie g fun d => { d with lane := d.lane - ((n - min d.left (n - 1) : Nat) : Int), left := 0 }
/-- The die reports an interrupt cause of one of its channels (R43). -/
def State.chEvt (s : State) (c : Ch) (k : Nat) : State := s.evt (grpOf c) (.chCause (chN c) k)
/-- The die sends an urgent condition word (R229). -/
def State.urgent (s : State) (c : Ch) (code : Nat) (k : Nat := 0) : State :=
  s.updDie (grpOf c) fun d => { d with urgUp := d.urgUp ++ [.cond (chN c) code k] }
/-- The die begins to commit its local Ledger; records written meanwhile wait for the next commit, which an occasion that comes meanwhile
makes follow at once (R437). -/
def State.beginCommit (s : State) (g : Grp) : State :=
  s.updDie g fun d => if d.commit then { d with recommit := true } else { d with commit := true, cells := d.store, dirty := false }
/-- The time of a local record: bits [49:10] of the die's machine time, or with MCLKx lost the microseconds counted on GCLKx since the die's
last MCLK_LOST record; before the first such record the count is open (Table 21.2, log entry 102). -/
def State.localTime (s : State) (g : Grp) : Nat × Bool × State :=
  if (s.dieOf g).timed then (s.dieNow g / 2 ^ 10 % 2 ^ 40, false, s)
  else match (s.dieOf g).lostAt with
    | some t => (((s.dieOf g).gcount - t) / 2 ^ 32 / 1000 % 2 ^ 40, true, s)
    | none => let p := s.openValue; (p.1 % 2 ^ 40, true, p.2)
/-- The die writes a local record into slot LSEQ mod 64 of its store and sends it as an EVENT record; a class 4 record is
committed (R432, R437). -/
def State.local (s : State) (g : Grp) (code chan cls data : Nat) : State :=
  let p := s.localTime g
  let q := ((s.dieOf g).lseq + 1) % 2 ^ 16
  let r : LocRec := { lseq := q, time := p.1, t := p.2.1, code := code, chan := chan, cls := cls, data := data }
  let s2 := (p.2.2.updDie g fun d =>
    { d with lseq := q, dirty := true, store := (d.store.filter fun x => x.lseq % 64 != q % 64) ++ [r] }).evt g (.ledger r)
  if cls = 4 then s2.beginCommit g else s2

/-! ### Words -/

/-- The value of a register word composed from its fields in a store. -/
def wordOf (st : Store) (u : U) (off : Nat) : Nat :=
  ((layout u).filter fun r => r.off == off).foldl (fun a r => a + st.get ⟨u, off, r.lo, r.w, r.dflt⟩ * 2 ^ r.lo) 0
/-- The unit and the byte offset inside it of an offset within a group's 64 KiB (R35). -/
def grpUnit (g : Grp) (off : Nat) : U × Nat :=
  if off < 0x1000 then (.grp g, off)
  else if h : off / 0x1000 - 1 < 8 then (.ch (chOf g ⟨off / 0x1000 - 1, h⟩), off % 0x1000) else (.grp g, off % 0x1000)
/-- The offset within its group's 64 KiB of a word of a group unit or a channel unit (R35). -/
def inGroup : U → Nat → Nat
  | .ch c, off => 0x1000 + (c.val % 8) * 0x1000 + off
  | _, off => off
/-- The group of a group unit or channel unit. -/
def U.grpOf : U → Option Grp
  | .grp g => some g
  | .ch c => some (Sys2Proof.grpOf c)
  | _ => none

/-! ### Writes to a group's image -/

/-- A command is queued for a group in its category (R274). -/
def Link.enqWrite (l : Link) (x : TxCmd) : Link := { l with write := l.write ++ [x] }
/-- A write to the image of a group is accepted: WRITTEN counts it and the word counts as unconfirmed; while the group is
present a WRITE carries it to the die, in a reload or by itself (R15, R285, R287). The number answered names the write. -/
def State.imageWrite (s : State) (g : Grp) (off data : Nat) : Nat × State :=
  let id := (s.link g).wid
  let s0 := match grpUnit g off with
    | (.ch c, o) => if o = 0xD8 then s.updCh c fun k => { k with dacImg := 2 * id + 2 } else s
    | _ => s
  let s1 := (s0.wrapTally (F.GRP_IMAGE_WRITTEN g)).updLink g fun l =>
    { l with wid := id + 1, order := l.order ++ [(id, off, false)], unW := if off ∈ l.unW then l.unW else l.unW ++ [off] }
  if s.absent g then (id, s1)
  else (id, s1.updLink g fun l => l.enqWrite { cmd := .write (off / 4) data, tag := .image id off })
/-- The word at its unit is sent as its image now stands. -/
def State.sendWord (s : State) (u : U) (off : Nat) : Nat × State :=
  match u.grpOf with
  | none => (0, s)
  | some g => s.imageWrite g (inGroup u off) (wordOf s.regs u off)
/-- A RULE command of a rule is queued for the group of its TARGET, or stays unconfirmed while the group is absent (R280). -/
def State.sendRule (s : State) (r : RuleNo) : State :=
  let c : Ch := ⟨s.reg (F.RFX_ACTION_TARGET r) % 32, by omega⟩
  let g := grpOf c
  let s1 := s.updLink g fun l => { l with unR := if r ∈ l.unR then l.unR else l.unR ++ [r] }
  if s.absent g then s1
  else s1.updLink g fun l =>
    { l with rule := l.rule ++ [{ cmd := .rule r (s.reg (F.RFX_ACTION_CODE r)) (chN c) (s.reg (F.RFX_PARAM r)), tag := .rule r }] }
/-- The urgent-edge masks of the groups, from the rules of kind 3 that are not disarmed; a changed mask is written to its
group (R229). -/
def State.edgeMasks (s : State) : State :=
  (List.finRange 4).foldl (fun s g =>
    let m := (List.finRange 64).foldl (fun a r =>
      if s.reg (F.RFX_COND_KIND r) = 3 ∧ s.reg (F.RFX_ARM_PHASE r) ≠ 0 ∧ s.reg (F.RFX_COND_SOURCE r) < 32 ∧ s.reg (F.RFX_COND_SOURCE r) / 8 = g.val then
        a ||| 2 ^ (s.reg (F.RFX_COND_SOURCE r) % 8) else a) 0
    if m = s.reg (F.GRP_EDGE_URGENT_MASK g) then s
    else ((s.setReg (F.GRP_EDGE_URGENT_MASK g) m).sendWord (.grp g) 0x58).2) s

/-! ### Check values -/

/-- One byte into a reflected CRC register of 32 bits. -/
def crcRefl (poly : Nat) (reg : Nat) (b : Nat) : Nat :=
  (List.range 8).foldl (fun r _ => if r % 2 = 1 then (r / 2) ^^^ poly else r / 2) (reg ^^^ b)
/-- One byte into the register of CRC-16/CCITT, most significant bit first. -/
def crc16Byte (reg : Nat) (b : Nat) : Nat :=
  (List.range 8).foldl (fun r _ => if r ≥ 0x8000 then ((r * 2) % 0x10000) ^^^ 0x1021 else r * 2) (reg % 0x10000 ^^^ (b * 256))
/-- One byte into the register of an algorithm (Table 17.2). -/
def crcByte (alg : Nat) (reg : Nat) (b : Byte) : Nat :=
  if alg = 1 then crcRefl 0xEDB88320 reg b.toNat
  else if alg = 2 then crc16Byte reg b.toNat
  else crcRefl 0x82F63B78 reg b.toNat
/-- INIT of an algorithm. -/
def crcInit (alg : Nat) : Nat := if alg = 2 then 0xFFFF else 0xFFFFFFFF
/-- XOROUT applied; of CRC-16/CCITT the low 16 bits (R368). -/
def crcOut (alg reg : Nat) : Nat := if alg = 2 then reg % 0x10000 else reg ^^^ 0xFFFFFFFF
/-- A register fed with bytes. -/
def crcFeed (alg reg : Nat) (l : List Byte) : Nat := l.foldl (crcByte alg) reg
/-- CRC-32C of a byte string (R326). -/
def crc32c (l : List Byte) : Nat := crcOut 0 (crcFeed 0 (crcInit 0) l)
/-- CRC-16/CCITT of a byte string (R272). -/
def crc16 (l : List Byte) : Nat := crcOut 2 (crcFeed 2 (crcInit 2) l)
/-- Bytes from..from+n-1 of a byte string as a little-endian number. -/
def bytesAt (l : List Byte) (k n : Nat) : Nat := ofLe ((l.drop k).take n)
/-- Bytes of an entry with values placed into them. -/
def placeBytes (n : Nat) (ps : List Place) : List Byte :=
  (List.range n).map fun i => ps.foldl (fun b p => if p.1 ≤ i ∧ i < p.1 + p.2.1 then BitVec.ofNat 8 (p.2.2 / 256 ^ (i - p.1)) else b) 0

end Sys2Proof.Machine
end

