-- ==== Sys2Proof/Machine/Digest.lean ====
section
/-! DEFINITION. SHA-256 and the verification of an ECDSA signature over P-256 (FIPS 186-4), by which the image of a slot is tested
(R399, R400). -/

namespace Sys2Proof.Machine

/-! ### SHA-256 -/

/-- The greatest number below r + 2^k, in steps of the bits from k down, whose e-th power is at most n. -/
def rootFrom (e n : Nat) : Nat → Nat → Nat
  | 0, r => r
  | k + 1, r => rootFrom e n k (if (r + 2 ^ k) ^ e ≤ n then r + 2 ^ k else r)
/-- The primes below a bound, in ascending order. -/
def primesBelow (m : Nat) : List Nat :=
  (List.range m).filter fun p => decide (2 ≤ p) && (List.range p).all fun d => decide (d < 2) || p % d != 0
/-- The round constants: 32 bits of the fraction of the cube root of each of the first 64 primes. -/
def shaRounds : List Nat := (primesBelow 312).map fun p => rootFrom 3 (p * 2 ^ 96) 36 0 % 2 ^ 32
/-- The initial hash value: 32 bits of the fraction of the square root of each of the first 8 primes. -/
def shaStart : List Nat := ((primesBelow 312).take 8).map fun p => rootFrom 2 (p * 2 ^ 64) 36 0 % 2 ^ 32
/-- A word of 32 bits turned right by n. -/
def turned (x n : Nat) : Nat := x / 2 ^ n + x % 2 ^ n * 2 ^ (32 - n)
/-- Two turns and a third of them or a shift, joined bit by bit. -/
def shaMix (x a b c : Nat) (shift : Bool) : Nat := turned x a ^^^ turned x b ^^^ (if shift then x / 2 ^ c else turned x c)
/-- The message schedule of a block, the newest word first, with n words more than it has. -/
def shaWords : Nat → List Nat → List Nat
  | 0, w => w
  | n + 1, w =>
    let at_ := fun j => w.getD (j - 1) 0
    shaWords n ((shaMix (at_ 2) 17 19 10 true + at_ 7 + shaMix (at_ 15) 7 18 3 true + at_ 16) % 2 ^ 32 :: w)
/-- One round on the eight working words, with the round's constant and word added. -/
def shaRound (v : List Nat) (kw : Nat) : List Nat :=
  let x := fun j => v.getD j 0
  let pick := (x 4 &&& x 5) ^^^ ((2 ^ 32 - 1 - x 4) &&& x 6)
  let most := (x 0 &&& x 1) ^^^ (x 0 &&& x 2) ^^^ (x 1 &&& x 2)
  let t := x 7 + shaMix (x 4) 6 11 25 false + pick + kw
  [(t + shaMix (x 0) 2 13 22 false + most) % 2 ^ 32, x 0, x 1, x 2, (x 3 + t) % 2 ^ 32, x 4, x 5, x 6]
/-- The hash value after a block of 16 words. -/
def shaBlock (k h w : List Nat) : List Nat :=
  let v := (List.zipWith (· + ·) k (shaWords 48 w.reverse).reverse).foldl shaRound h
  List.zipWith (fun a b => (a + b) % 2 ^ 32) h v
/-- A number of big-endian bytes. -/
def ofBe (l : List Byte) : Nat := ofLe l.reverse
/-- Bytes cut into n pieces of a length. -/
def pieces (len : Nat) : Nat → List Byte → List (List Byte)
  | 0, _ => []
  | n + 1, l => l.take len :: pieces len n (l.drop len)
/-- A message filled up: a 1 bit, zeros, and its length in bits, to whole blocks of 64 bytes. -/
def shaPadded (l : List Byte) : List Byte :=
  l ++ [0x80] ++ List.replicate ((119 - l.length % 64) % 64) 0 ++ (leBytes 8 (8 * l.length)).reverse
/-- The SHA-256 digest of bytes, as a number of 256 bits. -/
def sha256 (l : List Byte) : Nat :=
  let p := shaPadded l
  let k := shaRounds
  ((pieces 64 (p.length / 64) p).foldl (fun h b => shaBlock k h ((pieces 4 16 b).map ofBe)) shaStart).foldl (fun a x => a * 2 ^ 32 + x) 0

/-! ### ECDSA over P-256 -/

/-- The prime of the field. -/
def p256 : Nat := 2 ^ 256 - 2 ^ 224 + 2 ^ 192 + 2 ^ 96 - 1
/-- The order of the base point. -/
def n256 : Nat := 0xFFFFFFFF00000000FFFFFFFFFFFFFFFFBCE6FAADA7179E84F3B9CAC2FC632551
/-- A power modulo m, of an exponent of so many bits. -/
def powMod (m : Nat) : Nat → Nat → Nat → Nat
  | 0, _, _ => 1 % m
  | k + 1, b, e => (if e % 2 = 1 then b else 1) * powMod m k (b * b % m) (e / 2) % m
/-- The inverse modulo a prime of 256 bits. -/
def invMod (m a : Nat) : Nat := powMod m 256 (a % m) (m - 2)
/-- The sum of two points of the curve; none is the point at infinity. -/
def addPoints : Option (Nat × Nat) → Option (Nat × Nat) → Option (Nat × Nat)
  | none, q => q
  | p, none => p
  | some (x1, y1), some (x2, y2) =>
    if x1 = x2 ∧ (y1 + y2) % p256 = 0 then none
    else
      let slope := (if x1 = x2 then (3 * x1 * x1 + (p256 - 3)) * invMod p256 (2 * y1) else (y2 + p256 - y1) * invMod p256 (x2 + p256 - x1)) % p256
      let x := (slope * slope + 2 * p256 - x1 - x2) % p256
      some (x, (slope * (x1 + p256 - x) + p256 - y1) % p256)
/-- A multiple of a point, of a factor of so many bits. -/
def mulPoint : Nat → Nat → Option (Nat × Nat) → Option (Nat × Nat)
  | 0, _, _ => none
  | j + 1, k, p => addPoints (if k % 2 = 1 then p else none) (mulPoint j (k / 2) (addPoints p p))
/-- The base point of P-256. -/
def g256 : Nat × Nat :=
  (0x6B17D1F2E12C4247F8BCE6E563A440F277037D812DEB33A0F4A13945D898C296, 0x4FE342E2FE1A7F9B8EE7EB4A7C0F9E162BCE33576B315ECECBB6406837BF51F5)
/-- Whether (r, s) is a signature of a digest under a public key. -/
def ecdsaOk (key : Nat × Nat) (digest r s : Nat) : Bool :=
  if r = 0 ∨ s = 0 ∨ n256 ≤ r ∨ n256 ≤ s then false
  else
    let w := invMod n256 s
    match addPoints (mulPoint 256 (digest * w % n256) (some g256)) (mulPoint 256 (r * w % n256) (some key)) with
    | some (x, _) => x % n256 == r
    | none => false

end Sys2Proof.Machine
end

