-- ==== Sys2Proof/Machine/Operands.lean ====
section
/-! DEFINITION. Operand forms: what a field acts as when it is written outside its range, the spans and thresholds coded by
fields, and the places of bytes under byte enables. -/

namespace Sys2Proof.Machine

/-- The mask of the enabled bytes (R37). -/
def beMask (be : Fin 16) : Nat :=
  (if bit be.val 0 then 0xFF else 0) + (if bit be.val 1 then 0xFF00 else 0) + (if bit be.val 2 then 0xFF0000 else 0) +
    (if bit be.val 3 then 0xFF000000 else 0)
/-- A word with its enabled bytes replaced (R37). -/
def merge (be : Fin 16) (old new : Nat) : Nat := (old &&& (0xFFFFFFFF - beMask be)) ||| (new &&& beMask be)

/-- A mode whose terminal is driven by the high-side switch: output, pair, supplier (Table 3.1). -/
def switchMode (m : Nat) : Bool := m == 1 || m == 2 || m == 9
/-- The four analogue modes. -/
def analogMode (m : Nat) : Bool := m == 4 || m == 5 || m == 6 || m == 7
/-- The two analogue output modes. -/
def dacMode (m : Nat) : Bool := m == 6 || m == 7

/-- OUT_LIMIT.CUR_LIMIT in mA: 0 acts as 1, 31 as 30; x 50 mA, a pair x 100 mA (Tables 4.14, 4.4). -/
def curLimit (code : Nat) (pair : Bool) : Nat := clampN 1 30 code * (if pair then 100 else 50)
/-- OUT_LIMIT.INRUSH_LIMIT in mA: above 25 acts as 25; x 100 mA, a pair x 200 mA (Tables 4.14, 4.4). -/
def inrushLimit (code : Nat) (pair : Bool) : Nat := min code 25 * (if pair then 200 else 100)
/-- INRUSH_WINDOW in 0.1 ms, at most 1000. -/
def inrushWindow (code : Nat) : Nat := min code 1000
/-- OUT_FUSE.WIRE_CLASS; 6 and 7 act as 0 (Table 4.3). -/
def wireClass (k : Nat) : Nat := if k < 6 then k else 0
/-- tau in ms of a wire class (Table 4.3). -/
def wireTau (k : Nat) : Nat := [4000, 6000, 8000, 11000, 15000, 20000].getD (wireClass k) 4000
/-- dt_p in K of a wire class. -/
def wireDt (k : Nat) : Nat := [30, 30, 35, 40, 40, 40].getD (wireClass k) 30
/-- i_p in mA of a wire class. -/
def wireIp (k : Nat) : Nat := [900, 1300, 1600, 2000, 2500, 3000].getD (wireClass k) 900
/-- OUT_CLAMP.CAPACITY in mJ: 1 to 400, a pair to 800. -/
def clampCap (code : Nat) (pair : Bool) : Nat := clampN 1 (if pair then 800 else 400) code
/-- OUT_CLAMP.DRAIN in mW: 1 to 150, a pair to 300. -/
def clampDrain (code : Nat) (pair : Bool) : Nat := clampN 1 (if pair then 300 else 150) code

/-- FOLD_CTRL.LEAD in ns: 20 to 200 x 0.1 us. -/
def leadNs (code : Nat) : Nat := clampN 20 200 code * 100
/-- PWM period in ns: 250 to 12,500,000 x 80 ns (Table 5.22). -/
def pwmPeriod (code : Nat) : Nat := clampN 250 12500000 code * 80
/-- The late policy stored with a slot, in the encoding of Table 5.1: the flag's own, or the default translated (Table 5.17). -/
def latePolicy (flag dflt : Nat) : Nat := if flag = 0 then (if dflt = 0 then 1 else if dflt = 2 then 3 else 2) else flag
/-- The slope K of the delay in 0.1 ns per V, by SLEW (Table 5.7); 0b11 acts as normal. -/
def slewK (slew : Nat) : Nat := if slew = 1 then 1670 else if slew = 2 then 167 else 500

/-- SK_CFG.WINDOW in ns: 1 to 650 x 0.1 ms. -/
def strokeWindow (code : Nat) : Nat := clampN 1 650 code * 100000
/-- SK_CFG.DEPTH in mA: 0 acts as 1, x 4 mA. -/
def strokeDepth (code : Nat) : Nat := max 1 code * 4
/-- Half-band stages H, 2 to 6 (R196). -/
def halfBands (hb : Nat) : Nat := clampN 2 6 hb
/-- T_fir in ns (Table 9.3). -/
def tFir (h : Nat) : Nat := 200 * 2 ^ h
/-- The resampler period in effect in units of 2^-24 ns (R206). -/
def resPeriod (p h : Nat) : Nat := clampN (max 1600 (tFir h) * 2 ^ 24) (100000000 * 2 ^ 24) p
/-- The settling time S of the fine path in ns (R216). -/
def settleNs (h : Nat) (fir : Bool) : Nat := 8400 * (2 ^ h - 1) + (if fir then 19000 * 2 ^ h else 0) + 3000 * 2 ^ h
/-- SC_DC.K, 4 to 20. -/
def dcShift (k : Nat) : Nat := clampN 4 20 k
/-- A code bounded by AN_CLAMP; CODE_MIN above CODE_MAX holds the DAC at CODE_MAX (R177). -/
def dacBound (lo hi code : Nat) : Nat := if hi < lo then hi else clampN lo hi code
/-- TB_RATE as applied (R243). -/
def rateOf (v : Nat) : Int := clampI (-4294967) 4294967 (sgn 32 v)
/-- TB_SLEW_RATE as applied. -/
def slewRateOf (v : Nat) : Nat := min v 4294967
/-- A cycle time of the IO-Link coding in us; the reserved coding and 0 ask for the device's own (R265). -/
def iolCycleUs (code : Nat) : Nat :=
  let m := code % 64
  if code / 64 = 0 then m * 100 else if code / 64 = 1 then 6400 + m * 400 else if code / 64 = 2 then 32000 + m * 1600 else 0
/-- The floor of the cycle at a COM rate in us (R265). -/
def iolFloorUs (com : Nat) : Nat := if com = 3 then 400 else if com = 2 then 2300 else 18000
/-- Ring size 2^k, k from 4 to 16 (Table 15.18). -/
def ringSize (log2 : Nat) : Nat := 2 ^ clampN 4 16 log2
/-- LDG_CFG.FAULT_MIN: below 3 acts as 3, above 4 as 4. -/
def faultMin (v : Nat) : Nat := clampN 3 4 v
/-- REDUCE of a channel: above 75 acts as 75 (Table 20.14). -/
def reduceOf (v : Nat) : Nat := min v 75
/-- A VID code: 7 acts as 6 (Table 20.5). -/
def vidCode (v : Nat) : Nat := min v 6


end Sys2Proof.Machine
end

