-- ==== Sys2Proof/Machine/RingOps.lean ====
section
/-! DEFINITION. Shared operations of the rings: indices, consuming an entry, completions, and what a ring keeps to write
(R325 to R337). -/

namespace Sys2Proof.Machine

/-- Entries of a ring between its indices (R328). -/
def State.ringPending (s : State) (r : RingNo) : Nat := (s.reg (F.RING_PROD r) + 2 ^ 32 - s.reg (F.RING_CONS r)) % 2 ^ 32
/-- The size of a ring in entries. -/
def State.ringSize (s : State) (r : RingNo) : Nat := Machine.ringSize (s.reg (F.RING_CFG_LOG2 r))
/-- The host address of the entry a ring's device index stands at (R323). -/
def State.ringAddr (s : State) (r : RingNo) (i : Nat) : Nat :=
  (s.reg (F.RING_BASE_HI r) * 2 ^ 32 + s.reg (F.RING_BASE_LO r) * 2 ^ 12) + (i % s.ringSize r) * 64
/-- An inbound ring: 0, 2 or 4 (Table 15.4). -/
def inbound (r : RingNo) : Bool := r.val == 0 || r.val == 2 || r.val == 4
/-- An outbound ring: 1, 3, 5 or 6. -/
def outbound (r : RingNo) : Bool := r.val == 1 || r.val == 3 || r.val == 5 || r.val == 6
/-- Whether a ring is enabled and not halted. -/
def State.ringRuns (s : State) (r : RingNo) : Bool := s.on (F.RING_CFG_ENABLE r) && !s.on (F.RING_STATUS_HALTED r)
/-- The entry at the head of an inbound ring is consumed: the consumer index and the expected sequence advance, a record is
due, and a message when the producer is reached (R327, R330, R331). -/
def State.consume (s : State) (r : RingNo) : State :=
  let s1 := (s.wrapTally (F.RING_CONS r)).wrapTally (F.RING_SEQ r)
  s1.updRing r fun x =>
    { x with fails := 0, refetch := false, wbDue := true, irqDue := x.irqDue || (s1.ringPending r == 0 && s1.on (F.RING_IRQ_EN r)) }
/-- What an outbound ring is to write is kept in the device until there is room (R332, R341). -/
def State.ringOut (s : State) (r : RingNo) (e : OutEntry) : State := s.updRing r fun x => { x with out := x.out ++ [e] }
/-- A completion on ring 1 (Table 15.8). -/
def State.complete (s : State) (seq status op ring item : Nat) (extra : List Place) : State :=
  s.ringOut 1 { kind := 1, body := [(4, 4, seq), (8, 1, status), (9, 1, op), (10, 1, ring), (11, 1, item)] ++ extra }
/-- A ring halts: HALTED, the cause, IRQ_CAUSE.HALT, and a RING_ERROR for causes 1 and 2 of a ring other than ring 3; its
record is written at once (R330, R334, R339). -/
def State.halt (s : State) (r : RingNo) (cause : Nat) : State :=
  let s1 := ((((s.setReg (F.RING_STATUS_HALTED r) 1).setReg (F.RING_STATUS_CAUSE r) cause).cause .hl 1)).updRing r
    fun x => { x with wbDue := true, wbHalt := true, refetch := false }
  if (cause = 1 ∨ cause = 2) ∧ r.val ≠ 3 then
    s1.notify 3 [(12, 1, r.val), (13, 1, cause + 2), (16, 4, s1.reg (F.RING_CONS r))]
  else s1

end Sys2Proof.Machine
end

