-- ==== Sys2Proof/Machine/Fold.lean ====
section
/-! DEFINITION. The Fold: slots, release, late slots, cancellation, the measured delays, and the notifications (R106 to R134). -/

namespace Sys2Proof.Machine

/-- The code of an ACTION byte (Table 5.3). -/
def actCode (a : Nat) : Nat := a % 128
/-- The channel of a TARGET byte. -/
def tgt (t : Nat) : Ch := ⟨t % 32, by omega⟩
/-- Whether a slot is a MARK. -/
def Slot.isMark (x : Slot) : Bool := actCode x.action == 8

/-- SLEW with 0b11 acting as normal (Table 4.2). -/
def State.slew (s : State) (c : Ch) : Nat := if s.reg (F.OUT_CFG_SLEW c) = 3 then 0 else s.reg (F.OUT_CFG_SLEW c)
/-- D_ref of a channel and direction: the filtered delay, or the factory trim before the first measurement (R125). -/
def State.dref (s : State) (c : Ch) (on : Bool) : Nat :=
  ((if on then (s.ch c).dref.1 else (s.ch c).dref.2)).getD (Config.factoryTrim c.val (b2n on) (s.slew c) % 2 ^ 16)
/-- L+ of a group less 24 V, in V, from the group's mirror (R123). -/
def State.dV (s : State) (g : Grp) : Rat := (sgn 12 (s.reg (F.GRP_SUP_STATUS_LPX g)) : Rat) / 20 - 24
/-- The delay D in use of a channel and direction, in ns (R123); zero while COMP is 0 (R126). -/
def State.delayOf (s : State) (c : Ch) (on : Bool) : Rat :=
  if s.on (F.TO_CFG_COMP c) then (s.dref c on : Rat) + (slewK (s.slew c) : Rat) / 10 * s.dV (grpOf c) else 0
/-- D in whole ns, as a command carries it. -/
def State.delayNs (s : State) (c : Ch) (on : Bool) : Nat := (roundOpen 1 (s.delayOf c on)).toNat
/-- The direction of an action's first edge (R110). -/
def firstOn (a param : Nat) : Bool := if actCode a = 2 then false else if actCode a = 5 then bit param 0 else true
/-- The nearest multiple of 4; which one of two equally near is open. -/
def near4 (q : Rat) : Nat :=
  4 * (if (q / 4 - (q / 4).floor) = 1 / 2 then roundOpen 2 (q / 4) else (q / 4 + 1 / 2).floor).toNat
/-- The gate instant G = T - D at the present delays; T for DAC (R110). -/
def State.gateOf (s : State) (t target action param : Nat) : Nat :=
  if actCode action = 7 then t / 4 * 4 else near4 (((t / 4 * 4 : Nat) : Rat) - s.delayOf (tgt target) (firstOn action param))
/-- The release instant R (R110), as the first whole ns at or after it. -/
def State.releaseOf (s : State) (t target action param : Nat) : Int :=
  let t4 : Int := (t / 4 * 4 : Nat)
  if actCode action = 8 then t4
  else if actCode action = 7 then t4 - leadNs (s.reg F.FOLD_CTRL_LEAD)
  else ((t4 : Rat) - leadNs (s.reg F.FOLD_CTRL_LEAD) - s.delayOf (tgt target) (firstOn action param)).ceil

/-- Occupancy: held and due slots (R119). -/
def State.occupancy (s : State) : Nat := s.fold.slots.length
/-- The supply of the Fold (R119). -/
def State.supply (s : State) : Nat := s.occupancy + s.ringPending 2
/-- The low-water notification: armed above LOW_WATER, raised when the supply comes down to it, and armed again above it (R119). -/
def State.lowWater (s : State) : State :=
  let lw := s.reg F.FOLD_CTRL_LOW_WATER
  if lw = 0 then s
  else if lw < s.supply then { s with fold := { s.fold with armed := true } }
  else if s.fold.armed then
    (({ s with fold := { s.fold with armed := false } }).notify 0x10 [(12, 1, s.occupancy), (16, 4, s.ringPending 2)]).cause .fold 0
  else s
/-- The highest occupancy is kept (Table 5.13). -/
def State.peakOcc (s : State) : State :=
  if s.reg F.FOLD_STATUS_PEAK_OCC < s.occupancy then s.hwSet F.FOLD_STATUS_PEAK_OCC s.occupancy else s

/-- OUT_CMD.ON and PWM_RUN of a channel as the hub die knows them (R496, Table 5.18). -/
def State.setCmd (s : State) (c : Ch) (on run : Bool) : State := 
  (s.hwSet (F.OUT_CMD_ON c) (b2n on)).hwSet (F.TO_CFG_PWM_RUN c) (b2n run)
/-- They take a value at an instant: at once when it has passed, else when machine time reaches it (R496). -/
def State.cmdAt (s : State) (t : Nat) (c : Ch) (on run : Bool) : State :=
  if t ≤ s.now then s.setCmd c on run else { s with fold := { s.fold with cmdAt := s.fold.cmdAt ++ [(t, c, on, run)] } }
/-- The changes whose instants have come are made, in the order of their instants. -/
def State.cmdDue (s : State) : State :=
  let due := sortBy (fun a b => a.1 ≤ b.1) (s.fold.cmdAt.filter fun x => x.1 ≤ s.now)
  due.foldl (fun s x => s.setCmd x.2.1 x.2.2.1 x.2.2.2)
    { s with fold := { s.fold with cmdAt := s.fold.cmdAt.filter fun x => !(x.1 ≤ s.now) } }

/-- The timed command of an action at release (R110, Table 13.2): its G, the delay of a second edge, the delays of a run. A PULSE
below 4 ns, which Table 5.3 does not provide for, gets a width of 0 (log entry 150). -/
def State.timedCmd (s : State) (t target action param : Nat) : DlCmd :=
  let c := tgt target
  let g := s.gateOf t target action param
  let n := chN c
  match actCode action with
  | 1 => .edge n true g
  | 2 => .edge n false g
  | 3 => .pulse n g (param / 4 * 4) (near4 (((t / 4 * 4 + param / 4 * 4 : Nat) : Rat) - s.delayOf c false))
  | 4 => .pwmStart n (param % 2) (if bit param 1 then some (param / 2 ^ 16 % 2 ^ 16) else none) g (s.delayNs c true) (s.delayNs c false)
  | 5 => .pwmStop n (bit param 0) g (s.delayNs c (bit param 0))
  | 6 => .pwmDuty n g (param / 2 ^ 16 % 2 ^ 16) (s.delayNs c true) (s.delayNs c false)
  | _ => .dac n g (param % 2 ^ 16)

/-- The changes of OUT_CMD.ON that an action makes at the hub die (R496). -/
def State.actionCmd (s : State) (g target action param : Nat) : State :=
  let c := tgt target
  match actCode action with
  | 1 => s.cmdAt g c true false
  | 2 => s.cmdAt g c false false
  | 3 => (s.cmdAt g c true false).cmdAt (g + param / 4 * 4) c false false
  | 4 => s.cmdAt g c true true
  | 5 => s.cmdAt g c (bit param 0) false
  | _ => s

/-- The count n of measurements of a direction (R124). -/
def State.nOf (s : State) (c : Ch) (on : Bool) : Nat := if on then s.reg (F.TO_STATUS_ON_N c) else s.reg (F.TO_STATUS_OFF_N c)

/-- SLOT_LATE: the notification and the causes (R113, R116, Table 5.9). -/
def State.slotLate (s : State) (target action t outcome where_ lateness : Nat) : State :=
  let s1 := (s.notify 0x12 [(12, 1, target), (13, 1, action), (14, 1, outcome), (15, 1, where_), (16, 8, t),
    (24, 4, min lateness (2 ^ 32 - 1))]).cause .fold 2
  if actCode action = 8 then s1 else s1.cause (.ch (tgt target)) 11

/-- One SLOT_CANCELLED for the slots of a channel, or of the MARK slots (R121, Table 5.9). -/
def State.cancelNote (s : State) (l : List Slot) (chByte cause rule : Nat) : State :=
  match l.map (·.t) with
  | [] => s
  | t0 :: ts =>
    let s1 := s.notify 0x13 [(12, 1, chByte), (13, 1, cause), (14, 1, rule), (16, 2, l.length),
      (24, 8, ts.foldl min t0), (32, 8, ts.foldl max t0)]
    (s1.tally F.FOLD_TALLY_B_CANCELLED l.length).cause .fold 3
/-- The slots a test picks are cancelled for one cause, reported by channel in ascending order, MARK slots last (R121). -/
def State.cancelSlots (s : State) (p : Slot → Bool) (cause rule : Nat) : State :=
  let gone := s.fold.slots.filter p
  let s1 := { s with fold := { s.fold with slots := s.fold.slots.filter fun x => !p x } }
  let s2 := (List.finRange 32).foldl (fun s c =>
    let l := gone.filter fun x => !x.isMark && tgt x.target == c
    if l = [] then s else (s.cancelNote l c.val cause rule).cause (.ch c) 10) s1
  (s2.cancelNote (gone.filter Slot.isMark) 0xFF cause rule).lowWater
/-- Every held or due slot of a channel (R121). -/
def slotOf (c : Ch) (x : Slot) : Bool := !x.isMark && tgt x.target == c

/-- A MARK falls due: its notification (R110). -/
def State.markNote (s : State) (t param : Nat) : State := s.notify 0x16 [(16, 8, t), (24, 4, param)]

/-- Whether an action can make an edge: none of DAC and MARK does. -/
def makesEdge (a : Nat) : Bool := 1 ≤ actCode a && actCode a ≤ 6
/-- A slot is released: its command enters the transmit queue with its G, RELEASED counts, and the slot is free (R110, R111). What is known of its first edge is kept until that is measured (R126,
R131). A MARK with NOTIFY raises no EDGE_DONE: it has no gate instant, and the spec does not settle it (log entry 152). -/
def State.releaseSlot (s : State) (x : Slot) : State :=
  let s0 := { s with fold := { s.fold with slots := s.fold.slots.filter fun y => y.idx != x.idx } }
  let c := tgt x.target
  if x.isMark then s0.markNote x.t x.param
  else
    let g := s.gateOf x.t x.target x.action x.param
    let unc := x.late || s.nOf c (firstOn x.action x.param) < 8 || !s.on (F.TO_CFG_COMP c)
    let info : SlotInfo := { t := x.t, target := x.target, action := x.action, late := x.late, uncomp := unc, order := x.order }
    let s1 := (s0.updLink (grpOf c) fun l =>
      { l with tx := l.tx ++ [{ cmd := s.timedCmd x.t x.target x.action x.param, tag := .slot info }] }).wrapTally F.FOLD_RELEASED
    let s2 := s1.actionCmd g x.target x.action x.param
    let w : EdgeWait := {
      t := x.t, target := x.target, action := x.action, g := g, on := firstOn x.action x.param, order := x.order, uncomp := unc
      late := x.late, adj := false }
    if makesEdge x.action || x.action ≥ 128 then s2.updCh c fun k => { k with waits := k.waits ++ [w] } else s2
/-- Whether a slot's group is absent, which cancels it when it falls due (R122). -/
def State.stranded (s : State) (x : Slot) : Bool := !x.isMark && s.absent (grpOf (tgt x.target))
/-- Whether a slot can be dealt with now: a MARK, a slot of an absent group, or one whose group's queue has room (R111). -/
def State.roomFor (s : State) (x : Slot) : Bool := x.isMark || s.stranded x || (s.link (grpOf (tgt x.target))).tx.length < 32
/-- A slot is marked DUE. -/
def State.markDue (s : State) (x : Slot) : State :=
  { s with fold := { s.fold with slots := s.fold.slots.map fun y => if y.idx = x.idx then { y with due := true } else y } }
/-- A due slot is released, or marked DUE: counted when its group's queue is full, and left to `cancelAbsent` when its group is absent (R111,
R122). -/
def State.releaseOrWait (s : State) (x : Slot) : State :=
  if s.stranded x then s.markDue x
  else if s.roomFor x then s.releaseSlot x
  else if x.due then s
  else (s.markDue x).tally F.FOLD_TALLY_C_QUEUE_WAITS
/-- The slots of absent groups that have fallen due together are cancelled with cause 5, one notification for each channel (R121, R122). -/
def State.cancelAbsent (s : State) : State := s.cancelSlots (fun x => x.due && s.stranded x) 5 0

/-- The order of release: ascending T, then entry order (R114). -/
def Slot.before (a b : Slot) : Bool := a.t / 4 < b.t / 4 || (a.t / 4 == b.t / 4 && a.order ≤ b.order)
/-- The first of a list of slots in the order of R114. -/
def firstSlot : List Slot → Option Slot
  | [] => none
  | x :: t => match firstSlot t with
    | none => some x
    | some y => some (if x.before y then x else y)

/-- The outcome of a late slot by its policy: executed or not (R116). -/
def State.lateExec (s : State) (policy lateness : Nat) : Bool :=
  policy == 1 || (policy == 3 && lateness ≤ s.reg F.FOLD_GRACE * 1000)
/-- A slot that is late at entry, or at the setting of ENABLE, is executed or dropped by its policy (R116, R117). -/
def State.lateSlot (s : State) (x : Slot) (where_ : Nat) : State :=
  let lateness := ((s.now : Int) - x.r).toNat
  if s.lateExec x.policy lateness then
    let s1 := (s.slotLate x.target x.action x.t 0 where_ lateness).tally F.FOLD_TALLY_A_LATE_EXEC
    let y := { x with late := true }
    let s2 : State := { s1 with fold := { s1.fold with slots := s1.fold.slots.map fun z => if z.idx = x.idx then y else z } }
    s2.releaseOrWait y
  else
    let s1 : State := { s with fold := { s.fold with slots := s.fold.slots.filter fun z => z.idx != x.idx } }
    (s1.slotLate x.target x.action x.t 1 where_ lateness).tally F.FOLD_TALLY_A_LATE_DROP

/-- The place in the window that a new slot takes: a free one, which of them being open (log entry 10). -/
def freePlace (used : List Nat) (k : Nat) : Nat :=
  (((List.range 192).map fun i => (k + i) % 192).find? fun i => !(used.contains i)).getD 0
/-- One action of an entry enters the Fold (R107, R110, R116, R117). -/
def State.enterAction (s : State) (policy t target action param : Nat) : State :=
  let p := s.openValue
  let x : Slot := {
    idx := freePlace (s.fold.slots.map (·.idx)) p.1, t := t, target := target, action := action, param := param
    policy := latePolicy policy (s.reg F.FOLD_CTRL_LATE_POLICY), order := s.fold.order, r := s.releaseOf t target action param }
  let s1 := p.2
  let s2 := { s1 with fold := { s1.fold with slots := s1.fold.slots ++ [x], order := s1.fold.order + 1 } }
  (if s.on F.FOLD_CTRL_ENABLE && decide (x.r ≤ (s.now : Int)) then s2.lateSlot x 0 else s2).peakOcc

/-- COUNT and POLICY of the header flags (Table 5.1). -/
def entryCount (e : Entry) : Nat := bytesAt e 1 1 % 4
/-- The reason a ring 2 entry is refused, 0 for none (R108, Table 5.9). Of several faults at once the first in this order is named: the
spec gives no order (log entry 149). -/
def refuseReason (e : Entry) : Nat :=
  let op := bytesAt e 0 1
  if op ≠ 0x20 ∧ op ≠ 0x21 then 5
  else if op = 0x21 then (if bytesAt e 16 8 < bytesAt e 8 8 then 4 else 0)
  else if entryCount e = 0 then 1
  else if (List.range (entryCount e)).any (fun j => actCode (bytesAt e (13 + 16 * j) 1) = 0 || 8 < actCode (bytesAt e (13 + 16 * j) 1)) then 2
  else if (List.range (entryCount e)).any (fun j => actCode (bytesAt e (13 + 16 * j) 1) != 8 && 32 ≤ bytesAt e (12 + 16 * j) 1) then 3
  else 0
/-- A refused entry is consumed, notified and counted (R108). -/
def State.refuseEntry (s : State) (e : Entry) (why : Nat) : State :=
  let s1 : State := { s with host := { s.host with head2 := none } }
  ((((s1.consume 2).notify 0x15 [(12, 1, why), (13, 1, bytesAt e 0 1), (16, 4, bytesAt e 56 4)]).tally F.FOLD_TALLY_C_REFUSED).cause
    .fold 4).lowWater
/-- Ring 2 feeds the Fold: the ring is enabled and not in keeper mode (R341, R393). -/
def State.feeds (s : State) : Bool := s.ringRuns 2 && !s.sv.keeper

/-- The head of ring 2 waits for slots: once a wait, FOLD_FULL is raised (R118). -/
def State.fullWait (s : State) (e : Entry) : State :=
  if s.on F.FOLD_STATUS_FULL_WAIT then s
  else
    let ts := (List.range (entryCount e)).map fun j => bytesAt e (4 + 16 * j) 8
    let s1 := (s.setReg F.FOLD_STATUS_FULL_WAIT 1).notify 0x11
      [(12, 1, s.occupancy), (16, 4, s.ringPending 2), (24, 8, ts.foldl min (ts.headD 0))]
    (s1.tally F.FOLD_TALLY_C_FULL_WAITS).cause .fold 1
/-- A SCHEDULE entry at the head of ring 2 is moved whole into COUNT slots, waits for them, or is refused (R107, R108, R118). Its slots that
are late at entry are released in the order of its actions, not of their T, and one that finds room goes at once, though DUE slots with an
earlier T wait for room: R114 orders neither (DESIGN CHOICE, log entry 172). -/
def State.scheduleHead (s : State) : State :=
  match s.host.head2 with
  | none => s
  | some e =>
    if !s.feeds || bytesAt e 0 1 = 0x21 then s
    else if refuseReason e ≠ 0 then s.refuseEntry e (refuseReason e)
    else if 192 < s.occupancy + entryCount e then s.fullWait e
    else
      let s0 : State := { s with host := { s.host with head2 := none } }
      let s1 := (s0.consume 2).setReg F.FOLD_STATUS_FULL_WAIT 0
      ((List.range (entryCount e)).foldl (fun s j =>
        s.enterAction (bytesAt e 1 1 / 4 % 4) (bytesAt e (4 + 16 * j) 8) (bytesAt e (12 + 16 * j) 1) (bytesAt e (13 + 16 * j) 1)
          (bytesAt e (16 + 16 * j) 4)) s1).cancelAbsent.lowWater
/-- SCHEDULE. -/
def execSchedule (s : State) : Host.Outcome State Fault Refusal := onHub State.scheduleHead s

/-- A CANCEL entry at the head of ring 2 is applied, and needs no slot (R118, R121, Table 5.6). -/
def State.cancelHead (s : State) : State :=
  match s.host.head2 with
  | none => s
  | some e =>
    if !s.feeds || bytesAt e 0 1 ≠ 0x21 then s
    else if refuseReason e ≠ 0 then s.refuseEntry e (refuseReason e)
    else
      let mask := bytesAt e 4 4
      let s0 : State := { s with host := { s.host with head2 := none } }
      let s1 := s0.consume 2
      (s1.cancelSlots (fun x => (if x.isMark then mask == 2 ^ 32 - 1 else mask.testBit (tgt x.target).val) &&
        bytesAt e 8 8 ≤ x.t / 4 * 4 && x.t / 4 * 4 ≤ bytesAt e 16 8) 4 0).lowWater
/-- CANCEL_ENTRY. -/
def execCancelEntry (s : State) : Host.Outcome State Fault Refusal := onHub State.cancelHead s

/-- The slots that are due: R at or before machine time while ENABLE is 1 (R110, R117); one that already waits for queue room stands
among them once there is room (R114). -/
def State.dueSlots (s : State) : List Slot :=
  if s.on F.FOLD_CTRL_ENABLE then s.fold.slots.filter fun x => decide (x.r ≤ (s.now : Int)) && (!x.due || s.roomFor x) else []
/-- The first due slot in the order of R114 is released, or waits for queue room; where its group is absent, it is cancelled with every other
slot of an absent group that is due (R121, R122). -/
def State.slotDue (s : State) : State :=
  match firstSlot s.dueSlots with
  | none => s
  | some x =>
    if s.stranded x then (s.cancelSlots (fun y => s.stranded y && decide (y ∈ s.dueSlots)) 5 0).lowWater else (s.releaseOrWait x).lowWater
/-- SLOT_DUE. -/
def execSlotDue (s : State) : Host.Outcome State Fault Refusal := onHub State.slotDue s

/-- Waiting due slots of a group are released while its queue has room, in the order of R114 (R111). -/
def State.drain (g : Grp) : Nat → State → State
  | 0, s => s
  | k + 1, s => match firstSlot (s.fold.slots.filter fun x => x.due && grpOf (tgt x.target) == g && s.roomFor x && !s.stranded x) with
    | none => s
    | some x => State.drain g k (s.releaseSlot x)
/-- QUEUE_ROOM. -/
def execQueueRoom (g : Grp) (s : State) : Host.Outcome State Fault Refusal := onHub (fun s => (State.drain g 192 s).cancelAbsent.lowWater) s

/-- The effect of FOLD_CTRL.ENABLE going to 1: every held slot whose R has passed is late with where 1 (R117). -/
def State.foldEnabled (s : State) : State :=
  let l := sortBy Slot.before (s.fold.slots.filter fun x => !x.due && decide (x.r ≤ (s.now : Int)))
  (l.foldl (fun s x => s.lateSlot x 1) s).cancelAbsent.lowWater
/-- A write of FOLD_CANCEL with a mask (R121). -/
def State.foldCancel (s : State) (mask : Nat) : State :=
  s.cancelSlots (fun x => !x.isMark && mask.testBit (tgt x.target).val) 3 0

/-! ### Measured delays -/

/-- The filter of R124 for one measurement x: the new D_ref, n and rejects, and whether an outlier is tallied. -/
def delayFilter (dref n rej : Nat) (x : Rat) : Nat × Nat × Nat × Bool :=
  if n < 8 then ((roundAway ((dref : Rat) + (x - dref) / (n + 1))).toNat, n + 1, rej, false)
  else if |x - dref| ≤ max 200 ((dref : Rat) / 4) then
    ((roundAway ((dref : Rat) + (x - dref) / 8)).toNat, min (n + 1) 15, 0, false)
  else if rej + 1 = 4 then ((roundAway x).toNat, 1, 0, true)
  else (dref, n, rej + 1, true)
/-- The EDGE_DONE notification (Table 5.9). -/
def State.edgeDone (s : State) (w : EdgeWait) (none_ : Bool) (cross d : Nat) : State :=
  s.notify 0x14 [(12, 1, w.target), (13, 1, w.action), (14, 1, b2n w.uncomp + 2 * b2n w.late + 4 * b2n w.adj + 8 * b2n none_),
    (16, 8, w.t), (24, 8, cross), (32, 4, d)]
/-- What is known of a slot's first edge ends: EDGE_DONE with NOTIFY, and LAST_UNCOMP of an edge (R131, Table 5.21). LAST_UNCOMP takes the
slot's flag at its time-out too: the spec does not say which edge is the last there (DESIGN CHOICE, log entry 173). -/
def State.waitEnds (s : State) (c : Ch) (w : EdgeWait) (none_ : Bool) (cross d : Nat) : State :=
  let s1 := s.updCh c fun k => { k with waits := k.waits.erase w }
  let s2 := if 128 ≤ w.action then s1.edgeDone w none_ cross d else s1
  if makesEdge w.action then s2.setReg (F.TO_STATUS_LAST_UNCOMP c) (b2n w.uncomp) else s2
/-- Whether a measured edge of a direction, made for a slot, is the first edge of a slot (R109, R131). -/
def EdgeWait.answers (w : EdgeWait) (on : Bool) (slot : Option Nat) : Bool := makesEdge w.action && w.on == on && slot == some w.order
/-- A measured delay of a channel and direction at L+ v (in 0.1 V) reaches the hub die, its crossing at instant cross, its edge the first of a
slot if it is one (R123, R124, R131). How the hub die knows the crossing, and of which slot the edge is, is not stated (log entry 12). -/
def State.delayIn (s : State) (c : Ch) (on : Bool) (d v cross : Nat) (slot : Option Nat) : State :=
  let x : Rat := (d : Rat) - (slewK (s.slew c) : Rat) / 10 * ((v : Rat) / 10 - 24)
  let rej := if on then (s.ch c).rej.1 else (s.ch c).rej.2
  let r := delayFilter (s.dref c on) (s.nOf c on) rej x
  let s1 := if on then
      ((s.updCh c fun k => { k with dref := (some (r.1 % 2 ^ 16), k.dref.2), rej := (r.2.2.1, k.rej.2) }).setReg (F.TO_STATUS_ON_N c) r.2.1).setReg
        (F.TO_DELAY_ON_LAST c) (min d (2 ^ 16 - 1))
    else
      ((s.updCh c fun k => { k with dref := (k.dref.1, some (r.1 % 2 ^ 16)), rej := (k.rej.1, r.2.2.1) }).setReg (F.TO_STATUS_OFF_N c) r.2.1).setReg
        (F.TO_DELAY_OFF_LAST c) (min d (2 ^ 16 - 1))
  let s2 := if r.2.2.2 then s1.tally (F.TO_STATUS_OUTLIERS c) else s1
  match (s.ch c).waits.find? fun w => w.answers on slot with
  | none => s2
  | some w => s2.waitEnds c w false cross d
/-- EDGE_DONE_TIMEOUT: the slots of the channel whose G lies 50 us back end with no measurement: EDGE_DONE carries flag bit 3 (R131). -/
def execEdgeDoneTimeout (c : Ch) (s : State) : Host.Outcome State Fault Refusal :=
  onHub (fun s => ((s.ch c).waits.filter fun w => w.g + 50000 ≤ s.now).foldl (fun s w => s.waitEnds c w true 0 0) s) s

end Sys2Proof.Machine
end

