-- ==== Sys2Proof/Machine/TimeBase.lean ====
section
/-! DEFINITION. Machine time: its advance in a tick, rate, slew, steps, SYNC_IN and SYNC_OUT (R241 to R254). -/

namespace Sys2Proof.Machine

/-- A 64-bit pair of words of a unit. -/
def State.pair (s : State) (lo hi : Fld) : Nat := s.reg hi * 2 ^ 32 + s.reg lo
/-- A pair with a value put in. -/
def State.setPair (s : State) (lo hi : Fld) (v : Nat) : State := (s.setReg lo (v % 2 ^ 32)).setReg hi (v / 2 ^ 32 % 2 ^ 32)

/-- The slew term S (R244). -/
def State.slewTerm (s : State) : Int :=
  if s.hub.slew = 0 then 0
  else if 0 < s.hub.slew then slewRateOf (s.reg F.TB_SLEW_RATE) else -(slewRateOf (s.reg F.TB_SLEW_RATE) : Int)
/-- The part of a tick's advance that the slew makes, in 2^-32 ns: never more than what is left to absorb (R244). -/
def State.slewExtra (s : State) : Int :=
  let e := 4 * s.slewTerm
  if s.hub.slew.natAbs ≤ e.natAbs then s.hub.slew else e
/-- The advance of machine time in a tick, in 2^-32 ns (R241). -/
def State.advance (s : State) : Int := 4 * (2 ^ 32 + rateOf (s.reg F.TB_RATE)) + s.slewExtra
/-- What GCLKx of a die counts in 4 ns, in 2^-32 ns: off by at most 10 %, or 0.1 % while MCLKx is locked and trims it (R22, log entry
169). -/
def gclkStep (g : Grp) (clock : Nat) (timed : Bool) : Nat :=
  let b : Int := if timed then 2 ^ 34 / 1000 else 2 ^ 34 / 10
  (2 ^ 34 + clampI (-b) b (Config.gclkDrift g.val clock)).toNat
/-- 4 ns at a die: its copy of machine time advances on MCLKx at the rate of the last good part B, and on GCLKx without MCLKx; what is
counted on GCLKx counts on while that runs (R22, R249). -/
def Die.counted (g : Grp) (clock : Nat) (d : Die) : Die :=
  let k := gclkStep g clock d.timed
  { d with time := (if d.timed then ((d.time : Int) + 4 * (2 ^ 32 + d.rate)).toNat else d.time + k) % 2 ^ 96
           gcount := if d.gclk then d.gcount + k else d.gcount }
/-- One CCLK tick: the grid counts, machine time advances, the slew absorbs, and OUT_CMD.ON follows the gate instants that
have come; the highest occupancy of the Fold is raised to the present one (R241, R244, R496, Table 5.13). -/
def State.tickOn (s : State) : State :=
  let e := s.slewExtra
  let s1 : State := { s with hub := { s.hub with grid := s.hub.grid + 1,
                                                 time := ((s.hub.time : Int) + s.advance).toNat % 2 ^ 96, slew := s.hub.slew - e } }
  s1.cmdDue.peakOcc

/-- A write of TB_SLEW.AMOUNT (R244). -/
def State.slewWritten (s : State) (v : Nat) : State :=
  ({ s with hub := { s.hub with slew := sgn 32 v * 2 ^ 32 } } : State).setReg F.TB_STATUS_SLEWING (b2n (v != 0))
/-- SLEW_DONE: the remainder has been absorbed. -/
def execSlewDone (s : State) : Host.Outcome State Fault Refusal :=
  onHub (fun s => if s.on F.TB_STATUS_SLEWING && s.hub.slew == 0 then (s.setReg F.TB_STATUS_SLEWING 0).cause .tb 4 else s) s

/-- Whether every present group has taken the latest step (R247). -/
def State.aligned (s : State) : Bool :=
  (List.finRange 4).all fun g => s.absent g || bit (s.reg F.TB_STATUS_ALIGNED) g.val
/-- A step that waits is made in the next tick, once every present group has taken the previous one (R247). -/
def State.stepRelease (s : State) : State :=
  match s.hub.step, s.hub.wait with
  | none, some w =>
    if s.aligned then ({ s with hub := { s.hub with step := some (w.1, w.2, 0, s.tick), wait := none } } : State).setReg F.TB_STATUS_STEP_PENDING 0 else s
  | _, _ => s
/-- Two causes of a step together: 0 a commit, 1 a load, 2 both (Table 11.3). -/
def stepCause (a b : Nat) : Nat := if a = b then a else 2
/-- A step of delta is committed or loaded (R245, R247, R250). A commit is counted in its step tick, or at once when it has to wait. -/
def State.stepAsked (s : State) (delta : Int) (cause : Nat) : State :=
  match s.hub.step, s.hub.wait with
  | some (d, c, k, n), _ => { s with hub := { s.hub with step := some (d + delta, stepCause c cause, k + 1, n) } }
  | none, some (d, c) => ({ s with hub := { s.hub with wait := some (d + delta, stepCause c cause) } } : State).tally F.TB_STATUS_STEPS
  | none, none =>
    if s.aligned then { s with hub := { s.hub with step := some (delta, cause, 1, s.tick) } }
    else (({ s with hub := { s.hub with wait := some (delta, cause) } } : State).setReg F.TB_STATUS_STEP_PENDING 1).tally F.TB_STATUS_STEPS

/-- An instant moved by a step. -/
def moved (delta : Int) (t : Nat) : Nat := ((t : Int) + delta).toNat % 2 ^ 64
/-- A down-link command with its G moved (R246). -/
def DlCmd.moved (delta : Int) : DlCmd → DlCmd
  | .edge n on g => .edge n on (Machine.moved delta g)
  | .pulse n g w d => .pulse n (Machine.moved delta g) w (Machine.moved delta d)
  | .pwmStart n p d g a b => .pwmStart n p d (Machine.moved delta g) a b
  | .pwmStop n on g d => .pwmStop n on (Machine.moved delta g) d
  | .pwmDuty n g d a b => .pwmDuty n (Machine.moved delta g) d a b
  | .dac n g c => .dac n (Machine.moved delta g) c
  | x => x
/-- What is kept of a slot with its T moved. -/
def SlotInfo.moved (delta : Int) (i : SlotInfo) : SlotInfo := { i with t := Machine.moved delta i.t }
/-- A command for a die with its G and the T of its slot moved. -/
def TxCmd.moved (delta : Int) (x : TxCmd) : TxCmd :=
  { x with cmd := x.cmd.moved delta, tag := match x.tag with | .slot i => .slot (i.moved delta) | t => t }
/-- The commands of a list so moved. -/
def movedTx (delta : Int) (l : List TxCmd) : List TxCmd := l.map (TxCmd.moved delta)
/-- The instants that the hub die moves with a step in relative mode (Table 11.1). -/
def State.moveSchedule (s : State) (delta : Int) : State :=
  let f := s.fold
  let s1 : State := { s with
    fold := { f with slots := f.slots.map fun x => { x with t := moved delta x.t, r := x.r + delta },
                     cmdAt := f.cmdAt.map fun x => (moved delta x.1, x.2) }
    links := s.links.map fun l =>
      { l with retry := movedTx delta l.retry, tx := movedTx delta l.tx,
               flight := l.flight.map fun p => { p with cmds := movedTx delta p.cmds } }
    chans := s.chans.map fun k => { k with waits := k.waits.map fun w => { w with t := moved delta w.t, g := moved delta w.g } } }
  (List.finRange 64).foldl (fun s r =>
    if s.reg (F.RFX_ARM_PHASE r) = 1 ∧ !s.written (F.RFX_ARM_AT_HI r) then
      s.setPair (F.RFX_ARM_AT_LO r) (F.RFX_ARM_AT_HI r) (moved delta (s.pair (F.RFX_ARM_AT_LO r) (F.RFX_ARM_AT_HI r)))
    else s) s1
/-- The period of SYNC_OUT in effect; a width of 0 acts as 1 (R251). -/
def State.soPeriod (s : State) : Nat :=
  let w := 4 * max 1 (s.reg F.TB_SO_WIDTH) + 8
  if s.reg F.TB_SO_PERIOD = 0 then 0 else max w (s.reg F.TB_SO_PERIOD)
/-- The first SYNC_OUT instant at or after a time. -/
def State.soFrom (s : State) (t : Nat) : Option Nat :=
  let st := s.pair F.TB_SO_START_LO F.TB_SO_START_HI
  if t ≤ st then some st
  else if s.soPeriod = 0 then none
  else some (st + (t - st + s.soPeriod - 1) / s.soPeriod * s.soPeriod)
/-- The next SYNC_OUT instant is found again from a time. -/
def State.soAim (s : State) (t : Nat) : State := { s with hub := { s.hub with soNext := s.soFrom t } }
/-- The STEP goes to every present group with its next frame, and no group is aligned until it acknowledges, an absent one at its attach
(R246). -/
def State.sendStep (s : State) (delta : Int) : State :=
  (List.finRange 4).foldl (fun s g =>
    if s.absent g then s
    else s.updLink g fun l =>
      { l with stepTime := l.stepTime ++ [{ cmd := .step delta (s.on F.TB_CTRL_STEP_MODE), tag := .plain }] }) (s.setReg F.TB_STATUS_ALIGNED 0)
/-- The instants that forward steps jumped, after a step: a backward step lets those it goes back before come again. -/
def jumpsAfter (old new : Nat) (l : List (Nat × Nat)) : List (Nat × Nat) :=
  if old < new then l ++ [(old, new)] else (l.filter fun j => j.1 < new).map fun j => (j.1, min j.2 new)
/-- The history of a resampler re-stamped by a step, and the instants that forward steps jumped (Table 11.1). -/
def Chain.restamp (old new : Nat) (delta : Int) (x : Chain) : Chain :=
  { x with res := x.res.map fun o => { o with t := ((o.t : Int) + delta * 2 ^ 32).toNat }, jump := jumpsAfter old new x.jump }
/-- The instants of a window as machine time steps by delta: the window goes on in real time (Table 11.1). -/
def Stroke.stepped (delta : Int) (w : Stroke) : Stroke :=
  let m := fun (t : Nat) => ((t : Int) + delta).toNat
  { w with t0 := w.t0.map m, tOn := m w.tOn, tEnd := m w.tEnd, shift := w.shift + (if w.t0 = none then 0 else delta) }
/-- A step is applied in its tick, or refused when machine time would fall below 0; a load that made it, and did not have to wait, clears
LOAD_ARM with it (R245, R248, R250). -/
def State.stepApplied (s : State) (delta : Int) (cause k : Nat) : State :=
  let s0 := ({ s with hub := { s.hub with step := none, disarm := false } } : State).tally F.TB_STATUS_STEPS k
  let s1 := if s.hub.disarm then s0.hwSet F.TB_CTRL_LOAD_ARM 0 else s0
  if (s1.hub.time : Int) + delta * 2 ^ 32 < 0 then (s1.cause .tb 5).stepRelease
  else
    let rel := s1.on F.TB_CTRL_STEP_MODE
    let old := s1.now
    let s2 : State := { s1 with
      hub := { s1.hub with time := ((s1.hub.time : Int) + delta * 2 ^ 32).toNat % 2 ^ 96, last := (delta, old) }
      chains := s1.chains.map (Chain.restamp old ((old : Int) + delta).toNat delta)
      chans := s1.chans.map fun k => { k with stroke := k.stroke.map (Stroke.stepped delta) } }
    let s3 := (s2.setPair F.TB_STEP_AT_LO F.TB_STEP_AT_HI s2.now).setReg F.TB_STATUS_EPOCH (1 - s2.reg F.TB_STATUS_EPOCH)
    let s4 := if rel then s3.moveSchedule delta else s3
    let s5 := s4.sendStep delta
    let s6 := if old = s5.now then s5 else s5.soAim s5.now
    (((s6.cause .tb 3).notify 0x17 [(12, 8, unsgn 64 delta), (20, 1, cause), (21, 1, s6.reg F.TB_STATUS_EPOCH + 2 * b2n rel)]).cmdDue).stepRelease
/-- STEP_APPLY, in a tick after that of the commit (R245). -/
def execStepApply (s : State) : Host.Outcome State Fault Refusal :=
  onHub (fun s => match s.hub.step with | none => s | some (d, c, k, n) => if n < s.tick then s.stepApplied d c k else s) s

/-- Whether SI_EDGE selects an edge (Table 11.6). -/
def State.siSelected (s : State) (rising : Bool) : Bool := bit (s.reg F.TB_CTRL_SI_EDGE) (if rising then 0 else 1)
/-- A selected SYNC_IN edge: captured with the time less its fixed delay of 9 ns, or not captured within 100 ns of the last
capture (R250). A load that has to wait clears LOAD_ARM at its capture (log entry 171). -/
def State.siEdge (s : State) (rising : Bool) : State :=
  if !s.siSelected rising then s
  else if (s.hub.siTick.map fun t => decide (s.tick - t < 25)) == some true then (s.tally F.TB_STATUS_SI_OVERRUN).cause .tb 1
  else
    let cap := s.now - 9
    let s1 := ((({ s with hub := { s.hub with siTick := some s.tick } } : State).setPair F.TB_SI_LO F.TB_SI_HI cap).setReg
      F.TB_SI_STATUS_DIR (b2n rising)).wrapTally F.TB_SI_STATUS_COUNT
    let s2 := s1.cause .tb 0
    if s2.on F.TB_CTRL_LOAD_ARM then
      let s3 := s2.stepAsked ((s2.pair F.TB_LOAD_LO F.TB_LOAD_HI : Int) - cap) 1
      if s3.hub.step.isSome then { s3 with hub := { s3.hub with disarm := true } } else s3.hwSet F.TB_CTRL_LOAD_ARM 0
    else s2
/-- SYNC_IN_EDGE. -/
def execSyncInEdge (rising : Bool) (s : State) : Host.Outcome State Fault Refusal := onHub (fun s => s.siEdge rising) s

/-- SYNC_OUT_PULSE: machine time reaches the next instant while SO_EN is 1 (R251). -/
def execSyncOutPulse (s : State) : Host.Outcome State Fault Refusal :=
  onHub (fun s => match s.hub.soNext with
    | none => s
    | some t =>
      if s.on F.TB_CTRL_SO_EN && decide (t ≤ s.now) && s.hub.so.isNone then
        ({ s with hub := { s.hub with so := some (s.tick + max 1 (s.reg F.TB_SO_WIDTH)) } } : State).soAim (max (t + 1) s.now)
      else s) s
/-- SYNC_OUT_END: the pulse has lasted its width. -/
def execSyncOutEnd (s : State) : Host.Outcome State Fault Refusal :=
  onHub (fun s => match s.hub.so with
    | none => s
    | some t => if t ≤ s.tick then { s with hub := { s.hub with so := none } } else s) s
/-- The level of the SYNC_OUT pin: asserted during a pulse, with the polarity of SO_POL (R251, Table 11.6). -/
def State.syncOut (s : State) : Bool := s.hub.so.isSome != s.on F.TB_CTRL_SO_POL
/-- What a write of SO_EN, START or PERIOD does to the pulse train (R251). -/
def State.soWritten (s : State) : State :=
  if s.on F.TB_CTRL_SO_EN then s.soAim (s.now + 1) else { s with hub := { s.hub with so := none, soNext := none } }
/-- SO_EN written: nothing is aimed again when it stays as it was. -/
def State.soEnWritten (s : State) (old : Nat) : State := if s.reg F.TB_CTRL_SO_EN = old then s else s.soWritten

end Sys2Proof.Machine
end

