-- ==== Sys2Proof/Machine/Windows.lean ====
section
/-! DEFINITION. Conditions of the reflex engine and the window comparators (R222 to R232). -/

namespace Sys2Proof.Machine

/-- Whether a condition stands behind another in a lane: of the exits of one tick, by stream, the coarse before the fine (R232). -/
def Cond.after (y x : Cond) : Bool :=
  y.tick == x.tick && (y.kind == 1 || y.kind == 2) && (x.kind == 1 || x.kind == 2) && (x.src < y.src || (x.src == y.src && x.kind < y.kind))
/-- A lane's queue with a condition in its place. -/
def queueCond (x : Cond) : List Cond → List Cond
  | [] => [x]
  | y :: t => if y.after x then x :: y :: t else y :: queueCond x t
/-- A condition enters the queue of its lane, or the last one is lost when 32 stand there; while RFX_CTRL.ENABLE is 0 none is queued
(R232). -/
def State.condition (s : State) (lane : Grp) (x : Cond) : State :=
  let q := queueCond { x with tick := s.tick } s.rfx.lanes[lane.val]
  if !s.on F.RFX_CTRL_ENABLE then s
  else
    let s1 : State := { s with rfx := { s.rfx with lanes := s.rfx.lanes.set lane.val (q.take 32) } }
    if 32 < q.length then (s1.tally F.RFX_TALLY_B_COND_LOST).cause .rfx 1 else s1

/-- The fields of a comparator, coarse or fine (Tables 10.9, 10.10). -/
def winLow (x : Strm) (fine : Bool) : Fld := if fine then F.WIN_F_LOW_LOW x else F.WIN_C_LOW_LOW x
/-- HYST. -/
def winHyst (x : Strm) (fine : Bool) : Fld := if fine then F.WIN_F_LOW_HYST x else F.WIN_C_LOW_HYST x
/-- HIGH. -/
def winHigh (x : Strm) (fine : Bool) : Fld := if fine then F.WIN_F_HIGH_HIGH x else F.WIN_C_HIGH_HIGH x
/-- EN. -/
def winEn (x : Strm) (fine : Bool) : Fld := if fine then F.WIN_F_HIGH_EN x else F.WIN_C_HIGH_EN x
/-- NOTIFY. -/
def winNotify (x : Strm) (fine : Bool) : Fld := if fine then F.WIN_F_HIGH_NOTIFY x else F.WIN_C_HIGH_NOTIFY x
/-- START. -/
def winStart (x : Strm) (fine : Bool) : Fld := if fine then F.WIN_F_HIGH_START x else F.WIN_C_HIGH_START x
/-- STATE: 0 IN, 1 BELOW, 2 ABOVE, 3 UNSET. -/
def winState (x : Strm) (fine : Bool) : Fld := if fine then F.WIN_F_HIGH_STATE x else F.WIN_C_HIGH_STATE x
/-- A chain's comparator. -/
def Chain.cmp (x : Chain) (fine : Bool) : Cmp := if fine then x.fine else x.coarse
/-- A changed comparator. -/
def Chain.updCmp (x : Chain) (fine : Bool) (k : Cmp → Cmp) : Chain :=
  if fine then { x with fine := k x.fine } else { x with coarse := k x.coarse }

/-- Table 10.1: the new state and the exit (0 none, 1 low, 2 high). -/
def cmpMove (st : Nat) (v low high h : Int) : Nat × Nat :=
  if st = 0 then (if v < low then (1, 1) else if high < v then (2, 2) else (0, 0))
  else if st = 1 then (if high < v then (2, 2) else if low + h ≤ v then (0, 0) else (1, 0))
  else if v < low then (1, 1) else if v ≤ high - h then (0, 0) else (2, 0)
/-- The first value after UNSET (R224). -/
def cmpFirst (start : Bool) (v low high h : Int) : Nat × Nat :=
  if start then cmpMove 0 v low high h else (if v < low then 1 else if high < v then 2 else 0, 0)

/-- The notification of an exit, or its suppression within 10 us of the last one raised (R227). -/
def State.windowNote (s : State) (x : Strm) (fine : Bool) (dir : Nat) (word t : Nat) (gap : Bool) : State :=
  let c := (s.chain x).cmp fine
  if !s.on (winNotify x fine) then s
  else if (c.lastN.map fun n => decide (s.tick - n < 2500)) == some true then
    ((s.updChain x fun k => k.updCmp fine fun c => { c with supp := c.supp + 1 }).tally F.RFX_TALLY_B_WIN_SUPPRESSED).cause (.chain x) 12
  else
    (s.raise 0x19 t [(12, 1, x.val), (13, 1, b2n fine), (14, 1, dir), (15, 1, b2n gap + 2 * b2n (c.supp != 0)), (16, 4, word),
      (20, 2, min c.supp 0xFFFF)]).updChain x fun k => k.updCmp fine fun c => { c with lastN := some s.tick, supp := 0 }
/-- An exit: its cause bit, its notification, and its condition (R223, R227). -/
def State.windowExit (s : State) (x : Strm) (fine : Bool) (dir : Nat) (word t : Nat) (gap : Bool) : State :=
  let s1 := s.condition (grpOf (streamCh x)) { kind := if fine then 2 else 1, src := x.val, bit := dir - 1, word := word }
  (s1.cause (.chain x) (7 + dir + if fine then 2 else 0)).windowNote x fine dir word t gap
/-- A comparator evaluates a sample (R222 to R226): a settling sample and a gap sample are not evaluated, nor is any while the
comparator is off or suspended. What is written in the tick acts from the next (R226). -/
def State.compare (s : State) (x : Strm) (fine : Bool) (v : Int) (settle gap : Bool) (word t : Nat) : State :=
  let c := (s.chain x).cmp fine
  if s.regOld (winEn x fine) != 1 || c.susp || settle then s
  else if gap then s.updChain x fun k => k.updCmp fine fun c => { c with gap := true }
  else
    let low := sgn 24 (s.regOld (winLow x fine))
    let high := sgn 24 (s.regOld (winHigh x fine))
    let h : Int := s.regOld (winHyst x fine) * 1024
    let st := s.reg (winState x fine)
    let r := if st = 3 then cmpFirst (s.regOld (winStart x fine) == 1 && !c.asZero) v low high h else cmpMove st v low high h
    let s1 := (s.updChain x fun k => k.updCmp fine fun c => { c with gap := false, asZero := false }).setReg (winState x fine) r.1
    if r.2 = 0 then s1 else s1.windowExit x fine r.2 word t c.gap
/-- A comparator made UNSET. -/
def State.cmpUnset (s : State) (x : Strm) (fine : Bool) : State :=
  (s.updChain x fun k => k.updCmp fine fun c => { c with gap := false, asZero := false }).setReg (winState x fine) 3
/-- The comparators of a channel: stream, and coarse or fine. -/
def chCmps (c : Ch) : List (Strm × Bool) := [(vStream c, false), (vStream c, true), (iStream c, false), (iStream c, true)]
/-- The comparators of a channel's streams are suspended from the start of park (R64, R224). -/
def State.cmpSuspend (s : State) (c : Ch) : State :=
  (chCmps c).foldl (fun s p => (s.cmpUnset p.1 p.2).updChain p.1 fun k => k.updCmp p.2 fun c => { c with susp := true }) s
/-- They resume when ACTIVE changes; the first value of one that is on is taken as with START 0 (R224). -/
def State.cmpResume (s : State) (c : Ch) : State :=
  (chCmps c).foldl (fun s p =>
    let on := s.on (winEn p.1 p.2)
    s.updChain p.1 fun k => k.updCmp p.2 fun c => { c with susp := false, asZero := c.susp && on }) s
/-- A write of EN begins R224: what a suspension that has ended left is forgotten. -/
def State.winWritten (s : State) (x : Strm) (fine : Bool) : State :=
  if s.on (winEn x fine) && s.regOld (winEn x fine) != 1 then s.updChain x fun k => k.updCmp fine fun c => { c with asZero := false } else s
/-- The comparators whose EN a write has cleared in the tick that ends are made UNSET (R226). -/
def State.cmpTick (s : State) : State :=
  s.tk.old.foldl (fun s p =>
    match p.1.unit with
    | .chain x => [false, true].foldl (fun s fine => if p.1 = winEn x fine ∧ s.reg p.1 = 0 then s.cmpUnset x fine else s) s
    | _ => s) s

end Sys2Proof.Machine
end

