-- ==== Sys2Proof/Machine/Reflex.lean ====
section
/-! DEFINITION. The reflex engine at the hub die: matching, firing, arming (R228 to R238). -/

namespace Sys2Proof.Machine

/-- The lane of a rule: the group that holds its condition (R228). -/
def State.ruleLane (s : State) (r : RuleNo) : Nat :=
  if s.reg (F.RFX_COND_KIND r) = 1 ∨ s.reg (F.RFX_COND_KIND r) = 2 then s.reg (F.RFX_COND_SOURCE r) / 16 else s.reg (F.RFX_COND_SOURCE r) / 8
/-- The target channel of a rule. -/
def State.ruleTarget (s : State) (r : RuleNo) : Ch := ⟨s.reg (F.RFX_ACTION_TARGET r) % 32, by omega⟩
/-- Whether a rule would match a condition but for its phase (R233). -/
def State.ruleMatches (s : State) (r : RuleNo) (x : Cond) : Bool :=
  x.kind != 0 && s.reg (F.RFX_COND_KIND r) == x.kind && s.reg (F.RFX_COND_SOURCE r) == x.src &&
    bit (s.reg (F.RFX_COND_MASK r)) x.bit && !(x.kind == 4 && x.learn && bit (s.reg (F.RFX_COND_MASK r)) 4)
/-- An ACTION command joins a group's queue, from another lane or from its own (R19, R280). -/
def State.queueAction (s : State) (r : RuleNo) (g : Grp) (tag : TxTag) : State :=
  s.updLink g fun l =>
    { l with actSeq := (l.actSeq + 1) % 16,
             action := l.action ++ [{ cmd := .action (chN (s.ruleTarget r)) (s.reg (F.RFX_ACTION_CODE r)) l.actSeq (s.reg (F.RFX_PARAM r)),
                                      tag := tag }] }
/-- The grid instants of a group's frames, in the grid counter modulo 250 (R272). -/
def frameGrid (g : Grp) : Nat := if g = 0 then 138 else if g = 1 then 200 else if g = 2 then 13 else 75
/-- The first symbol boundary of a group's down-link at or after a tick: symbols last ten ticks, in step with the grid (R272, R273). -/
def symbolAt (g : Grp) (tick : Nat) : Nat := tick + (frameGrid g + 10 - tick % 10) % 10
/-- What an urgent word does to a part on the wire: a frame whose SYNC is still to come starts 80 ns later, and of one that has begun the
parts that are not over are delayed by 80 ns (R273). -/
def Part.urged (clock : Nat) (ns : Nat) (p : Part) : Part :=
  if clock < p.at_ then { p with at_ := p.at_ + 80, time := p.time + ns }
  else if clock < p.at_ + p.hold + (if !p.isB then 480 else if p.short then 800 else 1000) then { p with hold := p.hold + 80 } else p
/-- An urgent word is inserted in the link of a group at a symbol boundary: the frame it stands in ends 80 ns later, and between frames the
line is taken for as long (R18, R273). -/
def State.urgIn (s : State) (g : Grp) : State :=
  s.updLink g fun l =>
    { l with endT := max l.endT (symbolAt g s.tick) + 20, wire := l.wire.map (Part.urged s.clock (20 * s.advance).toNat) }
/-- Urgent action words of a group are sent while fewer than two are unacknowledged (R279). -/
def State.urgSend (g : Grp) : Nat → State → State
  | 0, s => s
  | k + 1, s =>
    match (s.link g).urgQ with
    | [] => s
    | (r, said) :: t =>
      if 2 ≤ (s.link g).urgOut.length then s
      else
        let here := s.dieOn g && (s.dieOf g).timed
        State.urgSend g k ((s.urgIn g).updLink g fun l =>
          { l with urgQ := t, urgSeq := (l.urgSeq + 1) % 4, urgOut := l.urgOut ++ [(l.urgSeq, r, 1, said)],
                   urgWire := if here then l.urgWire ++ [(l.urgSeq, r)] else l.urgWire })
/-- A place among the two has come free. -/
def State.urgGo (s : State) (g : Grp) : State := State.urgSend g 2 s
/-- An action is delayed: it is counted once, whatever delays it (R237). -/
def State.urgWait (s : State) : State := (s.tally F.RFX_TALLY_A_URGENT_WAIT).cause .rfx 2
/-- An action enters its transmit path: the urgent queue of its own lane's group, or the action queue of another group, or of
its own when the rule's RULE command is not acknowledged yet (R18, R19, R280). An absent group takes none. -/
def State.sendAction (s : State) (r : RuleNo) : State :=
  let g := grpOf (s.ruleTarget r)
  if s.absent g then s
  else if s.ruleLane r ≠ g.val then s.queueAction r g .cross
  else if r ∈ (s.link g).unR then (s.queueAction r g .plain).urgWait
  else
    let late := decide (2 ≤ (s.link g).urgOut.length + (s.link g).urgQ.length)
    ((if late then s.urgWait else s).updLink g fun l => { l with urgQ := l.urgQ ++ [(r, late)] }).urgGo g
/-- The changes of OUT_CMD.ON that a reflex action makes in its firing tick (R496). -/
def State.reflexCmd (s : State) (r : RuleNo) : State :=
  let c := s.ruleTarget r
  match s.reg (F.RFX_ACTION_CODE r) with
  | 1 => s.setCmd c true false
  | 2 => s.setCmd c false false
  | 3 => (s.setCmd c true false).cmdAt (s.now + s.reg (F.RFX_PARAM r) / 4 * 4) c false false
  | 4 => s.setCmd c true true
  | _ => s
/-- What a firing rule does beside its marks: its action (R229, R230). -/
def State.fireAction (s : State) (r : RuleNo) : State :=
  let k := s.reg (F.RFX_ACTION_CODE r)
  if k = 1 ∨ k = 2 ∨ k = 3 ∨ k = 4 then (s.sendAction r).reflexCmd r
  else if k = 5 then { s with rfx := { s.rfx with cancels := s.rfx.cancels ++ [(r, s.ruleTarget r, s.tick)] } }
  else s
/-- What a firing leaves of a rule's arming; a write of RFX_ARM in the same tick holds instead (R235, R42). -/
def State.fireArm (s : State) (r : RuleNo) (once : Bool) : State :=
  let s1 : State := { s with rfx := { s.rfx with fired := putAssoc s.rfx.fired r.val s.tick } }
  if s.written (F.RFX_ARM_ARM r) then s1
  else if once then ((s1.setReg (F.RFX_ARM_ARM r) 0).setReg (F.RFX_ARM_PHASE r) 0).edgeMasks
  else if s.reg (F.RFX_ARM_HOLDOFF r) = 0 then s1 else s1.setReg (F.RFX_ARM_PHASE r) 3
/-- A rule fires (R233, R235, R238). -/
def State.fire (s : State) (x : Cond) (r : RuleNo) : State :=
  let once := s.regOld (F.RFX_ARM_ARM r) == 2
  let k := s.reg (F.RFX_ACTION_CODE r)
  let cross := 1 ≤ k && k ≤ 4 && s.ruleLane r != (grpOf (s.ruleTarget r)).val
  let s1 := ((((s.fireAction r).tally (F.RFX_FIRES_FIRES r)).setReg (F.RFX_LAST_FIRE r) s.now).setReg F.RFX_LAST_LAST_RULE r.val).setReg
    F.RFX_LAST_FIRED_VALID 1
  let s2 := s1.fireArm r once
  if s.on (F.RFX_ACTION_NOTIFY r) || k == 6 then
    s2.notify 0x1D [(12, 1, r.val), (13, 1, x.kind), (14, 1, x.src), (15, 1, x.bit), (16, 1, k), (17, 1, s.reg (F.RFX_ACTION_TARGET r)),
      (18, 1, b2n cross + 2 * b2n once), (20, 4, x.word)]
  else s2
/-- A condition is evaluated against every rule of its lane at once, firing in ascending rule number; it meets the phases that held
before the writes of its tick (R232, R233, R235). -/
def State.evaluate (s : State) (x : Cond) : State :=
  let live := (List.finRange 64).filter fun r => s.ruleMatches r x && s.regOld (F.RFX_ARM_PHASE r) == 2
  let hold := (List.finRange 64).filter fun r => s.ruleMatches r x && s.regOld (F.RFX_ARM_PHASE r) == 3
  live.foldl (fun s r => s.fire x r) (hold.foldl (fun s r => s.tally (F.RFX_FIRES_IGNORED r)) s)
/-- CONDITION_EVALUATE: the head of a lane's queue, one in a tick, and none in the tick of its entry, when a condition that goes before it may
still come; matching is off while ENABLE is 0 (R232). -/
def execConditionEvaluate (g : Grp) (s : State) : Host.Outcome State Fault Refusal :=
  onHub (fun s => match s.rfx.lanes[g.val] with
    | [] => s
    | x :: t =>
      if s.rfx.evalAt[g.val] = some s.tick ∨ s.tick ≤ x.tick then s
      else
        let s1 : State := { s with rfx := { s.rfx with lanes := s.rfx.lanes.set g.val t, evalAt := s.rfx.evalAt.set g.val (some s.tick) } }
        if s.on F.RFX_CTRL_ENABLE then s1.evaluate x else s1) s
/-- REFLEX_CANCEL: the cancels matched in a tick before are carried out, each with cause 1 and its rule (R230). -/
def execReflexCancel (s : State) : Host.Outcome State Fault Refusal :=
  onHub (fun s => (s.rfx.cancels.filter fun p => p.2.2 < s.tick).foldl (fun s p => s.cancelSlots (slotOf p.2.1) 1 p.1.val)
    { s with rfx := { s.rfx with cancels := s.rfx.cancels.filter fun p => !(p.2.2 < s.tick) } }) s
/-- Whether a rule is armed: ARM repeating or one-shot; 0b11 acts as disarmed (Table 10.17). -/
def armed (a : Nat) : Bool := a == 1 || a == 2
/-- A write of RFX_ARM; the phase before it is kept for the rest of its tick (R235). -/
def State.armWritten (s : State) (r : RuleNo) : State :=
  let p := if armed (s.reg (F.RFX_ARM_ARM r)) then
      (if s.now < s.pair (F.RFX_ARM_AT_LO r) (F.RFX_ARM_AT_HI r) then 1 else 2) else 0
  ((s.noteWrite (F.RFX_ARM_PHASE r) (s.reg (F.RFX_ARM_PHASE r))).setReg (F.RFX_ARM_PHASE r) p).edgeMasks
/-- RULE_LIVE: machine time reaches ARM_AT of a waiting rule; a commit of ARM_AT acts from the next tick. -/
def execRuleLive (r : RuleNo) (s : State) : Host.Outcome State Fault Refusal :=
  onHub (fun s =>
    if s.reg (F.RFX_ARM_PHASE r) = 1 ∧ s.regOld (F.RFX_ARM_AT_HI r) * 2 ^ 32 + s.regOld (F.RFX_ARM_AT_LO r) ≤ s.now then
      s.setReg (F.RFX_ARM_PHASE r) 2 else s) s
/-- HOLDOFF_END: HOLDOFF us of real time have passed since the firing. -/
def execHoldoffEnd (r : RuleNo) (s : State) : Host.Outcome State Fault Refusal :=
  onHub (fun s =>
    if s.reg (F.RFX_ARM_PHASE r) = 3 ∧ (s.rfx.fired.lookup r.val).getD 0 + 250 * s.reg (F.RFX_ARM_HOLDOFF r) ≤ s.tick then
      s.setReg (F.RFX_ARM_PHASE r) 2 else s) s
/-- A write to a rule that is not disarmed is discarded as a refusal (R236). -/
def State.busyRule (s : State) : State := (s.tally F.RFX_LAST_BUSY_WRITE).cause .rfx 4
/-- A group die's discard of a reflex action or a Fold slot reaches the hub die; a die-wide one has no channel (R231, R280). -/
def State.discarded (s : State) (c : Option Ch) (fold : Bool) : State :=
  let s1 := s.tally (if fold then F.RFX_DISCARD_FOLD else F.RFX_DISCARD_REFLEX)
  let s2 := match c with
    | none => s1.setReg F.RFX_LAST_DISCARD_VALID 0
    | some c => ((s1.setReg F.RFX_LAST_DISCARD_CHANNEL c.val).setReg F.RFX_LAST_DISCARD_VALID 1).setReg F.RFX_LAST_DISCARD_FOLD (b2n fold)
  s2.cause .rfx 0

end Sys2Proof.Machine
end

