-- ==== Sys2Proof/Machine/Stroke.lean ====
section
/-! DEFINITION. The stroke detector of the hub die (R135 to R147). It sees the gate edges, crossings and protective states of
the channels it serves as they happen at the group die: the spec does not say how they reach it (log entry 20). -/

namespace Sys2Proof.Machine

/-- Whether the detector serves a channel (R135). -/
def State.strokeServed (s : State) (c : Ch) : Bool :=
  s.hubOn && s.on (F.SK_CFG_INDUCTIVE c) && ((s.ch c).mode == 1 || (s.ch c).mode == 2) && !(s.ch c).member
/-- A window opens at a turn-on (R136); lp is the group L+ at the edge in 0.1 V. -/
def State.strokeOpen (s : State) (c : Ch) (residual : Bool) (lp : Nat) : State :=
  if s.strokeServed c then
    s.updCh c fun k => { k with stroke := some { lp := lp, residual := residual, pair := k.mode == 2 } }
  else s

/-- The baseline takes a stroke of x us and a dip of d mA while it is learning; a field written in the tick keeps what was written, and
learning ends when COUNT then stands at 16 (R142, Table 2.4). -/
def State.learn (s : State) (c : Ch) (x d : Rat) : State :=
  let n := s.reg (F.SK_BASE_COUNT c)
  let b : Rat := s.reg (F.SK_BASE_BSTROKE c)
  let e : Rat := s.reg (F.SK_BASE_BDEPTH c)
  let s1 := ((s.hwSet (F.SK_BASE_BSTROKE c) (min 0xFFFF (roundOpen 10 (b + (x - b) / (n + 1))).toNat)).hwSet (F.SK_BASE_BDEPTH c)
    (min 255 (roundOpen 11 (e + (d - e) / (n + 1))).toNat)).hwSet (F.SK_BASE_COUNT c) (n + 1)
  if s1.reg (F.SK_BASE_COUNT c) = 16 then
    ((s1.hwSet (F.SK_TREND_TREND c) (s1.reg (F.SK_BASE_BSTROKE c))).updCh c fun k => { k with trendFrac := 0 }).cause (.ch c) 14
  else s1
/-- The trend follows a stroke of x us, kept to 1/256 us; one written in the tick stays as written, with no fraction (R144, Table 6.8). -/
def State.trend (s : State) (c : Ch) (x : Rat) : State :=
  let t : Rat := s.reg (F.SK_TREND_TREND c) + ((s.ch c).trendFrac : Rat) / 256
  let n := (roundOpen 12 ((t + (x - t) / 256) * 256)).toNat
  if s.written (F.SK_TREND_TREND c) then s
  else (s.setReg (F.SK_TREND_TREND c) (min 0xFFFF (n / 256))).updCh c fun k => { k with trendFrac := n % 256 }
/-- Whether a stroke of x ns is slow (R142). -/
def State.slowStroke (s : State) (c : Ch) (x : Nat) : Bool :=
  s.reg (F.SK_BASE_COUNT c) == 16 && s.reg (F.SK_CFG_SLOW c) != 0 &&
    decide ((s.reg (F.SK_BASE_BSTROKE c) : Rat) * 1000 * (1 + (s.reg (F.SK_CFG_SLOW c) : Rat) * 5 / 100) < x)

/-- A window closes with a result (Table 6.1, R146): kind 1 a confirmed stroke, 3 NO_STROKE, 4 INVALID. Bytes 38-39 of a learning
result hold the baseline after its own update: the spec does not say which (log entry 153). -/
def State.strokeDecide (s : State) (c : Ch) (w : Stroke) (kind reason : Nat) : State :=
  let found := kind == 1
  let t0 := w.t0.getD 0
  let x := if found then w.tEnd - t0 else 0
  let onset := if found then w.tOn - t0 else 0
  let m := w.m.getD 0
  let d : Rat := if found then m - w.v else 0
  let learning := decide (s.reg (F.SK_BASE_COUNT c) < 16)
  let code := if found && s.slowStroke c x then 2 else kind
  let s1 := s.updCh c fun k => { k with stroke := none }
  let s2 := if !found then s1 else if learning then s1.learn c ((x : Rat) / 1000) d else s1.trend c ((x : Rat) / 1000)
  let done := found && learning && s2.reg (F.SK_BASE_COUNT c) == 16
  let s3 := (((s2.setReg (F.SK_LAST_RESULT c) code).setReg (F.SK_LAST_REASON c) reason).setReg (F.SK_LAST_DEPTH c)
    (min 255 (roundOpen 13 d).toNat)).setReg (F.SK_LAST_STROKE c) (min 0xFFFF (roundAway ((x : Rat) / 1000)).toNat)
  let s4 := if code = 3 then (s3.tally (F.SK_TREND_MISSES c)).cause (.ch c) 12 else if code = 2 then s3.cause (.ch c) 13 else s3
  let s5 := s4.condition (grpOf c) { kind := 4, src := c.val, bit := code - 1, learn := learning }
  if s5.on (F.SK_CFG_NOTIFY c) || code != 1 || done then
    s5.notify 0x18 [(12, 1, c.val), (13, 1, code), (14, 1, reason), (15, 1, b2n learning + 2 * b2n done + 4 * b2n w.pair),
      (16, 8, if reason = 7 then 0 else ((t0 : Int) - w.shift).toNat), (24, 4, x), (28, 4, onset), (32, 2, unsgn 16 (roundOpen 14 m)),
      (34, 2, if found then unsgn 16 (roundOpen 15 w.v) else 0), (36, 2, w.lp), (38, 2, s5.reg (F.SK_BASE_BSTROKE c))]
  else s5

/-- The open window of a channel while the detector runs: with CCLK stopped it changes nothing (R494). -/
def State.window (s : State) (c : Ch) : Option Stroke := if s.hubOn then (s.ch c).stroke else none
/-- A changed window. -/
def State.updWindow (s : State) (c : Ch) (f : Stroke → Stroke) : State :=
  match s.window c with
  | none => s
  | some w => s.updCh c fun k => { k with stroke := some (f w) }
/-- The crossing fixes the origin of a window (R136). One that its die timed on the scale before a step stands on the hub die's present
one; before the step, it is reported as it was then (R248, R249). -/
def State.strokeCross (s : State) (c : Ch) (t : Nat) : State :=
  let old := (s.dieOf (grpOf c)).epoch != s.on F.TB_STATUS_EPOCH
  let d := s.hub.last.1
  s.updWindow c fun w =>
    if w.t0 ≠ none then w
    else if !old then { w with t0 := some t }
    else { w with t0 := some ((t : Int) + d).toNat, shift := if t < s.hub.last.2 then d else 0 }
/-- The INVALID reason of a window that closes without a decision of its own: residual current, no crossing, or the reason given, in
the order of Table 6.1. -/
def Stroke.reason (w : Stroke) (r : Nat) : Nat := if w.residual then 6 else if w.t0 = none then 7 else r
/-- No crossing was measured for the edge (Table 6.1, reason 7). -/
def State.strokeNoCross (s : State) (c : Ch) : State :=
  match s.window c with
  | none => s
  | some w => if w.t0 = none then s.strokeDecide c w 4 (w.reason 7) else s
/-- The first turn-off gate edge closes the window (R138). -/
def State.strokeGateOff (s : State) (c : Ch) : State :=
  match s.window c with
  | none => s
  | some w => if w.reason 0 = 0 then s.strokeDecide c w 3 (if w.limited then 3 else 2) else s.strokeDecide c w 4 (w.reason 0)
/-- The window is aborted (reason 8). -/
def State.strokeAbort (s : State) (c : Ch) : State :=
  match s.window c with
  | none => s
  | some w => s.strokeDecide c w 4 (w.reason 8)
/-- The channel entered Limiting (reason 3). -/
def State.strokeLimited (s : State) (c : Ch) : State := s.updWindow c fun w => { w with limited := true }

/-- One step of R139 on a smoothed sample of i mA at terminal instant t: the window, and whether the stroke is confirmed. -/
def Stroke.track (w : Stroke) (depth : Nat) (i : Rat) (t : Nat) : Stroke × Bool :=
  match w.m with
  | none => ({ w with m := some i, tOn := t }, false)
  | some m =>
    if !w.armed then
      if m < i then ({ w with m := some i, tOn := t }, false)
      else if i ≤ m - depth then ({ w with armed := true, v := i, tEnd := t }, false)
      else (w, false)
    else if i < w.v then ({ w with v := i, tEnd := t }, false)
    else (w, decide (w.v + (depth : Rat) / 2 ≤ i))
/-- A smoothed capture sample of a served channel (R137 to R140). Residual current decides at the first sample after the crossing, even
one within BLANK, and a window runs on when INDUCTIVE is cleared: the spec settles neither (log entry 153). -/
def State.strokeSample (s : State) (c : Ch) (gap settle : Bool) (i : Rat) (t : Nat) : State :=
  match (s.ch c).stroke with
  | none => s
  | some w =>
    match w.t0 with
    | none => s
    | some t0 =>
      if w.residual then s.strokeDecide c w 4 6
      else if t < t0 + s.reg (F.SK_CFG_BLANK c) * 20000 then s
      else if gap then s.strokeDecide c w 4 4
      else if settle then s.strokeDecide c w 4 5
      else
        let r := w.track (strokeDepth (s.reg (F.SK_CFG_DEPTH c))) i t
        if r.2 then s.strokeDecide c r.1 1 0 else s.updCh c fun k => { k with stroke := some r.1 }
/-- STROKE_WINDOW_EXPIRY: t0 + WINDOW has passed (R138). -/
def execStrokeWindowExpiry (c : Ch) (s : State) : Host.Outcome State Fault Refusal :=
  onHub (fun s => match s.window c with
    | none => s
    | some w => match w.t0 with
      | none => s
      | some t0 =>
        if t0 + strokeWindow (s.reg (F.SK_CFG_WINDOW c)) ≤ s.now then
          if w.residual then s.strokeDecide c w 4 6 else s.strokeDecide c w 3 (if w.limited then 3 else 1)
        else s) s

end Sys2Proof.Machine
end

