-- ==== Sys2Proof/Machine/Drive.lean ====
section
/-! DEFINITION. The high-side switch of a channel at its group die: what holds it off, gate edges, PWM runs, and the state it
is brought to (Tables 4.5 to 4.8, R90 to R95, R128 to R130, R289). -/

namespace Sys2Proof.Machine

/-- A notification made at a group die travels as an EVENT record with its machine time. -/
def State.dieNote (s : State) (g : Grp) (kind : Nat) (body : List Place) : State :=
  s.evt g (.notify { kind := kind, body := (4, 8, s.dieNow g) :: body })
/-- Machine time at a channel's group die. -/
def State.at (s : State) (c : Ch) : Nat := s.dieNow (grpOf c)
/-- The group L+ in units of 0.1 V as the die reports it with an edge (R123). -/
def State.lpTenths (s : State) (g : Grp) : Nat := (roundOpen 20 ((sgn 12 (s.dreg (F.GRP_SUP_STATUS_LPX g)) : Rat) / 2)).toNat
/-- The channel through which a channel acts: the head of its pair (R55). -/
def State.headOf (s : State) (c : Ch) : Ch := if (s.ch c).member then chPred c else c
/-- Whether a channel heads a standing pair. -/
def State.pairHead (s : State) (c : Ch) : Bool := (s.ch c).mode == 2 && !(s.ch c).member
/-- The channels whose switches act as one output through a channel (R55, R88). -/
def State.legs (s : State) (c : Ch) : List Ch := if s.pairHead c then [c, chSucc c] else [c]
/-- Whether a channel has a switch of its own to command (Table 3.1). -/
def State.switchable (s : State) (c : Ch) : Bool := switchMode (s.ch c).mode && !(s.ch c).member && (s.ch c).park.isNone
/-- Whether the mode drives the terminal (R68). -/
def State.driving (s : State) (c : Ch) : Bool :=
  switchMode (s.ch c).mode || (s.ch c).mode == 6 || (s.ch c).mode == 7 || (s.ch c).mode == 8 ||
    ((s.ch c).mode == 4 && s.don (F.AN_CFG_LOOP_SUPPLY c))
/-- PERMIT at the die; of both channels for a pair (R68). -/
def State.permit (s : State) (c : Ch) : Bool := (s.legs c).all fun x => s.don (F.CH_PERMIT x)
/-- A supply condition, or a release instant or an acknowledgement still to come, holds the channel off; so does a die that a loss of GNDFx
holds in reset, or that has stopped (R300, R302, R304, R306, R311, Table 14.3). -/
def State.supplyHeld (s : State) (c : Ch) : Bool :=
  let d := s.dieOf (grpOf c)
  !d.powered || d.hold || d.uv || d.ov || d.rev || d.rel.any (fun x => x.1 == chN c) || decide (chN c ∈ d.wait)
/-- The latches of a channel, of both legs for a pair: a condition belongs to its channel and holds the pair that is formed over it
(R65, R88): fault, thermal, clamp, fuse. -/
def State.latches (s : State) (c : Ch) : Bool × Bool × Bool × Bool :=
  let l := (s.legs c).map s.ch
  (l.any fun k => k.latFault != 0, l.any (·.latTherm), l.any (·.latClamp), l.any (·.latFuse))
/-- The highest-ranked cause of ranks 1 to 7 that holds a channel off; 0 for none (Table 4.7). A shed (rank 6) acts once. -/
def State.hold (s : State) (c : Ch) : Nat :=
  let l := s.latches c
  if l.1 then 1 else if l.2.1 then 2 else if l.2.2.1 then 3 else if l.2.2.2 then 4
  else if s.supplyHeld c then 5 else if !s.permit c || (s.ch c).permitHeld then 7 else 0
/-- The applicable current limit of a channel in mA, of both switches together for a pair: CUR_LIMIT, and while an inrush window
runs the greater of it and INRUSH_LIMIT (R76, R77, R88). -/
def State.limitOf (s : State) (c : Ch) : Nat :=
  let p := s.pairHead c
  let n := curLimit (s.dreg (F.OUT_LIMIT_CUR_LIMIT c)) p
  if (s.ch c).inrush then max n (inrushLimit (s.dreg (F.OUT_LIMIT_INRUSH_LIMIT c)) p) else n
/-- The limit of one switch of a channel: half the pair's for each leg (R88). -/
def State.legLimit (s : State) (c : Ch) : Nat := if s.pairHead c then s.limitOf c / 2 else s.limitOf c

/-- The limp-home map's byte for a channel, as the die has it. -/
def State.limpByte (s : State) (c : Ch) : Nat :=
  s.dreg (F.GRP_LIMP_EN (grpOf c) (chN c)) * 128 + s.dreg (F.GRP_LIMP_INV (grpOf c) (chN c)) * 64 + s.dreg (F.GRP_LIMP_SRC (grpOf c) (chN c))
/-- Whether limp-home switches a channel (R293). -/
def State.follows (s : State) (c : Ch) : Bool := (s.dieOf (grpOf c)).limp && bit (s.limpByte c) 7 && s.switchable c
/-- What limp-home gives it: the source's qualified state, inverted by INV; off when the source is no valid digital input (R293). -/
def State.followValue (s : State) (c : Ch) : Bool :=
  let src := chOf (grpOf c) ⟨s.limpByte c % 8, by omega⟩
  (s.ch src).mode == 3 && (s.ch src).valid && ((s.ch src).qual != bit (s.limpByte c) 6)
/-- KIND of the safe-state value; 6 and 7 act as 0 (Table 13.8). -/
def State.safeKind (s : State) (c : Ch) : Nat :=
  let k := s.dreg (F.GRP_SAFE_KIND (grpOf c) (chN c))
  if k < 6 then k else 0

/-- What a channel's output is to be. -/
inductive Want where
  | off | on | keep
  | run (preset : Nat) (duty : Option Nat)
deriving DecidableEq, Repr

/-- What a channel's output is to be, by Table 4.7. -/
def State.want (s : State) (c : Ch) : Want :=
  if s.hold c ≠ 0 then .off
  else if s.follows c then (if s.followValue c then .on else .off)
  else if (s.dieOf (grpOf c)).safe then
    (match s.safeKind c with | 1 => .on | 2 => .keep | 3 => .run 0 none | 4 => .run 1 none | _ => .off)
  else match (s.ch c).cmdRun with
    | some (p, d) => .run p d
    | none => if (s.ch c).cmdOn then .on else .off
/-- Whether commands act now, and not only on the commanded state (R94). -/
def State.free11 (s : State) (c : Ch) : Bool := s.hold c == 0 && !s.follows c && !(s.dieOf (grpOf c)).safe

/-! ### Gate edges -/

/-- A turn-on gate edge of one switch, counted as R419 lays down. -/
def State.gateOn1 (s : State) (c : Ch) : State :=
  (s.updCh c fun k => { k with sw := true, edgeAt := s.clock, edgeOf := k.acting }).evt (grpOf c) (.switches (chN c) 1)
/-- A turn-on gate edge at instant t; of both switches for a pair. -/
def State.gateOn (s : State) (c : Ch) (t : Nat) (meas : Bool) : State :=
  let s1 := (s.gateOn1 c).updCh c fun k => { k with edge := some (true, meas), gateT := t, lpE := s.lpTenths (grpOf c) }
  if s.pairHead c then s1.gateOn1 (chSucc c) else s1
/-- The 10 us mean switch current of a channel, of both switches for a pair (R75, R136). -/
def State.cur10 (s : State) (c : Ch) : Int := ((s.legs c).map fun x => (s.ch x).cur10).foldl (· + ·) 0
/-- Whether current is left at a gate edge: 20 mA or more as the 10 us mean. A mean that a command has brought within the last 10 us is the
present one; after that the mean is open, for it is formed every 10 us and no command has brought it (R75, R136, log entry 156). -/
def State.residual (s : State) (c : Ch) : Bool × State :=
  if (s.legs c).all fun x => decide (s.clock ≤ (s.ch x).cur10At + 10000) then (decide (20 ≤ s.cur10 c), s)
  else (s.openValue.1 % 2 == 1, s.openValue.2)
/-- A turn-on gate edge that opens a stroke window: every one that begins with the switch off but the on-phases of a run after its
first (R136). -/
def State.gateStart (s : State) (c : Ch) (t : Nat) (meas : Bool) : State :=
  let r := s.residual c
  (r.2.gateOn c t meas).strokeOpen c r.1 (s.lpTenths (grpOf c))
/-- A turn-off gate edge at instant t. It closes a stroke window (R138); what the clamp takes is summed from here (R87, R88). -/
def State.gateOff (s : State) (c : Ch) (t : Nat) (meas : Bool) : State :=
  let s1 := s.updCh c fun k =>
    { k with sw := false, edge := some (false, meas), gateT := t, lpE := s.lpTenths (grpOf c), edgeAt := s.clock, edgeOf := k.acting,
             offHigh := none, offPrev := 0, evE := 0 }
  (if s.pairHead c then s1.updCh (chSucc c) fun k => { k with sw := false, edgeAt := s.clock } else s1).strokeGateOff c
/-- Entry into the on states from Off: the inrush window and the stroke window open at the gate edge (R77, R136). -/
def State.turnOn (s : State) (c : Ch) (t : Nat) : State :=
  (s.gateStart c t true).updCh c fun k =>
    { k with work := .turning, from_ := .turning, inrush := inrushWindow (s.dreg (F.OUT_LIMIT_INRUSH_WINDOW c)) != 0, inrushAt := s.clock,
             olOn := false, olAt := none }
/-- The switch goes off and the channel to Off; no gate edge when it was off already. An edge that begins in On is measured; one that
ends a run is when an action of R109 makes it (R123). -/
def State.turnOff (s : State) (c : Ch) (t : Nat) (act : Bool) : State :=
  let meas := if (s.ch c).run.isSome then act else (s.ch c).work == .on
  (if (s.ch c).sw then s.gateOff c t meas else s).updCh c fun k =>
    { k with work := .off, from_ := .off, inrush := false, olOn := false, olAt := none, run := none }

/-! ### PWM runs -/

/-- Period in ns of a preset at the die. -/
def State.runPeriod (s : State) (c : Ch) (p : Nat) : Nat :=
  pwmPeriod (s.dreg (if p = 0 then F.PWM_P0_TIMING_PERIOD c else F.PWM_P1_TIMING_PERIOD c))
/-- The grid offset PHASE x P / 256 in ns. -/
def State.runPhase (s : State) (c : Ch) (p : Nat) : Rat :=
  (s.dreg (if p = 0 then F.PWM_P0_TIMING_PHASE c else F.PWM_P1_TIMING_PHASE c) : Rat) * s.runPeriod c p / 256
/-- DUTY of a preset. -/
def State.runDuty (s : State) (c : Ch) (p : Nat) : Nat := s.dreg (if p = 0 then F.PWM_P0_SHAPE_DUTY c else F.PWM_P1_SHAPE_DUTY c)
/-- PEAK of a preset in ns. -/
def State.runPeakNs (s : State) (c : Ch) (p : Nat) : Nat :=
  s.dreg (if p = 0 then F.PWM_P0_SHAPE_PEAK c else F.PWM_P1_SHAPE_PEAK c) * 10000
/-- The on-phase in ns, rounded to 4 ns (R128). -/
def Run.width (r : Run) : Nat := near4 ((r.duty : Rat) * r.period / 65536)
/-- The first period start of the grid after an instant. -/
def Run.nextStart (r : Run) (t : Rat) : Rat := r.origin + (((t - r.origin) / r.period).floor + 1 : Int) * r.period
/-- The next grid edge of a run after a terminal instant: a period start (on) or the end of an on-phase, at its terminal instant (R128). -/
def Run.nextEdge (r : Run) (t : Rat) : Bool × Rat :=
  let a := r.nextStart t
  let b := r.nextStart (t - r.width) + r.width
  if r.width < r.period ∧ b < a then (false, b) else (true, a)
/-- The gate instant of a run's edge: led by the delays the die last received for the channel, on the machine-time grid (R130, R289). -/
def Run.gate (r : Run) (dOn dOff : Nat) (e : Bool × Rat) : Nat := near4 (e.2 - (if r.led then (if e.1 then dOn else dOff) else 0 : Nat))
/-- A run's next edge after its machine time was set: the first grid edge at or after the new time (Table 11.1). -/
def Run.aimed (r : Run) (now : Nat) : Run := { r with next := r.nextEdge ((now : Rat) - 1 / 32) }
/-- A run starts at terminal instant start with its gate edge at t, whatever the switch did before: it stays on through its peak phase,
which ends with the first grid off-edge at or after start + PEAK, or with the first after the start when PEAK is 0 (R129). On the
machine-time grid it takes its preset's PHASE; without MCLKx its grid begins at the start, in the safe state at the entry into that, and is not
led (R289). -/
def State.startRun (s : State) (c : Ch) (p : Nat) (own : Option Nat) (start t : Nat) (act : Bool) : State :=
  let k := s.ch c
  let timed := (s.dieOf (grpOf c)).timed
  let r : Run := {
    preset := p, own := own, period := s.runPeriod c p
    origin := if timed then s.runPhase c p else if (s.dieOf (grpOf c)).safe then ((s.dieOf (grpOf c)).safeAt : Rat) else (start : Rat)
    duty := own.getD (s.runDuty c p), peak := some (start + s.runPeakNs c p, s.runPeakNs c p == 0), led := timed }
  let into := fun (x : Chan) => { x with work := if x.work = .limiting ∨ x.work = .turning then x.work else .pwm, from_ := .pwm }
  let s1 := if k.sw then s.updCh c into else if k.run.isSome then (s.gateStart c t act).updCh c into else s.turnOn c t
  s1.updCh c fun x => { x with run := some { r with next := r.nextEdge start } }
/-- A run that is kept goes on the grid that it has now: that of machine time with MCLKx, and without it one on GCLKx from an
instant, not led (R289). -/
def State.regrid (s : State) (c : Ch) (origin : Nat) : State :=
  let timed := (s.dieOf (grpOf c)).timed
  s.updCh c fun k => { k with run := k.run.map fun r =>
    if r.led == timed then r
    else ({ r with led := timed, origin := if timed then s.runPhase c r.preset else (origin : Rat) } : Run).aimed (s.at c) }

/-! ### Bringing a channel to its state -/

/-- A run ends with the switch on: the working state is On, or Inrush while the window runs (Table 4.6). -/
def Chan.endRunOn (k : Chan) : Chan :=
  let w : Work := if k.inrush then .inrush else .on
  { k with run := none, work := if k.run.isSome ∧ k.work ≠ .limiting ∧ k.work ≠ .turning then w else k.work,
           from_ := if k.run.isSome then w else k.from_ }
/-- The switch is to be on, with no run: from the off-phase of a run, from Off, or as it is (Table 4.6). -/
def State.bringOn (s : State) (c : Ch) (t : Nat) (act : Bool) : State :=
  let k := s.ch c
  if k.sw then s.updCh c Chan.endRunOn
  else if k.run.isSome then
    (s.gateStart c t act).updCh c fun x => { x with run := none, work := if x.work = .limiting then .limiting else .turning, from_ := .turning }
  else s.turnOn c t
/-- The channel's output is brought to what it is to be (Table 4.7): off at once under a hold, on from Off through Turning on,
a run with its peak phase. -/
def State.settle (s : State) (c : Ch) : State :=
  if !s.switchable c then s
  else match s.want c with
    | .off => (if s.hold c ≠ 0 then s.strokeAbort c else s).turnOff c (s.at c) false
    | .keep => s.regrid c (s.dieOf (grpOf c)).safeAt
    | .on => s.bringOn c (s.at c) false
    | .run p d => s.startRun c p d (s.at c) (s.at c) false
/-- A cause of ranks 1 to 7 has come: the run ends and the switch goes off, with its commanded state left (R69, R92, R300). What the
channel was doing is kept for the causes of the same tick (R92). -/
def State.forceOff (s : State) (c : Ch) : State :=
  if s.switchable c then
    ((s.updCh c fun k => { k with was := if k.work = .off then k.was else (k.work, s.clock) }).strokeAbort c).turnOff c (s.at c) false
  else s
/-- A latch has gone or a hold has ended: the channel returns to its commanded, safe or mapped state unless another holds it. -/
def State.resume (s : State) (c : Ch) : State := if s.switchable c && s.hold c == 0 then s.settle c else s

/-! ### Commands at the die -/

/-- The commanded state is set; a command ends the hold of a permit withdrawn before (R70). -/
def State.commanded (s : State) (c : Ch) (on : Bool) (run : Option (Nat × Option Nat)) : State :=
  s.updCh c fun k => { k with cmdOn := on, cmdRun := run, permitHeld := k.permitHeld && !s.permit c }
/-- An on or off command at gate instant t (R94, Table 4.6); act says that an action of R109 or a reflex action makes it (R123). The
off-edge of a PULSE that is still to come stands: the spec does not say what an ON or OFF does to it (log entry 150). -/
def State.cmdSwitch (s : State) (c : Ch) (on : Bool) (t : Nat) (act : Bool) : State :=
  let s1 := s.commanded c on none
  if !s1.free11 c then s1 else if on then s1.bringOn c t act else s1.turnOff c t act
/-- A command to run a preset from terminal instant start, its gate edge at t (R129). -/
def State.cmdRunStart (s : State) (c : Ch) (p : Nat) (own : Option Nat) (start t : Nat) (act : Bool) : State :=
  let s1 := s.commanded c true (some (p, own))
  if s1.free11 c then s1.startRun c p own start t act else s1
/-- The off-edge of a PULSE is due at a gate instant, for a terminal instant. -/
def State.addPulse (s : State) (c : Ch) (term gate : Nat) : State := s.updCh c fun k => { k with pulses := k.pulses ++ [(term, gate)] }

end Sys2Proof.Machine
end

