-- ==== Sys2Proof/Machine/Analog.lean ====
section
/-! DEFINITION. Analogue loops and outputs at the group die (R170 to R190). -/

namespace Sys2Proof.Machine

/-- The cause bit of a fault flag of AN_STATUS (Table 8.6). -/
def anCause (k : Nat) : Nat := if k ≤ 1 then 19 else if k = 2 then 20 else if k = 3 then 21 else 22
/-- A fault flag of AN_STATUS by its bit. -/
def anFld (c : Ch) (k : Nat) : Fld := ⟨.ch c, 0xe0, k, 1, 0⟩
/-- AN_STATUS[15:0] at the die. -/
def State.anWord (s : State) (c : Ch) : Nat := wordOf s.die (.ch c) 0xe0 % 2 ^ 16
/-- The GCLKx tick in which a group die stands: 62.5 ns of its own count (R22). -/
def State.gclkTick (s : State) (g : Grp) : Nat := (s.dieOf g).gcount / (125 * 2 ^ 31)
/-- The LOOP notification of a change from an AN_STATUS: one tells of all that changes in a GCLKx tick, so that a further change in the tick
is put into the one that is still to be sent (R186, Table 8.3). -/
def State.loopNote (s : State) (c : Ch) (old : Nat) : State :=
  let g := grpOf c
  let t := s.gclkTick g
  let was := (s.ch c).anNote.filter fun p => p.1 == t
  let first := match was with | some p => p.2.1 | none => old
  let e : OutEntry :=
    { kind := 0x1C
      body := [(4, 8, s.dieNow g), (12, 1, c.val), (16, 2, s.anWord c), (18, 2, first), (20, 2, s.dreg (F.AN_MEAS_CURRENT c)),
        (22, 2, s.dreg (F.AN_MEAS_VOLT c)), (24, 2, s.dreg (F.AN_STATUS_DAC_NOW c))] }
  let s1 := s.updCh c fun k => { k with anNote := some (t, first, e) }
  match was with
  | some p =>
    if (s.dieOf g).evQ.contains (.event (.notify p.2.2)) then
      s1.updDie g fun d => { d with evQ := d.evQ.map fun r => if r = .event (.notify p.2.2) then .event (.notify e) else r }
    else s1.evt g (.notify e)
  | none => s1.evt g (.notify e)
/-- The fault flags as they stand are entered in the local Ledger (R173, R186). -/
def State.anRecord (s : State) (c : Ch) : State := s.local (grpOf c) 0x44 (chN c) 1 (s.anWord c % 2 ^ 11)
/-- Fault flags take values in one tick: a flag set reports its cause and is recorded, and one notification tells of all that
changed (R186). -/
def State.anFlags (s : State) (c : Ch) (l : List (Nat × Bool)) : State :=
  let ch := l.filter fun p => s.don (anFld c p.1) != p.2
  if ch = [] then s
  else
    let old := s.anWord c
    let s1 := ch.foldl (fun s p => s.setDie (anFld c p.1) (b2n p.2)) s
    let s2 := (ch.filter (·.2)).foldl (fun s p => s.chEvt c (anCause p.1)) s1
    (if ch.any (·.2) then s2.anRecord c else s2).loopNote c old
/-- The fault flags of a mode that a channel leaves are cleared; HOT stays from one analogue mode to another while the block is off for
it, and outside the analogue modes every flag reads 0 (R175, R185, R190). -/
def State.anClear (s : State) (c : Ch) (all : Bool) : State :=
  let s1 := s.anFlags c ([(0, false), (1, false), (2, false), (3, false), (4, false), (5, false), (6, false), (7, false)] ++
    if all then [(10, false)] else [])
  if all then (s1.setDie (F.AN_STATUS_RAMPING c) 0).setDie (F.AN_STATUS_CLAMPED c) 0 else s1

/-- Whether the driving block of an analogue output may be on: nothing holds it off (R68, R70, R185, R289, R300). -/
def State.dacOn (s : State) (c : Ch) : Bool :=
  dacMode (s.ch c).mode && (s.ch c).park.isNone && !s.supplyHeld c && s.permit c && !(s.ch c).permitHeld && !(s.ch c).anOff &&
    (!(s.dieOf (grpOf c)).safe || s.safeKind c == 2 || s.safeKind c == 5)
/-- A code bounded by AN_CLAMP (R177). -/
def State.dacClamped (s : State) (c : Ch) (code : Nat) : Nat :=
  dacBound (s.dreg (F.AN_CLAMP_CODE_MIN c)) (s.dreg (F.AN_CLAMP_CODE_MAX c)) code
/-- CLAMPED: the written code lies above CODE_MAX or below CODE_MIN; outside the analogue modes it reads 0 (R177, R190). -/
def State.showClamped (s : State) (c : Ch) : State :=
  let v := s.dreg (F.AN_DAC_CODE c)
  s.setDie (F.AN_STATUS_CLAMPED c)
    (b2n (analogMode (s.ch c).mode && (decide (s.dreg (F.AN_CLAMP_CODE_MAX c) < v) || decide (v < s.dreg (F.AN_CLAMP_CODE_MIN c)))))
/-- The effective command; a new one suspends the mismatch check for 1 ms (R184). -/
def State.setEffective (s : State) (c : Ch) (v : Nat) : State :=
  s.updCh c fun k => { k with dacCmd := v, dacAt := if k.dacCmd = v then k.dacAt else some s.clock }
/-- The DAC is set to an effective command with no ramp. -/
def State.dacStep (s : State) (c : Ch) (v : Nat) : State :=
  ((s.setEffective c v).setDie (F.AN_STATUS_DAC_NOW c) v).setDie (F.AN_STATUS_RAMPING c) 0
/-- A new effective command: a step, or a ramp from the present DAC_NOW (R179). -/
def State.dacTarget (s : State) (c : Ch) (v : Nat) : State :=
  if s.dreg (F.AN_CFG_RAMP c) = 0 then s.dacStep c v
  else (s.setEffective c v).setDie (F.AN_STATUS_RAMPING c) (b2n (s.dreg (F.AN_STATUS_DAC_NOW c) != v))
/-- The MCLKx period of 40 ns in which a channel's group die stands (R22). -/
def State.mclkPeriod (s : State) (c : Ch) : Nat := s.dieNow (grpOf c) / 40
/-- A command of an analogue output: CODE keeps what was written, and the DAC follows it unless the block is held off or the
group is in the safe state (R68, R177, R290). -/
def State.dacCommand (s : State) (c : Ch) (code : Nat) : State :=
  let s1 := ((s.setDie (F.AN_DAC_CODE c) code).showClamped c).updCh c fun k => { k with permitHeld := k.permitHeld && !s.permit c }
  if s1.dacOn c && !(s1.dieOf (grpOf c)).safe then s1.dacTarget c (s1.dacClamped c code) else s1
/-- An analogue output is brought to what its state asks: the safe-state value, or the effective command; a ramp ends when its block
goes off (R177, Table 13.8). -/
def State.anSettle (s : State) (c : Ch) : State :=
  if !s.dacOn c then s.setDie (F.AN_STATUS_RAMPING c) 0
  else if (s.dieOf (grpOf c)).safe then
    if s.safeKind c = 5 then s.dacStep c (s.dacClamped c (s.dreg (F.GRP_SAFE_CODE (grpOf c) (chN c))))
    else s.dacStep c (s.dreg (F.AN_STATUS_DAC_NOW c))
  else s.dacStep c (s.dacClamped c (s.dreg (F.AN_DAC_CODE c)))
/-- The die tells the hub die the code last applied, with the place of the last write of AN_DAC that it has carried out (R181). -/
def State.dacTold (s : State) (c : Ch) (code : Nat) : State := s.evt (grpOf c) (.dacCode (chN c) code (s.ch c).dacW)
/-- A write of AN_DAC at the die. In the MCLKx period of a DAC action it comes before the action, whose code holds, and is told again as
the one applied after that write (R181). -/
def State.dacWritten (s : State) (c : Ch) (code : Nat) : State :=
  if (s.ch c).dacFold = some (s.mclkPeriod c) then s.dacTold c (s.dreg (F.AN_DAC_CODE c)) else s.dacCommand c code
/-- A DAC action: its code becomes that of AN_DAC, in the die and in the image (R178, R181). -/
def State.dacAction (s : State) (c : Ch) (code : Nat) : State :=
  ((s.dacCommand c code).updCh c fun k => { k with dacFold := some (s.mclkPeriod c) }).dacTold c code
/-- A write of AN_CLAMP at the die: the ramp or the command follows the new bounds (R181). -/
def State.clampWritten (s : State) (c : Ch) : State :=
  let s1 := s.showClamped c
  if s1.dacOn c && !(s1.dieOf (grpOf c)).safe then s1.dacTarget c (s1.dacClamped c (s1.dreg (F.AN_DAC_CODE c))) else s1
/-- DAC_RAMP_STEP: RAMP x 16 codes toward the effective command (R179). -/
def State.rampStep (s : State) (c : Ch) : State :=
  if !s.don (F.AN_STATUS_RAMPING c) || !s.dacOn c then s
  else
    let now := s.dreg (F.AN_STATUS_DAC_NOW c)
    let goal := (s.ch c).dacCmd
    let r := s.dreg (F.AN_CFG_RAMP c) * 16
    let v := if r = 0 then goal else if now < goal then min goal (now + r) else max goal (now - r)
    (s.setDie (F.AN_STATUS_DAC_NOW c) v).setDie (F.AN_STATUS_RAMPING c) (b2n (v != goal))
def execDacRampStep (c : Ch) (s : State) : Host.Outcome State Fault Refusal := onDie (grpOf c) (fun s => s.rampStep c) s

/-- OPEN beside COMPLIANCE: an effective command of 1 mA or more with a mean below 0.2 mA (R183). -/
def State.openNow (s : State) (c : Ch) : Bool :=
  decide (65536 ≤ (s.ch c).dacCmd * 20) && decide (s.dreg (F.AN_MEAS_CURRENT c) < 200)
/-- OPEN follows the means while COMPLIANCE stands (R183). -/
def State.openFollow (s : State) (c : Ch) : State :=
  if (s.ch c).mode = 6 ∧ s.don (F.AN_STATUS_COMPLIANCE c) then
    (if s.openNow c then s.anFlags c [(4, true)]
     else if 200 ≤ s.dreg (F.AN_MEAS_CURRENT c) then s.anFlags c [(4, false)] else s)
  else s
/-- COMPLIANCE (R182, R183). -/
def execCompliance (c : Ch) (s : State) : Host.Outcome State Fault Refusal :=
  onDie (grpOf c) (fun s => if (s.ch c).mode = 6 ∧ s.dacOn c ∧ !(s.dieOf (grpOf c)).suspended then
    s.anFlags c ([(2, true)] ++ if s.openNow c then [(4, true)] else []) else s) s
/-- COMPLIANCE_CLEAR: OPEN clears with it. -/
def execComplianceClear (c : Ch) (s : State) : Host.Outcome State Fault Refusal :=
  onDie (grpOf c) (fun s => if (s.dieOf (grpOf c)).suspended then s else s.anFlags c [(2, false), (4, false)]) s
/-- Whether the mismatch check runs: not while a ramp runs, for 1 ms after a new effective command, or under a supply condition; 0
disables it (R184, R313). -/
def State.misRuns (s : State) (c : Ch) : Bool :=
  dacMode (s.ch c).mode && (s.ch c).park.isNone && s.dreg (F.AN_CFG_MISMATCH c) != 0 && !s.don (F.AN_STATUS_RAMPING c) &&
    !(s.dieOf (grpOf c)).suspended && (match (s.ch c).dacAt with | none => true | some t => s.passed (grpOf c) t 1000000)
/-- Whether a mean asks for the other value of MISMATCH: in current mode AN_MEAS.CURRENT against the command in units of 0.05 mA, in
voltage mode AN_MEAS.VOLT in units of 25 mV (R184, Table 8.2). -/
def State.misAsks (s : State) (c : Ch) : Bool :=
  let cur := (s.ch c).mode == 6
  let cmd : Rat := ((s.ch c).dacCmd : Rat) * (if cur then 20000 else 10000) / 65536
  let read : Rat := s.dreg (if cur then F.AN_MEAS_CURRENT c else F.AN_MEAS_VOLT c)
  let thr : Rat := (s.dreg (F.AN_CFG_MISMATCH c) : Rat) * (if cur then 50 else 25)
  decide (thr < |read - cmd|) != s.don (F.AN_STATUS_MISMATCH c)
/-- Whether an instant is set and a span of n ms has passed since, n of 0 acting as 1. -/
def State.spanMs (s : State) (c : Ch) (at_ : Option Nat) (n : Nat) : Bool :=
  match at_ with | none => false | some t => s.passed (grpOf c) t (max 1 n * 1000000)
/-- MISMATCH: every mean has differed from the command, or agreed again, for MISMATCH_TIME (R184). -/
def execMismatch (g : Grp) (n : ChN) (s : State) : Host.Outcome State Fault Refusal :=
  onDie g (fun s =>
    let c := chOf g n
    if s.misRuns c && s.spanMs c (s.ch c).misAt (s.dreg (F.AN_CFG_MISMATCH_TIME c)) then
      (s.updCh c fun k => { k with misAt := none }).anFlags c [(3, !s.don (F.AN_STATUS_MISMATCH c))]
    else s) s
/-- BUFFER_OVERLOAD (R185). -/
def execBufferOverload (c : Ch) (set : Bool) (s : State) : Host.Outcome State Fault Refusal :=
  onDie (grpOf c) (fun s => if (s.ch c).mode = 7 then s.anFlags c [(5, set)] else s) s
/-- ANALOG_HOT: the source, buffer or loop supply turns off (R185). -/
def execAnalogHot (c : Ch) (s : State) : Host.Outcome State Fault Refusal :=
  onDie (grpOf c) (fun s => if analogMode (s.ch c).mode then (s.updCh c fun k => { k with anOff := true }).anFlags c [(10, true)] else s) s
/-- ANALOG_HOT_CLEAR: the block turns on again at the effective command. -/
def execAnalogHotClear (c : Ch) (s : State) : Host.Outcome State Fault Refusal :=
  onDie (grpOf c) (fun s => if (s.ch c).anOff then ((s.updCh c fun k => { k with anOff := false }).anFlags c [(10, false)]).anSettle c else s) s

/-- Whether a channel is a 4-20 mA input out of park. -/
def State.loopIn (s : State) (c : Ch) : Bool := (s.ch c).mode == 4 && (s.ch c).park.isNone
/-- Whether the loop supply may be on: nothing holds it off; a permit given again leaves it off until its next command, which is a write
of AN_CFG (R68, R70, R172, R185, R300, log entry 158). -/
def State.loopFree (s : State) (c : Ch) : Bool :=
  s.loopIn c && s.don (F.AN_CFG_LOOP_SUPPLY c) && s.permit c && !(s.ch c).permitHeld && !s.supplyHeld c && !(s.ch c).anOff
/-- Whether the loop supply drives the terminal. -/
def State.loopOn (s : State) (c : Ch) : Bool := s.loopFree c && !(s.ch c).loopOff
/-- LOOP_SHORT: the supply turns off (R173). -/
def execLoopShort (c : Ch) (s : State) : Host.Outcome State Fault Refusal :=
  onDie (grpOf c) (fun s => if s.loopOn c then (s.updCh c fun k => { k with loopOff := true }).anFlags c [(6, true)] else s) s
/-- A retry clears its flag; a retry is entered in the local Ledger only when it changes the flag. The record has the code of a flag
set, the only one that Table 21.4 gives AN_STATUS (R173, log entry 188). -/
def State.retried (s : State) (c : Ch) (k : Nat) : State :=
  let s1 := s.anFlags c [(k, false)]
  if s.don (anFld c k) then s1.anRecord c else s1
/-- LOOP_SUPPLY_RETRY: the supply stays on when its current stayed below the limit for 1 ms (R173). -/
def execLoopSupplyRetry (c : Ch) (limit : Bool) (s : State) : Host.Outcome State Fault Refusal :=
  onDie (grpOf c) (fun s => if (s.ch c).loopOff && !limit && s.loopFree c then
    (s.updCh c fun k => { k with loopOff := false }).retried c 6 else s) s
/-- IN_OVERLOAD: the low-side shunt is disconnected (R173). -/
def execInOverload (c : Ch) (s : State) : Host.Outcome State Fault Refusal :=
  onDie (grpOf c) (fun s => if s.loopIn c && !s.don (F.AN_CFG_LOOP_SUPPLY c) then
    (s.updCh c fun k => { k with shuntOff := true }).anFlags c [(7, true)] else s) s
/-- SHUNT_RETRY: the shunt stays connected when the current stayed below the limit for 1 ms (R173). -/
def execShuntRetry (c : Ch) (limit : Bool) (s : State) : Host.Outcome State Fault Refusal :=
  onDie (grpOf c) (fun s => if (s.ch c).shuntOff && !limit then
    (s.updCh c fun k => { k with shuntOff := false }).retried c 7 else s) s
/-- A write of AN_CFG at the die: it is the loop supply's command, and a change of LOOP_SUPPLY moves the shunt, ends what either place
of it had shown, and suspends the loop check for 10 ms (R70, R172, log entry 158). R173 names the retry alone as what clears LOOP_SHORT and
IN_OVERLOAD; the model also clears them when the path that they tell of is left (DESIGN CHOICE, log entry 186). -/
def State.loopWritten (s : State) (c : Ch) (was : Bool) : State :=
  let s1 := if (s.ch c).mode = 4 then s.updCh c fun k => { k with permitHeld := k.permitHeld && !s.permit c } else s
  if s.don (F.AN_CFG_LOOP_SUPPLY c) == was || !s.loopIn c then s1
  else (s1.updCh c fun k => { k with loopChg := some s.clock, loopOff := false, shuntOff := false }).anFlags c [(6, false), (7, false)]
/-- Whether the loop check of a bound runs: 0 disables it, and neither runs while LOOP_SHORT or IN_OVERLOAD is set, for 10 ms after a
change of LOOP_SUPPLY, or under a supply condition (R172, R174, R313). A flag that stands when its bound is written 0 keeps its value, as
the check that would clear it no longer runs: R174 does not say (DESIGN CHOICE, log entry 187). -/
def State.loopRuns (s : State) (c : Ch) (high : Bool) : Bool :=
  s.loopIn c && s.dreg (if high then F.AN_LOOP_HIGH c else F.AN_LOOP_LOW c) != 0 && !s.don (F.AN_STATUS_LOOP_SHORT c) &&
    !s.don (F.AN_STATUS_IN_OVERLOAD c) && !(s.dieOf (grpOf c)).suspended &&
    (match (s.ch c).loopChg with | none => true | some t => s.passed (grpOf c) t 10000000)
/-- Whether a mean asks for the other value of UNDER or OVER: outside the bound sets, 0.1 mA inside it clears (R174). -/
def State.loopAsks (s : State) (c : Ch) (high : Bool) : Bool :=
  let i := s.dreg (F.AN_MEAS_CURRENT c)
  let b := s.dreg (if high then F.AN_LOOP_HIGH c else F.AN_LOOP_LOW c) * 100
  if high then (if s.don (F.AN_STATUS_OVER c) then decide (i + 100 ≤ b) else decide (b < i))
  else if s.don (F.AN_STATUS_UNDER c) then decide (b + 100 ≤ i) else decide (i < b)
/-- LOOP_CHECK: every mean has stood outside its bound, or 0.1 mA inside it again, for CHECK_TIME (R174). -/
def execLoopCheck (g : Grp) (n : ChN) (high : Bool) (s : State) : Host.Outcome State Fault Refusal :=
  onDie g (fun s =>
    let c := chOf g n
    if s.loopRuns c high && s.spanMs c (if high then (s.ch c).highAt else (s.ch c).lowAt) (s.dreg (F.AN_LOOP_CHECK_TIME c)) then
      (s.updCh c fun k => if high then { k with highAt := none } else { k with lowAt := none }).anFlags c
        [(b2n high, !s.don (if high then F.AN_STATUS_OVER c else F.AN_STATUS_UNDER c))]
    else s) s

/-! ### The wire-break check of a digital input -/

/-- Whether a channel is a digital input out of park. -/
def State.inputOn (s : State) (c : Ch) : Bool := (s.ch c).mode == 3 && (s.ch c).park.isNone
/-- Whether the wire-break check runs (R167, R313). WIRE_BREAK keeps its value when WB_THRESH is written 0: R167 does not say whether it
clears (DESIGN CHOICE, log entry 185). -/
def State.wbRuns (s : State) (c : Ch) : Bool :=
  s.inputOn c && s.dreg (F.IN_CFG_TYPE c) != 0 && s.dreg (F.IN_WB_WB_THRESH c) != 0 && !(s.dieOf (grpOf c)).suspended
/-- Whether a mean asks for the other value of WIRE_BREAK: below WB_THRESH x 50 uA sets, 0.1 mA above it clears (R167). -/
def State.wbAsks (s : State) (c : Ch) : Bool :=
  let i := s.dreg (F.AN_MEAS_CURRENT c)
  let b := s.dreg (F.IN_WB_WB_THRESH c) * 50
  if s.don (F.IN_STATUS_WIRE_BREAK c) then decide (b + 100 ≤ i) else decide (i < b)

end Sys2Proof.Machine
end

