-- ==== Sys2Proof/Machine/Protect.lean ====
section
/-! DEFINITION. Protection and diagnostics of an output at its group die (R73 to R105). Temperatures are in 0.125 °C, currents in
mA, clamp energies in 0.1 mJ. -/

namespace Sys2Proof.Machine

/-- DATA of the local records 0x40 and 0x41: mean current, Tj in 0.5 °C, and a last byte (Table 21.5). -/
def State.protData (s : State) (c : Ch) (last : Nat) : Nat :=
  unsgn 16 (s.ch c).cur + 2 ^ 16 * unsgn 16 (roundOpen 21 (((s.ch c).tj : Rat) / 4)) + 2 ^ 32 * last
/-- The marks of an entry into a protective state: its cause bit, its urgent word and its local record (R92, R229). -/
def State.protMarks (s : State) (c : Ch) (cause urg code cls last : Nat) : State :=
  ((s.chEvt c cause).urgent c urg).local (grpOf c) code (chN c) cls (s.protData c last)
/-- A fault cause comes (Table 4.24). Each is recorded whole, one that finds the channel Fault-latched by another too (R92); CAUSE
then shows the first, but a stuck-on switch shows over the others: the spec names no order (R100, log entry 148). -/
def State.enterFault (s : State) (c : Ch) (cause : Nat) : State :=
  let was := (s.ch c).latFault
  if bit (s.ch c).faults cause then s
  else
    let show_ := if was = 0 ∨ cause = 2 then cause else was
    (((s.updCh c fun k => { k with latFault := show_, faults := k.faults + 2 ^ cause }).setDie (F.OUT_FAULT_CAUSE c) show_).forceOff c).protMarks c 6 6 0x41
      (if cause = 2 then 4 else 2) cause
/-- Entry into Clamp-locked (R86). -/
def State.enterClamp (s : State) (c : Ch) : State :=
  if (s.ch c).latClamp then s
  else ((s.updCh c fun k => { k with latClamp := true }).forceOff c).protMarks c 4 5 0x40 2 8
/-- Entry into Fuse-tripped, by the model or by the dwell (R78, R80). -/
def State.enterFuse (s : State) (c : Ch) (dwell : Bool) : State :=
  if (s.ch c).latFuse then s
  else ((s.updCh c fun k => { k with latFuse := true, dwell := dwell }).forceOff c).protMarks c 3 3 0x40 2 6
/-- The instants of Thermal-off entries, as the die counts GCLKx in 2^-32 ns, that lie within the last 1 s (R22, R83). -/
def recent (now : Nat) (l : List Nat) : List Nat := l.filter fun t => now < t + 1000000000 * 2 ^ 32
/-- Entry into Thermal-off; the fourth within any 1 s is a fault of cause 3 (R82, R83). -/
def State.enterThermal (s : State) (c : Ch) : State :=
  if (s.ch c).latTherm then s
  else
    let now := (s.dieOf (grpOf c)).gcount
    let ts := recent now (s.ch c).therms ++ [now]
    let s1 := ((s.updCh c fun k => { k with latTherm := true, therms := ts }).forceOff c).protMarks c 5 4 0x40 2 7
    if 4 ≤ ts.length then s1.enterFault c 3 else s1
/-- A diagnostic bit is set; a change from 0 to 1 is reported and recorded (Table 4.11, Table 21.5). -/
def State.diagSet (s : State) (c : Ch) (f : Fld) : State :=
  if s.don f then s
  else
    let s1 := (s.setDie f 1).chEvt c 7
    s1.local (grpOf c) 0x42 (chN c) 1 (wordOf s1.die (.ch c) 0x58 % 128 + 2 ^ 8 * s1.dreg (F.OUT_DIAG_SUSPECT c))
/-- A diagnostic bit is cleared. -/
def State.diagClear (s : State) (f : Fld) : State := s.setDie f 0
/-- Whether the checks of a group are suspended (R313). -/
def State.suspended (s : State) (c : Ch) : Bool := (s.dieOf (grpOf c)).suspended

/-! ### Limits -/

/-- The working state with the switch on, or the one that a cause of the same tick ended (R92); Off for neither. -/
def State.working (s : State) (c : Ch) : Work :=
  let k := s.ch c
  if k.work = .off then (if k.was.2 = s.clock then k.was.1 else .off) else if k.sw then k.work else .off
/-- The channel enters Limiting; the dwell runs from here when no inrush window does (R76, R78, Table 4.6). A channel that a cause of
higher rank turned off in this tick keeps its state and has the entry recorded (R92). -/
def State.limitIn (s : State) (c : Ch) : State :=
  let w := s.working c
  if w = .off ∨ w = .limiting ∨ (s.ch c).member then s
  else
    let s1 := if (s.ch c).work = .off then s.updCh c fun k => { k with was := (.limiting, s.clock) }
      else (s.updCh c fun k => { k with from_ := k.work, work := .limiting, limAt := s.clock,
                                        dwellAt := if k.inrush then none else some s.clock }).strokeLimited c
    (s1.chEvt c 2).urgent c 2
/-- Whether a current of i mA in one switch is at its limit of lim mA, which is accurate to 7 % and 20 mA (R76, log entry 157). -/
def atLimit (i : Int) (lim : Nat) : Bool := decide (93 * (lim : Int) ≤ 100 * i + 2000)
/-- LIMIT_REACHED: the current i of a switch, a leg of a pair by itself, has come to its limit (R76, R88). -/
def execLimitReached (i : LegCurrent) (s : State) : Host.Outcome State Fault Refusal :=
  onDie (grpOf i.c) (fun s => if atLimit i.ma (s.legLimit (s.headOf i.c)) then s.limitIn (s.headOf i.c) else s) s
/-- Back to the state that Limiting was entered from, or On if its window has ended meanwhile (Table 4.6). -/
def State.limitOut (s : State) (c : Ch) : State :=
  if (s.ch c).work = .limiting then
    s.updCh c fun k => { k with work := if k.from_ = .inrush ∧ !k.inrush then .on else k.from_, dwellAt := none }
  else s
/-- LIMITING_LEFT: the current, of a pair the larger of its two, has stayed 5 % below the limit for 10 us (R78); the limit is
accurate to 7 % and 20 mA (R76). -/
def execLimitingLeft (i : LegCurrent) (s : State) : Host.Outcome State Fault Refusal :=
  onDie (grpOf i.c) (fun s =>
    if decide (10000 * i.ma ≤ 95 * (107 * (s.legLimit i.c : Int) + 2000)) && s.passed (grpOf i.c) (s.ch i.c).limAt 10000 then s.limitOut i.c
    else s) s
/-- OUT_FUSE.LIMIT_DWELL in ns; 0 acts as 1 (Table 4.15). -/
def State.dwellNs (s : State) (c : Ch) : Nat := max 1 (s.dreg (F.OUT_FUSE_LIMIT_DWELL c)) * 20000
/-- Whether a channel is in Limiting, in the off-phases of a run too, or was until a cause of the same tick (R78, R92). -/
def State.limiting (s : State) (c : Ch) : Bool := (s.ch c).work == .limiting || s.working c == .limiting
/-- LIMIT_DWELL_EXPIRY: Limiting outside the inrush window for LIMIT_DWELL (R78). -/
def execLimitDwellExpiry (c : Ch) (s : State) : Host.Outcome State Fault Refusal :=
  onDie (grpOf c) (fun s => match (s.ch c).dwellAt with
    | none => s
    | some t => if s.limiting c && s.passed (grpOf c) t (s.dwellNs c) then s.enterFuse c true else s) s
/-- INRUSH_WINDOW_END: the window has run; a current i of a switch at the lower limit then keeps or brings the channel into Limiting,
and the dwell begins (R77, R78, Table 4.6). -/
def State.inrushEnd (s : State) (c : Ch) (i : Int) : State :=
  let s1 := s.updCh c fun k =>
    { k with inrush := false, work := if k.work = .inrush then .on else k.work, olAt := some s.clock,
             dwellAt := if k.work = .limiting then some s.clock else k.dwellAt }
  if atLimit i (s1.legLimit c) then s1.limitIn c else s1
def execInrushWindowEnd (c : Ch) (i : Int) (s : State) : Host.Outcome State Fault Refusal :=
  onDie (grpOf c) (fun s =>
    if (s.ch c).inrush && s.passed (grpOf c) (s.ch c).inrushAt (inrushWindow (s.dreg (F.OUT_LIMIT_INRUSH_WINDOW c)) * 100000) then
      s.inrushEnd c i
    else s) s

/-! ### The 100 us means -/

/-- The permitted continuous current of the wire with its derating, in mA (R81, R426). -/
def State.ip (s : State) (c : Ch) : Rat :=
  (wireIp (s.dreg (F.OUT_FUSE_WIRE_CLASS c)) : Rat) * (256 - reduceOf (s.dreg (F.GRP_AGE_REDUCE (grpOf c) (chN c)))) / 256
/-- The fuse model after 100 us at a mean current of i mA (R79). -/
def State.thetaNext (s : State) (c : Ch) (i : Int) : Rat :=
  let w := s.dreg (F.OUT_FUSE_WIRE_CLASS c)
  (s.ch c).theta + ((wireDt w : Rat) * ((i : Rat) / s.ip c) ^ 2 - (s.ch c).theta) * (1 / (10 * (wireTau w : Rat)))
/-- The clamp bucket after 100 us: refilled between clamp events, of either switch of a pair (R85, R88). -/
def State.levelNext (s : State) (c : Ch) : Rat :=
  let p := s.pairHead c
  if (s.legs c).any fun x => (s.ch x).clamping then (s.ch c).level
  else min (clampCap (s.dreg (F.OUT_CLAMP_CAPACITY c)) p : Rat) ((s.ch c).level + (clampDrain (s.dreg (F.OUT_CLAMP_DRAIN c)) p : Rat) / 10000)
/-- OL_THRESH in mA, in PWM times the duty (R96). -/
def State.olLimit (s : State) (c : Ch) : Rat :=
  let th := s.dreg (F.OUT_CFG_OL_THRESH c) * 5
  match (s.ch c).run with | some r => (th : Rat) * r.duty / 65536 | none => th
/-- The on-state open-load check of a mean (R96). -/
def State.openLoadOn (s : State) (c : Ch) (i : Int) : State :=
  let k := s.ch c
  if s.dreg (F.OUT_CFG_OL_THRESH c) = 0 || !k.olOn || s.suspended c || !(k.work == .on || k.work == .pwm) then s
  else if (i : Rat) < s.olLimit c then s.diagSet c (F.OUT_DIAG_OL_ON c)
  else if s.olLimit c + 5 ≤ (i : Rat) then s.diagClear (F.OUT_DIAG_OL_ON c) else s
/-- The instant since which every mean has asked for something, as a mean says whether it does (R167, R174, R184). -/
def since (asks : Bool) (was : Option Nat) (now : Nat) : Option Nat := if asks then some (was.getD now) else none
/-- The loop and mismatch checks and the wire-break check take a mean: while a check runs, the instant is kept since which every mean
has stood where its flag would change (R167, R174, R184). -/
def State.checkMeans (s : State) (c : Ch) : State :=
  let now := s.clock
  s.updCh c fun k => { k with
    lowAt := since (s.loopRuns c false && s.loopAsks c false) k.lowAt now
    highAt := since (s.loopRuns c true && s.loopAsks c true) k.highAt now
    misAt := since (s.misRuns c && s.misAsks c) k.misAt now
    wbAt := since (s.wbRuns c && s.wbAsks c) k.wbAt now }
/-- Whether the switches of an on pair differ by more than 30 % of their sum, by their 100 us means (R89). -/
def State.imbalanced (s : State) (h : Ch) : Bool :=
  let a := (s.ch h).cur
  let b := (s.ch (chSucc h)).cur
  s.pairHead h && (s.ch h).sw && decide (3 * (a + b).natAbs < 10 * (a - b).natAbs)
/-- A mean of either switch keeps the instant since which the pair has been out of balance (R89). -/
def State.imbMean (s : State) (c : Ch) : State :=
  s.updCh (s.headOf c) fun k => { k with imbAt := since (s.imbalanced (s.headOf c)) k.imbAt s.clock }
/-- MEAN_100US: the 100 us mean i of the switch current and the last 10 us mean i10, Tj, for AN_MEAS the terminal current in uA and
voltage in mV, which stay within their ranges, and whether the active clamp conducts (R75, R79, R85, R190). -/
def State.mean (s : State) (c : Ch) (i i10 tj ua mv : Int) (clamp : Bool) : State :=
  let s1 := ((s.updCh c fun k => { k with cur := i, cur10 := i10, cur10At := s.clock, tj := tj, clamping := clamp }).setDie (F.AN_MEAS_CURRENT c)
    (min 65535 ua.toNat)).setDie (F.AN_MEAS_VOLT c) (min 30000 mv.toNat)
  let sum : Int := if s1.pairHead c then i + (s1.ch (chSucc c)).cur else i
  let th := s1.thetaNext c sum
  let s2 := s1.updCh c fun k => { k with theta := th, level := s1.levelNext c }
  let s3 := if !(s2.ch c).member && decide (2 * (wireDt (s2.dreg (F.OUT_FUSE_WIRE_CLASS c)) : Rat) ≤ th) then s2.enterFuse c false else s2
  (((s3.openLoadOn c sum).openFollow c).checkMeans c).imbMean c
def execMean100us (c : Ch) (i : MeanCurrent) (tj ua mv : Int) (s : State) : Host.Outcome State Fault Refusal :=
  onDie (grpOf c) (fun s => s.mean c i.us100 i.us10 tj ua mv i.clamp) s
/-- OL_WINDOW_EXPIRY: OL_WINDOW after the end of the inrush window, or after the crossing without one, the on-state check begins; 0
acts as 1 (R96). -/
def execOlWindowExpiry (c : Ch) (s : State) : Host.Outcome State Fault Refusal :=
  onDie (grpOf c) (fun s => match (s.ch c).olAt with
    | none => s
    | some t =>
      if s.passed (grpOf c) t (max 1 (s.dreg (F.OUT_CFG_OL_WINDOW c)) * 100000) then s.updCh c fun k => { k with olOn := true, olAt := none }
      else s) s

/-! ### Temperature and clamp -/

/-- Whether both switches of a pair, or the one of a channel, are below a temperature (R82, R88). -/
def State.allBelow (s : State) (c : Ch) (t : Int) : Bool := (s.legs c).all fun x => decide ((s.ch x).tj < t)
/-- THERM_WARN: set at 150 °C, cleared below 145 °C, of both switches of a pair (R82). -/
def execThermWarn (c : Ch) (tj : Int) (s : State) : Host.Outcome State Fault Refusal :=
  onDie (grpOf c) (fun s =>
    let s1 := s.updCh c fun k => { k with tj := tj }
    let h := s1.headOf c
    if 1200 ≤ tj then s1.diagSet h (F.OUT_DIAG_THERM_WARN h)
    else if s1.allBelow h 1160 then s1.diagClear (F.OUT_DIAG_THERM_WARN h) else s1) s
/-- THERMAL_OFF: either switch of a pair turns both off (R82, R88). -/
def execThermalOff (c : Ch) (tj : Int) (s : State) : Host.Outcome State Fault Refusal :=
  onDie (grpOf c) (fun s =>
    let s1 := s.updCh c fun k => { k with tj := tj }
    if 1360 ≤ tj ∧ switchMode (s.ch c).mode then s1.enterThermal (s.headOf c) else s1) s
/-- THERMAL_RETURN: below 155 °C, of both switches of a pair (R82). -/
def execThermalReturn (c : Ch) (tj : Int) (s : State) : Host.Outcome State Fault Refusal :=
  onDie (grpOf c) (fun s =>
    let s1 := s.updCh c fun k => { k with tj := tj }
    let h := s1.headOf c
    if (s1.latches h).2.1 && s1.allBelow h 1240 then
      ((s1.legs h).foldl (fun s x => s.updCh x fun k => { k with latTherm := false }) s1).resume h
    else s1) s
/-- A clamp event of energy e at its end, into the bucket of the channel or its pair; the clamps of a pair's two switches take one
turn-off together (R84 to R88). -/
def State.clampEnd (s : State) (c : Ch) (e : Nat) : State :=
  let h := s.headOf c
  let lv : Rat := max (-80) ((s.ch h).level - (e : Rat) / 10)
  let sum := if s.pairHead h then (s.ch h).evE + e else e
  let s0 := s.updCh c fun k => { k with clamping := false, clampEv := false }
  let s1 := ((s0.updCh h fun k => { k with level := lv, evE := sum }).setDie (F.OUT_BUCKET_LAST_EVENT h) (min e 0xFFFF)).evt (grpOf c)
    (.clampE (chN c) e)
  let s2 := if lv ≤ 0 then s1.enterClamp h else s1
  if (if s.pairHead h then 1600 else 800) < sum then s2.enterFault h 1 else s2
/-- CLAMP_EVENT_END. A clamp that is disarmed makes no event, but the one that the disarm cut short has its end (R84, R308). -/
def execClampEventEnd (c : Ch) (e : Nat) (s : State) : Host.Outcome State Fault Refusal :=
  onDie (grpOf c) (fun s => if (s.ch c).clampOff && !(s.ch c).clampEv then s else s.clampEnd c e) s
/-- PAIR_IMBALANCE: the currents of an on pair, by the 100 us means of its switches, have differed by more than 30 % of their sum for 1 ms
(R89, log entry 174). -/
def execPairImbalance (c : Ch) (s : State) : Host.Outcome State Fault Refusal :=
  onDie (grpOf c) (fun s => match (s.ch c).imbAt with
    | none => s
    | some t => if s.imbalanced c && s.passed (grpOf c) t 1000000 then s.diagSet c (F.OUT_DIAG_PAIR_IMBAL c) else s) s

/-! ### Crossings -/

/-- The state after the crossing of a turn-on at an instant of the clock: PWM in a run, Inrush while its window runs, else On; with no
window the open-load delay begins (Table 4.6, R96). -/
def crossed (now : Nat) (k : Chan) : Chan :=
  let w : Work := if k.run.isSome then .pwm else if k.inrush then .inrush else .on
  { k with work := if k.work = .turning then w else k.work, from_ := if k.work = .limiting ∧ k.from_ = .turning then w else k.from_
           olAt := if k.inrush ∨ k.olOn ∨ k.olAt.isSome then k.olAt else some now }
/-- The crossing instant in machine time, from the gate instant and the delay as it is measured, on 4 ns (R123). -/
def State.crossAt (s : State) (c : Ch) (d : Nat) : Nat := (s.ch c).gateT + d / 4 * 4
/-- Whether the off-state check runs (R97, R313). -/
def State.offChecks (s : State) (c : Ch) : Bool :=
  s.switchable c && !(s.ch c).sw && (s.ch c).run.isNone && s.don (F.OUT_CFG_OFFCHK c) && !s.suspended c
/-- The channel of the group of c, not c nor its pair partner, whose turn-on crossing was the last within the 20 us
before now (R99), by the model's clock; of two at one instant the lower number. -/
def State.crossSuspect (s : State) (c : Ch) : Option Ch :=
  (List.finRange 8).foldl (fun (b : Option Ch) j =>
    let k := chOf (grpOf c) j
    if s.headOf k = s.headOf c then b
    else match (s.ch k).onCross, b.bind fun x => (s.ch x).onCross with
      | some t, none => if s.clock ≤ t + 20000 then some k else b
      | some t, some u => if u < t then some k else b
      | none, _ => b) none
/-- A comparator of a channel with no edge of its own under way rises: within 20 us after a neighbour's turn-on crossing the
off-state check names that neighbour (R99). -/
def State.crossDrive (s : State) (c : Ch) : State :=
  if !s.offChecks c then s
  else match s.crossSuspect c with
    | some k => (s.setDie (F.OUT_DIAG_SUSPECT c) k.val).diagSet c (F.OUT_DIAG_CROSS_DRIVE c)
    | none => s
/-- A crossing d ns after the gate edge: the state advances, and an edge to be measured is reported (R91, R123); with no edge under
way it is an external voltage (R99). A stroke window opened by an edge that R123 does not measure takes its t0 from this crossing: the spec
does not say whether it has one (DESIGN CHOICE, log entry 175). -/
def State.crossing (s : State) (c : Ch) (d : Nat) : State :=
  match (s.ch c).edge with
  | none => s.crossDrive c
  | some (dir, meas) =>
    let s1 := s.updCh c fun k =>
      { (if dir then crossed s.clock k else k) with edge := none, onCross := if dir then some s.clock else k.onCross }
    let s2 := if dir then s1.strokeCross c (s.crossAt c d) else s1
    if meas then s2.updDie (grpOf c) fun x => { x with delayQ := x.delayQ ++ [{ n := chN c, dir := dir, delay := d / 4 * 4, lp := (s.ch c).lpE, cross := s.crossAt c d, slot := (s.ch c).edgeOf }] } else s2
def execSenseCrossing (c : Ch) (d : Nat) (s : State) : Host.Outcome State Fault Refusal :=
  onDie (grpOf c) (fun s => if d ≤ 50000 then s.crossing c d else s) s
/-- CROSSING_TIMEOUT: 50 us with no crossing; the state advances and no delay is reported (Table 4.6). -/
def execCrossingTimeout (c : Ch) (s : State) : Host.Outcome State Fault Refusal :=
  onDie (grpOf c) (fun s => match (s.ch c).edge with
    | none => s
    | some (dir, _) =>
      if !s.passed (grpOf c) (s.ch c).edgeAt 50000 then s
      else
        let s1 := s.updCh c fun k => { (if dir then crossed s.clock k else k) with edge := none }
        if dir then s1.strokeNoCross c else s1) s

/-! ### Clears -/

/-- A refused clear is counted and reported (R95). -/
def State.clearRefused (s : State) (c : Ch) : State := s.chEvt c 9
/-- The commanded state of a channel becomes off, in the die and in the image (R95, R102). -/
def State.cmdOff (s : State) (c : Ch) : State :=
  (s.updCh c fun k => { k with cmdOn := false, cmdRun := none, run := none, pulses := [] }).evt (grpOf c) (.cmdOff (chN c))
/-- A clear of a latch at the die: where no leg has it nothing happens; where every leg that has it meets its condition the latches go
and the commanded state becomes off; otherwise it is refused (R88, R95, Table 4.8). -/
def State.clearLatch (s : State) (c : Ch) (has : Chan → Bool) (ok : Ch → Bool) (k : State → Ch → State) : State :=
  let l := (s.legs c).filter fun x => has (s.ch x)
  if l = [] then s else if l.all ok then (l.foldl k s).cmdOff c else s.clearRefused c
/-- OUT_CLEAR.FAULT at the die: i is the switch current, of a pair the larger, and clamp whether a clamp conducts. -/
def State.clearFaultDie (s : State) (c : Ch) (i : Int) (clamp : Bool) : State :=
  s.clearLatch c (fun k => k.latFault != 0) (fun _ => s.allBelow c 1240 && decide (i.natAbs < 20) && !clamp) fun s x =>
    (s.updCh x fun k => { k with latFault := 0, faults := 0 }).setDie (F.OUT_FAULT_CAUSE x) 0
/-- OUT_CLEAR.CLAMP at the die. -/
def State.clearClampDie (s : State) (c : Ch) : State :=
  s.clearLatch c (·.latClamp) (fun x => decide ((s.ch x).level = (clampCap (s.dreg (F.OUT_CLAMP_CAPACITY x)) (s.pairHead x) : Rat))) fun s x =>
    s.updCh x fun k => { k with latClamp := false }
/-- OUT_CLEAR.FUSE at the die. -/
def State.clearFuseDie (s : State) (c : Ch) : State :=
  s.clearLatch c (·.latFuse) (fun x => decide ((s.ch x).theta ≤ (wireDt (s.dreg (F.OUT_FUSE_WIRE_CLASS x)) : Rat))) fun s x =>
    s.updCh x fun k => { k with latFuse := false, dwell := false }
/-- A word written to OUT_CLEAR at the die. -/
def State.clearWord (s : State) (c : Ch) (v : Nat) (i : Int) (clamp : Bool) : State :=
  let s1 := if bit v 2 then s.clearFaultDie c i clamp else s
  let s2 := if bit v 1 then s1.clearClampDie c else s1
  if bit v 0 then s2.clearFuseDie c else s2

/-! ### Diagnostics -/

/-- The result of an off-state cycle: 1 load, 2 open, 3 external voltage (Table 4.9). -/
def offResult (on off : Bool) : Nat := if off then 3 else if on then 2 else 1
/-- Whether a voltage came from channel k at the gate-off of c: the terminal stayed above 50 % of L+, with less than 20 mA of its own, while
the 10 us mean of k rose by more than 25 % and at least 50 mA; k is another channel, and not of the same pair (R99). -/
def State.crossBy (s : State) (c : Ch) (x : CrossSeen) : Bool :=
  x.off.high && decide (x.off.ma < 20) && decide (50 ≤ x.i.2 - x.i.1) && decide (x.i.1.natAbs < 4 * (x.i.2 - x.i.1)) &&
    s.headOf (chOf (grpOf c) x.k) != s.headOf c
/-- A confirmed result; k is what stood at the gate-off beside another channel, if one was suspect. A voltage that rose after a neighbour's
crossing stays cross-drive (R97 to R99). -/
def State.offConfirmed (s : State) (c : Ch) (r : Nat) (k : Option CrossSeen) : State :=
  if r = 1 then ((s.diagClear (F.OUT_DIAG_OL_OFF c)).diagClear (F.OUT_DIAG_SHORT_LPLUS c)).diagClear (F.OUT_DIAG_CROSS_DRIVE c)
  else if r = 2 then (s.diagClear (F.OUT_DIAG_CROSS_DRIVE c)).diagSet c (F.OUT_DIAG_OL_OFF c)
  else match k.filter (s.crossBy c) with
    | some x => (s.setDie (F.OUT_DIAG_SUSPECT c) (chOf (grpOf c) x.k).val).diagSet c (F.OUT_DIAG_CROSS_DRIVE c)
    | none => if s.don (F.OUT_DIAG_CROSS_DRIVE c) then s else s.diagSet c (F.OUT_DIAG_SHORT_LPLUS c)
/-- OFF_CHECK_PHASE: the end of a phase with the test current, then of one without it; two cycles in a row confirm (R97). -/
def execOffCheckPhase (c : Ch) (high : Bool) (k : Option CrossSeen) (s : State) : Host.Outcome State Fault Refusal :=
  onDie (grpOf c) (fun s =>
    if !s.offChecks c then s
    else match (s.ch c).offHigh with
      | none => s.updCh c fun x => { x with offHigh := some high }
      | some on =>
        let r := offResult on high
        let s1 := s.updCh c fun x => { x with offHigh := none, offPrev := r }
        if (s.ch c).offPrev = r then s1.offConfirmed c r k else s1) s
/-- STUCK_ON: 20 us after gate-off still above 50 mA, with the terminal above 50 % of L+ and no clamp conducting (R100). -/
def execStuckOn (c : Ch) (i : GateOffSeen) (s : State) : Host.Outcome State Fault Refusal :=
  onDie (grpOf c) (fun s =>
    if decide (50 < i.ma) && i.high && !i.clamp && !(s.ch c).clamping && !(s.ch c).sw && switchMode (s.ch c).mode &&
        s.passed (grpOf c) (s.ch c).edgeAt 20000 then s.enterFault (s.headOf c) 2
    else s) s
/-- Whether two channels are shown as wired together, each naming the other (R101). -/
def State.wiredPair (s : State) (a b : Ch) : Bool :=
  s.don (F.OUT_DIAG_WIRED a) && s.dreg (F.OUT_DIAG_SUSPECT a) == b.val && s.don (F.OUT_DIAG_WIRED b) && s.dreg (F.OUT_DIAG_SUSPECT b) == a.val
/-- Whether a channel, or a pair at its head, is on, or was until an edge within the last 20 us (R101). -/
def State.onLately (s : State) (c : Ch) : Bool :=
  !(s.ch c).member && switchMode (s.ch c).mode && ((s.ch c).sw || !s.passed (grpOf c) (s.ch c).edgeAt 20000)
/-- WIRED_DETECT: the 10 us mean of j went from the one current to the other, in mA, within 20 us of an edge of k: by more than 25 % and at least 50 mA it is the
signature (R101). -/
def execWiredDetect (g : Grp) (j k : ChN) (i : Int × Int) (s : State) : Host.Outcome State Fault Refusal :=
  onDie g (fun s =>
    let a := chOf g j
    let b := chOf g k
    if decide (50 ≤ (i.2 - i.1).natAbs) && decide (i.1.natAbs < 4 * (i.2 - i.1).natAbs) then
      if (s.ch a).sw && s.onLately a && s.onLately b && a != b then
        (((s.setDie (F.OUT_DIAG_SUSPECT a) b.val).diagSet a (F.OUT_DIAG_WIRED a)).setDie (F.OUT_DIAG_SUSPECT b) a.val).diagSet b
          (F.OUT_DIAG_WIRED b)
      else s
    else if s.wiredPair a b then (s.diagClear (F.OUT_DIAG_WIRED a)).diagClear (F.OUT_DIAG_WIRED b) else s) s

/-! ### The group sum -/

/-- The combined current of a channel by the 10 us means, and its excess over its limit (R102). -/
def State.shedExcess (s : State) (cur : List Nat) (c : Ch) : Int × Int :=
  let p := s.pairHead c
  let i : Int := cur.getD (chN c).val 0 + (if p then cur.getD ((chN c).val + 1) 0 else 0)
  (i, i - curLimit (s.dreg (F.OUT_LIMIT_CUR_LIMIT c)) p)
/-- The first channel of a list with the largest key. -/
def bestBy (f : Ch → Int) : List Ch → Option Ch
  | [] => none
  | x :: t => match bestBy f t with
    | none => some x
    | some y => some (if f y ≤ f x then x else y)
/-- Whether a channel conducts, or did until a cause of the same tick turned it off (R92). -/
def State.conducts (s : State) (c : Ch) : Bool :=
  let k := s.ch c
  k.sw || (k.was.2 == s.clock && k.was.1 != .off && k.edgeAt == s.clock && k.work == .off)
/-- The channel shed (R102). An on channel is one whose switch conducts at the shed: a run in its off-phase is none (DESIGN CHOICE, log entry
176). One that a cause of higher rank has turned off in the tick is shed all the same (R92). -/
def State.shedPick (s : State) (g : Grp) (cur : List Nat) : Option Ch :=
  let on := ((List.finRange 8).map (chOf g)).filter fun c => s.conducts c && !(s.ch c).member
  if on.any fun c => decide (0 < (s.shedExcess cur c).2) then bestBy (fun c => (s.shedExcess cur c).2) on
  else bestBy (fun c => (s.shedExcess cur c).1) on
/-- A channel is shed: off, commanded off, recorded (R102). -/
def State.shedCh (s : State) (c : Ch) : State :=
  let g := grpOf c
  let n := (s.ch c).shedN + 1
  ((((s.forceOff c).updCh c fun k => { k with cmdOn := false, cmdRun := none, run := none, pulses := [], shedN := n }).evt g
    (.shed (chN c) n)).urgent c 7 n).local
    g 0x40 (chN c) 2 (s.protData c 0)
/-- GROUP_SHED: the 10 us means of the channels and of the sum, which has stayed above 6.5 A for 200 us. -/
def execGroupShed (g : Grp) (cur : List Nat) (sum : Nat) (s : State) : Host.Outcome State Fault Refusal :=
  onDie g (fun s =>
    let s1 := ((List.finRange 8).foldl (fun s n => s.updCh (chOf g n) fun k => { k with cur10 := cur.getD n.val 0, cur10At := s.clock }) s).setDie
      (F.GRP_OUT_SUM g) (min sum 0xFFFF)
    if 6500 < sum then (match s1.shedPick g cur with | none => s1 | some c => s1.shedCh c) else s1) s

end Sys2Proof.Machine
end

