-- ==== Sys2Proof/Machine/Timed.lean ====
section
/-! DEFINITION. Timed commands, PWM edges, pulses and reflex actions at the group die (R109, R113, R115, R128 to R130, R231, R234). -/

namespace Sys2Proof.Machine

/-- The channel number and G of a timed command. -/
def DlCmd.timed : DlCmd → Option (ChN × Nat)
  | .edge n _ g => some (n, g)
  | .pulse n g _ _ => some (n, g)
  | .pwmStart n _ _ g _ _ => some (n, g)
  | .pwmStop n _ g _ => some (n, g)
  | .pwmDuty n g _ _ _ => some (n, g)
  | .dac n g _ => some (n, g)
  | _ => none
/-- The kind of a timed command (Table 13.2). -/
def DlCmd.kind : DlCmd → Nat
  | .edge _ true _ => 1 | .edge _ false _ => 2 | .pulse .. => 3 | .pwmStart .. => 4 | .pwmStop .. => 5 | .pwmDuty .. => 6 | .dac .. => 7
  | .action .. => 8 | .write .. => 9 | .rule .. => 10 | .time .. => 11 | .step .. => 12 | .control .. => 13 | .iol .. => 14
/-- Whether a timed command makes a gate edge (R115). -/
def DlCmd.makesEdge (x : DlCmd) : Bool := decide (1 ≤ x.kind) && decide (x.kind ≤ 5)
/-- The same kind, channel and G, as far as its field goes (R275). -/
def sameTimed (a b : DlCmd) : Bool := a.kind == b.kind && a.timed.map (fun p => (p.1, p.2 / 4)) == b.timed.map fun p => (p.1, p.2 / 4)
/-- The T of a held command's slot, which orders the actions of a channel; its G when it has no slot (R115). -/
def Held.t (h : Held) : Nat := match h.info with | some x => x.t / 4 * 4 | none => h.gate
/-- The order of two held actions: ascending T, then entry order (R115). -/
def Held.before (a b : Held) : Bool :=
  decide (a.t < b.t) || (a.t == b.t && decide ((a.info.map (·.order)).getD 0 ≤ (b.info.map (·.order)).getD 0))
/-- Whether a held command makes an edge on channel n. -/
def Held.edgeOf (h : Held) (n : ChN) : Bool := h.cmd.makesEdge && h.cmd.timed.map (·.1) == some n
/-- An edge that stands on a channel: its terminal and its gate instant, whether it stays where it is, and whose it is: twice the place of
its command among those of the channel, one more for the off-edge of a PULSE (R115). -/
abbrev EdgeAt := Nat × Nat × Bool × Nat
/-- The edges of a held command: terminal and gate instants (R115). -/
def Held.edges (h : Held) : List (Nat × Nat) :=
  match h.cmd with
  | .pulse _ _ w _ => [(h.t, h.gate), (h.t + w, h.gateOff)]
  | _ => [(h.t, h.gate)]
/-- A gate instant that does not come before those of edges with an earlier T: it is placed 4 ns after the last of them (R115). -/
def placeGate (prior : List (Nat × Nat)) (t g : Nat) : Nat :=
  let lim := (prior.filter fun e => e.1 < t).foldl (fun a e => max a e.2) 0
  if g < lim then lim + 4 else g
/-- The gate instant of a held command's first edge as it came; of one that came late, as it stands (R113). -/
def Held.natural (h : Held) : Nat := if h.late then h.gate else (h.cmd.timed.map (·.2)).getD h.gate
/-- The edges of the i-th held command of a channel, before they are placed; the first of one that came late stays (R113). -/
def Held.edgesAt (i : Nat) (h : Held) : List EdgeAt :=
  (h.t, h.natural, h.late, 2 * i) :: match h.cmd with | .pulse _ _ w off => [(h.t + w, off, false, 2 * i + 1)] | _ => []
/-- The gate instants of edges in ascending T, each placed after those before it, by whose they are (R115). -/
def placeEdges : List (Nat × Nat) → List EdgeAt → List (Nat × Nat)
  | _, [] => []
  | prior, (t, g, stay, key) :: l =>
    let p := if stay then g else placeGate prior t g
    (key, p) :: placeEdges (prior ++ [(t, p)]) l
/-- The edges of channel n of a group stand anew, the off-edges of pulses among them: each command whose first edge is now placed after another
is reported (R115, log entry 179). -/
def State.placeHeld (s : State) (g : Grp) (n : ChN) : State :=
  let k := s.ch (chOf g n)
  let mine := sortBy Held.before ((s.dieOf g).held.filter (·.edgeOf n))
  let all := mine.zipIdx.flatMap (fun p => p.1.edgesAt p.2) ++ k.pulses.zipIdx.map fun p => (p.1.1, p.1.2, false, 2 * (mine.length + p.2) + 1)
  let placed := placeEdges [(k.lastT, k.lastG)] (sortBy (fun a b => decide (a.1 ≤ b.1)) all)
  let at_ := fun (key old : Nat) => (placed.lookup key).getD old
  let now := mine.zipIdx.map fun p =>
    { p.1 with gate := at_ (2 * p.2) p.1.gate, gateOff := at_ (2 * p.2 + 1) p.1.gateOff
               adj := p.1.adj || at_ (2 * p.2) p.1.gate != (p.1.cmd.timed.map (·.2)).getD p.1.gate }
  let s1 := (s.updDie g fun d => { d with held := (d.held.filter fun h => !h.edgeOf n) ++ now }).updCh (chOf g n) fun k =>
    { k with pulses := k.pulses.zipIdx.map fun p => (p.1.1, at_ (2 * (mine.length + p.2) + 1) p.1.2) }
  (now.filter fun h => h.adj && !(mine.any fun x => x.adj && x.cmd == h.cmd)).foldl (fun s h => s.evt g (.orderAdj h.info h.gate)) s1
/-- A command is held; at or after its gate instant it is late (R113). -/
def State.holdLate (s : State) (g : Grp) (h : Held) : State :=
  let late := decide (h.gate ≤ s.dieNow g)
  let s1 := match h.info with | some i => if late then s.evt g (.late i (s.dieNow g - h.gate)) else s | none => s
  s1.updDie g fun d => { d with held := d.held ++ [{ h with late := late }] }
/-- Of the actions of channel n with one T the last in entry order alone makes an edge; each other is superseded and reported (R115).
What is superseded is remembered for the repeat test. -/
def State.supersede (s : State) (g : Grp) (h : Held) (n : ChN) : State :=
  let same := (s.dieOf g).held.filter fun x => x.edgeOf n && h.edgeOf n && x.t == h.t && x.info.isSome && h.info.isSome
  let gone := if same.any fun x => !x.before h then [h] else same
  gone.foldl (fun s _ => s.evt g .coincident) (s.updDie g fun d =>
    { d with held := d.held.filter fun x => !(gone.contains x), recents := d.recents ++ gone.map fun x => (s.dieNow g, x.cmd) })
/-- Whether an action of the same T that came later in entry order stands. -/
def State.outdone (s : State) (g : Grp) (h : Held) (n : ChN) : Bool :=
  (s.dieOf g).held.any fun x => x.edgeOf n && h.edgeOf n && x.t == h.t && x.info.isSome && h.info.isSome && !x.before h
/-- The gate instant of a command's second edge. -/
def DlCmd.offGate : DlCmd → Nat
  | .pulse _ _ _ off => off
  | _ => 0
/-- The delays of a PWM_START or a PWM_DUTY are kept from its receipt, whatever becomes of it (R130). -/
def State.keepDelays (s : State) (c : Ch) : DlCmd → State
  | .pwmStart _ _ _ _ a b => s.updCh c fun k => { k with dOn := a, dOff := b }
  | .pwmDuty _ _ _ a b => s.updCh c fun k => { k with dOn := a, dOff := b }
  | _ => s
/-- A timed command is taken: a repeat is discarded; of the actions with equal T the last in entry order stands; edges keep the order
of their T; one at or after its gate instant is late (R113, R115, R275). One that comes ahead of the STEP of its epoch is judged with that
(R246). -/
def State.acceptAt (s0 : State) (g : Grp) (x : DlCmd) (i : Option SlotInfo) (n : ChN) (gi : Nat) (epoch : Bool) : State :=
  let d := s0.dieOf g
  if d.held.any (fun h => sameTimed h.cmd x) || d.recents.any (fun r => sameTimed r.2 x && decide (s0.dieNow g < r.1 + 8000)) then s0
  else
    let s := s0.keepDelays (chOf g n) x
    let h : Held := { cmd := x, info := i, late := false, gate := gi, gateOff := x.offGate, epoch := epoch, early := epoch != d.epoch }
    let s1 := s.supersede g h n
    if s.outdone g h n then s1
    else if h.early then
      let s2 := s1.updDie g fun d => { d with held := d.held ++ [h] }
      if x.makesEdge then s2.placeHeld g n else s2
    else if !x.makesEdge then s1.holdLate g h
    else
      let k := s1.ch (chOf g n)
      let prior := ((k.lastT, k.lastG) :: k.pulses) ++ ((s1.dieOf g).held.filter (·.edgeOf n)).flatMap Held.edges
      let late := decide (placeGate prior h.t gi ≤ s.dieNow g)
      (if late then s1.holdLate g { h with gate := placeGate prior h.t gi } else s1.updDie g fun d => { d with held := d.held ++ [h] }).placeHeld
        g n
/-- A timed command is taken where it names a channel and an instant. -/
def State.acceptTimed (s : State) (g : Grp) (x : DlCmd) (i : Option SlotInfo) (epoch : Bool) : State :=
  match x.timed with
  | none => s
  | some (n, gi) => s.acceptAt g x i n gi epoch

/-- A discard by mode is reported (R63, R231). -/
def State.discardAt (s : State) (c : Ch) (fold : Bool) : State := s.evt (grpOf c) (.discard (some (chN c)) fold)
/-- T of a PWM_START or a PWM_DUTY: its slot's, or what its G and D_on give. -/
def Held.runT (h : Held) : Nat :=
  match h.info, h.cmd with
  | none, .pwmStart _ _ _ g a _ => g + a
  | none, .pwmDuty _ g _ a _ => g + a
  | _, _ => h.t
/-- A held command is carried out at gate instant t (R109, R129, R130). A PWM_DUTY that comes while another waits for its T takes the
other's place: the spec does not say what becomes of it (log entry 151). -/
def State.runTimed (s : State) (c : Ch) (h : Held) (t : Nat) : State :=
  let acc := s.switchable c
  let pwm := acc && (s.ch c).mode != 9
  match h.cmd with
  | .edge _ on _ => if acc then s.cmdSwitch c on t true else s.discardAt c true
  | .pulse _ _ w _ => if acc then (s.cmdSwitch c true t true).addPulse c (h.t + w) h.gateOff else s.discardAt c true
  | .pwmStart _ p duty _ _ _ => if pwm then s.cmdRunStart c p duty h.runT t true else s.discardAt c true
  | .pwmStop _ on _ _ => if pwm then s.cmdSwitch c on t true else s.discardAt c true
  | .pwmDuty _ _ duty _ _ =>
    if !pwm then s.discardAt c true
    else if (s.ch c).run.isSome && s.free11 c then
      s.updCh c fun k => { k with run := k.run.map fun r => { r with pend := some (h.runT, duty, h.info.map (·.order)) },
                                  cmdRun := k.cmdRun.map fun p => (p.1, some duty) }
    else s
  | .dac _ _ code => if dacMode (s.ch c).mode && (s.ch c).park.isNone then s.dacAction c code else s.discardAt c true
  | _ => s
/-- What is done for a slot: a gate edge that it makes is the slot's. -/
def State.forSlot (s : State) (c : Ch) (slot : Option Nat) (k : State → State) : State :=
  (k (s.updCh c fun x => { x with acting := slot })).updCh c fun x => { x with acting := none }
/-- The off-edges of pulses that a test picks, in the order of their gate instants: each commands off (R109, R496). -/
def State.pulsesTo (s : State) (c : Ch) (p : Nat × Nat → Bool) : State :=
  let due := sortBy (fun a b => a.2 ≤ b.2) ((s.ch c).pulses.filter p)
  due.foldl (fun s p =>
    let s1 := s.updCh c fun k => { k with pulses := k.pulses.erase p, lastT := p.1, lastG := p.2 }
    if s1.switchable c then s1.cmdSwitch c false p.2 true else s1) s
/-- A held command is carried out and remembered for the repeat test, after the off-edges of pulses that stand before it; one that falls in the
MCLKx period of a reflex action that was carried out is superseded by it (R115, R234). -/
def State.runHeld (s : State) (c : Ch) (h : Held) : State :=
  let g := grpOf c
  let now := s.dieNow g
  let t := if h.late then now else h.gate
  let s1 := (s.updDie g fun d => { d with held := d.held.erase h, recents := (d.recents.filter fun r => decide (now < r.1 + 8000)) ++ [(now, h.cmd)] }).pulsesTo
    c fun p => decide (p.2 < t) || (p.2 == t && decide (p.1 ≤ h.t))
  let s2 := if h.cmd.makesEdge then s1.updCh c fun k => { k with lastT := h.t, lastG := t } else s1
  if h.cmd.kind ≤ 6 ∧ (s.ch c).rfxAt = some (t / 40) then s2.evt g .coincident
  else s2.forSlot c (h.info.map (·.order)) fun s => s.runTimed c h t
/-- The held commands of a channel whose gate instants have come by an instant, in the order of their T. -/
def Die.dueHeld (d : Die) (t : Nat) (n : ChN) : List Held :=
  sortBy Held.before (d.held.filter fun h => h.cmd.timed.map (·.1) == some n && !h.early && decide (h.gate ≤ t))
/-- The commands of a list up to the first of a kind; none when there is no such. -/
def upTo (kind : Nat) : List Held → List Held
  | [] => []
  | h :: l => if h.cmd.kind = kind then [h] else if l.any (fun x => x.cmd.kind == kind) then h :: upTo kind l else []
/-- A timed command of one kind at its gate instant, after those of the channel with an earlier T; a die whose MCLKx is not locked keeps
no machine time (R115, R249). -/
def State.timedAt (s : State) (c : Ch) (k : Nat) : State :=
  if !(s.dieOf (grpOf c)).timed then s
  else (upTo k ((s.dieOf (grpOf c)).dueHeld (s.at c) (chN c))).foldl (fun s h => s.runHeld c h) s
/-- TIMED_ON. -/
def execTimedOn (c : Ch) (s : State) : Host.Outcome State Fault Refusal := onDie (grpOf c) (fun s => s.timedAt c 1) s
/-- TIMED_OFF. -/
def execTimedOff (c : Ch) (s : State) : Host.Outcome State Fault Refusal := onDie (grpOf c) (fun s => s.timedAt c 2) s
/-- TIMED_PULSE. -/
def execTimedPulse (c : Ch) (s : State) : Host.Outcome State Fault Refusal := onDie (grpOf c) (fun s => s.timedAt c 3) s
/-- TIMED_PWM_START. -/
def execTimedPwmStart (c : Ch) (s : State) : Host.Outcome State Fault Refusal := onDie (grpOf c) (fun s => s.timedAt c 4) s
/-- TIMED_PWM_STOP. -/
def execTimedPwmStop (c : Ch) (s : State) : Host.Outcome State Fault Refusal := onDie (grpOf c) (fun s => s.timedAt c 5) s
/-- TIMED_PWM_DUTY. -/
def execTimedPwmDuty (c : Ch) (s : State) : Host.Outcome State Fault Refusal := onDie (grpOf c) (fun s => s.timedAt c 6) s
/-- TIMED_DAC. -/
def execTimedDac (c : Ch) (s : State) : Host.Outcome State Fault Refusal := onDie (grpOf c) (fun s => s.timedAt c 7) s
/-- PULSE_END: the off-edge of a PULSE whose instant has come, after the held commands that stand before it; it commands off (R109, R115,
R496). -/
def State.pulseOff (s : State) (c : Ch) : State :=
  let now := s.at c
  let before := if (s.dieOf (grpOf c)).timed then ((s.dieOf (grpOf c)).dueHeld now (chN c)).filter fun h =>
      (s.ch c).pulses.any fun p => decide (p.2 ≤ now) && (decide (h.gate < p.2) || (h.gate == p.2 && decide (h.t < p.1)))
    else []
  (before.foldl (fun s h => s.runHeld c h) s).pulsesTo c fun p => decide (p.2 ≤ now)
def execPulseEnd (c : Ch) (s : State) : Host.Outcome State Fault Refusal := onDie (grpOf c) (fun s => s.pulseOff c) s

/-! ### PWM edges -/

/-- At a period start of the grid, changed preset registers and a PWM_DUTY whose T has come take effect (R130). -/
def State.adopt (s : State) (c : Ch) (r : Run) (t : Rat) : Run :=
  let own := match r.pend with | some (a, d, _) => if (a : Rat) ≤ t then some d else r.own | none => r.own
  let pend := match r.pend with | some (a, _) => if (a : Rat) ≤ t then none else r.pend | none => none
  { r with own := own, pend := pend, duty := own.getD (s.runDuty c r.preset), period := s.runPeriod c r.preset,
           origin := if r.led then s.runPhase c r.preset else r.origin }
/-- Whether an off-edge at a terminal instant ends the peak phase of a run (R129). -/
def Run.endsPeak (r : Run) (t : Rat) : Bool :=
  match r.peak with | some (p, strict) => if strict then decide ((p : Rat) < t) else decide ((p : Rat) ≤ t) | none => true
/-- The slot of a PWM_DUTY that takes effect at a period start. -/
def Run.dutySlot (r : Run) (t : Rat) : Option Nat := match r.pend with | some (a, _, o) => if (a : Rat) ≤ t then o else none | none => none
/-- A run's off-edge at terminal instant x and gate instant t, none within the peak phase; measured as the 16th, 32nd and so on (R123). A
channel in Limiting stays there until its current has stayed below the limit (R78, Table 4.6). -/
def State.runOff (s : State) (c : Ch) (r : Run) (x : Rat) (t : Nat) : State :=
  let r1 := { r with next := r.nextEdge x }
  if !r.endsPeak x then s.updCh c fun k => { k with run := some r1 }
  else if (s.ch c).sw then
    (s.gateOff c t ((r.offCnt + 1) % 16 == 0)).updCh c fun k =>
      { k with work := if k.work = .limiting then .limiting else .pwm, from_ := .pwm
               run := some { r1 with offCnt := r.offCnt + 1, peak := none } }
  else s.updCh c fun k => { k with run := some { r1 with peak := none } }
/-- A run's period start at terminal instant x and gate instant t: an on-edge, but none in the peak phase (R128). With no on-phase a switch
that is on goes off at the period start, led by the delay of an off-edge: the peak phase of a run whose grid has no off-edge ends so, which
R129 does not settle (DESIGN CHOICE, log entry 180). -/
def State.runOn (s : State) (c : Ch) (r0 : Run) (x : Rat) (t : Nat) : State :=
  let r := s.adopt c r0 x
  let off := r.gate (s.ch c).dOn (s.ch c).dOff (false, x)
  if r.width = 0 then
    (if (s.ch c).sw && decide (s.at c < off) then s.updCh c fun k => { k with run := some { r with next := (false, x) } } else s.runOff c r x off)
  else if r.peak.isSome || (s.ch c).sw then s.updCh c fun k => { k with run := some { r with next := r.nextEdge x } }
  else
    (s.forSlot c (r0.dutySlot x) fun s => s.gateOn c t ((r.onCnt + 1) % 16 == 0)).updCh c fun k =>
      { k with run := some { r with onCnt := r.onCnt + 1, next := r.nextEdge x } }
/-- The PWM_DUTY commands held for a channel whose T has come by a period start are carried out: it is the first that they govern (R130). -/
def State.dutiesTo (s : State) (c : Ch) (x : Rat) : State :=
  let l := (s.dieOf (grpOf c)).held.filter fun h =>
    h.cmd.kind == 6 && h.cmd.timed.map (·.1) == some (chN c) && !h.early && decide ((h.runT : Rat) ≤ x)
  (sortBy Held.before l).foldl (fun s h => s.runHeld c h) s
/-- A period start whose gate instant t has come. -/
def State.runStart (s0 : State) (c : Ch) (t : Nat) (x : Rat) : State :=
  let s := s0.dutiesTo c x
  match (s.ch c).run with
  | none => s
  | some r => s.runOn c r x t
/-- PWM_EDGE: the next grid edge, whose gate instant has come. -/
def State.runEdge (s : State) (c : Ch) : State :=
  match (s.ch c).run with
  | none => s
  | some r =>
    let t := r.gate (s.ch c).dOn (s.ch c).dOff r.next
    if t ≤ s.at c then (if r.next.1 then s.runStart c t r.next.2 else s.runOff c r r.next.2 t) else s
def execPwmEdge (c : Ch) (s : State) : Host.Outcome State Fault Refusal := onDie (grpOf c) (fun s => s.runEdge c) s
/-- A write of TO_CFG at the die: PWM_RUN 1 starts a run when none stands, PWM_RUN 0 ends one, to off (R130). -/
def State.runWritten (s : State) (c : Ch) : State :=
  if !s.switchable c || (s.ch c).mode == 9 then s
  else
    let stands := (s.ch c).run.isSome || (s.ch c).cmdRun.isSome
    if s.don (F.TO_CFG_PWM_RUN c) then
      (if stands then s else s.cmdRunStart c (s.dreg (F.TO_CFG_PWM_PRESET c)) none (s.at c) (s.at c) false)
    else if stands then s.cmdSwitch c false (s.at c) false else s

/-! ### Reflex actions -/

/-- Before a reflex action, the timed commands that fall on its channel in the same MCLKx period are applied, in the order of their T; they
count as superseded, and so do those applied in it before, each once whatever reflex actions follow in the period (R234). -/
def State.coincide (s : State) (c : Ch) : State :=
  let g := grpOf c
  let p := s.mclkPeriod c
  let due := if (s.dieOf g).timed then ((s.dieOf g).dueHeld (40 * p + 39) (chN c)).filter fun h => h.cmd.kind ≤ 6 else []
  let here := due.filter fun h => (if h.late then s.at c else h.gate) / 40 == p
  let done := (s.dieOf g).recents.filter fun r => decide (r.2.kind ≤ 6) && r.2.timed.map (·.1) == some (chN c) && r.1 / 40 == p
  let s1 := (due.foldl (fun s h => s.runHeld c h) s).pulsesTo c fun x => decide (x.2 ≤ 40 * p + 39)
  let n := if (s.ch c).rfxAt = some p then 0 else here.length + done.length
  (List.replicate n ()).foldl (fun s _ => s.evt g .coincident) (s1.updCh c fun k => { k with rfxAt := some p })
/-- The first reflex action that waits on a channel, if it is of a code, is carried out, or discarded by mode: actions take effect in
the order of their arrival (R231, R233, R234). -/
def State.reflexAt (s : State) (c : Ch) (code : Nat) (k : State → Nat → State) (pwm : Bool) : State :=
  match (s.dieOf (grpOf c)).acts.find? (fun a => a.n == chN c) with
  | none => s
  | some a =>
    if a.code ≠ code then s
    else
      let s1 := s.updDie (grpOf c) fun d => { d with acts := d.acts.erase a }
      if s1.switchable c && !(pwm && (s1.ch c).mode == 9) then k (s1.coincide c) a.param else s1.discardAt c false
/-- REFLEX_ON. -/
def execReflexOn (c : Ch) (s : State) : Host.Outcome State Fault Refusal :=
  onDie (grpOf c) (fun s => s.reflexAt c 1 (fun s _ => s.cmdSwitch c true (s.at c) true) false) s
/-- REFLEX_OFF. -/
def execReflexOff (c : Ch) (s : State) : Host.Outcome State Fault Refusal :=
  onDie (grpOf c) (fun s => s.reflexAt c 2 (fun s _ => s.cmdSwitch c false (s.at c) true) false) s
/-- REFLEX_PULSE: off after its width, with no lead. -/
def execReflexPulse (c : Ch) (s : State) : Host.Outcome State Fault Refusal :=
  onDie (grpOf c) (fun s => s.reflexAt c 3 (fun s p => (s.cmdSwitch c true (s.at c) true).addPulse c (s.at c + p / 4 * 4) (s.at c + p / 4 * 4)) false) s
/-- REFLEX_PWM: a run of the named preset at arrival. -/
def execReflexPwm (c : Ch) (s : State) : Host.Outcome State Fault Refusal :=
  onDie (grpOf c) (fun s => s.reflexAt c 4 (fun s p => s.cmdRunStart c (p % 2) none (s.at c) (s.at c) true) true) s

end Sys2Proof.Machine
end

