-- ==== Sys2Proof/Machine/Inputs.lean ====
section
/-! DEFINITION. Digital inputs: the comparator and its glitch filter, qualified edges, timestamps, tallies, the wire-break check
(R148 to R169, R48), and what limp-home makes of a qualified edge (R293). -/

namespace Sys2Proof.Machine

/-- Whether a channel is an IO-Link port in its SIO input state (R260). -/
def State.sioIn (s : State) (c : Ch) : Bool := (s.ch c).mode == 8 && (s.ch c).park.isNone && s.reg (F.IOL_CTRL_STATE c) == 1
/-- The outputs that limp-home switches by a source take its state; a followed change ends the hold of a permit withdrawn
before (R70, R293). -/
def State.followSource (s : State) (c : Ch) : State :=
  ((List.finRange 8).map (chOf (grpOf c))).foldl (fun s o =>
    if s.follows o && decide (s.limpByte o % 8 = (chN c).val) then
      (s.updCh o fun k => { k with permitHeld := k.permitHeld && !s.permit o }).resume o
    else s) s

/-- The switching points of the comparator in mV: THRESH below 10 acts as 10, above 300 as 300, HYST above 100 as 100; where their
difference is below 5, V_off is 0.5 V (R150, Table 7.9). -/
def vOn (thresh : Nat) : Nat := clampN 10 300 thresh * 100
/-- V_off. -/
def vOff (thresh hyst : Nat) : Nat :=
  let d := clampN 10 300 thresh - min hyst 100
  if d < 5 then 500 else d * 100
/-- The comparator's state at a terminal voltage of mv: it changes only past the switching point that applies (R150). The points are
taken at their nominal place (log entry 155); those of a C/Q line in SIO are the IO-Link levels (R260). -/
def State.compAt (s : State) (c : Ch) (mv : Int) : Bool :=
  let on : Nat := if s.inputOn c then vOn (s.dreg (F.IN_CFG_THRESH c)) else 13000
  let off : Nat := if s.inputOn c then vOff (s.dreg (F.IN_CFG_THRESH c)) (s.dreg (F.IN_CFG_HYST c)) else 8000
  if (s.ch c).comp then decide ((off : Int) ≤ mv) else decide ((on : Int) < mv)
/-- F in ns (R152, Table 7.3): COUNT 0 acts as 1, in steps of 10 us above 1000 as 1000; RANGE 3 acts as 2. -/
def filterNs (range count : Nat) : Nat :=
  if range = 0 then max 1 count * 40 else if range = 1 then max 1 count * 1000 else clampN 1 1000 count * 10000
/-- A wait of the glitch filter begins, with the F that stands now (R151). -/
def State.filterStart (s : State) (c : Ch) : State :=
  s.updCh c fun k => { k with crossClk := s.clock, crossF := filterNs (s.dreg (F.IN_FILTER_RANGE c)) (s.dreg (F.IN_FILTER_COUNT c)) }
/-- The whole periods of GCLKx, of 62.5 ns, that F is counted in without MCLKx: at least one (R152). -/
def gclkPeriods (f : Nat) : Nat := max 1 (roundOpen 16 ((f : Rat) * 2 / 125)).toNat
/-- Whether the wait has lasted its F: counted on MCLKx, or in whole periods of GCLKx with its tolerance while MCLKx is not locked (R22,
R152). -/
def State.filterOver (s : State) (c : Ch) : Bool :=
  if (s.dieOf (grpOf c)).timed then decide ((s.ch c).crossClk + (s.ch c).crossF ≤ s.clock)
  else decide (9 * 125 * gclkPeriods (s.ch c).crossF ≤ 20 * (s.clock - (s.ch c).crossClk))
/-- The comparator changes: its wait of F begins, and the instant is registered on the die's machine time if it has one (R151, R157, R158). -/
def State.compTo (s : State) (c : Ch) (up : Bool) : State :=
  (s.updCh c fun k => { k with comp := up, crossT := s.at c / 4 * 4, crossE := (s.dieOf (grpOf c)).epoch
                               crossOk := (s.dieOf (grpOf c)).timed }).filterStart c
/-- Places of a group's event queue (R159). -/
def tsDepth : Nat := 64
/-- Whether TS_EDGE selects an edge (Table 7.9). -/
def tsSelected (code : Nat) (rising : Bool) : Bool := bit code (if rising then 0 else 1)
/-- Whether TALLY_EDGE selects an edge; 0b11 acts as rising. -/
def tallySelected (code : Nat) (rising : Bool) : Bool := code == 2 || (if code = 1 then !rising else rising)
/-- The timestamp of a qualified edge joins the event queue, or is lost: the queue is full, or MCLKx is not locked, or was not at the
comparator's change (R157 to R161). -/
def State.stampEdge (s : State) (c : Ch) (rising : Bool) : State :=
  let g := grpOf c
  if !tsSelected (s.dreg (F.IN_CFG_TS_EDGE c)) rising then s
  else if !(s.dieOf g).timed || !(s.ch c).crossOk || tsDepth ≤ (s.dieOf g).tsQ.length then s.evt g (.tsLost (chN c))
  else s.updDie g fun d => { d with tsQ := d.tsQ ++ [.timestamp (chN c) rising (s.ch c).crossE ((s.ch c).crossT % 2 ^ 34)] }
/-- The edge joins the accumulator, or is lost at 65,535 (R48, R165). -/
def State.tallyEdge (s : State) (c : Ch) (rising : Bool) : State :=
  if !tallySelected (s.dreg (F.IN_CFG_TALLY_EDGE c)) rising then s
  else if (s.ch c).acc = 65535 then s.evt (grpOf c) (.tallyOvf (chN c))
  else s.updCh c fun k => { k with acc := k.acc + 1 }
/-- The edge is reported as an urgent word when the mask that the die holds names its channel (R229). -/
def State.urgentEdge (s : State) (c : Ch) (rising : Bool) : State :=
  if bit (s.dreg (F.GRP_EDGE_URGENT_MASK (grpOf c))) (chN c).val then s.urgent c (if rising then 0 else 1) else s
/-- EDGE_QUALIFIED: the comparator's state has lasted F. The first such state makes the input valid and is no edge (R151, R153). -/
def State.qualify (s : State) (c : Ch) : State :=
  let k := s.ch c
  if !s.inputOn c || !s.filterOver c then s
  else if !k.valid then (s.updCh c fun k => { k with valid := true, qual := k.comp }).followSource c
  else if k.comp == k.qual then s
  else
    let up := k.comp
    (((((s.updCh c fun k => { k with qual := k.comp }).stampEdge c up).tallyEdge c up).urgentEdge c up).followSource c)
/-- COMPARATOR_CHANGE: the terminal stands at mv. A change of the comparator begins its wait of F; one that returned within F is
discarded, one that had lasted F is qualified first, and the discarded one is counted in digital input mode (R151, R169). One that returns
while the state is still invalid discards no qualified change and is not counted: the spec does not say (log entry 154). -/
def State.compare1 (s0 : State) (c : Ch) (mv : Int) : State :=
  let up := s0.compAt c mv
  if !(s0.inputOn c || s0.sioIn c) || (s0.ch c).comp == up then s0
  else
    let s := s0.qualify c
    let s1 := s.compTo c up
    if s.inputOn c && (s.ch c).valid && (s.ch c).qual == up then s1.evt (grpOf c) (.glitch (chN c)) else s1
def execComparatorChange (c : Ch) (mv : Int) (s : State) : Host.Outcome State Fault Refusal :=
  onDie (grpOf c) (fun s => s.compare1 c mv) s
/-- The qualified state becomes invalid, and valid again once the comparator's state has lasted F from here (R153). -/
def State.unqualify (s : State) (c : Ch) (start : Bool) : State :=
  (s.updCh c fun k => { k with valid := false, qual := false, comp := if start then false else k.comp }).filterStart c

/-! ### At the hub die -/

/-- A timestamp was lost (R158, R161). -/
def State.tsLost (s : State) (c : Ch) : State :=
  (((s.tally (F.IN_COUNTS_TS_LOST c)).stick (F.IN_STATUS_TS_LOST c) 1).cause (.ch c) 15).updCh c fun k => { k with tsFlag := true }
/-- The 64-bit instant of a timestamp: on the present scale, or on the scale before the last step, moved by it when it lies at
or after the step (R161, R249). None when it is more than 8 s old. -/
def State.stampInstant (s : State) (epoch : Bool) (t : Nat) : Option Nat :=
  let old := epoch != s.on F.TB_STATUS_EPOCH
  let now : Int := if old then (s.now : Int) - s.hub.last.1 else s.now
  let age := ((now - t) % 2 ^ 34).toNat
  let i := now - age
  if 8000000000 < age then none
  else if old && decide ((s.hub.last.2 : Int) ≤ i) then some (i + s.hub.last.1).toNat else some i.toNat
/-- A timestamp record is extended and delivered; bits [1:0] of its instant are 0 (R157, R159, Table 7.5). -/
def State.timestampIn (s : State) (c : Ch) (rising epoch : Bool) (t : Nat) : State :=
  match s.stampInstant epoch t with
  | none => s.tsLost c
  | some i0 =>
    let i := i0 / 4 * 4
    let s1 := ((((s.wrapTally (F.IN_STATUS_EDGE_SEQ c)).setReg (F.IN_LAST_LO_INSTANT c) (i / 4)).setReg (F.IN_LAST_HI c) (i / 2 ^ 32)).setReg
      (F.IN_LAST_LO_VALID c) 1).setReg (F.IN_LAST_LO_DIR c) (b2n rising)
    let s2 := s1.cause (.ch c) 18
    if s2.on (F.IN_CFG_NOTIFY c) then
      (s2.raise 0x1A i [(12, 1, c.val), (13, 1, b2n rising + 2 * b2n (s2.ch c).tsFlag), (16, 2, s2.reg (F.IN_STATUS_EDGE_SEQ c))]).updCh c
        fun k => { k with tsFlag := false }
    else s2

/-- A transfer accepted adds its count; where IN_TALLY is written in the same tick, the count is added in the next tick (R164). -/
def State.tallyAdd (s : State) (c : Ch) (a : Nat) : State :=
  if s.written (F.IN_TALLY c) then { s with tk := { s.tk with later := (c, a) :: s.tk.later } }
  else { s.wrapTally (F.IN_TALLY c) a with tk := { s.tk with came := (c, a) :: s.tk.came } }
/-- IN_TALLY is about to be written: what was accepted in the same tick before the write is taken back, to be added in the next (R164). -/
def State.tallyBase (s : State) (c : Ch) : State :=
  let mine := s.tk.came.filter fun p => p.1 == c
  let n := (mine.map (·.2)).foldl (· + ·) 0
  { s.setReg (F.IN_TALLY c) (s.reg (F.IN_TALLY c) + 2 ^ 32 - n % 2 ^ 32) with
    tk := { s.tk with later := mine ++ s.tk.later, came := s.tk.came.filter fun p => p.1 != c } }
/-- A tick of CCLK ends: what waited for the next tick is added, and the notes of this one are dropped (R42, R164). -/
def State.tickEnd (s : State) : State :=
  s.tk.later.foldl (fun s p => s.wrapTally (F.IN_TALLY p.1) p.2) { s with tk := {} }
/-- TALLY: the die sends its count A with its toggle T, the same pair until T is acknowledged; the hub die adds A once, when T
is new to it (R48). -/
def State.tallyTransfer (s : State) (c : Ch) (ok : Bool) : State :=
  let k := s.ch c
  if !(s.dieOf (grpOf c)).firstAck || (k.acc = 0 && k.sentA.isNone) || !s.laneFor (grpOf c) 1 4 then s
  else
    let a := k.sentA.getD k.acc
    let s1 := (s.laneTake (grpOf c) 4).updCh c fun k => { k with sentA := some a }
    if ok && s1.upOn (grpOf c) && k.tallyOk != some k.toggle then
      (s1.tallyAdd c a).updCh c fun x => { x with tallyOk := some k.toggle }
    else s1
def execTally (c : Ch) (ok : Bool) (s : State) : Host.Outcome State Fault Refusal := onBoth (grpOf c) (fun s => s.tallyTransfer c ok) s
/-- An acknowledgement of a toggle reaches the die: the count sent leaves the accumulator, and T is inverted (R48). -/
def State.tallyAcked (s : State) (c : Ch) (t : Bool) : State :=
  match (s.ch c).sentA with
  | none => s
  | some a => if (s.ch c).toggle == t then s.updCh c fun k => { k with acc := k.acc - a, toggle := !k.toggle, sentA := none } else s

/-! ### Wire break -/

/-- A wire break is set or cleared at a mean of ua (R167, Table 7.6). -/
def State.wireBreak (s : State) (c : Ch) (on : Bool) (ua : Nat) : State :=
  let g := grpOf c
  let s1 := s.setDie (F.IN_STATUS_WIRE_BREAK c) (b2n on)
  let s2 := if on then s1.chEvt c 17 else s1
  (s2.dieNote g 0x1B [(12, 1, c.val), (13, 1, b2n on), (16, 2, min ua 0xFFFF)]).local g 0x43 (chN c) 1 (b2n on + 2 ^ 8 * min ua 0xFFFF)
/-- WIRE_BREAK_SET: every mean has stood below WB_THRESH x 50 uA for WB_TIME (R167). -/
def execWireBreakSet (g : Grp) (n : ChN) (s : State) : Host.Outcome State Fault Refusal :=
  onDie g (fun s =>
    let c := chOf g n
    if s.wbRuns c && !s.don (F.IN_STATUS_WIRE_BREAK c) && s.spanMs c (s.ch c).wbAt (s.dreg (F.IN_WB_WB_TIME c)) then
      (s.updCh c fun k => { k with wbAt := none }).wireBreak c true (s.dreg (F.AN_MEAS_CURRENT c))
    else s) s
/-- WIRE_BREAK_CLEAR: every mean has stood at or above the threshold and 0.1 mA for 1 ms (R167). -/
def execWireBreakClear (g : Grp) (n : ChN) (s : State) : Host.Outcome State Fault Refusal :=
  onDie g (fun s =>
    let c := chOf g n
    if s.wbRuns c && s.don (F.IN_STATUS_WIRE_BREAK c) && s.spanMs c (s.ch c).wbAt 1 then
      (s.updCh c fun k => { k with wbAt := none }).wireBreak c false (s.dreg (F.AN_MEAS_CURRENT c))
    else s) s
/-- A write of IN_CFG at the die: TYPE selects the sink, and Type 1 has no wire break (R148, R167). -/
def State.inCfgWritten (s : State) (c : Ch) : State :=
  let s1 := s.updCh c fun k => { k with sink := s.inputOn c && s.dreg (F.IN_CFG_TYPE c) != 0 }
  if s.dreg (F.IN_CFG_TYPE c) = 0 then s1.setDie (F.IN_STATUS_WIRE_BREAK c) 0 else s1

end Sys2Proof.Machine
end

