-- ==== Sys2Proof/Machine/Safe.lean ====
section
/-! DEFINITION. The safe state and limp-home of a group at its die, and the loss of its two clocks (R281 to R295, R21, R23). -/

namespace Sys2Proof.Machine

/-- The channels of a group. -/
def chansOf (g : Grp) : List Ch := (List.finRange 8).map (chOf g)
/-- Every channel of a group is brought to what its state asks, outputs and analogue outputs alike. -/
def State.settleAll (s : State) (g : Grp) : State := (chansOf g).foldl (fun s c => (s.settle c).anSettle c) s
/-- The logic of a die stops, or loses its reference: every switch goes off through its pull-down, and nothing that drove it stands
(R311, R445). -/
def State.pullDown (s : State) (g : Grp) : State :=
  (chansOf g).foldl (fun s c => (s.strokeAbort c).updCh c fun k =>
    { k with sw := false, run := none, work := .off, from_ := .off, edge := none, pulses := [], inrush := false, olOn := false, olAt := none }) s
/-- Entry into and exit from the safe state are reported, recorded and committed (R288, R437, Table 21.5). -/
def State.safeReport (s : State) (g : Grp) (on : Bool) (cause : Nat) : State :=
  (s.evt g (.safe on cause)).local g 0x46 0xF (if on then 3 else 0) (b2n on + 2 ^ 8 * cause)
/-- Entry into the safe state: every channel takes its value in one tick (R290). It is no command, so what a permit withdrawn before
holds off stays off (R70). -/
def State.safeEnter (s : State) (g : Grp) (cause : Nat) : State :=
  if (s.dieOf g).safe then s
  else
    let s1 := s.updDie g fun d => { d with safe := true, safeCause := cause, safeAt := s.dieNow g }
    ((s1.settleAll g).safeReport g true cause).beginCommit g
/-- Whether a cause of the safe state holds: an expired watchdog not restarted since, SAFE still sent, or GCLKx lost (R291). -/
def Die.causeHolds (d : Die) : Bool := d.expired || d.forced || !d.gclk
/-- CONTROL RELEASE: the safe state ends when no cause holds; outputs go off with their commanded state, analogue outputs return
to their effective command (R291). -/
def State.safeRelease (s : State) (g : Grp) : State :=
  let d := s.dieOf g
  if !d.safe || d.causeHolds then s
  else
    let s1 := s.updDie g fun d => { d with safe := false, safeCause := 0 }
    let s2 := (chansOf g).foldl (fun s c => if s.switchable c then s.cmdOff c else s) s1
    (s2.settleAll g).safeReport g false d.safeCause
/-- TIME of the link watchdog in ns (Table 13.14). -/
def wdTime (n : Nat) : Nat := min 100000 (max 2 n) * 10000
/-- Whether the watchdog has run for TIME without a restart; where a frame restarted it in this very tick, the expiry holds (R282). -/
def State.wdPassed (s : State) (g : Grp) : Bool :=
  let d := s.dieOf g
  s.passed g (if d.wdAt = s.clock then d.wdOld else d.wdAt) (wdTime (s.dreg (F.GRP_WD_TIME g)))
/-- WATCHDOG_EXPIRY: TIME without a restart, once the watchdog has been started by an END_LOAD (R282, R285). -/
def execWatchdogExpiry (g : Grp) (s : State) : Host.Outcome State Fault Refusal :=
  onDie g (fun s => if (s.dieOf g).intact && s.wdPassed g then (s.updDie g fun d => { d with expired := true }).safeEnter g 1 else s) s
/-- GCLK_LOST: the watchdog on MCLKx finds GCLKx stopped; where MCLKx is lost too the die's logic stops (R290, R445, Table 1.6). -/
def execGclkLost (g : Grp) (s : State) : Host.Outcome State Fault Refusal :=
  onDie g (fun s =>
    if !(s.dieOf g).gclk then s
    else
      let s1 := s.updDie g fun d => { d with gclk := false }
      if (s.dieOf g).timed then s1.safeEnter g 3 else s1.pullDown g) s
/-- GCLK_RETURN: edges for an unbroken 10 us (R291). -/
def execGclkReturn (g : Grp) (s : State) : Host.Outcome State Fault Refusal :=
  .next (if (s.dieOf g).powered && !(s.dieOf g).hold then s.updDie g fun d => { d with gclk := true } else s)

/-- The runs of a group in the safe state go on the grid they now have (R289). -/
def State.regridAll (s : State) (g : Grp) : State :=
  if (s.dieOf g).safe then (chansOf g).foldl (fun s c => s.regrid c (s.dieOf g).safeAt) s else s
/-- MCLK_LOST: the die keeps no machine time, its modulators stop, and it records the loss with the last time held, from which it counts its
records' time on GCLKx; without GCLKx its logic stops (R23, R249, R289, R445, Tables 21.2, 21.5). -/
def execMclkLost (g : Grp) (s : State) : Host.Outcome State Fault Refusal :=
  onDie g (fun s =>
    if !(s.dieOf g).timed then s
    else if (s.dieOf g).gclk then
      ((s.local g 0x4A 0xF 2 0).updDie g fun d => { d with timed := false, gotTime := false, lostAt := some d.gcount }).regridAll g
    else (s.updDie g fun d => { d with timed := false, gotTime := false }).pullDown g) s
/-- MCLK_LOCK: the die counts on MCLKx again; what its copy of machine time stands at is open until the next TIME, a loss of MCLKx having
ended the last (R21, R249, log entry 102). Of what was on its way while it had no clock nothing is taken. -/
def State.mclkLock (s : State) (g : Grp) : State :=
  if (s.dieOf g).timed then s
  else
    let p := (s.updLink g fun l => { l with wire := [], urgWire := [] }).openValue
    (p.2.updDie g fun d => { d with timed := true, time := p.1 * 2 ^ 32 % 2 ^ 96, rate := 0 }).regridAll g
def execMclkLock (g : Grp) (s : State) : Host.Outcome State Fault Refusal :=
  .next (if (s.dieOf g).powered && !(s.dieOf g).hold then s.mclkLock g else s)

/-! ### Limp-home -/

/-- Whether the level that LIMPx has held for 10 ms asserts it: high, or low under ACTIVE_LOW as that now stands (R293). -/
def State.limpOn (s : State) (g : Grp) : Bool := (s.dieOf g).limpLvl != s.don (F.GRP_LIMP_CTRL_ACTIVE_LOW g)
/-- Whether limp-home is permitted at the die and LIMPx has been asserted for 10 ms (R293). -/
def State.limpDue (s : State) (g : Grp) : Bool := s.don (F.GRP_LIMP_CTRL_ENABLE g) && s.don (F.GRP_LOCK g) && s.limpOn g
/-- A change of limp-home is reported and recorded (R294, Table 21.5). -/
def State.limpReport (s : State) (g : Grp) (on : Bool) : State :=
  (s.evt g (.limp on)).local g 0x47 0xF (if on then 3 else 0) (b2n on)
/-- Limp-home begins when its three conditions hold: the followed channels take their sources' states (R293). -/
def State.limpCheck (s : State) (g : Grp) : State :=
  if (s.dieOf g).limp || !s.limpDue g then s
  else
    let s1 := s.updDie g fun d => { d with limp := true }
    let s2 := (chansOf g).foldl (fun s c =>
      if s.follows c then (s.updCh c fun k => { k with permitHeld := k.permitHeld && !s.permit c }).settle c else s) s1
    s2.limpReport g true
/-- LIMPx has gone to a level. -/
def State.limpPinTo (s : State) (g : Grp) (high : Bool) : State :=
  s.updDie g fun d => { d with limpPin := if d.limpPin.1 = high then d.limpPin else (high, s.clock) }
/-- Whether LIMPx can have stood for 10 ms at a level: not when it is known to have come to it later (R293). -/
def State.limpHeld (s : State) (g : Grp) (high : Bool) : Bool :=
  (s.dieOf g).limpPin.1 != high || (s.dieOf g).limpPin.2 = 0 || s.passed g (s.dieOf g).limpPin.2 10000000
/-- A level that LIMPx has held for 10 ms is taken, and limp-home begins or ends by it (R293). -/
def State.limpTake (s : State) (g : Grp) (high : Bool) (k : State → State) : State :=
  if s.limpHeld g high then k ((s.limpPinTo g high).updDie g fun d => { d with limpLvl := high }) else s
/-- LIMP_HOME_BEGIN: LIMPx has gone to its asserted level, high or under ACTIVE_LOW low, or has stood there for 10 ms (R293, R294, log entry
177). -/
def execLimpHomeBegin (e : LimpEdge) (s : State) : Host.Outcome State Fault Refusal :=
  onDie e.g (fun s =>
    let high := !s.don (F.GRP_LIMP_CTRL_ACTIVE_LOW e.g)
    if e.held then s.limpTake e.g high fun s => s.limpCheck e.g else s.limpPinTo e.g high) s
/-- Limp-home ends: each followed output takes its safe-state value in the safe state, and goes off with its commanded state
otherwise (R294). -/
def State.limpEnd (s : State) (g : Grp) : State :=
  if !(s.dieOf g).limp then s
  else
    let fs := (chansOf g).filter fun c => s.follows c
    let s1 := s.updDie g fun d => { d with limp := false }
    (fs.foldl (fun s c => (if (s.dieOf g).safe then s else s.cmdOff c).settle c) s1).limpReport g false
/-- LIMP_HOME_END: LIMPx has gone to its deasserted level, or has stood there for 10 ms. -/
def execLimpHomeEnd (e : LimpEdge) (s : State) : Host.Outcome State Fault Refusal :=
  onDie e.g (fun s =>
    let high := s.don (F.GRP_LIMP_CTRL_ACTIVE_LOW e.g)
    if e.held then s.limpTake e.g high fun s => s.limpEnd e.g else s.limpPinTo e.g high) s

end Sys2Proof.Machine
end

