-- ==== Sys2Proof/Machine/Supply.lean ====
section
/-! DEFINITION. Field supply conditions at the group die (R298 to R315). Voltages of L+ and HOLDx come in units of 0.05 V. -/

namespace Sys2Proof.Machine

/-- What the die shows of its supply: LPX, HOLD, HOLD_READY and the highest L+ seen (R298, R303, R308). -/
def State.supplyRead (s : State) (g : Grp) (lp : Int) (hold : Nat) : State :=
  let peak := (roundOpen 22 (max 0 (lp : Rat) / 10)).toNat
  (((s.setDie (F.GRP_SUP_STATUS_LPX g) (unsgn 12 lp)).setDie (F.GRP_SUP_STATUS_HOLD g) (min 255 (roundOpen 23 ((hold : Rat) / 4)).toNat)).setDie
    (F.GRP_SUP_STATUS_HOLD_READY g) (b2n (decide (((hold : Int) - lp).natAbs ≤ 20)))).setDie (F.GRP_SUP_LAST_PEAK g)
    (max (s.dreg (F.GRP_SUP_LAST_PEAK g)) (min 255 peak))
/-- The class of a supply event (Table 21.5). -/
def supplyClass (e : Nat) : Nat := if e = 3 ∨ e = 5 ∨ e = 7 then 2 else if e = 9 then 3 else if e = 8 then 1 else 0
/-- A supply event: its notification and its local record (R315, Tables 14.4, 21.5). -/
def State.supplyEvent (s : State) (g : Grp) (e : Nat) (lp : Int) (hold : Nat) : State :=
  (s.dieNote g 0x1F [(12, 1, g.val), (13, 1, e), (16, 2, unsgn 16 lp), (18, 2, hold)]).local g 0x45 0xF (supplyClass e)
    (e + 2 ^ 8 * unsgn 16 lp + 2 ^ 24 * (hold % 2 ^ 16))
/-- Whether L+ can drive no output: a lockout or reverse L+ is in force. -/
def Die.locked (d : Die) : Bool := d.uv || d.ov || d.rev
/-- Every driving block of the group turns off at rank 5; commanded states are kept; channels newly held are reported, and the
checks are suspended (R300, R313, Table 13.4). -/
def State.supplyOff (s : State) (g : Grp) (k : Die → Die) : State :=
  let news := (chansOf g).filter fun c => s.switchable c && !s.supplyHeld c
  let s1 := s.updDie g fun d => { k d with suspended := true, rel := [] }
  let s2 := (chansOf g).foldl (fun s c => (s.forceOff c).anSettle c) s1
  news.foldl (fun s c => s.urgent c 8) s2

/-- UV_WARN_SET: below 19.2 V for 100 us (R299). -/
def execUvWarnSet (g : Grp) (lp : Int) (hold : Nat) (s : State) : Host.Outcome State Fault Refusal :=
  onDie g (fun s =>
    let s1 := s.supplyRead g lp hold
    if lp < 384 ∧ !s.don (F.GRP_SUP_STATUS_UV_WARN g) then
      ((s1.setDie (F.GRP_SUP_STATUS_UV_WARN g) 1).evt g (.grpCause 9)).supplyEvent g 1 lp hold
    else s1) s
/-- UV_WARN_CLEAR: above 19.7 V for 1 ms. -/
def execUvWarnClear (g : Grp) (lp : Int) (hold : Nat) (s : State) : Host.Outcome State Fault Refusal :=
  onDie g (fun s =>
    let s1 := s.supplyRead g lp hold
    if 394 < lp ∧ s.don (F.GRP_SUP_STATUS_UV_WARN g) then
      (s1.setDie (F.GRP_SUP_STATUS_UV_WARN g) 0).supplyEvent g 2 lp hold
    else s1) s
/-- UV_LOCKOUT: below 13.0 V for 20 us; in a lockout that another condition has prolonged, L+ has to pass the release threshold again
(R300, R304). -/
def execUvLockout (g : Grp) (lp : Int) (hold : Nat) (s : State) : Host.Outcome State Fault Refusal :=
  onDie g (fun s =>
    let s1 := s.supplyRead g lp hold
    if lp < 260 ∧ s.don (F.GRP_SUP_STATUS_LOCKOUT g) then s1.updDie g fun d => { d with uv := true }
    else if lp < 260 then
      ((((s1.supplyOff g fun d => { d with uv := true }).setDie (F.GRP_SUP_STATUS_LOCKOUT g) 1).evt g (.grpCause 10)).supplyEvent g 3 lp
        hold).beginCommit g
    else s1) s
/-- OV_LOCKOUT: above 33.0 V for 50 us (R308). -/
def execOvLockout (g : Grp) (lp : Int) (hold : Nat) (s : State) : Host.Outcome State Fault Refusal :=
  onDie g (fun s =>
    let s1 := s.supplyRead g lp hold
    if 660 < lp ∧ !(s.dieOf g).ov then
      (((s1.supplyOff g fun d => { d with ov := true }).setDie (F.GRP_SUP_STATUS_OVERVOLTAGE g) 1).evt g (.grpCause 13)).supplyEvent g 5 lp hold
    else s1) s
/-- REVERSE_LPLUS: below -2.0 V for 5 us; L+ then has to pass the release threshold again (R310). -/
def execReverseLplus (g : Grp) (lp : Int) (hold : Nat) (s : State) : Host.Outcome State Fault Refusal :=
  onDie g (fun s =>
    let s1 := s.supplyRead g lp hold
    if lp < -40 ∧ !(s.dieOf g).rev then
      ((((s1.supplyOff g fun d => { d with rev := true, uv := true }).setDie (F.GRP_SUP_STATUS_REVERSE g) 1).evt g (.grpCause 14)).supplyEvent
        g 7 lp hold).beginCommit g
    else s1) s
/-- CLAMP_DISARM: a clamp is disarmed while the overvoltage holds, once its current has fallen below 20 mA (R308). -/
def execClampDisarm (c : Ch) (i : Int) (s : State) : Host.Outcome State Fault Refusal :=
  onDie (grpOf c) (fun s => if (s.dieOf (grpOf c)).ov ∧ i.natAbs < 20 then s.updCh c fun k => { k with clampOff := true, clampEv := true } else s) s

/-- Channels released from now on: each has its own instant, n × 50 us on (R304, R306). -/
def State.releaseList (s : State) (ns : List ChN) : List (ChN × Nat) := ns.map fun n => (n, s.clock)
/-- The release of a lockout by the policy of RESTORE (R304 to R306). Every channel waits for its own instant; under RESTORE 1
the outputs under command go commanded off and wait for the acknowledgement, and so do the analogue blocks. -/
def State.supplyRelease (s : State) (g : Grp) (lp : Int) (hold : Nat) : State :=
  let uv := s.don (F.GRP_SUP_STATUS_LOCKOUT g)
  let s1 := (s.setDie (F.GRP_SUP_STATUS_LOCKOUT g) 0).evt g (.grpCause 11)
  let s2 := if uv then (s1.evt g .rode).supplyEvent g 4 lp hold else s1
  let under := (chansOf g).filter fun c => !s2.follows c && !(s2.dieOf g).safe
  if !s2.don (F.GRP_SUP_CFG_RESTORE g) then s2.updDie g fun d => { d with rel := s.releaseList (List.finRange 8) }
  else
    let s3 := s2.updDie g fun d =>
      { d with wait := under.map chN, rel := s.releaseList ((List.finRange 8).filter fun n => !(under.map chN).contains n), await := true }
    let s4 := under.foldl (fun s c => if s.switchable c then s.cmdOff c else s) s3
    ((s4.setDie (F.GRP_SUP_STATUS_AWAIT_ACK g) 1).evt g (.grpCause 12)).supplyEvent g 8 lp hold
/-- The release happens when no condition is left and L+ stands above 15.0 V; where it does not, it has still to do so for 1 ms (R304,
R308). -/
def State.releaseIf (s : State) (g : Grp) (was : Bool) (lp : Int) (hold : Nat) : State :=
  if !was || (s.dieOf g).locked then s
  else if 300 < lp then s.supplyRelease g lp hold
  else s.updDie g fun d => { d with uv := true }
/-- LOCKOUT_RELEASE: above 15.0 V for 1 ms (R304). -/
def execLockoutRelease (g : Grp) (lp : Int) (hold : Nat) (s : State) : Host.Outcome State Fault Refusal :=
  onDie g (fun s =>
    let s1 := s.supplyRead g lp hold
    if 300 < lp then (s1.updDie g fun d => { d with uv := false }).releaseIf g (s.dieOf g).locked lp hold else s1) s
/-- OV_CLEAR: below 31.0 V for 1 ms; the clamps are armed again (R308). -/
def execOvClear (g : Grp) (lp : Int) (hold : Nat) (s : State) : Host.Outcome State Fault Refusal :=
  onDie g (fun s =>
    let s1 := s.supplyRead g lp hold
    if lp < 620 ∧ (s.dieOf g).ov then
      let s2 := (chansOf g).foldl (fun s c => s.updCh c fun k => { k with clampOff := false }) s1
      ((((s2.updDie g fun d => { d with ov := false }).setDie (F.GRP_SUP_STATUS_OVERVOLTAGE g) 0).supplyEvent g 6 lp hold).releaseIf g true lp hold)
    else s1) s
/-- REVERSE_CLEAR: L+ above 0 V (R298, R310). -/
def execReverseClear (g : Grp) (lp : Int) (hold : Nat) (s : State) : Host.Outcome State Fault Refusal :=
  onDie g (fun s =>
    let s1 := s.supplyRead g lp hold
    if 0 < lp ∧ (s.dieOf g).rev then
      ((s1.updDie g fun d => { d with rev := false }).setDie (F.GRP_SUP_STATUS_REVERSE g) 0).releaseIf g true lp hold
    else s1) s
/-- CHANNEL_RELEASE: the channel's instant after the release or the acknowledgement has come; a channel that another lockout
holds waits for that one (R304, R305). -/
def execChannelRelease (c : Ch) (s : State) : Host.Outcome State Fault Refusal :=
  onDie (grpOf c) (fun s =>
    let n := chN c
    if (s.dieOf (grpOf c)).rel.any fun x => x.1 == n && s.passed (grpOf c) x.2 (n.val * 50000) then
      ((s.updDie (grpOf c) fun d => { d with rel := d.rel.filter fun x => x.1 != n }).resume c).anSettle c
    else s) s
/-- GRP_SUP_CTRL.ACK at the die: the waiting channels go to their commanded states at their instants (R306). -/
def State.supplyAckDie (s : State) (g : Grp) : State :=
  if (s.dieOf g).await then
    (s.updDie g fun d => { d with rel := d.rel ++ s.releaseList (d.wait.filter fun n => d.rel.all fun x => x.1 != n), wait := [], await := false }).setDie
      (F.GRP_SUP_STATUS_AWAIT_ACK g) 0
  else s
/-- CHECK_RESUME: 10 ms after the release the checks go on (R313). -/
def execCheckResume (g : Grp) (s : State) : Host.Outcome State Fault Refusal :=
  onDie g (fun s => if (s.dieOf g).locked then s else s.updDie g fun d => { d with suspended := false }) s

/-- HOLDUP_BEGIN: the die runs from HOLDx (R301). -/
def execHoldupBegin (g : Grp) (lp : Int) (hold : Nat) (s : State) : Host.Outcome State Fault Refusal :=
  onDie g (fun s => let s1 := s.supplyRead g lp hold
    if lp ≤ hold + 12 then s1.setDie (F.GRP_SUP_STATUS_HOLDUP g) 1 else s1) s
/-- HOLDUP_END: L+ above HOLDx by more than 0.6 V. -/
def execHoldupEnd (g : Grp) (lp : Int) (hold : Nat) (s : State) : Host.Outcome State Fault Refusal :=
  onDie g (fun s => let s1 := s.supplyRead g lp hold
    if (hold : Int) + 12 < lp then s1.setDie (F.GRP_SUP_STATUS_HOLDUP g) 0 else s1) s
/-- HOLDUP_EXHAUSTED: HOLDx below 9.2 V while L+ is not above it: the commit ends, and the die has its detaching to report before
it stops (R302, R310). -/
def execHoldupExhausted (g : Grp) (lp : Int) (hold : Nat) (s : State) : Host.Outcome State Fault Refusal :=
  onDie g (fun s =>
    let s1 := s.supplyRead g lp hold
    if hold < 184 ∧ lp ≤ hold ∧ (s.dieOf g).detach = 0 then
      (((s1.supplyEvent g 9 lp hold).updDie g fun d => { d with commit := false, recommit := false, detach := if d.rev then 2 else 1 }).pullDown g)
    else s1) s
/-- HOLD_CAP_MEASURED: the capacitance on HOLDx in uF (R303). -/
def execHoldCapMeasured (g : Grp) (uf : Nat) (s : State) : Host.Outcome State Fault Refusal :=
  onDie g (fun s =>
    let s1 := (s.setDie (F.GRP_SUP_LAST_HOLD_CAP g) (min 255 (roundOpen 24 ((uf : Rat) / 10)).toNat)).setDie (F.GRP_SUP_STATUS_HOLD_LOW g)
      (b2n (decide (uf < 200)))
    if uf < 200 then s1.evt g (.grpCause 8) else s1) s
/-- GNDF_LOSS: every switch goes off through its pull-down, and the logic is held in reset (R311). -/
def execGndfLoss (g : Grp) (s : State) : Host.Outcome State Fault Refusal :=
  onDie g (fun s => (s.pullDown g).updDie g fun d => { d with hold := true }) s

end Sys2Proof.Machine
end

