-- ==== Sys2Proof/Machine/Mode.lean ====
section
/-! DEFINITION. Modes: legality of a change, the power governor, park at the group die, the output permit (R24 to R29, R53 to
R72). -/

namespace Sys2Proof.Machine

/-! ### The governor -/

/-- Declared maximum L+ of a group in units of 0.2 V. -/
def vdeclFld (g : Grp) : Fld := ⟨.root, 0x44, 8 * g.val, 8, 150⟩
/-- A quotient rounded up. -/
def ceilDiv (a b : Nat) : Nat := (a + b - 1) / b
/-- Conduction term in mW of a switch limited to i mA (Table 1.9). -/
def switchTerm (i : Nat) : Nat := ceilDiv (min i 600 * min i 600 * 60) 1000000
/-- A channel's term of the model in mW, each rounded up (R24, Table 1.9). A member counts with the limit of its pair's head. -/
def chTerm (st : Store) (c : Ch) : Nat :=
  let m := st.get (F.CH_MODE_MODE c)
  let v := st.get (vdeclFld (grpOf c))
  let head := if c.val % 2 = 1 then chPred c else c
  if m = 1 ∨ m = 8 ∨ m = 9 then switchTerm (curLimit (st.get (F.OUT_LIMIT_CUR_LIMIT c)) false)
  else if m = 2 then switchTerm (curLimit (st.get (F.OUT_LIMIT_CUR_LIMIT head)) true / 2)
  else if m = 3 then ceilDiv (v * 48) 100
  else if m = 4 then 120
  else if m = 6 then 4 * v
  else if m = 7 then 2 * v
  else 0
/-- The modelled dissipation in mW (R24). -/
def govModel (st : Store) : Nat := 1900 + 4 * 350 + (List.finRange 32).foldl (fun a c => a + chTerm st c) 0
/-- The effective ceiling in mW (R25). -/
def State.ceiling (s : State) : Nat := min (s.reg F.ROOT_GOV_CEILING) 8630
/-- MODEL and OVER follow the image (R27, Tables 1.12, 1.13). -/
def State.govUpdate (s : State) : State :=
  let m := govModel s.regs
  (s.setReg F.ROOT_GOV_MODEL m).setReg F.ROOT_GOV_STATUS_OVER (b2n (decide (s.ceiling < m)))
/-- Whether a change to a store is refused: it raises the model above the effective ceiling (R25). -/
def State.govRefuses (s : State) (st : Store) : Bool := decide (govModel s.regs < govModel st) && decide (s.ceiling < govModel st)
/-- The requester's number in GOV_REFUSED (Table 15.11). -/
def reqCode : Req → Nat
  | .host => 0 | .ring0 => 1 | .sv => 2 | .fw => 3 | .bulk _ => 4
/-- A refusal by the governor of a change that would have made the model new (R25). -/
def State.govRefused (s : State) (rq : Req) (c : Ch) (new : Nat) : State :=
  let m := govModel s.regs
  let s1 := (((s.stick F.ROOT_GOV_STATUS_REFUSED 1).tally F.ROOT_GOV_STATUS_REFUSED_TALLY).setReg F.ROOT_GOV_STATUS_LAST_CHANNEL c.val).cause .root 4
  (s1.notify 2 [(12, 1, c.val), (13, 1, reqCode rq), (16, 2, m), (18, 2, new), (20, 2, s.ceiling)]).post
    { code := 0x09, cls := 0, ch := c.val, data := m + 2 ^ 16 * new }

/-! ### Legality -/

/-- MODE of a channel in the image. -/
def State.imgMode (s : State) (c : Ch) : Nat := s.reg (F.CH_MODE_MODE c)
/-- The supplier that a SUPPLY code names for a channel, if there is such a neighbour in its group (R56). -/
def supplierOf (c : Ch) (supply : Nat) : Option Ch :=
  if supply = 1 then (if c.val % 8 = 0 then none else some (chPred c))
  else if supply = 2 then (if c.val % 8 = 7 then none else some (chSucc c)) else none
/-- The supplier that a port names in the image, by which changes are tested (R57). -/
def State.supplier (s : State) (c : Ch) : Option Ch :=
  if s.imgMode c = 8 then supplierOf c (s.reg (F.CH_MODE_SUPPLY c)) else none
/-- The supplier that feeds a port: that of the SUPPLY in effect, which changes with the acknowledgement of the group die (R56, R61). -/
def State.feeder (s : State) (c : Ch) : Option Ch := if s.imgMode c = 8 then supplierOf c (s.ch c).sup else none
/-- The SUPPLY of an acknowledged CH_MODE word takes effect (R61, log entry 159). -/
def State.supplyTakes (s : State) (c : Ch) (v : Nat) : State := s.updCh c fun k => { k with sup := v / 16 % 4 }
/-- Whether some port but one names a channel as its supplier. -/
def State.servedBut (s : State) (c d : Ch) : Bool := (List.finRange 32).any fun x => x != d && s.supplier x == some c
/-- Whether a port names a channel as its supplier (R56). -/
def State.served (s : State) (c : Ch) : Bool := (List.finRange 32).any fun x => s.supplier x == some c
/-- Whether a channel is the odd member of a standing pair (R55). -/
def State.isMember (s : State) (c : Ch) : Bool := c.val % 2 == 1 && s.imgMode c == 2
/-- Whether a change is in progress on a channel. -/
def State.changing (s : State) (c : Ch) : Bool := s.on (F.CH_MODE_STATUS_CHANGING c)
/-- BUSY (Table 3.3, code 2). -/
def State.modeBusy (s : State) (c : Ch) (m : Nat) : Bool :=
  s.changing c || (s.isMember c && s.changing (chPred c)) ||
    (c.val % 2 == 0 && (m == 2 || s.imgMode c == 2) && s.changing (chSucc c))
/-- The limp-home map in the image: the entry of a channel. -/
def State.mapByte (s : State) (c : Ch) : Nat :=
  s.reg (F.GRP_LIMP_EN (grpOf c) (chN c)) * 128 + s.reg (F.GRP_LIMP_INV (grpOf c) (chN c)) * 64 + s.reg (F.GRP_LIMP_SRC (grpOf c) (chN c))
/-- A mapped output (Table 3.3, code 8). -/
def State.mapOut (s : State) (c : Ch) : Bool := bit (s.mapByte c) 7
/-- A mapped input. -/
def State.mapIn (s : State) (c : Ch) : Bool := (chansOf (grpOf c)).any fun x => s.mapOut x && decide (s.mapByte x % 8 = (chN c).val)
/-- LIMP_BOUND (Table 3.3, code 8). -/
def State.limpBound (s : State) (c : Ch) (m : Nat) : Bool :=
  s.on (F.GRP_LOCK (grpOf c)) &&
    ((s.mapOut c && !(m == 1 || m == 9 || (m == 2 && c.val % 2 == 0))) || (s.mapIn c && m != 3) ||
      (m == 2 && c.val % 2 == 0 && (s.mapOut (chSucc c) || s.mapIn (chSucc c))))
/-- The refusal code of a change to mode m and supply p, 0 for none of 1 to 8 (Table 3.3). -/
def State.refusal (s : State) (c : Ch) (m p : Nat) : Nat :=
  let others := ((chansOf (grpOf c)).filter fun x => x != c && s.imgMode x == 6).length
  let badSupply := m == 8 && p != 0 && (match supplierOf c p with
    | none => true
    | some d => s.imgMode d != 9 || s.servedBut d c)
  if 10 ≤ m ∨ p = 3 then 1
  else if s.modeBusy c m then 2
  else if s.on (F.GRP_STATUS_SAFE (grpOf c)) || s.on (F.GRP_STATUS_LIMP (grpOf c)) then 3
  else if s.isMember c then 4
  else if m = 2 ∧ (c.val % 2 = 1 ∨ (s.imgMode (chSucc c) ≠ 0 ∧ s.imgMode (chSucc c) ≠ 1)) then 5
  else if m = 6 ∧ 2 ≤ others then 6
  else if badSupply || (s.imgMode c == 9 && s.served c && m != 9) then 7
  else if s.limpBound c m then 8
  else 0
/-- A refusal is recorded at the channel (R58). -/
def State.modeRefuse (s : State) (c : Ch) (code m : Nat) : State :=
  (((s.setReg (F.CH_REFUSE_CODE c) code).setReg (F.CH_REFUSE_REQ_MODE c) m).tally (F.CH_REFUSE_TALLY c)).cause (.ch c) 1
/-- SERVED follows the image (Table 3.8). -/
def State.servedUpdate (s : State) (g : Grp) : State :=
  (chansOf g).foldl (fun s c => s.setReg (F.CH_MODE_STATUS_SERVED c) (b2n (s.imgMode c == 9 && s.served c))) s
/-- The image's MODE and SUPPLY after a change: a pair takes both channels, and its end leaves channel n + 1 disabled (R55, R62). -/
def modeImage (st : Store) (c : Ch) (m p : Nat) : Store :=
  let old := st.get (F.CH_MODE_MODE c)
  let st1 := (st.set (F.CH_MODE_MODE c) m).set (F.CH_MODE_SUPPLY c) p
  if m = 2 ∧ old ≠ 2 then st1.set (F.CH_MODE_MODE (chSucc c)) 2
  else if old = 2 ∧ m ≠ 2 then st1.set (F.CH_MODE_MODE (chSucc c)) 0 else st1
/-- A change of MODE begins on a channel: CHANGING, and its Fold slots cancelled (R61, R63). -/
def State.modeBegin (s : State) (c : Ch) : State := (s.setReg (F.CH_MODE_STATUS_CHANGING c) 1).cancelSlots (slotOf c) 2 0
/-- A write of CH_MODE with mode m and supply p (R57 to R63). -/
def State.modeWrite (s : State) (rq : Req) (c : Ch) (m p : Nat) : State × WRes :=
  let old := s.imgMode c
  if m = old ∧ p = s.reg (F.CH_MODE_SUPPLY c) then (s, .ok)
  else
    let code := s.refusal c m p
    let st := modeImage s.regs c m p
    if code ≠ 0 then (s.modeRefuse c code m, .modeRefused code m)
    else if s.govRefuses st then
      (((s.govRefused rq c (govModel st)).modeRefuse c 9 m), .govRefused (govModel s.regs) (govModel st))
    else
      let s1 := (({ s with regs := st } : State).govUpdate).servedUpdate (grpOf c)
      if m = old then let r := s1.sendWord (.ch c) 0x20; (r.2, .grpWord (grpOf c) r.1)
      else
        let pair := (m == 2 || old == 2)
        let s2 := s1.modeBegin c
        let s3 := if pair then s2.modeBegin (chSucc c) else s2
        let r := s3.sendWord (.ch c) 0x20
        if pair then let q := r.2.sendWord (.ch (chSucc c)) 0x20; (q.2, .modeChange c [r.1, q.1]) else (r.2, .modeChange c [r.1])
/-- A mode report of the die reaches the hub die: ACTIVE and PAIR_MEMBER; a change that was in progress to that mode is done
(R61). Answers whether it was. The comparators resume with every report, one that leaves ACTIVE as it was too, as at a full attach: R64 names
a change of ACTIVE alone, and park has then ended all the same (DESIGN CHOICE, log entry 181). -/
def State.modeReport (s : State) (c : Ch) (m : Nat) (member : Bool) : Bool × State :=
  let s1 := ((s.setReg (F.CH_MODE_STATUS_ACTIVE c) m).setReg (F.CH_MODE_STATUS_PAIR_MEMBER c) (b2n member)).cmpResume c
  if s.changing c && s.imgMode c == m then (true, (s1.setReg (F.CH_MODE_STATUS_CHANGING c) 0).cause (.ch c) 0) else (false, s1)

/-! ### Park at the die -/

/-- The old mode is cancelled and park begins (R61, R64): the switch goes off, an open stroke window is aborted, a ramp ends, the sink is
removed, an input gives no state, and the comparators of the hub die are suspended. It is here that a mode change begins for the stroke
detector, not at its acceptance at the hub die: R140 does not say which (DESIGN CHOICE, log entry 182). -/
def State.parkStart (s : State) (c : Ch) (m : Nat) (member load : Bool) : State :=
  let s1 := (((s.forceOff c).strokeAbort c).updCh c fun k => { k with sw := false, run := none, work := .off, sink := false, pulses := [] }).setDie
    (F.AN_STATUS_RAMPING c) 0
  let s2 := if (s.ch c).mode = 3 then (s1.unqualify c true).followSource c else s1
  let s3 := if s2.hubOn then s2.cmpSuspend c else s2
  s3.updCh c fun k => { k with park := some { mode := m, member := member, load := load, since := s.clock } }
/-- Park of a channel and, with a pair that is formed or ends, of channel n + 1 (R62). -/
def State.parkBoth (s : State) (c : Ch) (m : Nat) (load : Bool) : State :=
  let s1 := s.parkStart c m false load
  if m = 2 then s1.parkStart (chSucc c) 2 true load
  else if (s.ch c).mode = 2 ∨ (s.ch c).park.map (·.mode) = some 2 then s1.parkStart (chSucc c) 0 false load else s1
/-- The mode a channel has or is in park towards. -/
def Chan.aim (k : Chan) : Nat := match k.park with | some p => p.mode | none => k.mode
/-- A CH_MODE word at the die. A member follows its head's word alone; during a full attach every channel enters park (R61, R285). -/
def State.modeWord (s : State) (c : Ch) (v : Nat) : State :=
  let m := v % 16
  let load := (s.dieOf (grpOf c)).loading
  if c.val % 2 = 1 ∧ ((s.ch (chPred c)).aim = 2 ∨ m = 2) then s
  else if load || m != (s.ch c).aim then s.parkBoth c m load
  else s
/-- An analogue output on leaving park: its source or buffer at the DAC command. In the safe state it takes its safe-state value: a
preset, or what Table 13.8 gives the others, off; R66 names the start state for an Off value, which has the block on, and the model
follows Table 13.8 (R66, Table 3.4, log entry 147). -/
def State.dacStart (s : State) (c : Ch) : State :=
  let s1 := s.showClamped c
  if !s1.dacOn c then s1
  else if (s1.dieOf (grpOf c)).safe ∧ s1.safeKind c = 5 then s1.anSettle c
  else s1.dacStep c (s1.dacClamped c (s1.dreg (F.AN_DAC_CODE c)))
/-- A channel leaves park: it has its new mode, off and commanded off, with what the old mode showed gone; a block that is off for its
temperature stays off while the new mode is analogue (R61, R153, R175, R185, R190). -/
def State.enterMode (s : State) (c : Ch) (p : Park) : State :=
  let s1 := s.updCh c fun k =>
    { k with mode := p.mode, member := p.member, park := none, cmdOn := false, cmdRun := none, run := none, work := .off, from_ := .off,
             sw := false, inrush := false, pulses := [], permitHeld := false, edge := none, olOn := false, olAt := none, offHigh := none,
             offPrev := 0, shuntOff := false, loopOff := false, anOff := k.anOff && analogMode p.mode, valid := false, qual := false,
             comp := false, wbAt := none, lowAt := none, highAt := none, misAt := none,
             rangeAt := if switchMode k.mode == switchMode p.mode then k.rangeAt else s.clock }
  let s2 := (s1.setDie (F.IN_STATUS_WIRE_BREAK c) 0).anClear c (!analogMode p.mode)
  if p.mode = 3 then (s2.inCfgWritten c).filterStart c else s2
/-- The blocks of the new mode in their start state, or in the safe state (R61, R66, Table 3.4); the new mode is reported. -/
def State.startMode (s : State) (c : Ch) (p : Park) : State :=
  (if dacMode p.mode then s.dacStart c else if switchMode p.mode then s.settle c else s.showClamped c).evt (grpOf c) (.mode (chN c) p.mode p.member)
/-- Channels leave park in one MCLKx tick: each has its mode before any block is enabled, so that a pair acts as one (R61, R62). -/
def State.leavePark (s : State) (l : List Ch) : State :=
  let ps := l.filterMap fun c => (s.ch c).park.map fun p => (c, p)
  ps.foldl (fun s x => s.startMode x.1 x.2) (ps.foldl (fun s x => s.enterMode x.1 x.2) s)
/-- PARK_END: 100 us of park are over; while a clamp of the channels that leave conducts park lasts. A pair leaves in one tick; in a full attach park ends
with END_LOAD (R61, R62, R285). -/
def State.parkEnd (s : State) (c : Ch) (clamp : Bool) : State :=
  match (s.ch c).park with
  | none => s
  | some p =>
    let l := if p.mode = 2 ∨ (s.ch c).mode = 2 then [c, chSucc c] else [c]
    if p.load || clamp || l.any (fun x => (s.ch x).clamping) || !s.passed (grpOf c) p.since 100000 then s
    else if p.member || (s.ch c).member then s
    else s.leavePark l
def execParkEnd (c : Ch) (clamp : Bool) (s : State) : Host.Outcome State Fault Refusal :=
  onDie (grpOf c) (fun s => s.parkEnd c clamp) s

/-! ### The output permit -/

/-- A CH_PERMIT word at the die: a permit withdrawn turns the driving block off; one given again leaves it off until the next
command (R69, R70). -/
def State.permitWord (s : State) (c : Ch) (v : Nat) : State :=
  let old := s.don (F.CH_PERMIT c)
  let s1 := s.setDie (F.CH_PERMIT c) (v % 2)
  let h := s.headOf c
  if old == bit v 0 then s1
  else
    let s2 := s1.updCh h fun k => { k with permitHeld := k.park.isNone }
    if bit v 0 then s2 else (s2.forceOff h).anSettle h

end Sys2Proof.Machine
end

