-- ==== Sys2Proof/Machine/Drover.lean ====
section
/-! DEFINITION. The Drover without its transfers: channel states, doorbells, stream queues, descriptors and their validation
(R344 to R353, R356 to R366). -/

namespace Sys2Proof.Machine

/-- A stream channel (Table 16.1). -/
def isStream (k : DrvNo) : Bool := decide (k.val < 16)
/-- State of a channel: 0 IDLE, 1 RUNNING, 2 STOPPING, 3 ENDED, 4 HALTED. -/
def State.drvState (s : State) (k : DrvNo) : Nat := s.reg (F.DRV_CH_STATUS_STATE k)
/-- RUNNING or STOPPING. -/
def State.drvActive (s : State) (k : DrvNo) : Bool := s.drvState k == 1 || s.drvState k == 2
/-- The state changes; DRV_STATUS.RUNNING follows (Table 16.10). -/
def State.drvTo (s : State) (k : DrvNo) (st : Nat) : State :=
  let s1 := s.setReg (F.DRV_CH_STATUS_STATE k) st
  let old := s1.reg F.DRV_STATUS_RUNNING
  s1.setReg F.DRV_STATUS_RUNNING (if st = 1 ∨ st = 2 then old ||| 2 ^ k.val else old &&& (2 ^ 24 - 1 - 2 ^ k.val))
/-- A bit of DRV_CH_EVENT is set; when it changes and is enabled it sets the unit's cause bit (R367). -/
def State.drvEvent (s : State) (k : DrvNo) (i : Nat) : State :=
  let f : Fld := ⟨.drvCh k, 0x20, i, 1, 0⟩
  let s1 := s.stick f 1
  if s.on f then s1
  else
    if bit (s1.reg (F.DRV_CH_EVENT_EN k)) i then s1.cause .drv k.val else s1
/-- DRV_CH_CUR. -/
def State.setCur (s : State) (k : DrvNo) (a : Nat) : State := s.setPair (F.DRV_CH_CUR_LO k) (F.DRV_CH_CUR_HI k) a
/-- DRV_CH_HEAD. -/
def State.drvHead (s : State) (k : DrvNo) : Nat := s.pair (F.DRV_CH_HEAD_LO k) (F.DRV_CH_HEAD_HI k)
/-- PREFETCHED follows the descriptors held. -/
def State.preFlag (s : State) (k : DrvNo) : State := s.setReg (F.DRV_CH_STATUS_PREFETCHED k) (b2n (s.drvc k).pre.isSome)

/-- Requests are issued to the host. -/
def State.hostWrites (s : State) (l : List HostOut) : State := { s with host := { s.host with out := s.host.out ++ l } }
/-- The read of a channel's next descriptor, or of the one that it reads again, leaves once the function may issue requests (R355, R360,
R365, log entry 189). -/
def State.drvAsk (s : State) (k : DrvNo) : State :=
  let c := s.drvc k
  if c.asked || !s.host.mayIssue then s
  else match if c.rescanning then c.last.map (·.addr) else c.fetch with
    | some a => (s.hostWrites [.read a 64]).updDrv k fun c => { c with asked := true }
    | none => s

/-! ### Stream queues -/

/-- Bytes in a queue. -/
def level (l : List Frame) : Nat := l.foldl (fun a f => a + (f.bytes.length - f.gone)) 0
/-- LEVEL and PEAK follow the queue. -/
def State.levelShow (s : State) (k : DrvNo) : State :=
  let v := level (s.drvc k).frames
  (s.setReg (F.DRV_CH_QUEUE_LEVEL k) v).hwSet (F.DRV_CH_QUEUE_PEAK k) (max (s.reg (F.DRV_CH_QUEUE_PEAK k)) v)
/-- The queue is emptied; each frame counts in DISCARDED (R352). -/
def State.queueEmpty (s : State) (k : DrvNo) : State :=
  let n := (s.drvc k).frames.length
  let s1 := s.updDrv k fun c => { c with frames := [], parts := [], dropped := false }
  ((if n = 0 then s1 else s1.tally (F.DRV_CH_DROP_DISCARDED k) n).levelShow k).setReg (F.DRV_CH_STATUS_WAIT_DATA k) 0
/-- The bytes of a window of b bytes from the queue's head. -/
def windowBytes (l : List Frame) (b : Nat) : List Byte := (l.flatMap fun f => f.bytes.drop f.gone).take b
/-- A queue with b bytes released from its head. -/
def releaseBytes : List Frame → Nat → List Frame
  | [], _ => []
  | f :: t, b =>
    if b = 0 then f :: t
    else if f.bytes.length - f.gone ≤ b then releaseBytes t (b - (f.bytes.length - f.gone))
    else { f with gone := f.gone + b } :: t
/-- Byte count of a descriptor (R346). -/
def Desc.size (d : Desc) : Nat := d.c0 * d.c1 * d.c2 * 4 * 2 ^ (d.ctrl / 2 ^ 16 % 4)
/-- Element size of a descriptor. -/
def Desc.esize (d : Desc) : Nat := 4 * 2 ^ (d.ctrl / 2 ^ 16 % 4)
/-- The window of the descriptor taken is formed when the queue holds its bytes; ALIGN first discards a partial frame (R351, R353). -/
def State.formWindow (s : State) (k : DrvNo) : State :=
  match (s.drvc k).cur with
  | none => s
  | some d =>
    if !isStream k || (s.drvc k).busy || level (s.drvc k).frames < d.size then s
    else match (s.drvc k).frames with
      | f :: t =>
        if bit d.ctrl 28 && f.gone != 0 then
          let s1 := ((s.updDrv k fun c => { c with frames := t }).tally (F.DRV_CH_DROP_DISCARDED k)).levelShow k
          s1.setReg (F.DRV_CH_STATUS_WAIT_DATA k) (b2n (decide (level t < d.size)))
        else s.setReg (F.DRV_CH_STATUS_WAIT_DATA k) 0
      | [] => s.setReg (F.DRV_CH_STATUS_WAIT_DATA k) 0
/-- The streams selected on a channel, in ascending order. -/
def State.drvStreams (s : State) (k : DrvNo) : List Strm :=
  let m := s.pair (F.DRV_CH_STREAMS_LO k) (F.DRV_CH_STREAMS_HI k)
  (List.finRange 64).filter fun x => m.testBit x.val
/-- A frame is queued, or dropped whole when it does not fit (R350, R352, Table 16.4). -/
def State.frameIn (s : State) (k : DrvNo) (t : Nat) (words : List Nat) : State :=
  let c := s.drvc k
  let hdr := if s.on (F.DRV_CH_CFG_HDR k) then
      leBytes 8 t ++ leBytes 4 (c.fseq % 2 ^ 32) ++ leBytes 1 words.length ++ leBytes 1 (b2n c.dropped) ++ leBytes 2 0 else []
  let f : Frame := { bytes := hdr ++ words.flatMap (leBytes 4) }
  if 16384 < level c.frames + f.bytes.length then
    ((s.updDrv k fun c => { c with fseq := c.fseq + 1, dropped := true }).tally (F.DRV_CH_DROP_DROPPED k)).drvEvent k 4
  else ((s.updDrv k fun c => { c with fseq := c.fseq + 1, dropped := false, frames := c.frames ++ [f] }).levelShow k).formWindow k
/-- Whether a stream's resampler runs at the same period as another's (R350). -/
def State.samePeriod (s : State) (a b : Strm) : Bool :=
  let p := fun x : Strm => resPeriod (s.pair (F.SC_PERIOD_LO x) (F.SC_PERIOD_HI x)) (halfBands (s.reg (F.SC_CFG_HB x)))
  p a == p b
/-- PERIOD_MISMATCH of a processed channel. -/
def State.mismatch (s : State) (k : DrvNo) : Bool :=
  match s.drvStreams k with
  | [] => false
  | x :: t => decide (8 ≤ k.val) && decide (k.val < 16) && t.any fun y => !s.samePeriod x y
/-- Whether a stream of a channel is one whose frames it forms: any on the capture tap, one of the period of the lowest stream
on the fine tap (R350). -/
def State.ownStream (s : State) (k : DrvNo) (low y : Strm) : Bool := decide (k.val < 8) || s.samePeriod low y
/-- A sample word joins the words of its instant; a frame is formed when the last one has come. Streams with another period
than the lowest one give value 0 with GAP (R350). -/
def State.gatherWord (s : State) (k : DrvNo) (sel : List Strm) (low x : Strm) (word key t : Nat) : State :=
  let now := ((s.drvc k).parts.lookup key).getD [] ++ [(x.val, word)]
  let others := (s.drvc k).parts.filter fun p => p.1 != key
  if sel.all fun y => !s.ownStream k low y || (now.lookup y.val).isSome then
    (s.updDrv k fun c => { c with parts := others }).frameIn k t (sel.map fun y => (now.lookup y.val).getD 1)
  else s.updDrv k fun c => { c with parts := others ++ [(key, now)] }
/-- A sample word of a stream comes to a channel that selects it. -/
def State.feedChannel (s : State) (k : DrvNo) (x : Strm) (word key t : Nat) : State :=
  let sel := s.drvStreams k
  let low := sel.headD x
  if s.drvActive k && sel.contains x && s.ownStream k low x then s.gatherWord k sel low x word key t else s
/-- A sample word of a tap goes to the stream channels that select its stream: channels 0 to 7 take the capture tap, 8 to 15
the fine samples (Table 16.1). -/
def State.feedStream (s : State) (fine : Bool) (x : Strm) (word key t : Nat) : State :=
  ((List.finRange 24).filter fun k => if fine then decide (8 ≤ k.val) && decide (k.val < 16) else decide (k.val < 8)).foldl
    (fun s k => s.feedChannel k x word key t) s

/-! ### Channel states -/

/-- What a channel holds of its chain is dropped. -/
def State.drvDrop (s : State) (k : DrvNo) : State :=
  ((s.updDrv k fun c => { c with fetch := none, asked := false, cur := none, busy := false, pre := none, preAddr := none, badNext := 0, rescanning := false }).preFlag
    k).queueEmpty k
/-- A channel halts with a cause; CUR names the descriptor at address a (R347, R348, R363, R374). -/
def State.drvHalt (s : State) (k : DrvNo) (cause a : Nat) : State :=
  (((((s.drvDrop k).setCur k a).setReg (F.DRV_CH_STATUS_CAUSE k) cause).drvTo k 4).drvEvent k 3)
/-- A channel becomes IDLE. -/
def State.drvIdle (s : State) (k : DrvNo) : State := ((s.drvDrop k).setReg (F.DRV_CH_STATUS_CAUSE k) 0).drvTo k 0
/-- A stop completes (R357). -/
def State.drvStopped (s : State) (k : DrvNo) : State := (s.drvIdle k).drvEvent k 2
/-- The chain ends (R360). -/
def State.drvEnd (s : State) (k : DrvNo) : State :=
  if s.drvState k = 3 then s else (((s.drvDrop k).drvTo k 3).drvEvent k 1)
/-- A doorbell value is ignored (R356). -/
def State.drvIgnored (s : State) (k : DrvNo) : State := (s.tally (F.DRV_CH_COUNTS_DB_IGNORED k)).drvEvent k 5
/-- The units bound to a channel: 2 to 7 with EN and the channel's number (R370). -/
def State.unitOf (s : State) (k : DrvNo) : Option CkNo :=
  (List.finRange 8).find? fun u => decide (2 ≤ u.val) && s.on (F.CK_BIND_EN u) && s.reg (F.CK_BIND_CHANNEL u) == k.val
/-- An open block is carried across a START (R375). -/
def State.carry (s : State) (k : DrvNo) : State :=
  match s.unitOf k with
  | none => s
  | some u => if s.on (F.CK_STATUS_IN_BLOCK u) then s.setReg (F.CK_STATUS_CARRIED u) 1 else s
/-- START (R356, R347). -/
def State.drvStart (s : State) (k : DrvNo) : State :=
  if !(s.drvState k == 0 || s.drvState k == 3) || s.on F.DRV_STATUS_BUS_ERR then s.drvIgnored k
  else
    let h := s.drvHead k
    let s1 := ((((s.drvDrop k).setReg (F.DRV_CH_DONE k) 0).setReg (F.DRV_CH_STATUS_RESCAN k) 0).setReg (F.DRV_CH_STATUS_CAUSE k) 0).updDrv k fun c => { c with zeros := 0, fseq := 0 }
    if h % 64 ≠ 0 then s1.drvHalt k 1 h
    else ((((s1.updDrv k fun c => { c with fetch := some h, asked := false }).setCur k h).drvTo k 1)).carry k
/-- CONTINUE (R360). -/
def State.drvContinue (s : State) (k : DrvNo) : State :=
  if s.drvState k = 1 then s.setReg (F.DRV_CH_STATUS_RESCAN k) 1
  else if s.drvState k = 3 then
    if (s.drvc k).rescanning then s.setReg (F.DRV_CH_STATUS_RESCAN k) 1
    else (s.updDrv k fun c => { c with rescanning := true, asked := false }).setReg (F.DRV_CH_STATUS_RESCAN k) 0
  else s.drvIgnored k
/-- STOP: a running channel takes no further descriptor (R356, R357). -/
def State.drvStop (s : State) (k : DrvNo) : State :=
  if s.drvState k = 1 then s.drvTo k 2 else if s.drvState k = 3 then s.drvIdle k else s
/-- What a tick does to a channel: a STOPPING one without a descriptor in progress becomes IDLE, a read that waits leaves, and PEAK is raised
to the level (R355, R357, Table 16.13). -/
def State.drvTick1 (s : State) (k : DrvNo) : State :=
  let s1 := (if s.drvState k == 2 && !(s.drvc k).busy then s.drvStopped k else s).drvAsk k
  if s1.reg (F.DRV_CH_QUEUE_PEAK k) < s1.reg (F.DRV_CH_QUEUE_LEVEL k) then s1.hwSet (F.DRV_CH_QUEUE_PEAK k) (s1.reg (F.DRV_CH_QUEUE_LEVEL k))
  else s1
def State.drvTick (s : State) : State := (List.finRange 24).foldl State.drvTick1 s
/-- DRV_CH_CTRL.CLEAR (R357). -/
def State.drvClear (s : State) (k : DrvNo) : State :=
  let c := s.reg (F.DRV_CH_STATUS_CAUSE k)
  if s.drvState k = 4 ∧ (c = 1 ∨ c = 2 ∨ c = 3 ∨ c = 5) then s.drvIdle k else s
/-- DRV_CTRL.RECOVER (R364). -/
def State.drvRecover (s : State) : State :=
  (List.finRange 24).foldl (fun s k => if s.drvState k = 4 ∧ s.reg (F.DRV_CH_STATUS_CAUSE k) = 4 then s.drvIdle k else s)
    (s.setReg F.DRV_STATUS_BUS_ERR 0)
/-- A doorbell value of a channel (Table 16.6). -/
def State.drvDoorbell (s : State) (k : DrvNo) (v : Nat) : State :=
  if v = 1 then s.drvStart k else if v = 2 then s.drvContinue k else if v = 3 then s.drvStop k else s.drvIgnored k
/-- DRV_START. -/
def execDrvStart (k : DrvNo) (s : State) : Host.Outcome State Fault Refusal := onHub (fun s => s.drvStart k) s
/-- DRV_CONTINUE. -/
def execDrvContinue (k : DrvNo) (s : State) : Host.Outcome State Fault Refusal := onHub (fun s => s.drvContinue k) s

/-! ### Descriptors -/

/-- The fields of a descriptor's 64 bytes (Table 16.2). -/
def descOf (a : Nat) (b : List Byte) : Desc :=
  { addr := a, ctrl := bytesAt b 0 4, c0 := bytesAt b 4 2, c1 := bytesAt b 6 2, c2 := bytesAt b 8 2, dev := bytesAt b 12 4,
    host := bytesAt b 16 8, s0 := sgn 32 (bytesAt b 24 4), s1 := sgn 32 (bytesAt b 28 4), s2 := sgn 32 (bytesAt b 32 4),
    d0 := sgn 32 (bytesAt b 36 4), d1 := sgn 32 (bytesAt b 40 4), d2 := sgn 32 (bytesAt b 44 4), next := bytesAt b 48 8 }
/-- END of a descriptor. -/
def Desc.isEnd (d : Desc) : Bool := bit d.ctrl 31
/-- Host to device. -/
def Desc.h2d (d : Desc) : Bool := bit d.ctrl 26
/-- SPACE of a descriptor. -/
def Desc.space (d : Desc) : Nat := d.ctrl / 2 ^ 24 % 4
/-- Misaligned (R347). -/
def Desc.misaligned (d : Desc) : Bool :=
  let e : Int := d.esize
  [(d.host : Int), (d.dev : Int), d.s0, d.s1, d.s2, d.d0, d.d1, d.d2].any (fun x => x % e != 0) || d.next % 64 != 0
/-- Device addresses of the corner elements (R348). -/
def Desc.corners (d : Desc) : List Int :=
  [0, (d.c0 : Int) - 1].flatMap fun i => [0, (d.c1 : Int) - 1].flatMap fun j => [0, (d.c2 : Int) - 1].map fun l =>
    (d.dev : Int) + i * d.d0 + j * d.d1 + l * d.d2
/-- Bytes of a device space (Table 16.5). -/
def spaceSize (sp : Nat) : Nat := if sp = 0 then 0xF0000 else if sp = 1 then 0x40000 else 0x5000
/-- Malformed (R348): a reserved bit, too many bytes, or an element outside its window or space. A descriptor that moves no
element has none outside. -/
def Desc.malformed (d : Desc) (stream : Bool) : Bool :=
  let lim : Int := if stream then d.size else spaceSize d.space
  let out := d.size != 0 && d.corners.any fun a => a < 0 || lim < a + d.esize
  (d.ctrl &&& 0x00FCFFFF) != 0 || decide (16384 < d.size) || out ||
    (if stream then d.h2d || d.space != 0 else d.space == 3 || (d.h2d && d.space == 2))
/-- The cause of a failed validation, 0 for none. -/
def Desc.check (d : Desc) (stream : Bool) : Nat := if d.misaligned then 1 else if d.malformed stream then 2 else 0

end Sys2Proof.Machine
end

