-- ==== Sys2Proof/Machine/Chain.lean ====
section
/-! DEFINITION. The sample chains: the capture tap, the coarse path, half-bands, FIR with its bank swaps, DC blocker, resampler,
synchronising resets and the coefficient memory (R191 to R221). -/

namespace Sys2Proof.Machine

/-! ### The coefficient memory -/

/-- The first n coefficients of the factory set, times 2^17, and what is left to its middle for a DC gain of 1; each free code is held
where the rest still fits 18 bits (R199, log entry 160). -/
def factoryCodes : Nat → List Int × Int
  | 0 => ([], 2 ^ 16)
  | n + 1 =>
    let p := factoryCodes n
    let c := clampI (max (-131072) (p.2 - 131071)) (min 131071 (p.2 + 131072)) (sgn 18 (Config.factoryCoef n % 2 ^ 18))
    (p.1 ++ [c], p.2 - c)
/-- Coefficient j of the factory set, 0 to 47: the last makes the DC gain of the symmetric set 1 (R199). -/
def factoryCode (j : Nat) : Nat :=
  unsgn 18 (if j < 47 then (factoryCodes 47).1.getD j 0 else (factoryCodes 47).2)
/-- What a word of the coefficient window holds when nothing has written it (R199, Table 9.5). -/
def coefDefault (off : Nat) : Nat :=
  let k := off / 0x400
  let o := off % 0x400
  if o = 0x3F0 then (if k = 0 then 760 else 0)
  else if k ≠ 0 then 0
  else let j := o % 0x200 / 4; factoryCode (if j < 48 then j else 95 - j)
/-- A word of the window as stored. -/
def State.coefAt (s : State) (off : Nat) : Nat := (s.coef.lookup off).getD (coefDefault off)
/-- A word of the window with a value put in; the list keeps its words in order of offset. -/
def State.coefSet (s : State) (off v : Nat) : State :=
  let l := s.coef.filter fun p => p.1 != off
  { s with coef := if v = coefDefault off then l else insSorted (fun a b => a.1 ≤ b.1) (off, v) l }
/-- Coefficient j of a bank, times 2^17. -/
def State.coefOf (s : State) (set bank j : Nat) : Int := sgn 18 (s.coefAt (set * 0x400 + bank * 0x200 + j * 4) % 2 ^ 18)
/-- DELAY of a set in 1/16 FIR sample (Table 9.5). -/
def State.setDelay (s : State) (set : Nat) : Nat := min 1520 (s.coefAt (set * 0x400 + 0x3F0) % 2 ^ 11)
/-- Whether a bank is in service (R200). -/
def State.bankUsed (s : State) (set bank : Nat) : Bool :=
  (List.finRange 64).any fun x => s.reg (F.SC_CFG_SET x) == set &&
    (s.reg (F.SC_SWAP_BANK x) == bank || (match (s.chain x).req with | some r => r.1 == bank | none => false) ||
      (match (s.chain x).fade with | some f => f.old == bank || f.new == bank | none => false))
/-- SCB_INUSE (Table 9.22). -/
def State.inUse (s : State) : Nat :=
  (List.range 32).foldl (fun a i => if s.bankUsed (i / 2) (i % 2) then a + 2 ^ i else a) 0
/-- A write to a coefficient or SET_INFO word; one to a bank, or to a set with a bank, in service is discarded and counted (R198,
R200). Answers whether it was applied. -/
def State.coefWrite (s : State) (off v : Nat) : Bool × State :=
  let k := off / 0x400
  let o := off % 0x400
  let busy := if o = 0x3F0 then s.bankUsed k 0 || s.bankUsed k 1 else s.bankUsed k (o / 0x200)
  if busy then (false, (s.tally F.SCB_COEF_TALLY_DISCARDED).cause .bank 0)
  else (true, s.coefSet off (if o = 0x3F0 then v &&& 0xFFFF07FF else v % 2 ^ 18))
/-- Whether an offset of the window holds a word (Table 9.4). -/
def coefWord (off : Nat) : Bool :=
  let o := off % 0x400
  decide (off < 0x4000) && (decide (o < 0x180) || (decide (0x200 ≤ o) && decide (o < 0x380)) || o == 0x3F0)
/-- What a read of the window gives: a coefficient sign-extended to 32 bits (R198). -/
def State.coefRead (s : State) (off : Nat) : Nat :=
  if !coefWord off then 0
  else if off % 0x400 = 0x3F0 then s.coefAt off else unsgn 32 (sgn 18 (s.coefAt off % 2 ^ 18))

/-! ### Samples -/

/-- A value bounded to 24 bits, and whether it was bounded (R197). -/
def sat24 (v : Int) : Int × Bool :=
  if v > 8388607 then (8388607, true) else if v < -8388607 then (-8388607, true) else (v, false)
/-- An input filled in at a synchronising reset (R215). -/
def zeroSmp : Smp := { v := 0, settle := true }
/-- The zero that stands for a sample at a synchronising reset: the range of the instant that it represents stays its own (R195, R215). -/
def Smp.cleared (x : Smp) : Smp := { zeroSmp with low := x.low }
/-- The first n entries of a history, filled up with zeros at the range of the oldest one. -/
def hist (l : List Smp) (n : Nat) : List Smp :=
  l.take n ++ List.replicate (n - (l.take n).length) ((l.getLast?.getD zeroSmp).cleared)
/-- The flags of an output over its inputs (R212); LOW_RANGE is that of the input in the middle. -/
def flagged (v : Int) (ov : Bool) (l : List Smp) (mid : Nat) : Smp :=
  { v := v, gap := l.any (·.gap), settle := l.any (·.settle), ovr := ov || l.any (·.ovr), low := (l.getD mid zeroSmp).low }
/-- A sample word (Table 9.7). -/
def smpWord (x : Smp) (dcf fade : Bool) (bank : Nat) : Nat :=
  unsgn 24 x.v * 256 + 64 * b2n dcf + 32 * b2n x.low + 16 * bank + 8 * b2n fade + 4 * b2n x.ovr + 2 * b2n x.settle + b2n x.gap
/-- A weighted sum. -/
def dot (w : Nat → Int) (l : List Smp) : Int := (l.zipIdx).foldl (fun a p => a + w p.2 * p.1.v) 0

/-- The impulse response of the sinc3 decimator, times 125 (R194). -/
def sincTap (i : Nat) : Int := [1, 3, 6, 10, 15, 18, 19, 18, 15, 10, 6, 3, 1].getD i 0
/-- The decimator's output over 13 bits (R194, R213, R214). -/
def sincOut (bits : List MBit) (settle : Bool) : Smp :=
  let n := (bits.zipIdx).foldl (fun a p => a + sincTap p.2 * (if p.1.b then 1 else -1)) 0
  let v := clampI (-8388608) 8388607 (roundOpen 30 ((n : Rat) * 8388608 / 125))
  { v := v, gap := bits.any (·.gap), settle := settle, ovr := decide (6710886 < v.natAbs), low := (bits.map (·.low)).getD 6 false,
    lost := bits.any (·.lost) }
/-- Tap i of a half-band stage, times 2^30: symmetric, with unity DC gain (R196). -/
def halfTap (i : Nat) : Int :=
  if i = 21 then 2 ^ 30 - 2 * (List.range 21).foldl (fun a j => a + Config.halfBandTap j) 0
  else Config.halfBandTap (if i < 21 then i else 42 - i)
/-- A half-band output over 43 inputs. -/
def halfOut (l : List Smp) : Smp :=
  let h := hist l 43
  let v := sat24 (roundOpen 31 ((dot halfTap h : Rat) / 2 ^ 30))
  flagged v.1 v.2 h 21
/-- The mean of the last 8 capture samples since the synchronising reset (R216, R217). -/
def coarseMean (x : Chain) : Smp :=
  let l := x.cap.take (min 8 x.capCnt) ++ (hist (x.cap.drop (min 8 x.capCnt)) (8 - (x.cap.take (min 8 x.capCnt)).length)).map Smp.cleared
  flagged (roundOpen 32 (((l.foldl (fun a p => a + p.v) 0 : Int) : Rat) / 8)) false l 4
/-- H of a chain. -/
def State.hOf (s : State) (x : Strm) : Nat := halfBands (s.reg (F.SC_CFG_HB x))

/-- Whether a run of OVER begins in a stage: it saturated on inputs without OVER, and its output before had none (R214, log entry 161). -/
def beginsOver (ins : List Smp) (prev o : Smp) : Bool := o.ovr && !(ins.any (·.ovr)) && !prev.ovr
/-- The half-band stages from h on take the newest output of the stage before them in their ticks (Table 9.1); whether a run of OVER
begins in one of them. -/
def halfRun (tick hMax : Nat) : Nat → Nat → Smp → Chain → Chain × Bool
  | 0, _, _, x => (x, false)
  | n + 1, h, i, x =>
    if hMax < h then ({ x with fir := (i :: x.fir).take 96 }, false)
    else
      let l := (i :: x.hb.toList.getD (h - 1) []).take 43
      let x1 := { x with hb := x.hb.setIfInBounds (h - 1) l }
      if tick % (50 * 2 ^ h) = 0 then
        let prev := ((if h = hMax then x1.fir else x1.hb.toList.getD h []).head?).getD zeroSmp
        let r := halfRun tick hMax n (h + 1) (halfOut l) x1
        (r.1, r.2 || beginsOver (hist l 43) prev (halfOut l))
      else (x1, false)

/-! ### The capture tap -/

/-- The five bits that reach the decimator in the 50 ticks up to a capture tick, oldest first; where none does, a gap bit of a pattern
stands that alternates over the whole gap, at a phase that is open (R192, R213). -/
def takeBits (bits : List MBit) (tick phase : Nat) (lost low : Bool) : List MBit :=
  (List.range 5).map fun i =>
    (bits.find? fun b => tick + 10 * i < b.t + 50 && b.t + 50 ≤ tick + 10 * i + 10).getD
      { b := (tick / 10 + i + phase) % 2 == 0, gap := true, lost := lost, low := low }
/-- Whether a stream stands at the low current range (Table 3.1). -/
def State.lowRange (s : State) (x : Strm) : Bool := x.val % 2 == 1 && !switchMode (s.ch (streamCh x)).mode
/-- A run of OVER begins (R214). -/
def State.overBegins (s : State) (x : Strm) : State := (s.stick (F.SC_STATUS_OVER x) 1).cause (.chain x) 3
/-- A run of gaps or of overrange begins (R213, R214). -/
def State.runMarks (s : State) (x : Strm) (o : Smp) : State :=
  let k := s.chain x
  let s1 := if o.gap && o.lost then s.tally (F.SC_STATUS_GAP_TALLY x) else s
  let s2 := if o.gap && !k.wasGap then (s1.stick (F.SC_STATUS_GAP x) 1).cause (.chain x) 2 else s1
  let s3 := if o.ovr && !k.wasOver then s2.overBegins x else s2
  s3.updChain x fun k => { k with wasGap := o.gap, wasOver := o.ovr }
/-- The settling flags follow the count and the time since the synchronising reset (R216). -/
def State.settleShow (s : State) (x : Strm) : State :=
  let k := s.chain x
  let s1 := if 8 ≤ k.capCnt then s.setReg (F.SC_STATUS_COARSE_SETTLING x) 0 else s
  if s1.on (F.SC_STATUS_FINE_SETTLING x) && decide (k.sync + settleNs (s1.hOf x) (s1.on (F.SC_CFG_FIR_EN x)) / 4 ≤ s1.tick) then
    (s1.setReg (F.SC_STATUS_FINE_SETTLING x) 0).cause (.chain x) 4
  else s1
/-- A gap or a settling sample within BLANK is ignored by itself, and still decides where it stands in the average of a sample after BLANK:
R140 does not say (DESIGN CHOICE, log entry 183). The stroke detector takes the smoothed current of the channel that an I stream serves; of both switches for a pair (R137,
R138, R55). The two samples of a pair's tick are taken with the member's, the head's coming before it: the spec does not order the two
chains (log entry 153). -/
def State.strokeFeed (s : State) (x : Strm) : State :=
  let c := streamCh x
  if x.val % 2 = 0 then s
  else
    let h := s.headOf c
    if s.pairHead h && c == h then s
    else
      let k := 2 ^ s.reg (F.SK_CFG_SMOOTH h)
      let one := fun y : Strm => hist (s.chain y).cap k
      let l := one (iStream h) ++ (if s.pairHead h then one (iStream (chSucc h)) else [])
      let i : Rat := ((l.foldl (fun a p => a + p.v) 0 : Int) : Rat) * 3750 / 8388608 / k
      s.strokeSample h (l.any (·.gap)) (l.any (·.settle)) i (s.now - 1160 - (k - 1) * 100)
/-- CAPTURE_SAMPLE: a chain's output in a tick of the capture grid (R193, R194, R217). -/
def State.capture (s : State) (x : Strm) : State :=
  let k := s.chain x
  if s.tick % 50 ≠ 0 ∨ k.capTick = some s.tick then s
  else
    let p := s.openValue
    let ph := if (k.sinc.head?.map (·.gap)).getD false then k.phase else p.1 % 2
    let sinc := ((takeBits k.bits s.tick ph (!s.absent (grpOf (streamCh x))) (s.lowRange x)).reverse ++ k.sinc).take 13
    let o := sincOut sinc (k.clear != 0)
    let h := halfRun s.tick (s.hOf x) 7 1 o
      { k with bits := k.bits.filter fun b => s.tick < b.t, sinc := sinc, phase := ph, clear := k.clear - 1, cap := (o :: k.cap).take 128,
               capTick := some s.tick, capCnt := k.capCnt + 1, wasGap := o.gap, wasOver := o.ovr }
    let s1 := (p.2.runMarks x o).updChain x fun _ => h.1
    let s2 := (if h.2 then s1.overBegins x else s1).settleShow x
    let m := coarseMean (s2.chain x)
    let s3 := s2.compare x false m.v (m.settle || decide ((s2.chain x).capCnt < 8)) m.gap (smpWord m false false 0) (s.now - 1860)
    (s3.strokeFeed x).feedStream false x (smpWord o false false 0) s.tick (s.now - 1160)
def execCaptureSample (x : Strm) (s : State) : Host.Outcome State Fault Refusal := onHub (fun s => s.capture x) s
/-- COARSE_SAMPLE: every eighth mean is delivered (Table 9.1, R217). -/
def State.coarse (s : State) (x : Strm) : State :=
  let k := s.chain x
  if s.tick % 400 = 0 ∧ k.capTick = some s.tick then
    let m := coarseMean k
    s.setReg (F.SC_COARSE x) (smpWord { m with settle := m.settle || decide (k.capCnt < 8) } false false 0)
  else s
def execCoarseSample (x : Strm) (s : State) : Host.Outcome State Fault Refusal := onHub (fun s => s.coarse x) s

/-! ### The FIR and the DC blocker -/

/-- The exact FIR sum of a bank (R197). -/
def State.firSum (s : State) (x : Strm) (bank : Nat) : Rat :=
  (dot (s.coefOf (s.reg (F.SC_CFG_SET x)) bank) (hist (s.chain x).fir 96) : Rat) / 2 ^ 17
/-- A FIR output from an exact value (R197, R212); its range is that at the instant it represents, DELAY back (R195). -/
def State.firOf (s : State) (x : Strm) (y : Rat) : Smp :=
  let v := sat24 (roundAway y)
  flagged v.1 v.2 (hist (s.chain x).fir 96) ((s.setDelay (s.reg (F.SC_CFG_SET x)) + 8) / 16)
/-- A bank change is done (R202). -/
def State.swapDone (s : State) (x : Strm) (bank : Nat) : State := (s.setReg (F.SC_SWAP_BANK x) bank).cause (.chain x) 0
/-- One output of a fade (R202): its sample, the incoming bank, and the state after it. -/
def State.fadeOut (s : State) (x : Strm) (f : Fade) : Smp × Nat × Bool × State :=
  let y := s.firSum x f.old + (s.firSum x f.new - s.firSum x f.old) * (f.j + 1) / (f.len + 1)
  let o := s.firOf x y
  if f.j + 1 = f.len then (o, f.new, true, (s.updChain x fun k => { k with fade := none }).swapDone x f.new)
  else (o, f.new, true, s.updChain x fun k => { k with fade := some { f with j := f.j + 1 } })
/-- The next FIR output: its sample, its bank, whether it is a fade output, and the state after the bank rules (R197, R201 to R204). -/
def State.firNext (s : State) (x : Strm) : Smp × Nat × Bool × State :=
  let act := s.reg (F.SC_SWAP_BANK x)
  let en := s.on (F.SC_CFG_FIR_EN x)
  let one := fun (b : Nat) (s : State) => ((if en then s.firOf x (s.firSum x b) else (hist (s.chain x).fir 1).headD zeroSmp), b, false, s)
  match (s.chain x).fade, (s.chain x).req with
  | some f, _ => s.fadeOut x f
  | none, some (b, n, t) =>
    if s.tick ≤ t then one act s
    else
      let s1 := s.updChain x fun k => { k with req := none }
      if b = act ∨ !en ∨ n = 0 then one b (s1.swapDone x b)
      else s1.fadeOut x { j := 0, len := n, old := act, new := b }
  | none, none => one act s
/-- The DC blocker: the output, and the estimate after it (R205). -/
def dcStep (e : Rat) (k : Nat) (freeze : Bool) (i : Smp) : Smp × Rat :=
  let v := sat24 (roundAway ((i.v : Rat) - e))
  ({ i with v := v.1, ovr := i.ovr || v.2 }, if freeze || i.gap || i.settle || i.ovr then e else e + ((i.v : Rat) - e) / 2 ^ k)
/-- FIR_OUTPUT: once per FIR period, in the chain's ticks (Table 9.1). -/
def State.firRun (s : State) (x : Strm) : State :=
  let k := s.chain x
  if s.tick % (50 * 2 ^ s.hOf x) ≠ 0 ∨ k.capTick ≠ some s.tick ∨ k.firTick = some s.tick then s
  else
    let r := s.firNext x
    let fr := s.on (F.SC_DC_FREEZE x)
    let d := dcStep k.est (dcShift (s.reg (F.SC_DC_K x))) fr r.1
    let o : FirOut := { s := d.1, bank := r.2.1, fade := r.2.2.1, dcf := fr, t := s.hub.time }
    let prev := (k.res.head?.map (·.s)).getD zeroSmp
    let s1 := (r.2.2.2.updChain x fun k => { k with firTick := some s.tick, est := d.2, res := (o :: k.res).take 64 }).setReg (F.SC_DC_EST x)
      (unsgn 24 (sat24 (roundOpen 33 d.2)).1)
    if beginsOver (hist k.fir (if s.on (F.SC_CFG_FIR_EN x) then 96 else 1)) prev d.1 then s1.overBegins x else s1
def execFirOutput (x : Strm) (s : State) : Host.Outcome State Fault Refusal := onHub (fun s => s.firRun x) s
/-- SC_DC.CLEAR (R205). -/
def State.dcCleared (s : State) (x : Strm) : State := (s.updChain x fun k => { k with est := 0 }).setReg (F.SC_DC_EST x) 0
/-- A swap request (R201, R203). -/
def State.swapAsk (s : State) (x : Strm) (bank len : Nat) : State :=
  let k := s.chain x
  let s1 := s.setReg (F.SC_SWAP_FADE x) len
  let s2 := if k.req.isSome then (s1.tally (F.SC_SWAP_REPLACED x)).cause (.chain x) 1 else s1
  if k.fade.isNone && bank == s.reg (F.SC_SWAP_BANK x) then (s2.updChain x fun k => { k with req := none }).cause (.chain x) 0
  else s2.updChain x fun k => { k with req := some (bank, len, s.tick) }
/-- A synchronising reset (R204, R215, R224): every stage after the decimator starts anew. A fade that runs ends, and a request that waits
for its end is carried out at once; one that waits with no fade for the next FIR output waits on (R201, R204). Its capture instant t_r is the last one at or
before it (R216, log entry 162). -/
def State.syncReset (s : State) (x : Strm) : State :=
  let k := s.chain x
  let s1 := match k.fade with | some f => s.swapDone x f.new | none => s
  let s2 := match k.fade, k.req with | some _, some r => s1.swapDone x r.1 | _, _ => s1
  let s3 := s2.updChain x fun k =>
    { k with hb := k.hb.map fun l => l.map Smp.cleared, fir := k.fir.map Smp.cleared, res := [], req := if k.fade.isSome then none else k.req
             fade := none, capCnt := 0, sync := s.tick / 50 * 50 }
  let s4 := (s3.setReg (F.SC_STATUS_COARSE_SETTLING x) 1).setReg (F.SC_STATUS_FINE_SETTLING x) 1
  (s4.cmpUnset x false).cmpUnset x true

/-! ### The resampler -/

/-- D of a chain in 1/16 FIR sample, 0 while FIR_EN is 0 (R208). -/
def State.delayD (s : State) (x : Strm) : Nat := if s.on (F.SC_CFG_FIR_EN x) then s.setDelay (s.reg (F.SC_CFG_SET x)) else 0
/-- The latency up to the FIR with the set's delay, in ns (R207, R208). -/
def State.fineLag (s : State) (x : Strm) : Rat :=
  1260 + 4200 * (2 ^ s.hOf x - 1) + (s.delayD x : Rat) / 16 * tFir (s.hOf x)
/-- The period in effect in 2^-24 ns (R206). -/
def State.period (s : State) (x : Strm) : Nat := resPeriod (s.pair (F.SC_PERIOD_LO x) (F.SC_PERIOD_HI x)) (s.hOf x)
/-- The first instant of a period after one, those jumped by steps left out (R206, R210, Table 11.1); in 2^-24 ns. -/
def nextInstant (p : Nat) (last : Nat) (jumps : List (Nat × Nat)) : Nat :=
  jumps.foldl (fun t j => if j.1 * 2 ^ 24 < t ∧ t < j.2 * 2 ^ 24 then (j.2 * 2 ^ 24 + p - 1) / p * p else t) ((last / p + 1) * p)
/-- The next instant to produce: after the last one, or before any the latest whose sample can be produced. -/
def State.fineInstant (s : State) (x : Strm) : Nat :=
  let p := s.period x
  match (s.chain x).lastT with
  | some l => nextInstant p l (s.chain x).jump
  | none =>
    let r : Rat := ((s.now : Rat) - s.fineLag x - ((8 * tFir (s.hOf x) : Nat) : Rat)) * 2 ^ 24
    (r / ((p : Nat) : Rat)).floor.toNat * p
/-- A tap of the resampler's prototype of 64 phases, times 2^30, with unity DC gain; what follows the last phase is phase 0 moved one input on
(R207). -/
def protoTap (ph i : Nat) : Int :=
  if ph = 32 ∧ i = 8 then
    64 * 2 ^ 30 - (List.range 64).foldl (fun a p => (List.range 16).foldl (fun b j => if p = 32 ∧ j = 8 then b else b + Config.protoTap p j) a) 0
  else if ph = 64 then (if i = 0 then 0 else Config.protoTap 0 (i - 1))
  else Config.protoTap ph i
/-- The value at a position between the two middle inputs of 16, with the prototype interpolated between its phases (R207). -/
def protoSum (l : List Smp) (mu : Rat) : Rat :=
  let ph := (mu * 64).floor.toNat
  let fr := mu * 64 - ph
  (l.zipIdx.foldl (fun a p => a + ((protoTap ph p.2 : Rat) * (1 - fr) + (protoTap (ph + 1) p.2 : Rat) * fr) * p.1.v) (0 : Rat)) / 2 ^ 30
/-- FINE_SAMPLE: the sample of the next instant, once its time has come (R206 to R208). -/
def State.fineRun (s : State) (x : Strm) : State :=
  let k := s.chain x
  let h := s.hOf x
  let t := s.fineInstant x
  let tn : Rat := (t : Rat) / 2 ^ 24
  if (s.now : Rat) < tn + s.fineLag x + 8 * tFir h then s
  else
    let pos := fun o : FirOut => (o.t : Rat) / 2 ^ 32 - s.fineLag x
    let after := (k.res.takeWhile fun o => tn < pos o).reverse
    let before := k.res.dropWhile fun o => tn < pos o
    let lo := (hist (before.map (·.s)) 8).reverse
    let l := lo ++ hist (after.map (·.s)) 8
    let mu : Rat := match before, after with
      | a :: _, b :: _ => if pos b = pos a then 0 else (tn - pos a) / (pos b - pos a)
      | _, _ => 0
    let v := sat24 (roundOpen 34 (protoSum l mu))
    let f := flagged v.1 v.2 l 7
    let o : Smp := { f with settle := decide (s.tick < k.sync + settleNs h (s.on (F.SC_CFG_FIR_EN x)) / 4) }
    let w := match before with
      | a :: _ => smpWord o a.dcf a.fade a.bank
      | [] => smpWord o (s.on (F.SC_DC_FREEZE x)) false (s.reg (F.SC_SWAP_BANK x))
    let s0 := s.updChain x fun k => { k with lastT := some t, jump := k.jump.filter fun j => t < j.2 * 2 ^ 24 }
    let s1 := (if beginsOver l { v := 0, ovr := bit (s.reg (F.SC_FINE x)) 2 } o then s0.overBegins x else s0).setReg (F.SC_FINE x) w
    (s1.compare x true o.v o.settle o.gap w tn.floor.toNat).feedStream true x w t tn.floor.toNat
def execFineSample (x : Strm) (s : State) : Host.Outcome State Fault Refusal := onHub (fun s => s.fineRun x) s

end Sys2Proof.Machine
end

