-- ==== Sys2Proof/Machine/Iol.lean ====
section
/-! DEFINITION. IO-Link master ports: the port state machine of the firmware, ISDUs and events on rings 4 and 5, the cycles of
the group die, and the SIO states (R255 to R271). -/

namespace Sys2Proof.Machine

/-! ### The firmware and ring 5 -/

/-- Whether firmware runs: STATE is RUNNING or SWITCHING (R408). -/
def State.fwRuns (s : State) : Bool := s.reg F.FW_STATUS_STATE == 2 || s.reg F.FW_STATUS_STATE == 3
/-- Whether firmware takes requests: not while it hands over (R404). -/
def State.fwTakes (s : State) : Bool := s.reg F.FW_STATUS_STATE == 2
/-- Whether a channel is a port: IO-Link C/Q is active on it and no change is under way. -/
def State.isPort (s : State) (c : Ch) : Bool := s.reg (F.CH_MODE_STATUS_ACTIVE c) == 8 && !s.changing c
/-- STATE of a port. -/
def State.portState (s : State) (c : Ch) : Nat := s.reg (F.IOL_CTRL_STATE c)
/-- Whether ring 5 takes an entry now: firmware runs, and the ring is enabled and has room (R269, R332, R408). -/
def State.room5 (s : State) : Bool :=
  s.fwRuns && s.ringRuns 5 && decide (s.ringPending 5 + (s.ring 5).out.length < s.ringSize 5)

/-- One pending entry of a port, with its merged count at a byte, goes to ring 5 or takes the pending one's place (R269). -/
def mergeEnt (old : Option (OutEntry × Nat)) (e : OutEntry) : OutEntry × Nat :=
  match old with
  | none => (e, 0)
  | some x => (e, min 255 (x.2 + 1))
/-- A PORT_STATE entry. -/
def State.putState (s : State) (c : Ch) (e : OutEntry) : State :=
  let x := mergeEnt (s.ch c).port.stateEnt e
  if s.room5 then (s.ringOut 5 { x.1 with body := (10, 1, x.2) :: x.1.body }).updPort c fun p => { p with stateEnt := none }
  else s.updPort c fun p => { p with stateEnt := some x }
/-- A PD_IN entry. -/
def State.putPd (s : State) (c : Ch) (e : OutEntry) : State :=
  let x := mergeEnt (s.ch c).port.pdEnt e
  if s.room5 then (s.ringOut 5 { x.1 with body := (7, 1, x.2) :: x.1.body }).updPort c fun p => { p with pdEnt := none }
  else s.updPort c fun p => { p with pdEnt := some x }
/-- An ISDU_RESP or REQ_DONE of a port, behind what already waits. -/
def State.putResp (s : State) (c : Ch) (e : OutEntry) : State :=
  if (s.ch c).port.resp = [] ∧ s.room5 then s.ringOut 5 e else s.updPort c fun p => { p with resp := p.resp ++ [e] }
/-- A PORT_EVENT is delivered: it stands on ring 5 with the machine time of delivery (R269). -/
def State.putEvent (s : State) (c : Ch) (e : OutEntry) : State :=
  if (s.ch c).port.events = [] ∧ s.room5 then (s.ringOut 5 { e with body := (12, 8, s.now) :: e.body }).cause (.ch c) 24
  else s.updPort c fun p => { p with events := p.events ++ [e] }

/-! ### On-request octets and ISDUs -/


/-- On-request octets for a port leave in an IOL command; which octets, and how many, the protocol of the firmware decides, and
they stay open (log entry 8). -/
def State.odSend (s : State) (c : Ch) : State :=
  let p := s.openValue
  let q := p.2.openValue
  let l := (q.2.link (grpOf c))
  if q.2.absent (grpOf c) then q.2
  else q.2.updLink (grpOf c) fun x =>
    { x with iol := x.iol ++ [{ cmd := .iol (chN c) l.iolSeq (leBytes (p.1 % 5) q.1), tag := .plain }], iolSeq := (l.iolSeq + 1) % 16 }
/-- The events of a device are confirmed to it once every one of them stands on ring 5; until then it keeps its event flag set. The
confirmation leaves in on-request octets (R269). -/
def State.confirmEvents (s : State) (c : Ch) : State :=
  if (s.ch c).port.evFlag && (s.ch c).port.events.isEmpty && s.fwRuns then (s.odSend c).updPort c fun p => { p with evFlag := false } else s
/-- An ISDU_RESP entry: request, status, error codes, total, offset, data and whether it is the last (Table 12.6). -/
def respEntry (c : Ch) (q : Isdu) (status err total off : Nat) (data : List Byte) (last : Bool) : OutEntry :=
  { kind := 0x50,
    body := [(4, 2, q.seq), (6, 1, c.val), (7, 1, q.tag), (8, 1, status), (9, 1, b2n last), (10, 2, err), (12, 2, total), (14, 2, off),
             (16, data.length, ofLe data)] }
/-- An ISDU ends with a status and no data. -/
def State.endIsdu (s : State) (c : Ch) (q : Isdu) (status : Nat) : State := s.putResp c (respEntry c q status 0 0 0 [] true)
/-- A REQ_DONE entry. -/
def State.reqDone (s : State) (c : Ch) (seq op status : Nat) : State :=
  s.putResp c { kind := 0x51, body := [(4, 2, seq), (6, 1, c.val), (7, 1, op), (8, 1, status)] }
/-- What names an ISDU_WRITE among those of a channel byte: tag, index and subindex (Table 12.5). -/
def Isdu.key (q : Isdu) (n : Nat) : Nat × Nat × Nat × Nat := (n, q.tag, q.index, q.sub)
/-- The fragments that still come of an ISDU_WRITE are passed over, up to its last one, or are so no longer (R267). -/
def State.markDead (s : State) (k : Nat × Nat × Nat × Nat) (on : Bool) : State :=
  let l := s.fw.dead.filter (· ≠ k)
  { s with fw := { s.fw with dead := if on then k :: l else l } }
/-- The ISDU_WRITE of a port of which fragments are still to come ends with a status; what still comes of it is passed over (R267). -/
def State.endFrag (s : State) (c : Ch) (status : Nat) : State :=
  match (s.ch c).port.frag with
  | some f => ((s.endIsdu c f status).markDead (f.key c.val) true).updPort c fun p => { p with frag := none }
  | none => s
/-- Every ISDU of a port ends with status 4 (R261, R263, R264). -/
def State.endIsdus (s : State) (c : Ch) : State :=
  let p := (s.ch c).port
  ((p.isdu.toList ++ p.queue).foldl (fun s q => s.endIsdu c q 4) (s.updPort c fun p => { p with isdu := none, queue := [] })).endFrag c 4
/-- The next ISDU of a port starts, unless one is on the line, a response waits, or the firmware hands over (R268, R269, R404). -/
def State.nextIsdu (s : State) (c : Ch) : State :=
  let p := (s.ch c).port
  match p.isdu, p.queue, p.resp with
  | none, q :: t, [] => if s.fwTakes then (s.updPort c fun p => { p with isdu := some q, queue := t }).odSend c else s
  | _, _, _ => s
/-- What waits at a port for room on ring 5 goes out, as far as there is room (R269). -/
def State.drainPort (s : State) (c : Ch) : State :=
  let s1 := (s.ch c).port.events.foldl (fun s e =>
    if s.room5 then ((s.ringOut 5 { e with body := (12, 8, s.now) :: e.body }).cause (.ch c) 24).updPort c fun p => { p with events := p.events.drop 1 }
    else s) s
  let s1 := s1.confirmEvents c
  let s2 := (s1.ch c).port.resp.foldl (fun s e =>
    if s.room5 then (s.ringOut 5 e).updPort c fun p => { p with resp := p.resp.drop 1 } else s) s1
  let s3 := match (s2.ch c).port.stateEnt with
    | some x => if s2.room5 then (s2.ringOut 5 { x.1 with body := (10, 1, x.2) :: x.1.body }).updPort c fun p => { p with stateEnt := none } else s2
    | none => s2
  let s4 := match (s3.ch c).port.pdEnt with
    | some x => if s3.room5 then (s3.ringOut 5 { x.1 with body := (7, 1, x.2) :: x.1.body }).updPort c fun p => { p with pdEnt := none } else s3
    | none => s3
  s4.nextIsdu c
/-- Room has come on ring 5. -/
def State.drain5 (s : State) : State := (List.finRange 32).foldl (fun s c => s.drainPort c) s

/-! ### Port states -/

/-- The identity bytes of a PORT_STATE entry (Table 12.6). -/
def State.identPlaces (s : State) (c : Ch) : List Place :=
  match (s.ch c).port.dev with
  | none => []
  | some d => [(20, 2, d.vendor), (22, 3, d.device), (25, 1, d.revision), (26, 1, d.minCycle), (27, 1, d.mseq), (28, 1, s.reg (F.IOL_CTRL_COM c))]
/-- STATE and REASON take a value; a change sets PORT_STATE and makes an entry (R259). COM and PD_VALID go with the states
that have a device. -/
def State.portSet (s : State) (c : Ch) (st rs : Nat) : State :=
  let old := s.portState c
  if old = st ∧ s.reg (F.IOL_CTRL_REASON c) = rs then s
  else
    let s1 := (s.setReg (F.IOL_CTRL_STATE c) st).setReg (F.IOL_CTRL_REASON c) rs
    let s2 := if 5 ≤ st ∧ st ≤ 8 then s1 else s1.setReg (F.IOL_CTRL_COM c) 0
    let s3 := if st = 7 then s2 else s2.setReg (F.IOL_CTRL_PD_VALID c) 0
    let s4 := if st = 1 then s3.updCh c fun k => { k with valid := false, qual := false, comp := false } else s3
    (s4.cause (.ch c) 25).putState c
      { kind := 0x52,
        body := [(6, 1, c.val), (7, 1, st), (8, 1, rs), (9, 1, old), (12, 8, s.now)] ++ (if 6 ≤ st ∧ st ≤ 8 then s4.identPlaces c else []) }
/-- A word of a channel is sent as it now stands, outside the image counts: IOL_PD is kept on the hub die (R271). -/
def State.sendPlain (s : State) (c : Ch) (off : Nat) : State :=
  if s.absent (grpOf c) then s
  else s.updLink (grpOf c) fun l =>
    l.enqWrite { cmd := .write (inGroup (.ch c) off / 4) (wordOf s.regs (.ch c) off), tag := .plain }
/-- The firmware commands the supplier of a port: the one in effect, or that of the image while the channel is no port yet (R257). -/
def State.supplierCmd (s : State) (c : Ch) (on : Bool) : State :=
  match (if s.isPort c then s.feeder c else s.supplier c) with
  | none => s
  | some d => ((s.setReg (F.OUT_CMD_ON d) (b2n on)).sendWord (.ch d) 0x40).2
/-- A supplier in a state of rank 1 to 5 or 7, as its mirror shows it (R257, Table 4.7). -/
def State.supplierDown (s : State) (d : Ch) : Bool :=
  let st := s.reg (F.OUT_STATE_STATE d)
  st == 6 || st == 7 || st == 8 || st == 9 || s.on (F.OUT_STATE_SUPPLY_OFF d) || s.on (F.CH_MODE_STATUS_NOT_PERMITTED d)
/-- Whether the supplier of a port is down: from a protective state of rank 1 to 7 on, until it conducts again (R257). -/
def State.feedDown (s : State) (c d : Ch) : Bool := s.supplierDown d || ((s.ch c).port.down && !s.on (F.OUT_STATE_SWITCH d))
/-- The highest cause of NO_SUPPLY present, in the order 4, 5, 3, 2, 1, 9; 0 for none (R261). -/
def State.noSupply (s : State) (c : Ch) : Nat :=
  let g := grpOf c
  let p := (s.ch c).port
  if s.absent g then 4
  else if s.on (F.GRP_STATUS_SAFE g) || s.on (F.GRP_STATUS_LIMP g) then 5
  else if !s.on (F.CH_PERMIT c) then 3
  else match s.feeder c with
    | some d => if s.feedDown c d then 2 else if p.hostOff then 1 else if p.rxOnly then 9 else 0
    | none => if p.rxOnly then 9 else 0
/-- What a port does once it has power: it seeks, with reason 6 while no device has answered since a loss, or enters the SIO state of its
TARGET (R259, R260). -/
def State.portGo (s : State) (c : Ch) : State :=
  match s.reg (F.IOL_CTRL_TARGET c) with
  | 0 => s.portSet c 4 (if (s.ch c).port.lost then 6 else 0)
  | 2 => s.portSet c 2 0
  | _ => s.portSet c 1 0
/-- POWERING, left at once with a direct supply (Table 12.3). -/
def State.powering (s : State) (c : Ch) : State :=
  let s1 := s.portSet c 3 0
  if (s1.feeder c).isNone then s1.portGo c else s1
/-- A started port goes to NO_SUPPLY while a cause is present, and to POWERING once none is (R257, R261). -/
def State.portCheck (s : State) (c : Ch) : State :=
  if !s.fwRuns || !s.isPort c || !s.on (F.IOL_CTRL_START c) || s.portState c == 0 then s
  else
    let r := s.noSupply c
    let s := s.updPort c fun p => { p with down := (s.feeder c).any fun d => s.feedDown c d }
    if r ≠ 0 then (if s.portState c = 9 then s else s.endIsdus c).portSet c 9 r
    else if s.portState c = 9 then s.powering c else s
/-- The check of every port of a group. -/
def State.portChecks (s : State) (g : Grp) : State := (chansOf g).foldl (fun s c => s.portCheck c) s
/-- An SIO port whose TARGET names another state leaves its state (Table 12.3). -/
def State.targetCheck (s : State) (c : Ch) : State :=
  let st := s.portState c
  let t := s.reg (F.IOL_CTRL_TARGET c)
  if (st = 1 ∧ (t = 0 ∨ t = 2)) ∨ (st = 2 ∧ t ≠ 2) then (if t = 0 then s.powering c else s.portGo c) else s
/-- START written 1: the supplier is commanded on, also by a write that finds START at 1 already (R257). -/
def State.supplierOn (s : State) (c : Ch) : State := (s.updPort c fun p => { p with hostOff := false }).supplierCmd c true
/-- A started port leaves INACTIVE for its SIO state or POWERING (R260). -/
def State.portBegin (s : State) (c : Ch) : State :=
  let s1 := s.updPort c fun p => { p with asked := false }
  (if s1.portState c ≠ 0 then s1
   else if s1.reg (F.IOL_CTRL_TARGET c) = 0 then s1.powering c else s1.portGo c).portCheck c
/-- What a started port does once IO-Link C/Q is active and firmware runs: it enters POWERING where its group has attached or has left
the safe state or limp-home, and begins where its START waits (R260, R261). -/
def State.portActive (s : State) (c : Ch) : State :=
  if s.fwRuns && s.isPort c && s.on (F.IOL_CTRL_START c) then
    (if (s.ch c).port.power then
      let s1 := s.updPort c fun p => { p with power := false, asked := false }
      (if s.portState c = 0 ∨ s.noSupply c = 0 then s1.powering c else s1).portCheck c
     else if (s.ch c).port.asked && s.portState c == 0 then s.portBegin c else s.portCheck c)
  else s
/-- A group has attached, or has left the safe state or limp-home: each of its ports with START at 1 enters POWERING, once it is active
and firmware runs (R261). -/
def State.portsPower (s : State) (g : Grp) : State :=
  (chansOf g).foldl (fun s c =>
    (s.updPort c fun p => { p with power := p.power || (s.imgMode c == 8 && s.on (F.IOL_CTRL_START c)) }).portActive c) s
/-- START 0: the port is INACTIVE and forgets its reference; the supplier stays as it is (R257, R262). -/
def State.portEnd (s : State) (c : Ch) : State :=
  ((s.endIsdus c).portSet c 0 0).updPort c fun p =>
    { p with ref := none, asked := false, power := false, cycOff := none, hostOff := false, lost := false }
/-- The present device of a port HELD with reason 8 becomes its reference and proceeds (R262). -/
def State.takeDevice (s : State) (c : Ch) : State :=
  if s.portState c == 8 && s.reg (F.IOL_CTRL_REASON c) == 8 then
    (s.updPort c fun p => { p with ref := p.dev.map fun d => (d.vendor, d.device, d.revision) }).portSet c 6 0
  else s
/-- What a write of IOL_CTRL does beside the fields it stores; `start` says that START is among the bytes written (R257 to R262). The
reference is forgotten whatever the port does; a START 1 that finds no port, or no firmware, waits, and so does an ADMIT 1 that a HELD port
gets while no firmware runs (R257, R261, R262, R408). -/
def State.iolCtrlWritten (s : State) (c : Ch) (start ask : Bool) : State :=
  let on := s.on (F.IOL_CTRL_START c)
  let stopped := on && !s.fwRuns
  let s0 := if start then s.updPort c fun p =>
      { p with ref := if on then p.ref else none, asked := on && s.imgMode c == 8, startDue := stopped && s.imgMode c == 8, power := p.power && on }
    else s
  let s0 := s0.updPort c fun p =>
    { p with admitDue := on && (p.admitDue || (stopped && ask && s.portState c == 8 && s.reg (F.IOL_CTRL_REASON c) == 8)) }
  let s1 := if start && on && s0.fwRuns && s0.imgMode c == 8 then s0.supplierOn c else s0
  if !s1.isPort c || !s1.fwRuns then s1
  else if !on then (if s1.portState c = 0 then s1 else s1.portEnd c)
  else
    let s2 := (if start then s1.portBegin c else s1).targetCheck c
    if ask then s2.takeDevice c else s2
/-- Process data beyond the device's lengths read 0 (R266). -/
def pdMask (n v : Nat) : Nat := if n = 0 then 0 else if n = 1 then v % 256 else v % 65536
/-- PDOUT keeps the bits that the device that is present has (R266). -/
def State.pdOutMask (s : State) (c : Ch) : State :=
  match (s.ch c).port.dev with
  | some d => if 6 ≤ s.portState c ∧ s.portState c ≤ 8 then s.setReg (F.IOL_PD_PDOUT c) (pdMask d.pdOut (s.reg (F.IOL_PD_PDOUT c))) else s
  | none => s
/-- A write of PDOUT: it goes to the group die, and in OPERATE the device is told that outputs are valid (R266). -/
def State.pdOutWritten (s : State) (c : Ch) : State :=
  ((if s.portState c = 7 then s.updPort c fun p => { p with outOk := true } else s).pdOutMask c).sendPlain c 0xEC
/-- The output data reach the group die. -/
def State.pdOutDie (s : State) (c : Ch) (v : Nat) : State :=
  s.updPort c fun p => { p with dieOut := v % 2 ^ 16, outs := p.outs ++ [(v % 2 ^ 16, s.at c)] }
/-- The level that a port drives onto C/Q: that of PDOUT bit 0 in SIO output; the line is receive only otherwise, and under an overload,
without a permit, in the safe state and in limp-home (R258, R260, R261). -/
def State.cqLevel (s : State) (c : Ch) : Option Bool :=
  let d := s.dieOf (grpOf c)
  if s.portState c != 2 || (s.ch c).mode != 8 || (s.ch c).park.isSome || d.safe || d.limp || !s.permit c || (s.ch c).port.rxOnly then none
  else some (bit (s.ch c).port.dieOut 0)
/-- Host software writes the OUT_CMD of a channel that serves as a port's supplier (R257). -/
def State.supplierWritten (s : State) (d : Ch) : State :=
  (chansOf (grpOf d)).foldl (fun s c =>
    if s.feeder c == some d && s.on (F.IOL_CTRL_START c) then
      (s.updPort c fun p => { p with hostOff := !s.on (F.OUT_CMD_ON d), startDue := false }).portCheck c
    else s) s
/-- A supplier has been shed: its ports are without it until it conducts again (R102, R257). -/
def State.supplierShed (s : State) (d : Ch) : State :=
  (chansOf (grpOf d)).foldl (fun s c =>
    if s.feeder c == some d && s.on (F.IOL_CTRL_START c) then (s.updPort c fun p => { p with down := true }).portCheck c else s) s
/-- A change of mode begins on a port: its ISDUs end (R270). -/
def State.portLeaves (s : State) (c : Ch) : State :=
  (s.endIsdus c).updPort c fun p => { p with asked := false, startDue := false, admitDue := false, power := false }
/-- The channel has left IO-Link mode: the port is INACTIVE (R270). -/
def State.portLeft (s : State) (c : Ch) : State := if s.portState c = 0 then s else s.portSet c 0 0
/-- Communication is lost: ISDUs end and the port seeks again (R263). -/
def State.portLost (s : State) (c : Ch) : State := ((s.endIsdus c).portSet c 4 6).updPort c fun p => { p with missed := 0, lost := true }

/-! ### Firmware that starts -/

/-- What firmware that runs again does at a channel: its ISDUs end with status 4; START 1 written meanwhile commands the supplier on, START 0
ends the port, ADMIT 1 written meanwhile is carried out, and the causes of NO_SUPPLY are looked at (R257, R262, R270, R408). -/
def State.portResumed (s : State) (c : Ch) : State :=
  let p := (s.ch c).port
  let on := s.on (F.IOL_CTRL_START c)
  let s1 := (s.endIsdus c).updPort c fun p => { p with startDue := false, admitDue := false }
  let s2 := if p.startDue && on && s.imgMode c == 8 then s1.supplierOn c else s1
  if !s2.isPort c then s2
  else if !on then (if s2.portState c = 0 then s2 else s2.portEnd c)
  else
    let s3 := if s2.portState c = 0 then s2 else s2.targetCheck c
    (if p.admitDue then s3.takeDevice c else s3).portActive c
/-- Firmware runs again after a stop or a cold start (R270, R408). -/
def State.fwResumed (s : State) : State := ((List.finRange 32).foldl (fun s c => s.portResumed c) s).drain5
/-- Firmware runs on after a hitless update: ports and queued ISDUs are kept (R404). -/
def State.fwHanded (s : State) : State := ((List.finRange 32).foldl (fun s c => s.portCheck c) s).drain5

/-! ### Discovery -/

/-- POWERING_END: 300 ms after the supplier conducts. -/
def execPoweringEnd (c : Ch) (s : State) : Host.Outcome State Fault Refusal :=
  onHub (fun s =>
    let up := match s.feeder c with | some d => s.on (F.OUT_STATE_SWITCH d) | none => true
    if s.fwRuns && s.portState c == 3 && up then s.portGo c else s) s
/-- WAKE_UP: a pulse of the seeking rhythm, three and then a rest (Table 12.3). -/
def execWakeUp (c : Ch) (s : State) : Host.Outcome State Fault Refusal :=
  onHub (fun s => if s.fwRuns && s.portState c == 4 then s.updPort c fun p => { p with pulses := p.pulses % 3 + 1 } else s) s
/-- DEVICE_ANSWER: a device answers an attempt at a COM rate. -/
def execDeviceAnswer (c : Ch) (com : Fin 4) (s : State) : Host.Outcome State Fault Refusal :=
  onHub (fun s =>
    if s.fwRuns && s.portState c == 4 && com.val != 0 then
      ((s.setReg (F.IOL_CTRL_COM c) com.val).updPort c fun p => { p with pulses := 0, missed := 0, lost := false }).portSet c 5 0
    else s) s
/-- Whether a device is incompatible (R262). -/
def incompatible (d : IolDevice) : Bool := !d.fixedTypes || decide (132800 < iolCycleUs d.minCycle)
/-- Inspection of direct parameter page 1 (R262). -/
def State.inspect (s : State) (c : Ch) (d : IolDevice) : State :=
  let id := (d.vendor, d.device, d.revision)
  let s1 := s.updPort c fun p => { p with dev := some d }
  if incompatible d then s1.portSet c 8 7
  else match (s.ch c).port.ref with
    | none => (s1.updPort c fun p => { p with ref := some id }).portSet c 6 0
    | some r => if r = id then s1.portSet c 6 0 else s1.portSet c 8 8
def execPage1Inspected (c : Ch) (d : IolDevice) (s : State) : Host.Outcome State Fault Refusal :=
  onHub (fun s => if s.fwRuns && s.portState c == 5 then (s.inspect c d).pdOutMask c else s) s
/-- The cycle in effect in ns: the greatest of CYCLE, the device's MinCycleTime and the floor (R265). -/
def State.cycleNs (s : State) (c : Ch) : Nat :=
  let dev := match (s.ch c).port.dev with | some d => iolCycleUs d.minCycle | none => 0
  max (max (iolCycleUs (s.reg (F.IOL_CTRL_CYCLE c))) dev) (iolFloorUs (s.reg (F.IOL_CTRL_COM c))) * 1000
/-- A MasterCycleTime write to the device brings CYCLE and OFFSET into effect (R265). -/
def State.masterCycle (s : State) (c : Ch) : State :=
  s.updPort c fun p => { p with cycle := s.cycleNs c, offset := s.reg (F.IOL_CTRL_OFFSET c) * s.cycleNs c / 256 }
/-- PREOPERATE_DONE: operate is commanded; the device is told that outputs are invalid (R259, R266). -/
def execPreoperateDone (c : Ch) (s : State) : Host.Outcome State Fault Refusal :=
  onHub (fun s =>
    if s.fwRuns && s.portState c == 6 then
      ((s.masterCycle c).updPort c fun p => { p with outOk := false, missed := 0, lastStart := none }).portSet c 7 0
    else s) s

/-! ### Cycles -/

/-- PDIN as its octets lie from byte 8 of a PD_IN entry: the first octet on the line first (R266, Table 12.6). -/
def pdBytes (n v : Nat) : Nat := if n = 2 then v / 256 % 256 + v % 256 * 256 else v % 256
/-- PDIN takes a value of a cycle that started at an instant; a change raises PD_IN and PD_CHANGE while PD_NOTIFY is 1. -/
def State.pdIn (s : State) (c : Ch) (n v start : Nat) : State :=
  if s.reg (F.IOL_PD_PDIN c) = v then s
  else
    let s1 := s.setReg (F.IOL_PD_PDIN c) v
    if s1.on (F.IOL_CTRL_PD_NOTIFY c) then
      (s1.cause (.ch c) 23).putPd c { kind := 0x54, body := [(6, 1, c.val), (8, 2, pdBytes n v), (12, 8, start)] }
    else s1
/-- The start of a port's cycle at or before an instant of its die's machine time: k x C + OFFSET x C / 256 (R265). -/
def Port.gridStart (p : Port) (now : Nat) : Option Nat :=
  if p.cycle = 0 ∨ now < p.offset then none else some ((now - p.offset) / p.cycle * p.cycle + p.offset)
/-- A message failed, or a good one ended a run of failures; the third in a row is a loss (R263). -/
def State.portMessage (s : State) (c : Ch) (good : Bool) : State :=
  let s1 := s.updPort c fun p => { p with missed := if good then 0 else p.missed + 1 }
  if 3 ≤ (s1.ch c).port.missed ∧ s1.fwRuns then s1.portLost c else s1
/-- A cycle of a port in OPERATE (R263, R265, R266). -/
def State.portCycle (s : State) (c : Ch) (good : Bool) (pd : Nat) : State :=
  let p := (s.ch c).port
  let g := grpOf c
  match p.gridStart (s.at c) with
  | none => s
  | some t =>
    if (match p.lastStart with | some l => decide (t < l + p.cycle) | none => false) then s
    else
      let due := p.outs.filter fun o => o.2 + 2000 ≤ t
      let s1 := s.updPort c fun p =>
        { p with lastStart := some t, lineOut := ((due.getLast?).map (·.1)).getD p.lineOut, outs := p.outs.filter fun o => !(o.2 + 2000 ≤ t),
                 odOut := [] }
      let s2 := if p.odOut = [] then s1
        else let v := s1.openValue; v.2.updDie g fun d => { d with iolQ := d.iolQ ++ [.iol (chN c) (leBytes p.odOut.length v.1)] }
      let n := match p.dev with | some d => d.pdIn | none => 0
      let s3 := if good then (s2.setReg (F.IOL_CTRL_PD_VALID c) 1).pdIn c n (pdMask n pd) t else s2.setReg (F.IOL_CTRL_PD_VALID c) 0
      let s4 := s3.portMessage c good
      if s4.fwRuns && s4.portState c == 7 then s4.masterCycle c else s4
/-- IOL_CYCLE: a master message and its answer. In STARTUP, PREOPERATE and HELD it is a message without process data. The line
is receive only in the safe state, in limp-home and without a permit, and the cycle needs MCLKx (R256, R261). -/
def execIolCycle (c : Ch) (good : Bool) (pd : Nat) (s : State) : Host.Outcome State Fault Refusal :=
  onBoth (grpOf c) (fun s =>
    let d := s.dieOf (grpOf c)
    let st := s.portState c
    if (s.ch c).mode != 8 || (s.ch c).park.isSome || d.safe || d.limp || !s.permit c || (s.ch c).port.rxOnly then s
    else if st = 7 then (if d.timed then s.portCycle c good pd else s)
    else if (st = 5 ∨ st = 6 ∨ st = 8) ∧ s.fwRuns then s.portMessage c good
    else s) s
/-- EDGE_QUALIFIED: in the SIO input state the level reaches PDIN bit 0 and is neither timestamped nor tallied (R260); otherwise
the qualified edge of a digital input. -/
def execEdgeQualified (c : Ch) (s : State) : Host.Outcome State Fault Refusal :=
  onDie (grpOf c) (fun s =>
    if s.sioIn c then
      if !s.filterOver c then s else
      let s1 := s.updCh c fun k => { k with valid := true, qual := k.comp }
      if s1.hubOn && !s1.absent (grpOf c) then s1.pdIn c 1 (b2n (s1.ch c).comp) s1.now else s1
    else s.qualify c) s

/-! ### The C/Q driver -/

/-- DRIVER_OVERLOAD: the driver has stayed at its limit for 1 ms (R258). -/
def execDriverOverload (c : Ch) (s : State) : Host.Outcome State Fault Refusal :=
  onDie (grpOf c) (fun s =>
    if (s.ch c).mode = 8 then
      let s1 := s.updPort c fun p => { p with rxOnly := true }
      if s1.hubOn then s1.portCheck c else s1
    else s) s
/-- DRIVER_RETRY: a try of 1 ms. -/
def execDriverRetry (c : Ch) (limit : Bool) (s : State) : Host.Outcome State Fault Refusal :=
  onDie (grpOf c) (fun s =>
    if (s.ch c).port.rxOnly && !limit then
      let s1 := s.updPort c fun p => { p with rxOnly := false }
      if s1.hubOn then s1.portCheck c else s1
    else s) s

/-! ### Ring 4 -/

/-- A byte of a ring entry. -/
def entByte (e : Entry) (k : Nat) : Nat := bytesAt e k 1
/-- The low half of a request's sequence number. -/
def entSeq (e : Entry) : Nat := bytesAt e 56 2
/-- The firmware takes the request at the head of what it holds, when it has the opcode; it waits for ring 5 (R340). -/
def State.takeReq (s : State) (op : Nat) (k : State → Entry → State) : State :=
  match s.fw.reqs with
  | [] => s
  | e :: t => if s.fwTakes && s.room5 && entByte e 0 == op then k { s with fw := { s.fw with reqs := t } } e else s
/-- The channel a request names, if it is an IO-Link port. -/
def State.reqPort (s : State) (e : Entry) : Option Ch :=
  if h : entByte e 6 < 32 then (if s.isPort ⟨entByte e 6, h⟩ then some ⟨entByte e 6, h⟩ else none) else none
/-- The request as an ISDU. -/
def entIsdu (e : Entry) : Isdu := { seq := entSeq e, tag := entByte e 7, index := bytesAt e 8 2, sub := entByte e 10, write := none }
/-- A refused ISDU whose channel may be no port. -/
def State.refuseIsdu (s : State) (e : Entry) (status : Nat) : State :=
  s.ringOut 5 { kind := 0x50, body := [(4, 2, entSeq e), (6, 1, entByte e 6), (7, 1, entByte e 7), (8, 1, status), (9, 1, 1)] }
/-- Another request to a port whose ISDU_WRITE is not whole: that ISDU is refused (R268). -/
def State.interleave (s : State) (c : Ch) : State := s.endFrag c 6
/-- A whole ISDU is queued, or refused: the port is not communicating, or four wait (R268). -/
def State.queueIsdu (s : State) (c : Ch) (q : Isdu) : State :=
  let p := (s.ch c).port
  let st := s.portState c
  if !(st == 6 || st == 7 || st == 8) then s.endIsdu c q 3
  else if p.isdu.isNone ∧ p.queue = [] ∧ p.resp = [] then (s.updPort c fun p => { p with isdu := some q }).odSend c
  else if 4 ≤ p.queue.length then s.endIsdu c q 5
  else s.updPort c fun p => { p with queue := p.queue ++ [q] }
/-- ISDU_READ. -/
def execIsduRead (s : State) : Host.Outcome State Fault Refusal :=
  onHub (fun s => s.takeReq 0x40 fun s e =>
    match s.reqPort e with
    | none => s.refuseIsdu e 6
    | some c => (s.interleave c).queueIsdu c (entIsdu e)) s
/-- A refused ISDU_WRITE is answered once: what still comes of it is passed over, up to its last fragment (R267). -/
def State.passOver (s : State) (e : Entry) : State := s.markDead ((entIsdu e).key (entByte e 6)) (!bit (entByte e 11) 0)
/-- A fragment of an ISDU_WRITE: it continues the port's ISDU in offset order, or refuses it. A fragment of another request ends the ISDU
before it, and needs offset 0 itself (R267, R268). -/
def State.fragment (s : State) (c : Ch) (e : Entry) : State :=
  let last := bit (entByte e 11) 0
  let total := bytesAt e 12 2
  let off := bytesAt e 14 2
  let n := min 40 (total - off)
  let data := (e.drop 16).take n
  let q := entIsdu e
  let same := fun (f : Isdu) => off ≠ 0 ∧ f.tag = q.tag ∧ f.index = q.index ∧ f.sub = q.sub
  let refuse := fun (s : State) => ((s.endIsdu c q 6).passOver e).updPort c fun p => { p with frag := none }
  let first := fun (s : State) =>
    if off = 0 ∧ 1 ≤ total ∧ total ≤ 232 ∧ (last → n = total) then
      let f1 : Isdu := { q with write := some (total, data) }
      let st := s.portState c
      if last then (s.updPort c fun p => { p with frag := none }).queueIsdu c f1
      else if !(st == 6 || st == 7 || st == 8) then (s.endIsdu c q 3).passOver e
      else s.updPort c fun p => { p with frag := some f1 }
    else refuse s
  match (s.ch c).port.frag with
  | none => first s
  | some f =>
    if !decide (same f) then first ((s.interleave c).markDead (q.key c.val) false)
    else match f.write with
      | some (tot, bs) =>
        if tot = total ∧ bs.length = off ∧ (last → off + n = total) then
          let f1 : Isdu := { q with write := some (total, bs ++ data) }
          if last then (s.updPort c fun p => { p with frag := none }).queueIsdu c f1 else s.updPort c fun p => { p with frag := some f1 }
        else refuse s
      | none => refuse s
/-- ISDU_WRITE. -/
def execIsduWrite (s : State) : Host.Outcome State Fault Refusal :=
  onHub (fun s => s.takeReq 0x41 fun s e =>
    let k := (entIsdu e).key (entByte e 6)
    let more := decide (bytesAt e 14 2 ≠ 0) && s.fw.dead.contains k
    match s.reqPort e with
    | none => if more then s.passOver e else (s.refuseIsdu e 6).passOver e
    | some c => if more then (s.interleave c).passOver e else (s.markDead k false).fragment c e) s
/-- A POWER_CYCLE request at a port (R264). -/
def State.powerCycle (s : State) (c : Ch) (e : Entry) : State :=
  let t := bytesAt e 8 2
  let t1 := if t = 0 then 50 else t
  let s1 := s.interleave c
  if (s1.feeder c).isNone then s1.reqDone c (entSeq e) 0x42 8
  else if t1 < 10 ∨ 6000 < t1 then s1.reqDone c (entSeq e) 0x42 6
  else (((s1.endIsdus c).supplierCmd c false).updPort c fun p => { p with cycOff := some (s.tick + t1 * 2500000) }).reqDone c (entSeq e) 0x42 0
/-- POWER_CYCLE. -/
def execPowerCycle (s : State) : Host.Outcome State Fault Refusal :=
  onHub (fun s => s.takeReq 0x42 fun s e =>
    match s.reqPort e with
    | none => s.ringOut 5 { kind := 0x51, body := [(4, 2, entSeq e), (6, 1, entByte e 6), (7, 1, 0x42), (8, 1, 6)] }
    | some c => s.powerCycle c e) s
/-- POWER_CYCLE_END: the off time is over; the supplier turns on and the port enters POWERING. -/
def execPowerCycleEnd (c : Ch) (s : State) : Host.Outcome State Fault Refusal :=
  onHub (fun s =>
    if s.fwRuns && ((s.ch c).port.cycOff.any fun t => t ≤ s.tick) then
      let s1 := (s.updPort c fun p => { p with cycOff := none }).supplierCmd c true
      if s1.isPort c && s1.on (F.IOL_CTRL_START c) then (s1.powering c).portCheck c else s1
    else s) s
/-- The records of a PD_OUT request up to channel 0xFF (Table 12.5). -/
def pdRecords (e : Entry) : List (Nat × Nat) :=
  ((List.range 12).map fun j => (entByte e (8 + 4 * j), bytesAt e (10 + 4 * j) 2)).takeWhile fun p => p.1 != 0xFF
/-- PD_OUT: PDOUT of each listed port; a channel that is no port makes the request malformed, and it does nothing. -/
def execPdOut (s : State) : Host.Outcome State Fault Refusal :=
  onHub (fun s => s.takeReq 0x43 fun s e =>
    let l := pdRecords e
    let port := fun (n : Nat) => if h : n < 32 then s.isPort ⟨n, h⟩ else false
    let done := fun (s : State) (st : Nat) => s.ringOut 5 { kind := 0x51, body := [(4, 2, entSeq e), (7, 1, 0x43), (8, 1, st)] }
    if l.all fun p => port p.1 then
      done (l.foldl (fun s p => if h : p.1 < 32 then
        (((s.interleave ⟨p.1, h⟩).setReg (F.IOL_PD_PDOUT ⟨p.1, h⟩) p.2).pdOutWritten ⟨p.1, h⟩) else s) s) 0
    else done s 6) s
/-- ABORT: every ISDU of the port ends with status 4. -/
def execAbort (s : State) : Host.Outcome State Fault Refusal :=
  onHub (fun s => s.takeReq 0x44 fun s e =>
    match s.reqPort e with
    | none => s.ringOut 5 { kind := 0x51, body := [(4, 2, entSeq e), (6, 1, entByte e 6), (7, 1, 0x44), (8, 1, 6)] }
    | some c => (s.endIsdus c).reqDone c (entSeq e) 0x44 0) s
/-- A device's answer in entries of up to 40 octets. -/
def respEntries (c : Ch) (q : Isdu) (status err : Nat) (data : List Byte) : List OutEntry :=
  let d := if status = 0 ∧ q.write.isNone then data.take 232 else []
  let k := max 1 ((d.length + 39) / 40)
  (List.range k).map fun j => respEntry c q status (if status = 1 then err else 0) d.length (40 * j) ((d.drop (40 * j)).take 40) (j + 1 == k)
/-- ISDU_RESPONSE: the device answers, with status 0, 1 or 7; the next ISDU starts once the answer stands on ring 5. -/
def execIsduResponse (c : Ch) (status err : Nat) (data : List Byte) (s : State) : Host.Outcome State Fault Refusal :=
  onHub (fun s =>
    match (s.ch c).port.isdu with
    | none => s
    | some q =>
      if s.fwRuns && (status == 0 || status == 1 || status == 7) then
        ((respEntries c q status err data).foldl (fun s e => s.putResp c e) (s.updPort c fun p => { p with isdu := none })).nextIsdu c
      else s) s
/-- ISDU_TIMEOUT: no answer within 5 s (R268). -/
def execIsduTimeout (c : Ch) (s : State) : Host.Outcome State Fault Refusal :=
  onHub (fun s =>
    match (s.ch c).port.isdu with
    | none => s
    | some q => if s.fwRuns then ((s.updPort c fun p => { p with isdu := none }).endIsdu c q 2).nextIsdu c else s) s
/-- PORT_EVENT: the device's event memory, as qualifiers and codes in the order of its slots (R269). -/
def execPortEvent (c : Ch) (ev : List (Nat × Nat)) (s : State) : Host.Outcome State Fault Refusal :=
  onHub (fun s =>
    let st := s.portState c
    if st = 6 ∨ st = 7 ∨ st = 8 then
      (ev.foldl (fun s e => s.putEvent c { kind := 0x53, body := [(6, 1, c.val), (7, 1, e.1), (8, 2, e.2)] })
        (s.updPort c fun p => { p with evFlag := p.evFlag || !ev.isEmpty })).confirmEvents c
    else s) s

end Sys2Proof.Machine
end

