-- ==== Sys2Proof/Machine/Ledger.lean ====
section
/-! DEFINITION. The Ledger: hub records, copies of the local stores, freeze, FAULT_N, and the records' bytes (R431 to R450). -/

namespace Sys2Proof.Machine

/-! ### Slots -/

/-- Whether a hub slot lies in the frozen range: the 64 slots that end with the fatal record (R439). -/
def State.hubFrozen (s : State) (k : Nat) : Bool :=
  s.on F.LDG_STATUS_FROZEN && decide ((s.reg F.LDG_STATUS_FREEZE_LAST + 512 - k % 512) % 512 < 64)
/-- The next slot after one that is not frozen, of n slots; the slot itself when all are. -/
def nextFree (n : Nat) (frozen : Nat → Bool) (k : Nat) : Nat :=
  (((List.range n).map fun j => (k + 1 + j) % n).find? fun j => !frozen j).getD ((k + 1) % n)
/-- Whether a slot of a copy is frozen. -/
def LCopy.frozen (c : LCopy) (k : Nat) : Bool := match c.slots.lookup k with | some x => x.frozen | none => false
/-- A changed copy of a group's store. -/
def State.updCopy (s : State) (g : Grp) (f : LCopy → LCopy) : State :=
  { s with ldg := { s.ldg with copies := s.ldg.copies.set g.val (f s.ldg.copies[g.val]) } }

/-! ### Notifications, FAULT_N and the freeze -/

/-- A LEDGER notification about a record (R450). -/
def State.ldgNote (s : State) (event code src cls seq : Nat) : State :=
  s.notify 0x24 [(12, 1, event), (13, 1, code), (14, 1, 32 * src + cls), (16, 4, seq)]
/-- FAULT_N is asserted by a record; the first record that does so is kept (R442). -/
def State.assertFault (s : State) (code src cls seq : Nat) : State :=
  if s.on F.LDG_STATUS_FAULT then s
  else
    let s1 : State := { s with ldg := { s.ldg with faultSeq := seq } }
    (((((((s1.setReg F.LDG_STATUS_FAULT 1).setReg F.LDG_FAULT_CODE code).setReg F.LDG_FAULT_SOURCE src).setReg F.LDG_FAULT_CLASS cls).setReg
      F.LDG_FAULT_SEQ seq).cause .ldg 0).ldgNote 1 code src cls seq)
/-- Whether a class asserts FAULT_N (R442). -/
def State.asserts (s : State) (cls : Nat) : Bool := cls == 4 || (cls == 3 && faultMin (s.reg F.LDG_CFG_FAULT_MIN) == 3)
/-- The slots of a copy with the 32 newest records frozen (R439). -/
def LCopy.freeze (c : LCopy) (last : Nat) : LCopy :=
  let age := fun (p : Nat × CSlot) => (last + 2 ^ 16 - p.2.r.lseq) % 2 ^ 16
  let newest := ((sortBy (fun a b => decide (age a ≤ age b)) c.slots).take 32).map (·.1)
  { c with slots := c.slots.map fun p => if newest.contains p.1 then (p.1, { p.2 with frozen := true }) else p }
/-- A class 4 record in a hub slot freezes the Ledger, or counts when it is frozen already (R439). -/
def State.freeze (s : State) (slot : Nat) (r : LRec) (seq : Nat) : State :=
  if s.on F.LDG_STATUS_FROZEN then (s.tally F.LDG_TALLY_FREEZE_MISSED).cause .ldg 2
  else
    let s1 := (s.setReg F.LDG_STATUS_FROZEN 1).setReg F.LDG_STATUS_FREEZE_LAST slot
    let s2 := (List.finRange 4).foldl (fun s g =>
      let c := s.ldg.copies[g.val].freeze (s.reg (F.LDG_LOCAL_LAST g))
      let s' := s.updCopy g fun _ => c
      s'.setReg (F.LDG_LOCAL_FROZEN g) (b2n (c.slots.any fun p => p.2.frozen))) s1
    let s3 := (s2.cause .ldg 1).ldgNote 3 r.code r.src r.cls seq
    s3.setReg F.LDG_STATUS_NEXT (nextFree 512 s3.hubFrozen slot)

/-! ### Writing hub records -/

/-- Whether a record repeats the last one written within 1 ms, and is suppressed (R435). -/
def State.suppressed (s : State) (r : LRec) : Bool :=
  s.on F.LDG_CFG_SUPPRESS && decide (r.cls ≤ 1) && match s.ldg.last with
    | some (t, c, src, ch) => decide (s.clock - t < 1000000) && c == r.code && src == r.src && ch == r.ch
    | none => false
/-- A record is written into the next hub slot (R431, R434, R435). T tells that TIME does not advance, as machine time stands still at the
writing or stood still for the record; TIME is then the last one held (log entry 191). -/
def State.ldgPut (s : State) (r : LRec) : State :=
  if s.suppressed r then s.tally F.LDG_TALLY_SUPPRESSED
  else
    let k := s.reg F.LDG_STATUS_NEXT
    let seq := s.reg F.LDG_SEQ
    let x : LSlot := { r := { r with stopped := r.stopped || !s.hubOn }, time := if r.stopped then r.held else s.now, seq := seq, boot := s.reg F.LDG_BOOT }
    let s1 : State := { s with ldg := { s.ldg with slots := putAssoc s.ldg.slots k x, last := some (s.clock, r.code, r.src, r.ch) } }
    let s2 := (s1.setReg F.LDG_SEQ (seq + 1)).setReg F.LDG_STATUS_NEXT (nextFree 512 s1.hubFrozen k)
    let s3 := if r.cls = 4 then s2.freeze k r seq else s2
    if s3.asserts r.cls then s3.assertFault r.code r.src r.cls seq else s3
/-- LEDGER_WRITE: the next record of the queue is written, one each 100 ns; the write engine runs with VAUX, whether or not CCLK does
(R434, R435). -/
def execLedgerWrite (s : State) : Host.Outcome State Fault Refusal :=
  .next (match s.ldg.queue with
    | [] => s
    | r :: t =>
      if s.hub.vaux && s.ldg.wroteAt.all (fun t => decide (t + 100 ≤ s.clock)) then
        ({ s with ldg := { s.ldg with queue := t, wroteAt := some s.clock } } : State).ldgPut r
      else s)
/-- Whether a write of LDG_FW_POST posts: its CODE is one of 0xF0 to 0xFE (R436). -/
def ldgPosts (v : Nat) : Bool := decide (0xF0 ≤ bitsOf v 7 0) && decide (bitsOf v 7 0 ≤ 0xFE)
/-- A write of LDG_FW_POST (R436). -/
def State.ldgPosted (s : State) (v : Nat) : State :=
  let code := bitsOf v 7 0
  if ldgPosts v then
    s.post { code := code, cls := min 2 (bitsOf v 10 8), ch := bitsOf v 23 16, data := s.reg F.LDG_FW_DATA_A + 2 ^ 32 * s.reg F.LDG_FW_DATA_B }
  else s.cause .ldg 4
/-- The fatal record of the freeze that stands. -/
def State.fatal (s : State) : Option LSlot := s.ldg.slots.lookup (s.reg F.LDG_STATUS_FREEZE_LAST)
/-- A write of UNFREEZE: record 0x0F, and the frozen slots return to use (R439). -/
def State.unfreeze (s : State) : State :=
  if !s.on F.LDG_STATUS_FROZEN then s
  else
    let x := s.fatal
    let seq := (x.map (·.seq)).getD 0
    let s1 := s.post { code := 0x0F, cls := 0, data := seq }
    let s2 := (List.finRange 4).foldl (fun s g =>
      (s.updCopy g fun c => { c with slots := c.slots.map fun p => (p.1, { p.2 with frozen := false }) }).setReg (F.LDG_LOCAL_FROZEN g) 0)
      (s1.setReg F.LDG_STATUS_FROZEN 0)
    s2.ldgNote 4 ((x.map (·.r.code)).getD 0) ((x.map (·.r.src)).getD 0) ((x.map (·.r.cls)).getD 0) seq
/-- Whether a channel of a present group still holds Fault-latched with cause 2, as its mirror shows it (R443). -/
def State.stuckLatch (s : State) : Bool :=
  (List.finRange 32).any fun c => !s.absent (grpOf c) && s.reg (F.OUT_STATE_STATE c) == 9 && s.reg (F.OUT_FAULT_CAUSE c) == 2
/-- A write of FAULT_ACK: FAULT_N is released, unless a stuck-on latch remains (R443). -/
def State.faultAck (s : State) : State :=
  if !s.on F.LDG_STATUS_FAULT || s.stuckLatch then s
  else
    ((s.setReg F.LDG_STATUS_FAULT 0).post { code := 0x0E, cls := 0, data := s.ldg.faultSeq }).ldgNote 2 (s.reg F.LDG_FAULT_CODE)
      (s.reg F.LDG_FAULT_SOURCE) (s.reg F.LDG_FAULT_CLASS) s.ldg.faultSeq
/-- The level of FAULT_N: asserted by a record, or by the loss of VAUX (R442). -/
def State.faultN (s : State) : Bool := s.on F.LDG_STATUS_FAULT || !s.hub.vaux

/-! ### Copies of the local stores -/

/-- A local record enters its copy (R438); an empty copy takes any sequence. -/
def State.copyIn (s : State) (g : Grp) (r : LocRec) : State :=
  let last := s.reg (F.LDG_LOCAL_LAST g)
  let empty := s.reg (F.LDG_LOCAL_COUNT g) == 0
  let diff := sgn 16 ((r.lseq + 2 ^ 16 - last) % 2 ^ 16)
  if !empty && decide (diff ≤ 0) then s
  else
    let s1 := if !empty && diff != 1 then (s.tally (F.LDG_LOCAL_GAPS g)).cause .ldg 5 else s
    let c := s1.ldg.copies[g.val]
    let k := if c.frozen c.next then nextFree 64 c.frozen c.next else c.next
    let c1 : LCopy := { slots := putAssoc c.slots k { r := r, frozen := false }, next := nextFree 64 c.frozen k }
    let s2 := ((s1.updCopy g fun _ => c1).setReg (F.LDG_LOCAL_LAST g) r.lseq).setReg (F.LDG_LOCAL_COUNT g) c1.slots.length
    if s2.asserts r.cls then s2.assertFault r.code (g.val + 1) r.cls r.lseq else s2
/-- The copy of a die whose identity differs starts again, empty (R438). -/
def State.copyClear (s : State) (g : Grp) : State :=
  (((s.updCopy g fun _ => {}).setReg (F.LDG_LOCAL_LAST g) 0).setReg (F.LDG_LOCAL_COUNT g) 0).setReg (F.LDG_LOCAL_FROZEN g) 0

/-! ### Commits at a group die -/

/-- HOURLY_COMMIT: an hour has passed since the last such occasion, or the die's start; an uncommitted record is committed (R437). -/
def execHourlyCommit (g : Grp) (s : State) : Host.Outcome State Fault Refusal :=
  onDie g (fun s =>
    if !s.passed g (s.dieOf g).hourAt 3600000000000 then s
    else
      let s1 := s.updDie g fun d => { d with hourAt := s.clock }
      if (s.dieOf g).dirty then s1.beginCommit g else s1) s
/-- LOCAL_COMMIT_END: the cells hold the store as it stood when the commit began; a commit asked for meanwhile begins. -/
def execLocalCommitEnd (g : Grp) (s : State) : Host.Outcome State Fault Refusal :=
  onDie g (fun s => let s1 := s.updDie g fun d => { d with commit := false, recommit := false }
    if (s.dieOf g).commit && (s.dieOf g).recommit then s1.beginCommit g else s1) s

/-! ### Readout -/

/-- A hub record's 32 bytes (Table 21.1). -/
def LSlot.bytes (x : LSlot) (frozen : Bool) : List Byte :=
  let body := leBytes 8 x.time ++ leBytes 4 x.seq ++ leBytes 2 x.boot ++ leBytes 1 x.r.code ++
    leBytes 1 (32 * x.r.src + 16 * b2n x.r.stopped + 8 * b2n frozen + x.r.cls) ++ leBytes 1 x.r.ch ++ leBytes 1 x.r.detail ++ leBytes 10 x.r.data
  body ++ leBytes 4 (crc32c body)
/-- A local record's 16 bytes (Table 21.2). -/
def LocRec.bytes (r : LocRec) : List Byte :=
  let body := leBytes 5 r.time ++ leBytes 2 r.lseq ++ leBytes 1 r.code ++ leBytes 1 (16 * r.chan + 8 * b2n r.t + r.cls) ++ leBytes 5 r.data
  let c := crc16 body
  body ++ [BitVec.ofNat 8 (c / 256), BitVec.ofNat 8 c]
/-- A hub record as it stands; an empty slot is all zero. -/
def State.hubRecord (s : State) (k : Nat) : List Byte :=
  match s.ldg.slots.lookup k with
  | some x => x.bytes (s.hubFrozen k)
  | none => List.replicate 32 0
/-- A record of a group's copy as it stands. -/
def State.copyRecord (s : State) (g : Grp) (k : Nat) : List Byte :=
  match (s.ldg.copies[g.val]).slots.lookup k with
  | some x => x.r.bytes
  | none => List.replicate 16 0
/-- A word of Ledger space (Table 16.5, R388). -/
def State.ldgWord (s : State) (off : Nat) : Nat :=
  if off < 0x4000 then bytesAt (s.hubRecord (off / 32)) (off % 32 / 4 * 4) 4
  else if h : (off - 0x4000) / 0x400 < 4 then
    bytesAt (s.copyRecord ⟨(off - 0x4000) / 0x400, h⟩ ((off - 0x4000) % 0x400 / 16)) (off % 16 / 4 * 4) 4
  else 0

end Sys2Proof.Machine
end

