-- ==== Sys2Proof/Machine/Health.lean ====
section
/-! DEFINITION. Health monitors, the housekeeping converters, ageing and re-plans (R410 to R430). -/

namespace Sys2Proof.Machine

/-! ### Temperatures and rails of the hub die -/

/-- A HEALTH notification with its hub record (R428, Tables 20.6, 21.4). -/
def State.healthNote (s : State) (src idx : Nat) (on : Bool) (reading : Nat) (cls : Nat) : State :=
  (s.notify 0x21 [(12, 1, src), (13, 1, idx), (14, 1, b2n on), (16, 2, reading)]).post
    { code := 0x0C, cls := cls, data := src + 2 ^ 8 * idx + 2 ^ 16 * b2n on + 2 ^ 32 * (reading % 2 ^ 16) }
/-- The hottest of the sensors, with its number. -/
def hottest (l : List Int) : Nat × Int :=
  (l.zipIdx.foldl (fun a p => if a.2 < p.1 then (p.2, p.1) else a) (0, l.headD 0))
/-- A temperature flag moves at a threshold in degrees: set above it, cleared 5 K below it (R411). -/
def State.tempFlag (s : State) (f : Fld) (at_ : Nat) (src bit : Nat) (h : Nat × Int) : State :=
  if !s.on f && decide (8 * (at_ : Int) < h.2) then ((s.setReg f 1).cause .hk bit).healthNote src h.1 true (unsgn 16 h.2) src
  else if s.on f && decide (h.2 ≤ 8 * ((at_ : Int) - 5)) then ((s.setReg f 0).cause .hk bit).healthNote src h.1 false (unsgn 16 h.2) src
  else s
/-- TEMP_UPDATE: the four sensors, in 0.125 degrees. -/
def execTempUpdate (t0 t1 t2 t3 : Int) (s : State) : Host.Outcome State Fault Refusal :=
  onHub (fun s =>
    let s1 := (((s.setReg F.HK_TEMP_A_T0 (unsgn 16 t0)).setReg F.HK_TEMP_A_T1 (unsgn 16 t1)).setReg F.HK_TEMP_B_T2 (unsgn 16 t2)).setReg
      F.HK_TEMP_B_T3 (unsgn 16 t3)
    let h := hottest [t0, t1, t2, t3]
    (s1.tempFlag F.HK_STATUS_TEMP_WARN (s1.reg F.HK_TEMP_CFG_WARN) 1 0 h).tempFlag F.HK_STATUS_TEMP_CRIT (s1.reg F.HK_TEMP_CFG_CRIT) 2 1 h) s
/-- The set-point of a VID code in mV (Table 20.5). -/
def vidMv (code : Nat) : Nat := 750 + 25 * vidCode code
/-- Whether a rail reading lies outside its band (Table 20.2). -/
def State.railOut (s : State) (rail mv : Nat) : Bool :=
  if rail = 0 then
    let p := vidMv (s.reg F.HK_VID_NOW)
    decide (mv * 20 < p * 19) || decide (p * 21 < mv * 20)
  else
    let b := if rail = 1 then (855, 945) else if rail = 2 then (1710, 1890) else (3135, 3465)
    decide (mv < b.1) || decide (b.2 < mv)
/-- The reading of a rail. -/
def railFld (rail : Fin 5) : Fld :=
  match rail with
  | 0 => F.HK_RAIL_A_VDD_CORE | 1 => F.HK_RAIL_A_VDD_PHY | 2 => F.HK_RAIL_B_VDD_PHYH | 3 => F.HK_RAIL_B_VDD_IO | 4 => F.HK_RAIL_C_VAUX
/-- A rail bit takes a value (R412). -/
def State.railBit (s : State) (rail : Fin 5) (on : Bool) (mv : Nat) : State :=
  let old := s.reg F.HK_STATUS_RAIL
  let new := if on then old ||| 2 ^ rail.val else old &&& (31 - 2 ^ rail.val)
  if old = new then s else ((s.setReg F.HK_STATUS_RAIL new).cause .hk 2).healthNote 3 rail.val on mv 2
/-- RAIL_UPDATE: a reading, which stands for 10 us; a hundred readings inside the band are 1 ms (R410, R412). -/
def execRailUpdate (rail : Fin 5) (mv : Nat) (s : State) : Host.Outcome State Fault Refusal :=
  onHub (fun s =>
    let out := s.railOut rail.val mv
    let n := if out then 0 else (s.hk.rails.lookup rail.val).getD 0 + 1
    let s1 : State := { (s.setReg (railFld rail) mv) with hk := { s.hk with rails := putAssoc s.hk.rails rail.val (min n 100) } }
    if out then s1.railBit rail true mv else if 100 ≤ n then s1.railBit rail false mv else s1) s

/-! ### Slack and the core voltage -/

/-- The slack registers in order. -/
def slackFlds : List Fld :=
  [F.HK_SLACK_A_S0, F.HK_SLACK_A_S1, F.HK_SLACK_B_S2, F.HK_SLACK_B_S3, F.HK_SLACK_C_S4, F.HK_SLACK_C_S5, F.HK_SLACK_D_S6, F.HK_SLACK_D_S7]
/-- The drift registers in order. -/
def driftFlds : List Fld :=
  [F.HK_DRIFT_A_D0, F.HK_DRIFT_A_D1, F.HK_DRIFT_B_D2, F.HK_DRIFT_B_D3, F.HK_DRIFT_C_D4, F.HK_DRIFT_C_D5, F.HK_DRIFT_D_D6, F.HK_DRIFT_D_D7]
/-- The hub slack: the least of the eight values (R413). -/
def State.hubSlack (s : State) : Int := (slackFlds.map fun f => sgn 16 (s.reg f)).foldl min (2 ^ 15 - 1)
/-- A signed 16-bit register field from a number, bounded to what it holds. -/
def code16 (x : Int) : Nat := unsgn 16 (clampI (-(2 ^ 15)) (2 ^ 15 - 1) x)
/-- The slack of hub monitor m in 0.1 %, from its periods in 10 us (R413, Table 20.1). -/
def slackOf (m count : Nat) : Int := roundOpen 43 ((((count : Rat) * 100000) / (Config.critFreq m : Rat) - 1) * 1000)
/-- PROCESS_UPDATE: the periods of the eight monitors in 10 us give their slack. -/
def execProcessUpdate (count : List Nat) (s : State) : Host.Outcome State Fault Refusal :=
  onHub (fun s => (slackFlds.zip count).zipIdx.foldl (fun s p => s.setReg p.1.1 (code16 (slackOf p.2 p.1.2))) s) s
/-- A REPLAN notification with its hub record (R428, Tables 20.7, 21.4). -/
def State.replan (s : State) (kind item before after measure : Nat) : State :=
  (s.notify 0x22 [(12, 1, kind), (13, 1, item), (16, 2, before), (18, 2, after), (20, 4, measure)]).post
    { code := 0x0D, cls := 0, data := kind + 2 ^ 8 * item + 2 ^ 32 * (before % 2 ^ 16) + 2 ^ 48 * (after % 2 ^ 16) + 2 ^ 64 * (measure % 2 ^ 16) }
/-- The code that REQ and CEIL ask for (R423). -/
def State.vidAim (s : State) : Nat := min (vidCode (s.reg F.HK_VID_REQ)) (vidCode (s.reg F.HK_VID_CEIL))
/-- Whether 1 ms has passed since NOW last changed (R424). -/
def State.vidFree (s : State) : Bool := match s.hk.lastVid with | some t => decide (250000 ≤ s.tick - t) | none => true
/-- A raise that finds NOW equal to CEIL changes nothing, and is reported once until NOW next changes (R424). -/
def State.vidCeiling (s : State) : State :=
  let s1 := s.setReg F.HK_STATUS_AT_CEILING 1
  if s.hk.ceilSaid then s1
  else
    let s2 : State := { s1 with hk := { s1.hk with ceilSaid := true } }
    (s2.cause .hk 6).replan 3 0 (s.reg F.HK_VID_NOW) (s.reg F.HK_VID_NOW) (unsgn 32 s.hubSlack)
/-- A baseline run that is under way is abandoned (R422). -/
def State.runEnd (s : State) : State := ({ s with hk := { s.hk with runAt := none } } : State).setReg F.ROOT_RESET_STATUS_BASELINE_RUN 0
/-- NOW takes the code asked for, when its spacing allows; a raise is reported, and a baseline run that it meets is abandoned; a raise that
was held and now meets CEIL is reported as such (R422 to R424). -/
def State.vidNow (s : State) : State :=
  let old := s.reg F.HK_VID_NOW
  let new := s.vidAim
  if !s.vidFree then s
  else if old = new then
    let s1 : State := { s with hk := { s.hk with raise := none } }
    if s.hk.raise.isSome && decide (old = vidCode (s.reg F.HK_VID_CEIL)) then s1.vidCeiling else s1
  else
    let s1 : State := { s with hk := { s.hk with lastVid := some s.tick, raise := none, ceilSaid := false } }
    let s2 := ((s1.setReg F.HK_VID_NOW new).setReg F.HK_STATUS_AT_CEILING 0).cause .hk 3
    let s3 := s2.runEnd
    match s.hk.raise with
    | some hw => if old < new then s3.replan (if hw then 2 else 1) 0 old new (unsgn 32 s.hubSlack) else s3
    | none => s3
/-- A raise by 1; at CEIL it changes nothing. The firmware's is a write of REQ (R424). -/
def State.vidRaise (s : State) (hw : Bool) : State :=
  if s.reg F.HK_VID_NOW = vidCode (s.reg F.HK_VID_CEIL) then s.vidCeiling
  else
    let s1 := s.setReg F.HK_VID_REQ (min 6 (vidCode (s.reg F.HK_VID_REQ) + 1))
    let s2 := if hw then s1.tally F.HK_VID_HW_RAISES else s1.noteWrite F.HK_VID_REQ (s.reg F.HK_VID_REQ)
    ({ s2 with hk := { s2.hk with raise := some hw } } : State).vidNow
/-- The hardware's raise is made at the end of its tick, unless REQ has been written in that tick (R424, Table 2.4). -/
def State.vidTick (s : State) : State :=
  if !s.hk.hwAsk then s
  else
    let s1 : State := { s with hk := { s.hk with hwAsk := false } }
    if s.written F.HK_VID_REQ then s1 else s1.vidRaise true
/-- VID_RAISE_FW: the hub slack has stayed below SLACK_UP for 1 s. -/
def execVidRaiseFw (s : State) : Host.Outcome State Fault Refusal :=
  onHub (fun s => if s.fwRuns && decide (s.hubSlack < s.reg F.HK_AGE_CFG_SLACK_UP) then s.vidRaise false else s) s
/-- VID_RAISE_HW: the hub slack has stayed below SLACK_HARD for 10 us; the raise is made as this tick ends. -/
def execVidRaiseHw (s : State) : Host.Outcome State Fault Refusal :=
  onHub (fun s => if s.hubSlack < s.reg F.HK_AGE_CFG_SLACK_HARD then { s with hk := { s.hk with hwAsk := true } } else s) s
/-- VID_APPLY: the 1 ms spacing has passed. -/
def execVidApply (s : State) : Host.Outcome State Fault Refusal := onHub (fun s => s.vidNow) s

/-! ### The housekeeping converter -/

/-- The slots of a mask in ascending order (R415). -/
def maskSlots (m : Nat) : List Nat := (List.range 24).filter fun k => m.testBit k
/-- An overrun or a dropped request is counted and reported (R416, R417). -/
def State.hkFault (s : State) (g : Grp) (f : Fld) : State := (s.dieTally f).evt g .hkFault
/-- Whether the urgent conversion in progress began in this very tick. -/
def State.hkNow (s : State) (g : Grp) : Bool := (s.dieOf g).convAt == s.clock
/-- Whether a sequence has started in this very tick, be it that a MASK of 0 has completed it at once. -/
def State.seqNow (s : State) (g : Grp) : Bool := (s.dieOf g).seqAt == some s.clock
/-- A sequence of slots takes the converter, after an urgent conversion in progress that began before this tick; one that began in it is
dropped for the sequence (R415, R417). -/
def State.seqGo (s : State) (g : Grp) (b : Bool) (l : List Nat) : State :=
  let mark := fun (s : State) (c : Conv) => s.updDie g fun d => { d with conv := c, convB := b, seqAt := some s.clock }
  let alone : Conv := if l = [] then .idle else .seq l
  match (s.dieOf g).conv with
  | .urgent k _ => if s.hkNow g then mark (s.hkFault g (F.GRP_HK_TALLY_DROPPED g)) alone else mark s (.urgent k l)
  | _ => mark s alone
/-- A sequence starts, or counts as an overrun while one runs. Where both start in one tick A runs and B is the overrun, with a MASK of 0
as with another (R415, R416). -/
def State.hkStart (s : State) (g : Grp) (b : Bool) (mask : Nat) : State :=
  let ovr := fun (s : State) => s.hkFault g (F.GRP_HK_TALLY_OVERRUNS g)
  let free := match (s.dieOf g).conv with | .idle | .urgent _ [] => true | _ => false
  if s.seqNow g && (s.dieOf g).convB && !b then (ovr s).seqGo g b (maskSlots mask)
  else if !free || (s.seqNow g && (s.dieOf g).convB != b) then ovr s
  else s.seqGo g b (maskSlots mask)
/-- Whether a tick of the timer of GRP_HK_TIMER.PERIOD is due (R415, Table 20.14). -/
def State.hkDue (s : State) (g : Grp) : Bool := s.passed g (s.dieOf g).hkAt (max 1 (s.dreg (F.GRP_HK_TIMER_PERIOD g)) * 10000)
/-- SEQUENCE_A: a tick of the timer. -/
def execSequenceA (g : Grp) (s : State) : Host.Outcome State Fault Refusal :=
  onDie g (fun s =>
    if !s.hkDue g then s
    else
      let s1 := s.updDie g fun d => { d with hkAt := s.clock }
      if s.don (F.GRP_HK_SEQ_A_EN g) then s1.hkStart g false (s.dreg (F.GRP_HK_SEQ_A_MASK g)) else s1) s
/-- SEQUENCE_B: a change of TOKEN that the die has taken. -/
def execSequenceB (g : Grp) (s : State) : Host.Outcome State Fault Refusal :=
  onDie g (fun s =>
    if (s.dieOf g).hkToken then
      (s.updDie g fun d => { d with hkToken := false }).hkStart g true (s.dreg (F.GRP_HK_SEQ_B_MASK g))
    else s) s
/-- URGENT_CONVERSION: a change of TOKEN that the die has taken; converted at once, or dropped (R417). -/
def execUrgentConversion (g : Grp) (s : State) : Host.Outcome State Fault Refusal :=
  onDie g (fun s =>
    if (s.dieOf g).urgToken then
      let s1 := s.updDie g fun d => { d with urgToken := false }
      if (s1.dieOf g).conv = .idle ∧ !s1.seqNow g then s1.updDie g fun d => { d with conv := .urgent (min 23 (s.dreg (F.GRP_HK_URGENT_SLOT g))) [], convAt := s.clock }
      else s1.hkFault g (F.GRP_HK_TALLY_DROPPED g)
    else s) s
/-- A converted slot moves its window; its first conversion after EN was set, or after the group attached, takes the state from the value
(R418). -/
def State.hkWindow (s : State) (g : Grp) (k : Fin 24) (code : Nat) : State :=
  let s1 := s.setDie (F.GRP_HK_CODE g k) code
  if !s.don (F.GRP_HK_WIN_EN g k) then s1.setDie (F.GRP_HK_STATE g k) 3
  else
    let first := !(s.dieOf g).hkSeen.contains k.val
    let low : Int := s.dreg (F.GRP_HK_WIN_LOW g k)
    let high : Int := s.dreg (F.GRP_HK_WIN_HIGH g k)
    let st := s.dreg (F.GRP_HK_STATE g k)
    let r := if first || st == 3 then cmpFirst false code low high (s.dreg (F.GRP_HK_HYST g)) else cmpMove st code low high (s.dreg (F.GRP_HK_HYST g))
    let s2 := (s1.setDie (F.GRP_HK_STATE g k) r.1).updDie g fun d => { d with hkSeen := if first then k.val :: d.hkSeen else d.hkSeen }
    if r.2 = 0 then s2 else (s2.evt g (.hkExit k.val r.2 code)).local g 0x48 0xF 1 (k.val + 2 ^ 8 * r.2 + 2 ^ 16 * code)
/-- CONVERSION_DONE: the conversion in progress ends with a code. -/
def execConversionDone (g : Grp) (code : Nat) (s : State) : Host.Outcome State Fault Refusal :=
  onDie g (fun s =>
    let v := code % 4096
    let win := fun (s : State) (k : Nat) => if h : k < 24 then s.hkWindow g ⟨k, h⟩ v else s
    match (s.dieOf g).conv with
    | .idle => s
    | .seq [] => s.updDie g fun d => { d with conv := .idle }
    | .seq (k :: t) => win (s.updDie g fun d => { d with conv := if t = [] then .idle else .seq t }) k
    | .urgent k t =>
      let s1 := s.updDie g fun d => { d with conv := if t = [] then .idle else .seq t }
      win ((s1.setDie (F.GRP_HK_URGENT_RESULT g) v).setDie (F.GRP_HK_URGENT_URG_DONE g) (s.dreg (F.GRP_HK_URGENT_URG_DONE g) + 1)) k) s
/-- A window exit reaches the hub die (R418). -/
def State.hkExitIn (s : State) (g : Grp) (slot dir code : Nat) : State :=
  let s1 := (s.stick (F.GRP_HK_EXIT g) (2 ^ slot)).cause .hk (8 + g.val)
  if bit (s1.reg F.HK_NOTIFY) g.val then s1.notify 0x23 [(12, 1, g.val), (13, 1, slot), (14, 1, dir), (16, 2, code)] else s1

/-! ### Ageing -/

/-- The accepted values of a channel. -/
def State.ohms (s : State) (c : Ch) : List Rat := (s.hk.ohms.lookup c.val).getD []
/-- RATIO follows RNOW and RBASE (Table 20.13). -/
def State.ageRatio (s : State) (c : Ch) : State :=
  let b := s.reg (F.AGE_RES_RBASE c)
  s.setReg (F.AGE_STAT_RATIO c) (if s.on (F.AGE_STAT_BASE_VALID c) && b != 0 then
    min 65535 (roundOpen 41 ((s.reg (F.AGE_RES_RNOW c) : Rat) / b * 1000)).toNat else 0)
/-- The mean of a drop in uV and a current in mA of one switch is accepted: Tj in 0.5 degrees normalises it; RNOW is the mean of the last
1,024 (R420). -/
def State.resTaken (s : State) (c : Ch) (uv ma : Nat) (tj : Int) : State :=
  let r : Rat := ((uv : Rat) / ma * 10) / (1 + 67 / 10000 * ((tj : Rat) / 2 - 25))
  let l := (r :: s.ohms c).take 1024
  let f := (s.hk.firsts.lookup c.val).getD (0, 0)
  let f1 := if f.1 < 64 then (f.1 + 1, f.2 + r) else f
  let s1 : State := { s with hk := { s.hk with ohms := putAssoc s.hk.ohms c.val l, firsts := putAssoc s.hk.firsts c.val f1 } }
  let m : Rat := l.foldl (· + ·) 0 / (l.length : Rat)
  (s1.setReg (F.AGE_RES_RNOW c) (min 65535 (roundOpen 40 m).toNat)).ageRatio c
/-- Whether a measurement of a switch is accepted (R420): its channel, through the head of its pair, is in On or Inrush, and was so
throughout; 0.2 A at least; a change of Tj of at most 2 K, here in 0.5 degrees. What the die reports comes over the up-link. -/
def State.resAccepts (s : State) (c : Ch) (ma : Nat) (dt : Int) (steady : Bool) : Bool :=
  let w := (s.ch (s.headOf c)).work
  s.upOn (grpOf c) && steady && (w == .on || w == .inrush) && decide (200 ≤ ma) && decide (dt.natAbs ≤ 4)
/-- The least REDUCE that holds the dissipation of a switch at its rated current constant, at most 75: 256 (1 - 1 / sqrt (RNOW / RBASE))
rounded up, in whole numbers (R426). -/
def reduceFor (rnow rbase : Nat) : Nat := ((List.range 75).find? fun k => decide ((256 - k) ^ 2 * rnow ≤ 65536 * rbase)).getD 75
/-- Whether the ratio of a channel, whose baseline is valid, has reached DERATE_AT (R426). -/
def State.derateDue (s : State) (c : Ch) : Bool :=
  s.on (F.AGE_STAT_BASE_VALID c) &&
    decide (s.reg (F.AGE_RES_RBASE c) * (100 + s.reg F.HK_AGE_CFG_DERATE_AT) ≤ 100 * s.reg (F.AGE_RES_RNOW c))
/-- The bin of a temperature in 1/16 degree: by three thresholds in degrees, the last one passed only above it (Table 20.4). -/
def tempBin (t : Int) (a b c : Int) : Fin 4 :=
  if t < 16 * a then 0 else if t < 16 * b then 1 else if t ≤ 16 * c then 2 else 3
/-- A second in a bin of a die; 3600 make an hour (R419). -/
def State.second (s : State) (d : Fin 5) (b : Fin 4) : State :=
  let k := 4 * d.val + b.val
  let n := (s.hk.secs.lookup k).getD 0 + 1
  let s1 : State := { s with hk := { s.hk with secs := putAssoc s.hk.secs k (if n = 3600 then 0 else n) } }
  if n = 3600 then s1.hwTally (F.HK_HOURS d b) 1 else s1
/-- A second in the bins of the hub die, by its centre sensor, and of each present group die, by slot 0 (R419). -/
def State.hours (s : State) : State :=
  (List.finRange 4).foldl (fun s g =>
    if s.absent g then s
    else s.second ⟨g.val + 1, by omega⟩ (tempBin ((s.reg (F.GRP_HK_CODE g 0) : Int) - 1024) 95 125 150))
    (s.second 0 (tempBin (2 * sgn 16 (s.reg F.HK_TEMP_B_T3)) 85 105 125))
/-- A write of RETUNE (R427). -/
def State.retuneStart (s : State) (g : Grp) : State :=
  if s.on (F.GRP_AGE_EYE_RETUNING g) || s.grpState g != 3 then s else s.setReg (F.GRP_AGE_EYE_RETUNING g) 1
/-- The margin of a direction of a link (0 up, 1 down) is known: since when it lies below EYE_MIN (R427). -/
def State.eyeSeen (s : State) (g : Grp) (dir margin : Nat) : State :=
  let k := 2 * g.val + dir
  let rest := s.hk.eyeLow.filter fun p => p.1 != k
  let low := decide (margin < s.reg F.HK_AGE_CFG_EYE_MIN)
  { s with hk := { s.hk with eyeLow := if low then putAssoc rest k ((s.hk.eyeLow.lookup k).getD s.tick) else rest } }
/-- Whether the margin of either direction of a link has stayed below EYE_MIN for 1 s (R427). -/
def State.eyeDue (s : State) (g : Grp) : Bool :=
  s.hk.eyeLow.any fun p => p.1 / 2 == g.val && decide (p.2 + 250000000 ≤ s.tick)
/-- HOURS_TICK: each second the bins count. DESIGN CHOICE, log entry 193: the running firmware looks at the margins then and writes RETUNE. -/
def execHoursTick (s : State) : Host.Outcome State Fault Refusal :=
  onHub (fun s => (List.finRange 4).foldl (fun s g => if s.fwRuns && s.eyeDue g then s.retuneStart g else s) s.hours) s
/-- A write of an hours bin clears the seconds held (Table 20.12). -/
def State.hoursWritten (s : State) (d : Fin 5) (b : Fin 4) : State :=
  { s with hk := { s.hk with secs := s.hk.secs.filter fun p => p.1 != 4 * d.val + b.val } }
/-- Whether a place of the one-time store holds an item whose CRC-32C is right (R422). -/
def BaseCell.good (x : BaseCell) (item : Nat) : Bool := x.item == item && x.crc == some (crc32c x.data)
/-- The bytes of a baseline item that stands. -/
def State.baseData (s : State) (item : Nat) : List Byte := ((s.hk.base.find? (·.good item)).map (·.data)).getD []
/-- Whether a baseline item stands: 0 the hub die, 1 to 4 the groups, 8 + c the channels (R422). -/
def State.baseOk (s : State) (item : Nat) : Bool := s.hk.base.any (·.good item)
/-- Whether the store has a place left for an item: the first area, or the second one (R422, log entry 194). -/
def State.baseRoom (s : State) (item : Nat) : Bool := decide ((s.hk.base.filter fun x => x.item == item).length < 2)
/-- A place of the store is taken by an item, whole with its CRC or cut short (R422). -/
def State.baseTake (s : State) (item : Nat) (data : List Byte) (whole : Bool) : State :=
  if !s.baseRoom item then s
  else
    let x : BaseCell := { item := item, second := s.hk.base.any fun x => x.item == item, data := data, crc := if whole then some (crc32c data) else none }
    { s with hk := { s.hk with base := s.hk.base ++ [x] } }
/-- The temperature in 1/16 degree at which a monitor counts, the hub die's centre sensor or slot 0 of its group, and its VID code, which
group dies do not have (log entry 192). -/
def State.monAt (s : State) (m : Nat) : Int × Nat :=
  if m < 8 then (2 * sgn 16 (s.reg F.HK_TEMP_B_T3), s.reg F.HK_VID_NOW)
  else ((s.dreg (F.GRP_HK_CODE ⟨(m - 8) / 2 % 4, by omega⟩ 0) : Int) - 1024, 2)
/-- A frequency of a monitor in Hz, normalised to 25 degrees and VID code 2 (R419, R422). -/
def State.normFreq (s : State) (m f : Nat) : Rat :=
  let p := s.monAt m
  if p.1 = 400 ∧ p.2 = 2 then f else f * Config.freqScale m p.1 p.2
/-- The baseline item of a monitor, and its normalised frequency in it, in Hz. -/
def monItem (m : Nat) : Nat := if m < 8 then 0 else 1 + (m - 8) / 2
def State.baseFreq (s : State) (m : Nat) : Nat :=
  ofLe (((s.baseData (monItem m)).drop (4 * (if m < 8 then m else (m - 8) % 2))).take 4)
/-- The process drift of a monitor in 0.01 %: 1 - f / f_base; 0 while its baseline is not valid (R419, R422). -/
def State.drift (s : State) (m f : Nat) : Nat :=
  if s.baseOk (monItem m) then code16 (roundOpen 45 ((1 - s.normFreq m f / (s.baseFreq m : Rat)) * 10000)) else 0
/-- DRIFT_UPDATE: the frequencies of the hub die's monitors and of the group dies', in Hz, give their drift. -/
def execDriftUpdate (hub : List Nat) (grp : List Nat) (s : State) : Host.Outcome State Fault Refusal :=
  onHub (fun s =>
    let s1 := (driftFlds.zip hub).zipIdx.foldl (fun s p => s.setReg p.1.1 (s.drift p.2 p.1.2)) s
    (List.finRange 4).foldl (fun s g =>
      if !s.dieOn g then s
      else
        let v := fun k => s.drift (8 + 2 * g.val + k) (grp.getD (2 * g.val + k) 0)
        (s.setDie (F.GRP_AGE_PM_D0 g) (v 0)).setDie (F.GRP_AGE_PM_D1 g) (v 1)) s1) s
/-- The margins of the two directions of a link, in 1/64 UI (R419). -/
def State.margins (s : State) (g : Grp) (up down : Nat) : State :=
  ((((s.setReg (F.GRP_AGE_EYE_UP_MARGIN g) (min 63 up)).setDie (F.GRP_AGE_EYE_DOWN_MARGIN g) (min 63 down)).eyeSeen g 0 (min 63 up)).eyeSeen g 1
    (min 63 down))
/-- EYE_SWEEP: the margins of the two directions. -/
def execEyeSweep (g : Grp) (up down : Nat) (s : State) : Host.Outcome State Fault Refusal := onBoth g (fun s => s.margins g up down) s
/-- A normalised frequency as the store holds it: four bytes. -/
def State.freqBytes (s : State) (m f : Nat) : List Byte := leBytes 4 (roundOpen 44 (s.normFreq m f)).toNat
/-- An item stands whole in the store: BASELINE, and REPLAN kind 7 (R422). -/
def State.basePut (s : State) (item : Nat) (data : List Byte) : State := ((s.baseTake item data true).cause .hk 7).replan 7 item 0 0 0
/-- The first 64 accepted values of a channel: how many have come, and their sum. -/
def State.first64 (s : State) (c : Ch) : Nat × Rat := (s.hk.firsts.lookup c.val).getD (0, 0)
/-- Whether the values of an item are complete, so that it is being written: the hub die's after its 1 s, a group's at its first attach, a
channel's after 64 accepted values (R422). -/
def State.baseDue (s : State) (item : Nat) : Bool :=
  if s.baseOk item || !s.baseRoom item then false
  else if item = 0 then s.on F.ROOT_RESET_STATUS_BASELINE_RUN && s.hk.runAt.any fun t => decide (t + 250000000 ≤ s.tick)
  else if item ≤ 4 then s.hk.due.any fun g => g.val + 1 == item
  else if h : 8 ≤ item ∧ item < 40 then decide (64 ≤ (s.first64 ⟨item - 8, by omega⟩).1)
  else false
/-- BASELINE_WRITE: an item whose values are complete is written, once in the life of the device. The value is the frequencies in Hz, 32 bits
each, of the eight hub monitors, or of the two of a group die, whose item holds the margins of its link too (R422). -/
def State.baseline (s : State) (item value : Nat) : State :=
  let f := fun m j => s.freqBytes m (value / 2 ^ (32 * j) % 2 ^ 32)
  if !s.baseDue item then s
  else if item = 0 then (s.basePut 0 ((List.range 8).flatMap fun m => f m m)).runEnd
  else if h : item ≤ 4 then
    let g : Grp := ⟨item - 1, by omega⟩
    let s1 := s.basePut item (f (8 + 2 * g.val) 0 ++ f (9 + 2 * g.val) 1 ++ leBytes 1 (s.reg (F.GRP_AGE_EYE_UP_MARGIN g)) ++
      leBytes 1 (s.dreg (F.GRP_AGE_EYE_DOWN_MARGIN g)))
    { s1 with hk := { s1.hk with due := s1.hk.due.filter (· != g) } }
  else if h : 8 ≤ item ∧ item < 40 then
    let c : Ch := ⟨item - 8, by omega⟩
    let r := min 65535 (roundOpen 42 ((s.first64 c).2 / 64)).toNat
    (((s.basePut item (leBytes 2 r)).setReg (F.AGE_RES_RBASE c) r).setReg (F.AGE_STAT_BASE_VALID c) 1).ageRatio c
  else s
def execBaselineWrite (item value : Nat) (s : State) : Host.Outcome State Fault Refusal := onHub (fun s => s.baseline item value) s
/-- A power loss may cut short an item that is being written; whether it does is open (log entry 194). A channel's values are then taken
again (R422). -/
def State.baseCut (s : State) : State :=
  ((List.range 40).filter s.baseDue).foldl (fun s item =>
    let p := s.openValue
    if p.1 % 2 = 0 then p.2
    else
      let s1 := p.2.baseTake item [] false
      { s1 with hk := { s1.hk with firsts := s1.hk.firsts.filter fun p => p.1 + 8 != item } }) s
/-- A group attaches: its baseline is taken, where it does not stand yet; one that leaves PRESENT ends that (R422, log entry 194). -/
def State.baseAttach (s : State) (g : Grp) (on : Bool) : State :=
  let l := s.hk.due.filter (· != g)
  { s with hk := { s.hk with due := if on && !s.baseOk (g.val + 1) then g :: l else l } }
/-- BASELINE_RUN_START: 100 ms after CCLK locks, or after a change of NOW (R422). -/
def execBaselineRunStart (s : State) : Host.Outcome State Fault Refusal :=
  onHub (fun s =>
    let late := fun t => decide (t + 25000000 ≤ s.tick)
    if s.baseOk 0 || s.on F.ROOT_RESET_STATUS_BASELINE_RUN || !late s.hk.lockAt || !(s.hk.lastVid.all late) then s
    else ({ s with hk := { s.hk with runAt := some s.tick } } : State).setReg F.ROOT_RESET_STATUS_BASELINE_RUN 1) s
/-- A write of GRP_AGE_DERATE, from the bytes as they were: DERATE, and a REPLAN for the firmware's. One that finds the full REDUCE in force
with a ratio above 2.0 carries the ratio alone (R426). -/
def State.reduceWritten (s : State) (rq : Req) (g : Grp) (hi : Bool) (be : Fin 16) (old : List Nat) : State :=
  (List.finRange 4).foldl (fun s j =>
    let n : ChN := ⟨j.val + (if hi then 4 else 0), by split <;> omega⟩
    let a := old.getD j.val 0
    let b := s.reg (F.GRP_AGE_REDUCE g n)
    let ratio := s.reg (F.AGE_STAT_RATIO (chOf g n))
    if a = b then (if rq = .fw ∧ bit be.val j.val ∧ reduceOf b = 75 ∧ 2000 < ratio then s.replan 4 (chOf g n).val 0 0 ratio else s)
    else
      let s1 := s.cause .hk 4
      if rq = .fw then s1.replan 4 (chOf g n).val (reduceOf a) (reduceOf b) ratio else s1) s
/-- The place of the widest of some margins: the one given where it is among the widest, the first of them otherwise. -/
def widest (l : List Nat) (k : Nat) : Nat :=
  let m := l.foldl max 0
  if l[k]? = some m then k else l.findIdx (· == m)
/-- The emphasis settings tried beside the present one, with their margins: those below and above it, where they exist (R427). -/
def emphTried (e : Nat) (down : List Nat) : List Nat :=
  ((down.take 3).zipIdx).map fun p => if e + p.2 = 0 ∨ 16 < e + p.2 then 0 else min 63 p.1
/-- RETUNE_DONE: the margins that the 16 equaliser settings gave, and those of the emphasis below, at and above the present one, 0 for a
setting left at a failed part; the widest are kept, of equally wide ones those that the row names (R427). -/
def execRetuneDone (g : Grp) (up down : List Nat) (eq emph : Nat) (s : State) : Host.Outcome State Fault Refusal :=
  onHub (fun s =>
    if !s.on (F.GRP_AGE_EYE_RETUNING g) then s
    else
      let before := s.reg (F.GRP_AGE_EYE_UP_MARGIN g) * 256 + s.reg (F.GRP_AGE_EYE_DOWN_MARGIN g)
      let ups := (up.take 16).map (min 63 ·)
      let downs := emphTried (s.reg (F.GRP_AGE_EYE_DOWN_EMPH g)) down
      let e := widest ups eq
      let d := widest downs emph
      let u := ups.getD e 0
      let v := downs.getD d 0
      let s1 := ((s.setReg (F.GRP_AGE_EYE_RETUNING g) 0).setReg (F.GRP_AGE_EYE_UP_EQ g) e).setReg (F.GRP_AGE_EYE_DOWN_EMPH g)
        (s.reg (F.GRP_AGE_EYE_DOWN_EMPH g) + d - 1)
      let ok := decide (s.reg F.HK_AGE_CFG_EYE_MIN ≤ u) && decide (s.reg F.HK_AGE_CFG_EYE_MIN ≤ v)
      ((s1.margins g u v).cause .hk 5).replan (if ok then 5 else 6) g.val before (u * 256 + v) 0) s

end Sys2Proof.Machine
end

