-- ==== Sys2Proof/Machine/Cmds.lean ====
section
/-! DEFINITION. Ring 0 commands that wait for their items, and what completes them (R335, R337). -/

namespace Sys2Proof.Machine

/-- Whether an item has completed. -/
def Item.isDone : Item → Bool | .done _ => true | _ => false
/-- The status of a completed item. -/
def Item.status : Item → Nat | .done k => k | _ => 0
/-- Whether a command has completed: its items have, and its copy has. -/
def Cmd.ready (x : Cmd) : Bool := x.items.all Item.isDone && x.copy.isNone
/-- The first item, counted from k, whose status is not 0. -/
def firstBad : List Item → Nat → Option (Nat × Nat)
  | [], _ => none
  | x :: t, k => if x.status = 0 then firstBad t (k + 1) else some (x.status, k)
/-- Status and deciding item of a command: the refused item, which is its last, else the first item not 0 (R337). -/
def Cmd.verdict (x : Cmd) : Nat × Nat :=
  if x.refused then ((x.items.getLast?.map Item.status).getD 0, x.items.length - 1) else (firstBad x.items 0).getD (0, 0xFF)
/-- Whether the entry at the head of the command engine waits for its FENCE (R335). -/
def State.fenceWaits (s : State) : Bool :=
  match s.host.queue with | e :: _ => bit (bytesAt e 1 1) 0 && s.host.cmds != [] | [] => false
/-- OUTSTANDING and FENCE_WAIT follow the commands that wait; a consumed command is being executed unless a FENCE waits (Table
15.17, Table 15.12, R335). -/
def State.cmdsShow (s : State) : State :=
  (s.setReg F.HL_CMD_STATUS_OUTSTANDING (s.host.cmds.length + (if s.fenceWaits then 0 else s.host.queue.length))).setReg
    F.HL_CMD_STATUS_FENCE_WAIT (b2n s.fenceWaits)
/-- Commands at the head whose opcode is not listed do nothing, and complete with status 4 (R336). -/
def State.dropBad (s : State) : State :=
  (List.range s.host.queue.length).foldl (fun s _ =>
    match s.host.queue with
    | e :: t =>
      if 5 < bytesAt e 0 1 && !s.fenceWaits then
        ({ s with host := { s.host with queue := t } } : State).complete (bytesAt e 56 4) 4 0 0 0xFF []
      else s
    | [] => s) s
/-- Every command that has completed gets its completion. -/
def State.cmdsFinish (s : State) : State :=
  let ready := s.host.cmds.filter Cmd.ready
  let s1 : State := { s with host := { s.host with cmds := s.host.cmds.filter fun x => !x.ready } }
  (ready.foldl (fun s x => s.complete x.seq x.verdict.1 x.op 0 x.verdict.2 x.extra) s1).dropBad.cmdsShow
/-- The items that a test picks complete with a status. -/
def State.itemsSet (s : State) (p : Item → Bool) (status : Nat) : State :=
  ({ s with host := { s.host with cmds := s.host.cmds.map fun x =>
      { x with items := x.items.map fun i => if p i then .done status else i } } } : State).cmdsFinish
/-- The items that wait for a write of a group's image. -/
def itemOfWrite (g : Grp) (wid : Nat) (i : Item) : Bool := i == .image g wid
/-- The items that a lost write of a group's image ends: those that wait for it, and a change of mode that it carries (R337). -/
def itemLost (g : Grp) (wid : Nat) : Item → Bool
  | .image h w => h == g && w == wid
  | .mode c ws => grpOf c == g && ws.contains wid
  | .done _ => false
/-- The items that wait for a change of mode of a channel. -/
def itemOfMode (c : Ch) : Item → Bool
  | .mode d _ => d == c
  | _ => false
/-- The items that wait for a group. -/
def itemOfGroup (g : Grp) : Item → Bool
  | .image h _ => h == g
  | .mode c _ => grpOf c == g
  | .done _ => false

end Sys2Proof.Machine
end

