-- ==== Sys2Proof/Machine/Mirror.lean ====
section
/-! DEFINITION. The mirrors of the group dies: what a die shows of its channels, the words of a mirror, and the refresh (R43, R44). -/

namespace Sys2Proof.Machine

/-- STATE of an output as its die shows it (Tables 4.5, 4.7; R93). -/
def State.outState (s : State) (c : Ch) : Nat :=
  match s.hold c with
  | 1 => 9 | 2 => 7 | 3 => 8 | 4 => 6 | 5 => 0 | 7 => 0
  | _ =>
    if s.follows c then 0xB
    else if (s.dieOf (grpOf c)).safe && s.switchable c then 0xA
    else match (s.ch c).work with
      | .off => 0 | .turning => 1 | .inrush => 2 | .on => 3 | .pwm => 4 | .limiting => 5
/-- CAUSE of OUT_FAULT: the channel's own, or that of the member of its pair (R88, Table 4.24). -/
def State.faultCause (s : State) (c : Ch) : Nat := (((s.legs c).map fun x => (s.ch x).latFault).find? (· != 0)).getD 0
/-- The die's status words of a channel take what stands there now (Tables 3.9, 4.17 to 4.24, 5.21, 7.11). -/
def State.showCh (s : State) (c : Ch) : State :=
  let k := s.ch c
  let l := s.latches c
  [(F.CH_MODE_STATUS_NOT_PERMITTED c, b2n (s.driving c && !s.permit c)),
   (F.OUT_STATE_SWITCH c, b2n k.sw), (F.OUT_STATE_INRUSH_RUN c, b2n k.inrush), (F.OUT_STATE_CMD_HELD c, b2n (s.hold c != 0 && k.cmdOn)),
   (F.OUT_STATE_SUPPLY_OFF c, b2n (s.supplyHeld c)),
   (F.OUT_STATE_DERATED c, b2n (s.dreg (F.GRP_AGE_REDUCE (grpOf c) (chN c)) != 0)), (F.OUT_STATE_DWELL_TRIP c, b2n k.dwell),
   (F.OUT_STATE_LATCHES c, 8 * b2n l.1 + 4 * b2n l.2.1 + 2 * b2n l.2.2.1 + b2n l.2.2.2),
   (F.OUT_STATE_STATE c, s.outState c), (F.OUT_CURRENT c, unsgn 16 k.cur),
   (F.OUT_FUSE_STATE_THETA c, min 0xFFFF (roundOpen 50 (k.theta * 10)).toNat), (F.OUT_TEMP_TJ c, unsgn 16 k.tj),
   (F.OUT_BUCKET_LEVEL c, unsgn 16 (roundOpen 51 (k.level * 10))),
   (F.OUT_FAULT_THERM_COUNT c, (recent (s.dieOf (grpOf c)).gcount k.therms).length), (F.OUT_FAULT_CAUSE c, s.faultCause c),
   (F.TO_STATUS_PWM_ACTIVE c, b2n k.run.isSome), (F.TO_STATUS_PEAK c, b2n ((k.run.bind (·.peak)).isSome)),
   (F.IN_STATUS_VALID c, b2n (k.mode == 3 && k.valid)), (F.IN_STATUS_STATE c, b2n (k.mode == 3 && k.valid && k.qual))].foldl
    (fun s p => s.setDie p.1 p.2) s
/-- The fields of a word that its group's mirror holds (R43): those its die reports. -/
def mirrorFlds (u : U) (off : Nat) : List Fld :=
  match u with
  | .ch c =>
    if off = 0x24 then [F.CH_MODE_STATUS_NOT_PERMITTED c]
    else if off = 0x8C then [F.TO_STATUS_PWM_ACTIVE c, F.TO_STATUS_PEAK c]
    else if off = 0xBC then [F.IN_STATUS_WIRE_BREAK c, F.IN_STATUS_VALID c, F.IN_STATUS_STATE c]
    else if off ∈ [0x54, 0x58, 0x5C, 0x60, 0x64, 0x68, 0x70, 0xE0, 0xE4] then
      ((layout u).filter fun r => r.off == off).map fun r => ⟨u, off, r.lo, r.w, r.dflt⟩
    else []
  | .grp g =>
    if off = 0x8C then [F.GRP_SUP_LAST_HOLD_CAP g, F.GRP_SUP_LAST_PEAK g]
    else if off = 0xB0 then [F.GRP_HK_URGENT_URG_DONE g, F.GRP_HK_URGENT_RESULT g]
    else if off = 0x15C then [F.GRP_AGE_EYE_DOWN_MARGIN g]
    else if off = 0x40 ∨ off = 0x88 ∨ off = 0xB4 ∨ (0xC0 ≤ off ∧ off < 0xF0) ∨ off = 0x158 then
      ((layout u).filter fun r => r.off == off).map fun r => ⟨u, off, r.lo, r.w, r.dflt⟩
    else []
  | _ => []
/-- The offsets of mirrored words in a channel unit and in a group unit. -/
def mirrorOffs : U → List Nat
  | .ch _ => [0x24, 0x54, 0x58, 0x5C, 0x60, 0x64, 0x68, 0x70, 0x8C, 0xBC, 0xE0, 0xE4]
  | .grp _ => [0x40, 0x88, 0x8C, 0xB0, 0xB4] ++ (List.range 12).map (fun k => 0xC0 + 4 * k) ++ [0x158, 0x15C]
  | _ => []
/-- The fields of a group's mirror. -/
def mirrorAll (g : Grp) : List Fld :=
  ([U.grp g] ++ (chansOf g).map U.ch).flatMap fun u => (mirrorOffs u).flatMap (mirrorFlds u)
/-- The words of a group's mirror, as offsets within the group's 64 KiB in words. -/
def mirrorIdx (g : Grp) : List Nat :=
  ([U.grp g] ++ (chansOf g).map U.ch).flatMap fun u => (mirrorOffs u).map fun o => inGroup u o / 4
/-- Whether a word stands at the die as the visible copy shows it. -/
def State.mirrorSame (s : State) (g : Grp) (w : Nat) : Bool :=
  let p := grpUnit g (4 * w)
  (mirrorFlds p.1 p.2).all fun f => s.dreg f == s.reg f
/-- Whether every word that has changed since the last refresh has been sent (R276). -/
def State.mirrorSent (s : State) (g : Grp) : Bool :=
  let s1 := (chansOf g).foldl State.showCh s
  (mirrorIdx g).all fun w => (s.dieOf g).mirSent.contains w || s1.mirrorSame g w
/-- MIRROR: a word of the die fills the hidden copy (R44). -/
def State.mirrorWord (s : State) (g : Grp) (w : Nat) : State :=
  let p := grpUnit g (4 * w)
  let s1 := match p.1 with | .ch c => s.showCh c | _ => s
  { s1 with hid := (mirrorFlds p.1 p.2).foldl (fun st f => st.set f (s1.dreg f)) s1.hid }
def execMirror (g : Grp) (w : Nat) (s : State) : Host.Outcome State Fault Refusal :=
  onBoth g (fun s => if s.mirrorOn g && s.laneFor g 5 6 then
    ((s.laneTake g 6).updDie g fun d => { d with mirSent := d.mirSent ++ [w] }).mirrorWord g w else s) s
/-- The mirrors: 0 the PCLK mirror, 1 to 4 the groups (Table 2.5). -/
def freshFld (m : Fin 5) : Fld := ⟨.root, 0x50 + 4 * m.val, 0, 16, 0⟩
/-- STALE of a mirror. -/
def staleFld (m : Fin 5) : Fld := ⟨.root, 0x50 + 4 * m.val, 31, 1, 1⟩
/-- A mirror has been refreshed (R44). -/
def State.refreshed (s : State) (m : Fin 5) : State :=
  ((({ s with hub := { s.hub with fresh := s.hub.fresh.set m.val (some s.tick) } } : State).wrapTally (freshFld m)).setReg (staleFld m) 0)
/-- The mirror of a group. -/
def mirrorOf (g : Grp) : Fin 5 := ⟨g.val + 1, by omega⟩
/-- REFRESH: the visible copy is replaced whole, and ports look at their suppliers again (R44, R261). -/
def State.refreshGrp (s : State) (g : Grp) : State :=
  let s1 : State := { s with regs := (mirrorAll g).foldl (fun st f => st.set f (s.hid.get f)) s.regs }
  (s1.refreshed (mirrorOf g)).portChecks g
def execRefresh (g : Grp) (s : State) : Host.Outcome State Fault Refusal :=
  onBoth g (fun s => if s.mirrorOn g && s.laneFor g 5 1 && s.mirrorSent g then
    ((s.laneTake g 1).updDie g fun d => { d with mirSent := [] }).refreshGrp g else s) s
/-- AGE of a mirror in us: ticks since its last refresh, holding at 32,767 (Table 2.5). -/
def State.ageOf (s : State) (m : Fin 5) : Nat :=
  match s.hub.fresh[m.val] with | some t => min 32767 ((s.tick - t) / 250) | none => 32767
/-- The stale limit of a mirror in us (Table 2.6). -/
def staleLimit (m : Fin 5) : Nat := if m.val = 0 then 4 else 64
/-- STALE as it reads: 1 while AGE exceeds the mirror's stale limit (R44). -/
def State.isStale (s : State) (m : Fin 5) : Bool := decide (staleLimit m < s.ageOf m)
/-- MIRROR_STALE: AGE has passed the mirror's limit, which raises its cause once; the field's place in the store says that it has
been raised (R44). -/
def execMirrorStale (m : Fin 5) (s : State) : Host.Outcome State Fault Refusal :=
  onHub (fun s => if !s.on (staleFld m) && s.isStale m then (s.setReg (staleFld m) 1).cause .root 5 else s) s

end Sys2Proof.Machine
end

