-- ==== Sys2Proof/Machine/Link.lean ====
section
/-! DEFINITION. The hub die's end of a Staed link: group states, frames, acknowledgements, lost commands and reloads (R272 to
R288). -/

namespace Sys2Proof.Machine

/-! ### Frames -/

/-- Bytes of a command in a frame composed at an instant; the short form of EDGE serves a G within 8,188 ns (Table 13.2, R275). -/
def DlCmd.size (now : Nat) : DlCmd → Nat
  | .edge _ _ g => if now < g ∧ g ≤ now + 8188 then 2 else 4
  | .pulse .. => 9 | .pwmStart .. => 10 | .pwmStop .. => 6 | .pwmDuty .. => 9 | .dac .. => 5 | .action .. => 6
  | .write .. => 7 | .rule .. => 7 | .time .. => 9 | .step .. => 9 | .control .. => 2
  | .iol _ _ o => 2 + o.length
/-- The op of a command (Table 13.2). -/
def DlCmd.op : DlCmd → Nat
  | .edge .. => 1 | .pulse .. => 2 | .pwmStart .. => 3 | .pwmStop .. => 4 | .pwmDuty .. => 5 | .dac .. => 6 | .action .. => 7
  | .write .. => 8 | .rule .. => 9 | .time .. => 10 | .step .. => 11 | .control .. => 12 | .iol .. => 13
/-- The field of n bytes with the G of a long form: bits [17:2] (Table 13.2). -/
def gField (g : Nat) : List Byte := leBytes 2 (g / 4)
/-- The first byte of a long form. -/
def DlCmd.first (x : DlCmd) (n : Nat) : Byte := BitVec.ofNat 8 (x.op * 8 + n)
/-- The bytes of a command in a frame whose SYNC stands at an instant (Table 13.2): a short EDGE is one word whose bit 15 is bit 7 of its first
byte; the off-delay of a PULSE is counted from the end of
its slot's pulse. -/
def TxCmd.bytes (now : Nat) (y : TxCmd) : List Byte :=
  let x := y.cmd
  match x with
  | .edge n on g =>
    if x.size now = 2 then (leBytes 2 (2 ^ 15 + b2n on * 2 ^ 14 + n.val * 2 ^ 11 + g / 4 % 2 ^ 11)).reverse
    else x.first n.val :: leBytes 1 (b2n on) ++ gField g
  | .pulse n g w d => x.first n.val :: gField g ++ leBytes 4 (w / 4) ++ leBytes 2 ((match y.tag with | .slot i => i.t / 4 * 4 | _ => g) + w - d)
  | .pwmStart n p duty g a b =>
    x.first n.val :: leBytes 1 (p + 2 * b2n duty.isSome) ++ gField g ++ leBytes 2 (duty.getD 0) ++ leBytes 2 a ++ leBytes 2 b
  | .pwmStop n on g d => x.first n.val :: leBytes 1 (b2n on) ++ gField g ++ leBytes 2 d
  | .pwmDuty n g duty a b => x.first n.val :: gField g ++ leBytes 2 duty ++ leBytes 2 a ++ leBytes 2 b
  | .dac n g c => x.first n.val :: gField g ++ leBytes 2 c
  | .action n code q p => x.first n.val :: leBytes 1 (code * 16 + q) ++ leBytes 4 p
  | .write o v => x.first 0 :: leBytes 2 o ++ leBytes 4 v
  | .rule r code n p => x.first 0 :: leBytes 1 r.val ++ leBytes 1 (code * 16 + n.val) ++ leBytes 4 p
  | .time t => x.first 0 :: leBytes 8 t
  | .step d _ => x.first 0 :: leBytes 8 (unsgn 64 d)
  | .control code q => x.first 0 :: leBytes 1 (code * 16 + q)
  | .iol n q o => x.first n.val :: leBytes 1 (q * 16 + o.length) ++ o
/-- The commands of a category that fit in the bytes left, those that stay, and the bytes left (R274). -/
def fill (now : Nat) : Nat → List TxCmd → List TxCmd × List TxCmd × Nat
  | left, [] => ([], [], left)
  | left, x :: t =>
    if x.cmd.size now ≤ left then
      let r := fill now (left - x.cmd.size now) t
      (x :: r.1, r.2.1, r.2.2)
    else ([], x :: t, left)
/-- The commands that end in area A, from byte k on, and those that end in area B. -/
def splitArea (now : Nat) : Nat → List TxCmd → List TxCmd × List TxCmd
  | _, [] => ([], [])
  | k, x :: t =>
    if k + x.cmd.size now ≤ 8 then
      let r := splitArea now (k + x.cmd.size now) t
      (x :: r.1, r.2)
    else ([], x :: t)
/-- Whether a command is, or is to be, sent for a word of the group. -/
def sendsOff (off : Nat) (x : TxCmd) : Bool := match x.cmd with | .write w _ => w * 4 == off | _ => false
/-- Whether a command is sent for a rule. -/
def sendsRule (r : RuleNo) (x : TxCmd) : Bool := match x.cmd with | .rule q _ _ _ => q == r | _ => false
/-- The commands of a group queued, or sent and not acknowledged. -/
def Link.waiting (l : Link) : List TxCmd :=
  l.stepTime ++ l.retry ++ l.action ++ l.tx ++ l.iol ++ l.ctrl ++ l.rule ++ l.write ++ l.flight.flatMap (·.cmds)

/-! ### Group states -/

/-- FLAGS of a group state report (Table 13.7). -/
def State.grpFlags (s : State) (g : Grp) : Nat :=
  b2n (s.on (F.GRP_STATUS_SAFE g)) + 2 * b2n (s.on (F.GRP_STATUS_LIMP g)) + 4 * b2n (s.on (F.GRP_STATUS_FULL g))
/-- A change of STATE, SAFE or LIMP is reported: the cause, the notification and the hub record (R288, Tables 13.7, 21.4). -/
def State.grpReport (s : State) (g : Grp) (old cls : Nat) : State :=
  let st := s.grpState g
  let ids : List Place := if st = 2 ∨ st = 7 then [(20, 16, ofLe (s.link g).cache)] else []
  ((s.cause (.grp g) 0).notify 0x1E ([(12, 1, g.val), (13, 1, st), (14, 1, old), (15, 1, s.reg (F.GRP_STATUS_REFUSE g)),
      (16, 1, s.grpFlags g), (17, 1, s.reg (F.GRP_STATUS_SAFE_CAUSE g))] ++ ids)).post
    { code := 0x20, cls := cls, src := g.val + 1, detail := st, data := old + 2 ^ 8 * s.reg (F.GRP_STATUS_SAFE_CAUSE g) + 2 ^ 16 * s.grpFlags g }
/-- A timed command of a slot is lost (R113, R286). -/
def State.slotLost (s : State) (x : TxCmd) : State :=
  match x.tag, x.cmd.timed with
  | .slot i, some (_, gi) => (s.slotLate i.target i.action i.t 1 2 (s.now - gi)).tally F.FOLD_TALLY_B_LINK_LATE
  | _, _ => s
/-- A command that waited when its group's presence ended (R286). -/
def State.txLost (s : State) (x : TxCmd) : State :=
  match x.cmd with
  | .action .. => s.tally F.RFX_TALLY_A_URGENT_WAIT
  | _ => s.slotLost x
/-- What is lost with the presence of a group: timed commands, actions, urgent words, timestamps; every other command stays
unconfirmed and its queue is emptied (R161, R286). -/
def State.dropTx (s : State) (g : Grp) : State :=
  let l := s.link g
  let s1 := (l.waiting ++ l.unAct).foldl State.txLost s
  let s2 := s1.tally (F.GRP_LINK_B_LOST g) (l.urgOut.length + l.urgQ.length + l.unUrg)
  let s3 := s2.updLink g fun l =>
    { l with stepTime := [], retry := [], action := [], tx := [], iol := [], ctrl := [], rule := [], write := [], flight := [], wire := [],
             urgQ := [], urgOut := [], urgWire := [], unAct := [], unUrg := 0, load := none, ending := false }
  s3.updDie g fun d =>
    { d with tsQ := [], sent := d.sent.map fun p => (p.1, p.2.1, match p.2.2 with | .timestamp .. => .void | x => x) }
/-- The class of the record of a change of STATE (Table 21.4). -/
def stateClass (old st : Nat) : Nat := if (st = 0 ∧ (old = 3 ∨ old = 4)) ∨ st = 7 then 3 else 0
/-- STATE changes; a group that becomes absent aborts its stroke windows (R140, R283 to R288). -/
def State.setGrpState (s : State) (g : Grp) (st : Nat) : State :=
  let old := s.grpState g
  if old = st then s
  else
    let s1 := s.setReg (F.GRP_STATUS_STATE g) st
    let s2 := (if old = 3 then s1.setReg (F.GRP_AGE_EYE_RETUNING g) 0 else s1).baseAttach g (st == 3)
    let s3 := if !absentState old && absentState st then s2.itemsSet (itemOfGroup g) 1 else s2
    let s4 := if st = 3 then s3.tally (F.GRP_ATTACH_ATTACHES g) else s3
    let s5 := s4.grpReport g old (stateClass old st)
    let s6 := if st = 0 ∨ st = 6 then s5.dropTx g else s5
    let s7 := if !absentState old && absentState st then (chansOf g).foldl State.strokeAbort s6 else s6
    (if st = 3 then s7.portsPower g else s7.portChecks g).stepRelease
/-- SAFE and its cause take values as the die reports them (R288, R290). FED 0 ends once the group reports the safe state (R459). -/
def State.setSafe (s : State) (g : Grp) (on : Bool) (cause : Nat) : State :=
  let s0 := if on then s.updLink g fun l => { l with fedHold := false } else s
  if s0.on (F.GRP_STATUS_SAFE g) == on then s0
  else
    let s1 := (s0.setReg (F.GRP_STATUS_SAFE g) (b2n on)).setReg (F.GRP_STATUS_SAFE_CAUSE g) (if on then cause else 0)
    let s2 := (s1.cause (.grp g) 1).grpReport g (s1.grpState g) (if on then 3 else 0)
    if on || s2.on (F.GRP_STATUS_LIMP g) then s2.portChecks g else s2.portsPower g
/-- LIMP takes a value as the die reports it (R288, R293). -/
def State.setLimp (s : State) (g : Grp) (on : Bool) : State :=
  if s.on (F.GRP_STATUS_LIMP g) == on then s
  else
    let s1 := s.setReg (F.GRP_STATUS_LIMP g) (b2n on)
    let s2 := (s1.cause (.grp g) 2).grpReport g (s1.grpState g) (if on then 3 else 0)
    if on || s2.on (F.GRP_STATUS_SAFE g) then s2.portChecks g else s2.portsPower g

/-! ### Reloads -/

/-- The words of a channel's image that go to its die, but for CH_MODE and CH_LOCK (R43, Table 3.7 and on). -/
def chWords : List Nat :=
  [0x28, 0x40, 0x44, 0x48, 0x4C, 0x50, 0x80, 0x90, 0x94, 0x98, 0x9C, 0xB0, 0xB4, 0xB8, 0xD0, 0xD4, 0xD8, 0xDC]
/-- The words of a group's image that go to its die, but for GRP_LOCK. -/
def grpWords : List Nat :=
  [0x28, 0x48, 0x4C, 0x50, 0x58] ++ (List.range 8).map (fun n => 0x60 + 4 * n) ++ [0x80] ++ (List.range 5).map (fun n => 0xA0 + 4 * n) ++
    (List.range 24).map (fun n => 0xF0 + 4 * n) ++ [0x150, 0x154]
/-- Every word of a group's image, the modes first and the locks last (R285). -/
def imageOffs : List Nat :=
  (List.range 8).map (fun n => 0x1020 + 0x1000 * n) ++ (List.range 8).flatMap (fun n => chWords.map fun o => 0x1000 + 0x1000 * n + o) ++
    grpWords ++ (List.range 8).map (fun n => 0x102C + 0x1000 * n) ++ [0x30]
/-- A word of a group's image as it stands. -/
def State.imageWord (s : State) (g : Grp) (off : Nat) : Nat := let p := grpUnit g off; wordOf s.regs p.1 p.2
/-- The AN_DAC word of a channel is made anew by a reload: what a DAC action told before it is older (R181). -/
def State.dacLoaded (s : State) (g : Grp) (off : Nat) : State :=
  match grpUnit g off with
  | (.ch c, o) => if o = 0xD8 then s.updCh c fun k => { k with dacImg := 2 * (s.link g).wid + 1 } else s
  | _ => s
/-- What a reload sends for a word of a group's image: the word as it stands, with the bits of a word that keeps none which are not confirmed
(R285, R306). -/
def State.loadWord (s : State) (g : Grp) (off : Nat) : Nat := s.imageWord g off ||| ((s.link g).unBits.lookup off).getD 0
/-- WRITEs of a reload. -/
def State.loadWords (s : State) (g : Grp) (offs : List Nat) : State :=
  (offs.foldl (fun s o => s.dacLoaded g o) s).updLink g fun l => { l with write := l.write ++ offs.map fun o => { cmd := .write (o / 4) (s.loadWord g o), tag := .reload l.wid o } }
/-- RULEs of a reload. -/
def State.loadRules (s : State) (g : Grp) (rs : List RuleNo) : State :=
  s.updLink g fun l => { l with rule := l.rule ++ rs.map fun r =>
    { cmd := .rule r (s.reg (F.RFX_ACTION_CODE r)) (chN (s.ruleTarget r)) (s.reg (F.RFX_PARAM r)), tag := .rule r } }
/-- The rules whose TARGET names a channel of a group. -/
def State.grpRules (s : State) (g : Grp) : List RuleNo := (List.finRange 64).filter fun r => grpOf (s.ruleTarget r) == g
/-- A TIME is queued for a group, which is aligned once it is acknowledged (R285). -/
def State.loadTime (s : State) (g : Grp) : State :=
  (s.setReg F.TB_STATUS_ALIGNED (s.reg F.TB_STATUS_ALIGNED &&& (15 - 2 ^ g.val))).updLink g fun l =>
    { l with stepTime := l.stepTime ++ [{ cmd := .time 0, tag := .plain }] }
/-- A resume reload: the words and rules not confirmed that nothing already carries (R285). -/
def State.loadRest (s : State) (g : Grp) : State :=
  let l := s.link g
  let s1 := s.updLink g fun l => { l with load := some false, ending := false }
  let s2 := s1.loadRules g (l.unR.filter fun r => !l.waiting.any (sendsRule r))
  s2.loadWords g (l.unW.filter fun o => !l.waiting.any (sendsOff o))
/-- A group in PRESENT enters RESYNC after a lost command (R277). -/
def State.resync (s : State) (g : Grp) : State :=
  let s1 := s.setGrpState g 5
  let s2 := if bit (s1.reg F.TB_STATUS_ALIGNED) g.val then s1 else s1.loadTime g
  s2.loadRest g
/-- The output data of the group's ports go down again (R266, R285). -/
def State.loadPd (s : State) (g : Grp) : State :=
  (chansOf g).foldl (fun s c => if s.reg (F.CH_MODE_MODE c) = 8 then s.sendPlain c 0xEC else s) s
/-- A full reload (R285): outputs commanded off in the image, TIME, every rule, every word. -/
def State.loadFull (s : State) (g : Grp) : State :=
  let s1 := (chansOf g).foldl (fun s c => s.setCmd c false false) s
  let s2 := (s1.updLink g fun l => { l with load := some true, ending := false, unBits := [] }).loadTime g
  ((s2.loadRules g (s2.grpRules g)).loadPd g).loadWords g imageOffs
/-- The command of CONTROL with a code (Table 13.2). -/
def State.sendControl (s : State) (g : Grp) (code : Nat) (tag : TxTag) : State :=
  s.updLink g fun l => { l with ctrl := l.ctrl ++ [{ cmd := .control code l.ctlSeq, tag := tag }], ctlSeq := (l.ctlSeq + 1) % 16 }
/-- Whether a command belongs to a reload. -/
def TxCmd.ofLoad (x : TxCmd) : Bool :=
  match x.tag with
  | .image .. | .rule _ | .reload .. | .endLoad => true
  | _ => match x.cmd with | .time _ => true | _ => false
/-- The last command of a reload has been acknowledged: the group enters PRESENT (R285). -/
def State.loadDone (s : State) (g : Grp) : State :=
  let l := s.link g
  match l.load with
  | none => s
  | some full =>
    if l.waiting.any TxCmd.ofLoad || (full && !l.ending) then s
    else
      let s1 := s.updLink g fun l =>
        { l with load := none, ending := false, attached := l.cache,
                 unAct := [], unUrg := 0, unW := l.unW.filter fun o => l.order.any fun w => w.2.1 == o && !w.2.2 }
      s1.setGrpState g 3

/-! ### Lost commands -/

/-- A command whose fourth sending is not acknowledged (R277). One of a reload is sent anew. -/
def State.cmdLost (s : State) (g : Grp) (x : TxCmd) : State :=
  match x.tag, x.cmd with
  | .slot _, _ => s.slotLost x
  | _, .action .. => s.tally F.RFX_TALLY_A_URGENT_WAIT
  | tag, cmd =>
    let s1 := ((s.tally (F.GRP_LINK_B_LOST g)).cause (.grp g) 4).post { code := 0x22, cls := 2, src := g.val + 1, data := cmd.op }
    let s2 := match tag with | .image wid _ => s1.itemsSet (itemLost g wid) 8 | _ => s1
    let again : TxCmd := { x with sent := 0 }
    if s2.grpState g = 3 then s2.resync g
    else if (s2.link g).load.isSome && x.ofLoad then s2.updLink g fun l =>
      match x.cmd with
      | .write .. => { l with write := again :: l.write }
      | .rule .. => { l with rule := again :: l.rule }
      | .time _ => { l with stepTime := again :: l.stepTime }
      | _ => { l with ctrl := again :: l.ctrl }
    else s2

/-! ### Composition -/

/-- Whether a part has to be sent again in the frame being composed (R277, R278). -/
def State.partDue (s : State) (g : Grp) (p : Part) : Bool := !p.isB || p.alive != (s.link g).alive || s.grpState g == 4
/-- Whether a command's loss is reported when its group becomes ABSENT: a timed command or an ACTION (R286). -/
def TxCmd.reported (x : TxCmd) : Bool := x.cmd.timed.isSome || (match x.cmd with | .action .. => true | _ => false)
/-- The commands of parts not acknowledged in time join the retries; those sent four times are lost, or while the up-link is lost end
their repeats and stay unconfirmed (R277, R278). -/
def State.retries (s : State) (g : Grp) : State :=
  let due := ((s.link g).flight.filter fun p => s.partDue g p).flatMap (·.cmds)
  let ended := due.filter fun x => 4 ≤ x.sent
  let s1 := s.updLink g fun l => { l with flight := l.flight.filter fun p => !s.partDue g p, retry := l.retry ++ due.filter fun x => x.sent < 4 }
  if s.grpState g = 4 then s1.updLink g fun l => { l with unAct := l.unAct ++ ended.filter TxCmd.reported }
  else ended.foldl (fun s x => s.cmdLost g x) s1
/-- The toggles last accepted (Table 13.1, byte 16). -/
def State.toggles (s : State) (g : Grp) : Nat :=
  (List.finRange 8).foldl (fun a n => if (s.ch (chOf g n)).tallyOk = some true then a + 2 ^ n.val else a) 0
/-- Whether a command is a STEP. -/
def TxCmd.isStep (x : TxCmd) : Bool := match x.cmd with | .step .. => true | _ => false
/-- The queues filled into a frame in the order of R274: what is placed, and the link with what is left. While a STEP that did not fit waits,
timed commands and retries wait behind it: they travel in its frame or in a later one (R246, log entry 178). -/
def Link.place (l : Link) (now bytes : Nat) : List TxCmd × Link :=
  let a := fill now bytes l.stepTime
  let held := a.2.1.any TxCmd.isStep
  let b := if held then ([], l.retry, a.2.2) else fill now a.2.2 l.retry
  let c := fill now b.2.2 l.action
  let d := if held then ([], l.tx, c.2.2) else fill now c.2.2 l.tx
  let e := fill now d.2.2 l.iol
  let f := fill now e.2.2 l.ctrl
  let h := fill now f.2.2 l.rule
  let i := fill now h.2.2 l.write
  (a.1 ++ b.1 ++ c.1 ++ d.1 ++ e.1 ++ f.1 ++ h.1 ++ i.1,
   { l with stepTime := a.2.1, retry := b.2.1, action := c.2.1, tx := d.2.1, iol := e.2.1, ctrl := f.2.1, rule := h.2.1, write := i.2.1 })
/-- END_LOAD is queued once every RULE and WRITE of a full reload has been sent (R274). -/
def State.queueEnd (s : State) (g : Grp) : State :=
  let l := s.link g
  if l.load = some true ∧ !l.ending ∧ l.rule = [] ∧ l.write = [] then
    (s.updLink g fun l => { l with ending := true }).sendControl g 1 .endLoad
  else s
/-- The last grid instant at or before a tick. -/
def gridBefore (g : Grp) (tick : Nat) : Nat := tick - (tick + 250 - frameGrid g) % 250
/-- Whether a frame of a group starts at a tick: at a grid instant, or late, where the frame before it ends; one for each grid instant
(R273). -/
def Link.startsAt (l : Link) (g : Grp) (tick : Nat) : Bool :=
  decide (l.endT ≤ tick) && (l.grid.all fun x => x < gridBefore g tick) && (tick == gridBefore g tick || tick == l.endT) &&
    decide (frameGrid g ≤ tick)
/-- RATE + S over 2, to nearest (Table 13.1, bytes 13 to 15). -/
def State.rateField (s : State) : Int := roundOpen 60 (((rateOf (s.reg F.TB_RATE) + s.slewTerm : Int) : Rat) / 2)
/-- A byte string filled up to n bytes with END. -/
def padEnd (n : Nat) (l : List Byte) : List Byte := l.take n ++ List.replicate (n - l.length) 0
/-- FRAME_COMPOSE (R272 to R275, R281): a frame whose SYNC stands 40 ns on; it is short when that is not its grid instant. -/
def State.compose (s0 : State) (g : Grp) : State :=
  let s := s0.retries g
  let l := s.link g
  let sync := s.tick + 10
  let time := ((s.hub.time : Int) + 10 * s.advance).toNat
  let ns := time / 2 ^ 32 % 2 ^ 64
  let short := sync != gridBefore g sync
  let p := l.place ns (if short then 8 else 13)
  let sent := p.1.map fun x => { x with sent := x.sent + 1, cmd := match x.cmd with | .time _ => .time ns | c => c }
  let ab := splitArea ns 0 sent
  let fed := !l.fedHold && (s.on (F.GRP_WD_AUTO g) || l.fedPend)
  let area := padEnd 13 (sent.flatMap (TxCmd.bytes ns))
  let safe := s.on (F.GRP_STATUS_FORCED g)
  let alive := (l.alive + 1) % 16
  let head := alive * 16 + b2n (s.on F.TB_STATUS_EPOCH) * 8 + b2n fed * 4 + b2n safe * 2 + b2n short
  let pa : Part := {
    at_ := s.clock + 40, time := time, rate := s.rateField, alive := alive, epoch := s.on F.TB_STATUS_EPOCH, fed := fed
    safe := safe, short := short, isB := false, ackT := s.toggles g, ackR := l.recSeq, cmds := ab.1
    bytes := leBytes 1 head ++ area.take 8 }
  let pb : Part := { pa with
    isB := true, cmds := ab.2
    bytes := leBytes 1 (ns / 4) ++ leBytes 3 (unsgn 24 s.rateField) ++ leBytes 1 (s.toggles g) ++ leBytes 1 (l.recSeq.getD 255) ++
      (if short then [] else area.drop 8) }
  let here := s.dieOn g && (s.dieOf g).timed
  let s1 := s.updLink g fun _ =>
    { p.2 with alive := alive, fedPend := l.fedPend && !fed, endT := sync + (if short then 200 else 250), grid := some (gridBefore g sync),
               flight := l.flight ++ ([pa, pb].filter fun x => x.cmds != []), wire := if here then l.wire ++ [pa, pb] else l.wire }
  let s2 := s1.tally (F.GRP_LINK_B_RETRIES g) (p.1.filter fun x => x.sent != 0).length
  let n := ((s2.link g).action.filter fun x => x.tag == .cross).length
  let s3 := if n = 0 then s2 else (s2.tally F.RFX_TALLY_A_XG_BACKLOG n).cause .rfx 3
  s3.queueEnd g
/-- FRAME_COMPOSE: 40 ns before the SYNC of a group's next frame (R273). -/
def execFrameCompose (g : Grp) (s : State) : Host.Outcome State Fault Refusal :=
  onHub (fun s => if (s.link g).startsAt g (s.tick + 10) then s.compose g else s) s

/-! ### Acknowledgements -/

/-- Completed writes at the head of the order of writes. -/
def donePrefix : List (Nat × Nat × Bool) → Nat
  | (_, _, true) :: t => donePrefix t + 1
  | _ => 0
/-- The writes of a word that a test picks are acknowledged; APPLIED counts acknowledged writes in their order (R287). -/
def State.writesDone (s : State) (g : Grp) (off : Nat) (p : Nat → Bool) : State :=
  let order := (s.link g).order.map fun w => if w.2.1 = off ∧ p w.1 then (w.1, w.2.1, true) else w
  let n := donePrefix order
  (s.updLink g fun l =>
    { l with order := order.drop n,
             unW := if (order.drop n).any (fun w => w.2.1 == off && !w.2.2) then l.unW else l.unW.erase off,
             unBits := if (order.drop n).any (fun w => w.2.1 == off && !w.2.2) then l.unBits else l.unBits.filter fun p => p.1 != off }).wrapTally
    (F.GRP_IMAGE_APPLIED g) n
/-- The SUPPLY of a CH_MODE word takes effect with its acknowledgement (R61). -/
def State.supplyAt (s : State) (g : Grp) (off : Nat) (x : DlCmd) : State :=
  match grpUnit g off, x with
  | (.ch c, o), .write _ v => if o = 0x20 then (s.supplyTakes c v).portCheck c else s
  | _, _ => s
/-- A command is acknowledged by the die. -/
def State.confirm (s : State) (g : Grp) (x : TxCmd) : State :=
  match x.tag, x.cmd with
  | .image wid off, x => ((s.supplyAt g off x).writesDone g off fun i => i ≤ wid).itemsSet (itemOfWrite g wid) 0
  | .reload wid off, x => (s.supplyAt g off x).writesDone g off fun i => i < wid
  | .rule r, _ => if (s.link g).waiting.any (sendsRule r) then s else s.updLink g fun l => { l with unR := l.unR.erase r }
  | .endLoad, _ =>
    (s.setReg (F.GRP_IMAGE_APPLIED g) (s.reg (F.GRP_IMAGE_WRITTEN g))).updLink g fun l =>
      { l with order := [], unW := l.unW.filter fun o => l.waiting.any (sendsOff o) }
  | _, .time _ => (s.setReg F.TB_STATUS_ALIGNED (s.reg F.TB_STATUS_ALIGNED ||| 2 ^ g.val)).stepRelease
  | _, .step .. => (s.setReg F.TB_STATUS_ALIGNED (s.reg F.TB_STATUS_ALIGNED ||| 2 ^ g.val)).stepRelease
  | _, _ => s
/-- A part is acknowledged good: its commands are confirmed (R277). -/
def State.partGood (s : State) (g : Grp) (alive : Nat) (isB : Bool) : State :=
  let p := fun (x : Part) => x.alive == alive && x.isB == isB
  let cmds := ((s.link g).flight.filter p).flatMap (·.cmds)
  let s1 := s.updLink g fun l => { l with flight := l.flight.filter fun x => !p x }
  (cmds.foldl (fun s x => s.confirm g x) s1).loadDone g
/-- The first urgent up-link word of a kind leaves the die. -/
def takeUrg (p : UrgUp → Bool) : List UrgUp → Option UrgUp × List UrgUp
  | [] => (none, [])
  | x :: t => if p x then (some x, t) else let r := takeUrg p t; (r.1, x :: r.2)
/-- A part acknowledgement. -/
def UrgUp.isPart : UrgUp → Bool | .partAck .. => true | _ => false
/-- An action acknowledgement. -/
def UrgUp.isAct : UrgUp → Bool | .actAck .. => true | _ => false
/-- A condition word. -/
def UrgUp.isCond : UrgUp → Bool | .cond .. => true | _ => false
/-- An urgent up-link word that failed counts in UP_ERR (R495). -/
def State.upErr (s : State) (g : Grp) : State := s.tally (F.GRP_LINK_A_UP_ERR g)
/-- An urgent up-link word takes the place of two bytes of the status lane; a frame holds at most three, and what does not fit waits for the
next (R276). -/
def State.urgentUp (s : State) (g : Grp) (p : UrgUp → Bool) (k : State → UrgUp → State) : State :=
  let r := takeUrg p (s.dieOf g).urgUp
  match r.1 with
  | none => s
  | some w =>
    if 3 ≤ (s.dieOf g).urgCnt then s
    else k (s.updDie g fun d => { d with urgUp := r.2, urgCnt := d.urgCnt + 1, lane := d.lane - 2 }) w
/-- PART_ACK: the next part acknowledgement reaches the hub die, or fails on its way. -/
def State.partAck (s : State) (g : Grp) (ok : Bool) : State :=
  s.urgentUp g UrgUp.isPart fun s1 w => match w with
    | .partAck alive isB good =>
      if !s1.upOn g then s1 else if !ok then s1.upErr g else if good then s1.partGood g alive isB else s1
    | _ => s1
def execPartAck (g : Grp) (ok : Bool) (s : State) : Host.Outcome State Fault Refusal := onBoth g (fun s => s.partAck g ok) s
/-- ACTION_ACK: an urgent action word is acknowledged, and its place serves the next one (R279). A repeated acknowledgement of a word that
has been acknowledged is accepted and changes nothing (R495). -/
def State.actionAck (s : State) (g : Grp) (ok : Bool) : State :=
  s.urgentUp g UrgUp.isAct fun s1 w => match w with
    | .actAck q rule =>
      if !s1.upOn g then s1
      else if ok && (s1.link g).urgOut.any (fun x => x.1 == q && x.2.1 == rule) then
        (s1.updLink g fun l =>
          { l with urgOut := l.urgOut.filter fun x => x.1 != q, urgDone := ((q, rule) :: l.urgDone).take 2 }).urgGo g
      else if ok && decide ((q, rule) ∈ (s1.link g).urgDone) then s1
      else s1.upErr g
    | _ => s1
def execActionAck (g : Grp) (ok : Bool) (s : State) : Host.Outcome State Fault Refusal := onBoth g (fun s => s.actionAck g ok) s
/-- The word with the fewest sendings, the first of them. -/
def leastSent : List (Nat × RuleNo × Nat × Bool) → Option (Nat × RuleNo × Nat × Bool)
  | [] => none
  | x :: t => match leastSent t with
    | none => some x
    | some y => some (if x.2.2.1 ≤ y.2.2.1 then x else y)
/-- URGENT_RETRY: a word not acknowledged for 320 ns is sent again, up to three times; then it is lost. While the up-link is lost
it is sent twice, and its loss counts when the group becomes ABSENT (R278, R279, R286). Its second retry delays it, which counts once (R237). -/
def State.urgentRetry (s : State) (g : Grp) : State :=
  match leastSent (s.link g).urgOut with
  | none => s
  | some (q, r, n, said) =>
    let gone := fun (s : State) => (s.updLink g fun l => { l with urgOut := l.urgOut.filter fun x => x.1 != q })
    if 4 ≤ n then (((gone s).tally (F.GRP_LINK_B_LOST g)).cause (.grp g) 4).urgGo g
    else
      let here := s.dieOn g && (s.dieOf g).timed
      let s1 := ((s.urgIn g).updLink g fun l =>
        { l with urgOut := l.urgOut.map (fun x => if x.1 = q then (q, r, n + 1, said || n == 2) else x),
                 urgWire := if here then l.urgWire ++ [(q, r)] else l.urgWire }).tally (F.GRP_LINK_B_RETRIES g)
      if s.grpState g = 4 then ((gone s1).updLink g fun l => { l with unUrg := l.unUrg + 1 }).urgGo g
      else if n = 2 ∧ !said then s1.urgWait else s1
def execUrgentRetry (g : Grp) (s : State) : Host.Outcome State Fault Refusal := onHub (fun s => s.urgentRetry g) s

end Sys2Proof.Machine
end

