-- ==== Sys2Proof/Machine/LinkDie.lean ====
section
/-! DEFINITION. The group die's end of a Staed link: parts and urgent words, down-link commands, and how a die starts (R274 to
R285, R296, R461 to R463). -/

namespace Sys2Proof.Machine

/-! ### Taking parts -/

/-- Timed commands at the head of what has come are held; they wait for the commands before them in their frame (R246). -/
def State.takeTimed (g : Grp) : Nat → State → State
  | 0, s => s
  | k + 1, s =>
    match (s.dieOf g).inbox with
    | [] => s
    | x :: t =>
      if x.cmd.timed.isSome then
        State.takeTimed g k
          ((s.updDie g fun d => { d with inbox := t }).acceptTimed g x.cmd (match x.tag with | .slot i => some i | _ => none) x.epoch)
      else s
/-- The timed commands that can be held now. -/
def State.takeHeads (s : State) (g : Grp) : State := State.takeTimed g (s.dieOf g).inbox.length s
/-- The sequence of an ACTION, a CONTROL or an IOL (R275). -/
def DlCmd.seq : DlCmd → Option Nat
  | .action _ _ q _ => some q
  | .control _ q => some q
  | .iol _ q _ => some q
  | _ => none
/-- G as the die resolves it: the first instant after SYNC whose bits [17:2] match the field. One at or before SYNC stays as it is, so that
its command comes late (R113, R116, R248, R275, log entry 163). -/
def resolveG (sync g : Nat) : Nat := if g / 4 * 4 ≤ sync then g else sync + 1 + (g / 4 * 4 - (sync + 1)) % 2 ^ 18
/-- A command with its G as the die resolves it. -/
def DlCmd.resolved (sync : Nat) : DlCmd → DlCmd
  | .edge n on g => .edge n on (resolveG sync g)
  | .pulse n g w d => .pulse n (resolveG sync g) w d
  | .pwmStart n p d g a b => .pwmStart n p d (resolveG sync g) a b
  | .pwmStop n on g d => .pwmStop n on (resolveG sync g) d
  | .pwmDuty n g d a b => .pwmDuty n (resolveG sync g) d a b
  | .dac n g c => .dac n (resolveG sync g) c
  | x => x
/-- A command of a good part joins what has come, or is discarded as a repeat (R275). -/
def State.takeCmd (s : State) (g : Grp) (sync : Nat) (x0 : TxCmd) : State :=
  let now := s.dieNow g
  let x : TxCmd := { x0 with cmd := x0.cmd.resolved sync, epoch := (s.dieOf g).hdr }
  match x.cmd.seq with
  | none => s.updDie g fun d => { d with inbox := d.inbox ++ [x] }
  | some _ =>
    if (s.dieOf g).seqs.any fun r => r.2.kind == x.cmd.kind && r.2.seq == x.cmd.seq && decide (now < r.1 + 8000) then s
    else s.updDie g fun d => { d with inbox := d.inbox ++ [x], seqs := (d.seqs.filter fun r => decide (now < r.1 + 8000)) ++ [(now, x.cmd)] }
/-- The header of a good part A: the step epoch, the safe state forced, the watchdog restarted (R273, R281, R290). -/
def State.takeHeader (s : State) (g : Grp) (p : Part) : State :=
  let fresh := p.fed && (s.dieOf g).lastAlive != some p.alive
  let s1 := s.updDie g fun d =>
    { d with hdr := p.epoch, forced := p.safe, lastAlive := some p.alive, expired := d.expired && !fresh,
             wdOld := if fresh ∧ d.wdAt ≠ s.clock then d.wdAt else d.wdOld, wdAt := if fresh then s.clock else d.wdAt }
  if p.safe then s1.safeEnter g 2 else s1
/-- Records that an acknowledgement covers are kept no longer (R276). -/
def ackSent (q : Option Nat) (l : List (Nat × Nat × RecData)) : List (Nat × Nat × RecData) :=
  match q with
  | none => l
  | some q => if l.any (fun x => x.1 == q) then (l.dropWhile fun x => x.1 != q).drop 1 else l
/-- The acknowledgements of a good part B; the first after a start fixes the toggles and the record sequence (R48, R276). -/
def State.takeAcks (s : State) (g : Grp) (p : Part) : State :=
  if !(s.dieOf g).firstAck then
    let s1 := s.updDie g fun d => { d with firstAck := true, seq := (match p.ackR with | some q => (q + 1) % 256 | none => 0) }
    (List.finRange 8).foldl (fun s n => s.updCh (chOf g n) fun k => { k with toggle := !bit p.ackT n.val, sentA := none }) s1
  else
    let s1 := (List.finRange 8).foldl (fun s n => s.tallyAcked (chOf g n) (bit p.ackT n.val)) s
    s1.updDie g fun d => { d with sent := ackSent p.ackR d.sent }
/-- The instant of the model's clock from which a part is taken: 560 ns after SYNC for part A; 1,080 ns for part B, 880 in a short frame;
later by what urgent words have delayed it (R273, R274). -/
def Part.due (p : Part) : Nat := p.at_ + p.hold + (if !p.isB then 560 else if p.short then 880 else 1080)
/-- Whether a part carries a STEP. -/
def Part.steps (p : Part) : Bool := p.cmds.any fun x => match x.cmd with | .step .. => true | _ => false
/-- Whether a part carries a TIME. -/
def Part.times (p : Part) : Bool := p.cmds.any fun x => match x.cmd with | .time _ => true | _ => false
/-- What the die adds to its copy of machine time, in ns, when bits [9:2] of the machine time of SYNC are b and its copy stood at x
there: nothing where they agree, else the least that makes them (R249, R272, log entry 164). -/
def timeFix (b x : Nat) : Int :=
  let r := (4 * (b : Int) - x) % 1024
  if r = 0 ∨ 1021 ≤ r then 0 else if r < 512 then r else r - 1021
/-- The die's copy of machine time follows a good part B: its rate, and bits [9:2] of the machine time of SYNC, on one scale with it
(R249, R272). -/
def State.takeRate (s : State) (g : Grp) (p : Part) : State :=
  s.updDie g fun d =>
    let gone := ((s.clock - p.at_ : Nat) : Int) * (2 ^ 32 + d.rate)
    let x := ((d.time : Int) - gone).toNat / 2 ^ 32
    let fix := if d.gotTime && p.epoch == d.epoch then timeFix (p.time / 2 ^ 34 % 256) x else 0
    { d with rate := 2 * p.rate, time := ((d.time : Int) + fix * 2 ^ 32).toNat % 2 ^ 96, timeAt := if p.times then p.at_ else d.timeAt,
             hdr := if p.steps then p.epoch else d.hdr }
/-- A good part is taken: its header or its acknowledgements first, then its commands (R272, R274). A STEP tells the die the epoch of its
frame (R246, log entry 166). -/
def State.partIn (s : State) (g : Grp) (p : Part) : State :=
  let s1 := if p.isB then (s.takeAcks g p).takeRate g p else s.takeHeader g p
  (p.cmds.foldl (fun s x => s.takeCmd g (p.time / 2 ^ 32 % 2 ^ 64) x) s1).takeHeads g
/-- A part is checked: acknowledged, and taken when good. Its CRC stands over its bytes; a symbol that is no code fails it (R272, R274,
R277). -/
def State.takePart (s : State) (g : Grp) (check : Option (BitVec 16)) (isB : Bool) : State :=
  match (s.link g).wire with
  | [] => s
  | p :: t =>
    if p.isB != isB || !(s.dieOf g).timed || decide (s.clock < p.due) then s
    else
      let ok := check == some (BitVec.ofNat 16 (crc16 p.bytes))
      let s1 := (s.updLink g fun l => { l with wire := t }).updDie g fun d =>
        { d with urgUp := d.urgUp ++ [.partAck p.alive isB ok], downErr := if ok then d.downErr else min 0xFFFF (d.downErr + 1) }
      if ok then s1.partIn g p else s1
def execPartATaken (g : Grp) (check : Option (BitVec 16)) (s : State) : Host.Outcome State Fault Refusal :=
  onDie g (fun s => s.takePart g check false) s
def execPartBTaken (g : Grp) (check : Option (BitVec 16)) (s : State) : Host.Outcome State Fault Refusal :=
  onDie g (fun s => s.takePart g check true) s

/-! ### Urgent words -/

/-- An urgent word is executed by its rule's entry of the action table, and acknowledged; an entry of another code executes
nothing and is reported (R279, R280). -/
def State.urgRun (s : State) (g : Grp) (q : Nat) (r : RuleNo) : State :=
  let s1 := s.updDie g fun d => { d with urgExp := (q + 1) % 4, urgUp := d.urgUp ++ [.actAck q r] }
  match (s.dieOf g).table.find? (fun e => e.1 == r) with
  | some (_, code, n, param) =>
    if 1 ≤ code ∧ code ≤ 4 then s1.updDie g fun d => { d with acts := d.acts ++ [{ n := n, code := code, param := param }] }
    else s1.evt g (.discard none false)
  | none => s1.evt g (.discard none false)
/-- The held word follows its predecessor. -/
def State.urgNext (s : State) (g : Grp) : State :=
  match (s.dieOf g).urgHeld with
  | some (q, r) => if q = (s.dieOf g).urgExp then (s.updDie g fun d => { d with urgHeld := none }).urgRun g q r else s
  | none => s
/-- URGENT_ACTION: expected, early, or a repeat (R279). -/
def State.urgTake (s : State) (g : Grp) (ok : Bool) : State :=
  match (s.link g).urgWire with
  | [] => s
  | (q, r) :: t =>
    if !(s.dieOf g).timed then s
    else
      let s1 := s.updLink g fun l => { l with urgWire := t }
      if !ok then s1.updDie g fun d => { d with downErr := min 0xFFFF (d.downErr + 1) }
      else
        let e := (s.dieOf g).urgExp
        if q = e then (s1.urgRun g q r).urgNext g
        else if q = (e + 1) % 4 then s1.updDie g fun d => { d with urgHeld := some (q, r) }
        else s1.updDie g fun d => { d with urgUp := d.urgUp ++ [.actAck q r] }
def execUrgentAction (g : Grp) (ok : Bool) (s : State) : Host.Outcome State Fault Refusal := onDie g (fun s => s.urgTake g ok) s
/-- URGENT_SKIP: the predecessor of a held word has not come within 1.3 us; it is skipped and counted lost, unless the hub die has given it up
and counted it before (R279). -/
def State.urgSkip (s : State) (g : Grp) : State :=
  match (s.dieOf g).urgHeld with
  | none => s
  | some (q, r) =>
    let k := if (s.link g).urgOut.any fun x => x.1 == (q + 3) % 4 then 1 else 0
    ((((s.updDie g fun d => { d with urgHeld := none }).urgRun g q r).tally (F.GRP_LINK_B_LOST g) k).updLink g fun l =>
      { l with urgOut := l.urgOut.filter fun x => x.1 != (q + 3) % 4 }).urgGo g
def execUrgentSkip (g : Grp) (s : State) : Host.Outcome State Fault Refusal := onBoth g (fun s => s.urgSkip g) s

/-! ### Words written at the die -/

/-- Whether a unit is a group die unit. -/
def U.isGrp : U → Bool | .grp _ => true | _ => false
/-- The fields of a word at the die take the written value: those that a requester may write, and the urgent-edge mask that the hub die
forms (R229). -/
def storeWord (st : Store) (u : U) (off v : Nat) : Store :=
  ((layout u).filter fun r => r.off == off && (r.acc == .rw || r.acc == .rwl || (off == 0x58 && u.isGrp))).foldl (fun st r =>
    st.set ⟨u, off, r.lo, r.w, r.dflt⟩ (v / 2 ^ r.lo)) st
/-- The bucket is clipped to a reduced CAPACITY (R85). -/
def State.levelClip (s : State) (c : Ch) : State :=
  let cap : Rat := clampCap (s.dreg (F.OUT_CLAMP_CAPACITY c)) (s.pairHead c)
  s.updCh c fun k => { k with level := min k.level cap }
/-- What a channel word does at the die beside being stored (R61, R68, R81, R85, R94, R95, R130, R148, R172,
R178, R181, R266). A set FAULT
bit of OUT_CLEAR is left to CLEAR_FAULT, which brings what the die measures. -/
def State.chWritten (s : State) (c : Ch) (off v : Nat) (old : State) : State :=
  if off = 0x20 then s.modeWord c v
  else if off = 0x40 then (if s.switchable c then s.cmdSwitch c (bit v 0) (s.at c) false else s)
  else if off = 0x4C then
    (if old.dreg (F.OUT_FUSE_WIRE_CLASS c) = s.dreg (F.OUT_FUSE_WIRE_CLASS c) then s
     else s.updCh c fun k => { k with theta := wireDt (s.dreg (F.OUT_FUSE_WIRE_CLASS c)) })
  else if off = 0x50 then s.levelClip c
  else if off = 0x6C then s.clearWord c (v % 4) 0 false
  else if off = 0x80 then s.runWritten c
  else if off = 0xB0 then s.inCfgWritten c
  else if off = 0xD0 then s.loopWritten c (old.don (F.AN_CFG_LOOP_SUPPLY c))
  else if off = 0xD8 then s.dacWritten c (v % 2 ^ 16)
  else if off = 0xDC then s.clampWritten c
  else if off = 0xEC then s.pdOutDie c v
  else s
/-- A change of ACTIVE_LOW forms the state of LIMPx anew: its level has not stood as asserted, or as deasserted, for 10 ms (R293). -/
def State.limpPolarity (s : State) (g : Grp) (was : Bool) : State :=
  let low := s.don (F.GRP_LIMP_CTRL_ACTIVE_LOW g)
  if low == was then s else s.updDie g fun d => { d with limpLvl := low, limpPin := (d.limpPin.1, s.clock) }
/-- What a group word does at the die beside being stored (R292 to R294, R306, R415, R417, R418). -/
def State.grpWritten (s : State) (g : Grp) (off v : Nat) (old : State) : State :=
  if off = 0x30 ∨ off = 0x48 then
    let s1 := if s.don (F.GRP_LIMP_CTRL_ENABLE g) && s.don (F.GRP_LOCK g) then s else s.limpEnd g
    (s1.limpPolarity g (old.don (F.GRP_LIMP_CTRL_ACTIVE_LOW g))).limpCheck g
  else if off = 0x84 then (if bit v 0 then s.supplyAckDie g else s)
  else if off = 0xA4 then
    (if s.don (F.GRP_HK_SEQ_B_EN g) && s.dreg (F.GRP_HK_SEQ_B_TOKEN g) != old.dreg (F.GRP_HK_SEQ_B_TOKEN g) then
      s.updDie g fun d => { d with hkToken := true } else s)
  else if 0xF0 ≤ off ∧ off < 0x150 then
    (if h : (off - 0xF0) / 4 < 24 then
      let k : Fin 24 := ⟨(off - 0xF0) / 4, h⟩
      if s.dreg (F.GRP_HK_WIN_EN g k) = old.dreg (F.GRP_HK_WIN_EN g k) then s
      else (s.setDie (F.GRP_HK_STATE g k) 3).updDie g fun d => { d with hkSeen := d.hkSeen.filter (· != k.val) }
     else s)
  else if off = 0xB0 then
    (if s.dreg (F.GRP_HK_URGENT_TOKEN g) != old.dreg (F.GRP_HK_URGENT_TOKEN g) then s.updDie g fun d => { d with urgToken := true } else s)
  else s
/-- A word of the group takes a value at the die (R15). -/
def State.dieWord (s : State) (g : Grp) (off v : Nat) : State :=
  let p := grpUnit g off
  match p.1 with
  | .ch c =>
    if p.2 = 0x28 then s.permitWord c v
    else
      let s1 : State := if p.2 = 0xD8 ∨ p.2 = 0xEC then s else { s with die := storeWord s.die p.1 p.2 v }
      s1.chWritten c p.2 v s
  | u => ({ s with die := storeWord s.die u p.2 v } : State).grpWritten g p.2 v s

/-! ### Commands taken -/

/-- The command at the head of what has come is carried out when it is of a kind; timed commands behind it are then held. -/
def State.dlHead (s : State) (g : Grp) (kind : Nat) (k : State → TxCmd → State) : State :=
  match (s.dieOf g).inbox with
  | [] => s
  | x :: t => if x.cmd.kind = kind then (k (s.updDie g fun d => { d with inbox := t }) x).takeHeads g else s
/-- The place of a write of AN_DAC among those made: that of an image write, or of a word of a reload. -/
def TxTag.dacMark : TxTag → Nat
  | .image wid _ => 2 * wid + 2
  | .reload wid _ => 2 * wid + 1
  | _ => 0
/-- A WRITE taken at the die; of AN_DAC its place is kept (R181). -/
def State.takeWrite (s : State) (g : Grp) (x : TxCmd) : State :=
  match x.cmd with
  | .write w v =>
    let s1 := match grpUnit g (4 * w) with
      | (.ch c, o) => if o = 0xD8 then s.updCh c fun k => { k with dacW := x.tag.dacMark } else s
      | _ => s
    s1.dieWord g (4 * w) v
  | _ => s
/-- Whether the next command is a write of OUT_CLEAR with FAULT set, which is left to CLEAR_FAULT. -/
def Die.clearNext (d : Die) : Bool :=
  match d.inbox with
  | { cmd := .write w v, .. } :: _ => decide (0x1000 ≤ 4 * w) && 4 * w % 0x1000 == 0x6C && bit v 2
  | _ => false
/-- DL_WRITE. -/
def execDlWrite (g : Grp) (s : State) : Host.Outcome State Fault Refusal :=
  onDie g (fun s => if (s.dieOf g).clearNext then s else
    s.dlHead g 9 fun s x => s.takeWrite g x) s
/-- DL_RULE: the entry of a rule in the action table (R280). -/
def execDlRule (g : Grp) (s : State) : Host.Outcome State Fault Refusal :=
  onDie g (fun s => s.dlHead g 10 fun s x => match x.cmd with
    | .rule r code n param => s.updDie g fun d => { d with table := (d.table.filter fun e => e.1 != r) ++ [(r, code, n, param)] }
    | _ => s) s
/-- DL_ACTION: executed as a reflex action (R234, R274). -/
def execDlAction (g : Grp) (s : State) : Host.Outcome State Fault Refusal :=
  onDie g (fun s => s.dlHead g 8 fun s x => match x.cmd with
    | .action n code _ param => s.updDie g fun d => { d with acts := d.acts ++ [{ n := n, code := code, param := param }] }
    | _ => s) s
/-- A channel's own instants as its die's machine time moves by delta: real-time intervals go on, a running grid looks for its next
edge, and in relative mode the schedule moves (Table 11.1). -/
def Chan.stepped (delta : Int) (rel : Bool) (now : Nat) (k : Chan) : Chan :=
  let m := moved delta
  let run := k.run.map fun r =>
    let r1 : Run := { r with peak := r.peak.map fun p => (if rel then m p.1 else p.1, p.2),
                             pend := r.pend.map fun p => (if rel then m p.1 else p.1, p.2) }
    if r1.led then r1.aimed now
    else { r1 with origin := r1.origin + delta, next := (r1.next.1, r1.next.2 + delta) }
  { k with
    run := run, gateT := m k.gateT, pulses := if rel then k.pulses.map (fun p => (m p.1, m p.2)) else k.pulses
    lastG := if rel then m k.lastG else k.lastG, lastT := if rel then m k.lastT else k.lastT
    port := { k.port with outs := k.port.outs.map (fun o => (o.1, m o.2)), lastStart := k.port.lastStart.map m } }
/-- The commands that came ahead of their STEP stand on the die's scale from here: those whose gate instant has come are late (R113, R246). -/
def State.heldLate (s : State) (g : Grp) : State :=
  let late := fun (h : Held) => h.early && decide (h.gate ≤ s.dieNow g)
  let told := (s.dieOf g).held.foldl (fun s h => match h.info with
    | some i => if late h then s.evt g (.late i (s.dieNow g - h.gate)) else s
    | none => s) s
  told.updDie g fun d => { d with held := d.held.map fun h => { h with late := h.late || late h, early := false } }
/-- The die's copy of machine time moves by delta ns, with every instant that the die keeps in it; a command that came ahead of the STEP, in
a frame of the new epoch, has its G on the new scale already (R246, Table 11.1). -/
def State.dieMoves (s : State) (g : Grp) (delta : Int) (rel : Bool) : State :=
  let m := moved delta
  let s1 := s.updDie g fun d =>
    { d with time := ((d.time : Int) + delta * 2 ^ 32).toNat % 2 ^ 96, epoch := d.hdr, safeAt := m d.safeAt, seqs := d.seqs.map fun p => (m p.1, p.2)
             recents := d.recents.map fun p => (m p.1, if rel then p.2.moved delta else p.2)
             delayQ := if rel then d.delayQ.map (fun p => { p with cross := m p.cross }) else d.delayQ
             held := d.held.map fun h =>
               if !rel || h.epoch == d.hdr then h
               else { h with cmd := h.cmd.moved delta, info := h.info.map (SlotInfo.moved delta), gate := m h.gate, gateOff := m h.gateOff } }
  ((chansOf g).foldl (fun s c => s.updCh c (Chan.stepped delta rel (s1.dieNow g))) s1).heldLate g
/-- DL_TIME: the die's copy of machine time is that of SYNC of the frame that carried it, counted on since; at an attach the qualified
states and the housekeeping windows start anew (R153, R249, R285, R418). -/
def State.takeTime (s : State) (g : Grp) (t : Nat) : State :=
  let s1 := (s.dieMoves g (((t + (s.clock - (s.dieOf g).timeAt) : Nat) : Int) - s.dieNow g) false).updDie g fun d => { d with gotTime := true }
  if s.grpState g ≠ 2 then s1
  else
    let s2 := (chansOf g).foldl (fun s c => if (s.ch c).mode = 3 then (s.unqualify c false).followSource c else s) s1
    (List.finRange 24).foldl (fun s k => s.setDie (F.GRP_HK_STATE g k) 3) s2
def execDlTime (g : Grp) (s : State) : Host.Outcome State Fault Refusal :=
  onDie g (fun s => s.dlHead g 11 fun s x => match x.cmd with | .time t => s.takeTime g t | _ => s) s
/-- DL_STEP: applied before the other commands of its frame; a repeat has no effect (R246, R275). -/
def State.takeStep (s : State) (g : Grp) (delta : Int) (rel : Bool) : State :=
  if (s.dieOf g).epoch == (s.dieOf g).hdr then s else s.dieMoves g delta rel
def execDlStep (g : Grp) (s : State) : Host.Outcome State Fault Refusal :=
  onDie g (fun s => s.dlHead g 12 fun s x => match x.cmd with | .step delta rel => s.takeStep g delta rel | _ => s) s
/-- DL_IOL: on-request octets for a port's next message (Table 13.2). -/
def execDlIol (g : Grp) (s : State) : Host.Outcome State Fault Refusal :=
  onDie g (fun s => s.dlHead g 14 fun s x => match x.cmd with
    | .iol n _ o => s.updPort (chOf g n) fun p => { p with odOut := o }
    | _ => s) s
/-- The command at the head of what has come is a CONTROL of a code. -/
def State.ctlHead (s : State) (g : Grp) (code : Nat) (k : State → State) : State :=
  match (s.dieOf g).inbox with
  | { cmd := .control c _, .. } :: t => if c = code then (k (s.updDie g fun d => { d with inbox := t })).takeHeads g else s
  | _ => s

/-! ### Control -/

/-- The bucket of a channel at END_LOAD: filled at the first full attach after a power-on reset, clipped at a later one (R463). -/
def State.bucketLoad (s : State) (c : Ch) (first : Bool) : State :=
  if first then s.updCh c fun k => { k with level := clampCap (s.dreg (F.OUT_CLAMP_CAPACITY c)) (s.pairHead c) } else s.levelClip c
/-- END_LOAD: every channel that waits for it leaves park in one tick, and the watchdog starts (R61, R285, R463). -/
def State.takeEndLoad (s : State) (g : Grp) : State :=
  let first := !(s.dieOf g).loadedOnce
  let s1 := s.updDie g fun d => { d with loading := false, intact := true, expired := false, wdAt := s.clock, loadedOnce := true, hkSeen := [] }
  let s2 := s1.leavePark ((chansOf g).filter fun c => ((s1.ch c).park.map (·.load)).getD false)
  (chansOf g).foldl (fun s c => s.bucketLoad c first) s2
def execEndLoad (g : Grp) (s : State) : Host.Outcome State Fault Refusal := onDie g (fun s => s.ctlHead g 1 fun s => s.takeEndLoad g) s
/-- CONTROL_RELEASE (R291). -/
def execControlRelease (g : Grp) (s : State) : Host.Outcome State Fault Refusal := onDie g (fun s => s.ctlHead g 2 fun s => s.safeRelease g) s
/-- CONTROL_HOLD: every channel of a refused die is disabled with its park resistor (R284). -/
def State.takeHold (s : State) (g : Grp) : State :=
  (chansOf g).foldl (fun s c => (((s.forceOff c).updCh c fun k =>
    { k with mode := 0, member := false, park := none, cmdOn := false, cmdRun := none, pulses := [], sink := false, shuntOff := false,
             loopOff := false, anOff := false, valid := false, qual := false, comp := false,
             rangeAt := if switchMode k.mode then s.clock else k.rangeAt }).setDie (F.IN_STATUS_WIRE_BREAK c) 0).anClear c true) s
def execControlHold (g : Grp) (s : State) : Host.Outcome State Fault Refusal := onDie g (fun s => s.ctlHead g 4 fun s => s.takeHold g) s

/-! ### How a die starts -/

/-- What a channel keeps when its die starts: what the hub die holds of it, and at a restart its latches, the fuse model, the
bucket and the count of R83 (R81, R85, R461, R462). A latch of cause 2 that was committed and not cleared since is entered again. -/
def Chan.started (k : Chan) (restart stuck : Bool) (now : Nat) : Chan :=
  let base : Chan := {
    dref := k.dref, rej := k.rej, waits := k.waits, stroke := none, trendFrac := k.trendFrac, tsFlag := k.tsFlag, tallyOk := k.tallyOk
    shedN := k.shedN, shedU := k.shedU, shedE := k.shedE, tj := k.tj, cur10 := k.cur10, cur10At := k.cur10At, sup := k.sup, dacImg := k.dacImg, rangeAt := now
    port := { k.port with rxOnly := false, cycle := 0, offset := 0, lastStart := none, dieOut := 0, outs := [], lineOut := 0, odOut := [],
                          odIn := [] } }
  if restart then
    { base with latFault := k.latFault, faults := k.faults, latTherm := k.latTherm, latClamp := k.latClamp, latFuse := k.latFuse, dwell := k.dwell, theta := k.theta,
                level := k.level, therms := k.therms }
  else { base with latFault := if stuck then 2 else 0, faults := if stuck then 4 else 0, theta := wireDt 0, level := clampCap (F.OUT_CLAMP_CAPACITY 0).dflt false }
/-- Whether a channel's last committed record of entry into Fault-latched names cause 2 (R461, Table 21.5). -/
def stuckCell (cells : List LocRec) (n : ChN) : Bool :=
  match (cells.filter fun r => r.code == 0x41 && r.chan == n.val).getLast? with
  | some r => r.data / 2 ^ 32 % 256 == 2
  | none => false
/-- The fields served from the mirror that only the power-on reset of the hub die resets (R430, log entry 195). -/
def hkKept (f : Fld) : Bool :=
  f.unit.isGrp && ((f.off == 0xB0 && decide (f.lo < 20)) || f.off == 0xB4 || (decide (0xC0 ≤ f.off) && decide (f.off < 0xF0)) || f.off == 0x158 ||
    (f.off == 0x15C && f.lo == 16))
/-- A die starts: from its power-on reset with its store as last committed, or from a restart with its Ledger kept. Its copy of machine
time is open until a TIME comes (R249, R296, R461). The urgent words that it has not acknowledged are lost (R286). -/
def State.dieStart (s0 : State) (g : Grp) (restart : Bool) : State :=
  let d := s0.dieOf g
  let p := ((chansOf g).foldl State.strokeAbort s0).openValue
  let s := p.2
  let d1 : Die := {
    powered := true, gclk := true, hkAt := s.clock, timed := restart && d.timed, time := p.1 * 2 ^ 32 % 2 ^ 96, hdr := d.hdr
    gcount := d.gcount, lostAt := if restart then d.lostAt else none
    loadedOnce := restart && d.loadedOnce, store := if restart then d.store else d.cells, cells := d.cells, dirty := restart && d.dirty
    lseq := if restart then d.lseq else (d.cells.getLast?.map (·.lseq)).getD 0, downErr := 0, suspended := d.hold || d.suspended, hkSeen := d.hkSeen, hourAt := s.clock }
  let s1 : State := { s with die := s.die.filter fun p => p.1.unit.grpOf != some g || hkKept p.1 }
  let s2 := s1.updDie g fun _ => d1
  let s3 := (chansOf g).foldl (fun s c => s.updCh c fun k => k.started restart (k.latFault == 2 && stuckCell d.cells (chN c)) s.clock) s2
  let lost := if s3.hubOn then s3.tally (F.GRP_LINK_B_LOST g) (s3.link g).urgOut.length else s3
  let s4 := lost.updLink g fun l => { l with wire := [], urgWire := [], urgSeq := 0, urgOut := [], urgDone := [] }
  s4.local g 0x49 0xF 0 (b2n restart)
/-- CONTROL_RESTART (R296). -/
def execControlRestart (g : Grp) (s : State) : Host.Outcome State Fault Refusal := onDie g (fun s => s.ctlHead g 3 fun s => s.dieStart g true) s
/-- GROUP_DIE_POR: L+ has returned; nothing runs while a loss of GNDFx lasts, and this ends one (R311, R461). -/
def execGroupDiePor (g : Grp) (s : State) : Host.Outcome State Fault Refusal := .next (s.dieStart g false)

end Sys2Proof.Machine
end

