-- ==== Sys2Proof/Machine/UpLink.lean ====
section
/-! DEFINITION. The up-link of a Staed link: its frames, records and reports as they reach the hub die, attach and loss (R276 to
R291, R311), and the group's control words. -/

namespace Sys2Proof.Machine

/-! ### Reports of a die -/

/-- The tally that counts a cause bit of a channel (Table 4.25). -/
def causeTally (c : Ch) (k : Nat) : Option Fld :=
  if k = 3 then some (F.OUT_TALLY_A_FUSE_TRIPS c) else if k = 4 then some (F.OUT_TALLY_B_CLAMP_LOCKS c)
  else if k = 5 then some (F.OUT_TALLY_A_THERMAL_OFFS c) else if k = 6 then some (F.OUT_TALLY_C_FAULT_LATCHES c)
  else if k = 9 then some (F.OUT_TALLY_C_CLEAR_REFUSED c) else none
/-- The tally that counts a cause bit of a group (Tables 14.11, 14.12). -/
def grpTally (g : Grp) (k : Nat) : Option Fld :=
  if k = 9 then some (F.GRP_SUP_TALLY_A_UV_WARNS g) else if k = 10 then some (F.GRP_SUP_TALLY_A_LOCKOUTS g)
  else if k = 13 then some (F.GRP_SUP_TALLY_B_OV_EVENTS g) else if k = 14 then some (F.GRP_SUP_TALLY_C_REVERSE g) else none
/-- A tally counts, if there is one. -/
def State.tallyOpt (s : State) : Option Fld → State
  | some f => s.tally f
  | none => s
/-- GRP_OUT_SHED records a shed (R105, Table 4.27). -/
def State.shedRecord (s : State) (c : Ch) : State :=
  let g := grpOf c
  ((s.tally (F.GRP_OUT_SHED_TALLY g)).setReg (F.GRP_OUT_SHED_LAST g) c.val).setReg (F.GRP_OUT_SHED_VALID g) 1
/-- The n-th shed of a channel is reported, by its urgent word or by its EVENT; the first to come records it (R105, log entry 170). -/
def State.shedSeen (s : State) (c : Ch) (urgent : Bool) (n : Nat) : State :=
  let k := s.ch c
  let s1 := if n ≤ k.shedE ∨ n ∈ k.shedU then s else s.shedRecord c
  s1.updCh c fun k => if urgent then { k with shedU := if n ≤ k.shedE ∨ n ∈ k.shedU then k.shedU else k.shedU ++ [n] }
    else { k with shedE := max n k.shedE, shedU := k.shedU.filter fun m => n < m }
/-- Clamp energy of e x 0.1 mJ joins its accumulator in units of 0.1 J (R419, Table 20.13). -/
def State.clampAdd (s : State) (c : Ch) (e : Nat) : State :=
  let n := (s.hk.clamp.lookup c.val).getD 0 + e
  ({ s with hk := { s.hk with clamp := putAssoc s.hk.clamp c.val (n % 1000) } } : State).hwTally (F.AGE_CLAMP c) (n / 1000)
/-- The mode report of a die (R61); it completes what waits for it. -/
def State.modeIn (s : State) (c : Ch) (m : Nat) (member : Bool) : State :=
  let r := s.modeReport c m member
  let s1 := if r.1 then r.2.itemsSet (itemOfMode c) 0 else r.2
  if m = 8 then s1.portActive c else s1.portLeft c
/-- A notification made at a die is raised at the hub die with its own machine time. -/
def State.raiseEntry (s : State) (e : OutEntry) : State :=
  match e.body with
  | (4, 8, t) :: b => s.raise e.kind t b
  | b => s.raise e.kind s.now b
/-- A slot's record of its first edge is changed. -/
def State.updWait (s : State) (i : SlotInfo) (k : EdgeWait → EdgeWait) : State :=
  s.updCh (tgt i.target) fun x => { x with waits := x.waits.map fun w => if w.order = i.order then k w else w }
/-- A DAC action's code becomes that of AN_DAC in the image, unless a write of AN_DAC was made after it (R178, R181). -/
def State.dacIn (s : State) (c : Ch) (code wid : Nat) : State := if wid < (s.ch c).dacImg then s else s.hwSet (F.AN_DAC_CODE c) code
/-- An EVENT reaches the hub die (R276). -/
def State.eventIn (s : State) (g : Grp) : EvData → State
  | .mode n m member => s.modeIn (chOf g n) m member
  | .chCause n k => (s.cause (.ch (chOf g n)) k).tallyOpt (causeTally (chOf g n) k)
  | .grpCause k => (s.cause (.grp g) k).tallyOpt (grpTally g k)
  | .safe on cause => s.setSafe g on cause
  | .limp on => s.setLimp g on
  | .ledger r => s.copyIn g r
  | .notify e => s.raiseEntry e
  | .tallyOvf n => (s.stick (F.IN_STATUS_TALLY_OVF (chOf g n)) 1).cause (.ch (chOf g n)) 16
  | .tsLost n => s.tsLost (chOf g n)
  | .glitch n => s.tally (F.IN_COUNTS_GLITCHES (chOf g n))
  | .discard n fold => s.discarded (n.map (chOf g)) fold
  | .late i d =>
    if i.late then s
    else ((s.slotLate i.target i.action i.t 0 2 d).tally F.FOLD_TALLY_B_LINK_LATE).updWait i fun w => { w with late := true, uncomp := true }
  | .orderAdj i gate =>
    let s1 := (s.tally F.FOLD_TALLY_C_ORDER_ADJ).cause .fold 5
    match i with
    | none => s1
    | some i => s1.updWait i fun w => { w with adj := true, uncomp := true, g := gate }
  | .coincident => s.tally F.FOLD_TALLY_C_COINCIDENT
  | .cmdOff n => s.setCmd (chOf g n) false false
  | .shed n k => ((((s.shedSeen (chOf g n) false k).tally (F.OUT_TALLY_B_SHEDS (chOf g n))).cause (.ch (chOf g n)) 8).setCmd (chOf g n) false false).supplierShed
      (chOf g n)
  | .hkExit slot dir code => s.hkExitIn g slot dir code
  | .hkFault => s.cause .hk (12 + g.val)
  | .rode => s.tally (F.GRP_SUP_TALLY_B_RIDE_THROUGHS g)
  | .switches n k => s.hwTally (F.AGE_SWITCHES (chOf g n)) k
  | .clampE n e => s.clampAdd (chOf g n) e
  | .dacCode n code wid => s.dacIn (chOf g n) code wid

/-! ### Records -/

/-- A reliable record reaches the hub die, which takes records in sequence only (R276). -/
def State.recIn (s : State) (g : Grp) (q : Nat) (r : RecData) : State :=
  if (s.link g).recSeq.isNone || (s.link g).recSeq == some ((q + 255) % 256) then
    let s1 := s.updLink g fun l => { l with recSeq := some q }
    match r with
    | .void => s1
    | .timestamp n rising epoch t => s1.timestampIn (chOf g n) rising epoch t
    | .event e => s1.eventIn g e
    | .iol n o => s1.updPort (chOf g n) fun p => { p with odIn := o }
  else s
/-- The bytes of a reliable record (Table 13.5). -/
def RecData.size : RecData → Nat
  | .void => 7
  | .timestamp .. => 7
  | .event _ => 6
  | .iol _ o => 2 + o.length
/-- The next record of a queue is sent in its turn, with its sequence, and kept until it is acknowledged; the frame that carries it is
good or not (R276). A die that has just started sends none before its first good part B. -/
def State.sendRec (s : State) (g : Grp) (ok : Bool) (rank : Nat) (l : List RecData) (drop : Die → Die) : State :=
  match l with
  | [] => s
  | r :: _ =>
    if !(s.dieOf g).firstAck || !s.upOn g || !s.laneFor g rank r.size then s
    else
      let q := (s.dieOf g).seq
      let s1 := (s.laneTake g r.size).updDie g fun d => { drop d with seq := (d.seq + 1) % 256, sent := d.sent ++ [(q, s.clock, r)] }
      if ok then s1.recIn g q r else s1
/-- TIMESTAMP. -/
def execTimestamp (g : Grp) (ok : Bool) (s : State) : Host.Outcome State Fault Refusal :=
  onBoth g (fun s => s.sendRec g ok 2 (s.dieOf g).tsQ fun d => { d with tsQ := d.tsQ.drop 1 }) s
/-- EVENT. -/
def execEvent (g : Grp) (ok : Bool) (s : State) : Host.Outcome State Fault Refusal :=
  onBoth g (fun s => s.sendRec g ok 3 (s.dieOf g).evQ fun d => { d with evQ := d.evQ.drop 1 }) s
/-- IOL_RECORD. -/
def execIolRecord (g : Grp) (ok : Bool) (s : State) : Host.Outcome State Fault Refusal :=
  onBoth g (fun s => s.sendRec g ok 4 (s.dieOf g).iolQ fun d => { d with iolQ := d.iolQ.drop 1 }) s
/-- The rank of a reliable record in Table 13.5. -/
def RecData.rank : RecData → Nat
  | .void => 2
  | .timestamp .. => 2
  | .event _ => 3
  | .iol .. => 4
/-- RECORD_RESEND: the k-th record kept, not acknowledged for 2 us, is sent again in its turn with its sequence (R276). -/
def execRecordResend (g : Grp) (k : Nat) (ok : Bool) (s : State) : Host.Outcome State Fault Refusal :=
  onBoth g (fun s => match (s.dieOf g).sent[k]? with
    | none => s
    | some (q, t, r) =>
      if !s.passed g t 2000 || !s.laneFor g r.rank r.size then s
      else
        let s1 := (s.laneTake g r.size).updDie g fun d => { d with sent := d.sent.set k (q, s.clock, r) }
        if ok && s.upOn g then s1.recIn g q r else s1) s
/-- DELAY: a measured delay, sent once and not kept (R124). -/
def execDelay (g : Grp) (ok : Bool) (s : State) : Host.Outcome State Fault Refusal :=
  onBoth g (fun s => match (s.dieOf g).delayQ with
    | [] => s
    | r :: t =>
      let s1 := (s.laneTake g 5).updDie g fun y => { y with delayQ := t }
      if !s.laneFor g 0 5 then s else if ok && s.upOn g then s1.delayIn (chOf g r.n) r.dir r.delay r.lp r.cross r.slot else s1) s
/-- The condition of an urgent word (Tables 10.3, 13.4). -/
def urgCond (c : Ch) (code : Nat) : Cond :=
  if code < 2 then { kind := 3, src := c.val, bit := code } else { kind := 5, src := c.val, bit := code - 2 }
/-- URGENT_CONDITION. -/
def State.urgCondIn (s : State) (g : Grp) (ok : Bool) : State :=
  s.urgentUp g UrgUp.isCond fun s1 w => match w with
    | .cond n code k =>
      if !s1.upOn g then s1
      else if !ok then s1.upErr g
      else (if code = 7 then s1.shedSeen (chOf g n) true k else s1).condition g (urgCond (chOf g n) code)
    | _ => s1
def execUrgentCondition (g : Grp) (ok : Bool) (s : State) : Host.Outcome State Fault Refusal := onBoth g (fun s => s.urgCondIn g ok) s

/-! ### Loss and attach -/

/-- An up-link lost with no detaching report (R311, Tables 14.4, 21.4). -/
def State.unannounced (s : State) (g : Grp) : State :=
  ((((s.setReg (F.GRP_SUP_LAST_CAUSE g) 3).tally (F.GRP_SUP_TALLY_C_UNANNOUNCED g)).cause (.grp g) 15).notify 0x1F
    [(12, 1, g.val), (13, 1, 10), (16, 2, unsgn 16 (sgn 12 (s.reg (F.GRP_SUP_STATUS_LPX g)))), (18, 2, 4 * s.reg (F.GRP_SUP_STATUS_HOLD g))]).post
    { code := 0x21, cls := 3, src := g.val + 1 }
/-- The commands of a reload that have not been sent are given up (R278). -/
def Link.abandon (l : Link) : Link :=
  match l.load with
  | none => l
  | some _ =>
    let keep := fun (x : TxCmd) => match x.tag with | .reload .. | .endLoad => false | _ => true
    { l with load := none, ending := false, stepTime := l.stepTime.filter fun x => !x.ofLoad, write := l.write.filter keep, rule := [],
             ctrl := l.ctrl.filter keep }
/-- The up-link is lost (R278, R286). -/
def State.upLost (s : State) (g : Grp) : State :=
  let st := s.grpState g
  if st = 0 ∨ st = 4 then s
  else
    let s1 := (s.unannounced g).updLink g fun l => { l with fails := 0 }
    if absentState st then s1.setGrpState g 0
    else ((s1.updLink g Link.abandon).setGrpState g 4).cause (.grp g) 5
def execUplinkLost (g : Grp) (s : State) : Host.Outcome State Fault Refusal := onHub (fun s => s.upLost g) s
/-- UPLINK_LOST_TIMEOUT: lost for 10 ms (R286). -/
def execUplinkLostTimeout (g : Grp) (s : State) : Host.Outcome State Fault Refusal :=
  onHub (fun s => if s.grpState g = 4 then s.setGrpState g 0 else s) s
/-- The streams of a group. -/
def grpStreams (g : Grp) : List Strm := (List.finRange 16).map fun j => ⟨16 * g.val + j.val, by omega⟩
/-- UPLINK_LOCK: the up-link of an absent group locks, or returns (R278, R283); the phase of its frames is found anew (R192). -/
def State.upLock (s : State) (g : Grp) : State :=
  if s.grpState g = 0 ∨ s.grpState g = 4 then
    ((grpStreams g).foldl (fun s x => s.updChain x fun k => { k with frame := none })
      (s.updLink g fun l => { l with fails := 0 })).setGrpState g 1
  else s
def execUplinkLock (g : Grp) (s : State) : Host.Outcome State Fault Refusal := onBoth g (fun s => s.upLock g) s
/-- Whether a stream stood at the low current range at an instant of the model's clock, since its last change but one (R191). -/
def State.lowAt (s : State) (x : Strm) (t : Int) : Bool :=
  if x.val % 2 = 1 ∧ t < (s.ch (streamCh x)).rangeAt then !s.lowRange x else s.lowRange x
/-- The tick in which the first bit of a frame that comes now reaches the decimator: that of the row for the first one after the lock,
and a whole number of 800 ns on for each later one (R192, log entry 165). -/
def State.frameTick (s : State) (x : Strm) : Nat :=
  match (s.chain x).frame with
  | none => s.tick
  | some f => f + (s.tick - f) / 200 * 200
/-- Bits marked where the range has changed from the bit before (R213). -/
def markRange : Bool → List MBit → List MBit
  | _, [] => []
  | was, b :: l => { b with gap := b.gap || b.low != was } :: markRange b.low l
/-- Bits of a good frame join a chain's buffer, each with the tick in which it reaches the decimator and the range in which its modulator
took it, 800 ns before (R191, R192, R213). -/
def State.bitsIn (s : State) (x : Strm) (bits : BitVec 20) : State :=
  let f := s.frameTick x
  let new := (List.range 20).map fun i =>
    ({ t := f + 10 * i, b := bits.getLsbD i, gap := false, lost := false, low := s.lowAt x ((s.clock : Int) - 800 + 40 * i) } : MBit)
  let k := s.chain x
  let was := match k.bits.getLast?, k.sinc with | some b, _ => b.low | none, b :: _ => b.low | none, [] => s.lowAt x ((s.clock : Int) - 800)
  s.updChain x fun k => { k with bits := k.bits ++ markRange was new, frame := some (f + 200) }
/-- A frame that fails its check has no bits; the frames after it keep their place, and the decimator finds gap bits (R17, R213). -/
def State.bitsLost (s : State) (x : Strm) : State :=
  let f := s.frameTick x
  s.updChain x fun k => { k with frame := some (f + 200) }
/-- Bytes 1 to 40 of an up-link frame: bit i of stream j stands at position 16 i + j (Table 13.3). -/
def streamBytes (bits : List (BitVec 20)) : List Byte :=
  leBytes 40 ((List.range 20).foldl (fun a i => a + bits.zipIdx.foldl (fun b p => if p.1.getLsbD i then b + 2 ^ (16 * i + p.2) else b) 0) 0)
/-- An up-link frame brings seven bytes of status lane, less those that urgent words have moved there; what the frames before it left may hold
the beginning of one record, and its urgent words begin to count (R276, log entry 167). -/
def State.laneIn (s : State) (g : Grp) : State :=
  s.updDie g fun d => { d with lane := min 0 d.lane + 7, left := min 16 (d.left + d.lane.toNat), urgCnt := 0 }
/-- UPLINK_FRAME: a frame's bits go to the group's chains; one that fails its check counts, and the eighth in a row is a loss (R276,
R278). A die without MCLKx has no bits to send. -/
def State.upFrame (s0 : State) (g : Grp) (bits : List (BitVec 20)) (lane : List Byte) (check : Option (BitVec 16)) : State :=
  let s := s0.laneIn g
  if !s.upOn g then s
  else if check == some (BitVec.ofNat 16 (crc16 (streamBytes bits ++ lane))) then
    let s1 := s.updLink g fun l => { l with fails := 0 }
    if !(s.dieOf g).timed || s.absent g then s1
    else ((grpStreams g).zip bits).foldl (fun s p => s.bitsIn p.1 p.2) s1
  else
    let s1 := (s.upErr g).updLink g fun l => { l with fails := l.fails + 1 }
    let s2 := if s.absent g then s1 else (grpStreams g).foldl State.bitsLost s1
    if 8 ≤ (s2.link g).fails then s2.upLost g else s2
def execUplinkFrame (g : Grp) (bits : List (BitVec 20)) (e : LaneEnd) (s : State) : Host.Outcome State Fault Refusal :=
  onBoth g (fun s => s.upFrame g bits e.lane e.check) s
/-- LINKSTAT: the flags of the die; one that detaches makes its group ABSENT (R285, R286, R302). -/
def State.linkstat (s0 : State) (g : Grp) (ok : Bool) : State :=
  let d := s0.dieOf g
  let s := s0.laneTake g 5
  if !ok || !s.upOn g then s
  else
    let s1 := (((s.setReg (F.GRP_STATUS_MCLK_LOCK g) (b2n d.timed)).setReg (F.GRP_STATUS_GCLK_RUN g) (b2n d.gclk)).setReg
      (F.GRP_STATUS_LIMP_PIN g) (b2n (d.limpPin.1 != s.don (F.GRP_LIMP_CTRL_ACTIVE_LOW g)))).setReg (F.GRP_LINK_A_DOWN_ERR g) d.downErr
    let s2 := if d.intact then s1 else s1.updLink g fun l => { l with fedHold := false }
    let s3 := (s2.setSafe g d.safe d.safeCause).setLimp g d.limp
    if d.detach = 0 then s3 else (s3.setReg (F.GRP_SUP_LAST_CAUSE g) d.detach).setGrpState g 0
/-- LINKSTAT in its turn. The report of a die that detaches is its last: with it the die stops, whether the hub die hears it or not
(R302). -/
def execLinkstat (g : Grp) (ok : Bool) (s : State) : Host.Outcome State Fault Refusal :=
  onDie g (fun s =>
    let last := decide ((s.dieOf g).detach ≠ 0)
    let s1 := if s.hubOn && (last || s.laneFor g 5 5) then s.linkstat g ok else s
    if last then s1.updDie g fun d => { d with powered := false } else s1) s
/-- The reason an identity is refused: kind, check, stepping; 0 for none (R284). -/
def identReason (id : List Byte) : Nat :=
  if bytesAt id 0 1 ≠ 2 then 1 else if bytesAt id 12 4 ≠ crc32c (id.take 12) then 3 else if bytesAt id 1 1 ≠ 0xB0 then 2 else 0
/-- D_ref of a channel restarts for another die (R125). -/
def State.drefClear (s : State) (c : Ch) : State :=
  ((s.updCh c fun k => { k with dref := (none, none), rej := (0, 0) }).setReg (F.TO_STATUS_ON_N c) 0).setReg (F.TO_STATUS_OFF_N c) 0
/-- An attach begins (R285): the chains are synchronised, and the die sends its store (R438). -/
def State.attach (s : State) (g : Grp) (full : Bool) : State :=
  let l := s.link g
  let other := l.attached != [] && l.attached != l.cache
  let live := fun (x : TxCmd) => x.cmd.timed.isSome || (match x.cmd with | .action .. => true | _ => false)
  let s1 := s.updLink g fun l =>
    { l with stepTime := [], iol := [], ctrl := [], rule := [], write := [], retry := l.retry.filter live,
             flight := l.flight.map fun p => { p with cmds := p.cmds.filter live } }
  let s2 := if other then ((chansOf g).foldl State.drefClear s1).copyClear g else s1
  let s3 := (grpStreams g).foldl State.syncReset s2
  let s4 := (s3.updDie g fun d => { d with loading := full, mirSent := [], evQ := d.evQ ++ d.store.map fun r => .event (.ledger r) }).setReg (F.GRP_STATUS_FULL g)
    (b2n full)
  let s5 := s4.setGrpState g 2
  if full then
    (s5.updLink g fun l => { l with unR := s.grpRules g, unW := imageOffs }).loadFull g
  else (s5.loadTime g).loadRest g
/-- IDENT: cached and checked in LINKING and RESTARTING, ignored otherwise (R284, R285). -/
def State.identIn (s : State) (g : Grp) (id : List Byte) : State :=
  if s.grpState g ≠ 1 ∧ s.grpState g ≠ 6 then s
  else
    let why := identReason id
    let s1 := (s.updLink g fun l => { l with cache := id.take 16 }).setReg (F.GRP_STATUS_REFUSE g) why
    if why ≠ 0 then
      (((s1.tally (F.GRP_ATTACH_REFUSALS g)).cause (.grp g) 3).setGrpState g 7).sendControl g 4 .plain
    else
      let a := (s.link g).attached
      s1.attach g (!(s.dieOf g).intact || (a != [] && a != id.take 16))
def execIdent (g : Grp) (id : List Byte) (s : State) : Host.Outcome State Fault Refusal := onBoth g (fun s => if s.laneFor g 5 17 then (s.laneTake g 17).identIn g id else s) s

/-! ### Control words -/

/-- A write of GRP_CTRL (R290, R291, R296, Table 13.13). -/
def State.grpCtrl (s : State) (g : Grp) (v : Nat) : State :=
  let s1 := if bit v 0 then s.setReg (F.GRP_STATUS_FORCED g) 1 else if bit v 1 then s.setReg (F.GRP_STATUS_FORCED g) 0 else s
  let s2 := if bit v 2 && !s1.absent g && s1.on (F.GRP_STATUS_SAFE g) && !s1.on (F.GRP_STATUS_FORCED g) && s1.on (F.GRP_STATUS_GCLK_RUN g) then
    s1.sendControl g 2 .plain else s1
  if bit v 3 && s2.grpState g != 0 then
    ((s2.tally (F.GRP_ATTACH_RESTARTS g)).setGrpState g 6).sendControl g 3 .plain
  else s2
/-- A write of GRP_FEED with a key, from the host link (HOST) or the supervisor port (R281). -/
def State.feed (s : State) (g : Grp) (sv : Bool) (key : Nat) : State :=
  if key = 0x5AC3 ∧ (if sv then s.on (F.GRP_WD_SV g) else s.on (F.GRP_WD_HOST g)) then s.updLink g fun l => { l with fedPend := true } else s

end Sys2Proof.Machine
end

