-- ==== Sys2Proof/Machine/HostRing.lean ====
section
/-! DEFINITION. The rings: doorbells, inbound entries and their tests, outbound entries, records and messages, and bringing a
ring up and down (R322 to R334, R340, R341). -/

namespace Sys2Proof.Machine

/-- CHECK of an entry at a host address, over its bytes 0 to 59 (R326). -/
def State.entryCheck (s : State) (r : RingNo) (addr : Nat) (b : List Byte) : Nat :=
  crc32c ((if s.on (F.RING_CFG_PAYLOAD_ONLY r) then [] else leBytes 8 addr) ++ b.take 60)
/-- Entries of ring 0 consumed and not completed. -/
def State.outstanding (s : State) : Nat := s.host.cmds.length + s.host.queue.length
/-- Whether an inbound ring fetches the entry at its consumer index: it runs, entries are pending, requests may be issued, and
ring 0 has room on ring 1 and fewer than 32 commands outstanding; ring 2 holds the entry at its head until the Fold has
taken it; ring 4 waits for firmware (R118, R332, R334, R335, R404, R408). -/
def State.mayFetch (s : State) (r : RingNo) : Bool :=
  inbound r && s.ringRuns r && decide (0 < s.ringPending r) && s.host.mayIssue && !s.host.pclkLost && !s.sv.keeper &&
    (if r.val = 0 then
      s.on (F.RING_CFG_ENABLE 1) && decide (s.outstanding < 32) &&
        decide (s.ringPending 1 + (s.ring 1).out.length + s.outstanding < s.ringSize 1)
    else if r.val = 2 then s.host.head2.isNone && s.feeds else s.fwTakes)
/-- An entry that passed its tests is passed on: to the command engine, to the Fold, or to the firmware (step 5 of R327). A
request with an opcode that Table 12.5 does not list is refused. -/
def State.passEntry (s : State) (r : RingNo) (e : Entry) : State :=
  if r.val = 0 then
    let s1 := s.consume 0
    ({ s1 with host := { s1.host with queue := s1.host.queue ++ [e] } } : State).cmdsFinish
  else if r.val = 2 then { s with host := { s.host with head2 := some e } }
  else
    let s1 := s.consume 4
    if 0x40 ≤ entByte e 0 ∧ entByte e 0 ≤ 0x44 then { s1 with fw := { s1.fw with reqs := s1.fw.reqs ++ [e] } }
    else s1.ringOut 5 { kind := 0x51, body := [(4, 2, entSeq e), (6, 1, entByte e 6), (7, 1, entByte e 0), (8, 1, 6)] }
/-- The tests of a fetched entry, in their order (R327, R369). -/
def State.testEntry (s : State) (r : RingNo) (e : Entry) : State :=
  let want := s.entryCheck r (s.ringAddr r (s.reg (F.RING_CONS r))) e
  let seq := bytesAt e 56 4
  let exp := s.reg (F.RING_SEQ r)
  let fails := (s.ring r).fails
  let s1 := (s.wrapTally (F.CK_ENTRIES 0)).setReg (F.CK_RUN01 0) want
  if bytesAt e 60 4 = want ∧ seq = exp then
    let s2 := (if fails = 0 then s1 else s1.tally (F.CK_TALLY01_RECOVERED 0)).updRing r fun x => { x with fails := 0, refetch := false }
    if entByte e 2 = r.val ∧ entByte e 3 = 0 then s2.passEntry r e
    else (s2.consume r).complete seq 4 0 r.val 0xFF []
  else if fails < 3 then s1.updRing r fun x => { x with fails := fails + 1, refetch := true }
  else if bytesAt e 60 4 = want then
    ((s1.updRing r fun x => { x with fails := 0 }).halt r 1).complete seq 3 0 r.val 0xFF [(12, 4, exp), (16, 4, seq)]
  else
    let s2 := ((s1.consume r).complete seq 2 0 r.val 0xFF []).tally (F.RING_TALLY_CHECK_FAIL r)
    (((s2.tally F.HL_ERR_TALLY_B_CHECK_FAIL).cause .hl 2).tally (F.CK_TALLY01_FAILED 0)).cause .ck 0
/-- RING_ENTRY_FETCH: the first fetch of the entry at the consumer index. -/
def execRingEntryFetch (r : RingNo) (e : Entry) (s : State) : Host.Outcome State Fault Refusal :=
  onHub (fun s => if s.mayFetch r && !(s.ring r).refetch then s.testEntry r e else s) s
/-- ENTRY_REFETCH: the same entry fetched again 1 us after a failed test. -/
def execEntryRefetch (r : RingNo) (e : Entry) (s : State) : Host.Outcome State Fault Refusal :=
  onHub (fun s => if s.mayFetch r && (s.ring r).refetch then s.testEntry r e else s) s
/-- A fetch that failed halts its ring with cause 2 (R320, R334). -/
def State.fetchFailed (s : State) (r : RingNo) : State :=
  if inbound r && s.ringRuns r then (s.updRing r fun x => { x with fails := 0 }).halt r 2 else s

/-! ### Doorbells -/

/-- A ring doorbell that is not valid, or for a ring not enabled, is ignored (R329). -/
def State.badDoorbell (s : State) (r : RingNo) (why v : Nat) : State :=
  let s1 := (s.tally F.HL_ERR_TALLY_B_DOORBELL_BAD).cause .hl 0
  if s1.on (F.RING_CFG_ENABLE 3) then s1.notify 3 [(12, 1, r.val), (13, 1, why), (16, 4, v)] else s1
/-- A doorbell value of a ring: a new producer index of an inbound ring, a new consumer index of an outbound one (R329). -/
def State.ringDoorbell (s : State) (r : RingNo) (v : Nat) : State :=
  let dist := fun a b : Nat => (a + 2 ^ 32 - b) % 2 ^ 32
  if r.val = 7 ∨ !s.on (F.RING_CFG_ENABLE r) then s.badDoorbell r 2 v
  else if inbound r then
    if dist v (s.reg (F.RING_PROD r)) ≤ s.ringSize r ∧ dist v (s.reg (F.RING_CONS r)) ≤ s.ringSize r then
      let s1 := (s.setReg (F.RING_PROD r) v).updRing r fun x => { x with db := v }
      if r.val = 2 then s1.lowWater else s1
    else s.badDoorbell r 1 v
  else if dist v (s.reg (F.RING_CONS r)) ≤ dist (s.reg (F.RING_PROD r)) (s.reg (F.RING_CONS r)) then
    let s1 := (s.setReg (F.RING_CONS r) v).updRing r fun x => { x with db := v }
    if r.val = 5 then s1.drain5 else s1
  else s.badDoorbell r 1 v
/-- Whether a doorbell value of a Drover channel takes effect (Table 16.6). -/
def State.drvTakes (s : State) (k : DrvNo) (v : Nat) : Bool :=
  let st := s.drvState k
  if v = 1 then (st == 0 || st == 3) && !s.on F.DRV_STATUS_BUS_ERR else if v = 2 then st == 1 || st == 3 else v == 3
/-- A full write of the doorbell word of a page of BAR2. -/
def State.pageDoorbell (s : State) (p : Nat) (v : Nat) : State :=
  if h : p < 8 then s.ringDoorbell ⟨p, h⟩ v
  else if h : p - 8 < 24 then
    let k : DrvNo := ⟨p - 8, h⟩
    (if s.drvTakes k v then s.updDrv k fun c => { c with db := v } else s).drvDoorbell k v
  else s
/-- A word of BAR2 as the host reads it: the last doorbell value that took effect at the first word of a page, and 0 elsewhere
(R329). -/
def State.bar2Word (s : State) (off : Nat) : Nat :=
  let p := off / 256
  if off % 256 / 4 ≠ 0 then 0
  else if h : p < 8 then (s.ring ⟨p, h⟩).db
  else if h : p - 8 < 24 then (s.drvc ⟨p - 8, h⟩).db
  else 0
/-- A write of BAR2, page by page in ascending order; bytes that are no whole doorbell word are ignored and counted (R329). -/
def State.doorbellWrite (s : State) (off : Nat) (data : List Byte) : State :=
  (List.range 32).foldl (fun s p =>
    let lo := max off (256 * p)
    let hi := min (off + data.length) (256 * p + 256)
    let whole := decide (off ≤ 256 * p) && decide (256 * p + 4 ≤ off + data.length)
    let bad := hi - lo - (if whole then 4 else 0)
    let s1 := if bad = 0 then s else s.tally F.HL_ERR_TALLY_B_DOORBELL_BAD bad
    if whole then s1.pageDoorbell p (bytesAt data (256 * p - off) 4) else s1) s

/-! ### What the device writes -/

/-- The next entry of a copy: its records as they stand now, one of the hub Ledger or two of a group's (R338, Table 15.10). -/
def State.copyEntry (s : State) (seq : Nat) (c : Nat × Nat × Nat) : OutEntry :=
  let n := if c.1 = 0 then 1 else min 2 c.2.2
  let data := if c.1 = 0 then s.hubRecord c.2.1
    else (List.range n).flatMap fun i => s.copyRecord ⟨(c.1 - 1) % 4, by omega⟩ (c.2.1 + i)
  { kind := 0x60, body := [(4, 4, seq), (8, 1, c.1), (9, 1, n), (12, 4, c.2.1), (16, 32, ofLe data)] }
/-- The RECORD_COPY in progress, the earliest one (R338). -/
def State.copying (s : State) : Option Cmd := s.host.cmds.find? fun x => x.copy.isSome
/-- What an outbound ring writes next: on ring 3 the NOTIFY_LOST entry of a loss comes first (R333); on ring 6 the copy in
progress (R338). -/
def State.nextOut (s : State) (r : RingNo) : Option OutEntry :=
  if r.val = 3 then
    match s.host.notif, s.host.lost with
    | [], _ => none
    | _ :: _, some x => some (lostEntry x)
    | e :: _, none => some e
  else if r.val = 6 then s.copying.bind fun x => x.copy.map (s.copyEntry x.seq)
  else (s.ring r).out.head?
/-- RING_STATUS as it reads: IDLE when nothing is pending and nothing is outstanding (Table 15.18). -/
def State.ringIdle (s : State) (r : RingNo) : Bool :=
  s.on (F.RING_CFG_ENABLE r) && s.ringPending r == 0 && (s.nextOut r).isNone && (r.val != 0 || s.outstanding == 0)
/-- The word RING_STATUS. -/
def State.ringStatus (s : State) (r : RingNo) : Nat :=
  s.reg (F.RING_STATUS_CAUSE r) * 16 + b2n (s.ringPending r == s.ringSize r) * 8 + s.reg (F.RING_STATUS_HALTED r) * 4 +
    b2n (s.ringIdle r) * 2 + s.reg (F.RING_CFG_ENABLE r)
/-- The record address; 0 for none. -/
def State.wbAddr (s : State) (r : RingNo) : Nat := s.reg (F.RING_WB_HI r) * 2 ^ 32 + s.reg (F.RING_WB_LO r) * 8
/-- RING_WB_WRITE: the record of a ring's own index and status (R330). -/
def State.writeRecord (s : State) (r : RingNo) : State :=
  let idx := s.reg (if inbound r then F.RING_CONS r else F.RING_PROD r)
  let s1 := s.updRing r fun x => { x with wbDue := false, wbAt := some s.tick, wbHalt := false }
  { s1 with host := { s1.host with out := s1.host.out ++ [.write (s.wbAddr r) (leBytes 4 idx ++ leBytes 4 (s.ringStatus r))] } }
/-- Whether the record of an inbound ring may be written: none within the last 1 us, or a halt (R330). -/
def RingSt.wbFree (x : RingSt) (r : RingNo) (now : Nat) : Bool := outbound r || x.wbHalt || x.wbAt.all fun t => decide (t + 250 ≤ now)
def execRingWbWrite (r : RingNo) (s : State) : Host.Outcome State Fault Refusal :=
  onHub (fun s => if (s.ring r).wbDue && (s.ring r).wbFree r s.tick && s.wbAddr r != 0 && s.host.mayIssue then s.writeRecord r else s) s
/-- A copy with an entry written; it has completed after its last one. -/
def nextCopy (c : Nat × Nat × Nat) : Option (Nat × Nat × Nat) :=
  let n := if c.1 = 0 then 1 else min 2 c.2.2
  if c.2.2 ≤ n then none else some (c.1, c.2.1 + n, c.2.2 - n)
/-- A list with its first element that passes a test changed. -/
def updFirst {α : Type} (p : α → Bool) (f : α → α) : List α → List α
  | [] => []
  | x :: t => if p x then f x :: t else x :: updFirst p f t
/-- That entry has been taken. -/
def State.tookOut (s : State) (r : RingNo) : State :=
  if r.val = 3 then
    if s.host.lost.isSome then { s with host := { s.host with lost := none } }
    else { s with host := { s.host with notif := s.host.notif.tail } }
  else if r.val = 6 then
    let l := updFirst (fun x : Cmd => x.copy.isSome) (fun x => { x with copy := x.copy.bind nextCopy }) s.host.cmds
    ({ s with host := { s.host with cmds := l } } : State).cmdsFinish
  else s.updRing r fun x => { x with out := x.out.tail }
/-- The bytes of an outbound entry: kind, ring, body, SEQ and CHECK (R324 to R326). -/
def State.entryBytes (s : State) (r : RingNo) (e : OutEntry) : List Byte :=
  let b := placeBytes 60 ([(0, 1, e.kind), (2, 1, r.val)] ++ e.body ++ [(56, 4, s.reg (F.RING_SEQ r))])
  b ++ leBytes 4 (s.entryCheck r (s.ringAddr r (s.reg (F.RING_PROD r))) b)
/-- OUTBOUND_ENTRY: an entry is written into the slot at the producer index (R331, R332, R369). -/
def State.writeEntry (s : State) (r : RingNo) (e : OutEntry) : State :=
  let b := s.entryBytes r e
  let s1 : State := { s with host := { s.host with out := s.host.out ++ [.write (s.ringAddr r (s.reg (F.RING_PROD r))) b] } }
  let s2 := (((s1.wrapTally (F.RING_PROD r)).wrapTally (F.RING_SEQ r)).wrapTally (F.CK_ENTRIES 1)).setReg (F.CK_RUN01 1) (bytesAt b 60 4)
  let s3 := (s2.updRing r fun x => { x with wbDue := true, unsig := x.unsig + 1, sigAt := if x.unsig = 0 then s.tick else x.sigAt }).tookOut r
  if r.val = 5 then s3.drain5 else s3
def execOutboundEntry (r : RingNo) (s : State) : Host.Outcome State Fault Refusal :=
  onHub (fun s =>
    if outbound r && s.ringRuns r && (r.val != 5 || s.fwRuns) && s.host.mayIssue && decide (s.ringPending r < s.ringSize r) then
      match s.nextOut r with
      | some e => s.writeEntry r e
      | none => s
    else s) s
/-- Whether an outbound ring's message is due: THRESH entries written since its last message, or HOLDOFF us since the first entry
not yet signalled (R331, Table 15.18). -/
def State.ringSignals (s : State) (r : RingNo) : Bool :=
  let n := (s.ring r).unsig
  decide (max 1 (s.reg (F.RING_IRQ_THRESH r)) ≤ n) || (n != 0 && decide ((s.ring r).sigAt + 250 * s.reg (F.RING_IRQ_HOLDOFF r) ≤ s.tick))
/-- RING_MESSAGE: THRESH entries have been written, or HOLDOFF has passed since the first not signalled; an inbound ring's
consumer index has reached its producer. On an outbound ring the record goes first (R331). -/
def State.ringMessage (s : State) (r : RingNo) : State :=
  let first := outbound r && (s.ring r).wbDue && s.wbAddr r != 0
  let due := if outbound r then s.ringSignals r else (s.ring r).irqDue
  if s.on (F.RING_IRQ_EN r) && due && !first then
    (s.requestMsix (s.reg (F.RING_IRQ_VECTOR r)) none).updRing r fun x => { x with unsig := 0, irqDue := false }
  else s
def execRingMessage (r : RingNo) (s : State) : Host.Outcome State Fault Refusal := onHub (fun s => s.ringMessage r) s

/-! ### Up and down -/

/-- A ring is enabled: indices at 0, sequence at RING_SEQ (R325, R340). -/
def State.ringUp (s : State) (r : RingNo) : State :=
  let s1 := ((s.setReg (F.RING_CFG_ENABLE r) 1).setReg (F.RING_PROD r) 0).setReg (F.RING_CONS r) 0
  let s2 := s1.updRing r fun x => { x with fails := 0, refetch := false, wbDue := false, wbAt := none, wbHalt := false, unsig := 0, irqDue := false }
  if r.val = 5 then s2.drain5 else s2
/-- A ring is disabled at an entry boundary: an entry fetched and not consumed is dropped; ring 3 loses what waits (R341). -/
def State.ringDown (s : State) (r : RingNo) : State :=
  let s1 := (s.setReg (F.RING_CFG_ENABLE r) 0).updRing r fun x => { x with fails := 0, refetch := false }
  if r.val = 2 then ({ s1 with host := { s1.host with head2 := none } } : State).setReg F.FOLD_STATUS_FULL_WAIT 0
  else if r.val = 3 then
    let s2 : State := { s1 with host := { s1.host with notif := [] } }
    s1.host.notif.foldl (fun s e => s.loseNote e.kind) s2
  else s1
/-- RESUME clears a halt of cause 1 or 2; the ring fetches again from its consumer index (R334). -/
def State.ringResume (s : State) (r : RingNo) : State :=
  let c := s.reg (F.RING_STATUS_CAUSE r)
  if s.on (F.RING_STATUS_HALTED r) ∧ (c = 1 ∨ c = 2) then
    ((s.setReg (F.RING_STATUS_HALTED r) 0).setReg (F.RING_STATUS_CAUSE r) 0).updRing r fun x => { x with fails := 0, refetch := false }
  else s

end Sys2Proof.Machine
end

