-- ==== Sys2Proof/Machine/Fw.lean ====
section
/-! DEFINITION. The embedded controller: its RAM, verification, boot, hitless update, watchdog and restarts (R398 to R409). -/

namespace Sys2Proof.Machine

/-- STATE. -/
def State.fwState (s : State) : Nat := s.reg F.FW_STATUS_STATE
/-- Whether an image runs, starts or is being restarted. -/
def State.imageRuns (s : State) : Bool := s.fwState ∈ [2, 3, 4, 7]
/-- The slot that is not running; slot 0 while no image runs (R398). -/
def State.idleSlot (s : State) : Nat := if s.imageRuns then 1 - s.reg F.FW_STATUS_SLOT else 0
/-- The first offset of a slot (Table 19.1). -/
def slotBase (k : Nat) : Nat := k * 0x18000
/-- Bytes of a slot as a number (Table 19.2). -/
def State.slotNum (s : State) (slot off n : Nat) : Nat := ofLe (s.fw.ram.bytes (slotBase slot + off) n)
/-- A word of the controller RAM. -/
def State.ramWord (s : State) (a : Nat) : Nat := ofLe (s.fw.ram.bytes a 4)
/-- Whether a requester other than the controller may write the RAM at an offset (R398). -/
def State.ramOpen (s : State) (a : Nat) : Bool :=
  decide (slotBase s.idleSlot ≤ a) && decide (a < slotBase s.idleSlot + 0x18000) && s.fwState != 3
/-- A write of a RAM word by the host link, the supervisor port or a bulk channel: it clears STAGED, or is discarded and counted
(R398, R402). -/
def State.ramWrite (s : State) (a v : Nat) : Bool × State :=
  if s.ramOpen a then
    (true, ({ s with fw := { s.fw with ram := s.fw.ram.setBytes a (leBytes 4 v) } } : State).setReg F.FW_STATUS_STAGED 0)
  else (false, s.tally F.FW_TALLY_RAM_DISCARD)
/-- An access of FW_RAM_DATA advances ADDR, wrapping (Table 19.13). -/
def State.ramStep (s : State) : State := s.setReg F.FW_RAM_ADDR (s.reg F.FW_RAM_ADDR + 1)

/-- Whether the digest of the body of an image in a slot is that of its header, and the signature behind the body one of the header under
the public key that it names (R399, R400). -/
def State.signedOk (s : State) (slot len : Nat) : Bool :=
  let b := fun off n => s.fw.ram.bytes (slotBase slot + off) n
  sha256 (b 64 len) == ofBe (b 32 32) &&
    ecdsaOk (Config.fwKey (s.slotNum slot 6 1)) (sha256 (b 0 64)) (ofBe (b (64 + len) 32)) (ofBe (b (96 + len) 32))
/-- The tests of the image in a slot; the code of the first that fails, 0 for none (Table 19.3). -/
def State.verifySlot (s : State) (slot : Nat) : Nat :=
  let n := s.slotNum slot
  let len := n 16 4
  if n 0 4 ≠ 0x57464B48 ∨ n 4 1 ≠ 1 ∨ n 7 1 ≠ 0 ∨ n 28 4 ≠ 0 ∨ len % 4 ≠ 0 ∨ 98176 < len ∨ len ≤ n 20 4 ∨ len ≤ n 24 4 then 1
  else if n 5 1 ≠ 0xB0 then 2
  else if 1 < n 6 1 ∨ !s.signedOk slot len then 3
  else if n 12 2 < s.reg F.FW_MINVER_FLOOR then 4
  else 0
/-- A verification has ended with a code (R400). -/
def State.verifyEnd (s : State) (code : Nat) : State :=
  (if code = 0 then s else (s.setReg F.FW_STATUS_FAIL code).tally F.FW_TALLY_REJECTS).cause .fw 0
/-- STATE changes: VERSION and SOURCE read 0 when no image runs, and the change is notified and recorded (R408, Tables 19.6, 19.9). -/
def State.fwTo (s : State) (st : Nat) : State :=
  let old := s.fwState
  if old = st then s
  else
    let s0 := s.setReg F.FW_STATUS_STATE st
    let s1 := if s0.imageRuns then s0 else (s0.setReg F.FW_VERSION 0).setReg F.FW_STATUS_SOURCE 0
    let secver := if s1.imageRuns then s1.slotNum (s1.reg F.FW_STATUS_SLOT) 12 2 else 0
    let s2 := s1.notify 0x20 [(12, 1, st), (13, 1, old), (14, 1, s1.reg F.FW_STATUS_FAIL), (15, 1, s1.reg F.FW_STATUS_SLOT),
      (16, 4, s1.reg F.FW_VERSION), (20, 2, secver)]
    let s3 := if st = 5 then s2.cause .fw 3 else s2
    s3.post { code := 0x0B, cls := if st = 5 then 2 else 1, detail := st, data := s3.reg F.FW_STATUS_FAIL }
/-- The image of a slot is started at ENTRY (R403). -/
def State.fwStart (s : State) (slot src : Nat) : State :=
  let s1 := ((s.setReg F.FW_STATUS_SLOT slot).setReg F.FW_STATUS_SOURCE src).setReg F.FW_VERSION (s.slotNum slot 8 4)
  ({ s1 with fw := { s1.fw with reload := none, ran := some src, started := false, cold := false, kickAt := s.tick } } : State).fwTo 7
/-- A copy of the flash is read into a slot and verified, and started when it passes (R401). -/
def State.tryCopy (s : State) (slot src : Nat) (copy : List Byte) : Bool × State :=
  let s1 : State := { s with fw := { s.fw with ram := s.fw.ram.load (slotBase slot) 0x18000 copy } }
  let code := s1.verifySlot slot
  if code = 0 then (true, (s1.verifyEnd 0).fwStart slot src) else (false, s1.verifyEnd code)
/-- Copy 0 of the flash, then copy 1 (R401). -/
def State.bootFrom (s : State) (slot : Nat) (flash : Bool) (copy0 copy1 : List Byte) : Bool × State :=
  if !flash then (false, s)
  else
    let p := s.tryCopy slot 2 copy0
    if p.1 then p else p.2.tryCopy slot 3 copy1
/-- A restart of the running image is counted (step 2 of R407). -/
def State.restarted (s : State) (counted : Bool) : State := if counted then (s.tally F.FW_TALLY_RESTARTS).cause .fw 2 else s
/-- BOOT_SEQUENCE: the boot after the power-on reset, or the reload of a slot that failed its restart (R401, R407, R458). -/
def State.boot (s : State) (flash : Bool) (copy0 copy1 : List Byte) : State :=
  if s.fw.bootDue then
    let s1 := if flash then s.fwTo 1 else s
    let p := s1.bootFrom 0 flash copy0 copy1
    let s2 := if p.1 then p.2 else p.2.fwTo 0
    ({ s2 with fw := { s2.fw with bootDue := false } } : State).setReg F.ROOT_RESET_STATUS_BOOT_DONE 1
  else match s.fw.reload with
    | some counted =>
      let p := s.bootFrom (s.reg F.FW_STATUS_SLOT) flash copy0 copy1
      if p.1 then p.2.restarted counted else ({ p.2 with fw := { p.2.fw with reload := none } } : State).fwTo 5
    | none => s
def execBootSequence (flash : Bool) (copy0 copy1 : List Byte) (s : State) : Host.Outcome State Fault Refusal :=
  onHub (fun s => s.boot flash copy0 copy1) s

/-- VERIFY is written: the slot that is not running is verified; with no image running STATE shows it (R400, Table 19.9). -/
def State.fwVerify (s : State) : State :=
  if !s.fw.jobs.isEmpty then s
  else
    let s1 : State := { s with fw := { s.fw with jobs := [.stage s.idleSlot s.fwState] } }
    if s.imageRuns then s1 else s1.fwTo 1
/-- The slot that ran last starts again at ENTRY, counted as a restart (step 2 of R407). -/
def State.fwAgain (s : State) (counted : Bool) : State :=
  (s.fwStart (s.reg F.FW_STATUS_SLOT) (s.fw.ran.getD 0)).restarted counted
/-- VERIFY_DONE: the verification under way ends: the image is staged, or the running slot started again, or the slot left unusable. One
whose purpose has gone, as the controller has been stopped or the slot been started meanwhile, ends all the same (R400, R407). -/
def State.verifyDone (s : State) : State :=
  match s.fw.jobs with
  | [] => s
  | .stage slot shown :: t =>
    let code := s.verifySlot slot
    let s1 := ({ s with fw := { s.fw with jobs := t } } : State).verifyEnd code
    let s2 := if slot = s1.idleSlot then ({ s1 with fw := { s1.fw with staged := slot } } : State).setReg F.FW_STATUS_STAGED (b2n (code == 0)) else s1
    if s2.fwState = 1 then s2.fwTo shown else s2
  | .restart counted :: t =>
    let code := s.verifySlot (s.reg F.FW_STATUS_SLOT)
    let s1 := ({ s with fw := { s.fw with jobs := t } } : State).verifyEnd code
    if s1.fwState ≠ 4 then s1
    else if code = 0 then s1.fwAgain counted else { s1 with fw := { s1.fw with reload := some counted } }
def execVerifyDone (s : State) : Host.Outcome State Fault Refusal := onHub State.verifyDone s
/-- ACTIVATE is written: a staged image is started, or a hitless update begins (R402, R404). -/
def State.fwActivate (s : State) : State :=
  if !s.on F.FW_STATUS_STAGED then s
  else if s.fwState = 2 ∨ s.fwState = 7 then
    ({ s with fw := { s.fw with started := false, cold := false } } : State).fwTo 3
  else if s.fwState = 3 ∨ s.fwState = 4 then s
  else (s.setReg F.FW_STATUS_STAGED 0).fwStart s.fw.staged 1

/-- The firmware writes the handover record of its format into the data region; what it writes stays open (R398, R404, Table 19.1, log
entry 190). -/
def State.handoverRecord (s : State) : State :=
  let span := Config.handoverSpan (s.slotNum (s.reg F.FW_STATUS_SLOT) 14 2)
  let off := span.1 % 0x10000
  let p := s.openValue
  { p.2 with fw := { p.2.fw with ram := p.2.fw.ram.setBytes (0x30000 + off) (leBytes (min span.2 (0x10000 - off)) p.1) } }
/-- HANDOVER: the old firmware's ISDUs have ended and it has written the handover record; the new image starts at RESUME, or cold when the
handover formats differ (R404, R405). -/
def State.handover (s : State) : State :=
  if s.fwState = 3 ∧ !s.fw.started ∧ (List.finRange 32).all (fun c => (s.ch c).port.isdu.isNone) then
    let s1 := s.handoverRecord
    { s1 with fw := { s1.fw with
        started := true, cold := s.slotNum s.fw.staged 14 2 != s.slotNum (s.reg F.FW_STATUS_SLOT) 14 2 } }
  else s
def execHandover (s : State) : Host.Outcome State Fault Refusal := onHub State.handover s
/-- HANDOVER_TIMEOUT: the controller switches regardless, cold (R405). -/
def execHandoverTimeout (s : State) : Host.Outcome State Fault Refusal :=
  onHub (fun s => if s.fwState = 3 ∧ !s.fw.started then { s with fw := { s.fw with started := true, cold := true } } else s) s
/-- A kick with the key: a starting image runs, and a new image completes the update (R403, R404, R407). -/
def State.fwKick (s0 : State) : State :=
  let s : State := { s0 with fw := { s0.fw with kickAt := s0.tick } }
  if s.fwState = 7 then (s.fwTo 2).fwResumed
  else if s.fwState = 3 ∧ s.fw.started then
    let slot := s.fw.staged
    let s1 := (((s.setReg F.FW_STATUS_SLOT slot).setReg F.FW_STATUS_STAGED 0).setReg F.FW_STATUS_SOURCE 1).setReg F.FW_VERSION
      (s.slotNum slot 8 4)
    let s2 := (({ s1 with fw := { s1.fw with started := false, cold := false, ran := some 1 } } : State).fwTo 2).cause .fw 1
    if s.fw.cold then s2.fwResumed else s2.fwHanded
  else s
/-- A restart begins: the controller is held in reset; a third one within 10 s fails it with FAIL 8 (R407). Answers whether
the slot is to be verified. -/
def State.fwHold (s : State) : Bool × State :=
  let near := s.fw.restarts.filter fun t => s.tick < t + 2500000000
  let s1 := ({ s with fw := { s.fw with reload := none, started := false, cold := false, restarts := (s.tick :: near).take 2 } }
    : State).fwTo 4
  if 2 ≤ near.length then
    (false, (({ s1 with fw := { s1.fw with restarts := [] } } : State).setReg F.FW_STATUS_FAIL 8).fwTo 5)
  else (true, s1)
/-- A restart on a fault (R407): the slot is verified, and started, or reloaded from the flash, or the controller fails. -/
def State.fwFault (s : State) (fail : Nat) (flash : Bool) (copy0 copy1 : List Byte) : State :=
  let h := (s.setReg F.FW_STATUS_FAIL fail).fwHold
  if !h.1 then h.2
  else
    let slot := h.2.reg F.FW_STATUS_SLOT
    let code := h.2.verifySlot slot
    let s1 := h.2.verifyEnd code
    if code = 0 then s1.fwAgain true
    else
      let p := s1.bootFrom slot flash copy0 copy1
      if p.1 then p.2.restarted true else p.2.fwTo 5
/-- RESTART is written: the running slot, or the slot last run by a controller that has failed or stopped (R407). -/
def State.fwRestart (s : State) : State :=
  if s.fw.ran.isNone ∨ s.fwState = 4 then s
  else
    let h := s.fwHold
    if h.1 then { h.2 with fw := { h.2.fw with jobs := h.2.fw.jobs ++ [.restart true] } } else h.2
/-- STOP is written: the controller is held in reset; a verification under way runs on (R400, R407). -/
def State.fwStop (s : State) : State :=
  ({ s with fw := { s.fw with reload := none, started := false, cold := false } } : State).fwTo 6
/-- A write of FW_CTRL, its bits from the lowest up. -/
def State.fwCtrl (s : State) (v : Nat) : State :=
  let s1 := if bit v 0 then s.fwVerify else s
  let s2 := if bit v 1 then s1.fwActivate else s1
  let s3 := if bit v 2 then s2.fwRestart else s2
  if bit v 3 then s3.fwStop else s3
/-- Whether FW_WD.TIME, in ms, has passed since the last kick (R407, Table 19.11). -/
def State.fwLate (s : State) : Bool := decide (s.fw.kickAt + clampN 10 1000 (s.reg F.FW_WD_TIME) * 250000 ≤ s.tick)
/-- FW_WATCHDOG_EXPIRY: an image that runs has not kicked within FW_WD.TIME (R407). -/
def execFwWatchdogExpiry (flash : Bool) (copy0 copy1 : List Byte) (s : State) : Host.Outcome State Fault Refusal :=
  onHub (fun s => if (s.fwState = 2 ∨ (s.fwState = 3 ∧ !s.fw.started)) ∧ s.fwLate then s.fwFault 5 flash copy0 copy1 else s) s
/-- RAM_UNCORRECTABLE: what the word holds stays open. -/
def State.ramBad (s : State) (a : Nat) : State :=
  let p := s.openValue
  { p.2 with fw := { p.2.fw with ram := p.2.fw.ram.setBytes (a % 0x40000 / 4 * 4) (leBytes 4 p.1) } }
def execRamUncorrectable (a : Nat) (flash : Bool) (copy0 copy1 : List Byte) (s : State) : Host.Outcome State Fault Refusal :=
  onHub (fun s => if s.fwState ∈ [2, 3, 7] then (s.ramBad a).fwFault 6 flash copy0 copy1 else s) s
/-- START_TIMEOUT: an image has not kicked within 100 ms of its start (R403, R405). -/
def State.startTimeout (s : State) (flash : Bool) (copy0 copy1 : List Byte) : State :=
  if s.fwState = 7 then s.fwFault 7 flash copy0 copy1
  else if s.fwState = 3 ∧ s.fw.started then
    ((({ s with fw := { s.fw with started := false, cold := false } } : State).setReg F.FW_STATUS_FAIL 7).setReg F.FW_STATUS_STAGED 0
      |>.fwTo 2).fwHanded
  else s
def execStartTimeout (flash : Bool) (copy0 copy1 : List Byte) (s : State) : Host.Outcome State Fault Refusal :=
  onHub (fun s => s.startTimeout flash copy0 copy1) s

end Sys2Proof.Machine
end

