-- ==== Sys2Proof/Machine/Resets.lean ====
section
/-! DEFINITION. Supplies, clock losses and resets of the hub die, of its host side and of the VAUX domain (R23, R46, R342, R451 to
R468, R494). -/

namespace Sys2Proof.Machine

/-! ### The host side -/

/-- The units with interrupt words that the events of R342 reset. -/
def hostUnit (u : U) : Bool := u == .hl || u == .drv || u == .ck
/-- Registers that the events of R342 return to their reset values (R343, R367, R377). -/
def hostFld (f : Fld) : Bool :=
  match f.unit with
  | .hl => f.off != 0x24 && f.off != 0x28
  | .ring _ => f.off != 0x28
  | .drv => f.off != 0x30
  | .drvCh _ => f.off != 0x30 && f.off != 0x34
  | .ck => true
  | .ckE _ => f.off == 0x10
  | .ckU _ => f.off != 0x1C
  | _ => false
/-- The fields that a test picks return to their reset values. -/
def State.clearRegs (s : State) (p : Fld → Bool) : State := { s with regs := s.regs.filter fun e => !p e.1 }
/-- The effect of R342 on the rings, the command engine, the Drover and the check units; the host link's snapshot and staging
registers are cleared (R456). What ring 2 held falls away first, which may leave the Fold's supply low (R119): that notification is
among those discarded. No vector stays pending for a cause, a ring or a channel that has been reset (R50). -/
def State.hostReset (s : State) : State :=
  let s0 := ((s.setReg (F.RING_PROD 2) 0).setReg (F.RING_CONS 2) 0).lowWater
  let s1 := (List.finRange 24).foldl (fun s k => s.queueEmpty k) s0
  let s2 := (s1.clearRegs hostFld).setReg F.FOLD_STATUS_FULL_WAIT 0
  let h := s2.host
  { s2 with
    host := { h with rings := Vector.replicate 8 {}, notif := [], lost := none, queue := [], cmds := [], head2 := none
                     pba := h.pba.filter fun p => p.2.any fun u => !hostUnit u }
    drv := {}
    ck := Vector.replicate 8 {}
    hub := { s2.hub with snap := s2.hub.snap.set 0 (0, 0), stage := s2.hub.stage.set 0 none } }
/-- The configuration space and the MSI-X structures at their reset. -/
def State.cfgClear (s : State) : State :=
  { s with host := { s.host with cfg := [], msixVec := [], pba := [], held := none, blocked := 0, aerUnc := 0, aerCor := 0, firstErr := 0,
                                 hdrLog := [], devSta := 0, d3 := false } }
/-- The link goes down: the reset of R342 begins, and the hub Ledger records it (Table 21.4). -/
def State.linkLost (s : State) : State :=
  let up := s.host.dlUp
  let s1 : State := { s with host := { s.host with dlUp := false, fatal := false, speed := 0, width := 0 } }
  if s1.hubOn then
    let s2 := s1.hostReset
    if up then s2.post { code := 7, cls := 2, detail := 1 } else s2
  else s1
/-- LINK_DOWN. -/
def execLinkDown (s : State) : Host.Outcome State Fault Refusal := .next s.linkLost
/-- PERST_N: the endpoint and the configuration space are reset for as long as it is asserted (R455, R456). -/
def execPerstN (s : State) : Host.Outcome State Fault Refusal :=
  .next { s.linkLost.cfgClear with host := { s.linkLost.cfgClear.host with perst := true } }
/-- HOT_RESET. -/
def execHotReset (s : State) : Host.Outcome State Fault Refusal := .next s.linkLost.cfgClear
/-- PERST_N_RELEASE. -/
def execPerstNRelease (s : State) : Host.Outcome State Fault Refusal := .next { s with host := { s.host with perst := false } }
/-- PHY_RAIL_LOW: the endpoint is held in reset (R452, R455). -/
def execPhyRailLow (s : State) : Host.Outcome State Fault Refusal :=
  .next { s.linkLost with host := { s.linkLost.host with phyLow := true } }
/-- PHY_RAIL_RISE. -/
def execPhyRailRise (s : State) : Host.Outcome State Fault Refusal := .next { s with host := { s.host with phyLow := false } }
/-- PCLK_LOST: the host link goes down (R23). -/
def execPclkLost (s : State) : Host.Outcome State Fault Refusal :=
  .next { s.linkLost with host := { s.linkLost.host with pclkLost := true } }
/-- PCLK_MIRROR_REFRESH: the endpoint's status is shown anew, and FRESH counts (R43, R44, Table 15.14); while the link is down the
status keeps its reset value (R342). -/
def State.pclkRefresh (s : State) : State :=
  let h := s.host
  let s1 := if !h.dlUp then s else [(F.HL_LINK_STATUS_FUNC_MASK, b2n h.funcMask), (F.HL_LINK_STATUS_MSIX_EN, b2n h.msixEn), (F.HL_LINK_STATUS_BME, b2n h.bme),
    (F.HL_LINK_STATUS_MSE, b2n h.mse), (F.HL_LINK_STATUS_DL_UP, b2n h.dlUp), (F.HL_LINK_STATUS_DSTATE, if h.d3 then 3 else 0),
    (F.HL_LINK_STATUS_WIDTH, h.width), (F.HL_LINK_STATUS_SPEED, h.speed)].foldl (fun s p => s.setReg p.1 p.2) s
  s1.refreshed 0
def execPclkMirrorRefresh (s : State) : Host.Outcome State Fault Refusal :=
  onHub (fun s => if s.host.pclkLost then s else s.pclkRefresh) s
/-- LINK_EVENT: the link trains up, which ends the reset of R342, or its speed or width changes (R319, R339, R455). -/
def State.linkEvent (s : State) (up : Bool) (speed width : Nat) : State :=
  if s.host.perst || s.host.phyLow || s.hub.run == .por || (!up && !s.host.dlUp) then s
  else
    let s1 : State := { s with host := { s.host with dlUp := true, speed := speed, width := width, pclkLost := false } }
    if !s1.hubOn then s1
    else
      let s2 := if s.host.dlUp then s1 else (s1.clearRegs hostFld).post { code := 7, cls := 0, detail := 2 }
      (s2.cause .hl 5).notify 4 [(12, 1, 3), (13, 1, speed), (14, 1, width)]
def execLinkEvent (up : Bool) (speed width : Nat) (s : State) : Host.Outcome State Fault Refusal := .next (s.linkEvent up speed width)
/-- Message requests kept in the pending-bit array go out as far as masks and state allow (R50). -/
def State.msixFlush (s : State) : State :=
  s.host.pba.foldl (fun s p => s.deliverMsix p.1 p.2) { s with host := { s.host with pba := [] } }
/-- POWER_STATE_CHANGE: D3hot pauses the rings and the Drover; D0 resumes them (R319). -/
def State.powerState (s : State) (d3 : Bool) : State := ({ s with host := { s.host with d3 := d3 } } : State).msixFlush
def execPowerStateChange (d3 : Bool) (s : State) : Host.Outcome State Fault Refusal :=
  .next (if s.host.dlUp then s.powerState d3 else s)
/-- The root soft reset and a Function Level Reset: the effect of R342 with the link kept up (R457). -/
def State.softReset (s : State) : State := s.hostReset.tally F.ROOT_RESET_STATUS_SOFT_RESETS
/-- What a Function Level Reset leaves of the configuration space: the link's own controls and the sticky error words, as the
PCI Express Base Specification lays down (log entry 31). -/
def flrKept (off : Nat) : Bool := off == 0x80 || off == 0xA0 || off == 0x108 || off == 0x10C || off == 0x114 || off == 0x118
/-- A table of words with one put in: in order of offset, and no entry equal to the word's reset. -/
def tabSet (l : List (Nat × Nat)) (k v d : Nat) : List (Nat × Nat) :=
  let m := l.filter fun p => p.1 != k
  if v = d then m else insSorted (fun a b => a.1 ≤ b.1) (k, v) m
/-- FUNCTION_LEVEL_RESET. -/
def State.flr (s : State) : State :=
  let h := s.host
  let mps := h.cfgWord 0x78 / 32 % 8
  let s1 : State := { s with host := { h with
    cfg := tabSet (h.cfg.filter fun p => flrKept p.1) 0x78 (cfgReset 0x78 + 32 * mps) (cfgReset 0x78)
    msixVec := [], pba := [], fatal := false, d3 := false } }
  if s1.hubOn then s1.softReset else s1
def execFunctionLevelReset (s : State) : Host.Outcome State Fault Refusal := .next (if s.host.dlUp then s.flr else s)

/-! ### Errors of the link -/

/-- Whether the uncorrectable error of a bit carries the header of a TLP: a poisoned TLP, a Completer Abort, an Unexpected Completion, a
Malformed TLP, an Unsupported Request (log entry 31). -/
def hasHeader (k : Nat) : Bool := [12, 15, 16, 18, 20].contains k
/-- What the endpoint keeps of an error: the bits of the AER and Device Status registers, and of the first unmasked one its bit and
the header of its TLP (R318, R320; as the PCI Express Base Specification lays down, log entry 31). -/
def HostIf.errLogged (h : HostIf) (unc fatal adv : Bool) (k : Nat) (hdr : List Nat) : HostIf :=
  let cls := if !unc || adv then 1 else if fatal then 4 else 2
  let h1 := { h with devSta := h.devSta ||| cls ||| (if unc && k == 20 then 8 else 0) }
  if !unc then { h1 with aerCor := h.aerCor ||| 2 ^ k }
  else
    let h2 := { h1 with aerUnc := h.aerUnc ||| 2 ^ k, aerCor := if adv then h.aerCor ||| 2 ^ 13 else h.aerCor }
    let open_ := (h.aerUnc &&& (0xFFFFFFFF - h.cfgWord 0x108)) == 0
    if open_ && !bit (h.cfgWord 0x108) k then { h2 with firstErr := k, hdrLog := if hasHeader k then hdr else h2.hdrLog } else h2
/-- The error message that goes out, unless its error is masked or its reporting is not enabled: ERR_COR for a correctable or advisory
error, else ERR_NONFATAL or ERR_FATAL (R320; log entry 31). -/
def HostIf.errMessage (h : HostIf) (unc fatal adv : Bool) (k : Nat) : List HostOut :=
  let cls := if !unc || adv then 0 else if fatal then 2 else 1
  let masked := (unc && bit (h.cfgWord 0x108) k) || ((!unc || adv) && bit (h.cfgWord 0x114) (if unc then 13 else k))
  let on := bit (h.cfgWord 0x78) cls || (cls != 0 && bit (h.cfgWord 4) 8)
  if masked || !on then [] else [.err cls]
/-- An error is logged: its status, its message, its tally, cause and, unless it is fatal, LINK_EVENT (R320, R339). -/
def State.logError (s : State) (unc fatal adv : Bool) (k : Nat) (hdr : List Nat) : State :=
  let h := s.host.errLogged unc fatal adv k hdr
  let s1 : State := { s with host := { h with out := h.out ++ s.host.errMessage unc fatal adv k } }
  if !s1.hubOn then s1
  else
    let s2 := (s1.tally (if unc then F.HL_ERR_TALLY_A_UNCORRECTABLE else F.HL_ERR_TALLY_A_CORRECTABLE)).cause .hl 4
    if fatal then s2
    else s2.notify 4 [(12, 1, if unc then 2 else 1), (13, 1, h.speed), (14, 1, h.width), (16, 4, if unc then s1.host.aerUnc else s1.host.aerCor)]
/-- A Drover channel that is RUNNING, STOPPING or ENDED halts; CUR names the descriptor in progress or the next to be taken. -/
def State.drvAbort (s : State) (k : DrvNo) (cause : Nat) : State :=
  let st := s.drvState k
  if st = 1 ∨ st = 2 ∨ st = 3 then s.drvHalt k cause (s.pair (F.DRV_CH_CUR_LO k) (F.DRV_CH_CUR_HI k)) else s
/-- A check unit takes back what it fed of the descriptor that a channel abandons; a block that this descriptor had opened is
abandoned (R376). -/
def State.ckBack (s : State) (k : DrvNo) : State :=
  match s.unitOf k with
  | none => s
  | some u =>
    if !(s.drvc k).busy then s
    else match (s.ck[u.val]).save with
      | some (run, cnt, open_) =>
        let s1 := ((s.setReg (F.CK_RUN u) run).setReg (F.CK_COUNT u) cnt).updCk u fun c => { c with save := none, test := none }
        if open_ then s1 else ((s1.setReg (F.CK_STATUS_IN_BLOCK u) 0).setReg (F.CK_STATUS_CARRIED u) 0).updCk u fun _ => {}
      | none => s
/-- Every active channel halts with a cause (R363). -/
def State.drvAbortAll (s : State) (cause : Nat) : State := (List.finRange 24).foldl (fun s k => (s.ckBack k).drvAbort k cause) s
/-- A channel halts with cause 6 (R364). -/
def State.drvFatalOne (s : State) (k : DrvNo) : State :=
  (s.ckBack k).drvHalt k 6 (s.pair (F.DRV_CH_CUR_LO k) (F.DRV_CH_CUR_HI k))

/-- Every channel halts with cause 6; only the events of R342 clear this (R364). -/
def State.drvFatal (s : State) : State := (List.finRange 24).foldl State.drvFatalOne s
/-- An uncorrectable error logged as fatal (R321, R364). -/
def State.fatalError (s : State) : State :=
  let s0 : State := { s with host := { s.host with fatal := true } }
  if !s0.hubOn then s0
  else
    let s1 := (List.finRange 8).foldl (fun s r => if r.val = 7 then s else s.halt r 3) s0
    let s2 := (s1.drvFatal.setReg F.DRV_STATUS_FATAL 1).tally F.DRV_TALLY_FATAL_STOPS
    (s2.cause .drv 25).post { code := 7, cls := 2, detail := 3 }
/-- Whether the severity register makes an uncorrectable error fatal (R320). -/
def HostIf.isFatal (h : HostIf) (k : Nat) : Bool := bit (h.cfgWord 0x10C) k
/-- An uncorrectable error: logged, as advisory where that is permitted and it is not fatal, and R321 follows when it is fatal. -/
def State.uncError (s : State) (k : Nat) (adv : Bool) (hdr : List Nat) : State :=
  let f := s.host.isFatal k
  let s1 := s.logError true f (adv && !f) k hdr
  if f then s1.fatalError else s1
/-- A request that the function does not support, with a header that stays open; a non-posted one may be reported as advisory (Table
15.3). -/
def State.unsupported (s : State) (nonPosted : Bool) : State :=
  let p := (List.range 4).foldl (fun (p : List Nat × State) _ => let q := p.2.openValue; (p.1 ++ [q.1 % 2 ^ 32], q.2)) ([], s)
  p.2.uncError 20 nonPosted p.1
/-- The words of a header as numbers. -/
def hdrWords (l : List Word) : List Nat := l.map (·.toNat)
/-- PCIE_ERROR (Table 15.3). -/
def execPcieError (e : PcieErr) (s : State) : Host.Outcome State Fault Refusal :=
  .next (if !s.host.dlUp then s
    else match e with
      | .correctable k => s.logError false false false k []
      | .request k adv h => s.uncError k adv (hdrWords h)
      | .ringFetch r k h => (if s.hubOn then s.fetchFailed r else s).uncError k false (hdrWords h)
      | .link k h => s.uncError k false (hdrWords h))
/-- A failed read of the Drover halts every active channel (R363). -/
def State.busError (s : State) (addr k : Nat) (hdr : List Nat) : State :=
  let s1 := ((s.drvAbortAll 4).setReg F.DRV_STATUS_BUS_ERR 1).setPair F.DRV_BUS_ERR_ADDR_LO F.DRV_BUS_ERR_ADDR_HI addr
  ((s1.tally F.DRV_TALLY_BUS_ERRS).cause .drv 24).uncError k false hdr

/-! ### The configuration space -/

/-- The writable bits of a word of the configuration space (Tables 15.1 and 15.2; within the capabilities, those of the PCI
Express Base Specification, log entry 31). -/
def cfgMask (off : Nat) : Nat :=
  ([(0x04, 0x0546), (0x0C, 0xFF), (0x10, 0xFFF00000), (0x14, 0xFFFFFFFF), (0x18, 0xFFFFE000), (0x1C, 0xFFFFFFFF), (0x44, 3),
    (0x50, 0xC0000000), (0x78, 0x79FF), (0x80, 0xCB), (0x98, 0x1F), (0xA0, 0xF), (0x108, 0x57F010), (0x10C, 0x57F010),
    (0x114, 0x71C1)].lookup off).getD 0
/-- A write of a word of the configuration space: W1C for the AER status words, PowerState 0 or 3 for power management, and
Initiate Function Level Reset. -/
def State.cfgWrite (s : State) (off : Nat) (be : Fin 16) (v : Nat) : State :=
  let h := s.host
  let old := h.cfgWord off
  let new := merge be old v
  let w1c := v &&& beMask be
  if off = 0x104 then { s with host := { h with aerUnc := h.aerUnc &&& (0xFFFFFFFF - w1c) } }
  else if off = 0x110 then { s with host := { h with aerCor := h.aerCor &&& (0xFFFFFFFF - w1c) } }
  else
    let m := cfgMask off
    let h := if off = 0x78 then { h with devSta := h.devSta &&& (0xF - w1c / 2 ^ 16 % 16) } else h
    let old := (h.cfg.lookup off).getD (cfgReset off)
    let word := (old &&& (0xFFFFFFFF - m)) ||| (new &&& m)
    if off = 0x44 ∧ (word % 4 = 1 ∨ word % 4 = 2) then s
    else
      let s1 : State := { s with host := { h with cfg := tabSet h.cfg off word (cfgReset off) } }
      if off = 0x44 then s1.powerState (word % 4 == 3)
      else if off = 0x78 ∧ bit w1c 15 then s1.flr
      else s1.msixFlush
/-- CONFIG_WRITE. -/
def execConfigWrite (off : Nat) (be : Fin 16) (v : Word) (s : State) : Host.Outcome State Fault Refusal :=
  .next (if s.host.dlUp then s.cfgWrite (off / 4 * 4) be v.toNat else s)

/-! ### Accesses of the host -/

/-- Whether a request of the host wants a completion. -/
def HostReq.nonPosted : HostReq → Bool
  | .read _ => true
  | _ => false
/-- A request of the host that finds another one still in the PCLK to CCLK crossing is discarded and counted (R46). -/
def State.reqBlocked (s : State) : State := (s.tally F.ROOT_ACCESS_TALLY_B_CROSS_BLOCKED).cause .root 3
/-- A request that the endpoint has taken while CCLK stands is held in the crossing; a second one is discarded, and counted when
CCLK runs again (R46, R453). -/
def State.holdReq (s : State) (q : HostReq) : State :=
  if s.hub.xin && s.hub.run != .pllWait && s.hub.run != .frozen then s
  else if s.host.held.isNone then { s with host := { s.host with held := some q } }
  else { s with host := { s.host with blocked := s.host.blocked + 1 } }
/-- A request of the host at the endpoint: it needs the link, and one that finds Memory Space Enable at 0 is an unsupported request
(Table 15.3); it is served while the hub die runs and the crossing holds no other, and waits for CCLK otherwise (R46, R453). -/
def State.hostAccess (s : State) (q : HostReq) (k : State → State) : State :=
  if !s.host.dlUp then s
  else if !s.host.mse then s.unsupported q.nonPosted
  else if !s.hubOn then s.holdReq q
  else if s.host.held.isSome then s.reqBlocked
  else k s
/-- An access of a requester: it is served while the hub die runs; for the host, see hostAccess. -/
def onBus (rq : Req) (q : HostReq) (k : State → State) (s : State) : Host.Outcome State Fault Refusal :=
  .next (if rq = .host then s.hostAccess q k else if s.hubOn then k s else s)

/-! ### Keeper mode ends -/

/-- Keeper mode ends, by KEEP or by a hub die reset (R395, R396). -/
def State.keeperEnd (s : State) : State :=
  if !s.sv.keeper then s
  else
    let s1 := ({ s with sv := { s.sv with keeper := false } } : State).setReg F.SV_KEEP_ACTIVE 0
    ((s1.setReg F.SV_KEEP_HOST_REQ 0).cause .sv 6).post { code := 0x0A, cls := 1, detail := 0 }

/-! ### The hub die -/

/-- The words of the VAUX domain (R421, R440). -/
def vauxFld (f : Fld) : Bool :=
  match f.unit with
  | .hours _ | .age _ => true
  | .ldg => (decide (0x2C ≤ f.off) && decide (f.off < 0x40)) || decide (0x4C ≤ f.off)
  | _ => false
/-- Those that are cleared when VAUX is applied; the baselines stand in the one-time store. -/
def vauxCleared (f : Fld) : Bool :=
  vauxFld f && match f.unit with | .age _ => !(f.off == 8 && f.lo == 16) && !(f.off == 0xC && f.lo == 31) | _ => true
/-- The accumulators restart from 0 and ACCUM_VALID reads 0; what the one-time store holds stays (R421, R422). -/
def State.accumGone (s : State) : State :=
  let s1 := s.clearRegs fun f => f == F.HK_STATUS_ACCUM_VALID || (vauxCleared f && f.unit != .ldg)
  { s1 with hk := { s1.hk with secs := [], clamp := [], ohms := [], firsts := [] } }
/-- VAUX_APPLIED: the Ledger, the accumulators and the identity cache are cleared (R454). -/
def State.vauxApplied (s : State) : State :=
  let s1 := s.accumGone.clearRegs vauxCleared
  { s1 with
    hub := { s1.hub with vaux := true }
    ldg := {}
    links := s1.links.map fun l => { l with cache := [], attached := [] } }
def execVauxApplied (s : State) : Host.Outcome State Fault Refusal := .next (if s.hub.vaux then s else s.vauxApplied)
/-- VAUX_LOST: what it held is lost, and FAULT_N is held low (R442, R452). -/
def execVauxLost (s : State) : Host.Outcome State Fault Refusal := .next { s.accumGone with hub := { s.hub with vaux := false, kept := false } }

/-- What the hub die keeps of a channel, at its power-on reset; what the group die keeps stays. -/
def Chan.hubPor (c : Chan) : Chan :=
  { c with
    dref := (none, none), rej := (0, 0), waits := [], stroke := none, trendFrac := 0, tsFlag := false, tallyOk := none
    shedU := [], shedE := 0, sup := 0, dacImg := 0
    port := { rxOnly := c.port.rxOnly, cycle := c.port.cycle, offset := c.port.offset, lastStart := c.port.lastStart,
              dieOut := c.port.dieOut, outs := c.port.outs, lineOut := c.port.lineOut, odOut := c.port.odOut } }
/-- A link end at the power-on reset of the hub die: every word counts as never confirmed (R453, R459); the identity cache lies
in the VAUX domain (R34). -/
def Link.hubPor (l : Link) (rules : List RuleNo) : Link :=
  { cache := l.cache, attached := l.attached, unW := imageOffs, unR := rules, fedHold := true }
/-- The power-on reset of the hub die: every hub register at its reset value but those of VAUX, and the endpoint in reset
(R453, R455). Machine time is the last one held until it starts anew (R431), and the housekeeping fields of R430 are reset at the dies. -/
def State.hubPor (s : State) : State :=
  let s0 := if s.hub.run == .running || s.hub.run == .frozen then s.baseCut else s
  let s1 := (if s.hub.vaux then s0 else s0.accumGone).clearRegs fun f => !vauxFld f
  { s1 with
    hid := []
    die := s1.die.filter fun p => !hkKept p.1
    hub := { clock := s1.hub.clock, since := s1.hub.since, xin := s1.hub.xin, core := s1.hub.core, vddIo := s1.hub.vddIo, vaux := s1.hub.vaux, scan := s1.hub.scan, kept := s1.hub.vaux,
             time := s1.hub.time }
    host := { perst := s1.host.perst, phyLow := s1.host.phyLow, pclkLost := s1.host.pclkLost, out := s1.host.out }
    links := (Vector.finRange 4).map fun g => (s1.links[g.val]).hubPor (if g.val = 0 then List.finRange 64 else [])
    chans := s1.chans.map Chan.hubPor
    chains := Vector.replicate 64 {}
    coef := []
    fold := {}
    rfx := {}
    drv := {}
    ck := Vector.replicate 8 {}
    sv := {}
    fw := {}
    tk := {}
    hk := { secs := s1.hk.secs, base := s1.hk.base, clamp := s1.hk.clamp, ohms := s1.hk.ohms, firsts := s1.hk.firsts } }
/-- HUB_POWER_ON_RESET: VDD_CORE, or VDD_IO, falls below its threshold. A fall of VDD_CORE is record 0x03 with its last reading, and the
time last held (R433, R435, R452). -/
def execHubPowerOnReset (core : Bool) (s : State) : Host.Outcome State Fault Refusal :=
  let s1 : State := if core then { s with hub := { s.hub with core := false } } else { s with hub := { s.hub with vddIo := false } }
  let told := if core && s.hub.core then s1.post { code := 3, cls := 4, data := s.reg F.HK_RAIL_A_VDD_CORE, stopped := true } else s1
  .next told.hubPor
/-- HUB_RAIL_RISE: both rails stand above their thresholds; VID is driven to code 2, its reset value (R451, R453). -/
def execHubRailRise (s : State) : Host.Outcome State Fault Refusal :=
  .next { s with hub := { s.hub with core := true, vddIo := true, since := s.clock } }
/-- POWER_ON_RESET_END: 1.0 ms after both rails have risen the one-time store is read and the PLL starts; the power-on reset counts in LDG_BOOT (R440, R453). -/
def execPowerOnResetEnd (s : State) : Host.Outcome State Fault Refusal :=
  .next (if s.hub.run == .por && s.hub.core && s.hub.vddIo && decide (1000000 ≤ s.clock - s.hub.since) then
    let s1 : State := { s with hub := { s.hub with run := .pllWait } }
    if s1.hub.vaux then s1.wrapTally F.LDG_BOOT else s1
  else s)
/-- Machine time starts from 0; a group die's own copy runs on until its next TIME (R241, R249), and the fine grid starts anew with
it. -/
def State.timeZero (s : State) : State :=
  { s with hub := { s.hub with time := 0 }, chains := s.chains.map fun x => { x with lastT := none, jump := [] } }
/-- CCLK_LOCK: machine time and the down-links start, record 0x01 is written, the boot sequencer starts, and register access is
served (R453). -/
def execCclkLock (s : State) : Host.Outcome State Fault Refusal :=
  .next (if s.hub.run == .pllWait && s.hub.xin then
    let s1 := ({ s with hub := { s.hub with run := .running, grid := 0 }, fw := { s.fw with bootDue := true } } : State).timeZero
    (s1.setReg F.ROOT_RESET_STATUS_CCLK_LOCK 1).post { code := 1, cls := 0, detail := b2n s.hub.kept }
  else s)

/-- What a hub die reset leaves of a link end: confirmations, order and sequences (R458, R459). -/
def Link.hubReset (l : Link) : Link :=
  { l with
    fedPend := false, fedHold := true, endT := 0, grid := none, unAct := [], unUrg := 0, urgDone := [], stepTime := [], retry := [], action := [], tx := [], iol := [], ctrl := [], rule := []
    write := [], flight := [], wire := [], urgQ := [], urgOut := [], urgWire := [], load := none, ending := false, fails := 0 }
/-- Restarts of a group that a hub die reset loses, queued or on the wire: they do not count in RESTARTS (R464). -/
def State.restartsLost (s : State) (g : Grp) : State :=
  let l := s.link g
  let n := ((l.retry ++ l.ctrl ++ l.wire.flatMap (·.cmds)).filter fun x => match x.cmd with | .control 3 _ => true | _ => false).length
  s.setReg (F.GRP_ATTACH_RESTARTS g) (s.reg (F.GRP_ATTACH_RESTARTS g) - n)
/-- A hub die reset begins: recorded, counted, the down-links stop, and the state that no power-on reset alone resets is reset
(R342, R396, R458). The commits of a step that it discards count (R247). The fraction of TREND, which stands in no register, is kept with
TREND: R458 discards the detector's own state and R147 does not name the fraction (DESIGN CHOICE, log entry 184). -/
def State.hubResetBegin (s : State) (cause : Nat) (r : LRec) : State :=
  if s.hub.run == .running || s.hub.run == .frozen then
    let s1 := ((((List.finRange 4).foldl State.restartsLost s.vidTick.tickEnd).post r).setReg F.ROOT_RESET_STATUS_CAUSE cause).tally F.ROOT_RESET_STATUS_HUB_RESETS
    let k := match s.hub.step with | some (_, _, k, _) => k | none => 0
    let s2 := (s1.tally F.TB_STATUS_STEPS k).hostReset
    { s2 with
      tk := {}
      chains := s2.chains.map fun x => { x with bits := [], frame := none, cap := [] }
      hub := { s2.hub with run := .reset, since := s2.clock, slew := 0, step := none, wait := none, last := (0, 0), siTick := none, so := none, soNext := none,
                           snap := Vector.replicate 3 (0, 0), stage := Vector.replicate 3 none }
      links := s2.links.map Link.hubReset
      fold := { order := s2.fold.order }
      rfx := {}
      chans := s2.chans.map fun c => { c with waits := [], stroke := none }
      sv := { s2.sv with flags := 0, inFrame := false, busy := false, commit := 0 }
      fw := { s2.fw with reqs := [] } }
  else s
/-- A write of ROOT_RESET with its key: HUB makes a hub die reset, SOFT alone a soft reset (R457, R458, R464). -/
def State.rootReset (s : State) (v : Nat) : State :=
  if v / 2 ^ 16 ≠ 0x3A5C then s
  else if bit v 1 then s.hubResetBegin 1 { code := 4, cls := 4, detail := 1 }
  else if bit v 0 then s.softReset else s
/-- PLL_LOCK_LOSS: a gap of XIN has cost the lock; CCLK is gated off and the hub die is frozen (R494). -/
def execPllLockLoss (s : State) : Host.Outcome State Fault Refusal :=
  .next (if s.hubOn then { s with hub := { s.hub with run := .frozen, xin := false } } else s)
/-- XIN_LOST: XIN is declared lost, which it is whenever the lock is lost, even where XIN has returned meanwhile; the record carries
the time of the last tick with T 1 (R23, R494). -/
def execXinLost (s : State) : Host.Outcome State Fault Refusal :=
  let s0 : State := if s.hub.run == .frozen then s else { s with hub := { s.hub with xin := false } }
  .next ((s0.hubResetBegin 2 { code := 2, cls := 4, stopped := true }).runEnd)
/-- XIN_RETURN: the 1.0 ms to the end of the reset begins (R458). -/
def execXinReturn (s : State) : Host.Outcome State Fault Refusal :=
  .next { s with hub := { s.hub with xin := true, since := if s.hub.xin then s.hub.since else s.clock } }
/-- VDD_IO_FALL: recorded as a hub die reset before the power-on reset that follows (R458). -/
def execVddIoFall (s : State) : Host.Outcome State Fault Refusal :=
  let s1 := s.hubResetBegin 0 { code := 4, cls := 4, detail := 3 }
  .next { s1 with hub := { s1.hub with vddIo := false } }
/-- BOUNDARY_SCAN_RESET: a TAP instruction takes the pins, or gives them back (R458). -/
def execBoundaryScanReset (take : Bool) (s : State) : Host.Outcome State Fault Refusal :=
  let s1 := if take then s.hubResetBegin 3 { code := 4, cls := 4, detail := 2 } else s
  .next { s1 with hub := { s1.hub with scan := take } }
/-- An armed rule waits for an ARM_AT ahead of the restarted machine time, and is live otherwise (R235, R458). -/
def State.rulesAgain (s : State) : State :=
  (List.finRange 64).foldl (fun s r =>
    if s.reg (F.RFX_ARM_PHASE r) = 0 then s
    else s.setReg (F.RFX_ARM_PHASE r) (if s.pair (F.RFX_ARM_AT_LO r) (F.RFX_ARM_AT_HI r) = 0 then 2 else 1)) s
/-- The firmware after a hub die reset: the running slot is verified again (R458, R464). -/
def State.fwAfterReset (s : State) : State :=
  if s.imageRuns then
    (({ s with fw := { s.fw with started := false, cold := false, reload := none, restarts := [] } } : State).fwTo 4
      |> fun s => { s with fw := { s.fw with jobs := [.restart false] } })
  else
    let s1 : State := { s with fw := { s.fw with jobs := [] } }
    match s.fw.jobs with
    | .stage _ shown :: _ => if s.fwState = 1 then s1.fwTo shown else s1
    | _ => s1
/-- The end of a hub die reset, in the order of R458. -/
def State.hubResetDone (s : State) : State :=
  let lost := s.reg F.ROOT_RESET_STATUS_CAUSE == 2
  let s1 := ({ s with hub := { s.hub with run := .running }, hk := { s.hk with lockAt := if lost then s.tick else s.hk.lockAt } } : State).timeZero
  let s2 := ((((s1.setReg F.TB_STATUS_SLEWING 0).setReg F.TB_STATUS_STEP_PENDING 0).setReg F.FOLD_CTRL_ENABLE 0).rulesAgain).edgeMasks
  let s3 := (List.finRange 64).foldl (fun s x => s.syncReset x) (if s2.on F.TB_CTRL_SO_EN then s2.soAim 0 else s2)
  let s4 := s3.hostReset.keeperEnd
  let s5 := (List.finRange 4).foldl (fun s g => s.setGrpState g 0) s4
  s5.fwAfterReset
/-- HUB_RESET_END: 1.0 ms after the request, or after XIN has returned, or when the pins are given back. -/
def execHubResetEnd (s : State) : Host.Outcome State Fault Refusal :=
  .next (if s.hub.run == .reset && s.hub.xin && !s.hub.scan && s.hub.core && s.hub.vddIo && decide (1000000 ≤ s.clock - s.hub.since) then s.hubResetDone else s)

end Sys2Proof.Machine
end

