-- ==== Sys2Proof/Machine/Reads.lean ====
section
/-! DEFINITION. The read side of the register space: which unit an offset lies in, what each word reads as, identity records,
interrupt summaries and the interrupt pins, and a read as a requester makes it (R30 to R40, R49 to R51, R489 to R492). -/

namespace Sys2Proof.Machine

/-! ### The map -/

/-- A place in BAR0 (Tables 2.3 and 24.7). -/
inductive Spot where
  | word (u : U) (off : Nat) | coef (off : Nat) | msix (off : Nat) | pba (off : Nat) | unmapped
deriving DecidableEq, Repr

/-- A block of registers repeated inside a unit, from its first offset with a stride; otherwise the unit itself. -/
def blockAt (a first stride : Nat) (n : Nat) (mk : Fin n → U) (u : U) (base : Nat) : Spot :=
  if h : first ≤ a ∧ (a - first) / stride < n then .word (mk ⟨(a - first) / stride, h.2⟩) ((a - first) % stride) else .word u (a - base)
/-- The place of a word offset. The registers of ring 7 are reserved words of the host link unit (R322). -/
def spotAt (a : Nat) : Spot :=
  if a < 0x1000 then .word .root a
  else if a < 0x2000 then .word .tb (a - 0x1000)
  else if a < 0x4000 then blockAt a 0x2100 0x40 7 (fun k => .ring ⟨k.val, by omega⟩) .hl 0x2000
  else if a < 0x5000 then blockAt a 0x4080 0x60 24 .drvCh .drv 0x4000
  else if a < 0x5400 then
    (if a < 0x5080 then blockAt a 0x5040 0x20 2 .ckE .ck 0x5000 else blockAt a 0x5040 0x20 8 .ckU .ck 0x5000)
  else if a < 0x6000 then .word .sv (a - 0x5400)
  else if a < 0x7000 then .word .fold (a - 0x6000)
  else if a < 0x8000 then blockAt a 0x7800 0x20 64 .rule .rfx 0x7000
  else if a < 0x9000 then
    (if a < 0x8100 then blockAt a 0x8080 0x10 5 .hours .hk 0x8000 else blockAt a 0x8100 0x10 32 .age .hk 0x8000)
  else if a < 0xA000 then .word .ldg (a - 0x9000)
  else if a < 0xB000 then .word .fw (a - 0xA000)
  else if a < 0xB040 then .word .bank (a - 0xB000)
  else if a < 0x10000 then .unmapped
  else if a < 0x20000 then blockAt a 0x10000 0x400 64 .chain .bank 0x10000
  else if a < 0x30000 then .coef (a - 0x20000)
  else if h : (a - 0x30000) / 0x10000 < 4 then
    let g : Grp := ⟨(a - 0x30000) / 0x10000, h⟩
    let o := (a - 0x30000) % 0x10000
    if o < 0x1000 then .word (.grp g) o
    else if h2 : o / 0x1000 - 1 < 8 then .word (.ch (chOf g ⟨o / 0x1000 - 1, h2⟩)) (o % 0x1000) else .unmapped
  else if a < 0xF0000 then .unmapped
  else if a < 0xF8000 then .msix (a - 0xF0000)
  else if a < 0x100000 then .pba (a - 0xF8000)
  else .unmapped

/-- The units with a header, in the order of the tree (Table 2.3). -/
def rootChildren : List U := [.tb, .hl, .drv, .ck, .sv, .fold, .rfx, .hk, .ldg, .fw, .bank] ++ (List.finRange 4).map U.grp
/-- The children of a unit, from index 0. -/
def U.children : U → List U
  | .root => rootChildren
  | .bank => (List.finRange 64).map U.chain
  | .grp g => (chansOf g).map U.ch
  | _ => []
/-- Every unit with a header. -/
def allUnits : List U := .root :: rootChildren ++ (List.finRange 64).map U.chain ++ (List.finRange 32).map U.ch
/-- Whether a unit begins with a header and interrupt words (R30, R49). -/
def U.isUnit : U → Bool
  | .ring _ | .drvCh _ | .ckE _ | .ckU _ | .rule _ | .hours _ | .age _ => false
  | _ => true
/-- KIND of a unit (Table 24.1). -/
def U.kindCode : U → Nat
  | .root => 0x100 | .tb => 0x110 | .hl => 0x120 | .drv => 0x130 | .ck => 0x140 | .sv => 0x150 | .fold => 0x160 | .rfx => 0x170
  | .hk => 0x180 | .ldg => 0x190 | .fw => 0x1A0 | .bank => 0x1B0 | .chain _ => 0x1B1 | .grp _ => 0x200 | .ch _ => 0x201 | _ => 0
/-- SIZE of a unit in 64 bytes. -/
def U.size : U → Nat
  | .hl => 128 | .ck => 16 | .sv => 48 | .bank => 1 | .chain _ => 16 | _ => 64
/-- INSTANCE. -/
def U.instNo : U → Nat
  | .chain s => s.val | .grp g => g.val | .ch c => c.val % 8 | _ => 0
/-- The offset of the next sibling's header, 0 for the last. -/
def U.next : U → Nat
  | .root => 0 | .tb => 0x2000 | .hl => 0x4000 | .drv => 0x5000 | .ck => 0x5400 | .sv => 0x6000 | .fold => 0x7000 | .rfx => 0x8000
  | .hk => 0x9000 | .ldg => 0xA000 | .fw => 0xB000 | .bank => 0x30000
  | .chain s => if s.val = 63 then 0 else (U.chain s).base + 0x400
  | .grp g => if g.val = 3 then 0 else (U.grp g).base + 0x10000
  | .ch c => if c.val % 8 = 7 then 0 else (U.ch c).base + 0x1000
  | _ => 0
/-- Whether a unit stands for a die, and the offset of its identity record. -/
def U.ident : U → Nat
  | .root => 0x80 | .grp _ => 0xF00 | _ => 0
/-- A header word (R30, R489, Table 24.2). -/
def headerWord (u : U) (off : Nat) : Nat :=
  if off = 0 then u.kindCode * 2 ^ 16 + 0x100 + u.instNo
  else if off = 4 then
    (match u with
      | .root => 15 * 2 ^ 24 + 0x1000
      | .bank => 64 * 2 ^ 24 + 0x10000
      | .grp g => 8 * 2 ^ 24 + (U.grp g).base + 0x1000
      | _ => 0)
  else if off = 8 then (if u.ident = 0 then 0 else 2 ^ 31) + u.next
  else u.ident * 2 ^ 16 + u.size

/-! ### Identity -/

/-- The identity record of the hub die (0) or of a barrier coupler (1 to 4) in the one-time store (R33, R34, Table 2.2). -/
def storeIdent (k : Nat) : List Byte :=
  let b : List Byte := ([if k = 0 then 1 else 3, if k = 0 then 0xB0 else Config.couplerStepping k] ++
    (List.range 10).map fun i => if i = 1 then 1 else Config.identBytes k i).map (BitVec.ofNat 8)
  b ++ leBytes 4 (crc32c b)
/-- The identity record of a group die as the cache holds it, all zero when there is none (R34). -/
def State.cacheIdent (s : State) (g : Grp) : List Byte := (s.link g).cache ++ List.replicate (16 - (s.link g).cache.length) 0

/-! ### Interrupts -/

/-- IRQ_SUMMARY of a unit whose children have no children of their own. -/
def State.leafSummary (s : State) (l : List U) : Nat :=
  (l.zipIdx).foldl (fun a p => if s.pendingSet p.1 = 0 then a else a + 2 ^ p.2) 0
/-- IRQ_SUMMARY and, for the sample chain bank, its high word: bit k while child k has a pending set or a summary (R49, R51). -/
def State.summary (s : State) (u : U) : Nat :=
  match u with
  | .root => (rootChildren.zipIdx).foldl
      (fun a p => if s.pendingSet p.1 = 0 ∧ s.leafSummary p.1.children = 0 then a else a + 2 ^ p.2) 0
  | u => s.leafSummary u.children
/-- Whether some unit with a pending set is routed to a pin or line. -/
def State.irqLine (s : State) (route : U → Fld) : Bool := allUnits.any fun u => s.on (route u) && s.pendingSet u != 0
/-- SV_IRQ_N asserted (R50). -/
def State.svIrq (s : State) : Bool := s.irqLine F.ROUTE_SV
/-- The interrupt of the embedded controller (R50). -/
def State.fwIrq (s : State) : Bool := s.irqLine F.ROUTE_FW

/-! ### Words that are formed as they are read -/

/-- Least T of the held and due slots; all ones when there is none (Table 5.15). -/
def State.foldNext (s : State) : Nat := (s.fold.slots.map (·.t)).foldl min (2 ^ 64 - 1)
/-- FOLD_STATUS (Table 5.13). LOW is formed with the first tick, and 0 before it. -/
def State.foldStatus (s : State) : Nat :=
  s.reg F.FOLD_STATUS_PEAK_OCC * 2 ^ 24 + (s.fold.slots.filter (·.due)).length * 2 ^ 16 + s.reg F.FOLD_STATUS_FULL_WAIT * 2 ^ 15 +
    b2n (decide (s.supply ≤ s.reg F.FOLD_CTRL_LOW_WATER) && s.tick != 0) * 2 ^ 14 + s.occupancy
/-- A word of the slot window (R133, Table 5.17). -/
def State.slotWord (s : State) (k w : Nat) : Nat :=
  match s.fold.slots.find? fun x => x.idx == k with
  | none => 0
  | some x =>
    if w = 0 then x.t % 2 ^ 32
    else if w = 1 then x.t / 2 ^ 32
    else if w = 2 then 2 ^ 31 + b2n x.due * 2 ^ 30 + x.policy * 2 ^ 24 + x.action * 2 ^ 8 + x.target
    else x.param
/-- RFX_ARMED (Table 10.16). -/
def State.armedSet (s : State) : Nat :=
  (List.finRange 64).foldl (fun a r => if s.reg (F.RFX_ARM_PHASE r) = 0 then a else a + 2 ^ r.val) 0
/-- The words of a unit that are not simply what its fields hold. -/
def State.formed (s : State) : U → Nat → Option Nat
  | .root, o =>
    if 0x80 ≤ o ∧ o < 0x90 then some (bytesAt (storeIdent 0) (o - 0x80) 4)
    else if h : 0x50 ≤ o ∧ (o - 0x50) / 4 < 5 then
      some (wordOf s.regs .root o % 2 ^ 16 + s.ageOf ⟨(o - 0x50) / 4, h.2⟩ * 2 ^ 16 + b2n (s.isStale ⟨(o - 0x50) / 4, h.2⟩) * 2 ^ 31)
    else none
  | .tb, o =>
    if o = 0x24 then some (s.now % 2 ^ 32)
    else if o = 0x28 then some (s.now / 2 ^ 32)
    else if o = 0x38 then some (unsgn 32 (roundOpen 52 ((s.hub.slew : Rat) / 2 ^ 32)))
    else none
  | .ring r, o => if o = 0x24 then some (s.ringStatus r) else none
  | .drvCh k, o => if o = 0x1C then some (wordOf s.regs (.drvCh k) o % 2 ^ 31 + b2n (s.mismatch k) * 2 ^ 31) else none
  | .fold, o =>
    if o = 0x28 then some s.foldStatus
    else if o = 0x30 then some (s.foldNext % 2 ^ 32)
    else if o = 0x34 then some (s.foldNext / 2 ^ 32)
    else if 0x400 ≤ o then some (s.slotWord ((o - 0x400) / 16) (o / 4 % 4))
    else none
  | .rfx, o => if o = 0x38 then some (s.armedSet % 2 ^ 32) else if o = 0x3C then some (s.armedSet / 2 ^ 32) else none
  | .fw, o => if o = 0x3C then some (s.ramWord (4 * s.reg F.FW_RAM_ADDR)) else none
  | .bank, o => if o = 0x20 then some (s.summary .bank / 2 ^ 32) else if o = 0x28 then some s.inUse else none
  | .chain x, o =>
    if o = 0x2C then
      some (s.reg (F.SC_SWAP_REPLACED x) * 2 ^ 16 + s.reg (F.SC_SWAP_BANK x) * 2 ^ 14 + b2n (s.chain x).fade.isSome * 2 ^ 13 +
        b2n (s.chain x).req.isSome * 2 ^ 12 + s.reg (F.SC_SWAP_FADE x))
    else none
  | .grp g, o =>
    if 0xF00 ≤ o ∧ o < 0xF10 then some (bytesAt (s.cacheIdent g) (o - 0xF00) 4)
    else if 0xF10 ≤ o ∧ o < 0xF20 then some (bytesAt (storeIdent (g.val + 1)) (o - 0xF10) 4)
    else none
  | .ch c, o =>
    if o = 0x84 then some (s.dref c true * 2 ^ 16 + s.reg (F.TO_DELAY_ON_LAST c))
    else if o = 0x88 then some (s.dref c false * 2 ^ 16 + s.reg (F.TO_DELAY_OFF_LAST c))
    else none
  | _, _ => none
/-- A word of a unit as it reads at this instant (R30, R42, R43). -/
def State.unitWord (s : State) (u : U) (off : Nat) : Nat :=
  if u.isUnit && decide (off < 0x10) then headerWord u off
  else if u.isUnit && off == 0x1C then s.summary u % 2 ^ 32
  else (s.formed u off).getD (wordOf s.regs u off)

/-! ### Pairs -/

/-- The low words of the pairs that a requester may write (R41). -/
def writePairs : U → List Nat
  | .tb => [0x30, 0x40, 0x54] | .ring _ => [0, 0x10] | .drvCh _ => [4, 0xC] | .ckU _ => [8] | .rule _ => [0x10] | .chain _ => [0x24] | _ => []
/-- The low words of the pairs that only read (R40). -/
def readPairs : U → List Nat
  | .tb => [0x24, 0x48, 0x68] | .drv => [0x28] | .drvCh _ => [0x14] | .fold => [0x30] | .rfx => [0x38] | .ch _ => [0xC4] | _ => []
/-- Whether a word is the low word of a pair. -/
def pairLow (u : U) (off : Nat) : Bool :=
  (writePairs u).contains off || (readPairs u).contains off || (u == .fold && decide (0x400 ≤ off) && off % 16 == 0)
/-- The low word of the pair whose high word this is. -/
def pairOfHigh (u : U) (off : Nat) : Option Nat := if 4 ≤ off ∧ pairLow u (off - 4) then some (off - 4) else none
/-- The place among the snapshot, staging and data registers of R40 and R41 that a requester uses; a bulk channel has its own. -/
def reqSlot : Req → Fin 3
  | .sv => 1 | .fw => 2 | _ => 0
/-- The snapshot register of a requester: the pair's offset and the high word; no pair stands at 0. -/
def State.snapOf (s : State) : Req → Nat × Nat
  | .bulk k => (s.drvc k).snap.getD (0, 0)
  | rq => s.hub.snap[(reqSlot rq).val]
/-- The snapshot register written. -/
def State.setSnap (s : State) (rq : Req) (v : Nat × Nat) : State :=
  match rq with
  | .bulk k => s.updDrv k fun d => { d with snap := some v }
  | rq => { s with hub := { s.hub with snap := s.hub.snap.set (reqSlot rq).val v } }
/-- The staging register of a requester. -/
def State.stageOf (s : State) : Req → Option (Nat × Nat)
  | .bulk k => (s.drvc k).stage
  | rq => s.hub.stage[(reqSlot rq).val]
/-- The staging register written. -/
def State.setStage (s : State) (rq : Req) (v : Option (Nat × Nat)) : State :=
  match rq with
  | .bulk k => s.updDrv k fun d => { d with stage := v }
  | rq => { s with hub := { s.hub with stage := s.hub.stage.set (reqSlot rq).val v } }

/-! ### A read -/

/-- An access to an offset in no unit's span and in no window is counted (R36). -/
def State.unmapped (s : State) : State := (s.tally F.ROOT_ACCESS_TALLY_A_UNMAPPED).cause .root 0
/-- A read of a word: its value, and the snapshot of a pair's high word; a read of FW_RAM_DATA advances the address (R36, R40,
R398). The MSI-X structures are reached by the host link alone (R388, R406). -/
def State.readWord (s : State) (rq : Req) (addr : Nat) : Nat × State :=
  let a := addr / 4 * 4
  match spotAt a with
  | .unmapped => (0, s.unmapped)
  | .coef o => (s.coefRead o, s)
  | .msix o => (if rq = .host ∧ o < 0x400 then s.host.msixWord (o / 16) (o / 4 % 4) else 0, s)
  | .pba o => (if rq = .host ∧ o < 8 then s.host.pba.foldl (fun v p => if p.1 / 32 = o / 4 then v ||| 2 ^ (p.1 % 32) else v) 0 else 0, s)
  | .word u o =>
    if pairLow u o then (s.unitWord u o, s.setSnap rq (a, s.unitWord u (o + 4)))
    else
      match pairOfHigh u o with
      | some lo => (if (s.snapOf rq).1 = a - (o - lo) then (s.snapOf rq).2 else s.unitWord u o, s)
      | none =>
        if u = .fw ∧ o = 0x3C then
          (s.unitWord u o, s.ramStep)
        else (s.unitWord u o, s)
/-- Whether a requester can make accesses: a direct host access needs the link and Memory Space Enable, the controller a running
image, and none while a restart holds it in reset (R318, R406, R407). -/
def State.reaches (s : State) : Req → Bool
  | .host => s.host.dlUp && s.host.mse
  | .ring0 => s.host.dlUp
  | .fw => s.imageRuns && s.fwState != 4
  | _ => true
/-- A read made by a requester: the word returned to it stands in its data register. Offsets from 0x10_0000 on are those of BAR2, which
the host link alone reaches (R329). -/
def State.readBy (s : State) (rq : Req) (addr : Nat) : State :=
  if !s.reaches rq then s
  else
    let p := if rq = .host ∧ 0x100000 ≤ addr ∧ addr < 0x102000 then (s.bar2Word (addr - 0x100000), s) else s.readWord rq addr
    { p.2 with hub := { p.2.hub with rdata := p.2.hub.rdata.set (reqSlot rq).val p.1 } }
/-- PAIR_LOW_READ: the low word is returned and the high word goes to the snapshot register (R40). -/
def execPairLowRead (rq : Req) (off : Nat) (s : State) : Host.Outcome State Fault Refusal :=
  onBus rq (.read off) (fun s => s.readBy rq off) s
/-- PAIR_HIGH_READ: the snapshot is returned when its pair is the one marked, otherwise the live high word (R40). -/
def execPairHighRead (rq : Req) (off : Nat) (s : State) : Host.Outcome State Fault Refusal :=
  onBus rq (.read off) (fun s => s.readBy rq off) s

end Sys2Proof.Machine
end

