-- ==== Sys2Proof/Machine/Arbiter.lean ====
section
/-! DEFINITION. The write side of the register arbiter: access codes, locks, HO fields, the words the controller may write,
pairs, and what a write of each word does beside being stored (R7 to R16, R20, R36 to R41, R49, R50, R406). -/

namespace Sys2Proof.Machine

/-! ### Fields of a word -/

/-- The rows of a word. -/
def rowsAt (u : U) (off : Nat) : List Row := (layout u).filter fun r => r.off == off
/-- The field of a row. -/
def Row.fld (r : Row) (u : U) : Fld := ⟨u, r.off, r.lo, r.w, r.dflt⟩
/-- Whether byte enables reach a row. -/
def Row.covered (r : Row) (be : Fin 16) : Bool := beMask be / 2 ^ r.lo % 2 ^ r.w != 0
/-- The lock bit of a unit (R8, R39). -/
def lockFld : U → Option Fld
  | .sv => some F.SV_LOCK | .hk => some F.HK_LOCK | .ldg => some F.LDG_LOCK | .fw => some F.FW_LOCK
  | .grp g => some (F.GRP_LOCK g) | .ch c => some (F.CH_LOCK c) | _ => none
/-- Whether a unit's lock bit is set. -/
def State.unitLocked (s : State) (u : U) : Bool := match lockFld u with | some f => s.on f | none => false
/-- A value as a field stores it: VDECL bounded (Table 1.11), the stroke count at most 16 (Table 6.6), a lock bit never cleared. -/
def storedAs (u : U) (r : Row) (cur v : Nat) : Nat :=
  if u = .root ∧ r.off = 0x44 then clampN 90 150 v
  else if r.fld u = F.SK_BASE_COUNT ⟨u.idx % 32, by omega⟩ then min 16 v
  else if lockFld u = some (r.fld u) then max cur v
  else v
/-- Whether a write of the embedded controller is one that it may not make of a field it may write: lowering HK_VID.REQ or a
channel's REDUCE (R423, R426). -/
def fwLowers (u : U) (r : Row) (cur v : Nat) : Bool :=
  ((u == .hk && r.off == 0x3C && r.lo == 0) || ((match u with | .grp _ => true | _ => false) && (r.off == 0x150 || r.off == 0x154))) && decide (v < cur)
/-- What becomes of a row of a word that is written: its value, whether a locked field would have changed, and whether a write of
the controller to an HO field is discarded (Table 0.3, R8, R37, R39). A W1C leaves a bit that an event has set in the same tick
(R42, R51). -/
def State.rowWrite (s : State) (rq : Req) (u : U) (r : Row) (be : Fin 16) (v : Nat) : Nat × Bool × Bool :=
  let cur := s.reg (r.fld u)
  let m := storedAs u r cur (merge be (cur * 2 ^ r.lo) v / 2 ^ r.lo % 2 ^ r.w)
  if !r.covered be then (cur, false, false)
  else if rq = .fw ∧ (r.ho ∨ fwLowers u r cur m) then (cur, false, r.acc != .ro)
  else match r.acc with
    | .ro => (cur, false, false)
    | .wo => (cur, false, false)
    | .w1c => ((cur &&& (2 ^ r.w - 1 - (v &&& beMask be) / 2 ^ r.lo % 2 ^ r.w)) ||| s.stuck (r.fld u), false, false)
    | .rw => (m, false, false)
    | .rwl => if s.unitLocked u then (cur, m != cur, false) else (m, false, false)
/-- The store after a word is written by its access codes. -/
def State.rowsWrite (s : State) (rq : Req) (u : U) (off : Nat) (be : Fin 16) (v : Nat) : Store :=
  (rowsAt u off).foldl (fun st r => st.set (r.fld u) (s.rowWrite rq u r be v).1) s.regs

/-- The fields of a word that an access writes are noted with what they held: a hardware update in the same tick gives way (R42). -/
def State.noteWord (s : State) (u : U) (off : Nat) (be : Fin 16) : State :=
  (rowsAt u off).foldl (fun s r => if (r.acc == .rw || r.acc == .rwl) && r.covered be then s.noteWrite (r.fld u) (s.reg (r.fld u)) else s) s

/-! ### Counts -/

/-- A write that would have changed a locked field is counted (R39). -/
def State.lockedWrite (s : State) : State := (s.tally F.ROOT_ACCESS_TALLY_A_LOCKED).cause .root 1
/-- A write of the controller to an HO field is discarded, counted and recorded (R8, R39, Table 21.4). -/
def State.hoDiscard (s : State) (addr : Nat) : State :=
  ((s.tally F.ROOT_ACCESS_TALLY_B_HO_DISCARD).cause .root 2).post { code := 0x08, cls := 1, data := addr }
/-- Any other write of the controller that takes no effect (R406). -/
def State.filtered (s : State) : State := (s.tally F.FW_TALLY_FILTERED).cause .fw 4
/-- Whether the controller may write a word (Table 19.4); STOP of a Drover channel may come from any requester (R357). -/
def State.fwMayWrite (s : State) (u : U) (off : Nat) : Bool :=
  if off = 0x10 ∧ u.isUnit then s.on (F.ROUTE_FW u) && !s.on (F.ROUTE_MSIX u) && !s.on (F.ROUTE_SV u)
  else match u with
    | .fw => off == 0x2C
    | .hk | .hours _ | .age _ => true
    | .grp _ => decide (0xA0 ≤ off) && decide (off ≤ 0x17C)
    | .ch c => off == 0x40 && s.on (F.CH_MODE_STATUS_SERVED c)
    | .ldg => off == 0x40 || off == 0x44 || off == 0x48
    | .drvCh _ => off == 0x3C
    | _ => false
/-- A write of the controller outside those words: an HO field counts under R39 alone (R406). -/
def State.fwRefuse (s : State) (u : U) (off addr : Nat) (be : Fin 16) : State :=
  if (rowsAt u off).any fun r => r.ho && r.covered be then s.hoDiscard addr else s.filtered

/-! ### Words that a running engine holds -/

/-- A Drover channel takes no new configuration while it runs (R366). -/
def State.drvBusyWrite (s : State) (k : DrvNo) : State := s.tally (F.DRV_CH_COUNTS_BUSY_WRITE k)
/-- The channel that a number names, when it is active (R370). -/
def State.chanActive (s : State) (n : Nat) : Bool := if h : n < 24 then s.drvActive ⟨n, h⟩ else false
/-- Whether the channel bound to a unit is active. -/
def State.ckBusy (s : State) (u : CkNo) : Bool := s.on (F.CK_BIND_EN u) && s.chanActive (s.reg (F.CK_BIND_CHANNEL u))
/-- A write to a check unit is discarded (R370). -/
def State.ckBusyWrite (s : State) (u : CkNo) : State := (s.tally (F.CK_BLOCK_TALLY_BUSY_WRITE u)).cause .ck 16
/-- Whether a write of CK_BIND is discarded (R370). -/
def State.bindRefused (s : State) (u : CkNo) (w : Nat) : Bool :=
  s.ckBusy u || s.chanActive (w % 32) ||
    (bit w 31 && decide (w % 32 < 24) && (List.finRange 8).any fun x => x != u && decide (2 ≤ x.val) && s.on (F.CK_BIND_EN x) && s.reg (F.CK_BIND_CHANNEL x) == w % 32)
/-- An open block is closed without a trailer; a descriptor in progress then opens the next one as it completes (R371, R375). -/
def State.ckAbandon (s : State) (u : CkNo) : State :=
  ((s.setReg (F.CK_STATUS_IN_BLOCK u) 0).setReg (F.CK_STATUS_CARRIED u) 0).updCk u fun c => { test := c.test }
/-- A whole word that is discarded before its fields are looked at (R55, R236, R340, R366, R370). -/
def State.wordHeld (s : State) (u : U) (off : Nat) (new : Nat) : Option (State × WRes) :=
  match u with
  | .rule r =>
    if (off = 0 ∨ off = 8 ∨ off = 0xC) ∧ s.regOld (F.RFX_ARM_PHASE r) ≠ 0 then some (s.busyRule, .locked) else none
  | .ring r => if off = 0xC ∧ s.on (F.RING_CFG_ENABLE r) then some (s, .dropped) else none
  | .drvCh k => if off = 0 ∧ s.drvActive k then some (s.drvBusyWrite k, .dropped) else none
  | .ckU u =>
    if off = 0 then (if s.bindRefused u new then some (s.ckBusyWrite u, .dropped) else none)
    else if (off = 4 ∨ off = 0x10 ∨ off = 0x14) ∧ s.ckBusy u then some (s.ckBusyWrite u, .dropped) else none
  | .ch c => if 0x40 ≤ off ∧ off < 0x70 ∧ s.isMember c then some (s, .dropped) else none
  | _ => none

/-! ### What a word does -/

/-- A word of an image is sent to its group die. -/
def State.imageSent (s : State) (u : U) (off : Nat) : State × WRes :=
  match u.grpOf with
  | some g => if inGroup u off ∈ imageOffs then let p := s.sendWord u off; (p.2, .grpWord g p.1) else (s, .ok)
  | none => (s, .ok)
/-- A word whose set bits go to the group die and are not kept; those not confirmed go with a resume reload (R285). -/
def State.bitsSent (s : State) (g : Grp) (off x : Nat) : State × WRes :=
  if x = 0 then (s, .ok)
  else
    let p := s.imageWrite g off x
    (p.2.updLink g fun l =>
      { l with unBits := (off, x ||| (l.unBits.lookup off).getD 0) :: l.unBits.filter fun q => q.1 != off }, .grpWord g p.1)
/-- Words of a channel, after the write is stored; `s0` is the state before, `x` the enabled bits written. -/
def State.chDone (s s0 : State) (rq : Req) (c : Ch) (off : Nat) (be : Fin 16) (x : Nat) : State × WRes :=
  let u := U.ch c
  if off = 0x28 then let p := s.imageSent u off; (p.1.portChecks (grpOf c), p.2)
  else if off = 0x40 then
    let s1 := s.setReg (F.TO_CFG_PWM_RUN c) 0
    (if rq = .fw then s1 else s1.supplierWritten c).imageSent u off
  else if off = 0x44 then (if s.reg (F.OUT_CFG_SLEW c) = s0.reg (F.OUT_CFG_SLEW c) then s else s.drefClear c).imageSent u off
  else if off = 0x48 then s.govUpdate.imageSent u off
  else if off = 0x6C then s.bitsSent (grpOf c) (inGroup u off) (x % 8)
  else if off = 0x80 then
    let was := s0.on (F.TO_CFG_PWM_RUN c)
    let now := s.on (F.TO_CFG_PWM_RUN c)
    (if was = now then s else s.setReg (F.OUT_CMD_ON c) (b2n now)).imageSent u off
  else if off = 0xA0 then (if bit x 29 then s.setReg (F.SK_BASE_COUNT c) 0 else s, .ok)
  else if off = 0xAC then (s.updCh c fun k => { k with trendFrac := 0 }, .ok)
  else if off = 0xE8 then (s.iolCtrlWritten c (beMask be / 2 ^ (F.IOL_CTRL_START c).lo % 2 == 1) (bit x 28), .ok)
  else if off = 0xEC then (s.pdOutWritten c, .ok)
  else s.imageSent u off
/-- Words of a group die unit. -/
def State.grpDone (s s0 : State) (rq : Req) (g : Grp) (off : Nat) (be : Fin 16) (x : Nat) : State × WRes :=
  if off = 0x24 then (s.grpCtrl g x, .ok)
  else if off = 0x2C then (s.feed g (rq = .sv) (x % 2 ^ 16), .ok)
  else if off = 0x84 then (if s.on (F.GRP_SUP_STATUS_AWAIT_ACK g) then s.bitsSent g off (x % 2) else (s, .ok))
  else if off = 0x150 ∨ off = 0x154 then
    let hi := decide (off = 0x154)
    let old := (List.range 4).map fun j => wordOf s0.regs (.grp g) off / 256 ^ j % 256
    let p := s.imageSent (.grp g) off
    (p.1.reduceWritten rq g hi be old, p.2)
  else if off = 0x15C then (if bit x 31 then s.retuneStart g else s, .ok)
  else s.imageSent (.grp g) off
/-- Words of a sample chain (R200 to R205, R215, R226). -/
def State.chainDone (s s0 : State) (k : Strm) (off x : Nat) : State :=
  if off = 0x20 then
    (if bit x 31 || wordOf s.regs (.chain k) 0x20 != wordOf s0.regs (.chain k) 0x20 then s.syncReset k else s)
  else if off = 0x30 then (if bit x 30 then s.dcCleared k else s)
  else if off = 0x40 ∨ off = 0x44 then s.winWritten k false
  else if off = 0x48 ∨ off = 0x4C then s.winWritten k true
  else s
/-- RING_CFG (R334, R340, R341): the ring's form is taken while it is disabled. -/
def State.ringCfg (s : State) (r : RingNo) (m x : Nat) : State :=
  if s.on (F.RING_CFG_ENABLE r) then
    let s1 := if bit x 1 then s.ringResume r else s
    if bit m 0 then s1 else (let s2 := s1.ringDown r; if r.val = 2 then s2.lowWater else s2)
  else
    let s1 := (s.setReg (F.RING_CFG_LOG2 r) (bitsOf m 20 16)).setReg (F.RING_CFG_PAYLOAD_ONLY r) (bitsOf m 8 8)
    let s2 := if bit x 1 then s1.ringResume r else s1
    if bit m 0 then (let s3 := s2.ringUp r; if r.val = 2 then s3.lowWater else s3) else s2
/-- What a word does after it is stored: the word of every unit that does more than hold its value. -/
def State.wordDone (s s0 : State) (rq : Req) (u : U) (off : Nat) (be : Fin 16) (x : Nat) : State × WRes :=
  if u.isUnit && (off == 0x10 || off == 0x14) then (s.unitAsked u, .ok)
  else match u with
    | .root =>
      if off = 0x24 then (s.rootReset x, if x / 2 ^ 16 = 0x3A5C then .ok else .dropped)
      else (if off = 0x40 ∨ off = 0x44 then s.govUpdate else s, .ok)
    | .tb =>
      (if off = 0x20 then s.soEnWritten (s0.reg F.TB_CTRL_SO_EN) else if off = 0x5C then s.soWritten else s, .ok)
    | .drv => (if off = 0x20 ∧ bit x 0 then s.drvRecover else s, .ok)
    | .drvCh k =>
      (if off = 0x3C then
        let s1 := if bit x 0 then s.drvStop k else s
        if rq = .fw then (if bit x 0 ∧ !bit x 1 then s1 else s1.filtered) else if bit x 1 then s1.drvClear k else s1
       else s, .ok)
    | .ckU k =>
      (if off = 0 ∧ s0.on (F.CK_BIND_EN k) ∧ !s.on (F.CK_BIND_EN k) then s.ckAbandon k
        else if off = 0x10 then s.setReg (F.CK_STATUS_IN_BLOCK k) 1
        else if off = 0x18 ∧ bit x 0 then s.ckAbandon k else s, .ok)
    | .sv => (if off = 0x30 ∧ bit x 0 then (s.setReg F.SV_KEEP_HOST_REQ 1).cause .sv 5 else s, .ok)
    | .fold =>
      (if off = 0x20 then
        let s1 : State := { s with fold := { s.fold with armed := decide (s.reg F.FOLD_CTRL_LOW_WATER < s.supply) } }
        if s1.on F.FOLD_CTRL_ENABLE && !s0.on F.FOLD_CTRL_ENABLE then s1.foldEnabled else s1
       else if off = 0x2C then s.foldCancel x else s, .ok)
    | .rule r =>
      (if off = 0 then s.edgeMasks
        else if off = 4 then s.armWritten r
        else if off = 8 ∨ off = 0xC then s.sendRule r else s, .ok)
    | .hk => (if off = 0x3C then s.vidNow else s, .ok)
    | .hours d => (s.hoursWritten d ⟨off / 4 % 4, by omega⟩, .ok)
    | .ldg =>
      if off = 0x48 then (s.ldgPosted x, if ldgPosts x then .ok else .dropped)
      else
        (if off = 0x20 then
          let s1 := if bit x 0 then s.faultAck else s
          if bit x 1 then s1.unfreeze else s1
         else s, .ok)
    | .fw =>
      (if off = 0x24 then s.fwCtrl x
        else if off = 0x2C ∧ rq = .fw ∧ x % 2 ^ 16 = 0x6C39 then s.fwKick else s, .ok)
    | .chain k => (s.chainDone s0 k off x, .ok)
    | .grp g => s.grpDone s0 rq g off be x
    | .ch c => if off = 0xC0 then (s, .ok) else s.chDone s0 rq c off be x
    | _ => (s, .ok)
/-- The words that are written in a way of their own: the mode, a swap request, a slew, a ring's configuration, the RAM window. -/
def State.wordOwn (s : State) (rq : Req) (u : U) (off : Nat) (be : Fin 16) (v : Nat) : Option (State × WRes) :=
  let m := merge be (s.unitWord u off) v
  let x := v &&& beMask be
  match u with
  | .ch c =>
    if off = 0x20 then
      let p := s.modeWrite rq c (m % 16) (m / 16 % 4)
      let change : Bool := match p.2 with | .modeChange _ _ => true | _ => false
      some (if s.imgMode c = 8 ∧ change then p.1.portLeaves c else p.1, p.2)
    else none
  | .chain k =>
    if off = 0x2C then some (if bit x 15 then (s.swapAsk k (bitsOf m 14 14) (m % 2 ^ 12), .ok) else (s, .dropped)) else none
  | .tb => if off = 0x38 then some (s.slewWritten m, .ok) else none
  | .ring r => if off = 8 then some (s.ringCfg r m x, .ok) else none
  | .fw =>
    if off = 0x3C then
      let p := s.ramWrite (4 * s.reg F.FW_RAM_ADDR) m
      some (p.2.ramStep, if p.1 then .ok else .dropped)
    else none
  | _ => none
/-- A single word is written (R37, R39). -/
def State.oneWrite (s : State) (rq : Req) (u : U) (off addr : Nat) (be : Fin 16) (v : Nat) : State × WRes :=
  match s.wordHeld u off (merge be (s.unitWord u off) v) with
  | some p => p
  | none =>
    match s.wordOwn rq u off be v with
    | some p => p
    | none =>
      let rows := rowsAt u off
      let ho := rows.any fun r => (s.rowWrite rq u r be v).2.2
      let lock := rows.any fun r => (s.rowWrite rq u r be v).2.1
      let s1 := if ho then s.hoDiscard addr else s
      let s2 := if lock then s1.lockedWrite else s1
      let st := s2.rowsWrite rq u off be v
      let over_ : Bool := match u with | .ch _ => off == 0x48 && s2.govRefuses st | _ => false
      if rows.all (fun r => r.acc == .ro) then (s2, .ok)
      else if (ho || lock) && st == s2.regs then (s2, if lock then .locked else .dropped)
      else if over_ then (s2.govRefused rq ⟨u.idx % 32, by omega⟩ (govModel st), .govRefused (govModel s2.regs) (govModel st))
      else
        let p := ({ s2.noteWord u off be with regs := st } : State).wordDone s2 rq u off be (v &&& beMask be)
        (p.1, if lock then .locked else p.2)
/-- A write of either word of a pair that is discarded while its ring, channel or unit holds it (R340, R366, R370). -/
def State.pairHeld (s : State) (u : U) (lo : Nat) : Option (State × WRes) :=
  match u with
  | .ring r => if s.on (F.RING_CFG_ENABLE r) then some (s, .dropped) else none
  | .drvCh k => if lo = 4 ∧ s.drvActive k then some (s.drvBusyWrite k, .dropped) else none
  | .ckU k => if s.ckBusy k then some (s.ckBusyWrite k, .dropped) else none
  | _ => none
/-- A pair is committed: the staged low word, if there is one, and the high word written, in one tick (R41). -/
def State.pairWrite (s : State) (u : U) (lo : Nat) (low : Option Nat) (high : Nat) : State × WRes :=
  match s.pairHeld u lo with
  | some p => p
  | none =>
    let st := storeWord (match low with | some w => storeWord s.regs u lo w | none => s.regs) u (lo + 4) high
    let s1 : State := { (s.noteWord u lo 15).noteWord u (lo + 4) 15 with regs := st }
    (match u with
      | .tb =>
        if lo = 0x30 then s1.stepAsked (sgn 64 (s1.pair F.TB_STEP_LO F.TB_STEP_HI)) 0
        else if lo = 0x54 then s1.soWritten else s1
      | _ => s1, .ok)
/-- A write of a word of a unit: the low word of a pair is staged, its high word commits the pair (R41). DESIGN CHOICE, log entry 146:
where some byte enables of a low word are clear, R37 and R41 do not say what the staged word holds there; it is what the low word
reads at that moment, and not what the requester staged before. -/
def State.unitWrite (s : State) (rq : Req) (u : U) (off addr : Nat) (be : Fin 16) (v : Nat) : State × WRes :=
  let m := merge be (s.unitWord u off) v
  if rq = .fw ∧ !s.fwMayWrite u off then (s.fwRefuse u off addr be, .dropped)
  else if (writePairs u).contains off then (match s.pairHeld u off with | some p => p | none => (s.setStage rq (some (addr, m)), .ok))
  else if 4 ≤ off ∧ (writePairs u).contains (off - 4) then
    match s.stageOf rq with
    | some (a, w) => if a + 4 = addr then (s.setStage rq none).pairWrite u (off - 4) (some w) m else s.pairWrite u (off - 4) none m
    | none => s.pairWrite u (off - 4) none m
  else
    match u with
    | .ch c => (if off = 0xC0 then s.tallyBase c else s).oneWrite rq u off addr be v
    | _ => s.oneWrite rq u off addr be v
/-- A write of a word of the MSI-X table by the host; a vector unmasked sends what was held back (R50). -/
def State.tableWrite (s : State) (o : Nat) (be : Fin 16) (v : Nat) : State :=
  let k := o / 16
  let j := o / 4 % 4
  let m := merge be (s.host.msixWord k j) v
  let w := if j = 0 then m / 4 * 4 else if j = 3 then m % 2 else m
  ({ s with host := { s.host with msixVec := tabSet s.host.msixVec (4 * k + j) w (if j = 3 then 1 else 0) } } : State).msixFlush
/-- A register of the host link unit, the Drover or the check units (R342). -/
def linkUnit : U → Bool
  | .hl | .ring _ | .drv | .drvCh _ | .ck | .ckE _ | .ckU _ => true
  | _ => false
/-- A write of a word by a requester, served whole at the arbiter (R20, R36, R37). -/
def State.writeWord (s : State) (rq : Req) (addr : Nat) (be : Fin 16) (v : Nat) : State × WRes :=
  let a := addr / 4 * 4
  match spotAt a with
  | .unmapped => (if rq = .fw then s.unmapped.filtered else s.unmapped, .unmapped)
  | .msix o => (if rq = .host ∧ o < 0x400 then s.tableWrite o be v else if rq = .fw then s.filtered else s, .ok)
  | .pba _ => (if rq = .fw then s.filtered else s, .ok)
  | .coef o =>
    if rq = .fw then (s.filtered, .dropped)
    else if !coefWord o then (s, .ok)
    else let p := s.coefWrite o (merge be (s.coefRead o) v); (p.2, if p.1 then .ok else .dropped)
  | .word u o => if linkUnit u && !s.host.dlUp && (rq != .fw || s.fwMayWrite u o) then (s, .dropped) else s.unitWrite rq u o a be v
/-- Whether keeper mode shuts a write out: every BAR0 write of the host link but the handback request (R393, R395). -/
def State.shutOut (s : State) (rq : Req) (addr : Nat) : Bool :=
  s.sv.keeper && (rq == .host || rq == .ring0) && addr / 4 * 4 != 0x5430
/-- A host write in keeper mode is discarded and counted (R393). -/
def State.hostDiscard (s : State) : State := (s.tally F.SV_TALLY_C_HOST_DISCARD).cause .sv 7
/-- The byte enables of a write: the supervisor port writes whole words only (R37). -/
def enables (rq : Req) (be : Fin 16) : Fin 16 := if rq = .sv then 15 else be
/-- A write made by a requester. -/
def State.writeBy (s : State) (rq : Req) (addr : Nat) (be : Fin 16) (v : Nat) : State :=
  if !s.reaches rq || (enables rq be).val == 0 then s
  else if s.shutOut rq addr then s.hostDiscard
  else (s.writeWord rq addr (enables rq be) v).1

end Sys2Proof.Machine
end

