-- ==== Sys2Proof/Machine/Access.lean ====
section
/-! DEFINITION. The commands that are register accesses: a write of one word from a requester at the arbiter of the hub die, and
for the words that act at a group die the taking of that write there. Every write does all that its word does, whichever row
names it. -/

namespace Sys2Proof.Machine

/-- The BAR0 offset of a word of a unit (R35). -/
def U.at (u : U) (off : Nat) : Nat := u.base + off
/-- The write of a word at the head of what has come to a die is taken, when it is a write of that word (R15); a set FAULT bit of
OUT_CLEAR waits for what the die measures. -/
def State.dlWriteAt (s : State) (g : Grp) (off : Nat) : State :=
  match (s.dieOf g).inbox with
  | { cmd := .write w _, .. } :: _ =>
    if 4 * w = off ∧ !(s.dieOf g).clearNext then s.dlHead g 9 (fun s x => s.takeWrite g x) else s
  | _ => s
/-- A write of OUT_CLEAR with FAULT set is taken with the switch current and the clamp as the die finds them (R95). -/
def State.clearAt (s : State) (c : Ch) (i : Int) (clamp : Bool) : State :=
  match (s.dieOf (grpOf c)).inbox with
  | { cmd := .write w v, .. } :: _ =>
    if 4 * w = inGroup (.ch c) 0x6C ∧ bit v 2 then s.dlHead (grpOf c) 9 (fun s _ => s.clearWord c (v % 8) i clamp) else s
  | _ => s

/-- A write of a word by a requester as a command: it is served while the hub die runs; one of the host waits for CCLK (R20, R46). -/
def writeCmd (rq : Req) (addr : Nat) (be : Fin 16) (v : Nat) (s : State) : Host.Outcome State Fault Refusal :=
  onBus rq (.write addr be v) (fun s => s.writeBy rq addr be v) s
/-- What a crossing held is delivered to CCLK (R46). -/
def State.serveHeld (s : State) : HostReq → State
  | .write addr be v => s.writeBy .host addr be v
  | .read addr => s.readBy .host addr
  | .doorbell off data => if s.host.dlUp && s.host.mse then s.doorbellWrite off data else s
/-- DOORBELL: a write of BAR2 (R329). -/
def execDoorbell (off : Nat) (data : List Byte) (s : State) : Host.Outcome State Fault Refusal :=
  onBus .host (.doorbell off data) (fun s => s.doorbellWrite off data) s
/-- The requests discarded while CCLK stood are counted (R46). -/
def State.countBlocked (s : State) : State :=
  if s.host.blocked = 0 then s
  else (({ s with host := { s.host with blocked := 0 } } : State).tally F.ROOT_ACCESS_TALLY_B_CROSS_BLOCKED s.host.blocked).cause .root 3
/-- CROSSING_DELIVERY: the destination clock runs again, and what was held is delivered once: the message request for PCLK, and the
host's request for CCLK (R46, R453). -/
def State.crossingDelivery (s : State) : State :=
  let s1 : State := { s with host := { s.host with pclkLost := false, cross := none, held := none } }
  let s2 := match s.host.cross with
    | none => s1
    | some p => s1.deliverMsix p.1 p.2
  (match s.host.held with
    | none => s2
    | some q => s2.serveHeld q).countBlocked
def execCrossingDelivery (s : State) : Host.Outcome State Fault Refusal := onHub State.crossingDelivery s

/-! ### Registers and pairs -/
/-- REGISTER_WRITE: a word is written whole at the arbiter (R20, R36 to R39). -/
def execRegisterWrite (rq : Req) (off : Nat) (be : Fin 16) (v : Word) (s : State) : Host.Outcome State Fault Refusal :=
  writeCmd rq off be v.toNat s
/-- PAIR_LOW_WRITE: the low word goes to the staging register (R41). -/
def execPairLowWrite (rq : Req) (off : Nat) (be : Fin 16) (v : Word) (s : State) : Host.Outcome State Fault Refusal :=
  writeCmd rq off be v.toNat s
/-- PAIR_HIGH_WRITE: the pair is committed in one tick (R41). -/
def execPairHighWrite (rq : Req) (off : Nat) (be : Fin 16) (v : Word) (s : State) : Host.Outcome State Fault Refusal :=
  writeCmd rq off be v.toNat s
/-- IRQ_CAUSE_WRITE: causes are cleared, and a message is requested when some stay pending (R50). -/
def execIrqCauseWrite (rq : Req) (off : Nat) (be : Fin 16) (v : Word) (s : State) : Host.Outcome State Fault Refusal :=
  writeCmd rq off be v.toNat s
/-- IRQ_ENABLE_WRITE: the pending set changes, and a message is requested when it is left non-empty (R50). -/
def execIrqEnableWrite (rq : Req) (off : Nat) (be : Fin 16) (v : Word) (s : State) : Host.Outcome State Fault Refusal :=
  writeCmd rq off be v.toNat s
/-- LOCK_WRITE: a lock bit is set until the power-on reset of the hub die (R8, R39). -/
def execLockWrite (rq : Req) (off : Nat) (be : Fin 16) (v : Word) (s : State) : Host.Outcome State Fault Refusal :=
  writeCmd rq off be v.toNat s
/-- GOV_CEILING_WRITE: always accepted; MODEL and OVER follow (R27). -/
def execGovCeilingWrite (rq : Req) (be : Fin 16) (v : Word) (s : State) : Host.Outcome State Fault Refusal :=
  writeCmd rq 0x40 be v.toNat s
/-- GOV_VDECL_WRITE: always accepted, bounded for each group; the model changes (R27, Table 1.11). -/
def execGovVdeclWrite (rq : Req) (be : Fin 16) (v : Word) (s : State) : Host.Outcome State Fault Refusal :=
  writeCmd rq 0x44 be v.toNat s
/-! ### Channels -/
/-- CH_MODE_WRITE: tested for legality and by the governor, then accepted or refused (R57 to R63). -/
def execChModeWrite (rq : Req) (c : Ch) (be : Fin 16) (v : Word) (s : State) : Host.Outcome State Fault Refusal :=
  writeCmd rq (U.at (.ch c) 0x20) be v.toNat s
/-- CH_PERMIT_WRITE: at the hub die into the image; at the group die the driving block follows (R68 to R70). -/
def execChPermitWrite (d : Side) (rq : Req) (c : Ch) (be : Fin 16) (v : Word) (s : State) : Host.Outcome State Fault Refusal :=
  match d with
  | .hub => writeCmd rq (U.at (.ch c) 0x28) be v.toNat s
  | .die => onDie (grpOf c) (fun s => s.dlWriteAt (grpOf c) (inGroup (.ch c) 0x28)) s
/-- OUT_CMD_WRITE: the commanded state, and the end of a PWM run at the group die (R94, R130). -/
def execOutCmdWrite (d : Side) (rq : Req) (c : Ch) (be : Fin 16) (v : Word) (s : State) : Host.Outcome State Fault Refusal :=
  match d with
  | .hub => writeCmd rq (U.at (.ch c) 0x40) be v.toNat s
  | .die => onDie (grpOf c) (fun s => s.dlWriteAt (grpOf c) (inGroup (.ch c) 0x40)) s
/-- CLEAR_FAULT: OUT_CLEAR.FAULT written, or taken at the group die with what it measures (R95). -/
def execClearFault (d : Side) (rq : Req) (c : Ch) (i : Int) (clamp : Bool) (s : State) : Host.Outcome State Fault Refusal :=
  match d with
  | .hub => writeCmd rq (U.at (.ch c) 0x6C) 15 4 s
  | .die => onDie (grpOf c) (fun s => s.clearAt c i clamp) s
/-- CLEAR_CLAMP: OUT_CLEAR.CLAMP written, or taken at the group die (R95). -/
def execClearClamp (d : Side) (rq : Req) (c : Ch) (s : State) : Host.Outcome State Fault Refusal :=
  match d with
  | .hub => writeCmd rq (U.at (.ch c) 0x6C) 15 2 s
  | .die => onDie (grpOf c) (fun s => s.dlWriteAt (grpOf c) (inGroup (.ch c) 0x6C)) s
/-- CLEAR_FUSE: OUT_CLEAR.FUSE written, or taken at the group die (R95). -/
def execClearFuse (d : Side) (rq : Req) (c : Ch) (s : State) : Host.Outcome State Fault Refusal :=
  match d with
  | .hub => writeCmd rq (U.at (.ch c) 0x6C) 15 1 s
  | .die => onDie (grpOf c) (fun s => s.dlWriteAt (grpOf c) (inGroup (.ch c) 0x6C)) s
/-- PWM_RUN_START: a run starts at once when none stands (R129, R130). -/
def execPwmRunStart (d : Side) (rq : Req) (c : Ch) (be : Fin 16) (v : Word) (s : State) : Host.Outcome State Fault Refusal :=
  match d with
  | .hub => writeCmd rq (U.at (.ch c) 0x80) be v.toNat s
  | .die => onDie (grpOf c) (fun s => s.dlWriteAt (grpOf c) (inGroup (.ch c) 0x80)) s
/-- PWM_RUN_END: the run ends at once, to off (R130). -/
def execPwmRunEnd (d : Side) (rq : Req) (c : Ch) (be : Fin 16) (v : Word) (s : State) : Host.Outcome State Fault Refusal :=
  match d with
  | .hub => writeCmd rq (U.at (.ch c) 0x80) be v.toNat s
  | .die => onDie (grpOf c) (fun s => s.dlWriteAt (grpOf c) (inGroup (.ch c) 0x80)) s
/-- RELEARN: the learned count is 0 again (R142). -/
def execRelearn (rq : Req) (c : Ch) (be : Fin 16) (v : Word) (s : State) : Host.Outcome State Fault Refusal :=
  writeCmd rq (U.at (.ch c) 0xA0) be v.toNat s
/-- SK_BASE_WRITE: the baseline as written (R143). -/
def execSkBaseWrite (rq : Req) (c : Ch) (be : Fin 16) (v : Word) (s : State) : Host.Outcome State Fault Refusal :=
  writeCmd rq (U.at (.ch c) 0xA4) be v.toNat s
/-- SK_TREND_WRITE: TREND as written, its fraction cleared (R144). -/
def execSkTrendWrite (rq : Req) (c : Ch) (be : Fin 16) (v : Word) (s : State) : Host.Outcome State Fault Refusal :=
  writeCmd rq (U.at (.ch c) 0xAC) be v.toNat s
/-- IN_TALLY_WRITE: the tally as written (R164). -/
def execInTallyWrite (rq : Req) (c : Ch) (be : Fin 16) (v : Word) (s : State) : Host.Outcome State Fault Refusal :=
  writeCmd rq (U.at (.ch c) 0xC0) be v.toNat s
/-- AN_DAC_WRITE: a step or a ramp toward the bounded code (R177 to R179). -/
def execAnDacWrite (d : Side) (rq : Req) (c : Ch) (be : Fin 16) (v : Word) (s : State) : Host.Outcome State Fault Refusal :=
  match d with
  | .hub => writeCmd rq (U.at (.ch c) 0xD8) be v.toNat s
  | .die => onDie (grpOf c) (fun s => s.dlWriteAt (grpOf c) (inGroup (.ch c) 0xD8)) s
/-- AN_CLAMP_WRITE: the bounds change and a ramp is aimed again (R181). -/
def execAnClampWrite (d : Side) (rq : Req) (c : Ch) (be : Fin 16) (v : Word) (s : State) : Host.Outcome State Fault Refusal :=
  match d with
  | .hub => writeCmd rq (U.at (.ch c) 0xDC) be v.toNat s
  | .die => onDie (grpOf c) (fun s => s.dlWriteAt (grpOf c) (inGroup (.ch c) 0xDC)) s
/-- PORT_START: IOL_CTRL.START 1 (R257, R260). -/
def execPortStart (rq : Req) (c : Ch) (be : Fin 16) (v : Word) (s : State) : Host.Outcome State Fault Refusal :=
  writeCmd rq (U.at (.ch c) 0xE8) be v.toNat s
/-- PORT_STOP: IOL_CTRL.START 0 (R262). -/
def execPortStop (rq : Req) (c : Ch) (be : Fin 16) (v : Word) (s : State) : Host.Outcome State Fault Refusal :=
  writeCmd rq (U.at (.ch c) 0xE8) be v.toNat s
/-- ADMIT: the present device becomes the reference (R262). -/
def execAdmitDevice (rq : Req) (c : Ch) (be : Fin 16) (v : Word) (s : State) : Host.Outcome State Fault Refusal :=
  writeCmd rq (U.at (.ch c) 0xE8) be v.toNat s
/-- IOL_PD_WRITE: output data to the group die, and there for the next cycle (R266). -/
def execIolPdWrite (d : Side) (rq : Req) (c : Ch) (be : Fin 16) (v : Word) (s : State) : Host.Outcome State Fault Refusal :=
  match d with
  | .hub => writeCmd rq (U.at (.ch c) 0xEC) be v.toNat s
  | .die => onDie (grpOf c) (fun s => s.dlWriteAt (grpOf c) (inGroup (.ch c) 0xEC)) s
/-! ### Sample chains -/
/-- SC_CFG_WRITE: a change makes a synchronising reset (R215). -/
def execScCfgWrite (rq : Req) (x : Strm) (be : Fin 16) (v : Word) (s : State) : Host.Outcome State Fault Refusal :=
  writeCmd rq (U.at (.chain x) 0x20) be v.toNat s
/-- CHAIN_SYNC: a synchronising reset (R215). -/
def execChainSync (rq : Req) (x : Strm) (be : Fin 16) (v : Word) (s : State) : Host.Outcome State Fault Refusal :=
  writeCmd rq (U.at (.chain x) 0x20) be v.toNat s
/-- SWAP_REQUEST: a bank swap is requested (R201, R203). -/
def execSwapRequest (rq : Req) (x : Strm) (be : Fin 16) (v : Word) (s : State) : Host.Outcome State Fault Refusal :=
  writeCmd rq (U.at (.chain x) 0x2C) be v.toNat s
/-- DC_CLEAR: the estimate is 0 (R205). -/
def execDcClear (rq : Req) (x : Strm) (be : Fin 16) (v : Word) (s : State) : Host.Outcome State Fault Refusal :=
  writeCmd rq (U.at (.chain x) 0x30) be v.toNat s
/-- COEF_WRITE: a word of the coefficient window, by its offset in the window (R198, R200). -/
def execCoefWrite (rq : Req) (off : Nat) (be : Fin 16) (v : Word) (s : State) : Host.Outcome State Fault Refusal :=
  writeCmd rq (0x20000 + off % 0x10000) be v.toNat s
/-- WIN_WRITE: the bounds or control of a comparator (R226). -/
def execWinWrite (rq : Req) (x : Strm) (k : Fin 4) (be : Fin 16) (v : Word) (s : State) : Host.Outcome State Fault Refusal :=
  writeCmd rq (U.at (.chain x) (0x40 + 4 * k.val)) be v.toNat s
/-! ### Fold, reflexes, time base -/
/-- FOLD_ENABLE_WRITE: slots fall due; those passed are late (R117). -/
def execFoldEnableWrite (rq : Req) (be : Fin 16) (v : Word) (s : State) : Host.Outcome State Fault Refusal :=
  writeCmd rq (U.at .fold 0x20) be v.toNat s
/-- FOLD_CANCEL_WRITE: the slots of a mask of channels are cancelled (R121). -/
def execFoldCancelWrite (rq : Req) (be : Fin 16) (v : Word) (s : State) : Host.Outcome State Fault Refusal :=
  writeCmd rq (U.at .fold 0x2C) be v.toNat s
/-- RFX_ARM_WRITE: a rule is disarmed, or armed and waiting or live (R235). -/
def execRfxArmWrite (rq : Req) (r : RuleNo) (be : Fin 16) (v : Word) (s : State) : Host.Outcome State Fault Refusal :=
  writeCmd rq (U.at (.rule r) 4) be v.toNat s
/-- ARM_AT_COMMIT: the high word of RFX_ARM_AT commits the pair (R235). -/
def execArmAtCommit (rq : Req) (r : RuleNo) (be : Fin 16) (v : Word) (s : State) : Host.Outcome State Fault Refusal :=
  writeCmd rq (U.at (.rule r) 0x14) be v.toNat s
/-- RULE_WRITE: RFX_COND, RFX_ACTION or RFX_PARAM of a disarmed rule (R236, R280). -/
def execRuleWrite (rq : Req) (r : RuleNo) (k : Fin 3) (be : Fin 16) (v : Word) (s : State) : Host.Outcome State Fault Refusal :=
  writeCmd rq (U.at (.rule r) (if k = 0 then 0 else 4 + 4 * k.val)) be v.toNat s
/-- RATE_WRITE: the rate from the next tick (R243). -/
def execRateWrite (rq : Req) (be : Fin 16) (v : Word) (s : State) : Host.Outcome State Fault Refusal :=
  writeCmd rq (U.at .tb 0x2C) be v.toNat s
/-- SLEW_WRITE: a slew starts, is replaced or ends (R244). -/
def execSlewWrite (rq : Req) (be : Fin 16) (v : Word) (s : State) : Host.Outcome State Fault Refusal :=
  writeCmd rq (U.at .tb 0x38) be v.toNat s
/-- STEP_COMMIT: the high word of TB_STEP asks for a step (R245, R247). -/
def execStepCommit (rq : Req) (be : Fin 16) (v : Word) (s : State) : Host.Outcome State Fault Refusal :=
  writeCmd rq (U.at .tb 0x34) be v.toNat s
/-! ### Groups -/
/-- GRP_FEED: a feed with the key (R281). -/
def execGrpFeed (rq : Req) (g : Grp) (be : Fin 16) (v : Word) (s : State) : Host.Outcome State Fault Refusal :=
  writeCmd rq (U.at (.grp g) 0x2C) be v.toNat s
/-- FORCE_SAFE: SAFE goes out in every frame (R290). -/
def execForceSafe (rq : Req) (g : Grp) (be : Fin 16) (v : Word) (s : State) : Host.Outcome State Fault Refusal :=
  writeCmd rq (U.at (.grp g) 0x24) be v.toNat s
/-- UNFORCE: SAFE is sent no more (R290). -/
def execUnforce (rq : Req) (g : Grp) (be : Fin 16) (v : Word) (s : State) : Host.Outcome State Fault Refusal :=
  writeCmd rq (U.at (.grp g) 0x24) be v.toNat s
/-- RELEASE: CONTROL RELEASE when no cause holds (R291). -/
def execRelease (rq : Req) (g : Grp) (be : Fin 16) (v : Word) (s : State) : Host.Outcome State Fault Refusal :=
  writeCmd rq (U.at (.grp g) 0x24) be v.toNat s
/-- RESTART: CONTROL RESTART (R296). -/
def execRestart (rq : Req) (g : Grp) (be : Fin 16) (v : Word) (s : State) : Host.Outcome State Fault Refusal :=
  writeCmd rq (U.at (.grp g) 0x24) be v.toNat s
/-- SUPPLY_ACK: the acknowledgement goes to the group die, whose outputs return staggered (R306). -/
def execSupplyAck (d : Side) (rq : Req) (g : Grp) (be : Fin 16) (v : Word) (s : State) : Host.Outcome State Fault Refusal :=
  match d with
  | .hub => writeCmd rq (U.at (.grp g) 0x84) be v.toNat s
  | .die => onDie g (fun s => s.dlWriteAt g (inGroup (.grp g) 0x84)) s
/-- REDUCE_WRITE: a channel's REDUCE; the controller cannot lower it (R426). -/
def execReduceWrite (rq : Req) (g : Grp) (hi : Bool) (be : Fin 16) (v : Word) (s : State) : Host.Outcome State Fault Refusal :=
  writeCmd rq (U.at (.grp g) (if hi then 0x154 else 0x150)) be v.toNat s
/-- RETUNE: a link retune starts on a present group (R427). -/
def execRetune (rq : Req) (g : Grp) (be : Fin 16) (v : Word) (s : State) : Host.Outcome State Fault Refusal :=
  writeCmd rq (U.at (.grp g) 0x15C) be v.toNat s
/-! ### Rings and resets -/
/-- RING_ENABLE: indices and sequence start (R340). -/
def execRingEnable (rq : Req) (r : RingNo) (be : Fin 16) (v : Word) (s : State) : Host.Outcome State Fault Refusal :=
  writeCmd rq (U.at (.ring r) 8) be v.toNat s
/-- RING_DISABLE: the ring stops at an entry boundary (R341). -/
def execRingDisable (rq : Req) (r : RingNo) (be : Fin 16) (v : Word) (s : State) : Host.Outcome State Fault Refusal :=
  writeCmd rq (U.at (.ring r) 8) be v.toNat s
/-- RING_RESUME: a halt of cause 1 or 2 is cleared (R334). -/
def execRingResume (rq : Req) (r : RingNo) (be : Fin 16) (v : Word) (s : State) : Host.Outcome State Fault Refusal :=
  writeCmd rq (U.at (.ring r) 8) be v.toNat s
/-- ROOT_SOFT_RESET: ROOT_RESET with the key and SOFT (R457). -/
def execRootSoftReset (rq : Req) (be : Fin 16) (v : Word) (s : State) : Host.Outcome State Fault Refusal :=
  writeCmd rq 0x24 be v.toNat s
/-- HUB_DIE_RESET_REQUEST: ROOT_RESET with the key and HUB (R458). -/
def execHubDieResetRequest (rq : Req) (be : Fin 16) (v : Word) (s : State) : Host.Outcome State Fault Refusal :=
  writeCmd rq 0x24 be v.toNat s
/-! ### Drover and check units -/
/-- DRV_STOP: a STOP doorbell from the host, or DRV_CH_CTRL.STOP from a requester (R357). -/
def execDrvStop (k : DrvNo) (rq : Option Req) (s : State) : Host.Outcome State Fault Refusal :=
  match rq with
  | none => onBus .host (.doorbell (256 * (8 + k.val)) (leBytes 4 3)) (fun s => s.pageDoorbell (8 + k.val) 3) s
  | some rq => writeCmd rq (U.at (.drvCh k) 0x3C) 15 1 s
/-- DRV_CLEAR: a halted channel becomes IDLE (R357). -/
def execDrvClear (rq : Req) (k : DrvNo) (s : State) : Host.Outcome State Fault Refusal :=
  writeCmd rq (U.at (.drvCh k) 0x3C) 15 2 s
/-- RECOVER: BUS_ERR and the halts of cause 4 are cleared (R364). -/
def execRecover (rq : Req) (s : State) : Host.Outcome State Fault Refusal :=
  writeCmd rq (U.at .drv 0x20) 15 1 s
/-- DRV_CFG_WRITE: DRV_CH_CFG or DRV_CH_STREAMS, discarded while the channel runs (R366). -/
def execDrvCfgWrite (rq : Req) (k : DrvNo) (w : Fin 3) (be : Fin 16) (v : Word) (s : State) : Host.Outcome State Fault Refusal :=
  writeCmd rq (U.at (.drvCh k) (4 * w.val)) be v.toNat s
/-- CK_BIND_WRITE: a unit is bound to a channel, or the write is discarded (R370). -/
def execCkBindWrite (rq : Req) (u : CkNo) (be : Fin 16) (v : Word) (s : State) : Host.Outcome State Fault Refusal :=
  writeCmd rq (U.at (.ckU u) 0) be v.toNat s
/-- CK_RUN_WRITE: a running register restored, and IN_BLOCK set (R375). -/
def execCkRunWrite (rq : Req) (u : CkNo) (be : Fin 16) (v : Word) (s : State) : Host.Outcome State Fault Refusal :=
  writeCmd rq (U.at (.ckU u) 0x10) be v.toNat s
/-- ABANDON: an open block closes without a trailer (R375). -/
def execAbandon (rq : Req) (u : CkNo) (s : State) : Host.Outcome State Fault Refusal :=
  writeCmd rq (U.at (.ckU u) 0x18) 15 1 s
/-! ### Supervisor port, controller, health and Ledger -/
/-- HANDBACK_REQUEST: HOST_REQ and its cause (R395). -/
def execHandbackRequest (rq : Req) (be : Fin 16) (v : Word) (s : State) : Host.Outcome State Fault Refusal :=
  writeCmd rq (U.at .sv 0x30) be v.toNat s
/-- VERIFY: verification of the slot that is not running (R400). -/
def execVerify (rq : Req) (be : Fin 16) (v : Word) (s : State) : Host.Outcome State Fault Refusal :=
  writeCmd rq (U.at .fw 0x24) be v.toNat s
/-- ACTIVATE: the staged image is started, or a hitless update begins (R402). -/
def execActivate (rq : Req) (be : Fin 16) (v : Word) (s : State) : Host.Outcome State Fault Refusal :=
  writeCmd rq (U.at .fw 0x24) be v.toNat s
/-- FW_RESTART: the running slot is restarted (R407). -/
def execFwRestart (rq : Req) (be : Fin 16) (v : Word) (s : State) : Host.Outcome State Fault Refusal :=
  writeCmd rq (U.at .fw 0x24) be v.toNat s
/-- FW_STOP: the controller is held in reset (R407). -/
def execFwStop (rq : Req) (be : Fin 16) (v : Word) (s : State) : Host.Outcome State Fault Refusal :=
  writeCmd rq (U.at .fw 0x24) be v.toNat s
/-- FW_KICK: the watchdog restarts and a starting image runs (R403, R407). -/
def execFwKick (rq : Req) (be : Fin 16) (v : Word) (s : State) : Host.Outcome State Fault Refusal :=
  writeCmd rq (U.at .fw 0x2C) be v.toNat s
/-- RAM_DATA_ACCESS: the RAM word at ADDR is written or read, and ADDR advances (R398, Table 19.13). -/
def execRamDataAccess (rq : Req) (wr : Option (Fin 16 × Word)) (s : State) : Host.Outcome State Fault Refusal :=
  match wr with
  | some p => writeCmd rq (U.at .fw 0x3C) p.1 p.2.toNat s
  | none => onBus rq (.read (U.at .fw 0x3C)) (fun s => s.readBy rq (U.at .fw 0x3C)) s
/-- A running firmware whose channel's ratio has reached DERATE_AT writes the channel's REDUCE, where that raises it (R426). -/
def State.fwDerate (s : State) (c : Ch) : State :=
  let n := (chN c).val
  let k := reduceFor (s.reg (F.AGE_RES_RNOW c)) (s.reg (F.AGE_RES_RBASE c))
  if s.fwRuns && s.derateDue c && decide (reduceOf (s.reg (F.GRP_AGE_REDUCE (grpOf c) (chN c))) < k) then
    s.writeBy .fw (U.at (.grp (grpOf c)) (0x150 + n / 4 * 4)) (Fin.ofNat 16 (2 ^ (n % 4))) (k * 256 ^ (n % 4))
  else s
/-- RES_MEASUREMENT: a mean drop in uV, a mean current in mA, Tj and its change in 0.5 degrees, and whether the channel was in On or Inrush
throughout (R420). DESIGN CHOICE, log entry 193: the firmware derates as soon as a ratio reaches DERATE_AT. -/
def execResMeasurement (c : Ch) (uv ma : Nat) (tj dt : Int) (steady : Bool) (s : State) : Host.Outcome State Fault Refusal :=
  onBoth (grpOf c) (fun s => if s.resAccepts c ma dt steady then (s.resTaken c uv ma tj).fwDerate c else s) s
/-- VID_REQ_WRITE: the requested code; the controller cannot lower it (R423). -/
def execVidReqWrite (rq : Req) (be : Fin 16) (v : Word) (s : State) : Host.Outcome State Fault Refusal :=
  writeCmd rq (U.at .hk 0x3C) be v.toNat s
/-- HOURS_WRITE: a bin is set and its seconds cleared (R419). -/
def execHoursWrite (rq : Req) (d : Fin 5) (b : Fin 4) (be : Fin 16) (v : Word) (s : State) : Host.Outcome State Fault Refusal :=
  writeCmd rq (U.at (.hours d) (4 * b.val)) be v.toNat s
/-- LEDGER_POST: a record of the firmware or the host (R436). -/
def execLedgerPost (rq : Req) (be : Fin 16) (v : Word) (s : State) : Host.Outcome State Fault Refusal :=
  writeCmd rq (U.at .ldg 0x48) be v.toNat s
/-- UNFREEZE: the freeze ends with record 0x0F (R439). -/
def execUnfreeze (rq : Req) (be : Fin 16) (v : Word) (s : State) : Host.Outcome State Fault Refusal :=
  writeCmd rq (U.at .ldg 0x20) be v.toNat s
/-- FAULT_ACK: FAULT_N is released unless a stuck-on latch remains (R443). -/
def execFaultAck (rq : Req) (be : Fin 16) (v : Word) (s : State) : Host.Outcome State Fault Refusal :=
  writeCmd rq (U.at .ldg 0x20) be v.toNat s

end Sys2Proof.Machine
end

