-- ==== Sys2Proof/Machine/Check.lean ====
section
/-! DEFINITION. The blocks of the check units that serve Drover channels: opening, feeding, trailers and tests (R368, R371 to
R376). -/

namespace Sys2Proof.Machine

/-- CHK of a descriptor. -/
def Desc.chk (d : Desc) : Bool := bit d.ctrl 27
/-- The running register and the count of a unit are fed with bytes (R368, R371). -/
def State.ckFeed (s : State) (u : CkNo) (l : List Byte) : State :=
  (s.setReg (F.CK_RUN u) (crcFeed (s.reg (F.CK_BIND_ALG u)) (s.reg (F.CK_RUN u)) l)).setReg (F.CK_COUNT u) (s.reg (F.CK_COUNT u) + l.length)
/-- The fold-in of a block: the opening descriptor's host address and the sequence (R371). -/
def State.ckFold (s : State) (u : CkNo) (d : Desc) : List Byte :=
  if s.on (F.CK_BIND_PAYLOAD_ONLY u) then [] else leBytes 8 d.host ++ leBytes 4 (s.reg (F.CK_SEQ u))
/-- A descriptor starts under a unit: what the unit holds is kept for R376, and a block opens when none is open (R371). A block
that a write of CK_RUN has set open takes the direction of its next descriptor. -/
def State.ckOpen (s : State) (u : CkNo) (d : Desc) : State :=
  let open_ := s.on (F.CK_STATUS_IN_BLOCK u)
  let dir := if open_ then ((s.ck[u.val]).dir).getD d.h2d else d.h2d
  let s1 := s.updCk u fun _ => { dir := some dir, save := some (s.reg (F.CK_RUN u), s.reg (F.CK_COUNT u), open_) }
  if open_ then s1
  else
    let run := crcFeed (s.reg (F.CK_BIND_ALG u)) (crcInit (s.reg (F.CK_BIND_ALG u))) (s.ckFold u d)
    (((s1.setReg (F.CK_RUN u) run).setReg (F.CK_COUNT u) 0).setReg (F.CK_STATUS_IN_BLOCK u) 1).setReg (F.CK_STATUS_CARRIED u) 0
/-- The block of a descriptor that completes: where the one that it had opened or continued has been abandoned meanwhile, it opens the next
(R371, R375). -/
def State.ckEnsure (s : State) (u : CkNo) (d : Desc) : State := if (s.ck[u.val]).dir.isNone then s.ckOpen u d else s
/-- A descriptor of a block completes and the block stays open. -/
def State.ckKeep (s : State) (u : CkNo) : State := s.updCk u fun c => { c with save := none, test := none }
/-- The block closes. -/
def State.ckClose (s : State) (u : CkNo) : State :=
  ((s.setReg (F.CK_STATUS_IN_BLOCK u) 0).setReg (F.CK_STATUS_CARRIED u) 0).updCk u fun _ => {}
/-- The block closes good (R373, R374). -/
def State.ckGood (s : State) (u : CkNo) : State :=
  (((s.wrapTally (F.CK_SEQ u)).ckClose u).tally (F.CK_BLOCK_TALLY_BLOCKS u)).cause .ck (8 + u.val)
/-- The block fails with a reason (R374). -/
def State.ckBad (s : State) (u : CkNo) (reason : Nat) : State :=
  (((s.ckClose u).setReg (F.CK_STATUS_REASON u) reason).tally (F.CK_BLOCK_TALLY_FAILED u)).cause .ck u.val
/-- The check value of the bytes fed. -/
def State.ckValue (s : State) (u : CkNo) : Nat := crcOut (s.reg (F.CK_BIND_ALG u)) (s.reg (F.CK_RUN u))
/-- Where the trailer of the next block lies (R372). -/
def State.trailAddr (s : State) (u : CkNo) : Nat :=
  s.reg (F.CK_TRAIL_HI u) * 2 ^ 32 + s.reg (F.CK_TRAIL_LO_BASE u) * 2 ^ 12 +
    s.reg (F.CK_SEQ u) % 2 ^ (min 8 (s.reg (F.CK_TRAIL_LO_LOG2 u))) * 16
/-- The trailer of an outbound block (Table 17.3). -/
def State.ckTrailer (s : State) (u : CkNo) (k : DrvNo) : List Byte :=
  let flags := s.reg (F.CK_BIND_ALG u) + 4 * s.reg (F.CK_BIND_PAYLOAD_ONLY u) + 8 * s.reg (F.CK_STATUS_CARRIED u)
  leBytes 4 (s.ckValue u) ++ leBytes 4 (s.reg (F.CK_SEQ u)) ++ leBytes 4 (s.reg (F.CK_COUNT u)) ++ leBytes 1 k.val ++ leBytes 1 u.val ++
    leBytes 1 flags ++ leBytes 1 0
/-- The first test that an inbound block fails, 0 for none (Table 17.4). A block that was open before its closing descriptor
has a descriptor without CHK. -/
def State.ckTest (s : State) (u : CkNo) (h2d : Bool) (trailer : List Byte) : Nat :=
  let before := match (s.ck[u.val]).save with | some (_, _, o) => o | none => false
  if s.on (F.CK_BIND_HOLD u) && before then 4
  else if (s.ck[u.val]).dir != some h2d then 5
  else if bytesAt trailer 8 4 ≠ s.reg (F.CK_COUNT u) then 3
  else if bytesAt trailer 4 4 ≠ s.reg (F.CK_SEQ u) then 2
  else if bytesAt trailer 0 4 ≠ s.ckValue u then 1
  else 0

end Sys2Proof.Machine
end

