-- ==== Sys2Proof/Machine/DrvRun.lean ====
section
/-! DEFINITION. The Drover's transfers: fetching, arbitration, moving a descriptor's elements, completion, rescans, and the test
of an inbound block (R346 to R364, R371 to R374). -/

namespace Sys2Proof.Machine

/-! ### Elements -/

/-- Host address and device offset of each element, in the order in which they move (R346). -/
def Desc.elems (d : Desc) : List (Nat × Nat) :=
  if d.size = 0 then []
  else (List.range d.c2).flatMap fun i2 => (List.range d.c1).flatMap fun i1 => (List.range d.c0).map fun i0 =>
    let h := (d.host : Int) + i0 * d.s0 + i1 * d.s1 + i2 * d.s2
    let v := (d.dev : Int) + i0 * d.d0 + i1 * d.d1 + i2 * d.d2
    ((h % 2 ^ 64).toNat, v.toNat)
/-- The next descriptor of a rescan or a chain: address of the WB word (Table 16.2). -/
def Desc.wbAddr (d : Desc) : Nat := d.addr + 60
/-- WB of a descriptor. -/
def Desc.wb (d : Desc) : Bool := bit d.ctrl 30

/-! ### Requests -/

/-- Consecutive elements with contiguous ascending host addresses are merged (R355). -/
def mergeRuns (l : List (Nat × List Byte)) : List (Nat × List Byte) :=
  l.foldr (fun p acc => match acc with
    | (c, e) :: t => if p.1 + p.2.length = c then (p.1, p.2 ++ e) :: t else p :: acc
    | [] => [p]) []
/-- One run as write requests of at most `mps` bytes, none across a 4 KiB boundary (R355). -/
def splitRun (mps : Nat) : Nat → Nat → List Byte → List HostOut
  | 0, _, _ => []
  | n + 1, a, l =>
    if l.isEmpty then []
    else
      let k := min mps (4096 - a % 4096)
      .write a (l.take k) :: splitRun mps n (a + k) (l.drop k)
/-- Max_Payload_Size in bytes (R319). -/
def HostIf.maxPayload (h : HostIf) : Nat := 128 * 2 ^ (h.cfgWord 0x78 / 32 % 8)
/-- The greatest read request in bytes: the lesser of Max_Read_Request_Size and 512 (R319). -/
def HostIf.maxRead (h : HostIf) : Nat := min 512 (128 * 2 ^ (h.cfgWord 0x78 / 2 ^ 12 % 8))
/-- Consecutive elements of e bytes with contiguous ascending host addresses as one span (R355). -/
def mergeSpans (e : Nat) (l : List Nat) : List (Nat × Nat) :=
  l.foldr (fun a acc => match acc with
    | (c, n) :: t => if a + e = c then (a, e + n) :: t else (a, e) :: acc
    | [] => [(a, e)]) []
/-- One span as read requests of at most a number of bytes, none across a 4 KiB boundary (R355). -/
def splitSpan (most : Nat) : Nat → Nat → Nat → List HostOut
  | 0, _, _ => []
  | f + 1, a, n =>
    if n = 0 then []
    else
      let k := min n (min most (4096 - a % 4096))
      .read a k :: splitSpan most f (a + k) (n - k)
/-- The data writes of a descriptor. -/
def State.dataWrites (s : State) (l : List (Nat × List Byte)) : State :=
  s.hostWrites ((mergeRuns l).flatMap fun p => splitRun s.host.maxPayload p.2.length p.1 p.2)

/-! ### The device side -/

/-- A word of a device space as it reads when it is taken (Table 16.5). -/
def State.spaceRead (s : State) (k : DrvNo) (sp a : Nat) : Nat × State :=
  if sp = 0 then s.readWord (.bulk k) a else if sp = 1 then (s.ramWord a, s) else (s.ldgWord a, s)
/-- The words of one element, in ascending order (R354). -/
def State.elemRead (s : State) (k : DrvNo) (sp a n : Nat) : List Byte × State :=
  (List.range n).foldl (fun p i => let q := p.2.spaceRead k sp (a + 4 * i); (p.1 ++ leBytes 4 q.1, q.2)) ([], s)
/-- Elements of a device-to-host descriptor with their bytes. -/
def State.gatherElems (s : State) (k : DrvNo) (d : Desc) (l : List (Nat × Nat)) : List (Nat × List Byte) × State :=
  if isStream k then
    let w := windowBytes (s.drvc k).frames d.size
    (l.map fun e => (e.1, (w.drop e.2).take d.esize), s)
  else
    let p := l.foldl (fun p e => let q := p.2.elemRead k d.space e.2 (d.esize / 4); ((e.1, q.1) :: p.1, q.2)) ([], s)
    (p.1.reverse, p.2)
/-- All the elements of a descriptor are gathered. -/
def State.gather (s : State) (k : DrvNo) (d : Desc) : List (Nat × List Byte) × State := s.gatherElems k d d.elems
/-- Whether a write of a word took effect (R354). -/
def WRes.took : WRes → Bool
  | .ok | .grpWord _ _ | .modeChange _ _ => true
  | _ => false
/-- A word of the device side is discarded or refused (R354). -/
def State.devDiscard (s : State) (k : DrvNo) : State := s.tally (F.DRV_CH_COUNTS_DEV_DISCARD k)
/-- A word is delivered to the device side (R354, R393, R398). -/
def State.spaceWrite (s : State) (k : DrvNo) (sp a v : Nat) : State :=
  if sp = 1 then (let p := s.ramWrite a v; if p.1 then p.2 else p.2.devDiscard k)
  else if (s.drvc k).shut then s.hostDiscard.devDiscard k
  else
    let p := s.writeWord (.bulk k) a 15 v
    if p.2.took then p.1 else p.1.devDiscard k
/-- Elements of a host-to-device descriptor take the bytes read from the host, element by element and word by word; a reset that one of the
words makes abandons the rest (R346, R354, R365). -/
def State.deliverElems (s : State) (k : DrvNo) (d : Desc) (l : List (Nat × Nat)) (data : List Byte) : State :=
  (l.zipIdx).foldl (fun s e =>
    (List.range (d.esize / 4)).foldl (fun s i =>
      if (s.drvc k).busy then s.spaceWrite k d.space (e.1.2 + 4 * i) (bytesAt data (e.2 * d.esize + 4 * i) 4) else s) s) s
/-- All the elements of a descriptor are delivered. -/
def State.deliver (s : State) (k : DrvNo) (d : Desc) (data : List Byte) : State := s.deliverElems k d d.elems data

/-! ### Taking and completing -/

/-- The read requests of a host-to-device descriptor: its elements, merged and split, and the trailer of the block that it closes (R355,
R374). -/
def State.dataReads (s : State) (k : DrvNo) (d : Desc) : List HostOut :=
  (mergeSpans d.esize (d.elems.map (·.1))).flatMap (fun p => splitSpan s.host.maxRead p.2 p.1 p.2) ++
    (match s.unitOf k with | some u => if d.chk then [.read (s.trailAddr u) 16] else [] | none => [])
/-- What the engine does as a descriptor starts: the next one is fetched, the host data of a host-to-device one are asked for ahead of their
use, a check unit opens or continues its block (R355, R358, R371, log entry 189). -/
def State.drvBegin (s : State) (k : DrvNo) (d : Desc) : State :=
  let next := if d.isEnd then none else some d.next
  let s1 := (s.updDrv k fun c => { c with busy := true, fetch := next, asked := false, shut := s.sv.keeper }).drvAsk k
  let s2 := if d.h2d then s1.hostWrites (s1.dataReads k d) else s1
  match s2.unitOf k with | some u => s2.ckOpen u d | none => s2
/-- The chain goes on to a descriptor that is still to arrive. -/
def State.drvAwait (s : State) (k : DrvNo) (a : Nat) : State :=
  (s.updDrv k fun c => { c with fetch := some a, asked := false, cur := none, busy := false }).setCur k a
/-- A descriptor whose END was 1 has completed: rescan, or the chain ends (R360). -/
def State.drvLast (s : State) (k : DrvNo) (d : Desc) : State :=
  let s1 := s.updDrv k fun c => { c with last := some d, cur := none, busy := false }
  if s1.on (F.DRV_CH_STATUS_RESCAN k) then
    (s1.updDrv k fun c => { c with rescanning := true, asked := false }).setReg (F.DRV_CH_STATUS_RESCAN k) 0
  else s1.drvEnd k
/-- The WB word, DRV_CH_DONE, DESC_DONE and the channel's message, in that order (R359). -/
def State.drvDone (s : State) (k : DrvNo) (d : Desc) : State :=
  let s1 := if d.wb then s.hostWrites [.write d.wbAddr (leBytes 4 (2 ^ 31 + d.size))] else s
  let s2 := s1.wrapTally (F.DRV_CH_DONE k)
  if bit d.ctrl 29 then
    let s3 := s2.drvEvent k 0
    if s3.on (F.DRV_CH_IRQ_EN k) then s3.requestMsix (s3.reg (F.DRV_CH_IRQ_VECTOR k)) none else s3
  else s2
/-- A zero-length descriptor is counted in its run; the 4,096th halts the channel with cause 3 (R349). -/
def State.zeroRun (s : State) (k : DrvNo) (d : Desc) : Bool × State :=
  if d.size ≠ 0 then (false, s)
  else if 4095 ≤ (s.drvc k).zeros then (true, s.drvHalt k 3 d.addr)
  else (false, s.updDrv k fun c => { c with zeros := c.zeros + 1 })
/-- An outbound block closes: its trailer is written before WB (R373). -/
def State.ckOut (s : State) (k : DrvNo) (d : Desc) : State :=
  match s.unitOf k with
  | none => s
  | some u => if d.chk then (s.hostWrites [.write (s.trailAddr u) (s.ckTrailer u k)]).ckGood u else s.ckKeep u
/-- The block of a unit fails, and the channel halts with cause 5 (R371, R374). -/
def State.drvFail (s : State) (k : DrvNo) (u : CkNo) (reason : Nat) (d : Desc) : State := (s.ckBad u reason).drvHalt k 5 d.addr
/-- A descriptor is taken: it waits for its window and for the engine; a zero-length one that no inbound test awaits completes
at once (R349, R351). -/
def State.drvTake (s : State) (k : DrvNo) (d : Desc) : State :=
  let p := s.zeroRun k d
  if p.1 then p.2
  else
    let s1 := ((p.2.updDrv k fun c => { c with cur := some d, busy := false }).setCur k d.addr).setReg (F.DRV_CH_STATUS_WAIT_DATA k)
      (b2n (isStream k && d.size != 0))
    if d.size ≠ 0 then s1.formWindow k
    else if !s1.host.mayIssue || (d.h2d && (s1.unitOf k).isSome) then s1
    else
      let s2 := s1.drvBegin k d
      if (s2.unitOf k).any fun u => (s2.ck[u.val]).dir != some d.h2d then
        (match s2.unitOf k with | some u => s2.drvFail k u 5 d | none => s2)
      else
        let s3 := (s2.ckOut k d).drvDone k d
        if d.isEnd then s3.drvLast k d else s3.drvAwait k d.next
/-- The channel goes on after a descriptor has completed (R357, R359, R360). -/
def State.drvNext (s : State) (k : DrvNo) (d : Desc) : State :=
  let c := s.drvc k
  if s.drvState k = 2 then ((if d.isEnd then s else s.setCur k d.next)).drvStopped k
  else if d.isEnd then s.drvLast k d
  else if c.badNext ≠ 0 then s.drvHalt k c.badNext (c.preAddr.getD d.next)
  else match c.pre with
    | some p => ((s.updDrv k fun c => { c with pre := none }).preFlag k).drvTake k p
    | none => s.drvAwait k d.next
/-- A descriptor completes and the channel goes on. -/
def State.drvFinish (s : State) (k : DrvNo) (d : Desc) : State :=
  let s1 := if d.size = 0 then s else s.updDrv k fun c => { c with zeros := 0 }
  (s1.drvDone k d).drvNext k d

/-! ### The commands -/

/-- A descriptor arrives: it is validated, and taken or held; a bad one halts the channel once the one before it has completed
(R347, R348). -/
def State.descArrives (s : State) (k : DrvNo) (bytes : List Byte) : State :=
  let s0 := s.drvAsk k
  if !(s0.drvc k).asked then s else
  match (s0.drvc k).fetch with
  | none => s0
  | some a =>
    let s := s0
    let d := descOf a bytes
    let bad := d.check (isStream k)
    let s1 := s.updDrv k fun c => { c with fetch := none, asked := false }
    if s.drvState k == 2 && !(s.drvc k).busy then s1
    else if (s.drvc k).cur.isNone then (if bad ≠ 0 then s1.drvHalt k bad a else s1.drvTake k d)
    else if bad ≠ 0 then s1.updDrv k fun c => { c with badNext := bad, preAddr := some a }
    else (s1.updDrv k fun c => { c with pre := some d }).preFlag k
/-- DESCRIPTOR_FETCH. -/
def execDescriptorFetch (k : DrvNo) (bytes : List Byte) (s : State) : Host.Outcome State Fault Refusal :=
  onHub (fun s => s.descArrives k bytes) s

/-- The descriptor of a channel that is ready in a direction (R358). -/
def State.readyDesc (s : State) (h2d : Bool) (k : DrvNo) : Option Desc :=
  match (s.drvc k).cur with
  | some d =>
    if s.drvState k = 1 && d.h2d == h2d && !(s.drvc k).busy && !(isStream k && s.on (F.DRV_CH_STATUS_WAIT_DATA k)) then some d else none
  | none => none
/-- Whether the engine carries a descriptor of a direction (R358). -/
def State.engineBusy (s : State) (h2d : Bool) : Bool :=
  (List.finRange 24).any fun k => (s.drvc k).busy && match (s.drvc k).cur with | some d => d.h2d == h2d | none => false
/-- The arbiter's choice: the lowest stream channel with more than 8,192 bytes queued, else the next ready one in turn (R358). -/
def State.drvChoose (s : State) (h2d : Bool) : Option DrvNo :=
  let ready := (List.finRange 24).filter fun k => (s.readyDesc h2d k).isSome
  let last := if h2d then s.drv.lastH2d else s.drv.lastD2h
  match ready.find? fun k => isStream k && decide (8192 < level (s.drvc k).frames) with
  | some k => some k
  | none =>
    match ready.find? fun k => decide (last < k.val) with
    | some k => some k
    | none => ready.head?
/-- The next descriptor of a direction starts (R358, R365). -/
def State.descStart (s : State) (h2d : Bool) : State :=
  if !s.host.mayIssue || s.engineBusy h2d then s
  else match s.drvChoose h2d with
    | none => s
    | some k =>
      match s.readyDesc h2d k with
      | none => s
      | some d =>
        let s1 : State := { s with drv := if h2d then { s.drv with lastH2d := k.val } else { s.drv with lastD2h := k.val } }
        s1.drvBegin k d
/-- DESCRIPTOR_START. -/
def execDescriptorStart (h2d : Bool) (s : State) : Host.Outcome State Fault Refusal := onHub (fun s => s.descStart h2d) s

/-- The window of a stream channel is released whole (R351). -/
def State.drvRelease (s : State) (k : DrvNo) (b : Nat) : State :=
  if isStream k then (s.updDrv k fun c => { c with frames := releaseBytes c.frames b }).levelShow k else s
/-- The last write of a device-to-host descriptor is issued (R359, R371, R373). -/
def State.d2hDone (s : State) (k : DrvNo) (d : Desc) : State :=
  let p := s.gather k d
  let s1 := (p.2.dataWrites p.1).drvRelease k d.size
  match s1.unitOf k with
  | none => s1.drvFinish k d
  | some u =>
    let s2 := (s1.ckEnsure u d).ckFeed u (p.1.flatMap Prod.snd)
    if (s2.ck[u.val]).dir != some false then s2.drvFail k u 5 d else (s2.ckOut k d).drvFinish k d
/-- The last host byte of a host-to-device descriptor has come: its words are delivered, or held until the block has passed
(R359, R371, R374). -/
def State.h2dDone (s : State) (k : DrvNo) (d : Desc) (data : List Byte) : State :=
  match s.unitOf k with
  | none => let s1 := s.deliver k d data; if (s1.drvc k).busy then s1.drvFinish k d else s1
  | some u =>
    let s1 := (s.ckEnsure u d).ckFeed u data
    if s1.on (F.CK_BIND_HOLD u) then
      (if d.chk then s1.updCk u fun c => { c with test := some data } else s1.drvFail k u 4 d)
    else
      let s2 := s1.deliver k d data
      if !(s2.drvc k).busy then s2
      else if d.chk then s2.updCk u fun c => { c with test := some data }
      else if (s2.ck[u.val]).dir != some true then s2.drvFail k u 5 d
      else (s2.ckKeep u).drvFinish k d
/-- Whether a channel's descriptor waits for the test of its block. -/
def State.awaitsTest (s : State) (k : DrvNo) : Bool :=
  match s.unitOf k with | some u => (s.ck[u.val]).test.isSome | none => false
/-- The descriptor in progress of a channel completes; `data` are the bytes read from the host, in the order in which the
elements take them. A request still to be issued waits for the function (R359, R365). -/
def State.descDone (s : State) (k : DrvNo) (data : List Byte) : State :=
  match (s.drvc k).cur with
  | none => s
  | some d =>
    if !(s.drvc k).busy || s.awaitsTest k || !s.drvActive k then s
    else if d.h2d then
      (if d.wb && !s.host.mayIssue then s else s.h2dDone k d ((data ++ List.replicate (d.size - data.length) 0).take d.size))
    else if !s.host.mayIssue then s
    else s.d2hDone k d
/-- DESCRIPTOR_COMPLETE. -/
def execDescriptorComplete (k : DrvNo) (data : List Byte) (s : State) : Host.Outcome State Fault Refusal :=
  onHub (fun s => s.descDone k data) s

/-- The CTRL and NEXT of the descriptor that ended a chain are read again (R360). A NEXT that is not aligned halts the channel as
R347 has it. -/
def State.rescanDone (s : State) (k : DrvNo) (bytes : List Byte) : State :=
  let s := s.drvAsk k
  match (s.drvc k).last with
  | none => s
  | some d =>
    if !(s.drvc k).rescanning || !(s.drvc k).asked then s
    else
      let n := descOf d.addr bytes
      let s1 := s.updDrv k fun c => { c with rescanning := false }
      if !n.isEnd then (if n.next % 64 ≠ 0 then s1.drvHalt k 1 d.addr else (s1.drvTo k 1).drvAwait k n.next)
      else if s1.on (F.DRV_CH_STATUS_RESCAN k) then
        (s1.updDrv k fun c => { c with rescanning := true, asked := false }).setReg (F.DRV_CH_STATUS_RESCAN k) 0
      else s1.drvEnd k
/-- RESCAN_READ. -/
def execRescanRead (k : DrvNo) (bytes : List Byte) (s : State) : Host.Outcome State Fault Refusal :=
  onHub (fun s => s.rescanDone k bytes) s

/-- The closing descriptor of an inbound block waits for its test: the block passes or fails (R374). -/
def State.blockTested (s : State) (u : CkNo) (trailer : List Byte) : State :=
  match (s.ck[u.val]).test, (List.finRange 24).find? fun k => s.unitOf k == some u with
  | some held, some k =>
    match (s.drvc k).cur with
    | none => s
    | some d =>
      if !(s.drvc k).busy || (d.wb && !s.host.mayIssue) then s
      else
        let s0 := if (s.ck[u.val]).dir.isNone then (s.ckOpen u d).ckFeed u held else s
        let r := s0.ckTest u d.h2d trailer
        if r ≠ 0 then s0.drvFail k u r d
        else
          let s1 := s0.ckGood u
          let s2 := if s0.on (F.CK_BIND_HOLD u) then s1.deliver k d held else s1
          if (s2.drvc k).busy then s2.drvFinish k d else s2
  | _, _ => s
/-- BLOCK_TEST. -/
def execBlockTest (u : CkNo) (trailer : List Byte) (s : State) : Host.Outcome State Fault Refusal :=
  onHub (fun s => s.blockTested u trailer) s

/-! ### Bus errors -/

/-- What the descriptor in progress of a channel has moved when it is abandoned: device to host the first n of its elements, whose
writes have been issued; host to device the elements whose bytes have come, unless a check unit holds them (R363, R374). -/
def State.movedSoFar (s : State) (n : Nat) (data : List Byte) (k : DrvNo) : State :=
  match (s.drvc k).cur with
  | none => s
  | some d =>
    if !(s.drvc k).busy then s
    else if d.h2d then
      (if (s.unitOf k).any fun u => s.on (F.CK_BIND_HOLD u) then s else s.deliverElems k d (d.elems.take (data.length / d.esize)) data)
    else
      let p := s.gatherElems k d (d.elems.take n)
      p.2.dataWrites p.1
/-- BUS_ERROR: a failed read of the Drover at an address; what was moved before it stands, and every
active channel halts (R363). -/
def execBusError (addr : Nat) (e : ReadFail) (s : State) : Host.Outcome State Fault Refusal :=
  onHub (fun s => if s.host.dlUp then ((List.finRange 24).foldl (fun s k => s.movedSoFar e.moved e.data k) s).busError addr e.bit (hdrWords e.hdr) else s) s

end Sys2Proof.Machine
end

