-- ==== Sys2Proof/Machine/Commands.lean ====
section
/-! DEFINITION. The commands of ring 0: their tests, items, completions and copies of Ledger records (R335 to R338). -/

namespace Sys2Proof.Machine

/-- Whether an offset may stand in a command: aligned, and below the MSI-X structures (R336). -/
def offsetOk (a : Nat) : Bool := decide (a % 4 = 0) && decide (a < 0xF0000)
/-- The mark of the command being executed among those outstanding; a reset that its own writes cause removes it. -/
def running (seq op : Nat) : Cmd := { seq := seq, op := op, items := [], copy := some (9, 0, 0) }
/-- Whether the command being executed still stands. -/
def State.cmdAlive (s : State) : Bool := s.host.cmds.any fun x => x.copy == some (9, 0, 0)
/-- What an access came to as an item of a command, and the bytes of the completion that go with a refusal (Table 15.9). -/
def State.itemOf (s : State) : WRes → Item × List Place
  | .ok | .dropped => (.done 0, [])
  | .unmapped => (.done 9, [])
  | .locked => (.done 7, [])
  | .modeRefused code m => (.done 5, [(12, 1, code), (13, 1, m)])
  | .govRefused model new => (.done 6, [(12, 2, model), (14, 2, new)])
  | .grpWord g wid => (if s.absent g then .done 1 else .image g wid, [])
  | .modeChange c ws => (if s.absent (grpOf c) then .done 1 else .mode c ws, [])
/-- A refused item ends its command (R337). -/
def Item.refused (i : Item) : Bool := i.isDone && i.status ∈ [5, 6, 7, 9]
/-- A word as it reads at this instant, with no effect of a read. -/
def State.liveWord (s : State) (a : Nat) : Nat :=
  match spotAt a with | .word u o => s.unitWord u o | .coef o => s.coefRead o | _ => 0
/-- The word that a masked write stores: the masked bits of the value and every other bit as it stands; a bit that clears or acts
when 1 is written is left alone unless it is masked (R336). -/
def State.maskedWord (s : State) (a mask v : Nat) : Nat :=
  let acts := match spotAt a with
    | .word u o => (rowsAt u o).foldl (fun x r => if r.acc = .w1c ∨ r.acc = .wo then x ||| (2 ^ r.w - 1) * 2 ^ r.lo else x) 0
    | _ => 0
  (s.liveWord a &&& (0xFFFFFFFF ^^^ (mask ||| acts))) ||| (v &&& mask)
/-- The items of a WRITE or WRITE_MASKED applied in order: (offset, mask, value), a mask of all ones for a plain write. Nothing
follows a refused item, nor a reset of the host link (R337, R342). -/
def State.writeItems (s : State) : List (Nat × Nat × Nat) → State × List Item × List Place
  | [] => (s, [], [])
  | (a, m, v) :: t =>
    let p := s.writeWord .ring0 a 15 (if m = 0xFFFFFFFF then v else s.maskedWord a m v)
    let i := p.1.itemOf p.2
    if i.1.refused || !p.1.cmdAlive then (p.1, [i.1], i.2)
    else let q := p.1.writeItems t; (q.1, i.1 :: q.2.1, i.2 ++ q.2.2)
/-- The words of a READ or READ_BLOCK, word j at byte 12 + 4j, up to an unmapped one (R337). -/
def State.readItems (s : State) : List Nat → Nat → State × List Item × List Place
  | [], _ => (s, [], [])
  | a :: t, j =>
    let p := s.readWord .ring0 a
    if spotAt a = .unmapped then (p.2, [.done 9], [])
    else let q := p.2.readItems t (j + 1); (q.1, .done 0 :: q.2.1, (12 + 4 * j, 4, p.1) :: q.2.2)
/-- The command at the head of the engine, when it has an opcode and nothing holds it (R335). In keeper mode no command starts
(R393). -/
def State.onCommand (s : State) (op : Nat) (f : Entry → State → State) : State :=
  match s.host.queue with
  | e :: t =>
    if bytesAt e 0 1 = op && !s.fenceWaits && !s.sv.keeper then
      f e { s with host := { s.host with queue := t } }
    else s
  | [] => s
/-- A command that does nothing completes with a status (R336). -/
def State.cmdEnd (s : State) (e : Entry) (status op : Nat) : State := (s.complete (bytesAt e 56 4) status op 0 0xFF []).cmdsFinish
/-- A command is executed: what it does gives its items. -/
def State.cmdRun (s : State) (e : Entry) (f : State → State × List Item × List Place) : State :=
  let seq := bytesAt e 56 4
  let op := bytesAt e 0 1
  let p := f { s with host := { s.host with cmds := s.host.cmds ++ [running seq op] } }
  if p.1.cmdAlive then
    let x : Cmd := { seq := seq, op := op, items := p.2.1, refused := p.2.1.any Item.refused, extra := p.2.2 }
    ({ p.1 with host := { p.1.host with cmds := p.1.host.cmds.map fun y => if y.copy == some (9, 0, 0) then x else y } } : State).cmdsFinish
  else p.1
/-- The items of a WRITE (2 words each) or WRITE_MASKED (3 words each) entry. -/
def entryItems (e : Entry) (n w : Nat) : List (Nat × Nat × Nat) :=
  (List.range n).map fun j =>
    if w = 2 then (bytesAt e (8 + 8 * j) 4, 0xFFFFFFFF, bytesAt e (12 + 8 * j) 4)
    else (bytesAt e (8 + 12 * j) 4, bytesAt e (12 + 12 * j) 4, bytesAt e (16 + 12 * j) 4)
/-- A command that writes (Table 15.7). -/
def State.cmdWrite (s : State) (w most : Nat) (e : Entry) : State :=
  let n := bytesAt e 4 1
  let l := entryItems e n w
  if n = 0 ∨ most < n ∨ l.any (fun x => !offsetOk x.1) then s.cmdEnd e 4 0 else s.cmdRun e fun s => s.writeItems l
/-- A command that reads. -/
def State.cmdRead (s : State) (n : Nat) (l : List Nat) (e : Entry) : State :=
  if n = 0 ∨ 11 < n ∨ l.any (fun a => !offsetOk a) then s.cmdEnd e 4 0 else s.cmdRun e fun s => s.readItems l 0
/-- RECORD_COPY: the copy waits among the commands, and ring 6 writes its entries (R338). -/
def State.cmdCopy (s : State) (e : Entry) : State :=
  let src := bytesAt e 4 1
  let first := bytesAt e 8 4
  let n := bytesAt e 12 2
  if 4 < src ∨ n = 0 ∨ 512 < n ∨ (if src = 0 then 512 else 64) < first + n then s.cmdEnd e 4 0
  else if !s.on (F.RING_CFG_ENABLE 6) then s.cmdEnd e 10 5
  else
    let x : Cmd := { seq := bytesAt e 56 4, op := 5, items := [], copy := some (src, first, n) }
    ({ s with host := { s.host with cmds := s.host.cmds ++ [x] } } : State).cmdsFinish

/-- NOP. -/
def execNop (s : State) : Host.Outcome State Fault Refusal := onHub (fun s => s.onCommand 0 fun e s => s.cmdRun e fun s => (s, [], [])) s
/-- WRITE. -/
def execWrite (s : State) : Host.Outcome State Fault Refusal := onHub (fun s => s.onCommand 1 fun e s => s.cmdWrite 2 6 e) s
/-- WRITE_MASKED. -/
def execWriteMasked (s : State) : Host.Outcome State Fault Refusal := onHub (fun s => s.onCommand 2 fun e s => s.cmdWrite 3 4 e) s
/-- READ. -/
def execRead (s : State) : Host.Outcome State Fault Refusal :=
  onHub (fun s => s.onCommand 3 fun e s => s.cmdRead (bytesAt e 4 1) ((List.range (bytesAt e 4 1)).map fun j => bytesAt e (8 + 4 * j) 4) e) s
/-- READ_BLOCK. -/
def execReadBlock (s : State) : Host.Outcome State Fault Refusal :=
  onHub (fun s => s.onCommand 4 fun e s =>
    s.cmdRead (bytesAt e 4 1) ((List.range (bytesAt e 4 1)).map fun j => bytesAt e 8 4 + 4 * j) e) s
/-- RECORD_COPY. -/
def execRecordCopy (s : State) : Host.Outcome State Fault Refusal := onHub (fun s => s.onCommand 5 fun e s => s.cmdCopy e) s

end Sys2Proof.Machine
end

