-- ==== Sys2Proof/Machine/Supervisor.lean ====
section
/-! DEFINITION. The supervisor port: the start of a frame, its tests, READ, commits and keeper mode (R378 to R397). -/

namespace Sys2Proof.Machine

/-! ### The frame -/

/-- OP of a frame (R380). -/
def SvFrame.op (f : SvFrame) : Nat := f.cmd.toNat % 16
/-- ALIVE. -/
def SvFrame.alive (f : SvFrame) : Nat := f.cmd.toNat / 16
/-- COUNT. -/
def SvFrame.count (f : SvFrame) : Nat := f.addr.toNat / 2 ^ 18 + 1
/-- The word address. -/
def SvFrame.word (f : SvFrame) : Nat := f.addr.toNat % 2 ^ 18
/-- Data word i. -/
def SvFrame.at (f : SvFrame) (i : Nat) : Nat := (f.data.getD i 0).toNat
/-- The data words as numbers. -/
def SvFrame.words (f : SvFrame) : List Nat := (List.range (SvFrame.count f)).map (SvFrame.at f)
/-- A number in n bytes, the most significant first, as the port shifts. -/
def shifted (n v : Nat) : List Byte := (leBytes n v).reverse
/-- CRC_M as it must be (R381). -/
def SvFrame.crcM (f : SvFrame) : Nat :=
  crc16 (shifted 1 f.cmd.toNat ++ shifted 3 f.addr.toNat ++ (if SvFrame.op f = 1 then [] else (SvFrame.words f).flatMap (shifted 4)))
/-- Dummy bits of the frame's opcode (R380). -/
def State.svDummy (s : State) (f : SvFrame) : Nat := if SvFrame.op f = 1 then s.sv.dRd else s.sv.dWr
/-- Whether COUNT, the address and the key of an opcode are as Table 18.2 and R389 have them. -/
def SvFrame.formed (f : SvFrame) : Bool :=
  let one := SvFrame.count f == 1 && SvFrame.word f == 0
  let key := fun k => SvFrame.at f 0 / 2 ^ 16 == k
  match SvFrame.op f with
  | 1 => true
  | 2 => decide (SvFrame.word f + SvFrame.count f ≤ 0x3C000)
  | 3 => one && key 0x5AC3
  | 4 => one && key 0xC35A
  | 5 => one && key 0x3C96
  | 6 => SvFrame.count f == 2 && SvFrame.word f == 0
  | 7 => SvFrame.word f == 0
  | _ => false
/-- Whether an opcode is refused in the present mode, or KEEP asks for an entry that is not enabled (test 5). -/
def State.svRefuses (s : State) (f : SvFrame) : Bool :=
  match SvFrame.op f with
  | 2 => s.sv.keeper
  | 5 => bit (SvFrame.at f 0) 0 && !s.sv.keepEn
  | 6 | 7 => !s.sv.keeper
  | _ => false
/-- ALIVE is that of the last accepted frame. -/
def State.svStale (s : State) (f : SvFrame) : Bool := s.sv.lastAlive == some (SvFrame.alive f)
/-- The first test of Table 18.3 that a frame fails, 0 for none. -/
def State.svJudge (s : State) (f : SvFrame) : Nat :=
  if f.bits ≠ 8 + 24 + s.svDummy f + 32 * SvFrame.count f + 16 then 1
  else if f.crc.toNat ≠ SvFrame.crcM f then 2
  else if s.svStale f then 3
  else if !SvFrame.formed f then 4
  else if s.svRefuses f then 5
  else 0

/-! ### The status word -/

/-- The status word as it stands, with the flags of the frame judged last (R390). -/
def State.svStatus (s : State) (busy : Bool) : Nat :=
  let down := !s.host.dlUp || s.host.fatal || s.isStale 0
  let perGrp := fun p : Grp → Bool => (List.finRange 4).foldl (fun a g => a + (if p g then 2 ^ g.val else 0)) 0
  s.sv.lastAlive.getD 0 * 2 ^ 28 + b2n busy * 2 ^ 27 + s.sv.flags + b2n s.sv.keeper * 2 ^ 19 + s.reg F.SV_KEEP_HOST_REQ * 2 ^ 18 +
    b2n down * 2 ^ 17 + b2n s.svIrq * 2 ^ 16 + s.reg F.SV_TALLY_A_GOOD % 256 * 2 ^ 8 +
    perGrp (fun g => s.on (F.GRP_STATUS_SAFE g)) * 2 ^ 4 + perGrp (fun g => !s.absent g)
/-- SV_CS_N falls: what SV_CFG holds is taken for the frame, and its status word; during a commit the frame is
ignored (R378, R379, R386, R390). -/
def State.svBegin (s : State) (cpol : Bool) : State :=
  let busy := decide (s.tick < s.sv.commit)
  let s1 : State := { s with sv := { s.sv with
    inFrame := true, mute := false, busy := busy, keepEn := s.on F.SV_CFG_KEEPER_EN, cpol := cpol, cpha := s.reg F.SV_CFG_CPHA, dRd := s.reg F.SV_CFG_DUMMY_RD, dWr := s.reg F.SV_CFG_DUMMY_WR
    status := s.svStatus busy } }
  if busy then (s1.tally F.SV_TALLY_C_BUSY).cause .sv 3 else s1
/-- SV_FRAME_START; before CCLK has locked the frame's status word is 0 (R453). -/
def execSvFrameStart (cpol : Bool) (s : State) : Host.Outcome State Fault Refusal :=
  if s.hub.run == .por || s.hub.run == .pllWait then
    .next { s with sv := { s.sv with inFrame := true, mute := true, busy := false, cpol := cpol, status := 0 } }
  else onHub (fun s => if s.sv.inFrame then s else s.svBegin cpol) s

/-! ### READ -/

/-- The end of the region in which a word address lies: BAR0 or Ledger space; 0 for no region (R388). -/
def svRegion (a : Nat) : Nat := if a < 0x3C000 then 0x3C000 else if a < 0x3D400 then 0x3D400 else 0
/-- A word of the window. -/
def State.svWord (s : State) (a : Nat) : Nat × State :=
  if a < 0x3C000 then s.readWord .sv (4 * a) else (s.ldgWord (4 * (a - 0x3C000)), s)
/-- Words read one after the other, to the end of the region of the first (R389). -/
def State.svReadWords (s : State) (a n : Nat) : List Nat × State :=
  (List.range n).foldl (fun p i =>
    if a + i < svRegion a then (let q := p.2.svWord (a + i); (p.1 ++ [q.1], q.2)) else (p.1 ++ [0], p.2)) ([], s)
/-- Data words whose shifting began before SV_CS_N rose. -/
def State.svShifted (s : State) (f : SvFrame) : Nat := min (SvFrame.count f) ((f.bits + 31 - (32 + s.svDummy f)) / 32)
/-- Whether the first word of a READ is not ready at the first data bit: it needs 2 + ⌈36 ns / T_SCK⌉ dummy cycles (R387). -/
def State.svLate (s : State) (f : SvFrame) : Bool := decide (s.sv.dRd < 2 + (35 + f.sck) / f.sck)
/-- What a READ leaves beside what it shifts out: the supervisor's snapshot register alone; open values taken stay taken (R384). -/
def State.svReadKeeps (s after : State) : State := { s with hub := { s.hub with snap := after.hub.snap }, free := after.free }
/-- The data phase of a READ: its words, the flags it earns, and what it leaves. A late first word makes every word read as 0, and the
accesses are made all the same (R384, R387, R389). -/
def State.svReadData (s : State) (f : SvFrame) : List Nat × Nat × State :=
  let n := s.svShifted f
  if SvFrame.op f ≠ 1 ∨ s.svStale f then (List.replicate n 0, 0, s)
  else
    let p := s.svReadWords (SvFrame.word f) n
    let late := s.svLate f
    (if late then List.replicate n 0 else p.1,
      (if late then 2 ^ 21 else 0) + (if svRegion (SvFrame.word f) < SvFrame.word f + n then 2 ^ 22 else 0), s.svReadKeeps p.2)
/-- CRC_S (R381). -/
def State.svCrcS (s : State) (f : SvFrame) (data : List Nat) : Nat :=
  crc16 (shifted 4 s.sv.status ++ shifted 1 f.cmd.toNat ++ shifted 3 f.addr.toNat ++
    (if SvFrame.op f = 1 then data.flatMap (shifted 4) else []))

/-! ### Commits -/

/-- The refusal of a word: REASON and CODE of SV_LAST (Table 18.13). -/
def svReason (a : Nat) : WRes → Option (Nat × Nat)
  | .govRefused _ _ => some (1, match spotAt a with | .word (.ch _) o => if o = 0x20 then 9 else 0 | _ => 0)
  | .modeRefused code _ => some (2, code)
  | .locked => some (3, 0)
  | _ => none
/-- A refusal is recorded, flagged in the next status word, and sets its cause (R383, R385). -/
def State.svRefused (s : State) (word reason code : Nat) : State :=
  let s1 := ((s.setReg F.SV_LAST_WORD word).setReg F.SV_LAST_CODE code).setReg F.SV_LAST_REASON reason
  ({ s1 with sv := { s1.sv with flags := s1.sv.flags ||| 2 ^ 20 } } : State).cause .sv 4
/-- The accesses of a commit, back to back in order, up to a refused one: index of the word, BAR0 offset, value (R385). -/
def State.svWrites (s : State) : List (Nat × Nat × Nat) → State
  | [] => s
  | (i, a, v) :: t =>
    let p := s.writeWord .sv a 15 v
    match svReason a p.2 with
    | some (reason, code) => p.1.svRefused i reason code
    | none => p.1.svWrites t
/-- The groups of a mask. -/
def groupsOf (mask : Nat) : List Grp := (List.finRange 4).filter fun g => mask.testBit g.val
/-- Keeper mode begins (R393). An entry of ring 2 that the Fold has not taken is fetched again when it ends (R395). -/
def State.keeperStart (s : State) : State :=
  let s1 : State := { s with sv := { s.sv with keeper := true }, host := { s.host with head2 := none } }
  let s2 := ((((s1.setReg F.SV_KEEP_ACTIVE 1).setReg F.FOLD_STATUS_FULL_WAIT 0).tally F.SV_KEEP_ENTRIES).cause .sv 6).post
    { code := 0x0A, cls := 1, detail := 1 }
  ((s2.setReg F.FOLD_CTRL_ENABLE 0).cancelSlots (fun _ => true) 6 0).setReg F.RFX_CTRL_ENABLE 0
/-- The channels of a mask whose mode has OUT_CMD (R394). -/
def State.svOutputs (s : State) (mask : Nat) : List Ch :=
  (List.finRange 32).filter fun c => mask.testBit c.val && (s.imgMode c ∈ [1, 2, 9])
/-- What an accepted frame commits (R385, R389, R391 to R395). -/
def State.svCommit (s : State) (f : SvFrame) : State :=
  let w := SvFrame.at f 0
  match SvFrame.op f with
  | 2 => s.svWrites ((List.range (SvFrame.count f)).map fun i => (i, 4 * (SvFrame.word f + i), SvFrame.at f i))
  | 3 => s.svWrites ((groupsOf (w % 16)).map fun g => (0, (U.grp g).at 0x2C, 0x5AC3))
  | 4 => s.svWrites ((groupsOf (w / 2 ^ 8 % 16)).flatMap fun g =>
      [(0, (U.grp g).at 0x24, w % 8), (0, (U.grp g).at 0x84, w / 8 % 2)])
  | 5 => if bit w 0 then s.keeperStart else s.keeperEnd
  | 6 => s.svWrites ((s.svOutputs w).map fun c => (0, (U.ch c).at 0x40, b2n (bit (SvFrame.at f 1) c.val)))
  | 7 =>
    let l := (List.range (SvFrame.count f)).filterMap fun i =>
      let c : Ch := ⟨SvFrame.at f i / 2 ^ 16 % 32, by omega⟩
      if s.imgMode c ∈ [6, 7] then some (i, (U.ch c).at 0xD8, SvFrame.at f i % 2 ^ 16) else none
    s.svWrites l
  | _ => s

/-! ### The end of a frame -/

/-- A frame that failed a test: flagged and counted, and nothing else (R383). -/
def State.svFailed (s : State) (test : Nat) : State :=
  if test = 1 then ((s.tally F.SV_TALLY_B_ABORTED).cause .sv 2)
  else if test = 2 then ((s.tally F.SV_TALLY_A_CRC_ERR).cause .sv 0)
  else if test = 3 then ((s.tally F.SV_TALLY_B_STALE).cause .sv 1)
  else if test = 4 then ((s.tally F.SV_TALLY_C_MALFORMED).cause .sv 8)
  else s.svRefused 0 4 0
/-- The flag of a failed test in the status word. -/
def svFlag (test : Nat) : Nat := if test = 0 ∨ 5 ≤ test then 0 else 2 ^ (27 - test)
/-- SV_CS_N rises: what the frame shifted out, its tests, and its commit (R383 to R386). A frame that was ignored leaves the flags
of the one before it, and SV_STATUS shows BUSY for it. A frame that fails a test changes nothing but what tells of it. -/
def State.svEnd (s : State) (f : SvFrame) : State :=
  let s0 : State := { s with sv := { s.sv with inFrame := false, busy := false } }
  if s.sv.busy then
    let zeros := List.replicate (s.svShifted f) 0
    { s0 with sv := { s0.sv with miso := zeros ++ [s0.svCrcS f zeros] } }.setReg F.SV_STATUS (s.svStatus true)
  else
    let test := s0.svJudge f
    let r := s0.svReadData f
    let left : State := if test = 0 then r.2.2 else { s0 with free := r.2.2.free }
    let told := if bit r.2.1 21 then left.cause .sv 9 else left
    let s1 : State := { told with sv := { told.sv with flags := svFlag test + r.2.1, miso := r.1 ++ [s0.svCrcS f r.1] } }
    let s2 :=
      if test ≠ 0 then s1.svFailed test
      else
        let s3 := ({ s1 with sv := { s1.sv with lastAlive := some (SvFrame.alive f) } } : State).tally F.SV_TALLY_A_GOOD
        if SvFrame.op f = 1 then s3
        else { s3 with sv := { s3.sv with commit := s3.tick + SvFrame.count f + 5 } }
    let s4 := if test = 0 then s2.svCommit f else s2
    s4.setReg F.SV_STATUS (s4.svStatus false)
/-- Whether the frame in progress began before CCLK had locked. -/
def State.svMuted (s : State) : Bool := s.sv.inFrame && s.sv.mute
/-- The end of such a frame: it has been answered with zeros, and commits nothing (R453). -/
def State.svMuteEnd (s : State) (f : SvFrame) : State :=
  let zeros := List.replicate (s.svShifted f) 0
  { s with sv := { s.sv with inFrame := false, mute := false, miso := zeros ++ [s.svCrcS f zeros] } }
/-- The end of a frame of an opcode. -/
def svFrame (op : Nat) (f : SvFrame) (s : State) : Host.Outcome State Fault Refusal :=
  if s.svMuted && SvFrame.op f == op then .next (s.svMuteEnd f)
  else onHub (fun s => if s.sv.inFrame && SvFrame.op f == op then s.svEnd f else s) s
/-- SV_READ. -/
def execSvRead (f : SvFrame) (s : State) : Host.Outcome State Fault Refusal := svFrame 1 f s
/-- SV_WRITE. -/
def execSvWrite (f : SvFrame) (s : State) : Host.Outcome State Fault Refusal := svFrame 2 f s
/-- FEED. -/
def execFeed (f : SvFrame) (s : State) : Host.Outcome State Fault Refusal := svFrame 3 f s
/-- GROUP. -/
def execGroup (f : SvFrame) (s : State) : Host.Outcome State Fault Refusal := svFrame 4 f s
/-- KEEP_ENTER: a KEEP frame with ENTER 1. -/
def execKeepEnter (f : SvFrame) (s : State) : Host.Outcome State Fault Refusal :=
  if bit (SvFrame.at f 0) 0 then svFrame 5 f s else .next s
/-- KEEP_EXIT: a KEEP frame with ENTER 0. -/
def execKeepExit (f : SvFrame) (s : State) : Host.Outcome State Fault Refusal :=
  if bit (SvFrame.at f 0) 0 then .next s else svFrame 5 f s
/-- OUTPUT. -/
def execOutput (f : SvFrame) (s : State) : Host.Outcome State Fault Refusal := svFrame 6 f s
/-- SV_DAC. -/
def execSvDac (f : SvFrame) (s : State) : Host.Outcome State Fault Refusal := svFrame 7 f s
/-- SV_FRAME_REJECTED: a frame of any opcode that fails a test. -/
def execSvFrameRejected (f : SvFrame) (s : State) : Host.Outcome State Fault Refusal :=
  if s.svMuted then .next (s.svMuteEnd f)
  else onHub (fun s => if s.sv.inFrame && s.svJudge f != 0 then s.svEnd f else s) s

end Sys2Proof.Machine
end

