-- ==== Sys2Proof/Machine/Dispatch.lean ====
section
/-! DEFINITION. What each command does: one arm per constructor, each one direct call of the command's meaning. -/

namespace Sys2Proof.Machine

/-- The effect of a command on everything but the queue. -/
def exec (i : Instr) (s : State) : Host.Outcome State Fault Refusal :=
  match i with
  | .registerWrite rq off be v => Sys2Proof.Machine.execRegisterWrite rq off be v s
  | .crossingDelivery => Sys2Proof.Machine.execCrossingDelivery s
  | .pairLowRead rq off => Sys2Proof.Machine.execPairLowRead rq off s
  | .pairHighRead rq off => Sys2Proof.Machine.execPairHighRead rq off s
  | .pairLowWrite rq off be v => Sys2Proof.Machine.execPairLowWrite rq off be v s
  | .pairHighWrite rq off be v => Sys2Proof.Machine.execPairHighWrite rq off be v s
  | .irqCauseWrite rq off be v => Sys2Proof.Machine.execIrqCauseWrite rq off be v s
  | .irqEnableWrite rq off be v => Sys2Proof.Machine.execIrqEnableWrite rq off be v s
  | .lockWrite rq off be v => Sys2Proof.Machine.execLockWrite rq off be v s
  | .govCeilingWrite rq be v => Sys2Proof.Machine.execGovCeilingWrite rq be v s
  | .govVdeclWrite rq be v => Sys2Proof.Machine.execGovVdeclWrite rq be v s
  | .pclkMirrorRefresh => Sys2Proof.Machine.execPclkMirrorRefresh s
  | .mirrorStale m => Sys2Proof.Machine.execMirrorStale m s
  | .xinLost => Sys2Proof.Machine.execXinLost s
  | .pclkLost => Sys2Proof.Machine.execPclkLost s
  | .mclkLost g => Sys2Proof.Machine.execMclkLost g s
  | .gclkLost g => Sys2Proof.Machine.execGclkLost g s
  | .chModeWrite rq c be v => Sys2Proof.Machine.execChModeWrite rq c be v s
  | .parkEnd c clamp => Sys2Proof.Machine.execParkEnd c clamp s
  | .chPermitWrite d rq c be v => Sys2Proof.Machine.execChPermitWrite d rq c be v s
  | .outCmdWrite d rq c be v => Sys2Proof.Machine.execOutCmdWrite d rq c be v s
  | .limitReached x => Sys2Proof.Machine.execLimitReached x s
  | .limitingLeft x => Sys2Proof.Machine.execLimitingLeft x s
  | .limitDwellExpiry c => Sys2Proof.Machine.execLimitDwellExpiry c s
  | .inrushWindowEnd c ma => Sys2Proof.Machine.execInrushWindowEnd c ma s
  | .mean100us c x tj ua mv => Sys2Proof.Machine.execMean100us c x tj ua mv s
  | .olWindowExpiry c => Sys2Proof.Machine.execOlWindowExpiry c s
  | .thermWarn c tj => Sys2Proof.Machine.execThermWarn c tj s
  | .thermalOff c tj => Sys2Proof.Machine.execThermalOff c tj s
  | .thermalReturn c tj => Sys2Proof.Machine.execThermalReturn c tj s
  | .clampEventEnd c e => Sys2Proof.Machine.execClampEventEnd c e s
  | .pairImbalance c => Sys2Proof.Machine.execPairImbalance c s
  | .senseCrossing c d => Sys2Proof.Machine.execSenseCrossing c d s
  | .crossingTimeout c => Sys2Proof.Machine.execCrossingTimeout c s
  | .clearFault d rq c ki clamp => Sys2Proof.Machine.execClearFault d rq c ki clamp s
  | .clearClamp d rq c => Sys2Proof.Machine.execClearClamp d rq c s
  | .clearFuse d rq c => Sys2Proof.Machine.execClearFuse d rq c s
  | .offCheckPhase c high k => Sys2Proof.Machine.execOffCheckPhase c high k s
  | .stuckOn c ki => Sys2Proof.Machine.execStuckOn c ki s
  | .wiredDetect g j k x => Sys2Proof.Machine.execWiredDetect g j k x s
  | .groupShed g cur sum => Sys2Proof.Machine.execGroupShed g cur sum s
  | .ringEntryFetch r e => Sys2Proof.Machine.execRingEntryFetch r e s
  | .entryRefetch r e => Sys2Proof.Machine.execEntryRefetch r e s
  | .schedule => Sys2Proof.Machine.execSchedule s
  | .cancelEntry => Sys2Proof.Machine.execCancelEntry s
  | .slotDue => Sys2Proof.Machine.execSlotDue s
  | .queueRoom g => Sys2Proof.Machine.execQueueRoom g s
  | .foldEnableWrite rq be v => Sys2Proof.Machine.execFoldEnableWrite rq be v s
  | .foldCancelWrite rq be v => Sys2Proof.Machine.execFoldCancelWrite rq be v s
  | .timedOn c => Sys2Proof.Machine.execTimedOn c s
  | .timedOff c => Sys2Proof.Machine.execTimedOff c s
  | .timedPulse c => Sys2Proof.Machine.execTimedPulse c s
  | .pulseEnd c => Sys2Proof.Machine.execPulseEnd c s
  | .timedPwmStart c => Sys2Proof.Machine.execTimedPwmStart c s
  | .timedPwmStop c => Sys2Proof.Machine.execTimedPwmStop c s
  | .timedPwmDuty c => Sys2Proof.Machine.execTimedPwmDuty c s
  | .timedDac c => Sys2Proof.Machine.execTimedDac c s
  | .delay g ok => Sys2Proof.Machine.execDelay g ok s
  | .edgeDoneTimeout c => Sys2Proof.Machine.execEdgeDoneTimeout c s
  | .pwmEdge c => Sys2Proof.Machine.execPwmEdge c s
  | .pwmRunStart d rq c be v => Sys2Proof.Machine.execPwmRunStart d rq c be v s
  | .pwmRunEnd d rq c be v => Sys2Proof.Machine.execPwmRunEnd d rq c be v s
  | .captureSample ks => Sys2Proof.Machine.execCaptureSample ks s
  | .strokeWindowExpiry c => Sys2Proof.Machine.execStrokeWindowExpiry c s
  | .relearn rq c be v => Sys2Proof.Machine.execRelearn rq c be v s
  | .skBaseWrite rq c be v => Sys2Proof.Machine.execSkBaseWrite rq c be v s
  | .skTrendWrite rq c be v => Sys2Proof.Machine.execSkTrendWrite rq c be v s
  | .comparatorChange c mv => Sys2Proof.Machine.execComparatorChange c mv s
  | .edgeQualified c => Sys2Proof.Machine.execEdgeQualified c s
  | .timestamp g ok => Sys2Proof.Machine.execTimestamp g ok s
  | .tally c ok => Sys2Proof.Machine.execTally c ok s
  | .inTallyWrite rq c be v => Sys2Proof.Machine.execInTallyWrite rq c be v s
  | .wireBreakSet g n => Sys2Proof.Machine.execWireBreakSet g n s
  | .wireBreakClear g n => Sys2Proof.Machine.execWireBreakClear g n s
  | .loopShort c => Sys2Proof.Machine.execLoopShort c s
  | .loopSupplyRetry c limit => Sys2Proof.Machine.execLoopSupplyRetry c limit s
  | .inOverload c => Sys2Proof.Machine.execInOverload c s
  | .shuntRetry c limit => Sys2Proof.Machine.execShuntRetry c limit s
  | .loopCheck g n high => Sys2Proof.Machine.execLoopCheck g n high s
  | .anDacWrite d rq c be v => Sys2Proof.Machine.execAnDacWrite d rq c be v s
  | .anClampWrite d rq c be v => Sys2Proof.Machine.execAnClampWrite d rq c be v s
  | .dacRampStep c => Sys2Proof.Machine.execDacRampStep c s
  | .compliance c => Sys2Proof.Machine.execCompliance c s
  | .complianceClear c => Sys2Proof.Machine.execComplianceClear c s
  | .mismatch g n => Sys2Proof.Machine.execMismatch g n s
  | .bufferOverload c set => Sys2Proof.Machine.execBufferOverload c set s
  | .analogHot c => Sys2Proof.Machine.execAnalogHot c s
  | .analogHotClear c => Sys2Proof.Machine.execAnalogHotClear c s
  | .coarseSample ks => Sys2Proof.Machine.execCoarseSample ks s
  | .firOutput ks => Sys2Proof.Machine.execFirOutput ks s
  | .fineSample ks => Sys2Proof.Machine.execFineSample ks s
  | .scCfgWrite rq ks be v => Sys2Proof.Machine.execScCfgWrite rq ks be v s
  | .chainSync rq ks be v => Sys2Proof.Machine.execChainSync rq ks be v s
  | .swapRequest rq ks be v => Sys2Proof.Machine.execSwapRequest rq ks be v s
  | .dcClear rq ks be v => Sys2Proof.Machine.execDcClear rq ks be v s
  | .coefWrite rq off be v => Sys2Proof.Machine.execCoefWrite rq off be v s
  | .winWrite rq ks k be v => Sys2Proof.Machine.execWinWrite rq ks k be v s
  | .urgentCondition g ok => Sys2Proof.Machine.execUrgentCondition g ok s
  | .conditionEvaluate g => Sys2Proof.Machine.execConditionEvaluate g s
  | .reflexCancel => Sys2Proof.Machine.execReflexCancel s
  | .urgentAction g ok => Sys2Proof.Machine.execUrgentAction g ok s
  | .reflexOn c => Sys2Proof.Machine.execReflexOn c s
  | .reflexOff c => Sys2Proof.Machine.execReflexOff c s
  | .reflexPulse c => Sys2Proof.Machine.execReflexPulse c s
  | .reflexPwm c => Sys2Proof.Machine.execReflexPwm c s
  | .rfxArmWrite rq r be v => Sys2Proof.Machine.execRfxArmWrite rq r be v s
  | .armAtCommit rq r be v => Sys2Proof.Machine.execArmAtCommit rq r be v s
  | .ruleLive r => Sys2Proof.Machine.execRuleLive r s
  | .holdoffEnd r => Sys2Proof.Machine.execHoldoffEnd r s
  | .ruleWrite rq r k be v => Sys2Proof.Machine.execRuleWrite rq r k be v s
  | .rateWrite rq be v => Sys2Proof.Machine.execRateWrite rq be v s
  | .slewWrite rq be v => Sys2Proof.Machine.execSlewWrite rq be v s
  | .slewDone => Sys2Proof.Machine.execSlewDone s
  | .stepCommit rq be v => Sys2Proof.Machine.execStepCommit rq be v s
  | .stepApply => Sys2Proof.Machine.execStepApply s
  | .syncInEdge rising => Sys2Proof.Machine.execSyncInEdge rising s
  | .syncOutPulse => Sys2Proof.Machine.execSyncOutPulse s
  | .syncOutEnd => Sys2Proof.Machine.execSyncOutEnd s
  | .portStart rq c be v => Sys2Proof.Machine.execPortStart rq c be v s
  | .portStop rq c be v => Sys2Proof.Machine.execPortStop rq c be v s
  | .admitDevice rq c be v => Sys2Proof.Machine.execAdmitDevice rq c be v s
  | .poweringEnd c => Sys2Proof.Machine.execPoweringEnd c s
  | .wakeUp c => Sys2Proof.Machine.execWakeUp c s
  | .deviceAnswer c com => Sys2Proof.Machine.execDeviceAnswer c com s
  | .page1Inspected c d => Sys2Proof.Machine.execPage1Inspected c d s
  | .preoperateDone c => Sys2Proof.Machine.execPreoperateDone c s
  | .iolCycle c good pd => Sys2Proof.Machine.execIolCycle c good pd s
  | .iolPdWrite d rq c be v => Sys2Proof.Machine.execIolPdWrite d rq c be v s
  | .isduRead => Sys2Proof.Machine.execIsduRead s
  | .isduWrite => Sys2Proof.Machine.execIsduWrite s
  | .powerCycle => Sys2Proof.Machine.execPowerCycle s
  | .powerCycleEnd c => Sys2Proof.Machine.execPowerCycleEnd c s
  | .pdOut => Sys2Proof.Machine.execPdOut s
  | .abort => Sys2Proof.Machine.execAbort s
  | .isduResponse c status err data => Sys2Proof.Machine.execIsduResponse c status err data s
  | .isduTimeout c => Sys2Proof.Machine.execIsduTimeout c s
  | .portEvent c ev => Sys2Proof.Machine.execPortEvent c ev s
  | .driverOverload c => Sys2Proof.Machine.execDriverOverload c s
  | .driverRetry c limit => Sys2Proof.Machine.execDriverRetry c limit s
  | .frameCompose g => Sys2Proof.Machine.execFrameCompose g s
  | .partATaken g check => Sys2Proof.Machine.execPartATaken g check s
  | .partBTaken g check => Sys2Proof.Machine.execPartBTaken g check s
  | .dlWrite g => Sys2Proof.Machine.execDlWrite g s
  | .dlRule g => Sys2Proof.Machine.execDlRule g s
  | .dlAction g => Sys2Proof.Machine.execDlAction g s
  | .dlTime g => Sys2Proof.Machine.execDlTime g s
  | .dlStep g => Sys2Proof.Machine.execDlStep g s
  | .dlIol g => Sys2Proof.Machine.execDlIol g s
  | .endLoad g => Sys2Proof.Machine.execEndLoad g s
  | .controlRelease g => Sys2Proof.Machine.execControlRelease g s
  | .controlRestart g => Sys2Proof.Machine.execControlRestart g s
  | .controlHold g => Sys2Proof.Machine.execControlHold g s
  | .partAck g ok => Sys2Proof.Machine.execPartAck g ok s
  | .actionAck g ok => Sys2Proof.Machine.execActionAck g ok s
  | .urgentRetry g => Sys2Proof.Machine.execUrgentRetry g s
  | .urgentSkip g => Sys2Proof.Machine.execUrgentSkip g s
  | .uplinkFrame g bits e => Sys2Proof.Machine.execUplinkFrame g bits e s
  | .recordResend g k ok => Sys2Proof.Machine.execRecordResend g k ok s
  | .event g ok => Sys2Proof.Machine.execEvent g ok s
  | .iolRecord g ok => Sys2Proof.Machine.execIolRecord g ok s
  | .linkstat g ok => Sys2Proof.Machine.execLinkstat g ok s
  | .ident g id => Sys2Proof.Machine.execIdent g id s
  | .mirror g w => Sys2Proof.Machine.execMirror g w s
  | .refresh g => Sys2Proof.Machine.execRefresh g s
  | .uplinkLock g => Sys2Proof.Machine.execUplinkLock g s
  | .uplinkLost g => Sys2Proof.Machine.execUplinkLost g s
  | .uplinkLostTimeout g => Sys2Proof.Machine.execUplinkLostTimeout g s
  | .watchdogExpiry g => Sys2Proof.Machine.execWatchdogExpiry g s
  | .grpFeed rq g be v => Sys2Proof.Machine.execGrpFeed rq g be v s
  | .forceSafe rq g be v => Sys2Proof.Machine.execForceSafe rq g be v s
  | .unforce rq g be v => Sys2Proof.Machine.execUnforce rq g be v s
  | .release rq g be v => Sys2Proof.Machine.execRelease rq g be v s
  | .restart rq g be v => Sys2Proof.Machine.execRestart rq g be v s
  | .gclkReturn g => Sys2Proof.Machine.execGclkReturn g s
  | .limpHomeBegin g => Sys2Proof.Machine.execLimpHomeBegin g s
  | .limpHomeEnd g => Sys2Proof.Machine.execLimpHomeEnd g s
  | .uvWarnSet g lp hold => Sys2Proof.Machine.execUvWarnSet g lp hold s
  | .uvWarnClear g lp hold => Sys2Proof.Machine.execUvWarnClear g lp hold s
  | .uvLockout g lp hold => Sys2Proof.Machine.execUvLockout g lp hold s
  | .holdupBegin g lp hold => Sys2Proof.Machine.execHoldupBegin g lp hold s
  | .holdupExhausted g lp hold => Sys2Proof.Machine.execHoldupExhausted g lp hold s
  | .holdCapMeasured g uf => Sys2Proof.Machine.execHoldCapMeasured g uf s
  | .lockoutRelease g lp hold => Sys2Proof.Machine.execLockoutRelease g lp hold s
  | .channelRelease c => Sys2Proof.Machine.execChannelRelease c s
  | .supplyAck d rq g be v => Sys2Proof.Machine.execSupplyAck d rq g be v s
  | .ovLockout g lp hold => Sys2Proof.Machine.execOvLockout g lp hold s
  | .clampDisarm c ki => Sys2Proof.Machine.execClampDisarm c ki s
  | .ovClear g lp hold => Sys2Proof.Machine.execOvClear g lp hold s
  | .reverseLplus g lp hold => Sys2Proof.Machine.execReverseLplus g lp hold s
  | .gndfLoss g => Sys2Proof.Machine.execGndfLoss g s
  | .checkResume g => Sys2Proof.Machine.execCheckResume g s
  | .doorbell off data => Sys2Proof.Machine.execDoorbell off data s
  | .ringWbWrite r => Sys2Proof.Machine.execRingWbWrite r s
  | .outboundEntry r => Sys2Proof.Machine.execOutboundEntry r s
  | .ringMessage r => Sys2Proof.Machine.execRingMessage r s
  | .ringEnable rq r be v => Sys2Proof.Machine.execRingEnable rq r be v s
  | .ringDisable rq r be v => Sys2Proof.Machine.execRingDisable rq r be v s
  | .ringResume rq r be v => Sys2Proof.Machine.execRingResume rq r be v s
  | .nop => Sys2Proof.Machine.execNop s
  | .write => Sys2Proof.Machine.execWrite s
  | .writeMasked => Sys2Proof.Machine.execWriteMasked s
  | .read => Sys2Proof.Machine.execRead s
  | .readBlock => Sys2Proof.Machine.execReadBlock s
  | .recordCopy => Sys2Proof.Machine.execRecordCopy s
  | .configWrite off be v => Sys2Proof.Machine.execConfigWrite off be v s
  | .pcieError e => Sys2Proof.Machine.execPcieError e s
  | .linkEvent up speed width => Sys2Proof.Machine.execLinkEvent up speed width s
  | .powerStateChange d3 => Sys2Proof.Machine.execPowerStateChange d3 s
  | .linkDown => Sys2Proof.Machine.execLinkDown s
  | .perstN => Sys2Proof.Machine.execPerstN s
  | .hotReset => Sys2Proof.Machine.execHotReset s
  | .functionLevelReset => Sys2Proof.Machine.execFunctionLevelReset s
  | .rootSoftReset rq be v => Sys2Proof.Machine.execRootSoftReset rq be v s
  | .hubDieResetRequest rq be v => Sys2Proof.Machine.execHubDieResetRequest rq be v s
  | .hubResetEnd => Sys2Proof.Machine.execHubResetEnd s
  | .drvStart k => Sys2Proof.Machine.execDrvStart k s
  | .drvContinue k => Sys2Proof.Machine.execDrvContinue k s
  | .drvStop k rq => Sys2Proof.Machine.execDrvStop k rq s
  | .drvClear rq k => Sys2Proof.Machine.execDrvClear rq k s
  | .recover rq => Sys2Proof.Machine.execRecover rq s
  | .drvCfgWrite rq k w be v => Sys2Proof.Machine.execDrvCfgWrite rq k w be v s
  | .descriptorFetch k bytes => Sys2Proof.Machine.execDescriptorFetch k bytes s
  | .descriptorStart h2d => Sys2Proof.Machine.execDescriptorStart h2d s
  | .descriptorComplete k data => Sys2Proof.Machine.execDescriptorComplete k data s
  | .rescanRead k bytes => Sys2Proof.Machine.execRescanRead k bytes s
  | .busError addr e => Sys2Proof.Machine.execBusError addr e s
  | .blockTest u trailer => Sys2Proof.Machine.execBlockTest u trailer s
  | .ckBindWrite rq u be v => Sys2Proof.Machine.execCkBindWrite rq u be v s
  | .ckRunWrite rq u be v => Sys2Proof.Machine.execCkRunWrite rq u be v s
  | .abandon rq u => Sys2Proof.Machine.execAbandon rq u s
  | .svFrameStart cpol => Sys2Proof.Machine.execSvFrameStart cpol s
  | .svRead f => Sys2Proof.Machine.execSvRead f s
  | .svWrite f => Sys2Proof.Machine.execSvWrite f s
  | .feed f => Sys2Proof.Machine.execFeed f s
  | .group f => Sys2Proof.Machine.execGroup f s
  | .keepEnter f => Sys2Proof.Machine.execKeepEnter f s
  | .keepExit f => Sys2Proof.Machine.execKeepExit f s
  | .output f => Sys2Proof.Machine.execOutput f s
  | .svDac f => Sys2Proof.Machine.execSvDac f s
  | .handbackRequest rq be v => Sys2Proof.Machine.execHandbackRequest rq be v s
  | .bootSequence flash copy0 copy1 => Sys2Proof.Machine.execBootSequence flash copy0 copy1 s
  | .verify rq be v => Sys2Proof.Machine.execVerify rq be v s
  | .verifyDone => Sys2Proof.Machine.execVerifyDone s
  | .activate rq be v => Sys2Proof.Machine.execActivate rq be v s
  | .handover => Sys2Proof.Machine.execHandover s
  | .handoverTimeout => Sys2Proof.Machine.execHandoverTimeout s
  | .fwRestart rq be v => Sys2Proof.Machine.execFwRestart rq be v s
  | .fwStop rq be v => Sys2Proof.Machine.execFwStop rq be v s
  | .fwKick rq be v => Sys2Proof.Machine.execFwKick rq be v s
  | .fwWatchdogExpiry flash copy0 copy1 => Sys2Proof.Machine.execFwWatchdogExpiry flash copy0 copy1 s
  | .ramUncorrectable addr flash copy0 copy1 => Sys2Proof.Machine.execRamUncorrectable addr flash copy0 copy1 s
  | .startTimeout flash copy0 copy1 => Sys2Proof.Machine.execStartTimeout flash copy0 copy1 s
  | .ramDataAccess rq wr => Sys2Proof.Machine.execRamDataAccess rq wr s
  | .tempUpdate t0 t1 t2 t3 => Sys2Proof.Machine.execTempUpdate t0 t1 t2 t3 s
  | .railUpdate rail mv => Sys2Proof.Machine.execRailUpdate rail mv s
  | .processUpdate slack => Sys2Proof.Machine.execProcessUpdate slack s
  | .vidRaiseFw => Sys2Proof.Machine.execVidRaiseFw s
  | .vidRaiseHw => Sys2Proof.Machine.execVidRaiseHw s
  | .vidApply => Sys2Proof.Machine.execVidApply s
  | .vidReqWrite rq be v => Sys2Proof.Machine.execVidReqWrite rq be v s
  | .sequenceA g => Sys2Proof.Machine.execSequenceA g s
  | .sequenceB g => Sys2Proof.Machine.execSequenceB g s
  | .urgentConversion g => Sys2Proof.Machine.execUrgentConversion g s
  | .conversionDone g code => Sys2Proof.Machine.execConversionDone g code s
  | .resMeasurement c uv ma tj dt steady => Sys2Proof.Machine.execResMeasurement c uv ma tj dt steady s
  | .hoursTick => Sys2Proof.Machine.execHoursTick s
  | .hoursWrite rq d b be v => Sys2Proof.Machine.execHoursWrite rq d b be v s
  | .driftUpdate hub grp => Sys2Proof.Machine.execDriftUpdate hub grp s
  | .eyeSweep g up down => Sys2Proof.Machine.execEyeSweep g up down s
  | .baselineWrite item value => Sys2Proof.Machine.execBaselineWrite item value s
  | .reduceWrite rq g hi be v => Sys2Proof.Machine.execReduceWrite rq g hi be v s
  | .retune rq g be v => Sys2Proof.Machine.execRetune rq g be v s
  | .retuneDone g up down eq emph => Sys2Proof.Machine.execRetuneDone g up down eq emph s
  | .ledgerWrite => Sys2Proof.Machine.execLedgerWrite s
  | .ledgerPost rq be v => Sys2Proof.Machine.execLedgerPost rq be v s
  | .unfreeze rq be v => Sys2Proof.Machine.execUnfreeze rq be v s
  | .faultAck rq be v => Sys2Proof.Machine.execFaultAck rq be v s
  | .hourlyCommit g => Sys2Proof.Machine.execHourlyCommit g s
  | .localCommitEnd g => Sys2Proof.Machine.execLocalCommitEnd g s
  | .vauxApplied => Sys2Proof.Machine.execVauxApplied s
  | .vauxLost => Sys2Proof.Machine.execVauxLost s
  | .hubPowerOnReset core => Sys2Proof.Machine.execHubPowerOnReset core s
  | .powerOnResetEnd => Sys2Proof.Machine.execPowerOnResetEnd s
  | .cclkLock => Sys2Proof.Machine.execCclkLock s
  | .phyRailLow => Sys2Proof.Machine.execPhyRailLow s
  | .vddIoFall => Sys2Proof.Machine.execVddIoFall s
  | .boundaryScanReset take => Sys2Proof.Machine.execBoundaryScanReset take s
  | .groupDiePor g => Sys2Proof.Machine.execGroupDiePor g s
  | .mclkLock g => Sys2Proof.Machine.execMclkLock g s
  | .pllLockLoss => Sys2Proof.Machine.execPllLockLoss s
  | .xinReturn => Sys2Proof.Machine.execXinReturn s
  | .hubRailRise => Sys2Proof.Machine.execHubRailRise s
  | .phyRailRise => Sys2Proof.Machine.execPhyRailRise s
  | .perstNRelease => Sys2Proof.Machine.execPerstNRelease s
  | .holdupEnd g lp hold => Sys2Proof.Machine.execHoldupEnd g lp hold s
  | .reverseClear g lp hold => Sys2Proof.Machine.execReverseClear g lp hold s
  | .svFrameRejected f => Sys2Proof.Machine.execSvFrameRejected f s
  | .baselineRunStart => Sys2Proof.Machine.execBaselineRunStart s

end Sys2Proof.Machine
end

