-- ==== Sys2Proof/Machine/Step.lean ====
section
/-! DEFINITION. One step: the command at the front of the queue, or a tick of CCLK when none waits. -/

namespace Sys2Proof.Machine

/-- The copies of machine time of the group dies count on, each on its own clock (R249); a die without a clock counts nothing. -/
def State.diesOn (s : State) : State :=
  { s with dies := (Vector.finRange 4).map fun g =>
      if s.dieOn g then (s.dieOf g).counted g s.clock else s.dieOf g }
/-- 4 ns while no command waits: the group dies count, and the hub die has one tick of CCLK, in which machine time advances while it
runs and what waits for the end of a tick is done; the grid counts every tick of CCLK, a hub die reset or not (R193, log entry 2). -/
def State.idle (s : State) : State :=
  let s1 : State := { s with hub := { s.hub with clock := s.hub.clock + 4 } }.diesOn
  if s1.hubOn then s1.cmpTick.vidTick.tickEnd.drvTick.tickOn
  else if s1.hub.run == .reset && s1.hub.xin then { s1 with hub := { s1.hub with grid := s1.hub.grid + 1 } }
  else s1
/-- One step (log entry 1). -/
def step (s : State) : Host.Outcome State Fault Refusal :=
  match s.pending with
  | [] => .next s.idle
  | c :: rest => exec c { s with pending := rest }
/-- The state with the command of a word put at the front of the queue; the state itself where the word spells none. -/
def State.withFetchWord (s : State) (nbits w : Nat) : State :=
  match decodeTableWord nbits w with
  | some c => { s with pending := c :: s.pending }
  | none => s

end Sys2Proof.Machine
end

