-- ==== Sys2Proof/Safety.lean ====
section
/-! DEFINITION. What counts as a safe run, in the terms that claims use. -/

namespace Sys2Proof.Machine

/-- The canonical form of everything the state keeps as a sparse list: the registers of the hub die, the fields at the group dies,
the hidden mirror copies and the controller RAM. Equal contents are then equal data. -/
structure State.Canon (s : State) : Prop where
  regs : s.regs.wf = true
  die : s.die.wf = true
  hid : s.hid.wf = true
  ram : s.fw.ram.wf = true
/-- An access of a requester comes to the arbiter: the hub die runs, the requester reaches it (R318, R406), and for the host the
crossing holds no other request (R46). -/
def State.arrives (s : State) (rq : Req) : Prop :=
  s.hubOn = true ∧ s.reaches rq = true ∧ (rq = .host → s.host.held = none)
/-- An access of a requester to an offset is served at the arbiter: it comes there, and keeper mode does not shut it out (R393). -/
def State.serves (s : State) (rq : Req) (off : Nat) : Prop := s.arrives rq ∧ s.shutOut rq off = false
/-- The bounds that R196, R199 and R207 state of the fixed filters, whose taps are open (log entry 160): a claim about a response takes them
as a premise. The gain of taps at f cycles per sample is squared; frequencies of the factory set are those of its chain in Hz, for H = 2. -/
def FilterBounds : Prop :=
  let gain2 := fun (h : List Int) (unit : Nat) (f : ℝ) =>
    let part := fun (g : ℝ → ℝ) => (h.zipIdx.map fun p => (p.1 : ℝ) / unit * g (2 * Real.pi * f * p.2)).sum
    part Real.cos ^ 2 + part Real.sin ^ 2
  let dB := fun (x : ℝ) => (10 : ℝ) ^ (x / 10)
  let sinc := [1, 3, 6, 10, 15, 18, 19, 18, 15, 10, 6, 3, 1]
  let half := (List.range 43).map halfTap
  let set0 := (List.range 96).map fun j => sgn 18 (coefDefault (4 * j))
  let proto := (List.range 1024).map fun k => protoTap (k % 64) (k / 64)
  let chain := fun f : ℝ => gain2 sinc 125 (f / 25000000) * gain2 half (2 ^ 30) (f / 5000000) * gain2 half (2 ^ 30) (f / 2500000) *
    gain2 set0 (2 ^ 16) (f / 1250000)
  (∀ f, 0 ≤ f → f ≤ 0.2 → dB (-0.001) ≤ gain2 half (2 ^ 30) f ∧ gain2 half (2 ^ 30) f ≤ dB 0.001) ∧
  (∀ f, 0.3 ≤ f → f ≤ 0.5 → gain2 half (2 ^ 30) f ≤ dB (-65)) ∧
  (∀ f, 0 ≤ f → f ≤ 220000 → dB (-0.05) ≤ chain f ∧ chain f ≤ dB 0.05) ∧
  (∀ f, 312500 ≤ f → f ≤ 625000 → gain2 set0 (2 ^ 16) (f / 1250000) ≤ dB (-70)) ∧
  (∀ f, 0 ≤ f → f ≤ 0.4 → dB (-0.01) ≤ gain2 proto (2 ^ 36) (f / 64) ∧ gain2 proto (2 ^ 36) (f / 64) ≤ dB 0.01) ∧
  ∀ f, 0.6 ≤ f → f ≤ 32 → gain2 proto (2 ^ 36) (f / 64) ≤ dB (-80)
/-- A step goes on: it neither faults nor is refused. -/
def State.goesOn (s : State) : Prop := ∃ t, step s = .next t

end Sys2Proof.Machine
end

