-- ==== Sys2Proof/Certificates/Slice0/Obligations.lean ====
section
/-! DEFINITION. The statements for the provers. -/

open Sys2Proof Sys2Proof.Machine

/-- R241, R244, R245, R250, R251: SLEW_DONE, STEP_APPLY, SYNC_IN_EDGE, SYNC_OUT_PULSE and SYNC_OUT_END complete while the hub die
runs: a slew that is absorbed clears SLEWING and sets its cause; a step is applied in a tick after its commit and moves machine time by
its amount, the tick count and the times of the group dies not; a selected edge is captured less its fixed delay; a pulse begins for its width, and ends after it. -/
def Obligations.MachineTimeCommands : Prop :=
  (∀ s : State, s.hubOn = true → s.reg F.TB_STATUS_SLEWING = 1 → s.hub.slew = 0 →
    ∃ t, exec .slewDone s = .next t ∧ t.reg F.TB_STATUS_SLEWING = 0 ∧ bit (t.reg (F.CAUSE .tb)) 4 = true ∧ t.hub = s.hub) ∧
  (∀ (s : State) (d : Int) (c k n : Nat), s.hubOn = true → s.hub.step = some (d, c, k, n) → n < s.tick → 0 ≤ (s.hub.time : Int) + d * 2 ^ 32 →
    ∃ t, exec .stepApply s = .next t ∧ t.hub.time = ((s.hub.time : Int) + d * 2 ^ 32).toNat % 2 ^ 96 ∧ t.hub.last = (d, s.now) ∧
      t.hub.grid = s.hub.grid ∧ t.dies = s.dies) ∧
  (∀ (s : State) (rising : Bool), s.hubOn = true → s.siSelected rising = true → (∀ k, s.hub.siTick = some k → 25 ≤ s.tick - k) →
    ∃ t, exec (.syncInEdge rising) s = .next t ∧ t.pair F.TB_SI_LO F.TB_SI_HI = s.now - 9 ∧ t.reg F.TB_SI_STATUS_DIR = b2n rising ∧
      t.hub.siTick = some s.tick ∧ t.hub.time = s.hub.time) ∧
  (∀ (s : State) (k : Nat), s.hubOn = true → s.hub.soNext = some k → s.on F.TB_CTRL_SO_EN = true → k ≤ s.now → s.hub.so = none →
    ∃ t, exec .syncOutPulse s = .next t ∧ t.hub.so = some (s.tick + max 1 (s.reg F.TB_SO_WIDTH)) ∧ t.regs = s.regs) ∧
  (∀ (s : State) (k : Nat), s.hubOn = true → s.hub.so = some k → k ≤ s.tick →
    exec .syncOutEnd s = .next { s with hub := { s.hub with so := none } })

/-- R228, R230, R232, R235: CONDITION_EVALUATE, REFLEX_CANCEL, RULE_LIVE and HOLDOFF_END complete while the hub die runs: the head of
the lane is taken in a tick after that of its entry, one in a tick; every slot of a channel with a cancel of an earlier tick is gone, and those cancels with them; a waiting
rule whose instant has come is live, and a rule whose holdoff has lasted HOLDOFF us is live again. -/
def Obligations.ReflexCommands : Prop :=
  (∀ (s : State) (g : Grp) (x : Cond) (l : List Cond), s.hubOn = true → s.rfx.lanes[g.val] = x :: l →
    (s.rfx.evalAt[g.val] ≠ some s.tick → x.tick < s.tick → ∃ t, exec (.conditionEvaluate g) s = .next t ∧
      t.rfx.lanes = s.rfx.lanes.set g.val l ∧ t.rfx.evalAt = s.rfx.evalAt.set g.val (some s.tick)) ∧
    (s.rfx.evalAt[g.val] = some s.tick ∨ s.tick ≤ x.tick → exec (.conditionEvaluate g) s = .next s)) ∧
  (∀ s : State, s.hubOn = true →
    ∃ t, exec .reflexCancel s = .next t ∧ (∀ p, p ∈ t.rfx.cancels ↔ p ∈ s.rfx.cancels ∧ s.tick ≤ p.2.2) ∧ t.links = s.links ∧
      ∀ p ∈ s.rfx.cancels, p.2.2 < s.tick → ∀ x ∈ t.fold.slots, slotOf p.2.1 x = false) ∧
  (∀ (s : State) (r : RuleNo), s.hubOn = true → s.reg (F.RFX_ARM_PHASE r) = 1 →
    s.regOld (F.RFX_ARM_AT_HI r) * 2 ^ 32 + s.regOld (F.RFX_ARM_AT_LO r) ≤ s.now → exec (.ruleLive r) s = .next (s.setReg (F.RFX_ARM_PHASE r) 2)) ∧
  (∀ (s : State) (r : RuleNo), s.hubOn = true → s.reg (F.RFX_ARM_PHASE r) = 3 →
    (s.rfx.fired.lookup r.val).getD 0 + 250 * s.reg (F.RFX_ARM_HOLDOFF r) ≤ s.tick →
    exec (.holdoffEnd r) s = .next (s.setReg (F.RFX_ARM_PHASE r) 2))

/-- R232, R233, R235: when a condition is evaluated with ENABLE 1, every matching rule that was live before the writes of the tick counts its
firing, and stops at the maximum; unless its arming is written in the same tick it goes into holdoff, is disarmed, or stays as it is. A
matching rule in holdoff counts IGNORED instead, and no other rule counts anything. -/
def Obligations.MatchingRulesFire : Prop :=
  ∀ (s t : State) (g : Grp) (x : Cond) (l : List Cond) (r : RuleNo), s.hubOn = true → s.rfx.lanes[g.val] = x :: l →
    s.rfx.evalAt[g.val] ≠ some s.tick → x.tick < s.tick → s.on F.RFX_CTRL_ENABLE = true → exec (.conditionEvaluate g) s = .next t →
    (s.ruleMatches r x = true → s.regOld (F.RFX_ARM_PHASE r) = 2 →
      t.reg (F.RFX_FIRES_FIRES r) = min (s.reg (F.RFX_FIRES_FIRES r) + 1) (2 ^ 16 - 1) % 2 ^ 16 ∧
      (s.written (F.RFX_ARM_ARM r) = true → t.reg (F.RFX_ARM_PHASE r) = s.reg (F.RFX_ARM_PHASE r)) ∧
      (s.written (F.RFX_ARM_ARM r) = false → t.reg (F.RFX_ARM_PHASE r) =
        if s.reg (F.RFX_ARM_ARM r) = 2 then 0 else if s.reg (F.RFX_ARM_HOLDOFF r) = 0 then s.reg (F.RFX_ARM_PHASE r) else 3)) ∧
    (s.ruleMatches r x = true → s.regOld (F.RFX_ARM_PHASE r) = 3 →
      t.reg (F.RFX_FIRES_IGNORED r) = min (s.reg (F.RFX_FIRES_IGNORED r) + 1) (2 ^ 16 - 1) % 2 ^ 16 ∧
      t.reg (F.RFX_ARM_PHASE r) = s.reg (F.RFX_ARM_PHASE r)) ∧
    (s.ruleMatches r x = false ∨ s.regOld (F.RFX_ARM_PHASE r) ≠ 2 ∧ s.regOld (F.RFX_ARM_PHASE r) ≠ 3 →
      t.reg (F.RFX_FIRES_FIRES r) = s.reg (F.RFX_FIRES_FIRES r) ∧ t.reg (F.RFX_FIRES_IGNORED r) = s.reg (F.RFX_FIRES_IGNORED r) ∧
      t.reg (F.RFX_ARM_PHASE r) = s.reg (F.RFX_ARM_PHASE r))

/-- R21, R23, R282, R290, R291, R293, R294, R445: the commands of a group die's safe state, limp-home and clocks complete: an expired
watchdog or a lost GCLKx puts the group into the safe state, the loss of both clocks turns every switch off, and a clock that returns runs
again, with nothing taken of what was on its way; LIMPx is taken as soon as its level changes, and once it has been held for 10 ms limp-home
begins where it is permitted, or ends. -/
def Obligations.SafeStateCommands : Prop :=
  (∀ (s : State) (g : Grp), s.dieOn g = true → (s.dieOf g).intact = true → s.wdPassed g = true →
    ∃ t, exec (.watchdogExpiry g) s = .next t ∧ (t.dieOf g).expired = true ∧ (t.dieOf g).safe = true ∧
      (t.dieOf g).safeCause = if (s.dieOf g).safe then (s.dieOf g).safeCause else 1) ∧
  (∀ (s : State) (g : Grp), s.dieOn g = true → (s.dieOf g).gclk = true →
    ∃ t, exec (.gclkLost g) s = .next t ∧ (t.dieOf g).gclk = false ∧
      ((s.dieOf g).timed = true → (t.dieOf g).safe = true ∧
        (t.dieOf g).safeCause = if (s.dieOf g).safe then (s.dieOf g).safeCause else 3) ∧
      ((s.dieOf g).timed = false → ∀ c, grpOf c = g → (t.ch c).sw = false ∧ (t.ch c).run = none)) ∧
  (∀ (s : State) (g : Grp), (s.dieOf g).powered = true → (s.dieOf g).hold = false →
    exec (.gclkReturn g) s = .next (s.updDie g fun d => { d with gclk := true })) ∧
  (∀ (s : State) (g : Grp), s.dieOn g = true → (s.dieOf g).timed = true →
    ∃ t, exec (.mclkLost g) s = .next t ∧ (t.dieOf g).timed = false ∧ t.die = s.die ∧
      ((s.dieOf g).gclk = true → (∃ r ∈ (t.dieOf g).store, r.code = 0x4A ∧ r.time = s.dieNow g / 2 ^ 10 % 2 ^ 40) ∧
        ((s.dieOf g).safe = false → t.chans = s.chans)) ∧
      ((s.dieOf g).gclk = false → ∀ c, grpOf c = g → (t.ch c).sw = false)) ∧
  (∀ (s : State) (g : Grp), (s.dieOf g).powered = true → (s.dieOf g).hold = false → (s.dieOf g).timed = false →
    ∃ t, exec (.mclkLock g) s = .next t ∧ (t.dieOf g).timed = true ∧ (t.dieOf g).rate = 0 ∧ (t.dieOf g).gotTime = (s.dieOf g).gotTime ∧
      (t.link g).wire = [] ∧ t.die = s.die ∧ ((s.dieOf g).safe = false → t.chans = s.chans)) ∧
  (∀ (s : State) (g : Grp), s.dieOn g = true →
    ∃ t, exec (.limpHomeBegin ⟨g, false⟩) s = .next t ∧ (t.dieOf g).limpPin.1 = (!s.don (F.GRP_LIMP_CTRL_ACTIVE_LOW g)) ∧
      (t.dieOf g).limp = (s.dieOf g).limp ∧ t.chans = s.chans) ∧
  (∀ (s : State) (g : Grp), s.dieOn g = true → s.don (F.GRP_LIMP_CTRL_ENABLE g) = true → s.don (F.GRP_LOCK g) = true →
    s.limpHeld g (!s.don (F.GRP_LIMP_CTRL_ACTIVE_LOW g)) = true →
    ∃ t, exec (.limpHomeBegin ⟨g, true⟩) s = .next t ∧ (t.dieOf g).limpPin.1 = (!s.don (F.GRP_LIMP_CTRL_ACTIVE_LOW g)) ∧
      (t.dieOf g).limpLvl = (!s.don (F.GRP_LIMP_CTRL_ACTIVE_LOW g)) ∧ (t.dieOf g).limp = true) ∧
  (∀ (s : State) (g : Grp), s.dieOn g = true →
    ∃ t, exec (.limpHomeEnd ⟨g, false⟩) s = .next t ∧ (t.dieOf g).limpPin.1 = s.don (F.GRP_LIMP_CTRL_ACTIVE_LOW g) ∧
      (t.dieOf g).limp = (s.dieOf g).limp ∧ t.chans = s.chans) ∧
  (∀ (s : State) (g : Grp), s.dieOn g = true → s.limpHeld g (s.don (F.GRP_LIMP_CTRL_ACTIVE_LOW g)) = true →
    ∃ t, exec (.limpHomeEnd ⟨g, true⟩) s = .next t ∧ (t.dieOf g).limpPin.1 = s.don (F.GRP_LIMP_CTRL_ACTIVE_LOW g) ∧
      (t.dieOf g).limpLvl = s.don (F.GRP_LIMP_CTRL_ACTIVE_LOW g) ∧ (t.dieOf g).limp = false)

/-- R107, R110, R111, R121, R131: SCHEDULE, CANCEL_ENTRY, SLOT_DUE and EDGE_DONE_TIMEOUT complete while the hub die runs. A SCHEDULE
entry that fits is taken and, while ENABLE is 0, every action of it stands in a slot; a CANCEL leaves no held slot of its mask and
range; a due slot with room leaves the Fold; what waits for a measurement that has not come within 50 us
of its gate instant ends, with its notification where one was asked for. -/
def Obligations.FoldCommands : Prop :=
  (∀ (s : State) (e : Entry), s.hubOn = true → s.host.head2 = some e → s.feeds = true → bytesAt e 0 1 = 0x20 → refuseReason e = 0 →
    s.occupancy + entryCount e ≤ 192 →
    ∃ t, exec .schedule s = .next t ∧ t.host.head2 = none ∧ t.reg F.FOLD_STATUS_FULL_WAIT = 0 ∧
      (s.on F.FOLD_CTRL_ENABLE = false →
        ((∀ x ∈ s.fold.slots, x.due = true → s.stranded x = false) → t.occupancy = s.occupancy + entryCount e) ∧ ∀ j, j < entryCount e → ∃ x ∈ t.fold.slots, x.t = bytesAt e (4 + 16 * j) 8 ∧ x.target = bytesAt e (12 + 16 * j) 1 ∧
          x.action = bytesAt e (13 + 16 * j) 1 ∧ x.param = bytesAt e (16 + 16 * j) 4)) ∧
  (∀ (s : State) (e : Entry), s.hubOn = true → s.host.head2 = some e → s.feeds = true → bytesAt e 0 1 = 0x21 → refuseReason e = 0 →
    ∃ t, exec .cancelEntry s = .next t ∧ t.host.head2 = none ∧ t.links = s.links ∧
      ∀ x ∈ t.fold.slots, x.isMark = false → (bytesAt e 4 4).testBit (tgt x.target).val = true →
        ¬(bytesAt e 8 8 ≤ x.t / 4 * 4 ∧ x.t / 4 * 4 ≤ bytesAt e 16 8)) ∧
  (∀ (s : State) (x : Slot), s.hubOn = true → firstSlot s.dueSlots = some x → s.roomFor x = true →
    ∃ t, exec .slotDue s = .next t ∧ x ∉ t.fold.slots ∧
      (x.isMark = false → s.absent (grpOf (tgt x.target)) = false →
        ∃ m, (t.link (grpOf (tgt x.target))).tx = (s.link (grpOf (tgt x.target))).tx ++ [m] ∧
          m.cmd = s.timedCmd x.t x.target x.action x.param)) ∧
  (∀ (s : State) (c : Ch), s.hubOn = true →
    ∃ t, exec (.edgeDoneTimeout c) s = .next t ∧ (∀ w, w ∈ (t.ch c).waits ↔ w ∈ (s.ch c).waits ∧ s.now < w.g + 50000) ∧
      ∀ w, (s.ch c).waits = [w] → w.g + 50000 ≤ s.now → 128 ≤ w.action → s.on (F.RING_CFG_ENABLE 3) = true → s.host.notif.length < 128 →
        ∃ b, t.host.notif = s.host.notif ++ [{ kind := 0x14, body := b }])

/-- R111, R114: after QUEUE_ROOM no due slot of the group still waits while there is room for it; no more than 192 slots were held. -/
def Obligations.QueueRoomDrains : Prop :=
  ∀ (s : State) (g : Grp), s.hubOn = true → s.fold.slots.length ≤ 192 →
    ∃ t, exec (.queueRoom g) s = .next t ∧
      ∀ x ∈ t.fold.slots, x.due = true → grpOf (tgt x.target) = g → t.roomFor x = false

/-- R76, R77, R78, R91, R96, R123: the commands of a channel's current limit, inrush window and gate edges complete while its die's
logic runs: a current at the limit brings Limiting in, and one 5 % below it for 10 us takes it out; the dwell, the inrush window and the
open-load delay end when their time has passed; and a crossing, or none within 50 us, ends its edge. -/
def Obligations.LimitAndEdgeCommands : Prop :=
  ∀ (s : State) (c : Ch), s.dieOn (grpOf c) = true →
    (∀ i, (s.ch c).sw = true → (s.ch c).work ≠ .off → (s.ch c).work ≠ .limiting → (s.ch c).member = false → atLimit i (s.legLimit c) = true →
      ∃ t, exec (.limitReached ⟨c, i⟩) s = .next t ∧ (t.ch c).work = .limiting ∧ (t.ch c).from_ = (s.ch c).work ∧ (t.ch c).sw = true ∧
        t.die = s.die) ∧
    (∀ i, atLimit i (s.legLimit (s.headOf c)) = false → exec (.limitReached ⟨c, i⟩) s = .next s) ∧
    (∀ i : Int, (s.ch c).work = .limiting → 10000 * i ≤ 95 * (107 * (s.legLimit c : Int) + 2000) →
      s.passed (grpOf c) (s.ch c).limAt 10000 = true → ∃ t, exec (.limitingLeft ⟨c, i⟩) s = .next t ∧ t.dies = s.dies ∧
      (t.ch c).work = if (s.ch c).from_ = .inrush ∧ (s.ch c).inrush = false then .on else (s.ch c).from_) ∧
    (∀ n, (s.ch c).dwellAt = some n → s.working c = .limiting → s.passed (grpOf c) n (s.dwellNs c) = true →
      ∃ t, exec (.limitDwellExpiry c) s = .next t ∧ (t.ch c).latFuse = true ∧
      ((s.ch c).latFuse = false → (t.ch c).dwell = true ∧ (s.switchable c = true → (t.ch c).sw = false ∧ (t.ch c).work = .off))) ∧
    (∀ i, (s.ch c).inrush = true →
      s.passed (grpOf c) (s.ch c).inrushAt (inrushWindow (s.dreg (F.OUT_LIMIT_INRUSH_WINDOW c)) * 100000) = true →
      ∃ t, exec (.inrushWindowEnd c i) s = .next t ∧ (t.ch c).inrush = false ∧ t.die = s.die ∧ (t.ch c).olAt = some s.clock) ∧
    (∀ n, (s.ch c).olAt = some n → s.passed (grpOf c) n (max 1 (s.dreg (F.OUT_CFG_OL_WINDOW c)) * 100000) = true →
      exec (.olWindowExpiry c) s = .next (s.updCh c fun k => { k with olOn := true, olAt := none })) ∧
    (∀ (d : Nat) (dir meas : Bool), d ≤ 50000 → (s.ch c).edge = some (dir, meas) →
      ∃ t, exec (.senseCrossing c d) s = .next t ∧ (t.ch c).edge = none ∧
        (t.dieOf (grpOf c)).delayQ = (s.dieOf (grpOf c)).delayQ ++
          if meas then [{ n := chN c, dir := dir, delay := d / 4 * 4, lp := (s.ch c).lpE, cross := s.crossAt c d, slot := (s.ch c).edgeOf }]
          else []) ∧
    ((s.ch c).edge ≠ none → s.passed (grpOf c) (s.ch c).edgeAt 50000 = true → ∃ t, exec (.crossingTimeout c) s = .next t ∧ (t.ch c).edge = none ∧ t.dies = s.dies)

/-- R75, R79, R82, R84 to R89, R100: the commands of a channel's means, temperature and clamp complete while its die's logic runs: the
fuse model and the clamp bucket take their next value, and each threshold latches its protective state. -/
def Obligations.ProtectionCommands : Prop :=
  ∀ (s : State) (c : Ch), s.dieOn (grpOf c) = true →
    (∀ (i i10 tj ua mv : Int) (clamp : Bool), ∃ t, exec (.mean100us c ⟨i, i10, clamp⟩ tj ua mv) s = .next t ∧ (t.ch c).cur = i ∧
      (t.ch c).cur10 = i10 ∧ (t.ch c).tj = tj ∧ t.dreg (F.AN_MEAS_CURRENT c) = min 65535 ua.toNat ∧
      t.dreg (F.AN_MEAS_VOLT c) = min 30000 mv.toNat ∧
      (t.ch c).level = (s.updCh c fun k => { k with clamping := clamp }).levelNext c ∧
      (s.pairHead c = false → (t.ch c).theta = s.thetaNext c i) ∧
      (s.pairHead c = true → chSucc c ≠ c → (t.ch c).theta = s.thetaNext c (i + (s.ch (chSucc c)).cur))) ∧
    (∀ tj : Int, ∃ t, exec (.thermWarn c tj) s = .next t ∧ (t.ch c).tj = tj ∧
      (1200 ≤ tj → t.don (F.OUT_DIAG_THERM_WARN (s.headOf c)) = true) ∧
      (tj < 1200 → (∀ x ∈ s.legs (s.headOf c), (if x = c then tj else (s.ch x).tj) < 1160) → t.don (F.OUT_DIAG_THERM_WARN (s.headOf c)) = false)) ∧
    (∀ tj : Int, 1360 ≤ tj → switchMode (s.ch c).mode = true → ∃ t, exec (.thermalOff c tj) s = .next t ∧
      (t.ch (s.headOf c)).latTherm = true ∧
      ((s.ch (s.headOf c)).latTherm = false → s.switchable (s.headOf c) = true → (t.ch (s.headOf c)).sw = false)) ∧
    (∀ tj : Int, (s.ch (s.headOf c)).latTherm = true →
      (∀ x ∈ s.legs (s.headOf c), (if x = c then tj else (s.ch x).tj) < 1240) →
      ∃ t, exec (.thermalReturn c tj) s = .next t ∧ (t.ch (s.headOf c)).latTherm = false) ∧
    (∀ e : Nat, (s.ch c).clampOff = false ∨ (s.ch c).clampEv = true → ∃ t, exec (.clampEventEnd c e) s = .next t ∧
      (t.ch (s.headOf c)).level = max (-80) ((s.ch (s.headOf c)).level - (e : Rat) / 10) ∧
      t.dreg (F.OUT_BUCKET_LAST_EVENT (s.headOf c)) = min e 0xFFFF ∧
      ((s.ch (s.headOf c)).level - (e : Rat) / 10 ≤ 0 → (t.ch (s.headOf c)).latClamp = true) ∧
      ((if s.pairHead (s.headOf c) then 1600 else 800) < (if s.pairHead (s.headOf c) then (s.ch (s.headOf c)).evE else 0) + e →
        bit (t.ch (s.headOf c)).faults 1 = true ∧ ((s.ch (s.headOf c)).faults = 0 → (t.ch (s.headOf c)).latFault ≠ 0))) ∧
    (∀ n, (s.ch c).imbAt = some n → s.imbalanced c = true → s.passed (grpOf c) n 1000000 = true →
      ∃ t, exec (.pairImbalance c) s = .next t ∧ t.don (F.OUT_DIAG_PAIR_IMBAL c) = true ∧ t.chans = s.chans) ∧
    (∀ i : Int, 50 < i → (s.ch c).clamping = false → (s.ch c).sw = false → switchMode (s.ch c).mode = true →
      s.passed (grpOf c) (s.ch c).edgeAt 20000 = true → ∃ t, exec (.stuckOn c ⟨i, true, false⟩) s = .next t ∧
      bit (t.ch (s.headOf c)).faults 2 = true ∧
      (bit (s.ch (s.headOf c)).faults 2 = false → (t.ch (s.headOf c)).latFault = 2 ∧ t.dreg (F.OUT_FAULT_CAUSE (s.headOf c)) = 2))

/-- R97, R99, R101, R102, R138: the checks of an output and of its group, and the end of a stroke window, complete. -/
def Obligations.DiagnosticCommands : Prop :=
  (∀ (s : State) (c : Ch) (high : Bool) (k : Option CrossSeen), s.dieOn (grpOf c) = true → s.offChecks c = true →
    ∃ t, exec (.offCheckPhase c high k) s = .next t ∧
      ((s.ch c).offHigh = none → (t.ch c).offHigh = some high) ∧
      (∀ on, (s.ch c).offHigh = some on → (t.ch c).offHigh = none ∧ (t.ch c).offPrev = offResult on high)) ∧
  (∀ (s : State) (c k : Ch) (d : Nat), s.dieOn (grpOf c) = true → d ≤ 50000 → (s.ch c).edge = none → s.offChecks c = true →
    s.crossSuspect c = some k →
    ∃ t, exec (.senseCrossing c d) s = .next t ∧ t.chans = s.chans ∧ t.don (F.OUT_DIAG_CROSS_DRIVE c) = true ∧
      t.dreg (F.OUT_DIAG_SUSPECT c) = k.val) ∧
  (∀ (s : State) (g : Grp) (j k : ChN) (i0 i1 : Int), s.dieOn g = true → j ≠ k → 50 ≤ (i1 - i0).natAbs → i0.natAbs < 4 * (i1 - i0).natAbs →
    (s.ch (chOf g j)).sw = true → s.onLately (chOf g j) = true → s.onLately (chOf g k) = true →
    ∃ t, exec (.wiredDetect g j k (i0, i1)) s = .next t ∧ t.don (F.OUT_DIAG_WIRED (chOf g j)) = true ∧
      t.don (F.OUT_DIAG_WIRED (chOf g k)) = true ∧ t.dreg (F.OUT_DIAG_SUSPECT (chOf g j)) = (chOf g k).val ∧
      t.dreg (F.OUT_DIAG_SUSPECT (chOf g k)) = (chOf g j).val) ∧
  (∀ (s : State) (g : Grp) (j k : ChN) (i0 i1 : Int), s.dieOn g = true → ¬(50 ≤ (i1 - i0).natAbs ∧ i0.natAbs < 4 * (i1 - i0).natAbs) →
    s.wiredPair (chOf g j) (chOf g k) = true → ∃ t, exec (.wiredDetect g j k (i0, i1)) s = .next t ∧ t.don (F.OUT_DIAG_WIRED (chOf g j)) = false ∧
      t.don (F.OUT_DIAG_WIRED (chOf g k)) = false) ∧
  (∀ (s : State) (g : Grp) (cur : List Nat) (sum : Nat), s.dieOn g = true →
    ∃ t, exec (.groupShed g cur sum) s = .next t ∧ t.dreg (F.GRP_OUT_SUM g) = min sum 0xFFFF ∧
      (6500 < sum → ∀ c, s.shedPick g cur = some c → (t.ch c).cmdOn = false ∧ (t.ch c).run = none ∧
        (s.switchable c = true → (t.ch c).sw = false))) ∧
  (∀ (s : State) (c : Ch) (w : Stroke) (t0 : Nat), s.hubOn = true → (s.ch c).stroke = some w → w.t0 = some t0 →
    t0 + strokeWindow (s.reg (F.SK_CFG_WINDOW c)) ≤ s.now →
    ∃ t, exec (.strokeWindowExpiry c) s = .next t ∧ (t.ch c).stroke = none ∧ t.die = s.die ∧
      t.reg (F.SK_LAST_RESULT c) = if w.residual then 4 else 3)

/-- R173, R174, R179, R182 to R185: the commands of the analogue loops complete while the channel's die runs: the ramp takes its step,
and each fault flag stands as its check found it. -/
def Obligations.AnalogCommands : Prop :=
  ∀ (s : State) (c : Ch), s.dieOn (grpOf c) = true →
    (s.don (F.AN_STATUS_RAMPING c) = true → s.dacOn c = true → s.dreg (F.AN_CFG_RAMP c) ≠ 0 →
      ∃ t, exec (.dacRampStep c) s = .next t ∧ t.chans = s.chans ∧ t.dreg (F.AN_STATUS_DAC_NOW c) =
        (if s.dreg (F.AN_STATUS_DAC_NOW c) < (s.ch c).dacCmd then
            min (s.ch c).dacCmd (s.dreg (F.AN_STATUS_DAC_NOW c) + s.dreg (F.AN_CFG_RAMP c) * 16)
          else max (s.ch c).dacCmd (s.dreg (F.AN_STATUS_DAC_NOW c) - s.dreg (F.AN_CFG_RAMP c) * 16)) % 2 ^ 16) ∧
    ((s.ch c).mode = 6 → s.dacOn c = true → (s.dieOf (grpOf c)).suspended = false →
      ∃ t, exec (.compliance c) s = .next t ∧ t.don (F.AN_STATUS_COMPLIANCE c) = true ∧
        (s.openNow c = true → t.don (F.AN_STATUS_OPEN c) = true)) ∧
    ((s.dieOf (grpOf c)).suspended = false → ∃ t, exec (.complianceClear c) s = .next t ∧
      t.don (F.AN_STATUS_COMPLIANCE c) = false ∧ t.don (F.AN_STATUS_OPEN c) = false) ∧
    (s.misRuns c = true → s.spanMs c (s.ch c).misAt (s.dreg (F.AN_CFG_MISMATCH_TIME c)) = true →
      ∃ t, exec (.mismatch (grpOf c) (chN c)) s = .next t ∧ t.don (F.AN_STATUS_MISMATCH c) = !s.don (F.AN_STATUS_MISMATCH c) ∧ (t.ch c).misAt = none) ∧
    (∀ set, (s.ch c).mode = 7 → ∃ t, exec (.bufferOverload c set) s = .next t ∧ t.don (F.AN_STATUS_OVERLOAD c) = set ∧
      ∃ n, ∀ x, t.ch x = if x = c then { s.ch c with anNote := n } else s.ch x) ∧
    (analogMode (s.ch c).mode = true → ∃ t, exec (.analogHot c) s = .next t ∧ (t.ch c).anOff = true ∧
      t.don (F.AN_STATUS_HOT c) = true) ∧
    ((s.ch c).anOff = true → ∃ t, exec (.analogHotClear c) s = .next t ∧ (t.ch c).anOff = false ∧ t.don (F.AN_STATUS_HOT c) = false) ∧
    (s.loopOn c = true →
      ∃ t, exec (.loopShort c) s = .next t ∧ (t.ch c).loopOff = true ∧ t.don (F.AN_STATUS_LOOP_SHORT c) = true) ∧
    ((s.ch c).loopOff = true → s.loopFree c = true →
      ∃ t, exec (.loopSupplyRetry c false) s = .next t ∧ (t.ch c).loopOff = false ∧ t.don (F.AN_STATUS_LOOP_SHORT c) = false) ∧
    (s.loopIn c = true → s.don (F.AN_CFG_LOOP_SUPPLY c) = false →
      ∃ t, exec (.inOverload c) s = .next t ∧ (t.ch c).shuntOff = true ∧ t.don (F.AN_STATUS_IN_OVERLOAD c) = true) ∧
    ((s.ch c).shuntOff = true → ∃ t, exec (.shuntRetry c false) s = .next t ∧ (t.ch c).shuntOff = false ∧
      t.don (F.AN_STATUS_IN_OVERLOAD c) = false) ∧
    (∀ high, s.loopRuns c high = true →
      s.spanMs c (if high then (s.ch c).highAt else (s.ch c).lowAt) (s.dreg (F.AN_LOOP_CHECK_TIME c)) = true →
      ∃ t, exec (.loopCheck (grpOf c) (chN c) high) s = .next t ∧ t.don (if high then F.AN_STATUS_OVER c else F.AN_STATUS_UNDER c) =
        !s.don (if high then F.AN_STATUS_OVER c else F.AN_STATUS_UNDER c))

/-- R48, R150 to R152, R157 to R161, R164, R165, R167: the commands of the digital inputs complete: a change of the comparator starts its
wait of F, and one that had lasted its F is qualified first; an edge qualified after it is stamped and counted; a transfer of a new toggle adds the accumulator's count to IN_TALLY
modulo 2^32, in the next tick where IN_TALLY is written in this one; and a wire break shows and ends after its time. -/
def Obligations.InputCommands : Prop :=
  (∀ (s : State) (c : Ch) (mv : Int), s.dieOn (grpOf c) = true → (s.inputOn c || s.sioIn c) = true → (s.ch c).comp ≠ s.compAt c mv →
    ∃ t, exec (.comparatorChange c mv) s = .next t ∧ (t.ch c).comp = s.compAt c mv ∧ (t.ch c).crossT = s.at c / 4 * 4 ∧
      (t.ch c).crossClk = s.clock ∧ (t.ch c).crossF = filterNs (s.dreg (F.IN_FILTER_RANGE c)) (s.dreg (F.IN_FILTER_COUNT c)) ∧
      (s.inputOn c = true → s.filterOver c = true → (t.ch c).valid = true ∧ (t.ch c).qual = (s.ch c).comp) ∧
      (s.inputOn c = false ∨ s.filterOver c = false → (t.ch c).qual = (s.ch c).qual ∧
        (t.dieOf (grpOf c)).evQ = (s.dieOf (grpOf c)).evQ ++
          if s.inputOn c && (s.ch c).valid && (s.ch c).qual == s.compAt c mv then [.event (.glitch (chN c))] else [])) ∧
  (∀ (s : State) (c : Ch) (mv : Int), (s.ch c).comp = s.compAt c mv → exec (.comparatorChange c mv) s = .next s) ∧
  (∀ (s : State) (c : Ch), s.dieOn (grpOf c) = true → s.inputOn c = true → s.filterOver c = true →
    ∃ t, exec (.edgeQualified c) s = .next t ∧ (t.ch c).valid = true ∧ (t.ch c).qual = (s.ch c).comp ∧
      ((s.ch c).valid = true → (s.ch c).comp ≠ (s.ch c).qual → tallySelected (s.dreg (F.IN_CFG_TALLY_EDGE c)) (s.ch c).comp = true →
        (t.ch c).acc = if (s.ch c).acc = 65535 then 65535 else (s.ch c).acc + 1) ∧
      ((s.ch c).valid = true → (s.ch c).comp ≠ (s.ch c).qual → tsSelected (s.dreg (F.IN_CFG_TS_EDGE c)) (s.ch c).comp = true →
        (s.dieOf (grpOf c)).timed = true → (s.ch c).crossOk = true → (s.dieOf (grpOf c)).tsQ.length < 64 →
        (t.dieOf (grpOf c)).tsQ = (s.dieOf (grpOf c)).tsQ ++
          [.timestamp (chN c) (s.ch c).comp (s.ch c).crossE ((s.ch c).crossT % 2 ^ 34)])) ∧
  (∀ (s : State) (c : Ch), s.hubOn = true → s.dieOn (grpOf c) = true → (s.dieOf (grpOf c)).firstAck = true → s.upOn (grpOf c) = true →
    s.laneFor (grpOf c) 1 4 = true → (s.ch c).acc ≠ 0 ∨ (s.ch c).sentA ≠ none → (s.ch c).tallyOk ≠ some (s.ch c).toggle →
    ∃ t, exec (.tally c true) s = .next t ∧ t.die = s.die ∧ (t.ch c).tallyOk = some (s.ch c).toggle ∧ (t.ch c).acc = (s.ch c).acc ∧
      (s.written (F.IN_TALLY c) = false → t.reg (F.IN_TALLY c) = (s.reg (F.IN_TALLY c) + (s.ch c).sentA.getD (s.ch c).acc) % 2 ^ 32) ∧
      (s.written (F.IN_TALLY c) = true → t.regs = s.regs ∧ (c, (s.ch c).sentA.getD (s.ch c).acc) ∈ t.tk.later)) ∧
  (∀ (s : State) (c : Ch), s.dieOn (grpOf c) = true → s.wbRuns c = true → s.don (F.IN_STATUS_WIRE_BREAK c) = false →
    s.spanMs c (s.ch c).wbAt (s.dreg (F.IN_WB_WB_TIME c)) = true →
    ∃ t, exec (.wireBreakSet (grpOf c) (chN c)) s = .next t ∧ t.don (F.IN_STATUS_WIRE_BREAK c) = true ∧ (t.ch c).wbAt = none) ∧
  (∀ (s : State) (c : Ch), s.dieOn (grpOf c) = true → s.wbRuns c = true → s.don (F.IN_STATUS_WIRE_BREAK c) = true →
    s.spanMs c (s.ch c).wbAt 1 = true →
    ∃ t, exec (.wireBreakClear (grpOf c) (chN c)) s = .next t ∧ t.don (F.IN_STATUS_WIRE_BREAK c) = false ∧ (t.ch c).wbAt = none)

/-- R109, R113, R115, R129, R130, R178, R234: the first timed command of a channel whose gate instant has come is carried out once, at a die
whose MCLKx is locked: it leaves the held commands, and unless a reflex action of the same MCLKx period supersedes it a channel with a
switch of its own, or an analogue output, takes what it commands. With no command of its kind due a row changes nothing. -/
def Obligations.TimedCommands : Prop :=
  ∀ (s : State) (c : Ch), s.dieOn (grpOf c) = true → (s.dieOf (grpOf c)).timed = true →
    (∀ p ∈ [(Instr.timedOn c, 1), (.timedOff c, 2), (.timedPulse c, 3), (.timedPwmStart c, 4), (.timedPwmStop c, 5), (.timedPwmDuty c, 6),
        (.timedDac c, 7)],
      ((∀ h ∈ (s.dieOf (grpOf c)).dueHeld (s.at c) (chN c), h.cmd.kind ≠ p.2) → exec p.1 s = .next s) ∧
      ∀ h l, (s.dieOf (grpOf c)).dueHeld (s.at c) (chN c) = h :: l → h.cmd.kind = p.2 →
        ∃ t, exec p.1 s = .next t ∧ (t.dieOf (grpOf c)).held = (s.dieOf (grpOf c)).held.erase h ∧
          ((s.ch c).rfxAt ≠ some ((if h.late then s.at c else h.gate) / 40) → s.switchable c = true →
            (h.cmd.kind = 1 → (t.ch c).cmdOn = true ∧ (t.ch c).cmdRun = none) ∧
            (h.cmd.kind = 2 → (t.ch c).cmdOn = false ∧ (t.ch c).cmdRun = none) ∧
            (∀ n g w off, h.cmd = .pulse n g w off → (t.ch c).cmdOn = true ∧ (h.t + w, h.gateOff) ∈ (t.ch c).pulses) ∧
            ((s.ch c).mode ≠ 9 →
              (∀ n x duty g a b, h.cmd = .pwmStart n x duty g a b →
                (t.ch c).cmdOn = true ∧ (t.ch c).cmdRun = some (x, duty)) ∧
              (∀ n on g d, h.cmd = .pwmStop n on g d → (t.ch c).cmdOn = on ∧ (t.ch c).cmdRun = none) ∧
              ∀ n g duty a b r, h.cmd = .pwmDuty n g duty a b → (s.ch c).run = some r → (s.ch c).pulses = [] → s.free11 c = true →
                (t.ch c).run = some { r with pend := some (if h.info.isSome then h.t else g + a, duty, h.info.map (·.order)) })) ∧
          (∀ n g code, h.cmd = .dac n g code → dacMode (s.ch c).mode = true → (s.ch c).park = none →
            t.dreg (F.AN_DAC_CODE c) = code % 2 ^ 16))

/-- R109, R128 to R130, R231, R233, R234: the off-edges of pulses whose instants have come command off; a PWM run makes its next edge, the
off-edge that ends its peak phase at the instant the peak names, and at a period start takes the duty that holds from there; and the first waiting reflex action on a channel with a switch of its
own is taken from the list and sets the commanded state, when it is the row's. -/
def Obligations.PulsePwmAndReflexActions : Prop :=
  ∀ (s : State) (c : Ch), s.dieOn (grpOf c) = true →
    (∃ t, exec (.pulseEnd c) s = .next t ∧ (∀ p ∈ (t.ch c).pulses, s.at c < p.2) ∧
      ((s.dieOf (grpOf c)).dueHeld (s.at c) (chN c) = [] → (∀ p, p ∈ (t.ch c).pulses ↔ p ∈ (s.ch c).pulses ∧ s.at c < p.2) ∧
        ((∃ p ∈ (s.ch c).pulses, p.2 ≤ s.at c) → s.switchable c = true → (t.ch c).cmdOn = false))) ∧
    (∀ r x, (s.ch c).run = some r → r.next = (false, x) → r.gate (s.ch c).dOn (s.ch c).dOff (false, x) ≤ s.at c →
      ∃ t, exec (.pwmEdge c) s = .next t ∧ ∃ r', (t.ch c).run = some r' ∧ r'.next = r.nextEdge x ∧
        (r.endsPeak x = true → (t.ch c).sw = false ∧ r'.peak = none) ∧
        (r.endsPeak x = false → (t.ch c).sw = (s.ch c).sw ∧ r'.peak = r.peak)) ∧
    (∀ r0 r a x s1, (s.ch c).run = some r0 → r0.next = (true, x) → r0.gate (s.ch c).dOn (s.ch c).dOff (true, x) ≤ s.at c →
      s1 = s.dutiesTo c x → (s1.ch c).run = some r → a = s1.adopt c r x →
      ∃ t, exec (.pwmEdge c) s = .next t ∧ (a.width ≠ 0 → a.peak = none → (t.ch c).sw = true) ∧
        ∃ r', (t.ch c).run = some r' ∧ r'.next =
          if a.width = 0 ∧ (s1.ch c).sw = true ∧ s1.at c < a.gate (s1.ch c).dOn (s1.ch c).dOff (false, x) then (false, x) else a.nextEdge x) ∧
    (∀ a : Act, (s.dieOf (grpOf c)).acts.find? (fun a => a.n == chN c) = some a →
      ∀ p ∈ [(Instr.reflexOn c, 1), (.reflexOff c, 2), (.reflexPulse c, 3), (.reflexPwm c, 4)],
        (a.code ≠ p.2 → exec p.1 s = .next s) ∧
        (a.code = p.2 → ∃ t, exec p.1 s = .next t ∧ (t.dieOf (grpOf c)).acts = (s.dieOf (grpOf c)).acts.erase a ∧
          (s.switchable c = true →
            (a.code = 1 → (t.ch c).cmdOn = true ∧ (t.ch c).cmdRun = none) ∧
            (a.code = 2 → (t.ch c).cmdOn = false ∧ (t.ch c).cmdRun = none) ∧
            (a.code = 3 → (t.ch c).cmdOn = true ∧ (s.at c + a.param / 4 * 4, s.at c + a.param / 4 * 4) ∈ (t.ch c).pulses) ∧
            (a.code = 4 → (s.ch c).mode ≠ 9 → (t.ch c).cmdOn = true ∧ (t.ch c).cmdRun = some (a.param % 2, none)))))

/-- R299 to R313, R61: the conditions of a group's supply complete as they are found: warning, lockout, overvoltage, reversal, hold-up and loss of GNDFx;
each ends when its threshold has been passed back (an overvoltage that ends with L+ at 15.0 V or less leaves the lockout), and the release, a channel's release instant, the end of the suspended checks and the end of
park follow. -/
def Obligations.SupplyCommands : Prop :=
  (∀ (s : State) (g : Grp) (lp : Int) (hold : Nat), s.dieOn g = true →
    (lp < 384 → s.don (F.GRP_SUP_STATUS_UV_WARN g) = false → ∃ t, exec (.uvWarnSet g lp hold) s = .next t ∧
      t.don (F.GRP_SUP_STATUS_UV_WARN g) = true ∧ t.dreg (F.GRP_SUP_STATUS_LPX g) = unsgn 12 lp ∧ t.chans = s.chans) ∧
    (394 < lp → s.don (F.GRP_SUP_STATUS_UV_WARN g) = true → ∃ t, exec (.uvWarnClear g lp hold) s = .next t ∧
      t.don (F.GRP_SUP_STATUS_UV_WARN g) = false ∧ t.dreg (F.GRP_SUP_STATUS_LPX g) = unsgn 12 lp ∧ t.chans = s.chans) ∧
    (lp < 260 → s.don (F.GRP_SUP_STATUS_LOCKOUT g) = false → ∃ t, exec (.uvLockout g lp hold) s = .next t ∧
      t.don (F.GRP_SUP_STATUS_LOCKOUT g) = true ∧ (t.dieOf g).uv = true ∧ (t.dieOf g).suspended = true ∧
      ∀ c, grpOf c = g → s.switchable c = true → (t.ch c).sw = false) ∧
    (660 < lp → (s.dieOf g).ov = false → ∃ t, exec (.ovLockout g lp hold) s = .next t ∧
      t.don (F.GRP_SUP_STATUS_OVERVOLTAGE g) = true ∧ (t.dieOf g).ov = true ∧ (t.dieOf g).suspended = true ∧
      ∀ c, grpOf c = g → s.switchable c = true → (t.ch c).sw = false) ∧
    (lp < -40 → (s.dieOf g).rev = false → ∃ t, exec (.reverseLplus g lp hold) s = .next t ∧
      t.don (F.GRP_SUP_STATUS_REVERSE g) = true ∧ (t.dieOf g).rev = true ∧ (t.dieOf g).uv = true ∧
      ∀ c, grpOf c = g → s.switchable c = true → (t.ch c).sw = false) ∧
    (lp ≤ hold + 12 → ∃ t, exec (.holdupBegin g lp hold) s = .next t ∧ t.don (F.GRP_SUP_STATUS_HOLDUP g) = true ∧ t.dies = s.dies) ∧
    ((hold : Int) + 12 < lp → ∃ t, exec (.holdupEnd g lp hold) s = .next t ∧ t.don (F.GRP_SUP_STATUS_HOLDUP g) = false ∧
      t.dies = s.dies) ∧
    (hold < 184 → lp ≤ hold → (s.dieOf g).detach = 0 → ∃ t, exec (.holdupExhausted g lp hold) s = .next t ∧
      (t.dieOf g).detach = (if (s.dieOf g).rev then 2 else 1) ∧ (t.dieOf g).commit = false ∧ ∀ c, grpOf c = g → (t.ch c).sw = false) ∧
    (∀ uf, ∃ t, exec (.holdCapMeasured g uf) s = .next t ∧ t.don (F.GRP_SUP_STATUS_HOLD_LOW g) = decide (uf < 200) ∧
      t.chans = s.chans) ∧
    (∃ t, exec (.gndfLoss g) s = .next t ∧ (t.dieOf g).hold = true ∧ t.die = s.die ∧ ∀ c, grpOf c = g → (t.ch c).sw = false) ∧
    (∀ (c : Ch) (i : Int), grpOf c = g → (s.dieOf g).ov = true → i.natAbs < 20 →
      exec (.clampDisarm c i) s = .next (s.updCh c fun k => { k with clampOff := true, clampEv := true }))) ∧
  (∀ (s : State) (g : Grp) (lp : Int) (hold : Nat), s.dieOn g = true →
    (300 < lp → (s.dieOf g).uv = true → (s.dieOf g).ov = false → (s.dieOf g).rev = false →
      ∃ t, exec (.lockoutRelease g lp hold) s = .next t ∧ (t.dieOf g).uv = false ∧ t.don (F.GRP_SUP_STATUS_LOCKOUT g) = false ∧
        (s.don (F.GRP_SUP_CFG_RESTORE g) = false → (t.dieOf g).rel = (List.finRange 8).map fun n => (n, s.clock)) ∧
        (s.don (F.GRP_SUP_CFG_RESTORE g) = true → (t.dieOf g).await = true ∧ t.don (F.GRP_SUP_STATUS_AWAIT_ACK g) = true)) ∧
    (lp < 620 → (s.dieOf g).ov = true → ∃ t, exec (.ovClear g lp hold) s = .next t ∧ (t.dieOf g).ov = false ∧
      t.don (F.GRP_SUP_STATUS_OVERVOLTAGE g) = false ∧ (∀ c, grpOf c = g → (t.ch c).clampOff = false) ∧
      (lp ≤ 300 → (s.dieOf g).rev = false → (t.dieOf g).uv = true)) ∧
    (0 < lp → (s.dieOf g).rev = true → ∃ t, exec (.reverseClear g lp hold) s = .next t ∧ (t.dieOf g).rev = false ∧
      t.don (F.GRP_SUP_STATUS_REVERSE g) = false) ∧
    ((s.dieOf g).locked = false → exec (.checkResume g) s = .next (s.updDie g fun d => { d with suspended := false }))) ∧
  (∀ (s : State) (c : Ch) (n : Nat), s.dieOn (grpOf c) = true → (chN c, n) ∈ (s.dieOf (grpOf c)).rel →
    s.passed (grpOf c) n ((chN c).val * 50000) = true →
    ∃ t, exec (.channelRelease c) s = .next t ∧ (t.dieOf (grpOf c)).rel = (s.dieOf (grpOf c)).rel.filter fun x => x.1 != chN c) ∧
  (∀ (s : State) (c : Ch) (p : Park), s.dieOn (grpOf c) = true → (s.ch c).park = some p → p.load = false → p.member = false →
    (s.ch c).member = false → (s.ch c).clamping = false → (p.mode = 2 ∨ (s.ch c).mode = 2 → (s.ch (chSucc c)).clamping = false) →
    s.passed (grpOf c) p.since 100000 = true →
    ∃ t, exec (.parkEnd c false) s = .next t ∧ (t.ch c).mode = p.mode ∧ (t.ch c).park = none ∧ (t.ch c).cmdRun = none ∧
      (p.mode = 2 → (t.ch (chSucc c)).park = none))

/-- R272 to R274, R276, R277, R279, R281: the hub die's end of a Staed link completes its commands while the hub die runs: a frame that may
start takes the next ALIVE and goes out as its two parts, and otherwise none goes; a good acknowledgement ends what it covers, and an
urgent word is sent again or given up. -/
def Obligations.HubLinkCommands : Prop :=
  ∀ (s : State) (g : Grp), s.hubOn = true →
    ((s.link g).startsAt g (s.tick + 10) = false → exec (.frameCompose g) s = .next s) ∧
    ((s.link g).startsAt g (s.tick + 10) = true →
      ∃ t, exec (.frameCompose g) s = .next t ∧ (t.link g).alive = ((s.link g).alive + 1) % 16 ∧
        (t.link g).endT = s.tick + 10 + (if s.tick + 10 = gridBefore g (s.tick + 10) then 250 else 200) ∧
        (s.dieOn g = true → (s.dieOf g).timed = true → ∃ a b, (t.link g).wire = (s.link g).wire ++ [a, b] ∧ a.isB = false ∧ b.isB = true ∧
          a.alive = ((s.link g).alive + 1) % 16 ∧ b.alive = a.alive ∧ a.epoch = s.on F.TB_STATUS_EPOCH ∧
          a.safe = s.on (F.GRP_STATUS_FORCED g) ∧ a.at_ = s.clock + 40 ∧
          a.fed = (!(s.link g).fedHold && (s.on (F.GRP_WD_AUTO g) || (s.link g).fedPend)))) ∧
    (∀ alive isB l, s.dieOn g = true → takeUrg UrgUp.isPart (s.dieOf g).urgUp = (some (.partAck alive isB true), l) → s.upOn g = true →
      (s.dieOf g).urgCnt < 3 →
      ∃ t, exec (.partAck g true) s = .next t ∧ (t.dieOf g).urgUp = l ∧
        ∀ p ∈ (t.link g).flight, ¬(p.alive = alive ∧ p.isB = isB)) ∧
    (∀ q r l, s.dieOn g = true → takeUrg UrgUp.isAct (s.dieOf g).urgUp = (some (.actAck q r), l) → s.upOn g = true →
      (s.dieOf g).urgCnt < 3 → (∃ n b, (q, r, n, b) ∈ (s.link g).urgOut) →
      ∃ t, exec (.actionAck g true) s = .next t ∧ (t.dieOf g).urgUp = l ∧
        ((s.link g).urgQ = [] → (t.link g).urgOut = (s.link g).urgOut.filter fun x => x.1 != q)) ∧
    (∀ q r n b, leastSent (s.link g).urgOut = some (q, r, n, b) → n < 4 → s.grpState g ≠ 4 →
      ∃ t, exec (.urgentRetry g) s = .next t ∧ (t.link g).endT = max (s.link g).endT (symbolAt g s.tick) + 20 ∧
        (t.link g).urgOut = (s.link g).urgOut.map fun x => if x.1 = q then (q, r, n + 1, b || n == 2) else x) ∧
    (∀ q r n b, leastSent (s.link g).urgOut = some (q, r, n, b) → 4 ≤ n →
      ∃ t, exec (.urgentRetry g) s = .next t ∧
        t.reg (F.GRP_LINK_B_LOST g) = min (s.reg (F.GRP_LINK_B_LOST g) + 1) (2 ^ 16 - 1) % 2 ^ 16)

/-- R246, R249, R272 to R275, R277, R279, R281: the group die's end of a Staed link completes: a part that has come is acknowledged as its
CRC finds it, a good part A gives its header and a good part B its acknowledgements, and an urgent word is acknowledged. -/
def Obligations.DieLinkCommands : Prop :=
  ∀ (s : State) (g : Grp), s.dieOn g = true →
    (∀ check p l, (s.dieOf g).timed = true → (s.link g).wire = p :: l → p.isB = false → p.due ≤ s.clock →
      ∃ t, exec (.partATaken g check) s = .next t ∧ (t.link g).wire = l ∧
      .partAck p.alive false (check == some (BitVec.ofNat 16 (crc16 p.bytes))) ∈ (t.dieOf g).urgUp ∧
      (check = some (BitVec.ofNat 16 (crc16 p.bytes)) →
        (t.dieOf g).lastAlive = some p.alive ∧ (t.dieOf g).hdr = p.epoch ∧ (t.dieOf g).forced = p.safe) ∧
      (check ≠ some (BitVec.ofNat 16 (crc16 p.bytes)) →
        (t.dieOf g).downErr = min 0xFFFF ((s.dieOf g).downErr + 1) ∧ (t.dieOf g).inbox = (s.dieOf g).inbox)) ∧
    (∀ check p l, (s.dieOf g).timed = true → (s.link g).wire = p :: l → p.isB = true → p.due ≤ s.clock →
      ∃ t, exec (.partBTaken g check) s = .next t ∧ (t.link g).wire = l ∧
      .partAck p.alive true (check == some (BitVec.ofNat 16 (crc16 p.bytes))) ∈ (t.dieOf g).urgUp ∧
      (check = some (BitVec.ofNat 16 (crc16 p.bytes)) → (t.dieOf g).firstAck = true ∧ (t.dieOf g).rate = 2 * p.rate)) ∧
    (∀ q r l, (s.dieOf g).timed = true → (s.link g).urgWire = (q, r) :: l → q = (s.dieOf g).urgExp →
      ∃ t, exec (.urgentAction g true) s = .next t ∧ (t.link g).urgWire = l ∧ .actAck q r ∈ (t.dieOf g).urgUp) ∧
    (∀ q r, s.hubOn = true → (s.dieOf g).urgHeld = some (q, r) → ∃ t, exec (.urgentSkip g) s = .next t ∧ (t.dieOf g).urgHeld = none ∧
      (t.dieOf g).urgExp = (q + 1) % 4 ∧ .actAck q r ∈ (t.dieOf g).urgUp) ∧
    (∀ x l r code n param, (s.dieOf g).inbox = x :: l → x.cmd = .rule r code n param → ∃ t, exec (.dlRule g) s = .next t ∧
      ∀ e, e ∈ (t.dieOf g).table ↔ e = (r, code, n, param) ∨ e ∈ (s.dieOf g).table ∧ e.1 ≠ r) ∧
    (∀ x l n code q param, (s.dieOf g).inbox = x :: l → x.cmd = .action n code q param → ∃ t, exec (.dlAction g) s = .next t ∧
      (t.dieOf g).acts = (s.dieOf g).acts ++ [{ n := n, code := code, param := param }]) ∧
    (∀ x l v, (s.dieOf g).inbox = x :: l → x.cmd = .time v → ∃ t, exec (.dlTime g) s = .next t ∧
      t.dieNow g = (v + (s.clock - (s.dieOf g).timeAt)) % 2 ^ 64 ∧ (t.dieOf g).gotTime = true ∧ (t.dieOf g).epoch = (s.dieOf g).hdr) ∧
    (∀ x l d rel, (s.dieOf g).inbox = x :: l → x.cmd = .step d rel → (s.dieOf g).epoch ≠ (s.dieOf g).hdr →
      ∃ t, exec (.dlStep g) s = .next t ∧ (t.dieOf g).time = (((s.dieOf g).time : Int) + d * 2 ^ 32).toNat % 2 ^ 96 ∧
        (t.dieOf g).epoch = (s.dieOf g).hdr) ∧
    (∀ x l n q o, (s.dieOf g).inbox = x :: l → x.cmd = .iol n q o → ∃ t, exec (.dlIol g) s = .next t ∧
      (t.ch (chOf g n)).port.odOut = o ∧ t.die = s.die)

/-- R15: a WRITE that stands next at a group die is carried out there: every RW and RWL field of its word takes its bits. -/
def Obligations.WrittenWordStandsAtDie : Prop :=
  ∀ (s : State) (g : Grp) (x : TxCmd) (l : List TxCmd) (w v : Nat), s.dieOn g = true → (s.dieOf g).clearNext = false →
    (s.dieOf g).inbox = x :: l → x.cmd = .write w v →
    ∃ t, exec (.dlWrite g) s = .next t ∧
      ∀ r ∈ layout (grpUnit g (4 * w)).1, r.off = (grpUnit g (4 * w)).2 → r.acc = .rw ∨ r.acc = .rwl →
        ((∃ c, (grpUnit g (4 * w)).1 = .ch c) → r.off ≠ 0x28 ∧ r.off ≠ 0xD8 ∧ r.off ≠ 0xEC) →
        t.dreg ⟨(grpUnit g (4 * w)).1, r.off, r.lo, r.w, r.dflt⟩ = v / 2 ^ r.lo % 2 ^ r.w

/-- R284, R285, R291, R296, R461: the CONTROL commands of a group die complete, and its restart and its power-on reset leave every register of the
group at the die at its reset value but the housekeeping words of R430, which the power-on reset of the hub die alone resets (log entry 195);
of the hub die's registers a power-on reset changes only the count of lost urgent words, unless it ends a stroke window. -/
def Obligations.DieControlCommands : Prop :=
  (∀ (s : State) (g : Grp) (x : TxCmd) (l : List TxCmd) (q : Nat), s.dieOn g = true → (s.dieOf g).inbox = x :: l →
    (x.cmd = .control 1 q → ∃ t, exec (.endLoad g) s = .next t ∧ (t.dieOf g).intact = true ∧ (t.dieOf g).loading = false ∧
      (t.dieOf g).expired = false ∧ (t.dieOf g).loadedOnce = true) ∧
    (x.cmd = .control 2 q → (s.dieOf g).safe = true → (s.dieOf g).causeHolds = false → ∃ t, exec (.controlRelease g) s = .next t ∧
      (t.dieOf g).safe = false ∧ (t.dieOf g).safeCause = 0) ∧
    (x.cmd = .control 3 q → ∃ t, exec (.controlRestart g) s = .next t ∧ (t.dieOf g).powered = true ∧ (t.dieOf g).intact = false ∧
      (t.dieOf g).firstAck = false ∧ (t.dieOf g).held = [] ∧
      ∀ f, f.unit.grpOf = some g → t.dreg f = if hkKept f then s.dreg f else f.dflt) ∧
    (x.cmd = .control 4 q → ∃ t, exec (.controlHold g) s = .next t ∧
      ∀ c, grpOf c = g → (t.ch c).mode = 0 ∧ (t.ch c).park = none ∧ (t.ch c).cmdOn = false)) ∧
  (∀ (s : State) (g : Grp), ∃ t, exec (.groupDiePor g) s = .next t ∧ (t.dieOf g).powered = true ∧ (t.dieOf g).hold = false ∧
    (t.dieOf g).intact = false ∧ (∀ f, f.unit.grpOf = some g → t.dreg f = if hkKept f then s.dreg f else f.dflt) ∧
    (∀ f, f.unit.grpOf ≠ some g → t.dreg f = s.dreg f) ∧
    ((∀ c, grpOf c = g → (s.ch c).stroke = none) → ∀ f, f ≠ F.GRP_LINK_B_LOST g → t.reg f = s.reg f))

/-- R44, R276: MIRROR fills the hidden copy from the die, REFRESH replaces the visible copy whole once every changed word has been sent, and a
mirror past its limit shows STALE. -/
def Obligations.MirrorCommands : Prop :=
  (∀ (s : State) (g : Grp) (w : Nat), s.hubOn = true → s.dieOn g = true → s.mirrorOn g = true → s.laneFor g 5 6 = true →
    ∃ t, exec (.mirror g w) s = .next t ∧ t.regs = s.regs ∧
      ∀ f ∈ mirrorFlds (grpUnit g (4 * w)).1 (grpUnit g (4 * w)).2, t.hid.get f = t.dreg f % 2 ^ f.w) ∧
  (∀ (s : State) (g : Grp), s.hubOn = true → s.dieOn g = true → s.mirrorOn g = true → s.laneFor g 5 1 = true → s.mirrorSent g = true →
    ∃ t, exec (.refresh g) s = .next t ∧ t.die = s.die ∧ t.hid = s.hid ∧ t.hub.fresh[(mirrorOf g).val] = some s.tick ∧
      ∀ f ∈ mirrorAll g, t.reg f = s.hid.get f % 2 ^ f.w) ∧
  (∀ (s : State) (m : Fin 5), s.hubOn = true → s.on (staleFld m) = false → s.isStale m = true →
    ∃ t, exec (.mirrorStale m) s = .next t ∧ t.reg (staleFld m) = 1)

/-- R124, R159, R229, R276: what a group die sends reaches the hub die: a reliable record is sent with the next sequence, kept, and taken
when it is the next one; a timestamp gives IN_LAST, on-request octets their port, a measured delay its register and an urgent
word its lane. Each takes its bytes of the status lane. -/
def Obligations.UpLinkRecordCommands : Prop :=
  ∀ (s : State) (g : Grp), s.hubOn = true → s.dieOn g = true → s.upOn g = true →
    (∀ ok r l, (s.dieOf g).firstAck = true → (s.dieOf g).tsQ = r :: l → s.laneFor g 2 r.size = true → ∃ t, exec (.timestamp g ok) s = .next t ∧
      (t.dieOf g).tsQ = l ∧ (t.dieOf g).sent = (s.dieOf g).sent ++ [((s.dieOf g).seq, s.clock, r)] ∧ (t.dieOf g).seq = ((s.dieOf g).seq + 1) % 256 ∧
      ∀ n rising epoch x i, ok = true → (s.link g).recSeq = none → r = .timestamp n rising epoch x → s.stampInstant epoch x = some i →
        t.reg (F.IN_LAST_HI (chOf g n)) = i / 2 ^ 32 % 2 ^ 32 ∧ t.reg (F.IN_LAST_LO_INSTANT (chOf g n)) = i / 4 % 2 ^ 30 ∧
        t.reg (F.IN_LAST_LO_DIR (chOf g n)) = b2n rising) ∧
    (∀ ok r l, (s.dieOf g).firstAck = true → (s.dieOf g).evQ = r :: l → s.laneFor g 3 r.size = true → ∃ t, exec (.event g ok) s = .next t ∧
      (t.dieOf g).evQ = l ∧ (t.dieOf g).sent = (s.dieOf g).sent ++ [((s.dieOf g).seq, s.clock, r)] ∧ (t.dieOf g).seq = ((s.dieOf g).seq + 1) % 256 ∧
      (ok = true → (s.link g).recSeq = none ∨ (s.link g).recSeq = some (((s.dieOf g).seq + 255) % 256) →
        (t.link g).recSeq = some (s.dieOf g).seq) ∧
      ∀ n, ok = true → (s.link g).recSeq = none → r = .event (.tallyOvf n) → t.reg (F.IN_STATUS_TALLY_OVF (chOf g n)) = 1) ∧
    (∀ ok r l, (s.dieOf g).firstAck = true → (s.dieOf g).iolQ = r :: l → s.laneFor g 4 r.size = true → ∃ t, exec (.iolRecord g ok) s = .next t ∧
      (t.dieOf g).iolQ = l ∧ (t.dieOf g).sent = (s.dieOf g).sent ++ [((s.dieOf g).seq, s.clock, r)] ∧
      ∀ n o, ok = true → (s.link g).recSeq = none → r = .iol n o → (t.ch (chOf g n)).port.odIn = o) ∧
    (∀ k q u r, (s.dieOf g).sent[k]? = some (q, u, r) → (s.link g).recSeq = some ((q + 255) % 256) → s.passed g u 2000 = true →
      s.laneFor g r.rank r.size = true → ∃ t, exec (.recordResend g k true) s = .next t ∧ (t.link g).recSeq = some q ∧
        (t.dieOf g).sent = (s.dieOf g).sent.set k (q, s.clock, r)) ∧
    (∀ x l, (s.dieOf g).delayQ = x :: l → s.laneFor g 0 5 = true → ∃ t, exec (.delay g true) s = .next t ∧ (t.dieOf g).delayQ = l ∧
      t.reg (if x.dir then F.TO_DELAY_ON_LAST (chOf g x.n) else F.TO_DELAY_OFF_LAST (chOf g x.n)) = min x.delay (2 ^ 16 - 1)) ∧
    (∀ n code k l, takeUrg UrgUp.isCond (s.dieOf g).urgUp = (some (.cond n code k), l) → (s.dieOf g).urgCnt < 3 →
      ∃ t, exec (.urgentCondition g true) s = .next t ∧
      (t.dieOf g).urgUp = l ∧ (s.on F.RFX_CTRL_ENABLE = true → s.rfx.lanes[g.val].length < 32 →
        t.rfx.lanes[g.val] = queueCond { urgCond (chOf g n) code with tick := s.tick } s.rfx.lanes[g.val]))

/-- R276, R278, R283 to R286: the commands of an up-link's frames, loss, attach and status complete, and the group's STATE is as Table 13.6
has it. -/
def Obligations.AttachAndLossCommands : Prop :=
  ∀ (s : State) (g : Grp), s.hubOn = true →
    (s.grpState g ≠ 0 → s.grpState g ≠ 4 → ∃ t, exec (.uplinkLost g) s = .next t ∧
      t.grpState g = (if absentState (s.grpState g) then 0 else 4) ∧ t.reg (F.GRP_SUP_LAST_CAUSE g) = 3) ∧
    (s.grpState g = 4 → ∃ t, exec (.uplinkLostTimeout g) s = .next t ∧ t.grpState g = 0) ∧
    (s.dieOn g = true → s.grpState g = 0 ∨ s.grpState g = 4 → ∃ t, exec (.uplinkLock g) s = .next t ∧ t.grpState g = 1) ∧
    (∀ bits lane, s.dieOn g = true → s.upOn g = true →
      ∃ t, exec (.uplinkFrame g bits ⟨lane, some (BitVec.ofNat 16 (crc16 (streamBytes bits ++ lane)))⟩) s = .next t ∧ (t.link g).fails = 0 ∧
      ((s.dieOf g).timed = true → s.absent g = false → ∀ (j : Fin 16) b (h : 16 * g.val + j.val < 64), bits[j.val]? = some b →
        (t.chain ⟨16 * g.val + j.val, h⟩).bits.map (·.b) =
          (s.chain ⟨16 * g.val + j.val, h⟩).bits.map (·.b) ++ (List.range 20).map b.getLsbD)) ∧
    (∀ bits lane check, s.dieOn g = true → s.upOn g = true → check ≠ some (BitVec.ofNat 16 (crc16 (streamBytes bits ++ lane))) →
      (s.link g).fails < 7 → ∃ t, exec (.uplinkFrame g bits ⟨lane, check⟩) s = .next t ∧
      (t.link g).fails = (s.link g).fails + 1 ∧
      t.reg (F.GRP_LINK_A_UP_ERR g) = min (s.reg (F.GRP_LINK_A_UP_ERR g) + 1) (2 ^ 16 - 1) % 2 ^ 16) ∧
    (s.dieOn g = true → s.upOn g = true → (s.dieOf g).detach ≠ 0 ∨ s.laneFor g 5 5 = true → ∃ t, exec (.linkstat g true) s = .next t ∧
      t.on (F.GRP_STATUS_SAFE g) = (s.dieOf g).safe ∧ t.on (F.GRP_STATUS_LIMP g) = (s.dieOf g).limp ∧
      t.reg (F.GRP_STATUS_MCLK_LOCK g) = b2n (s.dieOf g).timed ∧
      ((s.dieOf g).detach ≠ 0 → t.grpState g = 0 ∧ (t.dieOf g).powered = false) ∧
      ((s.dieOf g).detach = 0 → t.grpState g = s.grpState g)) ∧
    (∀ id, s.dieOn g = true → s.grpState g = 1 ∨ s.grpState g = 6 → s.laneFor g 5 17 = true → ∃ t, exec (.ident g id) s = .next t ∧
      t.reg (F.GRP_STATUS_REFUSE g) = identReason id ∧ (t.link g).cache = id.take 16 ∧
      t.grpState g = (if identReason id = 0 then 2 else 7))

/-- R194, R197, R205, R206, R217, Table 9.1: each output of a sample chain completes in its tick: the decimator takes the
five bits of its tick, the coarse register takes every eighth mean, the FIR gives its sum of the active bank through the DC blocker, and the resampler the
next instant. -/
def Obligations.ChainCommands : Prop :=
  ∀ (s : State) (x : Strm), s.hubOn = true →
    (s.tick % 50 = 0 → (s.chain x).capTick ≠ some s.tick → ∃ t, exec (.captureSample x) s = .next t ∧
      (t.chain x).capTick = some s.tick ∧ (t.chain x).capCnt = (s.chain x).capCnt + 1 ∧
      (t.chain x).bits = ((s.chain x).bits.filter fun b => s.tick < b.t) ∧
      (∀ five, (∀ phase lost low, takeBits (s.chain x).bits s.tick phase lost low = five) → (t.chain x).cap =
        (sincOut ((five.reverse ++ (s.chain x).sinc).take 13) ((s.chain x).clear != 0) :: (s.chain x).cap).take 128) ∧
      (7 ≤ (s.chain x).capCnt → t.reg (F.SC_STATUS_COARSE_SETTLING x) = 0)) ∧
    (s.tick % 400 = 0 → (s.chain x).capTick = some s.tick → ∃ t, exec (.coarseSample x) s = .next t ∧
      t.reg (F.SC_COARSE x) / 2 ^ 8 = unsgn 24 (coarseMean (s.chain x)).v % 2 ^ 24 ∧ ∀ f, f ≠ F.SC_COARSE x → t.reg f = s.reg f) ∧
    (s.tick % (50 * 2 ^ s.hOf x) = 0 → (s.chain x).capTick = some s.tick → (s.chain x).firTick ≠ some s.tick →
      ∃ t, exec (.firOutput x) s = .next t ∧ (t.chain x).firTick = some s.tick ∧
      ((s.chain x).fade = none → (s.chain x).req = none → s.on (F.SC_CFG_FIR_EN x) = true →
        (t.chain x).res.head? = some
          { s := (dcStep (s.chain x).est (dcShift (s.reg (F.SC_DC_K x))) (s.on (F.SC_DC_FREEZE x))
                  (s.firOf x (s.firSum x (s.reg (F.SC_SWAP_BANK x))))).1,
            bank := s.reg (F.SC_SWAP_BANK x), fade := false, dcf := s.on (F.SC_DC_FREEZE x), t := s.hub.time } ∧
        (s.on (F.SC_DC_FREEZE x) = true → (t.chain x).est = (s.chain x).est)) ∧
      (∀ f, (s.chain x).fade = some f → f.j + 1 = f.len → (t.chain x).fade = none ∧ t.reg (F.SC_SWAP_BANK x) = f.new % 2)) ∧
    (((s.fineInstant x : Nat) : Rat) / 2 ^ 24 + s.fineLag x + 8 * (tFir (s.hOf x) : Rat) ≤ (s.now : Rat) →
      ∃ t, exec (.fineSample x) s = .next t ∧ (t.chain x).lastT = some (s.fineInstant x) ∧
      t.reg (F.SC_FINE x) / 2 % 2 = b2n (decide (s.tick < (s.chain x).sync + settleNs (s.hOf x) (s.on (F.SC_CFG_FIR_EN x)) / 4)))

/-- R258 to R266, Table 12.3: the commands of a port's discovery, its cycles and its driver complete: the port goes to the state its
table names, the process data and PD_VALID follow a cycle, and a failed third message is a loss. -/
def Obligations.IoLinkPortCommands : Prop :=
  ∀ (s : State) (c : Ch),
    (s.hubOn = true → s.fwRuns = true →
      (s.portState c = 3 → (∀ d, s.feeder c = some d → s.on (F.OUT_STATE_SWITCH d) = true) →
        ∃ t, exec (.poweringEnd c) s = .next t ∧
          t.portState c = (match s.reg (F.IOL_CTRL_TARGET c) with | 0 => 4 | 2 => 2 | _ => 1)) ∧
      (s.portState c = 4 → ∃ t, exec (.wakeUp c) s = .next t ∧ (t.ch c).port.pulses = (s.ch c).port.pulses % 3 + 1) ∧
      (∀ com : Fin 4, s.portState c = 4 → com.val ≠ 0 → ∃ t, exec (.deviceAnswer c com) s = .next t ∧ t.portState c = 5 ∧
        t.reg (F.IOL_CTRL_COM c) = com.val) ∧
      (∀ d, s.portState c = 5 → ∃ t, exec (.page1Inspected c d) s = .next t ∧ (t.ch c).port.dev = some d ∧
        (incompatible d = true → t.portState c = 8 ∧ t.reg (F.IOL_CTRL_REASON c) = 7) ∧
        (incompatible d = false → (s.ch c).port.ref = none → t.portState c = 6 ∧
          (t.ch c).port.ref = some (d.vendor, d.device, d.revision)) ∧
        (incompatible d = false → (s.ch c).port.ref = some (d.vendor, d.device, d.revision) → t.portState c = 6) ∧
        (∀ r, incompatible d = false → (s.ch c).port.ref = some r → r ≠ (d.vendor, d.device, d.revision) →
          t.portState c = 8 ∧ t.reg (F.IOL_CTRL_REASON c) = 8)) ∧
      (s.portState c = 6 → ∃ t, exec (.preoperateDone c) s = .next t ∧ t.portState c = 7 ∧ (t.ch c).port.cycle = s.cycleNs c ∧
        (t.ch c).port.outOk = false) ∧
      (∀ n, (s.ch c).port.cycOff = some n → n ≤ s.tick → ∃ t, exec (.powerCycleEnd c) s = .next t ∧ (t.ch c).port.cycOff = none ∧
        ∀ d, (if s.isPort c then s.feeder c else s.supplier c) = some d → t.reg (F.OUT_CMD_ON d) = 1)) ∧
    (∀ good pd u, s.hubOn = true → s.dieOn (grpOf c) = true → (s.ch c).mode = 8 → (s.ch c).park = none →
      (s.dieOf (grpOf c)).safe = false → (s.dieOf (grpOf c)).limp = false → s.permit c = true → (s.ch c).port.rxOnly = false →
      s.portState c = 7 → (s.dieOf (grpOf c)).timed = true → (s.ch c).port.gridStart (s.at c) = some u →
      (∀ l, (s.ch c).port.lastStart = some l → l + (s.ch c).port.cycle ≤ u) →
      ∃ t, exec (.iolCycle c good pd) s = .next t ∧ (t.ch c).port.lastStart = some u ∧
        (good = true → t.on (F.IOL_CTRL_PD_VALID c) = true ∧ t.reg (F.IOL_PD_PDIN c) =
          pdMask (match (s.ch c).port.dev with | some d => d.pdIn | none => 0) pd ∧ (t.ch c).port.missed = 0) ∧
        (good = false → t.reg (F.IOL_CTRL_PD_VALID c) = 0 ∧
          (2 ≤ (s.ch c).port.missed → s.fwRuns = true → t.portState c = 4 ∧ t.reg (F.IOL_CTRL_REASON c) = 6))) ∧
    (s.dieOn (grpOf c) = true → (s.ch c).mode = 8 → ∃ t, exec (.driverOverload c) s = .next t ∧ (t.ch c).port.rxOnly = true) ∧
    (s.dieOn (grpOf c) = true → (s.ch c).port.rxOnly = true →
      ∃ t, exec (.driverRetry c false) s = .next t ∧ (t.ch c).port.rxOnly = false)

/-- R264, R266 to R269, Tables 12.5 and 12.6: the requests of ring 4 and what the device answers complete: a request leaves the list the
firmware holds and does what its opcode says, or is answered with status 6 when it names no port. -/
def Obligations.IoLinkRequestCommands : Prop :=
  ∀ (s : State), s.hubOn = true →
    (∀ e l, s.fw.reqs = e :: l → s.fwTakes = true → s.room5 = true →
      (entByte e 0 = 0x40 → ∃ t, exec .isduRead s = .next t ∧ t.fw.reqs = l ∧
        ∀ c, s.reqPort e = some c → s.portState c = 6 ∨ s.portState c = 7 ∨ s.portState c = 8 → (s.ch c).port.isdu = none →
          (s.ch c).port.queue = [] → (s.ch c).port.resp = [] → (s.ch c).port.frag = none → (t.ch c).port.isdu = some (entIsdu e)) ∧
      (entByte e 0 = 0x41 → ∃ t, exec .isduWrite s = .next t ∧ t.fw.reqs = l ∧
        ∀ c, s.reqPort e = some c → s.portState c = 6 ∨ s.portState c = 7 ∨ s.portState c = 8 → (s.ch c).port.isdu = none →
          (s.ch c).port.queue = [] → (s.ch c).port.resp = [] → (s.ch c).port.frag = none → entByte e 11 % 2 = 1 →
          bytesAt e 14 2 = 0 → 1 ≤ bytesAt e 12 2 → bytesAt e 12 2 ≤ 40 →
          (t.ch c).port.isdu = some { entIsdu e with write := some (bytesAt e 12 2, (e.drop 16).take (bytesAt e 12 2)) }) ∧
      (entByte e 0 = 0x42 → ∃ t, exec .powerCycle s = .next t ∧ t.fw.reqs = l ∧
        ∀ c d, s.reqPort e = some c → s.feeder c = some d → bytesAt e 8 2 = 0 ∨ 10 ≤ bytesAt e 8 2 ∧ bytesAt e 8 2 ≤ 6000 →
          (t.ch c).port.cycOff = some (s.tick + (if bytesAt e 8 2 = 0 then 50 else bytesAt e 8 2) * 2500000) ∧ t.reg (F.OUT_CMD_ON d) = 0) ∧
      (entByte e 0 = 0x43 → ∃ t, exec .pdOut s = .next t ∧ t.fw.reqs = l ∧
        ((∀ p ∈ pdRecords e, ∃ h : p.1 < 32, s.isPort ⟨p.1, h⟩ = true) →
          ∀ c, t.reg (F.IOL_PD_PDOUT c) = (match (pdRecords e).reverse.lookup c.val with
            | some v => (match (s.ch c).port.dev with
              | some d => if 6 ≤ s.portState c ∧ s.portState c ≤ 8 then pdMask d.pdOut (v % 2 ^ 16) else v % 2 ^ 16
              | none => v % 2 ^ 16)
            | none => s.reg (F.IOL_PD_PDOUT c))) ∧
        ((∃ p ∈ pdRecords e, ∀ h : p.1 < 32, s.isPort ⟨p.1, h⟩ = false) → t.regs = s.regs)) ∧
      (entByte e 0 = 0x44 → ∃ t, exec .abort s = .next t ∧ t.fw.reqs = l ∧
        ∀ c, s.reqPort e = some c → (t.ch c).port.isdu = none ∧ (t.ch c).port.queue = [])) ∧
    (∀ c q status err data, (s.ch c).port.isdu = some q → (s.ch c).port.queue = [] → s.fwRuns = true → status = 0 ∨ status = 1 ∨ status = 7 →
      ∃ t, exec (.isduResponse c status err data) s = .next t ∧ (t.ch c).port.isdu = none) ∧
    (∀ c q, (s.ch c).port.isdu = some q → (s.ch c).port.queue = [] → s.fwRuns = true →
      ∃ t, exec (.isduTimeout c) s = .next t ∧ (t.ch c).port.isdu = none) ∧
    (∀ c ev, s.portState c = 6 ∨ s.portState c = 7 ∨ s.portState c = 8 → ∃ t, exec (.portEvent c ev) s = .next t ∧ t.die = s.die ∧
      (s.room5 = false → (t.ch c).port.events.length = (s.ch c).port.events.length + ev.length))

/-- R347, R356, R358 to R360, R374, Table 16.6: the Drover's commands complete: START fetches the first descriptor, or ignores and counts; a
descriptor that arrives is taken or halts the channel with its cause; a start makes the chosen one busy; a completion counts
it; a rescan goes on, or ends the chain; and a block test that passes closes its block, counts it and completes its descriptor, while
one that fails halts the channel with its reason. -/
def Obligations.DroverCommands : Prop :=
  ∀ (s : State) (k : DrvNo), s.hubOn = true →
    (s.drvState k = 0 ∨ s.drvState k = 3 → s.on F.DRV_STATUS_BUS_ERR = false → ∃ t, exec (.drvStart k) s = .next t ∧
      (s.drvHead k % 64 = 0 → t.drvState k = 1 ∧ (t.drvc k).fetch = some (s.drvHead k) ∧ t.reg (F.DRV_CH_DONE k) = 0) ∧
      (s.drvHead k % 64 ≠ 0 → t.drvState k = 4 ∧ t.reg (F.DRV_CH_STATUS_CAUSE k) = 1)) ∧
    (s.drvState k = 1 ∨ s.drvState k = 3 → ∃ t, exec (.drvContinue k) s = .next t ∧
      (s.drvState k = 1 → t.reg (F.DRV_CH_STATUS_RESCAN k) = 1) ∧
      (s.drvState k = 3 → (s.drvc k).rescanning = false → (t.drvc k).rescanning = true)) ∧
    (∀ a bytes, (s.drvc k).fetch = some a → (s.drvc k).asked = true ∨ s.host.mayIssue = true ∧ (s.drvc k).rescanning = false →
      ∃ t, exec (.descriptorFetch k bytes) s = .next t ∧
      (s.drvState k = 2 → (s.drvc k).busy = false → (t.drvc k).fetch = none ∧ (t.drvc k).cur = (s.drvc k).cur)) ∧
    (∀ a bytes, (s.drvc k).fetch = some a → (s.drvc k).asked = true ∨ s.host.mayIssue = true ∧ (s.drvc k).rescanning = false →
      s.drvState k ≠ 2 ∨ (s.drvc k).busy = true → ∃ t, exec (.descriptorFetch k bytes) s = .next t ∧
      ((s.drvc k).cur = none → (descOf a bytes).check (isStream k) ≠ 0 →
        t.drvState k = 4 ∧ t.reg (F.DRV_CH_STATUS_CAUSE k) = (descOf a bytes).check (isStream k)) ∧
      ((s.drvc k).cur = none → (descOf a bytes).check (isStream k) = 0 → (descOf a bytes).size ≠ 0 →
        (t.drvc k).cur = some (descOf a bytes) ∧ (t.drvc k).fetch = none) ∧
      ((s.drvc k).cur ≠ none → (descOf a bytes).check (isStream k) = 0 →
        (t.drvc k).pre = some (descOf a bytes) ∧ t.reg (F.DRV_CH_STATUS_PREFETCHED k) = 1)) ∧
    (∀ h2d d, s.host.mayIssue = true → s.engineBusy h2d = false → s.drvChoose h2d = some k → s.readyDesc h2d k = some d →
      ∃ t, exec (.descriptorStart h2d) s = .next t ∧ (t.drvc k).busy = true ∧
        (t.drvc k).fetch = (if d.isEnd then none else some d.next)) ∧
    (∀ d data, (s.drvc k).cur = some d → (s.drvc k).busy = true → s.drvState k = 1 ∨ s.drvState k = 2 → s.host.mayIssue = true →
      s.unitOf k = none → d.size ≠ 0 → (s.drvc k).badNext = 0 → (s.drvc k).pre = none →
      ∃ t, exec (.descriptorComplete k data) s = .next t ∧
        (d.h2d = false → t.reg (F.DRV_CH_DONE k) = (s.reg (F.DRV_CH_DONE k) + 1) % 2 ^ 32 ∧ (t.drvc k).busy = false ∧
          (s.drvState k = 2 → t.drvState k = 0) ∧
          (s.drvState k = 1 → d.isEnd = true → s.reg (F.DRV_CH_STATUS_RESCAN k) = 0 → t.drvState k = 3) ∧
          (s.drvState k = 1 → d.isEnd = false → (t.drvc k).fetch = some d.next))) ∧
    (∀ d bytes, (s.drvc k).last = some d → (s.drvc k).rescanning = true → (s.drvc k).asked = true ∨ s.host.mayIssue = true → ∃ t, exec (.rescanRead k bytes) s = .next t ∧
      ((descOf d.addr bytes).isEnd = false → (descOf d.addr bytes).next % 64 = 0 → t.drvState k = 1 ∧
        (t.drvc k).fetch = some (descOf d.addr bytes).next) ∧
      ((descOf d.addr bytes).isEnd = true → s.on (F.DRV_CH_STATUS_RESCAN k) = false → t.drvState k = 3)) ∧
    (∀ u d held trailer, (s.ck[u.val]).test = some held → s.unitOf k = some u → (∀ j, s.unitOf j = some u → j = k) →
      (s.ck[u.val]).dir ≠ none → (s.drvc k).cur = some d → (s.drvc k).busy = true → s.host.mayIssue = true →
      ∃ t, exec (.blockTest u trailer) s = .next t ∧
        (s.ckTest u d.h2d trailer ≠ 0 → t.drvState k = 4 ∧ t.reg (F.DRV_CH_STATUS_CAUSE k) = 5 ∧
          t.reg (F.CK_STATUS_REASON u) = s.ckTest u d.h2d trailer) ∧
        (s.ckTest u d.h2d trailer = 0 → s.on (F.CK_BIND_HOLD u) = false → (s.drvc k).badNext = 0 → (s.drvc k).pre = none →
          (t.ck[u.val]).test = none ∧ t.on (F.CK_STATUS_IN_BLOCK u) = false ∧
          t.reg (F.CK_SEQ u) = (s.reg (F.CK_SEQ u) + 1) % 2 ^ 32 ∧ t.reg (F.DRV_CH_DONE k) = (s.reg (F.DRV_CH_DONE k) + 1) % 2 ^ 32 ∧
          (t.drvc k).busy = false))

/-- R411 to R413, R419, R422 to R424, R427: the health commands of the hub die complete: readings stand in their registers, TEMP_WARN follows
its two thresholds, a rail out of its band sets its bit, a raise asks for the next code (the hardware's at the end of its tick, unless REQ is
written in it) and NOW takes the code asked for when its spacing allows, an hour's last second counts it, a baseline is written once its
values are complete, and a retune keeps the widest eyes. -/
def Obligations.HealthCommands : Prop :=
  ∀ (s : State), s.hubOn = true →
    (∀ t0 t1 t2 t3, ∃ t, exec (.tempUpdate t0 t1 t2 t3) s = .next t ∧ t.reg F.HK_TEMP_A_T0 = unsgn 16 t0 ∧ t.reg F.HK_TEMP_B_T3 = unsgn 16 t3 ∧
      (8 * (s.reg F.HK_TEMP_CFG_WARN : Int) < (hottest [t0, t1, t2, t3]).2 → t.on F.HK_STATUS_TEMP_WARN = true) ∧
      ((hottest [t0, t1, t2, t3]).2 ≤ 8 * ((s.reg F.HK_TEMP_CFG_WARN : Int) - 5) → t.on F.HK_STATUS_TEMP_WARN = false)) ∧
    (∀ (rail : Fin 5) mv, ∃ t, exec (.railUpdate rail mv) s = .next t ∧ t.reg (railFld rail) = mv % 2 ^ (railFld rail).w ∧
      (s.railOut rail.val mv = true → (t.reg F.HK_STATUS_RAIL).testBit rail.val = true)) ∧
    (∀ counts, ∃ t, exec (.processUpdate counts) s = .next t ∧
      (∀ p ∈ (slackFlds.zip counts).zipIdx, t.reg p.1.1 = code16 (slackOf p.2 p.1.2)) ∧ t.die = s.die) ∧
    (s.fwRuns = true → s.hubSlack < s.reg F.HK_AGE_CFG_SLACK_UP → ∃ t, exec .vidRaiseFw s = .next t ∧
      (s.reg F.HK_VID_NOW = vidCode (s.reg F.HK_VID_CEIL) → t.reg F.HK_STATUS_AT_CEILING = 1 ∧ t.reg F.HK_VID_NOW = s.reg F.HK_VID_NOW) ∧
      (s.reg F.HK_VID_NOW ≠ vidCode (s.reg F.HK_VID_CEIL) → t.reg F.HK_VID_REQ = min 6 (vidCode (s.reg F.HK_VID_REQ) + 1))) ∧
    (s.hubSlack < s.reg F.HK_AGE_CFG_SLACK_HARD → exec .vidRaiseHw s = .next { s with hk := { s.hk with hwAsk := true } }) ∧
    (s.hk.hwAsk = true → s.vidTick.hk.hwAsk = false ∧
      (s.written F.HK_VID_REQ = true → s.vidTick.regs = s.regs) ∧
      (s.written F.HK_VID_REQ = false → s.reg F.HK_VID_NOW ≠ vidCode (s.reg F.HK_VID_CEIL) →
        s.vidTick.reg F.HK_VID_HW_RAISES = min (s.reg F.HK_VID_HW_RAISES + 1) 255 ∧
        s.vidTick.reg F.HK_VID_REQ = min 6 (vidCode (s.reg F.HK_VID_REQ) + 1))) ∧
    (s.vidFree = true → ∃ t, exec .vidApply s = .next t ∧ t.reg F.HK_VID_NOW = s.vidAim) ∧
    (∃ t, exec .hoursTick s = .next t ∧ ∀ b, b = tempBin (2 * sgn 16 (s.reg F.HK_TEMP_B_T3)) 85 105 125 →
      s.hk.secs.lookup b.val = some 3599 → s.written (F.HK_HOURS 0 b) = false → t.reg (F.HK_HOURS 0 b) = min (s.reg (F.HK_HOURS 0 b) + 1) (2 ^ 32 - 1)) ∧
    (∀ hub grp, ∃ t, exec (.driftUpdate hub grp) s = .next t ∧
      (∀ p ∈ (driftFlds.zip hub).zipIdx, t.reg p.1.1 = s.drift p.2 p.1.2) ∧
      ∀ g : Grp, s.dieOn g = true → t.dreg (F.GRP_AGE_PM_D0 g) = s.drift (8 + 2 * g.val) (grp.getD (2 * g.val) 0) ∧
        t.dreg (F.GRP_AGE_PM_D1 g) = s.drift (9 + 2 * g.val) (grp.getD (2 * g.val + 1) 0)) ∧
    (∀ item value, s.baseDue item = true → ∃ t, exec (.baselineWrite item value) s = .next t ∧ t.baseOk item = true ∧
      ∀ h : 8 ≤ item ∧ item < 40, t.reg (F.AGE_STAT_BASE_VALID ⟨item - 8, by omega⟩) = 1) ∧
    (s.baseOk 0 = false → s.on F.ROOT_RESET_STATUS_BASELINE_RUN = false → s.hk.lockAt + 25000000 ≤ s.tick →
      (∀ n, s.hk.lastVid = some n → n + 25000000 ≤ s.tick) → ∃ t, exec .baselineRunStart s = .next t ∧
        t.reg F.ROOT_RESET_STATUS_BASELINE_RUN = 1 ∧ t.hk.runAt = some s.tick) ∧
    (∀ g up down eq emph, s.on (F.GRP_AGE_EYE_RETUNING g) = true → ∃ t, exec (.retuneDone g up down eq emph) s = .next t ∧
      t.reg (F.GRP_AGE_EYE_RETUNING g) = 0 ∧ t.reg (F.GRP_AGE_EYE_UP_EQ g) = widest ((up.take 16).map (min 63 ·)) eq ∧
      t.reg (F.GRP_AGE_EYE_UP_MARGIN g) = ((up.take 16).map (min 63 ·)).getD (widest ((up.take 16).map (min 63 ·)) eq) 0 ∧
      t.dreg (F.GRP_AGE_EYE_DOWN_MARGIN g) = (emphTried (s.reg (F.GRP_AGE_EYE_DOWN_EMPH g)) down).getD
        (widest (emphTried (s.reg (F.GRP_AGE_EYE_DOWN_EMPH g)) down) emph) 0)

/-- R415 to R418, R420: the housekeeping converter of a group die and the measurements that go up complete: a sequence or an urgent conversion
starts when the converter is idle and is counted otherwise, and a conversion gives its slot its code. -/
def Obligations.HousekeepingCommands : Prop :=
  ∀ (s : State) (g : Grp), s.dieOn g = true →
    (s.don (F.GRP_HK_SEQ_A_EN g) = true → s.hkDue g = true → ∃ t, exec (.sequenceA g) s = .next t ∧
      ((s.dieOf g).conv = .idle → maskSlots (s.dreg (F.GRP_HK_SEQ_A_MASK g)) ≠ [] →
        (t.dieOf g).conv = .seq (maskSlots (s.dreg (F.GRP_HK_SEQ_A_MASK g)))) ∧
      (∀ l, (s.dieOf g).conv = .seq l → (s.dieOf g).convB = true → s.seqNow g = true → maskSlots (s.dreg (F.GRP_HK_SEQ_A_MASK g)) ≠ [] →
        (t.dieOf g).conv = .seq (maskSlots (s.dreg (F.GRP_HK_SEQ_A_MASK g)))) ∧
      (∀ l, (s.dieOf g).conv = .seq l → (s.dieOf g).convB = false ∨ s.seqNow g = false → (t.dieOf g).conv = .seq l ∧
        t.dreg (F.GRP_HK_TALLY_OVERRUNS g) = min (s.dreg (F.GRP_HK_TALLY_OVERRUNS g) + 1) (2 ^ 16 - 1))) ∧
    ((s.dieOf g).hkToken = true → ∃ t, exec (.sequenceB g) s = .next t ∧ (t.dieOf g).hkToken = false ∧
      ((s.dieOf g).conv = .idle → s.seqNow g = false ∨ (s.dieOf g).convB = true → maskSlots (s.dreg (F.GRP_HK_SEQ_B_MASK g)) ≠ [] →
        (t.dieOf g).conv = .seq (maskSlots (s.dreg (F.GRP_HK_SEQ_B_MASK g)))) ∧
      (s.seqNow g = true → (s.dieOf g).convB = false → (t.dieOf g).conv = (s.dieOf g).conv ∧
        t.dreg (F.GRP_HK_TALLY_OVERRUNS g) = min (s.dreg (F.GRP_HK_TALLY_OVERRUNS g) + 1) (2 ^ 16 - 1))) ∧
    ((s.dieOf g).urgToken = true → ∃ t, exec (.urgentConversion g) s = .next t ∧ (t.dieOf g).urgToken = false ∧
      ((s.dieOf g).conv = .idle → s.seqNow g = false → (t.dieOf g).conv = .urgent (min 23 (s.dreg (F.GRP_HK_URGENT_SLOT g))) []) ∧
      ((s.dieOf g).conv ≠ .idle ∨ s.seqNow g = true →
        t.dreg (F.GRP_HK_TALLY_DROPPED g) = min (s.dreg (F.GRP_HK_TALLY_DROPPED g) + 1) (2 ^ 16 - 1))) ∧
    (∀ code (k : Fin 24) l, (s.dieOf g).conv = .seq (k.val :: l) → ∃ t, exec (.conversionDone g code) s = .next t ∧
      t.dreg (F.GRP_HK_CODE g k) = code % 4096 ∧ (t.dieOf g).conv = if l = [] then .idle else .seq l) ∧
    (∀ code (k : Fin 24), (s.dieOf g).conv = .urgent k.val [] → ∃ t, exec (.conversionDone g code) s = .next t ∧
      t.dreg (F.GRP_HK_CODE g k) = code % 4096 ∧ t.dreg (F.GRP_HK_URGENT_RESULT g) = code % 4096 ∧ (t.dieOf g).conv = .idle ∧
      t.dreg (F.GRP_HK_URGENT_URG_DONE g) = (s.dreg (F.GRP_HK_URGENT_URG_DONE g) + 1) % 16) ∧
    (∀ c uv ma tj dt, grpOf c = g → s.hubOn = true → s.upOn g = true →
      (s.ch (s.headOf c)).work = .on ∨ (s.ch (s.headOf c)).work = .inrush → 200 ≤ ma → dt.natAbs ≤ 4 → ∃ t, exec (.resMeasurement c uv ma tj dt true) s = .next t ∧
      (t.ohms c).length = min 1024 ((s.ohms c).length + 1)) ∧
    (∀ up down, s.hubOn = true → ∃ t, exec (.eyeSweep g up down) s = .next t ∧ t.reg (F.GRP_AGE_EYE_UP_MARGIN g) = min 63 up ∧
      t.dreg (F.GRP_AGE_EYE_DOWN_MARGIN g) = min 63 down)

/-- R431, R434, R435, R437: the next record of the queue is written whole into the next slot with LDG_SEQ, or suppressed and counted; and a
group die's commits begin and end. -/
def Obligations.LedgerCommands : Prop :=
  (∀ (s : State) (r : LRec) (l : List LRec), s.ldg.queue = r :: l → s.hub.vaux = true → (∀ n, s.ldg.wroteAt = some n → n + 100 ≤ s.clock) →
    ∃ t, exec .ledgerWrite s = .next t ∧
    t.ldg.queue = l ∧
    (s.suppressed r = false → t.ldg.slots.lookup (s.reg F.LDG_STATUS_NEXT) =
        some { r := { r with stopped := r.stopped || !s.hubOn }, time := if r.stopped then r.held else s.now, seq := s.reg F.LDG_SEQ, boot := s.reg F.LDG_BOOT } ∧
      t.reg F.LDG_SEQ = (s.reg F.LDG_SEQ + 1) % 2 ^ 32 ∧ (r.cls = 4 → t.reg F.LDG_STATUS_FROZEN = 1 ∧ t.reg F.LDG_STATUS_FAULT = 1)) ∧
    (s.suppressed r = true → t.ldg.slots = s.ldg.slots ∧ t.reg F.LDG_SEQ = s.reg F.LDG_SEQ)) ∧
  (∀ (s : State) (g : Grp), s.dieOn g = true →
    (s.passed g (s.dieOf g).hourAt 3600000000000 = true → (s.dieOf g).dirty = true → (s.dieOf g).commit = false → ∃ t, exec (.hourlyCommit g) s = .next t ∧
      (t.dieOf g).commit = true ∧ (t.dieOf g).cells = (s.dieOf g).store ∧ (t.dieOf g).dirty = false) ∧
    ∃ t, exec (.localCommitEnd g) s = .next t ∧
      ((s.dieOf g).commit = false ∨ (s.dieOf g).recommit = false → (t.dieOf g).commit = false ∧ (t.dieOf g).cells = (s.dieOf g).cells) ∧
      ((s.dieOf g).commit = true → (s.dieOf g).recommit = true → (t.dieOf g).commit = true ∧ (t.dieOf g).cells = (s.dieOf g).store))

/-- R322 to R333, R335, Tables 15.8 and 15.18: the rings' commands complete: a good entry is consumed and passed on, a bad one is fetched
again and the fourth failure of its check is reported, a valid doorbell moves its index, and records, entries and messages go out to
the host. -/
def Obligations.RingCommands : Prop :=
  ∀ (s : State) (r : RingNo), s.hubOn = true →
    (∀ e, s.mayFetch r = true → (s.ring r).refetch = false → bytesAt e 60 4 = s.entryCheck r (s.ringAddr r (s.reg (F.RING_CONS r))) e →
      bytesAt e 56 4 = s.reg (F.RING_SEQ r) → entByte e 2 = r.val → entByte e 3 = 0 → ∃ t, exec (.ringEntryFetch r e) s = .next t ∧
      (r.val = 2 → t.host.head2 = some e) ∧
      (r.val ≠ 2 → t.reg (F.RING_CONS r) = (s.reg (F.RING_CONS r) + 1) % 2 ^ 32 ∧ t.reg (F.RING_SEQ r) = (s.reg (F.RING_SEQ r) + 1) % 2 ^ 32) ∧
      (r.val = 4 → 0x40 ≤ entByte e 0 → entByte e 0 ≤ 0x44 → t.fw.reqs = s.fw.reqs ++ [e])) ∧
    (∀ e, s.mayFetch r = true → (s.ring r).refetch = false → (s.ring r).fails < 3 →
      bytesAt e 60 4 ≠ s.entryCheck r (s.ringAddr r (s.reg (F.RING_CONS r))) e → ∃ t, exec (.ringEntryFetch r e) s = .next t ∧
      (t.ring r).refetch = true ∧ (t.ring r).fails = (s.ring r).fails + 1 ∧ t.reg (F.RING_CONS r) = s.reg (F.RING_CONS r)) ∧
    (∀ e, s.mayFetch r = true → (s.ring r).refetch = true → 3 ≤ (s.ring r).fails →
      bytesAt e 60 4 ≠ s.entryCheck r (s.ringAddr r (s.reg (F.RING_CONS r))) e → ∃ t, exec (.entryRefetch r e) s = .next t ∧
      t.reg (F.RING_CONS r) = (s.reg (F.RING_CONS r) + 1) % 2 ^ 32 ∧
      t.reg (F.RING_TALLY_CHECK_FAIL r) = min (s.reg (F.RING_TALLY_CHECK_FAIL r) + 1) (2 ^ (F.RING_TALLY_CHECK_FAIL r).w - 1)) ∧
    (∀ data, s.host.dlUp = true → s.host.mse = true → s.host.held = none → data.length = 4 → s.on (F.RING_CFG_ENABLE r) = true → r.val ≠ 7 →
      ∃ t, exec (.doorbell (256 * r.val) data) s = .next t ∧
      (inbound r = true →
        (bytesAt data 0 4 + 2 ^ 32 - s.reg (F.RING_PROD r)) % 2 ^ 32 ≤ s.ringSize r →
        (bytesAt data 0 4 + 2 ^ 32 - s.reg (F.RING_CONS r)) % 2 ^ 32 ≤ s.ringSize r → t.reg (F.RING_PROD r) = bytesAt data 0 4) ∧
      (inbound r = false →
        (bytesAt data 0 4 + 2 ^ 32 - s.reg (F.RING_CONS r)) % 2 ^ 32 ≤ (s.reg (F.RING_PROD r) + 2 ^ 32 - s.reg (F.RING_CONS r)) % 2 ^ 32 →
        t.reg (F.RING_CONS r) = bytesAt data 0 4)) ∧
    ((s.ring r).wbDue = true → (s.ring r).wbFree r s.tick = true → s.wbAddr r ≠ 0 → s.host.mayIssue = true → ∃ t, exec (.ringWbWrite r) s = .next t ∧
      (t.ring r).wbDue = false ∧ t.regs = s.regs ∧
      t.host.out = s.host.out ++ [.write (s.wbAddr r)
        (leBytes 4 (s.reg (if inbound r then F.RING_CONS r else F.RING_PROD r)) ++ leBytes 4 (s.ringStatus r))]) ∧
    (∀ e, outbound r = true → s.ringRuns r = true → r.val ≠ 5 ∨ s.fwRuns = true → s.host.mayIssue = true → s.ringPending r < s.ringSize r →
      s.nextOut r = some e → ∃ t, exec (.outboundEntry r) s = .next t ∧
      t.reg (F.RING_PROD r) = (s.reg (F.RING_PROD r) + 1) % 2 ^ 32 ∧ t.reg (F.RING_SEQ r) = (s.reg (F.RING_SEQ r) + 1) % 2 ^ 32 ∧
      ∃ l, t.host.out = s.host.out ++ .write (s.ringAddr r (s.reg (F.RING_PROD r))) (s.entryBytes r e) :: l) ∧
    (outbound r = true → s.on (F.RING_IRQ_EN r) = true → s.ringSignals r = true → (s.ring r).wbDue = false →
      ∃ t, exec (.ringMessage r) s = .next t ∧ (t.ring r).unsig = 0 ∧
      (s.host.cross = none → s.host.pclkLost = false → s.host.msixEn = true → s.host.funcMask = false →
        bit (s.host.msixWord (s.reg (F.RING_IRQ_VECTOR r)) 3) 0 = false → s.host.mayIssue = true →
        t.host.out = s.host.out ++ [s.host.message (s.reg (F.RING_IRQ_VECTOR r))]))

/-- R335 to R338, Tables 15.7 to 15.9: the commands of ring 0 complete: a NOP gives its completion, a WRITE and a WRITE_MASKED of one word
do what the write of that word does, a READ returns the word in its completion, and a RECORD_COPY waits for ring 6. -/
def Obligations.CommandEngineCommands : Prop :=
  ∀ (s : State) (e : Entry) (l : List Entry), s.hubOn = true → s.host.queue = e :: l → s.fenceWaits = false → s.sv.keeper = false →
    (bytesAt e 0 1 = 0 → ∃ t, exec .nop s = .next t ∧
      { kind := 1, body := [(4, 4, bytesAt e 56 4), (8, 1, 0), (9, 1, 0), (10, 1, 0), (11, 1, 0xFF)] } ∈ (t.ring 1).out) ∧
    (∀ s1 : State, s1 = { s with host := { s.host with queue := l, cmds := s.host.cmds ++ [running (bytesAt e 56 4) (bytesAt e 0 1)] } } →
      bytesAt e 4 1 = 1 → offsetOk (bytesAt e 8 4) = true →
      (bytesAt e 0 1 = 1 → ∃ t, exec .write s = .next t ∧
        t.die = (s1.writeWord .ring0 (bytesAt e 8 4) 15 (bytesAt e 12 4)).1.die ∧
        ∀ f, f.unit ≠ .hl → t.reg f = (s1.writeWord .ring0 (bytesAt e 8 4) 15 (bytesAt e 12 4)).1.reg f) ∧
      (bytesAt e 0 1 = 2 → bytesAt e 12 4 ≠ 0xFFFFFFFF → ∃ t, exec .writeMasked s = .next t ∧
        t.die = (s1.writeWord .ring0 (bytesAt e 8 4) 15 (s1.maskedWord (bytesAt e 8 4) (bytesAt e 12 4) (bytesAt e 16 4))).1.die ∧
        ∀ f, f.unit ≠ .hl → t.reg f =
          (s1.writeWord .ring0 (bytesAt e 8 4) 15 (s1.maskedWord (bytesAt e 8 4) (bytesAt e 12 4) (bytesAt e 16 4))).1.reg f) ∧
      (bytesAt e 0 1 = 3 → spotAt (bytesAt e 8 4 / 4 * 4) ≠ .unmapped → ∃ t, exec .read s = .next t ∧
        ∃ x ∈ (t.ring 1).out, x.kind = 1 ∧ (4, 4, bytesAt e 56 4) ∈ x.body ∧
          (12, 4, (s1.readWord .ring0 (bytesAt e 8 4)).1) ∈ x.body) ∧
      (bytesAt e 0 1 = 4 → spotAt (bytesAt e 8 4 / 4 * 4) ≠ .unmapped → ∃ t, exec .readBlock s = .next t ∧
        ∃ x ∈ (t.ring 1).out, x.kind = 1 ∧ (4, 4, bytesAt e 56 4) ∈ x.body ∧
          (12, 4, (s1.readWord .ring0 (bytesAt e 8 4)).1) ∈ x.body)) ∧
    (bytesAt e 0 1 = 5 → bytesAt e 4 1 ≤ 4 → 1 ≤ bytesAt e 12 2 → bytesAt e 12 2 ≤ 512 →
      bytesAt e 8 4 + bytesAt e 12 2 ≤ (if bytesAt e 4 1 = 0 then 512 else 64) → s.on (F.RING_CFG_ENABLE 6) = true →
      ∃ t, exec .recordCopy s = .next t ∧
        ∃ x ∈ t.host.cmds, x.seq = bytesAt e 56 4 ∧ x.copy = some (bytesAt e 4 1, bytesAt e 8 4, bytesAt e 12 2))

/-- R46, R317 to R321, R339, R363: what comes from the PCI Express link completes: a held message is delivered once, a configuration write
stands, errors are logged with the header of the first, a correctable one is told where its reporting is enabled, the link trains and changes its power state, a failed read halts the Drover, and the status registers
show the endpoint. -/
def Obligations.HostLinkCommands : Prop :=
  ∀ (s : State),
    (s.hubOn = true → ∃ t, exec .crossingDelivery s = .next t ∧ t.host.pclkLost = false ∧ t.host.cross = none ∧ t.host.held = none ∧
      ∀ k u, s.host.cross = some (k, u) → s.host.held = none → s.host.blocked = 0 → s.host.msixEn = true → s.host.funcMask = false → bit (s.host.msixWord k 3) 0 = false →
        s.host.mayIssue = true → t.host.out = s.host.out ++ [s.host.message k]) ∧
    (s.host.dlUp = true →
      (∀ off be (v : Word), off / 4 * 4 ∉ [0x44, 0x78, 0x104, 0x110, 0x118, 0x11C, 0x120, 0x124, 0x128] →
        ∃ t, exec (.configWrite off be v) s = .next t ∧
        t.host.cfgWord (off / 4 * 4) = (s.host.cfgWord (off / 4 * 4) &&& (0xFFFFFFFF - cfgMask (off / 4 * 4))) |||
          (merge be (s.host.cfgWord (off / 4 * 4)) v.toNat &&& cfgMask (off / 4 * 4))) ∧
      (∀ off be (v : Word), off / 4 * 4 ∈ [0x11C, 0x120, 0x124, 0x128] →
        ∃ t, exec (.configWrite off be v) s = .next t ∧ t.host.cfgWord (off / 4 * 4) = s.host.cfgWord (off / 4 * 4)) ∧
      (∀ k, ∃ t, exec (.pcieError (.correctable k)) s = .next t ∧ t.host.aerCor = s.host.aerCor ||| 2 ^ k ∧
        (bit (s.host.cfgWord 0x78) 0 = true → bit (s.host.cfgWord 0x114) k = false → ∃ l, t.host.out = s.host.out ++ .err 0 :: l)) ∧
      (∀ k e hdr, (∃ adv, e = .request k adv hdr) ∨ e = .link k hdr ∨ (∃ r, e = .ringFetch r k hdr) →
        ∃ t, exec (.pcieError e) s = .next t ∧
        t.host.aerUnc = s.host.aerUnc ||| 2 ^ k ∧ (s.host.isFatal k = true → t.host.fatal = true) ∧
        (s.host.aerUnc = 0 → bit (s.host.cfgWord 0x108) k = false → hasHeader k = true →
          t.host.hdrLog = hdrWords hdr ∧ t.host.firstErr = k)) ∧
      (∀ d3, ∃ t, exec (.powerStateChange d3) s = .next t ∧ t.host.d3 = d3 ∧ t.regs = s.regs) ∧
      (s.hubOn = true → ∃ t, exec .functionLevelReset s = .next t ∧ t.host.dlUp = true ∧ t.host.fatal = false ∧
        t.reg F.ROOT_RESET_STATUS_SOFT_RESETS = min (s.reg F.ROOT_RESET_STATUS_SOFT_RESETS + 1) 255) ∧
      (s.hubOn = true → ∀ addr k n data hdr, ∃ t, exec (.busError addr ⟨k, n, data, hdr⟩) s = .next t ∧ t.host.aerUnc = s.host.aerUnc ||| 2 ^ k ∧
        t.reg F.DRV_STATUS_BUS_ERR = 1 ∧ ((∀ j e, (s.drvc j).cur = some e → (s.drvc j).busy = true → e.h2d = false) →
          ∀ d : DrvNo, s.drvState d = 1 → t.drvState d = 4))) ∧
    (∀ up speed width, s.host.perst = false → s.host.phyLow = false → s.hub.run ≠ .por → up = true ∨ s.host.dlUp = true →
      ∃ t, exec (.linkEvent up speed width) s = .next t ∧ t.host.dlUp = true ∧ t.host.speed = speed ∧ t.host.width = width) ∧
    (s.hubOn = true → s.host.pclkLost = false → ∃ t, exec .pclkMirrorRefresh s = .next t ∧ t.host = s.host ∧
      t.hub.fresh[0] = some s.tick ∧
      (s.host.dlUp = true → t.reg F.HL_LINK_STATUS_DL_UP = 1 ∧ t.reg F.HL_LINK_STATUS_BME = b2n s.host.bme) ∧
      (s.host.dlUp = false → t.reg F.HL_LINK_STATUS_DL_UP = s.reg F.HL_LINK_STATUS_DL_UP ∧
        t.reg F.HL_LINK_STATUS_BME = s.reg F.HL_LINK_STATUS_BME)) ∧
    (∃ t, exec .perstNRelease s = .next t ∧ t.host.perst = false ∧ t.regs = s.regs) ∧
    (∃ t, exec .phyRailRise s = .next t ∧ t.host.phyLow = false ∧ t.regs = s.regs)

/-- R342, R456: PERST_N, a hot reset, a link-down, a lost PHY rail and a lost PCLK complete, take the link down, and while the hub die runs
return every register of the host link unit, the rings, the Drover and the check units to its reset value, but for those that
only the power-on reset resets, and leave no vector of theirs pending (R50); the Fold, the reflexes, the sample chains, the group links and the firmware RAM are left. -/
def Obligations.HostSideResets : Prop :=
  ∀ (s : State) (i : Instr), i ∈ [Instr.perstN, .hotReset, .linkDown, .phyRailLow, .pclkLost] → ∃ t, exec i s = .next t ∧
    t.host.dlUp = false ∧ (s.hubOn = true → (∀ f, hostFld f = true → t.reg f = f.dflt) ∧ t.host.queue = [] ∧ t.host.cmds = [] ∧
      t.host.notif = [] ∧ t.drv = {} ∧ (∀ k ∈ t.ck.toList, k = {}) ∧
      ∀ p ∈ t.host.pba, ∃ u, p.2 = some u ∧ hostUnit u = false) ∧
    { t.fold with armed := s.fold.armed } = s.fold ∧ t.rfx = s.rfx ∧ t.chains = s.chains ∧ t.links = s.links ∧ t.dies = s.dies ∧ t.die = s.die ∧ t.fw = s.fw ∧ t.sv = s.sv ∧
    (i = .perstN → t.host.perst = true ∧ t.host.cfg = []) ∧ (i = .hotReset → t.host.cfg = [])

/-- R23, R241, R421, R430, R431, R433, R440, R451 to R454, R458, R494: what the supplies and clocks do to the hub die completes: rails, VAUX, the power-on reset and
its end, the lock of CCLK, the loss and return of XIN, boundary scan, and the end of a hub die reset. -/
def Obligations.HubSupplyCommands : Prop :=
  ∀ (s : State),
    (∃ t, exec .hubRailRise s = .next t ∧ t.hub.core = true ∧ t.hub.vddIo = true ∧ t.regs = s.regs) ∧
    (∀ core, ∃ t, exec (.hubPowerOnReset core) s = .next t ∧ t.hub.run = .por ∧ (∀ f, vauxFld f = false → t.reg f = f.dflt) ∧
      (s.hub.vaux = true → ∀ f, vauxFld f = true → f ≠ F.LDG_TALLY_LOST → t.reg f = s.reg f) ∧
      (s.hub.vaux = false → ∀ f, vauxCleared f = true → f.unit ≠ .ldg → t.reg f = f.dflt) ∧
      t.die = s.die.filter (fun p => !hkKept p.1) ∧ (core = false ∨ s.hub.core = false → t.ldg = s.ldg) ∧
      (core = true → s.hub.core = true → s.ldg.queue.length < 16 → ∃ r : LRec, t.ldg.queue = queueRec r s.ldg.queue ∧ r.code = 3 ∧
        r.data = s.reg F.HK_RAIL_A_VDD_CORE ∧ r.stopped = true) ∧
      t.hub.time = s.hub.time ∧ t.hid = [] ∧ t.fold = {} ∧ t.fw = {}) ∧
    (s.hub.run = .por → s.hub.core = true → s.hub.vddIo = true → 1000000 ≤ s.clock - s.hub.since → ∃ t, exec .powerOnResetEnd s = .next t ∧ t.hub.run = .pllWait ∧
      (s.hub.vaux = true → t.reg F.LDG_BOOT = (s.reg F.LDG_BOOT + 1) % 2 ^ 16)) ∧
    (s.hub.run = .pllWait → s.hub.xin = true → ∃ t, exec .cclkLock s = .next t ∧ t.hub.run = .running ∧ t.now = 0 ∧
      t.reg F.ROOT_RESET_STATUS_CCLK_LOCK = 1 ∧ t.fw.bootDue = true ∧ ∀ g : Grp, t.dieNow g = s.dieNow g) ∧
    (∃ t, exec .xinLost s = .next t ∧ t.hub.xin = (s.hub.run == .frozen && s.hub.xin) ∧
      (s.hubOn = true ∨ s.hub.run = .frozen → t.hub.run = .reset)) ∧
    (∃ t, exec .xinReturn s = .next t ∧ t.hub.xin = true ∧ t.regs = s.regs) ∧
    (s.hubOn = true → ∃ t, exec .pllLockLoss s = .next t ∧ t.hub.run = .frozen ∧ t.regs = s.regs) ∧
    (∃ t, exec .vddIoFall s = .next t ∧ t.hub.vddIo = false ∧ (s.hubOn = true → t.hub.run = .reset)) ∧
    (∀ take, ∃ t, exec (.boundaryScanReset take) s = .next t ∧ t.hub.scan = take ∧ (s.hubOn = true → take = true → t.hub.run = .reset)) ∧
    (s.hub.run = .reset → s.hub.xin = true → s.hub.scan = false → s.hub.core = true → s.hub.vddIo = true → 1000000 ≤ s.clock - s.hub.since →
      ∃ t, exec .hubResetEnd s = .next t ∧ t.hub.run = .running ∧ t.now = 0 ∧ t.reg F.FOLD_CTRL_ENABLE = 0 ∧ t.sv.keeper = false ∧
      ∀ g : Grp, t.grpState g = 0) ∧
    (s.hub.vaux = false → ∃ t, exec .vauxApplied s = .next t ∧ t.hub.vaux = true ∧ t.ldg = {} ∧ (∀ f, vauxCleared f = true → t.reg f = f.dflt) ∧
      ∀ g : Grp, (t.link g).cache = []) ∧
    (∃ t, exec .vauxLost s = .next t ∧ t.hub.vaux = false ∧ t.faultN = true ∧ t.reg F.HK_STATUS_ACCUM_VALID = 0 ∧
      (∀ f, vauxCleared f = true → f.unit ≠ .ldg → t.reg f = f.dflt) ∧ t.ldg = s.ldg)

/-- R400, R401, R403 to R405, R407: the controller's commands complete: the boot sequence ends with BOOT_DONE, a verification gives STAGED, a
handover starts the new image, and a fault restarts the running slot with its cause, or fails the third within 10 s. -/
def Obligations.FirmwareCommands : Prop :=
  ∀ (s : State), s.hubOn = true →
    (∀ flash c0 c1, s.fw.bootDue = true → ∃ t, exec (.bootSequence flash c0 c1) s = .next t ∧ t.reg F.ROOT_RESET_STATUS_BOOT_DONE = 1 ∧
      t.fw.bootDue = false ∧ (flash = false → t.fwState = 0)) ∧
    (∀ slot shown l, s.fw.jobs = .stage slot shown :: l → ∃ t, exec .verifyDone s = .next t ∧ t.fw.jobs = l ∧
      (s.verifySlot slot ≠ 0 → t.reg F.FW_STATUS_FAIL = s.verifySlot slot) ∧
      (slot = s.idleSlot → t.fw.staged = slot ∧ t.reg F.FW_STATUS_STAGED = b2n (s.verifySlot slot == 0)) ∧
      (slot ≠ s.idleSlot → t.fw.staged = s.fw.staged ∧ t.reg F.FW_STATUS_STAGED = s.reg F.FW_STATUS_STAGED)) ∧
    (∀ counted l, s.fw.jobs = .restart counted :: l → ∃ t, exec .verifyDone s = .next t ∧ t.fw.jobs = l ∧
      (s.fwState = 4 → s.verifySlot (s.reg F.FW_STATUS_SLOT) = 0 → t.fwState = 7) ∧
      (s.fwState = 4 → s.verifySlot (s.reg F.FW_STATUS_SLOT) ≠ 0 → t.fw.reload = some counted)) ∧
    (s.fwState = 3 → s.fw.started = false → (∀ c : Ch, (s.ch c).port.isdu = none) → ∃ t, exec .handover s = .next t ∧ t.fw.started = true ∧
      t.fw.cold = (s.slotNum s.fw.staged 14 2 != s.slotNum (s.reg F.FW_STATUS_SLOT) 14 2)) ∧
    (s.fwState = 3 → s.fw.started = false → ∃ t, exec .handoverTimeout s = .next t ∧ t.fw.started = true ∧ t.fw.cold = true) ∧
    (∀ flash c0 c1, s.fwState = 2 ∨ s.fwState = 3 ∧ s.fw.started = false → s.fwLate = true → ∃ t, exec (.fwWatchdogExpiry flash c0 c1) s = .next t ∧
      (2 ≤ (s.fw.restarts.filter fun x => s.tick < x + 2500000000).length → t.fwState = 5 ∧ t.reg F.FW_STATUS_FAIL = 8) ∧
      ((s.fw.restarts.filter fun x => s.tick < x + 2500000000).length < 2 → s.verifySlot (s.reg F.FW_STATUS_SLOT) = 0 →
        t.fwState = 7 ∧ t.reg F.FW_STATUS_FAIL = 5) ∧
      ((s.fw.restarts.filter fun x => s.tick < x + 2500000000).length < 2 → s.verifySlot (s.reg F.FW_STATUS_SLOT) ≠ 0 → flash = false →
        t.fwState = 5)) ∧
    (∀ a flash c0 c1, s.fwState = 2 ∨ s.fwState = 3 ∨ s.fwState = 7 → ∃ t, exec (.ramUncorrectable a flash c0 c1) s = .next t ∧
      (2 ≤ (s.fw.restarts.filter fun x => s.tick < x + 2500000000).length → t.fwState = 5 ∧ t.reg F.FW_STATUS_FAIL = 8) ∧
      (flash = false → ∀ b, b < a % 0x40000 / 4 * 4 ∨ a % 0x40000 / 4 * 4 + 4 ≤ b → t.fw.ram.get b = s.fw.ram.get b)) ∧
    (∀ flash c0 c1, s.fwState = 3 → s.fw.started = true → ∃ t, exec (.startTimeout flash c0 c1) s = .next t ∧ t.fwState = 2 ∧
      t.reg F.FW_STATUS_FAIL = 7 ∧ t.reg F.FW_STATUS_STAGED = 0) ∧
    (∀ flash c0 c1, s.fwState = 7 → (s.fw.restarts.filter fun x => s.tick < x + 2500000000).length < 2 →
      ∃ t, exec (.startTimeout flash c0 c1) s = .next t ∧
      (s.verifySlot (s.reg F.FW_STATUS_SLOT) = 0 → t.fwState = 7 ∧ t.reg F.FW_STATUS_FAIL = 7) ∧
      (s.verifySlot (s.reg F.FW_STATUS_SLOT) ≠ 0 → flash = false → t.fwState = 5))

/-- R20, R36 to R38, R40, R41, R398: every row that is a write of a word completes, and is the write of that word at the arbiter; a read
returns the word in the requester's data register. -/
def Obligations.RegisterAccessRows : Prop :=
  ∀ (s : State) (rq : Req) (be : Fin 16) (v : Word) (o : Nat) (c : Ch) (x : Strm) (r : RuleNo) (n : RingNo) (g : Grp) (k : DrvNo)
    (u : CkNo) (d : Fin 5) (b : Fin 4) (w : Fin 3) (j : Fin 4) (hi : Bool) (i : Int) (m : Bool),
    (∀ p ∈ [(Instr.registerWrite rq o be v, o), (.pairLowWrite rq o be v, o), (.pairHighWrite rq o be v, o), (.irqCauseWrite rq o be v, o),
        (.irqEnableWrite rq o be v, o), (.lockWrite rq o be v, o), (.govCeilingWrite rq be v, 0x40), (.govVdeclWrite rq be v, 0x44),
        (.chModeWrite rq c be v, U.at (.ch c) 0x20), (.chPermitWrite .hub rq c be v, U.at (.ch c) 0x28),
        (.outCmdWrite .hub rq c be v, U.at (.ch c) 0x40), (.pwmRunStart .hub rq c be v, U.at (.ch c) 0x80),
        (.pwmRunEnd .hub rq c be v, U.at (.ch c) 0x80), (.relearn rq c be v, U.at (.ch c) 0xA0), (.skBaseWrite rq c be v, U.at (.ch c) 0xA4),
        (.skTrendWrite rq c be v, U.at (.ch c) 0xAC), (.inTallyWrite rq c be v, U.at (.ch c) 0xC0),
        (.anDacWrite .hub rq c be v, U.at (.ch c) 0xD8), (.anClampWrite .hub rq c be v, U.at (.ch c) 0xDC),
        (.portStart rq c be v, U.at (.ch c) 0xE8), (.portStop rq c be v, U.at (.ch c) 0xE8), (.admitDevice rq c be v, U.at (.ch c) 0xE8),
        (.iolPdWrite .hub rq c be v, U.at (.ch c) 0xEC), (.scCfgWrite rq x be v, U.at (.chain x) 0x20),
        (.chainSync rq x be v, U.at (.chain x) 0x20), (.swapRequest rq x be v, U.at (.chain x) 0x2C),
        (.dcClear rq x be v, U.at (.chain x) 0x30), (.coefWrite rq o be v, 0x20000 + o % 0x10000),
        (.winWrite rq x j be v, U.at (.chain x) (0x40 + 4 * j.val)), (.foldEnableWrite rq be v, U.at .fold 0x20),
        (.foldCancelWrite rq be v, U.at .fold 0x2C), (.rfxArmWrite rq r be v, U.at (.rule r) 4), (.armAtCommit rq r be v, U.at (.rule r) 0x14),
        (.ruleWrite rq r w be v, U.at (.rule r) (if w = 0 then 0 else 4 + 4 * w.val)), (.rateWrite rq be v, U.at .tb 0x2C),
        (.slewWrite rq be v, U.at .tb 0x38), (.stepCommit rq be v, U.at .tb 0x34), (.grpFeed rq g be v, U.at (.grp g) 0x2C),
        (.forceSafe rq g be v, U.at (.grp g) 0x24), (.unforce rq g be v, U.at (.grp g) 0x24), (.release rq g be v, U.at (.grp g) 0x24),
        (.restart rq g be v, U.at (.grp g) 0x24), (.supplyAck .hub rq g be v, U.at (.grp g) 0x84),
        (.reduceWrite rq g hi be v, U.at (.grp g) (if hi then 0x154 else 0x150)), (.retune rq g be v, U.at (.grp g) 0x15C),
        (.ringEnable rq n be v, U.at (.ring n) 8), (.ringDisable rq n be v, U.at (.ring n) 8), (.ringResume rq n be v, U.at (.ring n) 8),
        (.rootSoftReset rq be v, 0x24), (.hubDieResetRequest rq be v, 0x24), (.drvCfgWrite rq k w be v, U.at (.drvCh k) (4 * w.val)),
        (.ckBindWrite rq u be v, U.at (.ckU u) 0), (.ckRunWrite rq u be v, U.at (.ckU u) 0x10), (.handbackRequest rq be v, U.at .sv 0x30),
        (.verify rq be v, U.at .fw 0x24), (.activate rq be v, U.at .fw 0x24), (.fwRestart rq be v, U.at .fw 0x24),
        (.fwStop rq be v, U.at .fw 0x24), (.fwKick rq be v, U.at .fw 0x2C), (.ramDataAccess rq (some (be, v)), U.at .fw 0x3C),
        (.vidReqWrite rq be v, U.at .hk 0x3C), (.hoursWrite rq d b be v, U.at (.hours d) (4 * b.val)), (.ledgerPost rq be v, U.at .ldg 0x48),
        (.unfreeze rq be v, U.at .ldg 0x20), (.faultAck rq be v, U.at .ldg 0x20)],
      s.serves rq p.2 → (enables rq be).val ≠ 0 → exec p.1 s = .next (s.writeWord rq p.2 (enables rq be) v.toNat).1) ∧
    (∀ p ∈ [(Instr.clearFault .hub rq c i m, U.at (.ch c) 0x6C, 4), (.clearClamp .hub rq c, U.at (.ch c) 0x6C, 2),
        (.clearFuse .hub rq c, U.at (.ch c) 0x6C, 1), (.drvStop k (some rq), U.at (.drvCh k) 0x3C, 1), (.drvClear rq k, U.at (.drvCh k) 0x3C, 2),
        (.recover rq, U.at .drv 0x20, 1), (.abandon rq u, U.at (.ckU u) 0x18, 1)],
      s.serves rq p.2.1 → exec p.1 s = .next (s.writeWord rq p.2.1 15 p.2.2).1) ∧
    (∀ p ∈ [(Instr.pairLowRead rq o, o), (.pairHighRead rq o, o), (.ramDataAccess rq none, U.at .fw 0x3C)], s.arrives rq →
      ∃ t, exec p.1 s = .next t ∧ t.die = s.die ∧ t.dies = s.dies ∧
        (rq ≠ .host ∨ p.2 < 0x100000 ∨ 0x102000 ≤ p.2 → t.hub.rdata[(reqSlot rq).val] = (s.readWord rq p.2).1) ∧
        (rq = .host → 0x100000 ≤ p.2 → p.2 < 0x102000 → t.hub.rdata[(reqSlot rq).val] = s.bar2Word (p.2 - 0x100000) ∧ t.regs = s.regs))

/-- R15, R69, R94, R95, R130, R178, R266, R306: what a row does at the group die is the taking of its word there: it is DL_WRITE of a WRITE of that
word that stands next, and a set FAULT bit of OUT_CLEAR is taken with what the die measures. Of a write of AN_DAC its place among the
writes made is kept. -/
def Obligations.DieSideWrites : Prop :=
  ∀ (s : State) (rq : Req) (be : Fin 16) (v : Word) (c : Ch) (y : TxCmd) (l : List TxCmd) (w a : Nat), s.dieOn (grpOf c) = true →
    (s.dieOf (grpOf c)).inbox = y :: l → y.cmd = .write w a →
    (∀ p ∈ [(Instr.chPermitWrite .die rq c be v, 0x28), (.outCmdWrite .die rq c be v, 0x40), (.pwmRunStart .die rq c be v, 0x80),
        (.pwmRunEnd .die rq c be v, 0x80), (.anDacWrite .die rq c be v, 0xD8), (.anClampWrite .die rq c be v, 0xDC),
        (.iolPdWrite .die rq c be v, 0xEC)], 4 * w = inGroup (.ch c) p.2 →
      exec p.1 s = exec (.dlWrite (grpOf c)) s ∧ ∃ t, exec p.1 s = .next t ∧
        (p.2 ≠ 0xD8 → t = (State.dieWord (s.updDie (grpOf c) fun d => { d with inbox := l }) (grpOf c) (inGroup (.ch c) p.2) a).takeHeads (grpOf c)) ∧
        (p.2 = 0xD8 → t = (State.dieWord ((s.updDie (grpOf c) fun d => { d with inbox := l }).updCh c fun k => { k with dacW := y.tag.dacMark })
          (grpOf c) (inGroup (.ch c) p.2) a).takeHeads (grpOf c))) ∧
    (∀ i ∈ [Instr.clearClamp .die rq c, .clearFuse .die rq c], 4 * w = inGroup (.ch c) 0x6C → a / 4 % 2 = 0 →
      exec i s = exec (.dlWrite (grpOf c)) s ∧ ∃ t, exec i s = .next t ∧
        t = ((State.dieWord (s.updDie (grpOf c) fun d => { d with inbox := l }) (grpOf c) (inGroup (.ch c) 0x6C) a)).takeHeads (grpOf c)) ∧
    (∀ ki clamp, 4 * w = inGroup (.ch c) 0x6C → a / 4 % 2 = 1 → exec (.clearFault .die rq c ki clamp) s =
      .next (((s.updDie (grpOf c) fun d => { d with inbox := l }).clearWord c (a % 8) ki clamp).takeHeads (grpOf c))) ∧
    (4 * w = 0x84 → exec (.supplyAck .die rq (grpOf c) be v) s = exec (.dlWrite (grpOf c)) s ∧
      ∃ t, exec (.supplyAck .die rq (grpOf c) be v) s = .next t ∧
        t = (State.dieWord (s.updDie (grpOf c) fun d => { d with inbox := l }) (grpOf c) 0x84 a).takeHeads (grpOf c))

/-- R49, R50: a write of IRQ_CAUSE clears the causes whose bits it carries, but for one that an event sets in the same tick, and a write of IRQ_ENABLE
stands; the unit's message is requested when its route asks for one and causes stay pending, and is pending no more when none does. -/
def Obligations.InterruptWords : Prop :=
  ∀ (s : State) (rq : Req) (u : U) (v : Word), u.isUnit = true → rq ≠ .fw → linkUnit u = false ∨ s.host.dlUp = true →
    (s.serves rq (U.at u 0x10) → ∃ t, exec (.irqCauseWrite rq (U.at u 0x10) 15 v) s = .next t ∧
      (u ≠ .root → t.reg (F.CAUSE u) = ((s.reg (F.CAUSE u) &&& (2 ^ 32 - 1 - v.toNat)) ||| s.stuck (F.CAUSE u)) % 2 ^ 32) ∧
      t.reg (F.ENABLE u) = s.reg (F.ENABLE u) ∧
      (((s.reg (F.CAUSE u) &&& (2 ^ 32 - 1 - v.toNat)) ||| s.stuck (F.CAUSE u)) % 2 ^ 32 &&& s.reg (F.ENABLE u) = 0 →
        t.host.pba = s.host.pba.filter fun p => p.2 != some u) ∧
      (s.on (F.ROUTE_MSIX u) = true →
        ((s.reg (F.CAUSE u) &&& (2 ^ 32 - 1 - v.toNat)) ||| s.stuck (F.CAUSE u)) % 2 ^ 32 &&& s.reg (F.ENABLE u) ≠ 0 → s.host.cross = none → s.host.pclkLost = false →
        s.host.msixEn = true → s.host.funcMask = false → bit (s.host.msixWord (s.reg (F.ROUTE_VECTOR u)) 3) 0 = false → s.host.mayIssue = true →
        t.host.out = s.host.out ++ [s.host.message (s.reg (F.ROUTE_VECTOR u))])) ∧
    (s.serves rq (U.at u 0x14) → ∃ t, exec (.irqEnableWrite rq (U.at u 0x14) 15 v) s = .next t ∧ t.reg (F.ENABLE u) = v.toNat)

/-- R10, R39: while a unit's lock bit is set, no write that a requester makes changes an RWL field of the unit or clears the bit. -/
def Obligations.LockedFieldsHold : Prop :=
  ∀ (s : State) (rq : Req) (o : Nat) (be : Fin 16) (v : Word) (u : U) (f : Fld), s.Canon → lockFld u = some f → s.on f = true →
    ∃ t, exec (.registerWrite rq o be v) s = .next t ∧ t.on f = true ∧
      ∀ r ∈ layout u, r.acc = .rwl → t.reg (r.fld u) = s.reg (r.fld u)

/-- R27: writes of ROOT_GOV_CEILING and ROOT_GOV_VDECL are always accepted; no running channel changes, OVER shows a model above the effective
ceiling, and while it lies above, a change of mode or of a current limit that raises the model is refused. -/
def Obligations.GovernorWrites : Prop :=
  (∀ (s : State) (rq : Req) (v : Word), rq ≠ .fw →
    (s.serves rq 0x40 → ∃ t, exec (.govCeilingWrite rq 15 v) s = .next t ∧ t.reg F.ROOT_GOV_CEILING = v.toNat % 2 ^ 14 ∧
      t.reg F.ROOT_GOV_STATUS_OVER = b2n (decide (t.ceiling < govModel t.regs)) ∧ t.reg F.ROOT_GOV_MODEL = govModel t.regs % 2 ^ 14 ∧
      t.die = s.die ∧ t.chans = s.chans ∧ t.dies = s.dies ∧ t.links = s.links) ∧
    (s.serves rq 0x44 → ∃ t, exec (.govVdeclWrite rq 15 v) s = .next t ∧
      (∀ g : Grp, t.reg (vdeclFld g) = clampN 90 150 (v.toNat / 2 ^ (8 * g.val) % 2 ^ 8)) ∧
      t.reg F.ROOT_GOV_STATUS_OVER = b2n (decide (t.ceiling < govModel t.regs)) ∧
      t.die = s.die ∧ t.chans = s.chans ∧ t.dies = s.dies ∧ t.links = s.links)) ∧
  (∀ (s : State) (rq : Req) (c : Ch) (v : Word), rq ≠ .fw → s.Canon → s.ceiling < govModel s.regs →
    (s.serves rq (U.at (.ch c) 0x20) → govModel s.regs < govModel (modeImage s.regs c (v.toNat % 16) (v.toNat / 16 % 4)) →
      ∃ t, exec (.chModeWrite rq c 15 v) s = .next t ∧ (∀ d : Ch, t.reg (F.CH_MODE_MODE d) = s.reg (F.CH_MODE_MODE d)) ∧
        t.reg (F.CH_MODE_SUPPLY c) = s.reg (F.CH_MODE_SUPPLY c) ∧ t.die = s.die) ∧
    (s.serves rq (U.at (.ch c) 0x48) → govModel s.regs < govModel (s.rowsWrite rq (.ch c) 0x48 15 v.toNat) →
      ∃ t, exec (.registerWrite rq (U.at (.ch c) 0x48) 15 v) s = .next t ∧
        (∀ d : Ch, t.reg (F.OUT_LIMIT_CUR_LIMIT d) = s.reg (F.OUT_LIMIT_CUR_LIMIT d)) ∧ t.die = s.die))

/-- R37, Table 0.3: a full write of a word gives each of its RW fields the bits written, in the words named: the time base's rate, the comparators'
bounds, the Fold's control, the rules while disarmed, a baseline, a trend, a tally, REDUCE, the core voltage request, and an hours bin. -/
def Obligations.FieldsTakeWrittenValue : Prop :=
  ∀ (s : State) (rq : Req) (v : Word) (c : Ch) (x : Strm) (r : RuleNo) (g : Grp) (d : Fin 5) (b : Fin 4) (w : Fin 3) (j : Fin 4) (hi : Bool),
    rq ≠ .fw → ∀ p ∈ [(Instr.rateWrite rq 15 v, U.tb, 0x2C), (.winWrite rq x j 15 v, .chain x, 0x40 + 4 * j.val),
        (.foldEnableWrite rq 15 v, .fold, 0x20), (.ruleWrite rq r w 15 v, .rule r, if w = 0 then 0 else 4 + 4 * w.val),
        (.skBaseWrite rq c 15 v, .ch c, 0xA4), (.skTrendWrite rq c 15 v, .ch c, 0xAC), (.inTallyWrite rq c 15 v, .ch c, 0xC0),
        (.reduceWrite rq g hi 15 v, .grp g, if hi then 0x154 else 0x150), (.vidReqWrite rq 15 v, .hk, 0x3C),
        (.hoursWrite rq d b 15 v, .hours d, 4 * b.val)],
      s.serves rq (U.at p.2.1 p.2.2) → (p.2.1 = .rule r → s.regOld (F.RFX_ARM_PHASE r) = 0) →
      ∃ t, exec p.1 s = .next t ∧ ∀ y ∈ rowsAt p.2.1 p.2.2, y.acc = .rw → y.fld p.2.1 ≠ F.SK_BASE_COUNT c →
        t.reg (y.fld p.2.1) = v.toNat / 2 ^ y.lo % 2 ^ y.w

/-- R57, R61, R94, R142, R177, R257, R262, R266: what the words of a channel do at the hub die: a change of mode is accepted or refused with its code, a
word goes to a present group as it stands in the image, RELEARN clears the learned count, and a port starts, stops or admits its
device. -/
def Obligations.ChannelWords : Prop :=
  ∀ (s : State) (rq : Req) (c : Ch) (v : Word), rq ≠ .fw →
    (s.serves rq (U.at (.ch c) 0x20) →
      (v.toNat % 16 = s.imgMode c → v.toNat / 16 % 4 = s.reg (F.CH_MODE_SUPPLY c) → exec (.chModeWrite rq c 15 v) s = .next s) ∧
      (¬(v.toNat % 16 = s.imgMode c ∧ v.toNat / 16 % 4 = s.reg (F.CH_MODE_SUPPLY c)) →
        s.refusal c (v.toNat % 16) (v.toNat / 16 % 4) ≠ 0 → ∃ t, exec (.chModeWrite rq c 15 v) s = .next t ∧
          t.reg (F.CH_REFUSE_CODE c) = s.refusal c (v.toNat % 16) (v.toNat / 16 % 4) ∧ t.reg (F.CH_REFUSE_REQ_MODE c) = v.toNat % 16 ∧
          t.imgMode c = s.imgMode c ∧ t.links = s.links) ∧
      (v.toNat % 16 ≠ s.imgMode c → s.refusal c (v.toNat % 16) (v.toNat / 16 % 4) = 0 →
        s.govRefuses (modeImage s.regs c (v.toNat % 16) (v.toNat / 16 % 4)) = false → ∃ t, exec (.chModeWrite rq c 15 v) s = .next t ∧
          t.imgMode c = v.toNat % 16 ∧ t.reg (F.CH_MODE_SUPPLY c) = v.toNat / 16 % 4 ∧ t.reg (F.CH_MODE_STATUS_CHANGING c) = 1 ∧
          ∀ y ∈ t.fold.slots, slotOf c y = false)) ∧
    (∀ p ∈ [(Instr.chPermitWrite .hub rq c 15 v, 0x28), (.outCmdWrite .hub rq c 15 v, 0x40), (.pwmRunStart .hub rq c 15 v, 0x80),
        (.pwmRunEnd .hub rq c 15 v, 0x80), (.anDacWrite .hub rq c 15 v, 0xD8), (.anClampWrite .hub rq c 15 v, 0xDC)],
      s.serves rq (U.at (.ch c) p.2) → s.on (F.CH_LOCK c) = false → s.isMember c = false → s.absent (grpOf c) = false →
      ∃ t, exec p.1 s = .next t ∧
        (∃ y ∈ (t.link (grpOf c)).write, y.cmd = .write (inGroup (.ch c) p.2 / 4) (wordOf t.regs (.ch c) p.2)) ∧
        (p.2 ≠ 0x40 → p.2 ≠ 0x80 → ∀ y ∈ rowsAt (.ch c) p.2, y.acc = .rw ∨ y.acc = .rwl →
          t.reg (y.fld (.ch c)) = v.toNat / 2 ^ y.lo % 2 ^ y.w) ∧
        (p.2 = 0x40 → t.reg (F.OUT_CMD_ON c) = v.toNat % 2) ∧
        (p.2 = 0x80 → t.reg (F.TO_CFG_PWM_RUN c) = v.toNat / 2 ^ (F.TO_CFG_PWM_RUN c).lo % 2)) ∧
    (∀ p ∈ [(Instr.clearFault .hub rq c 0 false, 4), (.clearClamp .hub rq c, 2), (.clearFuse .hub rq c, 1)],
      s.serves rq (U.at (.ch c) 0x6C) → s.isMember c = false → s.absent (grpOf c) = false → ∃ t, exec p.1 s = .next t ∧
        ∃ y ∈ (t.link (grpOf c)).write, y.cmd = .write (inGroup (.ch c) 0x6C / 4) p.2) ∧
    (s.serves rq (U.at (.ch c) 0xA0) → v.toNat / 2 ^ 29 % 2 = 1 → ∃ t, exec (.relearn rq c 15 v) s = .next t ∧ t.reg (F.SK_BASE_COUNT c) = 0) ∧
    (s.serves rq (U.at (.ch c) 0xE8) → s.isPort c = true → s.fwRuns = true →
      (v.toNat / 2 ^ 31 % 2 = 1 → ∃ t, exec (.portStart rq c 15 v) s = .next t ∧ t.reg (F.IOL_CTRL_START c) = 1 ∧ t.portState c ≠ 0) ∧
      (v.toNat / 2 ^ 31 % 2 = 0 → ∃ t, exec (.portStop rq c 15 v) s = .next t ∧ t.portState c = 0 ∧ (t.ch c).port.ref = none) ∧
      (∀ d, v.toNat / 2 ^ 31 % 2 = 1 → v.toNat / 2 ^ 28 % 2 = 1 → s.portState c = 8 → s.reg (F.IOL_CTRL_REASON c) = 8 → s.noSupply c = 0 →
        (s.ch c).port.dev = some d → ∃ t, exec (.admitDevice rq c 15 v) s = .next t ∧ t.portState c = 6 ∧
          (t.ch c).port.ref = some (d.vendor, d.device, d.revision))) ∧
    (s.serves rq (U.at (.ch c) 0xEC) → ∃ t, exec (.iolPdWrite .hub rq c 15 v) s = .next t ∧
      ((s.ch c).port.dev = none ∨ s.portState c < 6 ∨ 8 < s.portState c → t.reg (F.IOL_PD_PDOUT c) = v.toNat % 2 ^ 16) ∧
      (∀ d, (s.ch c).port.dev = some d → 6 ≤ s.portState c → s.portState c ≤ 8 → t.reg (F.IOL_PD_PDOUT c) = pdMask d.pdOut (v.toNat % 2 ^ 16)))

/-- R40, R41: the words of a writable pair: a low word is staged and changes no register, and the high word then commits both in one tick;
with nothing of the pair staged only the high word changes. Time's step is asked for by its pair. -/
def Obligations.PairsCommitTogether : Prop :=
  ∀ (s : State) (rq : Req) (v : Word) (u : U) (o : Nat), rq ≠ .fw → o ∈ writePairs u → spotAt (U.at u o) = .word u o →
    linkUnit u = false ∨ s.host.dlUp = true →
    (s.serves rq (U.at u o) → s.pairHeld u o = none → ∃ t, exec (.pairLowWrite rq (U.at u o) 15 v) s = .next t ∧
      t.stageOf rq = some (U.at u o, v.toNat) ∧ t.regs = s.regs) ∧
    (∀ i ∈ [Instr.pairLowWrite rq (U.at u o) 15 v, .pairHighWrite rq (U.at u (o + 4)) 15 v], s.serves rq (U.at u o) → s.serves rq (U.at u (o + 4)) →
      s.pairHeld u o ≠ none → ∃ t, exec i s = .next t ∧ ∀ y ∈ rowsAt u o ++ rowsAt u (o + 4), t.reg (y.fld u) = s.reg (y.fld u)) ∧
    (s.serves rq (U.at u (o + 4)) → s.pairHeld u o = none → ∃ t, exec (.pairHighWrite rq (U.at u (o + 4)) 15 v) s = .next t ∧
      (∀ y ∈ rowsAt u (o + 4), y.acc = .rw → t.reg (y.fld u) = v.toNat / 2 ^ y.lo % 2 ^ y.w) ∧
      (∀ w, s.stageOf rq = some (U.at u o, w) → t.stageOf rq = none ∧
        ∀ y ∈ rowsAt u o, y.acc = .rw → t.reg (y.fld u) = w / 2 ^ y.lo % 2 ^ y.w) ∧
      ((∀ w, s.stageOf rq ≠ some (U.at u o, w)) → ∀ y ∈ rowsAt u o, t.reg (y.fld u) = s.reg (y.fld u)) ∧
      (∀ w, u = .tb → o = 0x30 → s.stageOf rq = some (U.at u o, w) → s.aligned = true → s.hub.step = none → s.hub.wait = none →
        exec (.stepCommit rq 15 v) s = .next t ∧ t.hub.step = some (sgn 64 (v.toNat * 2 ^ 32 + w % 2 ^ 32), 0, 1, s.tick)) ∧
      (∀ r, u = .rule r → exec (.armAtCommit rq r 15 v) s = .next t))

/-- R198 to R205, R215, R226: the words of a sample chain: SYNC and a change of SC_CFG make a synchronising reset, SC_SWAP asks for a bank,
DC_CLEAR clears the estimate, and a coefficient is written unless its bank is in service. -/
def Obligations.ChainWords : Prop :=
  ∀ (s : State) (rq : Req) (x : Strm) (v : Word), rq ≠ .fw →
    (s.serves rq (U.at (.chain x) 0x20) → ∀ i ∈ [Instr.chainSync rq x 15 v, .scCfgWrite rq x 15 v], ∃ t, exec i s = .next t ∧
      (∀ y ∈ rowsAt (.chain x) 0x20, y.acc = .rw → t.reg (y.fld (.chain x)) = v.toNat / 2 ^ y.lo % 2 ^ y.w) ∧
      (v.toNat / 2 ^ 31 % 2 = 1 ∨ wordOf t.regs (.chain x) 0x20 ≠ wordOf s.regs (.chain x) 0x20 →
        (t.chain x).capCnt = 0 ∧ (∀ y ∈ (t.chain x).fir, y.v = 0) ∧ (t.chain x).res = [] ∧ (t.chain x).fade = none ∧
        ((s.chain x).fade = none → (t.chain x).req = (s.chain x).req) ∧ ((s.chain x).fade ≠ none → (t.chain x).req = none) ∧
        t.reg (F.SC_STATUS_COARSE_SETTLING x) = 1 ∧ t.reg (F.SC_STATUS_FINE_SETTLING x) = 1) ∧
      (v.toNat / 2 ^ 31 % 2 = 0 → wordOf t.regs (.chain x) 0x20 = wordOf s.regs (.chain x) 0x20 → t.chains = s.chains)) ∧
    (s.serves rq (U.at (.chain x) 0x2C) → ∃ t, exec (.swapRequest rq x 15 v) s = .next t ∧
      (v.toNat / 2 ^ 15 % 2 = 0 → t = s) ∧
      (v.toNat / 2 ^ 15 % 2 = 1 → t.reg (F.SC_SWAP_FADE x) = v.toNat % 2 ^ 12 ∧ (t.chain x).fade = (s.chain x).fade ∧
        ((s.chain x).fade = none → v.toNat / 2 ^ 14 % 2 = s.reg (F.SC_SWAP_BANK x) → (t.chain x).req = none) ∧
        (¬((s.chain x).fade = none ∧ v.toNat / 2 ^ 14 % 2 = s.reg (F.SC_SWAP_BANK x)) →
          (t.chain x).req = some (v.toNat / 2 ^ 14 % 2, v.toNat % 2 ^ 12, s.tick)) ∧
        ((s.chain x).req.isSome = true → t.reg (F.SC_SWAP_REPLACED x) = min (s.reg (F.SC_SWAP_REPLACED x) + 1) (2 ^ 16 - 1) % 2 ^ 16))) ∧
    (s.serves rq (U.at (.chain x) 0x30) → v.toNat / 2 ^ 30 % 2 = 1 → ∃ t, exec (.dcClear rq x 15 v) s = .next t ∧ (t.chain x).est = 0 ∧
      t.reg (F.SC_DC_EST x) = 0) ∧
    (∀ o, o < 0x10000 → o % 4 = 0 → s.serves rq (0x20000 + o) → coefWord o = true → o % 0x400 ≠ 0x3F0 → ∃ t, exec (.coefWrite rq o 15 v) s = .next t ∧
      (s.bankUsed (o / 0x400) (o % 0x400 / 0x200) = false → t.coefRead o = unsgn 32 (sgn 18 (v.toNat % 2 ^ 18)) ∧
        ∀ p, p ≠ o → t.coefAt p = s.coefAt p) ∧
      (s.bankUsed (o / 0x400) (o % 0x400 / 0x200) = true → t.coef = s.coef ∧
        t.reg F.SCB_COEF_TALLY_DISCARDED =
          min (s.reg F.SCB_COEF_TALLY_DISCARDED + 1) (2 ^ F.SCB_COEF_TALLY_DISCARDED.w - 1) % 2 ^ F.SCB_COEF_TALLY_DISCARDED.w))

/-- R121, R229, R235, R236, R244, R280: the words of the time base, the Fold and the rules: a slew amount, a cancel mask, a rule armed or disarmed
with its phase, and a rule's condition, action and parameter, which are refused while it is armed and are made known to the group of its
target otherwise. -/
def Obligations.TimeFoldRuleWords : Prop :=
  ∀ (s : State) (rq : Req) (r : RuleNo) (v : Word), rq ≠ .fw →
    (s.serves rq (U.at .tb 0x38) → ∃ t, exec (.slewWrite rq 15 v) s = .next t ∧ t.hub.slew = sgn 32 v.toNat * 2 ^ 32 ∧
      t.reg F.TB_STATUS_SLEWING = b2n (v.toNat != 0) ∧ t.hub.time = s.hub.time) ∧
    (s.serves rq (U.at .fold 0x2C) → ∃ t, exec (.foldCancelWrite rq 15 v) s = .next t ∧
      t.fold.slots = s.fold.slots.filter fun y => !(!y.isMark && v.toNat.testBit (tgt y.target).val)) ∧
    (s.serves rq (U.at (.rule r) 4) → ∃ t, exec (.rfxArmWrite rq r 15 v) s = .next t ∧ t.reg (F.RFX_ARM_ARM r) = v.toNat / 2 ^ 30 ∧
      t.reg (F.RFX_ARM_HOLDOFF r) = v.toNat % 2 ^ 16 ∧
      t.reg (F.RFX_ARM_PHASE r) = if v.toNat / 2 ^ 30 = 1 ∨ v.toNat / 2 ^ 30 = 2 then
        (if s.now < s.pair (F.RFX_ARM_AT_LO r) (F.RFX_ARM_AT_HI r) then 1 else 2) else 0) ∧
    (∀ w : Fin 3, s.serves rq (U.at (.rule r) (if w = 0 then 0 else 4 + 4 * w.val)) → ∃ t, exec (.ruleWrite rq r w 15 v) s = .next t ∧
      (s.regOld (F.RFX_ARM_PHASE r) ≠ 0 →
        (∀ y ∈ rowsAt (.rule r) (if w = 0 then 0 else 4 + 4 * w.val), t.reg (y.fld (.rule r)) = s.reg (y.fld (.rule r))) ∧
        t.reg F.RFX_LAST_BUSY_WRITE = min (s.reg F.RFX_LAST_BUSY_WRITE + 1) (2 ^ 16 - 1) % 2 ^ 16 ∧ bit (t.reg (F.CAUSE .rfx)) 4 = true) ∧
      (s.regOld (F.RFX_ARM_PHASE r) = 0 → w ≠ 0 → r ∈ (t.link (grpOf (t.ruleTarget r))).unR ∧
        (s.absent (grpOf (t.ruleTarget r)) = false → ∃ y ∈ (t.link (grpOf (t.ruleTarget r))).rule,
          y.cmd = .rule r (t.reg (F.RFX_ACTION_CODE r)) (chN (t.ruleTarget r)) (t.reg (F.RFX_PARAM r)))))

/-- R281, R290, R291, R296, R312, R427, Table 13.13: the words of a group: a feed with its key, FORCE and UNFORCE, RELEASE and RESTART as CONTROL
commands, the acknowledgement of a supply and a request to re-tune. -/
def Obligations.GroupWords : Prop :=
  ∀ (s : State) (rq : Req) (g : Grp) (v : Word), rq ≠ .fw →
    (s.serves rq (U.at (.grp g) 0x2C) → ∃ t, exec (.grpFeed rq g 15 v) s = .next t ∧
      (v.toNat % 2 ^ 16 = 0x5AC3 → s.on (if rq = .sv then F.GRP_WD_SV g else F.GRP_WD_HOST g) = true → (t.link g).fedPend = true) ∧
      (v.toNat % 2 ^ 16 ≠ 0x5AC3 ∨ s.on (if rq = .sv then F.GRP_WD_SV g else F.GRP_WD_HOST g) = false → t.links = s.links)) ∧
    (s.serves rq (U.at (.grp g) 0x24) →
      (v.toNat = 1 → ∃ t, exec (.forceSafe rq g 15 v) s = .next t ∧ t.reg (F.GRP_STATUS_FORCED g) = 1 ∧ t.links = s.links) ∧
      (v.toNat = 2 → ∃ t, exec (.unforce rq g 15 v) s = .next t ∧ t.reg (F.GRP_STATUS_FORCED g) = 0 ∧ t.links = s.links) ∧
      (v.toNat = 4 → s.absent g = false → s.on (F.GRP_STATUS_SAFE g) = true → s.on (F.GRP_STATUS_FORCED g) = false →
        s.on (F.GRP_STATUS_GCLK_RUN g) = true → ∃ t, exec (.release rq g 15 v) s = .next t ∧ ∃ y, (t.link g).ctrl = (s.link g).ctrl ++ [y] ∧
          y.cmd = .control 2 (s.link g).ctlSeq) ∧
      (v.toNat = 8 → s.grpState g ≠ 0 → ∃ t, exec (.restart rq g 15 v) s = .next t ∧ t.grpState g = 6 ∧
        t.reg (F.GRP_ATTACH_RESTARTS g) =
          min (s.reg (F.GRP_ATTACH_RESTARTS g) + 1) (2 ^ (F.GRP_ATTACH_RESTARTS g).w - 1) % 2 ^ (F.GRP_ATTACH_RESTARTS g).w ∧
        ∃ y ∈ (t.link g).ctrl, ∃ q, y.cmd = .control 3 q)) ∧
    (s.serves rq (U.at (.grp g) 0x84) → v.toNat % 2 = 1 → s.absent g = false → s.on (F.GRP_SUP_STATUS_AWAIT_ACK g) = true → ∃ t, exec (.supplyAck .hub rq g 15 v) s = .next t ∧
      ∃ y ∈ (t.link g).write, y.cmd = .write (0x84 / 4) 1) ∧
    (s.serves rq (U.at (.grp g) 0x15C) → v.toNat / 2 ^ 31 % 2 = 1 → s.grpState g = 3 → ∃ t, exec (.retune rq g 15 v) s = .next t ∧
      t.reg (F.GRP_AGE_EYE_RETUNING g) = 1)

/-- R334, R340, R341, R396, R457, R458: the words that bring a ring up, down and back from a halt, that reset the hub die, and that ask for the end
of keeper mode. -/
def Obligations.RingAndResetWords : Prop :=
  ∀ (s : State) (rq : Req) (v : Word), rq ≠ .fw →
    (∀ n : RingNo, n.val ≠ 7 → s.host.dlUp = true → s.serves rq (U.at (.ring n) 8) →
      (s.on (F.RING_CFG_ENABLE n) = false → v.toNat % 2 = 1 → ∃ t, exec (.ringEnable rq n 15 v) s = .next t ∧ t.reg (F.RING_CFG_ENABLE n) = 1 ∧
        t.reg (F.RING_PROD n) = 0 ∧ t.reg (F.RING_CONS n) = 0 ∧ t.reg (F.RING_CFG_LOG2 n) = v.toNat / 2 ^ 16 % 2 ^ 5 ∧
        t.reg (F.RING_CFG_PAYLOAD_ONLY n) = v.toNat / 2 ^ 8 % 2) ∧
      (s.on (F.RING_CFG_ENABLE n) = true → v.toNat % 2 = 0 → ∃ t, exec (.ringDisable rq n 15 v) s = .next t ∧ t.reg (F.RING_CFG_ENABLE n) = 0 ∧
        t.reg (F.RING_SEQ n) = s.reg (F.RING_SEQ n) ∧ t.reg (F.RING_PROD n) = s.reg (F.RING_PROD n) ∧
        (n.val = 2 → t.host.head2 = none) ∧ (n.val = 3 → t.host.notif = [])) ∧
      (s.on (F.RING_CFG_ENABLE n) = true → v.toNat % 4 = 3 → s.on (F.RING_STATUS_HALTED n) = true →
        s.reg (F.RING_STATUS_CAUSE n) = 1 ∨ s.reg (F.RING_STATUS_CAUSE n) = 2 → ∃ t, exec (.ringResume rq n 15 v) s = .next t ∧
        t.reg (F.RING_STATUS_HALTED n) = 0 ∧ t.reg (F.RING_STATUS_CAUSE n) = 0 ∧ (t.ring n).fails = 0 ∧
        t.reg (F.RING_CONS n) = s.reg (F.RING_CONS n))) ∧
    (s.serves rq 0x24 →
      (v.toNat = 0x3A5C0001 → ∃ t, exec (.rootSoftReset rq 15 v) s = .next t ∧ t.hub.run = .running ∧ t.hub.time = s.hub.time ∧ t.die = s.die ∧
        t.reg F.ROOT_RESET_STATUS_SOFT_RESETS = min (s.reg F.ROOT_RESET_STATUS_SOFT_RESETS + 1) (2 ^ F.ROOT_RESET_STATUS_SOFT_RESETS.w - 1) %
          2 ^ F.ROOT_RESET_STATUS_SOFT_RESETS.w) ∧
      (v.toNat = 0x3A5C0002 → ∃ t, exec (.hubDieResetRequest rq 15 v) s = .next t ∧ t.hub.run = .reset ∧ t.reg F.ROOT_RESET_STATUS_CAUSE = 1 ∧
        t.die = s.die ∧ t.dies = s.dies ∧
        t.reg F.ROOT_RESET_STATUS_HUB_RESETS = min (s.reg F.ROOT_RESET_STATUS_HUB_RESETS + 1) (2 ^ F.ROOT_RESET_STATUS_HUB_RESETS.w - 1) %
          2 ^ F.ROOT_RESET_STATUS_HUB_RESETS.w) ∧
      (v.toNat / 2 ^ 16 ≠ 0x3A5C → ∀ i ∈ [Instr.rootSoftReset rq 15 v, .hubDieResetRequest rq 15 v], ∃ t, exec i s = .next t ∧ t.hub = s.hub ∧
        t.host = s.host)) ∧
    (s.serves rq (U.at .sv 0x30) → v.toNat % 2 = 1 → ∃ t, exec (.handbackRequest rq 15 v) s = .next t ∧ t.reg F.SV_KEEP_HOST_REQ = 1)

/-- R364: DRV_CTRL.RECOVER clears BUS_ERR and moves every channel halted with cause 4 to IDLE; DRV_CH_CUR keeps its descriptor. -/
def Obligations.DroverRecovery : Prop :=
  ∀ (s : State) (rq : Req), rq ≠ .fw → s.host.dlUp = true → s.serves rq (U.at .drv 0x20) → ∃ t, exec (.recover rq) s = .next t ∧
    t.reg F.DRV_STATUS_BUS_ERR = 0 ∧
    ∀ k : DrvNo, t.reg (F.DRV_CH_CUR_LO k) = s.reg (F.DRV_CH_CUR_LO k) ∧ t.reg (F.DRV_CH_CUR_HI k) = s.reg (F.DRV_CH_CUR_HI k) ∧
      (s.drvState k = 4 → s.reg (F.DRV_CH_STATUS_CAUSE k) = 4 → t.drvState k = 0) ∧
      (¬(s.drvState k = 4 ∧ s.reg (F.DRV_CH_STATUS_CAUSE k) = 4) → t.drvState k = s.drvState k)

/-- R357, R366, R370, R375: the words of the Drover's channels and of the check units: configuration and streams are discarded while the channel
is active, a channel is stopped or cleared, a unit is bound unless R370 refuses it, and CK_RUN opens its block, ABANDON closes it. -/
def Obligations.DroverAndCheckWords : Prop :=
  ∀ (s : State) (rq : Req) (k : DrvNo) (u : CkNo) (v : Word), rq ≠ .fw → s.host.dlUp = true →
    (s.serves rq (U.at (.drvCh k) 0) → ∃ t, exec (.drvCfgWrite rq k 0 15 v) s = .next t ∧ t.reg (F.DRV_CH_EVENT_DB_IGNORED k) = s.reg (F.DRV_CH_EVENT_DB_IGNORED k) ∧
      (s.drvActive k = true → t.reg (F.DRV_CH_CFG_HDR k) = s.reg (F.DRV_CH_CFG_HDR k) ∧
        t.reg (F.DRV_CH_COUNTS_BUSY_WRITE k) = min (s.reg (F.DRV_CH_COUNTS_BUSY_WRITE k) + 1) (2 ^ 8 - 1) % 2 ^ 8) ∧
      (s.drvActive k = false → t.reg (F.DRV_CH_CFG_HDR k) = v.toNat / 2 ^ 31)) ∧
    (∀ w : Fin 3, w ≠ 0 → s.serves rq (U.at (.drvCh k) (4 * w.val)) → s.drvActive k = true → ∃ t, exec (.drvCfgWrite rq k w 15 v) s = .next t ∧
      (w = 1 → t.stageOf rq = s.stageOf rq) ∧
      t.reg (F.DRV_CH_STREAMS_LO k) = s.reg (F.DRV_CH_STREAMS_LO k) ∧ t.reg (F.DRV_CH_STREAMS_HI k) = s.reg (F.DRV_CH_STREAMS_HI k) ∧
      t.reg (F.DRV_CH_COUNTS_BUSY_WRITE k) = min (s.reg (F.DRV_CH_COUNTS_BUSY_WRITE k) + 1) (2 ^ 8 - 1) % 2 ^ 8) ∧
    (s.serves rq (U.at (.drvCh k) 4) → s.drvActive k = false → ∃ t, exec (.drvCfgWrite rq k 1 15 v) s = .next t ∧ t.regs = s.regs ∧
      t.stageOf rq = some (U.at (.drvCh k) 4, v.toNat)) ∧
    (s.serves rq (U.at (.drvCh k) 0x3C) →
      (∃ t, exec (.drvStop k (some rq)) s = .next t ∧ (s.drvState k = 1 → t.drvState k = 2) ∧
        (s.drvState k = 3 → t.drvState k = 0) ∧ (s.drvState k ≠ 1 → s.drvState k ≠ 3 → t.drvState k = s.drvState k)) ∧
      (∃ t, exec (.drvClear rq k) s = .next t ∧
        (s.drvState k = 4 → s.reg (F.DRV_CH_STATUS_CAUSE k) ∈ [1, 2, 3, 5] → t.drvState k = 0 ∧ t.reg (F.DRV_CH_STATUS_CAUSE k) = 0) ∧
        (¬(s.drvState k = 4 ∧ s.reg (F.DRV_CH_STATUS_CAUSE k) ∈ [1, 2, 3, 5]) → t.drvState k = s.drvState k))) ∧
    (2 ≤ u.val → s.serves rq (U.at (.ckU u) 0) → ∃ t, exec (.ckBindWrite rq u 15 v) s = .next t ∧
      (s.bindRefused u v.toNat = true → t.reg (F.CK_BIND_CHANNEL u) = s.reg (F.CK_BIND_CHANNEL u) ∧ t.reg (F.CK_BIND_EN u) = s.reg (F.CK_BIND_EN u) ∧
        t.reg (F.CK_BLOCK_TALLY_BUSY_WRITE u) = min (s.reg (F.CK_BLOCK_TALLY_BUSY_WRITE u) + 1) (2 ^ 8 - 1) % 2 ^ 8 ∧
        bit (t.reg (F.CAUSE .ck)) 16 = true) ∧
      (s.bindRefused u v.toNat = false → t.reg (F.CK_BIND_CHANNEL u) = v.toNat % 2 ^ 5 ∧ t.reg (F.CK_BIND_EN u) = v.toNat / 2 ^ 31 ∧
        (v.toNat / 2 ^ 31 = 0 → s.on (F.CK_BIND_EN u) = true → t.reg (F.CK_STATUS_IN_BLOCK u) = 0))) ∧
    (2 ≤ u.val → s.serves rq (U.at (.ckU u) 0x10) → ∃ t, exec (.ckRunWrite rq u 15 v) s = .next t ∧
      (s.ckBusy u = true → t.reg (F.CK_RUN u) = s.reg (F.CK_RUN u)) ∧
      (s.ckBusy u = false → t.reg (F.CK_RUN u) = v.toNat ∧ t.reg (F.CK_STATUS_IN_BLOCK u) = 1)) ∧
    (2 ≤ u.val → s.serves rq (U.at (.ckU u) 0x18) → ∃ t, exec (.abandon rq u) s = .next t ∧ t.reg (F.CK_STATUS_IN_BLOCK u) = 0 ∧
      t.reg (F.CK_STATUS_CARRIED u) = 0 ∧ t.reg (F.CK_SEQ u) = s.reg (F.CK_SEQ u))

/-- R398, R400, R402 to R404, R407, Tables 19.8 to 19.13: the words of the embedded controller: a verification, a staged image put to work, a restart, a
stop, a kick with its key, and its RAM through the window. -/
def Obligations.ControllerWords : Prop :=
  ∀ (s : State) (rq : Req) (v : Word), rq ≠ .fw →
    (s.serves rq (U.at .fw 0x24) →
      (v.toNat = 1 → s.fw.jobs = [] → ∃ t, exec (.verify rq 15 v) s = .next t ∧ t.fw.jobs = [.stage s.idleSlot s.fwState]) ∧
      (v.toNat = 2 → s.on F.FW_STATUS_STAGED = true → ∃ t, exec (.activate rq 15 v) s = .next t ∧
        (s.fwState = 2 ∨ s.fwState = 7 → t.fwState = 3 ∧ t.reg F.FW_STATUS_SLOT = s.reg F.FW_STATUS_SLOT) ∧
        (s.imageRuns = false → t.fwState = 7 ∧ t.reg F.FW_STATUS_SLOT = s.fw.staged % 2 ∧ t.reg F.FW_STATUS_STAGED = 0 ∧
          t.reg F.FW_VERSION = s.slotNum s.fw.staged 8 4 % 2 ^ 32)) ∧
      (v.toNat = 4 → s.fw.ran ≠ none → s.fwState ≠ 4 → ∃ t, exec (.fwRestart rq 15 v) s = .next t ∧
        ((s.fw.restarts.filter fun a => decide (s.tick < a + 2500000000)).length < 2 → t.fwState = 4 ∧ t.fw.jobs = s.fw.jobs ++ [.restart true]) ∧
        (2 ≤ (s.fw.restarts.filter fun a => decide (s.tick < a + 2500000000)).length → t.fwState = 5 ∧ t.reg F.FW_STATUS_FAIL = 8)) ∧
      (v.toNat = 8 → ∃ t, exec (.fwStop rq 15 v) s = .next t ∧ t.fwState = 6 ∧ t.fw.jobs = s.fw.jobs)) ∧
    (s.serves .fw (U.at .fw 0x2C) → v.toNat % 2 ^ 16 = 0x6C39 → s.fwState = 7 → ∃ t, exec (.fwKick .fw 15 v) s = .next t ∧ t.fwState = 2) ∧
    (s.serves rq (U.at .fw 0x3C) → ∃ t, exec (.ramDataAccess rq (some (15, v))) s = .next t ∧
      t.reg F.FW_RAM_ADDR = (s.reg F.FW_RAM_ADDR + 1) % 2 ^ 16 ∧
      (s.ramOpen (4 * s.reg F.FW_RAM_ADDR) = true → t.ramWord (4 * s.reg F.FW_RAM_ADDR) = v.toNat ∧ t.reg F.FW_STATUS_STAGED = 0) ∧
      (s.ramOpen (4 * s.reg F.FW_RAM_ADDR) = false → t.fw = s.fw ∧
        t.reg F.FW_TALLY_RAM_DISCARD = min (s.reg F.FW_TALLY_RAM_DISCARD + 1) (2 ^ F.FW_TALLY_RAM_DISCARD.w - 1) % 2 ^ F.FW_TALLY_RAM_DISCARD.w))

/-- R436: a write of LDG_FW_POST with a CODE from 0xF0 to 0xFE posts a record with DATA from LDG_FW_DATA and SOURCE 0, its CLASS at most 2; any other
CODE is discarded and sets POST_DISCARD. A record that finds no room in the hub's queue is lost and counted (R434). -/
def Obligations.LedgerPosts : Prop :=
  ∀ (s : State) (rq : Req) (v : Word), s.serves rq (U.at .ldg 0x48) →
    (∃ t, exec (.ledgerPost rq 15 v) s = .next t ∧
      (0xF0 ≤ v.toNat % 2 ^ 8 → v.toNat % 2 ^ 8 ≤ 0xFE → s.ldg.queue.length < 14 → ∃ r : LRec, t.ldg.queue = queueRec r s.ldg.queue ∧ r.raised = s.tick ∧
        r.code = v.toNat % 2 ^ 8 ∧ r.src = 0 ∧ r.cls = min 2 (v.toNat / 2 ^ 8 % 2 ^ 3) ∧ r.ch = v.toNat / 2 ^ 16 % 2 ^ 8 ∧
        r.data = s.reg F.LDG_FW_DATA_A + 2 ^ 32 * s.reg F.LDG_FW_DATA_B) ∧
      (0xF0 ≤ v.toNat % 2 ^ 8 → v.toNat % 2 ^ 8 ≤ 0xFE → 14 ≤ s.ldg.queue.length → t.ldg = s.ldg ∧
        t.reg F.LDG_TALLY_LOST = min (s.reg F.LDG_TALLY_LOST + 1) (2 ^ 8 - 1) % 2 ^ 8) ∧
      (v.toNat % 2 ^ 8 < 0xF0 ∨ 0xFE < v.toNat % 2 ^ 8 → t.ldg = s.ldg ∧ bit (t.reg (F.CAUSE .ldg)) 4 = true)) ∧
    (∀ o, o ≠ 0x10 → (s.fwMayWrite .ldg o = true ↔ o = 0x40 ∨ o = 0x44 ∨ o = 0x48)) ∧
    (∀ (r : LRec) (l : List LRec), s.ldg.queue = r :: l → r.cls ≤ 2 → ∃ t, exec .ledgerWrite s = .next t ∧
      t.reg F.LDG_STATUS_FAULT = s.reg F.LDG_STATUS_FAULT ∧ t.reg F.LDG_STATUS_FROZEN = s.reg F.LDG_STATUS_FROZEN)

/-- R439, R443: FAULT_ACK releases FAULT_N with its record unless a stuck-on latch remains, when it does nothing, and UNFREEZE returns
the frozen slots to use with its record. -/
def Obligations.LedgerControlWords : Prop :=
  ∀ (s : State) (rq : Req) (v : Word), rq ≠ .fw → s.serves rq (U.at .ldg 0x20) →
    (v.toNat = 1 → ∃ t, exec (.faultAck rq 15 v) s = .next t ∧
      (s.on F.LDG_STATUS_FAULT = true → s.stuckLatch = false → t.reg F.LDG_STATUS_FAULT = 0 ∧
        (s.ldg.queue.length < 14 → ∃ r : LRec, t.ldg.queue = queueRec r s.ldg.queue ∧ r.code = 0x0E ∧ r.cls = 0)) ∧
      (s.stuckLatch = true → t.reg F.LDG_STATUS_FAULT = s.reg F.LDG_STATUS_FAULT ∧ t.ldg = s.ldg)) ∧
    (v.toNat = 2 → s.on F.LDG_STATUS_FROZEN = true → ∃ t, exec (.unfreeze rq 15 v) s = .next t ∧ t.reg F.LDG_STATUS_FROZEN = 0 ∧
      (∀ k, t.hubFrozen k = false) ∧ (∀ g : Grp, t.reg (F.LDG_LOCAL_FROZEN g) = 0 ∧ ∀ p ∈ t.ldg.copies[g.val].slots, p.2.frozen = false) ∧
      (s.ldg.queue.length < 14 → ∃ r : LRec, t.ldg.queue = queueRec r s.ldg.queue ∧ r.code = 0x0F ∧ r.cls = 0))

/-- R378 to R395, Tables 18.2, 18.3 and 18.13: the frames of the supervisor port. SV_CS_N starts a frame; an accepted frame takes its ALIVE and is
counted, shifts its words out or is committed; a frame that fails a test is flagged and counted and does nothing else; one that came during a
commit is ignored, and shows in SV_STATUS alone, and one begun before CCLK had locked commits nothing. In keeper mode a host write is discarded and counted. -/
def Obligations.SupervisorFrames : Prop :=
  ∀ (s : State) (f : SvFrame), s.hubOn = true →
    (s.sv.inFrame = true → s.sv.mute = true → ∀ i ∈ [Instr.svRead f, .svWrite f, .feed f, .group f, .keepEnter f, .keepExit f, .output f, .svDac f,
        .svFrameRejected f], ∃ t, exec i s = .next t ∧ t.regs = s.regs ∧ t.die = s.die ∧ t.links = s.links ∧ t.sv.lastAlive = s.sv.lastAlive) ∧
    (∀ cpol, s.sv.inFrame = false → ∃ t, exec (.svFrameStart cpol) s = .next t ∧ t.sv.inFrame = true ∧ t.sv.busy = decide (s.tick < s.sv.commit) ∧
      t.sv.status = s.svStatus (decide (s.tick < s.sv.commit)) ∧ t.sv.dRd = s.reg F.SV_CFG_DUMMY_RD ∧ t.sv.dWr = s.reg F.SV_CFG_DUMMY_WR) ∧
    (s.sv.inFrame = true → s.sv.mute = false → s.sv.busy = true → ∀ i ∈ [Instr.svRead f, .svWrite f, .feed f, .group f, .output f, .svDac f], ∃ t, exec i s = .next t ∧
      (∀ x, x ≠ F.SV_STATUS → t.reg x = s.reg x) ∧ t.die = s.die ∧ t.links = s.links ∧ t.sv.lastAlive = s.sv.lastAlive) ∧
    (s.sv.inFrame = true → s.sv.mute = false → s.sv.busy = false → s.svJudge f = 0 →
      (∀ p ∈ [(Instr.svRead f, 1), (.feed f, 3), (.group f, 4), (.output f, 6), (.svDac f, 7)], SvFrame.op f = p.2 → ∃ t, exec p.1 s = .next t ∧
        t.sv.inFrame = false ∧ t.sv.lastAlive = some (SvFrame.alive f) ∧
        t.reg F.SV_TALLY_A_GOOD = min (s.reg F.SV_TALLY_A_GOOD + 1) (2 ^ 16 - 1) % 2 ^ 16 ∧ (p.2 ≠ 1 → t.sv.commit = s.tick + SvFrame.count f + 5)) ∧
      (SvFrame.op f = 1 → s.svLate f = false → ∃ t, exec (.svRead f) s = .next t ∧ t.links = s.links ∧ t.die = s.die ∧ ∃ crc, t.sv.miso =
        (State.svReadWords { s with sv := { s.sv with inFrame := false } } (SvFrame.word f) (s.svShifted f)).1 ++ [crc]) ∧
      (SvFrame.op f = 2 → ∃ t, exec (.svWrite f) s = .next t ∧ t.sv.inFrame = false ∧ t.sv.lastAlive = some (SvFrame.alive f) ∧
        (SvFrame.count f = 1 → 4 * SvFrame.word f = U.at .tb 0x2C → t.reg F.TB_RATE = SvFrame.at f 0)) ∧
      (SvFrame.op f = 3 → ∃ t, exec (.feed f) s = .next t ∧ ∀ g : Grp, (SvFrame.at f 0).testBit g.val = true → s.on (F.GRP_WD_SV g) = true →
        (t.link g).fedPend = true) ∧
      (SvFrame.op f = 4 → ∃ t, exec (.group f) s = .next t ∧ ∀ g : Grp, (SvFrame.at f 0 / 2 ^ 8).testBit g.val = true →
        (SvFrame.at f 0 % 2 = 1 → t.reg (F.GRP_STATUS_FORCED g) = 1) ∧
        (SvFrame.at f 0 / 8 % 2 = 1 → s.absent g = false → ∃ y ∈ (t.link g).write, y.cmd = .write (0x84 / 4) 1)) ∧
      (SvFrame.op f = 5 → SvFrame.at f 0 % 2 = 1 → ∃ t, exec (.keepEnter f) s = .next t ∧ t.sv.keeper = true ∧ t.reg F.SV_KEEP_ACTIVE = 1 ∧
        t.fold.slots = [] ∧ t.host.head2 = none ∧ t.reg F.FOLD_CTRL_ENABLE = 0 ∧ t.reg F.RFX_CTRL_ENABLE = 0 ∧
        t.reg F.SV_KEEP_ENTRIES = min (s.reg F.SV_KEEP_ENTRIES + 1) (2 ^ 16 - 1) % 2 ^ 16) ∧
      (SvFrame.op f = 5 → SvFrame.at f 0 % 2 = 0 → s.sv.keeper = true → ∃ t, exec (.keepExit f) s = .next t ∧ t.sv.keeper = false ∧
        t.reg F.SV_KEEP_ACTIVE = 0 ∧ t.reg F.SV_KEEP_HOST_REQ = 0 ∧ t.fold.slots = s.fold.slots) ∧
      (SvFrame.op f = 6 → ∃ t, exec (.output f) s = .next t ∧ ∀ c : Ch, (SvFrame.at f 0).testBit c.val = true → s.imgMode c ∈ [1, 2, 9] →
        s.isMember c = false → t.reg (F.OUT_CMD_ON c) = b2n (bit (SvFrame.at f 1) c.val)) ∧
      (SvFrame.op f = 7 → SvFrame.count f = 1 → ∃ t, exec (.svDac f) s = .next t ∧ ∀ c : Ch, SvFrame.at f 0 / 2 ^ 16 % 32 = c.val →
        s.imgMode c ∈ [6, 7] → t.reg (F.AN_DAC_CODE c) = SvFrame.at f 0 % 2 ^ 16)) ∧
    (s.sv.inFrame = true → s.sv.mute = false → s.sv.busy = false → ∀ k, s.svJudge f = k → k ≠ 0 → ∃ t, exec (.svFrameRejected f) s = .next t ∧ t.sv.inFrame = false ∧
      t.sv.lastAlive = s.sv.lastAlive ∧ t.die = s.die ∧ t.links = s.links ∧ t.sv.keeper = s.sv.keeper ∧
      (k = 1 → bit t.sv.flags 26 = true ∧ t.reg F.SV_TALLY_B_ABORTED = min (s.reg F.SV_TALLY_B_ABORTED + 1) (2 ^ 16 - 1) % 2 ^ 16) ∧
      (k = 2 → bit t.sv.flags 25 = true ∧ t.reg F.SV_TALLY_A_CRC_ERR = min (s.reg F.SV_TALLY_A_CRC_ERR + 1) (2 ^ 16 - 1) % 2 ^ 16) ∧
      (k = 3 → bit t.sv.flags 24 = true ∧ t.reg F.SV_TALLY_B_STALE = min (s.reg F.SV_TALLY_B_STALE + 1) (2 ^ 16 - 1) % 2 ^ 16) ∧
      (k = 4 → bit t.sv.flags 23 = true ∧ t.reg F.SV_TALLY_C_MALFORMED = min (s.reg F.SV_TALLY_C_MALFORMED + 1) (2 ^ 8 - 1) % 2 ^ 8) ∧
      (k = 5 → bit t.sv.flags 20 = true ∧ t.reg F.SV_LAST_REASON = 4)) ∧
    (∀ rq a (be : Fin 16) (v : Word), s.sv.keeper = true → rq = .host ∨ rq = .ring0 → s.arrives rq → be.val ≠ 0 → a / 4 * 4 ≠ 0x5430 →
      ∃ t, exec (.registerWrite rq a be v) s = .next t ∧ t.die = s.die ∧ t.links = s.links ∧ t.hub = s.hub ∧
      t.reg F.SV_TALLY_C_HOST_DISCARD = min (s.reg F.SV_TALLY_C_HOST_DISCARD + 1) (2 ^ 16 - 1) % 2 ^ 16)

/-- Log entry 1: a step with a command at the front of the queue is the command's effect on the state with the queue's rest. -/
def Obligations.StepRunsFront : Prop :=
  ∀ (s : State) (c : Instr) (l : List Instr), s.pending = c :: l → step s = exec c { s with pending := l }

/-- Every command of the table goes on: it neither faults nor is refused, and it leaves the queue of waiting commands as it is (log
entry 1). -/
def Obligations.EveryCommandGoesOn : Prop :=
  ∀ (s : State) (i : Instr), ∃ t, exec i s = .next t ∧ t.pending = s.pending

/-- R24, R29, R55, R235, R283, R393, R453, Table 1.10 to 1.12: the state right after reset: the hub die in its power-on reset, every field at its reset value,
no group die powered, every group absent and every channel disabled, nothing armed and no keeper mode; and all of it in canonical form. -/
def Obligations.ResetState : Prop :=
  State.reset.Canon ∧ State.reset.pending = [] ∧ State.reset.hub.run = .por ∧ State.reset.hubOn = false ∧ State.reset.hub.time = 0 ∧
  (∀ f, State.reset.reg f = f.dflt ∧ State.reset.dreg f = f.dflt) ∧
  State.reset.reg F.ROOT_GOV_CEILING = 8630 ∧ State.reset.reg F.ROOT_GOV_MODEL = 3300 ∧ govModel State.reset.regs = 3300 ∧
  (∀ g : Grp, State.reset.reg (vdeclFld g) = 150 ∧ State.reset.grpState g = 0 ∧ State.reset.absent g = true ∧
    (State.reset.dieOf g).powered = false ∧ State.reset.dieOn g = false) ∧
  (∀ c : Ch, State.reset.imgMode c = 0 ∧ (State.reset.ch c).mode = 0 ∧ (State.reset.ch c).work = .off ∧ (State.reset.ch c).sw = false) ∧
  (∀ r : RuleNo, State.reset.reg (F.RFX_ARM_PHASE r) = 0) ∧ State.reset.fold.slots = [] ∧ State.reset.sv.keeper = false ∧
  (∀ r : RingNo, State.reset.on (F.RING_CFG_ENABLE r) = false) ∧ (∀ k : DrvNo, State.reset.drvState k = 0) ∧ State.reset.imageRuns = false

/-- Every step, of a command or of a tick, keeps the canonical form: the registers of the hub die, the fields at the group dies, the hidden mirrors
and the controller RAM list no entry twice, none out of order, none equal to its reset value and none beyond its field's width
(log entries 1, 2 and 11). -/
def Obligations.StepKeepsCanon : Prop := ∀ (s t : State), s.Canon → step s = .next t → t.Canon

/-- R10: a host reset through PERST_N, and the root soft reset, neither clear a lock bit nor change an RWL field, at the hub die or at a group
die. -/
def Obligations.HostResetsKeepLocks : Prop :=
  ∀ (s : State) (rq : Req) (be : Fin 16) (v : Word), v.toNat / 2 % 2 = 0 →
    ∀ i ∈ [Instr.perstN, .rootSoftReset rq be v], ∃ t, exec i s = .next t ∧ t.die = s.die ∧
      ∀ u : U, (∀ f, lockFld u = some f → t.reg f = s.reg f) ∧ (∀ r ∈ layout u, r.acc = .rwl → t.reg (r.fld u) = s.reg (r.fld u))

/-- R29: the governor registers are reset by the power-on reset of the hub die alone; neither PERST_N nor the root soft reset nor any other reset or
supply event changes them. -/
def Obligations.GovernorResets : Prop :=
  ∀ (s : State) (f : Fld) (rq : Req) (be : Fin 16) (b : Bool), f.unit = .root → 0x40 ≤ f.off → f.off ≤ 0x4C →
    (∃ t, exec (.hubPowerOnReset b) s = .next t ∧ t.reg f = f.dflt) ∧
    (∀ i ∈ [Instr.perstN, .rootSoftReset rq be 0x3A5C0001#32, .perstNRelease, .hotReset, .linkDown, .functionLevelReset, .pclkLost, .phyRailLow,
        .phyRailRise, .xinLost, .xinReturn, .vddIoFall, .boundaryScanReset b, .hubDieResetRequest rq be 0x3A5C0002#32, .hubResetEnd,
        .powerOnResetEnd, .cclkLock, .pllLockLoss, .vauxApplied, .vauxLost, .hubRailRise],
      ∃ t, exec i s = .next t ∧ t.reg f = s.reg f)

/-- R36: an access to an offset in no unit's span and in no window: a read returns 0, a write changes nothing, no error is signalled on the link,
UNMAPPED counts it and its cause is set; a reserved word of a unit reads 0, ignores a write, and is not counted. -/
def Obligations.UnmappedAccesses : Prop :=
  ∀ (s : State) (rq : Req) (a : Nat) (be : Fin 16) (v : Word), s.serves rq a →
    ((rq = .host → a < 0x100000) → spotAt (a / 4 * 4) = .unmapped → ∀ i ∈ [Instr.pairLowRead rq a, .registerWrite rq a be v], (i = .registerWrite rq a be v → be.val ≠ 0) →
      ∃ t, exec i s = .next t ∧ (i = .pairLowRead rq a → t.hub.rdata[(reqSlot rq).val] = 0) ∧
      t.reg F.ROOT_ACCESS_TALLY_A_UNMAPPED =
        min (s.reg F.ROOT_ACCESS_TALLY_A_UNMAPPED + 1) (2 ^ F.ROOT_ACCESS_TALLY_A_UNMAPPED.w - 1) % 2 ^ F.ROOT_ACCESS_TALLY_A_UNMAPPED.w ∧
      bit (t.reg (F.CAUSE .root)) 0 = true ∧
      (∀ f, f ≠ F.ROOT_ACCESS_TALLY_A_UNMAPPED → f ≠ F.CAUSE .root → f ≠ F.ROOT_ACCESS_TALLY_B_CROSS_BLOCKED → (rq = .fw → f.unit ≠ .fw) →
        t.reg f = s.reg f) ∧
      t.die = s.die ∧ t.links = s.links ∧ t.coef = s.coef ∧ t.fw = s.fw ∧ t.host.aerUnc = s.host.aerUnc ∧ t.host.aerCor = s.host.aerCor ∧
      t.host.fatal = s.host.fatal) ∧
    (∀ u o, spotAt (a / 4 * 4) = .word u o → rowsAt u o = [] → (u.isUnit = true → 0x10 ≤ o ∧ o ≠ 0x1C) → s.formed u o = none → rq ≠ .fw →
      s.unitWord u o = 0 ∧ ∃ t, exec (.registerWrite rq a be v) s = .next t ∧ t.reg F.ROOT_ACCESS_TALLY_A_UNMAPPED = s.reg F.ROOT_ACCESS_TALLY_A_UNMAPPED ∧
      (∀ y ∈ layout u, t.reg (y.fld u) = s.reg (y.fld u) ∨ y.off = 0x10))

/-- What stays as it was (R1 to R4, R15, R17, R43): what happens at a group die alone changes nothing that the hub die holds; what happens at the hub
die, its host link or its supplies changes nothing at a group die and no hidden mirror; and a rule's phase, a coarse sample, an hour bin or
the baseline run changes no other register. -/
def Obligations.CommandsStayOnTheirSide : Prop :=
  (∀ (s : State) (c : Ch) (g : Grp) (b : Bool) (j k : ChN) (n : Nat) (z z' : Int) (o : Option CrossSeen),
    ∀ i ∈ [Instr.analogHot c, .analogHotClear c, .bufferOverload c b, .checkResume g, .clampDisarm c z, .compliance c,
        .complianceClear c, .conversionDone g n, .dacRampStep c, .dlAction g, .dlIol g, .dlRule g, .dlStep g, .gclkReturn g,
        .holdCapMeasured g n, .holdupBegin g z n, .holdupEnd g z n, .hourlyCommit g, .inOverload c, .inrushWindowEnd c z,
        .limitReached ⟨c, z⟩, .limitingLeft ⟨c, z⟩, .localCommitEnd g, .lockoutRelease g z n, .loopCheck g k b, .loopShort c, .loopSupplyRetry c b,
        .mismatch g k, .offCheckPhase c b o, .olWindowExpiry c, .ovClear g z n, .pairImbalance c, .reverseClear g z n,
        .senseCrossing c n, .sequenceA g, .sequenceB g, .shuntRetry c b, .thermWarn c z, .urgentConversion g, .uvWarnClear g z n, .uvWarnSet g z n,
        .wireBreakClear g k, .wireBreakSet g k, .wiredDetect g j k (z, z')],
      ∀ t, exec i s = .next t → t.regs = s.regs ∧ t.hid = s.hid ∧ t.hub = s.hub ∧ t.host = s.host ∧ t.links = s.links ∧ t.chains = s.chains ∧
        t.coef = s.coef ∧ t.fold = s.fold ∧ t.rfx = s.rfx ∧ t.drv = s.drv ∧ t.ck = s.ck ∧ t.sv = s.sv ∧ t.fw = s.fw ∧ t.hk = s.hk ∧ t.ldg = s.ldg) ∧
  (∀ (s : State) (c : Ch) (g : Grp) (n : Nat) (z : Int), ∀ i ∈ [Instr.comparatorChange c z, .gndfLoss g, .holdupExhausted g z n, .mclkLost g], ∀ t, exec i s = .next t →
    t.hid = s.hid ∧ t.hub = s.hub ∧ t.links = s.links ∧ t.chains = s.chains ∧ t.coef = s.coef ∧ t.fold = s.fold ∧ t.drv = s.drv ∧
    t.ck = s.ck ∧ t.sv = s.sv ∧ t.fw = s.fw ∧ t.hk = s.hk ∧ t.ldg = s.ldg) ∧
  (∀ (s : State) (c : Ch) (g : Grp) (x : Strm) (r : RuleNo) (n : RingNo) (k : DrvNo) (b : Bool) (a a' : Nat) (be : Fin 16) (v : Word) (e e' : List Byte)
      (er : PcieErr) (m : Fin 5) (z z' z2 z3 : Int),
    ∀ i ∈ [Instr.baselineRunStart, .baselineWrite a a', .bootSequence b e e', .cancelEntry, .captureSample x, .coarseSample x,
        .conditionEvaluate g, .configWrite a be v, .crossingTimeout c, .descriptorFetch k e, .descriptorStart b, .doorbell a e,
        .driverOverload c, .driverRetry c b, .drvContinue k, .drvStart k, .edgeDoneTimeout c, .entryRefetch n e, .fineSample x, .firOutput x,
        .functionLevelReset, .fwWatchdogExpiry b e e', .handover, .handoverTimeout, .holdoffEnd r, .hotReset, .hoursTick, .hubRailRise, .isduRead,
        .isduTimeout c, .isduWrite, .ledgerWrite, .linkDown, .linkEvent b a a', .mirrorStale m, .outboundEntry n, .pcieError er, .pclkLost,
        .pclkMirrorRefresh, .pdOut, .perstN, .perstNRelease, .phyRailLow, .phyRailRise, .pllLockLoss, .powerCycle, .powerCycleEnd c, .powerOnResetEnd,
        .powerStateChange b, .poweringEnd c, .preoperateDone c, .queueRoom g, .railUpdate m a, .ramUncorrectable a b e e', .recordCopy,
        .reflexCancel, .rescanRead k e, .ringEntryFetch n e, .ringMessage n, .ringWbWrite n, .ruleLive r, .schedule, .slewDone, .slotDue,
        .startTimeout b e e', .strokeWindowExpiry c, .svFrameStart b, .syncInEdge b, .syncOutEnd, .syncOutPulse, .tempUpdate z z' z2 z3,
        .urgentRetry g, .vauxLost, .vddIoFall, .verifyDone, .vidApply, .xinLost, .xinReturn],
      ∀ t, exec i s = .next t → t.die = s.die ∧ t.hid = s.hid ∧ t.dies = s.dies) ∧
  (∀ (s t : State) (c : Ch) (k : Bool), exec (.tally c k) s = .next t → t.die = s.die ∧ t.hid = s.hid) ∧
  (∀ (s t : State) (x : Strm) (r : RuleNo) (f : Fld),
    (exec (.coarseSample x) s = .next t → f ≠ F.SC_COARSE x → t.reg f = s.reg f) ∧
    (exec (.ruleLive r) s = .next t ∨ exec (.holdoffEnd r) s = .next t → f ≠ F.RFX_ARM_PHASE r → t.reg f = s.reg f) ∧
    (exec .hoursTick s = .next t → (∀ d, f.unit ≠ .hours d) → (∀ g, f ≠ F.GRP_AGE_EYE_RETUNING g) → t.reg f = s.reg f) ∧
    (exec .baselineRunStart s = .next t → f ≠ F.ROOT_RESET_STATUS_BASELINE_RUN → t.reg f = s.reg f))
end

