-- ==== Sys2Proof/Laws/Store.lean ====
section
/-! SUPPORT. The laws of the register store: a read after a write of the same field gives the value within the field's
width, a write leaves every other field alone, and a write keeps the canonical form. -/

set_option Elab.async false

namespace Sys2Proof.Machine

theorem U.kind_idx_inj {a b : U} (hk : a.kind = b.kind) (hi : a.idx = b.idx) : a = b := by
  cases a <;> cases b <;> first
    | rfl
    | (simp only [U.kind] at hk; omega)
    | (simp only [U.idx] at hi; simp only [Fin.ext_iff, U.ring.injEq, U.drvCh.injEq, U.ckE.injEq, U.ckU.injEq,
        U.rule.injEq, U.hours.injEq, U.age.injEq, U.chain.injEq, U.grp.injEq, U.ch.injEq]; exact hi)

theorem Fld.key_inj {f g : Fld} (h : f.key = g.key) : f = g := by
  cases f; cases g
  simp only [Fld.key, List.cons.injEq] at h
  obtain ⟨h1, h2, h3, h4, h5, h6, -⟩ := h
  simp only [Fld.mk.injEq]
  exact ⟨U.kind_idx_inj h1 h2, h3, h4, h5, h6⟩

theorem lexLt_irrefl (a : List Nat) : lexLt a a = false := by
  induction a with
  | nil => rfl
  | cons x xs ih => simp [lexLt, ih]

theorem lexLt_trans {a b c : List Nat} (h1 : lexLt a b = true) (h2 : lexLt b c = true) : lexLt a c = true := by
  induction a generalizing b c with
  | nil =>
    cases b with
    | nil => simp [lexLt] at h1
    | cons y ys => cases c with
      | nil => simp [lexLt] at h2
      | cons z zs => rfl
  | cons x xs ih =>
    cases b with
    | nil => simp [lexLt] at h1
    | cons y ys => cases c with
      | nil => simp [lexLt] at h2
      | cons z zs =>
        simp only [lexLt, Bool.or_eq_true, decide_eq_true_eq, Bool.and_eq_true, beq_iff_eq] at h1 h2 ⊢
        rcases h1 with h1 | ⟨rfl, h1⟩
        · rcases h2 with h2 | ⟨rfl, h2⟩
          · left; omega
          · left; exact h1
        · rcases h2 with h2 | ⟨rfl, h2⟩
          · left; exact h2
          · right; exact ⟨rfl, ih h1 h2⟩

theorem lexLt_total {a b : List Nat} (hl : a.length = b.length) (h : a ≠ b) (hn : lexLt a b = false) :
    lexLt b a = true := by
  induction a generalizing b with
  | nil => cases b with
    | nil => exact absurd rfl h
    | cons y ys => simp at hl
  | cons x xs ih => cases b with
    | nil => simp at hl
    | cons y ys =>
      simp only [lexLt, Bool.or_eq_false_iff, decide_eq_false_iff_not, Bool.and_eq_false_iff, beq_eq_false_iff_ne,
        ne_eq] at hn
      simp only [lexLt, Bool.or_eq_true, decide_eq_true_eq, Bool.and_eq_true, beq_iff_eq]
      by_cases hxy : x = y
      · subst hxy
        right
        refine ⟨rfl, ih (by simpa using hl) (by simpa using h) ?_⟩
        rcases hn.2 with h' | h'
        · exact absurd rfl h'
        · exact h'
      · left; omega

theorem Fld.lt_total {f g : Fld} (h : f ≠ g) (hn : f.lt g = false) : g.lt f = true :=
  lexLt_total (by simp [Fld.key]) (fun hk => h (Fld.key_inj hk)) hn

theorem Fld.lt_trans {f g k : Fld} (h1 : f.lt g = true) (h2 : g.lt k = true) : f.lt k = true := lexLt_trans h1 h2

namespace Store

@[simp] theorem get_nil (f : Fld) : Store.get [] f = f.dflt := rfl

theorem get_erase_same (s : Store) (f : Fld) : (s.erase f).get f = f.dflt := by
  induction s with
  | nil => rfl
  | cons p t ih =>
    obtain ⟨k, v⟩ := p
    by_cases h : k = f
    · simp [Store.erase, h, ih]
    · simp [Store.erase, h, Store.get, ih]

theorem get_erase_ne (s : Store) {f g : Fld} (hfg : f ≠ g) : (s.erase f).get g = s.get g := by
  induction s with
  | nil => rfl
  | cons p t ih =>
    obtain ⟨k, v⟩ := p
    by_cases h : k = f
    · subst h; simp [Store.erase, Store.get, hfg, ih]
    · by_cases h2 : k = g
      · subst h2; simp [Store.erase, h, Store.get]
      · simp [Store.erase, h, Store.get, h2, ih]

theorem get_insert_same (s : Store) (f : Fld) (v : Nat) : (s.insert f v).get f = v := by
  induction s with
  | nil => simp [Store.insert, Store.get]
  | cons p t ih =>
    obtain ⟨k, x⟩ := p
    by_cases h : k = f
    · simp [Store.insert, h, Store.get]
    · by_cases h2 : f.lt k = true
      · simp [Store.insert, h, h2, Store.get]
      · simp [Store.insert, h, h2, Store.get, ih]

theorem get_insert_ne (s : Store) {f g : Fld} (v : Nat) (hfg : f ≠ g) : (s.insert f v).get g = s.get g := by
  induction s with
  | nil => simp [Store.insert, Store.get, hfg]
  | cons p t ih =>
    obtain ⟨k, x⟩ := p
    by_cases h : k = f
    · subst h; simp [Store.insert, Store.get, hfg]
    · by_cases h2 : f.lt k = true
      · simp [Store.insert, h, h2, Store.get, hfg]
      · by_cases h3 : k = g
        · subst h3; simp [Store.insert, h, h2, Store.get]
        · simp [Store.insert, h, h2, Store.get, h3, ih]

/-- A read of the field just written gives the value within the field's width. -/
theorem get_set_same (s : Store) (f : Fld) (v : Nat) : (s.set f v).get f = v % 2 ^ f.w := by
  unfold Store.set
  split
  · rename_i h; rw [get_erase_same, h]
  · exact get_insert_same _ _ _

/-- A write leaves every other field alone. -/
theorem get_set_ne (s : Store) {f g : Fld} (v : Nat) (h : f ≠ g) : (s.set f v).get g = s.get g := by
  unfold Store.set
  split
  · exact get_erase_ne _ h
  · exact get_insert_ne _ _ h

/-- The read of any field after a write. -/
@[simp] theorem get_set (s : Store) (f g : Fld) (v : Nat) :
    (s.set f v).get g = if f = g then v % 2 ^ f.w else s.get g := by
  split
  · rename_i h; subst h; exact get_set_same _ _ _
  · rename_i h; exact get_set_ne _ _ h

theorem above_erase {f g : Fld} {s : Store} (h : s.above f = true) : (s.erase g).above f = true := by
  induction s with
  | nil => rfl
  | cons p t ih =>
    obtain ⟨k, v⟩ := p
    simp only [Store.above, Bool.and_eq_true] at h
    by_cases hk : k = g
    · simp [Store.erase, hk, ih h.2]
    · simp [Store.erase, hk, Store.above, h.1, ih h.2]

theorem above_insert {f g : Fld} {s : Store} {v : Nat} (hfg : f.lt g = true) (h : s.above f = true) :
    (s.insert g v).above f = true := by
  induction s with
  | nil => simp [Store.insert, Store.above, hfg]
  | cons p t ih =>
    obtain ⟨k, x⟩ := p
    simp only [Store.above, Bool.and_eq_true] at h
    by_cases hk : k = g
    · subst hk; simp [Store.insert, Store.above, h.1, h.2]
    · by_cases h2 : g.lt k = true
      · simp [Store.insert, hk, h2, Store.above, hfg, h.1, h.2]
      · simp [Store.insert, hk, h2, Store.above, h.1, ih h.2]

theorem above_of_lt {f g : Fld} {s : Store} (hfg : f.lt g = true) (h : s.above g = true) : s.above f = true := by
  induction s with
  | nil => rfl
  | cons p t ih =>
    obtain ⟨k, v⟩ := p
    simp only [Store.above, Bool.and_eq_true] at h ⊢
    exact ⟨Fld.lt_trans hfg h.1, ih h.2⟩

theorem wf_erase {s : Store} (f : Fld) (h : s.wf = true) : (s.erase f).wf = true := by
  induction s with
  | nil => rfl
  | cons p t ih =>
    obtain ⟨k, v⟩ := p
    simp only [Store.wf, Bool.and_eq_true] at h
    by_cases hk : k = f
    · simp [Store.erase, hk, ih h.2]
    · simp only [Store.erase, hk, if_false, Store.wf, Bool.and_eq_true]
      exact ⟨⟨h.1.1, above_erase h.1.2⟩, ih h.2⟩

theorem wf_insert {s : Store} {f : Fld} {v : Nat} (hv : v < 2 ^ f.w) (hd : v ≠ f.dflt) (h : s.wf = true) :
    (s.insert f v).wf = true := by
  induction s with
  | nil => simp [Store.insert, Store.wf, Store.above, hv, hd]
  | cons p t ih =>
    obtain ⟨k, x⟩ := p
    simp only [Store.wf, Bool.and_eq_true] at h
    by_cases hk : k = f
    · subst hk
      simp [Store.insert, Store.wf, hv, hd, h.1.2, h.2]
    · by_cases h2 : f.lt k = true
      · have h3 : Store.above f ((k, x) :: t) = true := by
          simp [Store.above, h2, above_of_lt h2 h.1.2]
        have h4 : Store.wf ((k, x) :: t) = true := by simp only [Store.wf, Bool.and_eq_true]; exact h
        rw [show Store.insert ((k, x) :: t) f v = (f, v) :: (k, x) :: t by simp [Store.insert, hk, h2]]
        rw [Store.wf, h3, h4]
        simp [hv, hd]
      · rw [show Store.insert ((k, x) :: t) f v = (k, x) :: Store.insert t f v by simp [Store.insert, hk, h2]]
        simp only [Store.wf, Bool.and_eq_true]
        exact ⟨⟨h.1.1, above_insert (Fld.lt_total (Ne.symm hk) (by simpa using h2)) h.1.2⟩, ih h.2⟩

/-- A write keeps the canonical form. -/
theorem wf_set {s : Store} (f : Fld) (v : Nat) (h : s.wf = true) : (s.set f v).wf = true := by
  unfold Store.set
  split
  · exact wf_erase f h
  · rename_i hd; exact wf_insert (Nat.mod_lt _ (Nat.two_pow_pos _)) hd h

end Store
end Sys2Proof.Machine
end

