-- ==== Sys2Proof/Laws/Mem.lean ====
section
/-! SUPPORT. The laws of memory: a read after a write, and every memory operation keeps the canonical form. -/

namespace Sys2Proof.Machine.Mem

@[simp] theorem get_nil (a : Nat) : Mem.get [] a = 0 := rfl

theorem get_erase (m : Mem) (a x : Nat) : (m.erase a).get x = if a = x then 0 else m.get x := by
  induction m with
  | nil => simp [Mem.erase]
  | cons c t ih =>
    obtain ⟨k, b⟩ := c
    simp only [Mem.erase, Mem.get]
    split <;> split <;> simp_all [Mem.get]

theorem get_insert (m : Mem) (a x : Nat) (b : Byte) : (m.insert a b).get x = if a = x then b else m.get x := by
  induction m with
  | nil => simp [Mem.insert, Mem.get]
  | cons c t ih =>
    obtain ⟨k, v⟩ := c
    simp only [Mem.insert]
    split
    · next h => subst h; simp only [Mem.get]; split <;> rfl
    · split
      · simp only [Mem.get]
      · next h1 h2 => simp only [Mem.get, ih]; split <;> split <;> simp_all

/-- A byte read after a write of a byte. -/
@[simp] theorem get_set (m : Mem) (a x : Nat) (b : Byte) : (m.set a b).get x = if a = x then b else m.get x := by
  unfold Mem.set
  split
  · next h => rw [get_erase, h]
  · exact get_insert m a x b

theorem above_mono {a c : Nat} {m : Mem} (h : a ≤ c) (hm : m.above c = true) : m.above a = true := by
  induction m with
  | nil => rfl
  | cons p t ih => simp only [Mem.above, Bool.and_eq_true, decide_eq_true_eq] at hm ⊢; exact ⟨by omega, ih hm.2⟩

theorem above_erase {a x : Nat} {m : Mem} (h : m.above a = true) : (m.erase x).above a = true := by
  induction m with
  | nil => rfl
  | cons p t ih =>
    obtain ⟨k, b⟩ := p
    simp only [Mem.above, Bool.and_eq_true] at h
    simp only [Mem.erase]
    split
    · exact ih h.2
    · simp only [Mem.above, Bool.and_eq_true]; exact ⟨h.1, ih h.2⟩

theorem wf_erase {m : Mem} (a : Nat) (h : m.wf = true) : (m.erase a).wf = true := by
  induction m with
  | nil => rfl
  | cons p t ih =>
    obtain ⟨k, b⟩ := p
    simp only [Mem.wf, Bool.and_eq_true] at h
    simp only [Mem.erase]
    split
    · exact ih h.2
    · simp only [Mem.wf, Bool.and_eq_true]; exact ⟨⟨h.1.1, above_erase h.1.2⟩, ih h.2⟩

theorem above_insert {a x : Nat} {b : Byte} {m : Mem} (hx : a < x) (h : m.above a = true) : (m.insert x b).above a = true := by
  induction m with
  | nil => simp [Mem.insert, Mem.above, hx]
  | cons p t ih =>
    obtain ⟨k, v⟩ := p
    simp only [Mem.above, Bool.and_eq_true, decide_eq_true_eq] at h
    simp only [Mem.insert]
    split
    · simp [Mem.above, hx, h.2]
    · split
      · simp [Mem.above, hx, h.1, h.2]
      · simp [Mem.above, h.1, ih h.2]

theorem wf_insert {m : Mem} {a : Nat} {b : Byte} (hb : b ≠ 0) (h : m.wf = true) : (m.insert a b).wf = true := by
  induction m with
  | nil => simpa [Mem.insert, Mem.wf, Mem.above] using hb
  | cons p t ih =>
    obtain ⟨k, v⟩ := p
    simp only [Mem.wf, Bool.and_eq_true, decide_eq_true_eq] at h
    simp only [Mem.insert]
    split
    · next e => subst e; simpa [Mem.wf, h.1.2, h.2] using hb
    · split
      · next h1 h2 =>
        simp only [Mem.wf, Mem.above, Bool.and_eq_true, decide_eq_true_eq]
        exact ⟨⟨hb, h2, above_mono (Nat.le_of_lt h2) h.1.2⟩, ⟨h.1.1, h.1.2⟩, h.2⟩
      · next h1 h2 =>
        simp only [Mem.wf, Bool.and_eq_true, decide_eq_true_eq]
        exact ⟨⟨h.1.1, above_insert (by omega) h.1.2⟩, ih h.2⟩

/-- A write of a byte keeps the canonical form. -/
theorem wf_set {m : Mem} (a : Nat) (b : Byte) (h : m.wf = true) : (m.set a b).wf = true := by
  unfold Mem.set
  split
  · exact wf_erase a h
  · next hb => exact wf_insert hb h

/-- A write of consecutive bytes keeps the canonical form. -/
theorem wf_setBytes {m : Mem} (a : Nat) (l : List Byte) (h : m.wf = true) : (m.setBytes a l).wf = true := by
  induction l generalizing m a with
  | nil => exact h
  | cons b t ih => exact ih (a + 1) (wf_set a b h)

theorem above_iff {a : Nat} {m : Mem} : m.above a = true ↔ ∀ c ∈ m, a < c.1 := by
  induction m with
  | nil => simp [Mem.above]
  | cons p t ih => simp [Mem.above, ih]

theorem wf_iff {m : Mem} : m.wf = true ↔ (∀ c ∈ m, c.2 ≠ 0) ∧ m.Pairwise fun x y => x.1 < y.1 := by
  induction m with
  | nil => simp [Mem.wf]
  | cons p t ih =>
    obtain ⟨k, b⟩ := p
    simp only [Mem.wf, Bool.and_eq_true, decide_eq_true_eq, ih, above_iff, List.mem_cons, List.pairwise_cons]
    constructor
    · rintro ⟨⟨h1, h2⟩, h3, h4⟩; exact ⟨fun c hc => by rcases hc with rfl | hc; exacts [h1, h3 c hc], h2, h4⟩
    · rintro ⟨h1, h2, h3⟩; exact ⟨⟨h1 _ (Or.inl rfl), h2⟩, fun c hc => h1 c (Or.inr hc), h3⟩

theorem mem_cellsOf {a : Nat} {l : List Byte} {c : Host.Cell} (h : c ∈ cellsOf a l) : a ≤ c.1 ∧ c.1 < a + l.length ∧ c.2 ≠ 0 := by
  induction l generalizing a with
  | nil => simp [cellsOf] at h
  | cons b t ih =>
    simp only [cellsOf] at h
    split at h
    · obtain ⟨h1, h2, h3⟩ := ih h; simp only [List.length_cons]; exact ⟨by omega, by omega, h3⟩
    · next hb =>
      simp only [List.mem_cons] at h
      rcases h with rfl | h
      · simpa using hb
      · obtain ⟨h1, h2, h3⟩ := ih h; simp only [List.length_cons]; exact ⟨by omega, by omega, h3⟩

theorem pairwise_cellsOf (a : Nat) (l : List Byte) : (cellsOf a l).Pairwise fun x y => x.1 < y.1 := by
  induction l generalizing a with
  | nil => simp [cellsOf]
  | cons b t ih =>
    simp only [cellsOf]
    split
    · exact ih (a + 1)
    · exact List.pairwise_cons.2 ⟨fun c hc => by have := (mem_cellsOf hc).1; simp only; omega, ih (a + 1)⟩

/-- A region replaced whole keeps the canonical form. -/
theorem wf_load {m : Mem} (a n : Nat) (l : List Byte) (h : m.wf = true) : (m.load a n l).wf = true := by
  obtain ⟨h1, h2⟩ := wf_iff.1 h
  have hl : ∀ c ∈ cellsOf a (l.take n), a ≤ c.1 ∧ c.1 < a + n ∧ c.2 ≠ 0 := fun c hc => by
    obtain ⟨x, y, z⟩ := mem_cellsOf hc
    have : (l.take n).length ≤ n := List.length_take_le n l
    exact ⟨x, by omega, z⟩
  refine wf_iff.2 ⟨fun c hc => ?_, ?_⟩
  · simp only [Mem.load, List.mem_append, List.mem_filter] at hc
    rcases hc with (hc | hc) | hc
    exacts [h1 c hc.1, (hl c hc).2.2, h1 c hc.1]
  · simp only [Mem.load, List.pairwise_append, List.mem_append, List.mem_filter, decide_eq_true_eq]
    refine ⟨⟨h2.filter _, pairwise_cellsOf _ _, fun x hx y hy => ?_⟩, h2.filter _, fun x hx y hy => ?_⟩
    · have := (hl y hy).1; omega
    · rcases hx with hx | hx
      · omega
      · have := (hl x hx).2.1; omega

end Sys2Proof.Machine.Mem
end

