-- ==== Sys2Proof/Laws/State.lean ====
section
/-! SUPPORT. One lemma for each field of the state under each of its updates, and what a read gives after a write. -/

namespace Sys2Proof.Machine

variable (s : State)

/-! ### setReg -/

@[simp] theorem State.setReg_pending (f : Fld) (v : Nat) : (s.setReg f v).pending = s.pending := rfl
@[simp] theorem State.setReg_die (f : Fld) (v : Nat) : (s.setReg f v).die = s.die := rfl
@[simp] theorem State.setReg_hid (f : Fld) (v : Nat) : (s.setReg f v).hid = s.hid := rfl
@[simp] theorem State.setReg_hub (f : Fld) (v : Nat) : (s.setReg f v).hub = s.hub := rfl
@[simp] theorem State.setReg_host (f : Fld) (v : Nat) : (s.setReg f v).host = s.host := rfl
@[simp] theorem State.setReg_links (f : Fld) (v : Nat) : (s.setReg f v).links = s.links := rfl
@[simp] theorem State.setReg_dies (f : Fld) (v : Nat) : (s.setReg f v).dies = s.dies := rfl
@[simp] theorem State.setReg_chans (f : Fld) (v : Nat) : (s.setReg f v).chans = s.chans := rfl
@[simp] theorem State.setReg_chains (f : Fld) (v : Nat) : (s.setReg f v).chains = s.chains := rfl
@[simp] theorem State.setReg_coef (f : Fld) (v : Nat) : (s.setReg f v).coef = s.coef := rfl
@[simp] theorem State.setReg_fold (f : Fld) (v : Nat) : (s.setReg f v).fold = s.fold := rfl
@[simp] theorem State.setReg_rfx (f : Fld) (v : Nat) : (s.setReg f v).rfx = s.rfx := rfl
@[simp] theorem State.setReg_drv (f : Fld) (v : Nat) : (s.setReg f v).drv = s.drv := rfl
@[simp] theorem State.setReg_ck (f : Fld) (v : Nat) : (s.setReg f v).ck = s.ck := rfl
@[simp] theorem State.setReg_sv (f : Fld) (v : Nat) : (s.setReg f v).sv = s.sv := rfl
@[simp] theorem State.setReg_fw (f : Fld) (v : Nat) : (s.setReg f v).fw = s.fw := rfl
@[simp] theorem State.setReg_hk (f : Fld) (v : Nat) : (s.setReg f v).hk = s.hk := rfl
@[simp] theorem State.setReg_ldg (f : Fld) (v : Nat) : (s.setReg f v).ldg = s.ldg := rfl
@[simp] theorem State.setReg_tk (f : Fld) (v : Nat) : (s.setReg f v).tk = s.tk := rfl
@[simp] theorem State.setReg_free (f : Fld) (v : Nat) : (s.setReg f v).free = s.free := rfl

/-! ### setDie -/

@[simp] theorem State.setDie_pending (f : Fld) (v : Nat) : (s.setDie f v).pending = s.pending := rfl
@[simp] theorem State.setDie_regs (f : Fld) (v : Nat) : (s.setDie f v).regs = s.regs := rfl
@[simp] theorem State.setDie_hid (f : Fld) (v : Nat) : (s.setDie f v).hid = s.hid := rfl
@[simp] theorem State.setDie_hub (f : Fld) (v : Nat) : (s.setDie f v).hub = s.hub := rfl
@[simp] theorem State.setDie_host (f : Fld) (v : Nat) : (s.setDie f v).host = s.host := rfl
@[simp] theorem State.setDie_links (f : Fld) (v : Nat) : (s.setDie f v).links = s.links := rfl
@[simp] theorem State.setDie_dies (f : Fld) (v : Nat) : (s.setDie f v).dies = s.dies := rfl
@[simp] theorem State.setDie_chans (f : Fld) (v : Nat) : (s.setDie f v).chans = s.chans := rfl
@[simp] theorem State.setDie_chains (f : Fld) (v : Nat) : (s.setDie f v).chains = s.chains := rfl
@[simp] theorem State.setDie_coef (f : Fld) (v : Nat) : (s.setDie f v).coef = s.coef := rfl
@[simp] theorem State.setDie_fold (f : Fld) (v : Nat) : (s.setDie f v).fold = s.fold := rfl
@[simp] theorem State.setDie_rfx (f : Fld) (v : Nat) : (s.setDie f v).rfx = s.rfx := rfl
@[simp] theorem State.setDie_drv (f : Fld) (v : Nat) : (s.setDie f v).drv = s.drv := rfl
@[simp] theorem State.setDie_ck (f : Fld) (v : Nat) : (s.setDie f v).ck = s.ck := rfl
@[simp] theorem State.setDie_sv (f : Fld) (v : Nat) : (s.setDie f v).sv = s.sv := rfl
@[simp] theorem State.setDie_fw (f : Fld) (v : Nat) : (s.setDie f v).fw = s.fw := rfl
@[simp] theorem State.setDie_hk (f : Fld) (v : Nat) : (s.setDie f v).hk = s.hk := rfl
@[simp] theorem State.setDie_ldg (f : Fld) (v : Nat) : (s.setDie f v).ldg = s.ldg := rfl
@[simp] theorem State.setDie_tk (f : Fld) (v : Nat) : (s.setDie f v).tk = s.tk := rfl
@[simp] theorem State.setDie_free (f : Fld) (v : Nat) : (s.setDie f v).free = s.free := rfl

/-! ### updLink -/

@[simp] theorem State.updLink_pending (g : Grp) (k : Link → Link) : (s.updLink g k).pending = s.pending := rfl
@[simp] theorem State.updLink_regs (g : Grp) (k : Link → Link) : (s.updLink g k).regs = s.regs := rfl
@[simp] theorem State.updLink_die (g : Grp) (k : Link → Link) : (s.updLink g k).die = s.die := rfl
@[simp] theorem State.updLink_hid (g : Grp) (k : Link → Link) : (s.updLink g k).hid = s.hid := rfl
@[simp] theorem State.updLink_hub (g : Grp) (k : Link → Link) : (s.updLink g k).hub = s.hub := rfl
@[simp] theorem State.updLink_host (g : Grp) (k : Link → Link) : (s.updLink g k).host = s.host := rfl
@[simp] theorem State.updLink_dies (g : Grp) (k : Link → Link) : (s.updLink g k).dies = s.dies := rfl
@[simp] theorem State.updLink_chans (g : Grp) (k : Link → Link) : (s.updLink g k).chans = s.chans := rfl
@[simp] theorem State.updLink_chains (g : Grp) (k : Link → Link) : (s.updLink g k).chains = s.chains := rfl
@[simp] theorem State.updLink_coef (g : Grp) (k : Link → Link) : (s.updLink g k).coef = s.coef := rfl
@[simp] theorem State.updLink_fold (g : Grp) (k : Link → Link) : (s.updLink g k).fold = s.fold := rfl
@[simp] theorem State.updLink_rfx (g : Grp) (k : Link → Link) : (s.updLink g k).rfx = s.rfx := rfl
@[simp] theorem State.updLink_drv (g : Grp) (k : Link → Link) : (s.updLink g k).drv = s.drv := rfl
@[simp] theorem State.updLink_ck (g : Grp) (k : Link → Link) : (s.updLink g k).ck = s.ck := rfl
@[simp] theorem State.updLink_sv (g : Grp) (k : Link → Link) : (s.updLink g k).sv = s.sv := rfl
@[simp] theorem State.updLink_fw (g : Grp) (k : Link → Link) : (s.updLink g k).fw = s.fw := rfl
@[simp] theorem State.updLink_hk (g : Grp) (k : Link → Link) : (s.updLink g k).hk = s.hk := rfl
@[simp] theorem State.updLink_ldg (g : Grp) (k : Link → Link) : (s.updLink g k).ldg = s.ldg := rfl
@[simp] theorem State.updLink_tk (g : Grp) (k : Link → Link) : (s.updLink g k).tk = s.tk := rfl
@[simp] theorem State.updLink_free (g : Grp) (k : Link → Link) : (s.updLink g k).free = s.free := rfl

/-! ### updDie -/

@[simp] theorem State.updDie_pending (g : Grp) (k : Die → Die) : (s.updDie g k).pending = s.pending := rfl
@[simp] theorem State.updDie_regs (g : Grp) (k : Die → Die) : (s.updDie g k).regs = s.regs := rfl
@[simp] theorem State.updDie_die (g : Grp) (k : Die → Die) : (s.updDie g k).die = s.die := rfl
@[simp] theorem State.updDie_hid (g : Grp) (k : Die → Die) : (s.updDie g k).hid = s.hid := rfl
@[simp] theorem State.updDie_hub (g : Grp) (k : Die → Die) : (s.updDie g k).hub = s.hub := rfl
@[simp] theorem State.updDie_host (g : Grp) (k : Die → Die) : (s.updDie g k).host = s.host := rfl
@[simp] theorem State.updDie_links (g : Grp) (k : Die → Die) : (s.updDie g k).links = s.links := rfl
@[simp] theorem State.updDie_chans (g : Grp) (k : Die → Die) : (s.updDie g k).chans = s.chans := rfl
@[simp] theorem State.updDie_chains (g : Grp) (k : Die → Die) : (s.updDie g k).chains = s.chains := rfl
@[simp] theorem State.updDie_coef (g : Grp) (k : Die → Die) : (s.updDie g k).coef = s.coef := rfl
@[simp] theorem State.updDie_fold (g : Grp) (k : Die → Die) : (s.updDie g k).fold = s.fold := rfl
@[simp] theorem State.updDie_rfx (g : Grp) (k : Die → Die) : (s.updDie g k).rfx = s.rfx := rfl
@[simp] theorem State.updDie_drv (g : Grp) (k : Die → Die) : (s.updDie g k).drv = s.drv := rfl
@[simp] theorem State.updDie_ck (g : Grp) (k : Die → Die) : (s.updDie g k).ck = s.ck := rfl
@[simp] theorem State.updDie_sv (g : Grp) (k : Die → Die) : (s.updDie g k).sv = s.sv := rfl
@[simp] theorem State.updDie_fw (g : Grp) (k : Die → Die) : (s.updDie g k).fw = s.fw := rfl
@[simp] theorem State.updDie_hk (g : Grp) (k : Die → Die) : (s.updDie g k).hk = s.hk := rfl
@[simp] theorem State.updDie_ldg (g : Grp) (k : Die → Die) : (s.updDie g k).ldg = s.ldg := rfl
@[simp] theorem State.updDie_tk (g : Grp) (k : Die → Die) : (s.updDie g k).tk = s.tk := rfl
@[simp] theorem State.updDie_free (g : Grp) (k : Die → Die) : (s.updDie g k).free = s.free := rfl

/-! ### updCh -/

@[simp] theorem State.updCh_pending (c : Ch) (k : Chan → Chan) : (s.updCh c k).pending = s.pending := rfl
@[simp] theorem State.updCh_regs (c : Ch) (k : Chan → Chan) : (s.updCh c k).regs = s.regs := rfl
@[simp] theorem State.updCh_die (c : Ch) (k : Chan → Chan) : (s.updCh c k).die = s.die := rfl
@[simp] theorem State.updCh_hid (c : Ch) (k : Chan → Chan) : (s.updCh c k).hid = s.hid := rfl
@[simp] theorem State.updCh_hub (c : Ch) (k : Chan → Chan) : (s.updCh c k).hub = s.hub := rfl
@[simp] theorem State.updCh_host (c : Ch) (k : Chan → Chan) : (s.updCh c k).host = s.host := rfl
@[simp] theorem State.updCh_links (c : Ch) (k : Chan → Chan) : (s.updCh c k).links = s.links := rfl
@[simp] theorem State.updCh_dies (c : Ch) (k : Chan → Chan) : (s.updCh c k).dies = s.dies := rfl
@[simp] theorem State.updCh_chains (c : Ch) (k : Chan → Chan) : (s.updCh c k).chains = s.chains := rfl
@[simp] theorem State.updCh_coef (c : Ch) (k : Chan → Chan) : (s.updCh c k).coef = s.coef := rfl
@[simp] theorem State.updCh_fold (c : Ch) (k : Chan → Chan) : (s.updCh c k).fold = s.fold := rfl
@[simp] theorem State.updCh_rfx (c : Ch) (k : Chan → Chan) : (s.updCh c k).rfx = s.rfx := rfl
@[simp] theorem State.updCh_drv (c : Ch) (k : Chan → Chan) : (s.updCh c k).drv = s.drv := rfl
@[simp] theorem State.updCh_ck (c : Ch) (k : Chan → Chan) : (s.updCh c k).ck = s.ck := rfl
@[simp] theorem State.updCh_sv (c : Ch) (k : Chan → Chan) : (s.updCh c k).sv = s.sv := rfl
@[simp] theorem State.updCh_fw (c : Ch) (k : Chan → Chan) : (s.updCh c k).fw = s.fw := rfl
@[simp] theorem State.updCh_hk (c : Ch) (k : Chan → Chan) : (s.updCh c k).hk = s.hk := rfl
@[simp] theorem State.updCh_ldg (c : Ch) (k : Chan → Chan) : (s.updCh c k).ldg = s.ldg := rfl
@[simp] theorem State.updCh_tk (c : Ch) (k : Chan → Chan) : (s.updCh c k).tk = s.tk := rfl
@[simp] theorem State.updCh_free (c : Ch) (k : Chan → Chan) : (s.updCh c k).free = s.free := rfl

/-! ### updPort -/

@[simp] theorem State.updPort_pending (c : Ch) (k : Port → Port) : (s.updPort c k).pending = s.pending := rfl
@[simp] theorem State.updPort_regs (c : Ch) (k : Port → Port) : (s.updPort c k).regs = s.regs := rfl
@[simp] theorem State.updPort_die (c : Ch) (k : Port → Port) : (s.updPort c k).die = s.die := rfl
@[simp] theorem State.updPort_hid (c : Ch) (k : Port → Port) : (s.updPort c k).hid = s.hid := rfl
@[simp] theorem State.updPort_hub (c : Ch) (k : Port → Port) : (s.updPort c k).hub = s.hub := rfl
@[simp] theorem State.updPort_host (c : Ch) (k : Port → Port) : (s.updPort c k).host = s.host := rfl
@[simp] theorem State.updPort_links (c : Ch) (k : Port → Port) : (s.updPort c k).links = s.links := rfl
@[simp] theorem State.updPort_dies (c : Ch) (k : Port → Port) : (s.updPort c k).dies = s.dies := rfl
@[simp] theorem State.updPort_chains (c : Ch) (k : Port → Port) : (s.updPort c k).chains = s.chains := rfl
@[simp] theorem State.updPort_coef (c : Ch) (k : Port → Port) : (s.updPort c k).coef = s.coef := rfl
@[simp] theorem State.updPort_fold (c : Ch) (k : Port → Port) : (s.updPort c k).fold = s.fold := rfl
@[simp] theorem State.updPort_rfx (c : Ch) (k : Port → Port) : (s.updPort c k).rfx = s.rfx := rfl
@[simp] theorem State.updPort_drv (c : Ch) (k : Port → Port) : (s.updPort c k).drv = s.drv := rfl
@[simp] theorem State.updPort_ck (c : Ch) (k : Port → Port) : (s.updPort c k).ck = s.ck := rfl
@[simp] theorem State.updPort_sv (c : Ch) (k : Port → Port) : (s.updPort c k).sv = s.sv := rfl
@[simp] theorem State.updPort_fw (c : Ch) (k : Port → Port) : (s.updPort c k).fw = s.fw := rfl
@[simp] theorem State.updPort_hk (c : Ch) (k : Port → Port) : (s.updPort c k).hk = s.hk := rfl
@[simp] theorem State.updPort_ldg (c : Ch) (k : Port → Port) : (s.updPort c k).ldg = s.ldg := rfl
@[simp] theorem State.updPort_tk (c : Ch) (k : Port → Port) : (s.updPort c k).tk = s.tk := rfl
@[simp] theorem State.updPort_free (c : Ch) (k : Port → Port) : (s.updPort c k).free = s.free := rfl

/-! ### updChain -/

@[simp] theorem State.updChain_pending (x : Strm) (k : Chain → Chain) : (s.updChain x k).pending = s.pending := rfl
@[simp] theorem State.updChain_regs (x : Strm) (k : Chain → Chain) : (s.updChain x k).regs = s.regs := rfl
@[simp] theorem State.updChain_die (x : Strm) (k : Chain → Chain) : (s.updChain x k).die = s.die := rfl
@[simp] theorem State.updChain_hid (x : Strm) (k : Chain → Chain) : (s.updChain x k).hid = s.hid := rfl
@[simp] theorem State.updChain_hub (x : Strm) (k : Chain → Chain) : (s.updChain x k).hub = s.hub := rfl
@[simp] theorem State.updChain_host (x : Strm) (k : Chain → Chain) : (s.updChain x k).host = s.host := rfl
@[simp] theorem State.updChain_links (x : Strm) (k : Chain → Chain) : (s.updChain x k).links = s.links := rfl
@[simp] theorem State.updChain_dies (x : Strm) (k : Chain → Chain) : (s.updChain x k).dies = s.dies := rfl
@[simp] theorem State.updChain_chans (x : Strm) (k : Chain → Chain) : (s.updChain x k).chans = s.chans := rfl
@[simp] theorem State.updChain_coef (x : Strm) (k : Chain → Chain) : (s.updChain x k).coef = s.coef := rfl
@[simp] theorem State.updChain_fold (x : Strm) (k : Chain → Chain) : (s.updChain x k).fold = s.fold := rfl
@[simp] theorem State.updChain_rfx (x : Strm) (k : Chain → Chain) : (s.updChain x k).rfx = s.rfx := rfl
@[simp] theorem State.updChain_drv (x : Strm) (k : Chain → Chain) : (s.updChain x k).drv = s.drv := rfl
@[simp] theorem State.updChain_ck (x : Strm) (k : Chain → Chain) : (s.updChain x k).ck = s.ck := rfl
@[simp] theorem State.updChain_sv (x : Strm) (k : Chain → Chain) : (s.updChain x k).sv = s.sv := rfl
@[simp] theorem State.updChain_fw (x : Strm) (k : Chain → Chain) : (s.updChain x k).fw = s.fw := rfl
@[simp] theorem State.updChain_hk (x : Strm) (k : Chain → Chain) : (s.updChain x k).hk = s.hk := rfl
@[simp] theorem State.updChain_ldg (x : Strm) (k : Chain → Chain) : (s.updChain x k).ldg = s.ldg := rfl
@[simp] theorem State.updChain_tk (x : Strm) (k : Chain → Chain) : (s.updChain x k).tk = s.tk := rfl
@[simp] theorem State.updChain_free (x : Strm) (k : Chain → Chain) : (s.updChain x k).free = s.free := rfl

/-! ### updRing -/

@[simp] theorem State.updRing_pending (r : RingNo) (k : RingSt → RingSt) : (s.updRing r k).pending = s.pending := rfl
@[simp] theorem State.updRing_regs (r : RingNo) (k : RingSt → RingSt) : (s.updRing r k).regs = s.regs := rfl
@[simp] theorem State.updRing_die (r : RingNo) (k : RingSt → RingSt) : (s.updRing r k).die = s.die := rfl
@[simp] theorem State.updRing_hid (r : RingNo) (k : RingSt → RingSt) : (s.updRing r k).hid = s.hid := rfl
@[simp] theorem State.updRing_hub (r : RingNo) (k : RingSt → RingSt) : (s.updRing r k).hub = s.hub := rfl
@[simp] theorem State.updRing_links (r : RingNo) (k : RingSt → RingSt) : (s.updRing r k).links = s.links := rfl
@[simp] theorem State.updRing_dies (r : RingNo) (k : RingSt → RingSt) : (s.updRing r k).dies = s.dies := rfl
@[simp] theorem State.updRing_chans (r : RingNo) (k : RingSt → RingSt) : (s.updRing r k).chans = s.chans := rfl
@[simp] theorem State.updRing_chains (r : RingNo) (k : RingSt → RingSt) : (s.updRing r k).chains = s.chains := rfl
@[simp] theorem State.updRing_coef (r : RingNo) (k : RingSt → RingSt) : (s.updRing r k).coef = s.coef := rfl
@[simp] theorem State.updRing_fold (r : RingNo) (k : RingSt → RingSt) : (s.updRing r k).fold = s.fold := rfl
@[simp] theorem State.updRing_rfx (r : RingNo) (k : RingSt → RingSt) : (s.updRing r k).rfx = s.rfx := rfl
@[simp] theorem State.updRing_drv (r : RingNo) (k : RingSt → RingSt) : (s.updRing r k).drv = s.drv := rfl
@[simp] theorem State.updRing_ck (r : RingNo) (k : RingSt → RingSt) : (s.updRing r k).ck = s.ck := rfl
@[simp] theorem State.updRing_sv (r : RingNo) (k : RingSt → RingSt) : (s.updRing r k).sv = s.sv := rfl
@[simp] theorem State.updRing_fw (r : RingNo) (k : RingSt → RingSt) : (s.updRing r k).fw = s.fw := rfl
@[simp] theorem State.updRing_hk (r : RingNo) (k : RingSt → RingSt) : (s.updRing r k).hk = s.hk := rfl
@[simp] theorem State.updRing_ldg (r : RingNo) (k : RingSt → RingSt) : (s.updRing r k).ldg = s.ldg := rfl
@[simp] theorem State.updRing_tk (r : RingNo) (k : RingSt → RingSt) : (s.updRing r k).tk = s.tk := rfl
@[simp] theorem State.updRing_free (r : RingNo) (k : RingSt → RingSt) : (s.updRing r k).free = s.free := rfl

/-! ### updDrv -/

@[simp] theorem State.updDrv_pending (d : DrvNo) (k : DrvCh → DrvCh) : (s.updDrv d k).pending = s.pending := rfl
@[simp] theorem State.updDrv_regs (d : DrvNo) (k : DrvCh → DrvCh) : (s.updDrv d k).regs = s.regs := rfl
@[simp] theorem State.updDrv_die (d : DrvNo) (k : DrvCh → DrvCh) : (s.updDrv d k).die = s.die := rfl
@[simp] theorem State.updDrv_hid (d : DrvNo) (k : DrvCh → DrvCh) : (s.updDrv d k).hid = s.hid := rfl
@[simp] theorem State.updDrv_hub (d : DrvNo) (k : DrvCh → DrvCh) : (s.updDrv d k).hub = s.hub := rfl
@[simp] theorem State.updDrv_host (d : DrvNo) (k : DrvCh → DrvCh) : (s.updDrv d k).host = s.host := rfl
@[simp] theorem State.updDrv_links (d : DrvNo) (k : DrvCh → DrvCh) : (s.updDrv d k).links = s.links := rfl
@[simp] theorem State.updDrv_dies (d : DrvNo) (k : DrvCh → DrvCh) : (s.updDrv d k).dies = s.dies := rfl
@[simp] theorem State.updDrv_chans (d : DrvNo) (k : DrvCh → DrvCh) : (s.updDrv d k).chans = s.chans := rfl
@[simp] theorem State.updDrv_chains (d : DrvNo) (k : DrvCh → DrvCh) : (s.updDrv d k).chains = s.chains := rfl
@[simp] theorem State.updDrv_coef (d : DrvNo) (k : DrvCh → DrvCh) : (s.updDrv d k).coef = s.coef := rfl
@[simp] theorem State.updDrv_fold (d : DrvNo) (k : DrvCh → DrvCh) : (s.updDrv d k).fold = s.fold := rfl
@[simp] theorem State.updDrv_rfx (d : DrvNo) (k : DrvCh → DrvCh) : (s.updDrv d k).rfx = s.rfx := rfl
@[simp] theorem State.updDrv_ck (d : DrvNo) (k : DrvCh → DrvCh) : (s.updDrv d k).ck = s.ck := rfl
@[simp] theorem State.updDrv_sv (d : DrvNo) (k : DrvCh → DrvCh) : (s.updDrv d k).sv = s.sv := rfl
@[simp] theorem State.updDrv_fw (d : DrvNo) (k : DrvCh → DrvCh) : (s.updDrv d k).fw = s.fw := rfl
@[simp] theorem State.updDrv_hk (d : DrvNo) (k : DrvCh → DrvCh) : (s.updDrv d k).hk = s.hk := rfl
@[simp] theorem State.updDrv_ldg (d : DrvNo) (k : DrvCh → DrvCh) : (s.updDrv d k).ldg = s.ldg := rfl
@[simp] theorem State.updDrv_tk (d : DrvNo) (k : DrvCh → DrvCh) : (s.updDrv d k).tk = s.tk := rfl
@[simp] theorem State.updDrv_free (d : DrvNo) (k : DrvCh → DrvCh) : (s.updDrv d k).free = s.free := rfl

/-! ### updCk -/

@[simp] theorem State.updCk_pending (u : CkNo) (k : CkSt → CkSt) : (s.updCk u k).pending = s.pending := rfl
@[simp] theorem State.updCk_regs (u : CkNo) (k : CkSt → CkSt) : (s.updCk u k).regs = s.regs := rfl
@[simp] theorem State.updCk_die (u : CkNo) (k : CkSt → CkSt) : (s.updCk u k).die = s.die := rfl
@[simp] theorem State.updCk_hid (u : CkNo) (k : CkSt → CkSt) : (s.updCk u k).hid = s.hid := rfl
@[simp] theorem State.updCk_hub (u : CkNo) (k : CkSt → CkSt) : (s.updCk u k).hub = s.hub := rfl
@[simp] theorem State.updCk_host (u : CkNo) (k : CkSt → CkSt) : (s.updCk u k).host = s.host := rfl
@[simp] theorem State.updCk_links (u : CkNo) (k : CkSt → CkSt) : (s.updCk u k).links = s.links := rfl
@[simp] theorem State.updCk_dies (u : CkNo) (k : CkSt → CkSt) : (s.updCk u k).dies = s.dies := rfl
@[simp] theorem State.updCk_chans (u : CkNo) (k : CkSt → CkSt) : (s.updCk u k).chans = s.chans := rfl
@[simp] theorem State.updCk_chains (u : CkNo) (k : CkSt → CkSt) : (s.updCk u k).chains = s.chains := rfl
@[simp] theorem State.updCk_coef (u : CkNo) (k : CkSt → CkSt) : (s.updCk u k).coef = s.coef := rfl
@[simp] theorem State.updCk_fold (u : CkNo) (k : CkSt → CkSt) : (s.updCk u k).fold = s.fold := rfl
@[simp] theorem State.updCk_rfx (u : CkNo) (k : CkSt → CkSt) : (s.updCk u k).rfx = s.rfx := rfl
@[simp] theorem State.updCk_drv (u : CkNo) (k : CkSt → CkSt) : (s.updCk u k).drv = s.drv := rfl
@[simp] theorem State.updCk_sv (u : CkNo) (k : CkSt → CkSt) : (s.updCk u k).sv = s.sv := rfl
@[simp] theorem State.updCk_fw (u : CkNo) (k : CkSt → CkSt) : (s.updCk u k).fw = s.fw := rfl
@[simp] theorem State.updCk_hk (u : CkNo) (k : CkSt → CkSt) : (s.updCk u k).hk = s.hk := rfl
@[simp] theorem State.updCk_ldg (u : CkNo) (k : CkSt → CkSt) : (s.updCk u k).ldg = s.ldg := rfl
@[simp] theorem State.updCk_tk (u : CkNo) (k : CkSt → CkSt) : (s.updCk u k).tk = s.tk := rfl
@[simp] theorem State.updCk_free (u : CkNo) (k : CkSt → CkSt) : (s.updCk u k).free = s.free := rfl

/-! ### What a write touches -/

@[simp] theorem State.setReg_regs (f : Fld) (v : Nat) : (s.setReg f v).regs = s.regs.set f v := rfl
@[simp] theorem State.setDie_die (f : Fld) (v : Nat) : (s.setDie f v).die = s.die.set f v := rfl
@[simp] theorem State.updRing_cmds (r : RingNo) (k : RingSt → RingSt) : (s.updRing r k).host.cmds = s.host.cmds := rfl
@[simp] theorem State.updRing_out (r : RingNo) (k : RingSt → RingSt) : (s.updRing r k).host.out = s.host.out := rfl

/-! ### Reads -/

/-- A field read after a write of a field. -/
@[simp] theorem State.reg_setReg (f g : Fld) (v : Nat) : (s.setReg f v).reg g = if f = g then v % 2 ^ f.w else s.reg g :=
  Store.get_set s.regs f g v
/-- A field of a die read after a write of a field. -/
@[simp] theorem State.dreg_setDie (f g : Fld) (v : Nat) : (s.setDie f v).dreg g = if f = g then v % 2 ^ f.w else s.dreg g :=
  Store.get_set s.die f g v
@[simp] theorem State.dreg_setReg (f g : Fld) (v : Nat) : (s.setReg f v).dreg g = s.dreg g := rfl
@[simp] theorem State.reg_setDie (f g : Fld) (v : Nat) : (s.setDie f v).reg g = s.reg g := rfl

@[simp] theorem State.reg_updLink (g : Grp) (k : Link → Link) (f : Fld) : (s.updLink g k).reg f = s.reg f := rfl
@[simp] theorem State.dreg_updLink (g : Grp) (k : Link → Link) (f : Fld) : (s.updLink g k).dreg f = s.dreg f := rfl
@[simp] theorem State.reg_updDie (g : Grp) (k : Die → Die) (f : Fld) : (s.updDie g k).reg f = s.reg f := rfl
@[simp] theorem State.dreg_updDie (g : Grp) (k : Die → Die) (f : Fld) : (s.updDie g k).dreg f = s.dreg f := rfl
@[simp] theorem State.reg_updCh (c : Ch) (k : Chan → Chan) (f : Fld) : (s.updCh c k).reg f = s.reg f := rfl
@[simp] theorem State.dreg_updCh (c : Ch) (k : Chan → Chan) (f : Fld) : (s.updCh c k).dreg f = s.dreg f := rfl
@[simp] theorem State.reg_updPort (c : Ch) (k : Port → Port) (f : Fld) : (s.updPort c k).reg f = s.reg f := rfl
@[simp] theorem State.dreg_updPort (c : Ch) (k : Port → Port) (f : Fld) : (s.updPort c k).dreg f = s.dreg f := rfl
@[simp] theorem State.reg_updChain (x : Strm) (k : Chain → Chain) (f : Fld) : (s.updChain x k).reg f = s.reg f := rfl
@[simp] theorem State.dreg_updChain (x : Strm) (k : Chain → Chain) (f : Fld) : (s.updChain x k).dreg f = s.dreg f := rfl
@[simp] theorem State.reg_updRing (r : RingNo) (k : RingSt → RingSt) (f : Fld) : (s.updRing r k).reg f = s.reg f := rfl
@[simp] theorem State.dreg_updRing (r : RingNo) (k : RingSt → RingSt) (f : Fld) : (s.updRing r k).dreg f = s.dreg f := rfl
@[simp] theorem State.reg_updDrv (d : DrvNo) (k : DrvCh → DrvCh) (f : Fld) : (s.updDrv d k).reg f = s.reg f := rfl
@[simp] theorem State.dreg_updDrv (d : DrvNo) (k : DrvCh → DrvCh) (f : Fld) : (s.updDrv d k).dreg f = s.dreg f := rfl
@[simp] theorem State.reg_updCk (u : CkNo) (k : CkSt → CkSt) (f : Fld) : (s.updCk u k).reg f = s.reg f := rfl
@[simp] theorem State.dreg_updCk (u : CkNo) (k : CkSt → CkSt) (f : Fld) : (s.updCk u k).dreg f = s.dreg f := rfl

/-! ### Members of the vectors -/

/-- A member read after a change of a member. -/
@[simp] theorem State.link_updLink (g h : Grp) (k : Link → Link) : (s.updLink g k).link h = if g = h then k (s.link h) else s.link h := by
  by_cases e : g = h
  · subst e; simp [State.link, State.updLink]
  · have hv : g.val ≠ h.val := fun a => e (Fin.ext a)
    simp [State.link, State.updLink, e, Vector.getElem_set_ne, hv]
/-- A member read after a change of a member. -/
@[simp] theorem State.dieOf_updDie (g h : Grp) (k : Die → Die) : (s.updDie g k).dieOf h = if g = h then k (s.dieOf h) else s.dieOf h := by
  by_cases e : g = h
  · subst e; simp [State.dieOf, State.updDie]
  · have hv : g.val ≠ h.val := fun a => e (Fin.ext a)
    simp [State.dieOf, State.updDie, e, Vector.getElem_set_ne, hv]
/-- A member read after a change of a member. -/
@[simp] theorem State.ch_updCh (c d : Ch) (k : Chan → Chan) : (s.updCh c k).ch d = if c = d then k (s.ch d) else s.ch d := by
  by_cases e : c = d
  · subst e; simp [State.ch, State.updCh]
  · have hv : c.val ≠ d.val := fun a => e (Fin.ext a)
    simp [State.ch, State.updCh, e, Vector.getElem_set_ne, hv]
/-- A member read after a change of a member. -/
@[simp] theorem State.chain_updChain (x y : Strm) (k : Chain → Chain) : (s.updChain x k).chain y = if x = y then k (s.chain y) else s.chain y := by
  by_cases e : x = y
  · subst e; simp [State.chain, State.updChain]
  · have hv : x.val ≠ y.val := fun a => e (Fin.ext a)
    simp [State.chain, State.updChain, e, Vector.getElem_set_ne, hv]
/-- A member read after a change of a member. -/
@[simp] theorem State.ring_updRing (r q : RingNo) (k : RingSt → RingSt) : (s.updRing r k).ring q = if r = q then k (s.ring q) else s.ring q := by
  by_cases e : r = q
  · subst e; simp [State.ring, State.updRing]
  · have hv : r.val ≠ q.val := fun a => e (Fin.ext a)
    simp [State.ring, State.updRing, e, Vector.getElem_set_ne, hv]
/-- A member read after a change of a member. -/
@[simp] theorem State.drvc_updDrv (d n : DrvNo) (k : DrvCh → DrvCh) : (s.updDrv d k).drvc n = if d = n then k (s.drvc n) else s.drvc n := by
  by_cases e : d = n
  · subst e; simp [State.drvc, State.updDrv]
  · have hv : d.val ≠ n.val := fun a => e (Fin.ext a)
    simp [State.drvc, State.updDrv, e, Vector.getElem_set_ne, hv]
@[simp] theorem State.link_setReg (f : Fld) (v : Nat) (y : Grp) : (s.setReg f v).link y = s.link y := rfl
@[simp] theorem State.link_setDie (f : Fld) (v : Nat) (y : Grp) : (s.setDie f v).link y = s.link y := rfl
@[simp] theorem State.link_updDie (g : Grp) (k : Die → Die) (y : Grp) : (s.updDie g k).link y = s.link y := rfl
@[simp] theorem State.link_updCh (c : Ch) (k : Chan → Chan) (y : Grp) : (s.updCh c k).link y = s.link y := rfl
@[simp] theorem State.link_updPort (c : Ch) (k : Port → Port) (y : Grp) : (s.updPort c k).link y = s.link y := rfl
@[simp] theorem State.link_updChain (x : Strm) (k : Chain → Chain) (y : Grp) : (s.updChain x k).link y = s.link y := rfl
@[simp] theorem State.link_updRing (r : RingNo) (k : RingSt → RingSt) (y : Grp) : (s.updRing r k).link y = s.link y := rfl
@[simp] theorem State.link_updDrv (d : DrvNo) (k : DrvCh → DrvCh) (y : Grp) : (s.updDrv d k).link y = s.link y := rfl
@[simp] theorem State.link_updCk (u : CkNo) (k : CkSt → CkSt) (y : Grp) : (s.updCk u k).link y = s.link y := rfl
@[simp] theorem State.dieOf_setReg (f : Fld) (v : Nat) (y : Grp) : (s.setReg f v).dieOf y = s.dieOf y := rfl
@[simp] theorem State.dieOf_setDie (f : Fld) (v : Nat) (y : Grp) : (s.setDie f v).dieOf y = s.dieOf y := rfl
@[simp] theorem State.dieOf_updLink (g : Grp) (k : Link → Link) (y : Grp) : (s.updLink g k).dieOf y = s.dieOf y := rfl
@[simp] theorem State.dieOf_updCh (c : Ch) (k : Chan → Chan) (y : Grp) : (s.updCh c k).dieOf y = s.dieOf y := rfl
@[simp] theorem State.dieOf_updPort (c : Ch) (k : Port → Port) (y : Grp) : (s.updPort c k).dieOf y = s.dieOf y := rfl
@[simp] theorem State.dieOf_updChain (x : Strm) (k : Chain → Chain) (y : Grp) : (s.updChain x k).dieOf y = s.dieOf y := rfl
@[simp] theorem State.dieOf_updRing (r : RingNo) (k : RingSt → RingSt) (y : Grp) : (s.updRing r k).dieOf y = s.dieOf y := rfl
@[simp] theorem State.dieOf_updDrv (d : DrvNo) (k : DrvCh → DrvCh) (y : Grp) : (s.updDrv d k).dieOf y = s.dieOf y := rfl
@[simp] theorem State.dieOf_updCk (u : CkNo) (k : CkSt → CkSt) (y : Grp) : (s.updCk u k).dieOf y = s.dieOf y := rfl
@[simp] theorem State.ch_setReg (f : Fld) (v : Nat) (y : Ch) : (s.setReg f v).ch y = s.ch y := rfl
@[simp] theorem State.ch_setDie (f : Fld) (v : Nat) (y : Ch) : (s.setDie f v).ch y = s.ch y := rfl
@[simp] theorem State.ch_updLink (g : Grp) (k : Link → Link) (y : Ch) : (s.updLink g k).ch y = s.ch y := rfl
@[simp] theorem State.ch_updDie (g : Grp) (k : Die → Die) (y : Ch) : (s.updDie g k).ch y = s.ch y := rfl
@[simp] theorem State.ch_updChain (x : Strm) (k : Chain → Chain) (y : Ch) : (s.updChain x k).ch y = s.ch y := rfl
@[simp] theorem State.ch_updRing (r : RingNo) (k : RingSt → RingSt) (y : Ch) : (s.updRing r k).ch y = s.ch y := rfl
@[simp] theorem State.ch_updDrv (d : DrvNo) (k : DrvCh → DrvCh) (y : Ch) : (s.updDrv d k).ch y = s.ch y := rfl
@[simp] theorem State.ch_updCk (u : CkNo) (k : CkSt → CkSt) (y : Ch) : (s.updCk u k).ch y = s.ch y := rfl
@[simp] theorem State.chain_setReg (f : Fld) (v : Nat) (y : Strm) : (s.setReg f v).chain y = s.chain y := rfl
@[simp] theorem State.chain_setDie (f : Fld) (v : Nat) (y : Strm) : (s.setDie f v).chain y = s.chain y := rfl
@[simp] theorem State.chain_updLink (g : Grp) (k : Link → Link) (y : Strm) : (s.updLink g k).chain y = s.chain y := rfl
@[simp] theorem State.chain_updDie (g : Grp) (k : Die → Die) (y : Strm) : (s.updDie g k).chain y = s.chain y := rfl
@[simp] theorem State.chain_updCh (c : Ch) (k : Chan → Chan) (y : Strm) : (s.updCh c k).chain y = s.chain y := rfl
@[simp] theorem State.chain_updPort (c : Ch) (k : Port → Port) (y : Strm) : (s.updPort c k).chain y = s.chain y := rfl
@[simp] theorem State.chain_updRing (r : RingNo) (k : RingSt → RingSt) (y : Strm) : (s.updRing r k).chain y = s.chain y := rfl
@[simp] theorem State.chain_updDrv (d : DrvNo) (k : DrvCh → DrvCh) (y : Strm) : (s.updDrv d k).chain y = s.chain y := rfl
@[simp] theorem State.chain_updCk (u : CkNo) (k : CkSt → CkSt) (y : Strm) : (s.updCk u k).chain y = s.chain y := rfl
@[simp] theorem State.ring_setReg (f : Fld) (v : Nat) (y : RingNo) : (s.setReg f v).ring y = s.ring y := rfl
@[simp] theorem State.ring_setDie (f : Fld) (v : Nat) (y : RingNo) : (s.setDie f v).ring y = s.ring y := rfl
@[simp] theorem State.ring_updLink (g : Grp) (k : Link → Link) (y : RingNo) : (s.updLink g k).ring y = s.ring y := rfl
@[simp] theorem State.ring_updDie (g : Grp) (k : Die → Die) (y : RingNo) : (s.updDie g k).ring y = s.ring y := rfl
@[simp] theorem State.ring_updCh (c : Ch) (k : Chan → Chan) (y : RingNo) : (s.updCh c k).ring y = s.ring y := rfl
@[simp] theorem State.ring_updPort (c : Ch) (k : Port → Port) (y : RingNo) : (s.updPort c k).ring y = s.ring y := rfl
@[simp] theorem State.ring_updChain (x : Strm) (k : Chain → Chain) (y : RingNo) : (s.updChain x k).ring y = s.ring y := rfl
@[simp] theorem State.ring_updDrv (d : DrvNo) (k : DrvCh → DrvCh) (y : RingNo) : (s.updDrv d k).ring y = s.ring y := rfl
@[simp] theorem State.ring_updCk (u : CkNo) (k : CkSt → CkSt) (y : RingNo) : (s.updCk u k).ring y = s.ring y := rfl
@[simp] theorem State.drvc_setReg (f : Fld) (v : Nat) (y : DrvNo) : (s.setReg f v).drvc y = s.drvc y := rfl
@[simp] theorem State.drvc_setDie (f : Fld) (v : Nat) (y : DrvNo) : (s.setDie f v).drvc y = s.drvc y := rfl
@[simp] theorem State.drvc_updLink (g : Grp) (k : Link → Link) (y : DrvNo) : (s.updLink g k).drvc y = s.drvc y := rfl
@[simp] theorem State.drvc_updDie (g : Grp) (k : Die → Die) (y : DrvNo) : (s.updDie g k).drvc y = s.drvc y := rfl
@[simp] theorem State.drvc_updCh (c : Ch) (k : Chan → Chan) (y : DrvNo) : (s.updCh c k).drvc y = s.drvc y := rfl
@[simp] theorem State.drvc_updPort (c : Ch) (k : Port → Port) (y : DrvNo) : (s.updPort c k).drvc y = s.drvc y := rfl
@[simp] theorem State.drvc_updChain (x : Strm) (k : Chain → Chain) (y : DrvNo) : (s.updChain x k).drvc y = s.drvc y := rfl
@[simp] theorem State.drvc_updRing (r : RingNo) (k : RingSt → RingSt) (y : DrvNo) : (s.updRing r k).drvc y = s.drvc y := rfl
@[simp] theorem State.drvc_updCk (u : CkNo) (k : CkSt → CkSt) (y : DrvNo) : (s.updCk u k).drvc y = s.drvc y := rfl

@[simp] theorem State.ch_updPort (c d : Ch) (k : Port → Port) :
    (s.updPort c k).ch d = if c = d then { s.ch d with port := k (s.ch d).port } else s.ch d := by
  unfold State.updPort; rw [State.ch_updCh]

end Sys2Proof.Machine
end

