-- ==== Sys2Proof/Laws/Canon.lean ====
section
/-! SUPPORT. The canonical form of the state: what a record update, a choice, a fold and each of the smallest operations keep of it. -/

set_option Elab.async false

namespace Sys2Proof.Machine

variable {s : State}

/-- What the canonical form of a state written out is. -/
theorem State.canon_mk (p : List Instr) (r d h : Store) (hub : Hub) (host : HostIf) (links : Vector Link 4) (dies : Vector Die 4)
    (chans : Vector Chan 32) (chains : Vector Chain 64) (coef : List (Nat × Nat)) (fold : FoldSt) (rfx : RfxSt) (drv : DrvSt)
    (ck : Vector CkSt 8) (sv : SvSt) (fw : FwSt) (hk : HkSt) (ldg : LdgSt) (tk : TickSt) (free : Nat) :
    (State.mk p r d h hub host links dies chans chains coef fold rfx drv ck sv fw hk ldg tk free).Canon ↔
      r.wf = true ∧ d.wf = true ∧ h.wf = true ∧ fw.ram.wf = true :=
  ⟨fun ⟨a, b, c, e⟩ => ⟨a, b, c, e⟩, fun ⟨a, b, c, e⟩ => ⟨a, b, c, e⟩⟩
theorem State.canon_ite {c : Prop} [Decidable c] {a b : State} : (if c then a else b).Canon ↔ if c then a.Canon else b.Canon := by
  split <;> rfl
theorem State.canon_foldl {α : Type} {f : State → α → State} (hf : ∀ s x, s.Canon → (f s x).Canon) (l : List α) (h : s.Canon) :
    (l.foldl f s).Canon := by
  induction l generalizing s with
  | nil => exact h
  | cons x t ih => exact ih (hf s x h)
theorem State.canon_snd_ite {α : Type} {c : Prop} [Decidable c] {a b : α × State} :
    (if c then a else b).2.Canon ↔ if c then a.2.Canon else b.2.Canon := by split <;> rfl
theorem State.canon_fst_ite {α : Type} {c : Prop} [Decidable c] {a b : State × α} :
    (if c then a else b).1.Canon ↔ if c then a.1.Canon else b.1.Canon := by split <;> rfl
theorem State.setReg_canon {f : Fld} {v : Nat} (h : s.Canon) : (s.setReg f v).Canon := ⟨Store.wf_set f v h.regs, h.die, h.hid, h.ram⟩
theorem State.setDie_canon {f : Fld} {v : Nat} (h : s.Canon) : (s.setDie f v).Canon := ⟨h.regs, Store.wf_set f v h.die, h.hid, h.ram⟩
theorem State.updLink_canon {g : Grp} {k : Link → Link} (h : s.Canon) : (s.updLink g k).Canon := ⟨h.regs, h.die, h.hid, h.ram⟩
theorem State.updDie_canon {g : Grp} {k : Die → Die} (h : s.Canon) : (s.updDie g k).Canon := ⟨h.regs, h.die, h.hid, h.ram⟩
theorem State.updCh_canon {c : Ch} {k : Chan → Chan} (h : s.Canon) : (s.updCh c k).Canon := ⟨h.regs, h.die, h.hid, h.ram⟩
theorem State.updPort_canon {c : Ch} {k : Port → Port} (h : s.Canon) : (s.updPort c k).Canon := ⟨h.regs, h.die, h.hid, h.ram⟩
theorem State.updChain_canon {x : Strm} {k : Chain → Chain} (h : s.Canon) : (s.updChain x k).Canon := ⟨h.regs, h.die, h.hid, h.ram⟩
theorem State.updRing_canon {r : RingNo} {k : RingSt → RingSt} (h : s.Canon) : (s.updRing r k).Canon := ⟨h.regs, h.die, h.hid, h.ram⟩
theorem State.updDrv_canon {d : DrvNo} {k : DrvCh → DrvCh} (h : s.Canon) : (s.updDrv d k).Canon := ⟨h.regs, h.die, h.hid, h.ram⟩
theorem State.updCk_canon {u : CkNo} {k : CkSt → CkSt} (h : s.Canon) : (s.updCk u k).Canon := ⟨h.regs, h.die, h.hid, h.ram⟩

/-! ### Stores -/

theorem Store.wf_foldl {α : Type} {f : Store → α → Store} (hf : ∀ s x, s.wf = true → (f s x).wf = true) (l : List α) {st : Store}
    (h : st.wf = true) : (l.foldl f st).wf = true := by
  induction l generalizing st with
  | nil => exact h
  | cons x t ih => exact ih (hf st x h)
theorem Store.wf_filter {st : Store} (p : Fld × Nat → Bool) (h : st.wf = true) : Store.wf (st.filter p) = true := by
  have hab : ∀ (f : Fld) (l : Store), Store.above f l = true → Store.above f (l.filter p) = true := by
    intro f l
    induction l with
    | nil => intro _; rfl
    | cons c t ih =>
      obtain ⟨k, v⟩ := c
      intro hl
      simp only [Store.above, Bool.and_eq_true] at hl
      rw [List.filter_cons]
      split
      · simp only [Store.above, Bool.and_eq_true]; exact ⟨hl.1, ih hl.2⟩
      · exact ih hl.2
  induction st with
  | nil => rfl
  | cons c t ih =>
    obtain ⟨k, v⟩ := c
    simp only [Store.wf, Bool.and_eq_true] at h
    rw [List.filter_cons]
    split
    · simp only [Store.wf, Bool.and_eq_true]; exact ⟨⟨h.1.1, hab _ _ h.1.2⟩, ih h.2⟩
    · exact ih h.2
theorem storeWord_wf {st : Store} {u : U} {off v : Nat} (h : st.wf = true) : (storeWord st u off v).wf = true :=
  Store.wf_foldl (fun _ _ h => Store.wf_set _ _ h) _ h

end Sys2Proof.Machine
end

