-- ==== Sys2Proof/Laws/Canon1.lean ====
section
/-! SUPPORT. The canonical form of the state is kept by the shared operations, the Fold, machine time, windows and reflexes. -/

set_option Elab.async false

namespace Sys2Proof.Machine

theorem State.tally_canon {s : State} {f : Fld} {k : Nat} (hs : s.Canon) : (State.tally s f k).Canon := by
  unfold State.tally
  simp +contextual (maxDischargeDepth := 40) [hs, State.setReg_canon]
theorem State.wrapTally_canon {s : State} {f : Fld} {k : Nat} (hs : s.Canon) : (State.wrapTally s f k).Canon := by
  unfold State.wrapTally
  simp +contextual (maxDischargeDepth := 40) [hs, State.setReg_canon]
theorem State.dieTally_canon {s : State} {f : Fld} (hs : s.Canon) : (State.dieTally s f).Canon := by
  unfold State.dieTally
  simp +contextual (maxDischargeDepth := 40) [hs, State.setDie_canon]
theorem State.openValue_canon {s : State}  (hs : s.Canon) : (State.openValue s).2.Canon := by
  unfold State.openValue
  simp +contextual (maxDischargeDepth := 40) [hs, State.canon_mk, State.Canon.regs, State.Canon.die, State.Canon.hid, State.Canon.ram]
theorem State.stick_canon {s : State} {f : Fld} {v : Nat} (hs : s.Canon) : (State.stick s f v).Canon := by
  unfold State.stick
  simp +contextual (maxDischargeDepth := 40) [hs, State.canon_mk, Store.wf_set, State.Canon.regs, State.Canon.die, State.Canon.hid, State.Canon.ram]
theorem State.orCause_canon {s : State} {u : U} {k : Nat} (hs : s.Canon) : (State.orCause s u k).Canon := by
  unfold State.orCause
  simp +contextual (maxDischargeDepth := 40) [hs, State.stick_canon]
theorem State.hwSet_canon {s : State} {f : Fld} {v : Nat} (hs : s.Canon) : (State.hwSet s f v).Canon := by
  unfold State.hwSet
  simp +contextual (maxDischargeDepth := 40) [hs, State.canon_ite, State.setReg_canon]
theorem State.hwTally_canon {s : State} {f : Fld} {k : Nat} (hs : s.Canon) : (State.hwTally s f k).Canon := by
  unfold State.hwTally
  simp +contextual (maxDischargeDepth := 40) [hs, State.hwSet_canon]
theorem State.noteWrite_canon {s : State} {f : Fld} {was : Nat} (hs : s.Canon) : (State.noteWrite s f was).Canon := by
  unfold State.noteWrite
  simp +contextual (maxDischargeDepth := 40) [hs, State.canon_mk, State.canon_ite, State.Canon.regs, State.Canon.die, State.Canon.hid, State.Canon.ram]
theorem State.deliverMsix_canon {s : State} {k : Nat} {u : Option U} (hs : s.Canon) : (State.deliverMsix s k u).Canon := by
  unfold State.deliverMsix
  simp +contextual (maxDischargeDepth := 40) [hs, State.canon_mk, State.canon_ite, State.Canon.regs, State.Canon.die, State.Canon.hid, State.Canon.ram]
theorem State.crossBlocked_canon {s : State}  (hs : s.Canon) : (State.crossBlocked s).Canon := by
  unfold State.crossBlocked
  simp +contextual (maxDischargeDepth := 40) [hs, State.canon_ite, State.tally_canon, State.orCause_canon]
theorem State.requestMsix_canon {s : State} {k : Nat} {u : Option U} (hs : s.Canon) : (State.requestMsix s k u).Canon := by
  unfold State.requestMsix
  simp +contextual (maxDischargeDepth := 40) [hs, State.canon_mk, State.canon_ite, State.Canon.regs, State.Canon.die, State.Canon.hid, State.Canon.ram, State.deliverMsix_canon, State.crossBlocked_canon]
theorem State.unitMessage_canon {s : State} {u : U} (hs : s.Canon) : (State.unitMessage s u).Canon := by
  unfold State.unitMessage
  simp +contextual (maxDischargeDepth := 40) [hs, State.canon_ite, State.requestMsix_canon]
theorem State.unitAsked_canon {s : State} {u : U} (hs : s.Canon) : (State.unitAsked s u).Canon := by
  unfold State.unitAsked
  simp +contextual (maxDischargeDepth := 40) [hs, State.canon_mk, State.canon_ite, State.Canon.regs, State.Canon.die, State.Canon.hid, State.Canon.ram, State.unitMessage_canon]
theorem State.cause_canon {s : State} {u : U} {k : Nat} (hs : s.Canon) : (State.cause s u k).Canon := by
  unfold State.cause
  simp +contextual (maxDischargeDepth := 40) [hs, State.canon_ite, State.orCause_canon, State.unitMessage_canon]
theorem State.loseNote_canon {s : State} {kind : Nat} (hs : s.Canon) : (State.loseNote s kind).Canon := by
  unfold State.loseNote
  (repeat' split) <;> simp +contextual (maxDischargeDepth := 40) [hs, State.canon_mk, State.Canon.regs, State.Canon.die, State.Canon.hid, State.Canon.ram, State.tally_canon, State.cause_canon]
theorem State.raise_canon {s : State} {kind : Nat} {time : Nat} {body : List Place} (hs : s.Canon) : (State.raise s kind time body).Canon := by
  unfold State.raise
  simp +contextual (maxDischargeDepth := 40) [hs, State.canon_mk, State.canon_ite, State.Canon.regs, State.Canon.die, State.Canon.hid, State.Canon.ram, State.loseNote_canon]
theorem State.notify_canon {s : State} {kind : Nat} {body : List Place} (hs : s.Canon) : (State.notify s kind body).Canon := by
  unfold State.notify
  simp +contextual (maxDischargeDepth := 40) [hs, State.raise_canon]
theorem State.post_canon {s : State} {r : LRec} (hs : s.Canon) : (State.post s r).Canon := by
  unfold State.post
  simp +contextual (maxDischargeDepth := 40) [hs, State.canon_mk, State.canon_ite, State.Canon.regs, State.Canon.die, State.Canon.hid, State.Canon.ram, State.tally_canon, State.cause_canon]
theorem State.evt_canon {s : State} {g : Grp} {e : EvData} (hs : s.Canon) : (State.evt s g e).Canon := by
  unfold State.evt
  simp +contextual (maxDischargeDepth := 40) [hs, State.updDie_canon]
theorem State.laneTake_canon {s : State} {g : Grp} {n : Nat} (hs : s.Canon) : (State.laneTake s g n).Canon := by
  unfold State.laneTake
  simp +contextual (maxDischargeDepth := 40) [hs, State.updDie_canon]
theorem State.chEvt_canon {s : State} {c : Ch} {k : Nat} (hs : s.Canon) : (State.chEvt s c k).Canon := by
  unfold State.chEvt
  simp +contextual (maxDischargeDepth := 40) [hs, State.evt_canon]
theorem State.urgent_canon {s : State} {c : Ch} {code : Nat} {k : Nat} (hs : s.Canon) : (State.urgent s c code k).Canon := by
  unfold State.urgent
  simp +contextual (maxDischargeDepth := 40) [hs, State.updDie_canon]
theorem State.beginCommit_canon {s : State} {g : Grp} (hs : s.Canon) : (State.beginCommit s g).Canon := by
  unfold State.beginCommit
  simp +contextual (maxDischargeDepth := 40) [hs, State.updDie_canon]
theorem State.localTime_canon {s : State} {g : Grp} (hs : s.Canon) : (State.localTime s g).2.2.Canon := by
  unfold State.localTime
  (repeat' split) <;> simp +contextual (maxDischargeDepth := 40) [hs, State.openValue_canon]
theorem State.local_canon {s : State} {g : Grp} {code : Nat} {chan : Nat} {cls : Nat} {data : Nat} (hs : s.Canon) : (State.local s g code chan cls data).Canon := by
  unfold State.local
  simp +contextual (maxDischargeDepth := 40) [hs, State.canon_ite, State.updDie_canon, State.evt_canon, State.beginCommit_canon, State.localTime_canon]
theorem State.imageWrite_canon {s : State} {g : Grp} {off : Nat} {data : Nat} (hs : s.Canon) : (State.imageWrite s g off data).2.Canon := by
  unfold State.imageWrite
  (repeat' split) <;> simp +contextual (maxDischargeDepth := 40) [hs, State.updLink_canon, State.updCh_canon, State.wrapTally_canon]
theorem State.sendWord_canon {s : State} {u : U} {off : Nat} (hs : s.Canon) : (State.sendWord s u off).2.Canon := by
  unfold State.sendWord
  (repeat' split) <;> simp +contextual (maxDischargeDepth := 40) [hs, State.imageWrite_canon]
theorem State.sendRule_canon {s : State} {r : RuleNo} (hs : s.Canon) : (State.sendRule s r).Canon := by
  unfold State.sendRule
  simp +contextual (maxDischargeDepth := 40) [hs, State.canon_ite, State.updLink_canon]
theorem State.edgeMasks_canon {s : State}  (hs : s.Canon) : (State.edgeMasks s).Canon := by
  unfold State.edgeMasks
  simp +contextual (maxDischargeDepth := 40) [hs, State.canon_ite, State.canon_foldl, State.setReg_canon, State.sendWord_canon]
theorem State.consume_canon {s : State} {r : RingNo} (hs : s.Canon) : (State.consume s r).Canon := by
  unfold State.consume
  simp +contextual (maxDischargeDepth := 40) [hs, State.updRing_canon, State.wrapTally_canon]
theorem State.ringOut_canon {s : State} {r : RingNo} {e : OutEntry} (hs : s.Canon) : (State.ringOut s r e).Canon := by
  unfold State.ringOut
  simp +contextual (maxDischargeDepth := 40) [hs, State.updRing_canon]
theorem State.complete_canon {s : State} {seq : Nat} {status : Nat} {op : Nat} {ring : Nat} {item : Nat} {extra : List Place} (hs : s.Canon) : (State.complete s seq status op ring item extra).Canon := by
  unfold State.complete
  simp +contextual (maxDischargeDepth := 40) [hs, State.ringOut_canon]
theorem State.halt_canon {s : State} {r : RingNo} {cause : Nat} (hs : s.Canon) : (State.halt s r cause).Canon := by
  unfold State.halt
  simp +contextual (maxDischargeDepth := 40) [hs, State.canon_ite, State.setReg_canon, State.updRing_canon, State.cause_canon, State.notify_canon]
theorem State.lowWater_canon {s : State}  (hs : s.Canon) : (State.lowWater s).Canon := by
  unfold State.lowWater
  simp +contextual (maxDischargeDepth := 40) [hs, State.canon_mk, State.canon_ite, State.Canon.regs, State.Canon.die, State.Canon.hid, State.Canon.ram, State.cause_canon, State.notify_canon]
theorem State.peakOcc_canon {s : State}  (hs : s.Canon) : (State.peakOcc s).Canon := by
  unfold State.peakOcc
  simp +contextual (maxDischargeDepth := 40) [hs, State.canon_ite, State.hwSet_canon]
theorem State.setCmd_canon {s : State} {c : Ch} {on : Bool} {run : Bool} (hs : s.Canon) : (State.setCmd s c on run).Canon := by
  unfold State.setCmd
  simp +contextual (maxDischargeDepth := 40) [hs, State.hwSet_canon]
theorem State.cmdAt_canon {s : State} {t : Nat} {c : Ch} {on : Bool} {run : Bool} (hs : s.Canon) : (State.cmdAt s t c on run).Canon := by
  unfold State.cmdAt
  simp +contextual (maxDischargeDepth := 40) [hs, State.canon_mk, State.canon_ite, State.Canon.regs, State.Canon.die, State.Canon.hid, State.Canon.ram, State.setCmd_canon]
theorem State.cmdDue_canon {s : State}  (hs : s.Canon) : (State.cmdDue s).Canon := by
  unfold State.cmdDue
  simp +contextual (maxDischargeDepth := 40) [hs, State.canon_mk, State.canon_foldl, State.Canon.regs, State.Canon.die, State.Canon.hid, State.Canon.ram, State.setCmd_canon]
theorem State.actionCmd_canon {s : State} {g : Nat} {target : Nat} {action : Nat} {param : Nat} (hs : s.Canon) : (State.actionCmd s g target action param).Canon := by
  unfold State.actionCmd
  (repeat' split) <;> simp +contextual (maxDischargeDepth := 40) [hs, State.cmdAt_canon]
theorem State.slotLate_canon {s : State} {target : Nat} {action : Nat} {t : Nat} {outcome : Nat} {where_ : Nat} {lateness : Nat} (hs : s.Canon) : (State.slotLate s target action t outcome where_ lateness).Canon := by
  unfold State.slotLate
  simp +contextual (maxDischargeDepth := 40) [hs, State.canon_ite, State.cause_canon, State.notify_canon]
theorem State.cancelNote_canon {s : State} {l : List Slot} {chByte : Nat} {cause : Nat} {rule : Nat} (hs : s.Canon) : (State.cancelNote s l chByte cause rule).Canon := by
  unfold State.cancelNote
  (repeat' split) <;> simp +contextual (maxDischargeDepth := 40) [hs, State.tally_canon, State.cause_canon, State.notify_canon]
theorem State.cancelSlots_canon {s : State} {p : Slot → Bool} {cause : Nat} {rule : Nat} (hs : s.Canon) : (State.cancelSlots s p cause rule).Canon := by
  unfold State.cancelSlots
  simp +contextual (maxDischargeDepth := 40) [hs, State.canon_mk, State.canon_ite, State.canon_foldl, State.Canon.regs, State.Canon.die, State.Canon.hid, State.Canon.ram, State.cause_canon, State.lowWater_canon, State.cancelNote_canon]
theorem State.markNote_canon {s : State} {t : Nat} {param : Nat} (hs : s.Canon) : (State.markNote s t param).Canon := by
  unfold State.markNote
  simp +contextual (maxDischargeDepth := 40) [hs, State.notify_canon]
theorem State.releaseSlot_canon {s : State} {x : Slot} (hs : s.Canon) : (State.releaseSlot s x).Canon := by
  unfold State.releaseSlot
  simp +contextual (maxDischargeDepth := 40) [hs, State.canon_mk, State.canon_ite, State.Canon.regs, State.Canon.die, State.Canon.hid, State.Canon.ram, State.updLink_canon, State.updCh_canon, State.wrapTally_canon, State.actionCmd_canon, State.markNote_canon]
theorem State.markDue_canon {s : State} {x : Slot} (hs : s.Canon) : (State.markDue s x).Canon := by
  unfold State.markDue
  simp +contextual (maxDischargeDepth := 40) [hs, State.canon_mk, State.Canon.regs, State.Canon.die, State.Canon.hid, State.Canon.ram]
theorem State.releaseOrWait_canon {s : State} {x : Slot} (hs : s.Canon) : (State.releaseOrWait s x).Canon := by
  unfold State.releaseOrWait
  simp +contextual (maxDischargeDepth := 40) [hs, State.canon_ite, State.tally_canon, State.releaseSlot_canon, State.markDue_canon]
theorem State.cancelAbsent_canon {s : State}  (hs : s.Canon) : (State.cancelAbsent s).Canon := by
  unfold State.cancelAbsent
  simp +contextual (maxDischargeDepth := 40) [hs, State.cancelSlots_canon]
theorem State.lateSlot_canon {s : State} {x : Slot} {where_ : Nat} (hs : s.Canon) : (State.lateSlot s x where_).Canon := by
  unfold State.lateSlot
  simp +contextual (maxDischargeDepth := 40) [hs, State.canon_mk, State.canon_ite, State.Canon.regs, State.Canon.die, State.Canon.hid, State.Canon.ram, State.tally_canon, State.slotLate_canon, State.releaseOrWait_canon]
theorem State.enterAction_canon {s : State} {policy : Nat} {t : Nat} {target : Nat} {action : Nat} {param : Nat} (hs : s.Canon) : (State.enterAction s policy t target action param).Canon := by
  unfold State.enterAction
  simp +contextual (maxDischargeDepth := 40) [hs, State.canon_mk, State.canon_ite, State.Canon.regs, State.Canon.die, State.Canon.hid, State.Canon.ram, State.openValue_canon, State.peakOcc_canon, State.lateSlot_canon]
theorem State.refuseEntry_canon {s : State} {e : Entry} {why : Nat} (hs : s.Canon) : (State.refuseEntry s e why).Canon := by
  unfold State.refuseEntry
  simp +contextual (maxDischargeDepth := 40) [hs, State.canon_mk, State.Canon.regs, State.Canon.die, State.Canon.hid, State.Canon.ram, State.tally_canon, State.cause_canon, State.notify_canon, State.consume_canon, State.lowWater_canon]
theorem State.fullWait_canon {s : State} {e : Entry} (hs : s.Canon) : (State.fullWait s e).Canon := by
  unfold State.fullWait
  simp +contextual (maxDischargeDepth := 40) [hs, State.canon_ite, State.setReg_canon, State.tally_canon, State.cause_canon, State.notify_canon]
theorem State.scheduleHead_canon {s : State}  (hs : s.Canon) : (State.scheduleHead s).Canon := by
  unfold State.scheduleHead
  (repeat' split) <;> simp +contextual (maxDischargeDepth := 40) [hs, State.canon_mk, State.canon_foldl, State.Canon.regs, State.Canon.die, State.Canon.hid, State.Canon.ram, State.setReg_canon, State.consume_canon, State.lowWater_canon, State.cancelAbsent_canon, State.enterAction_canon, State.refuseEntry_canon, State.fullWait_canon]
theorem State.cancelHead_canon {s : State}  (hs : s.Canon) : (State.cancelHead s).Canon := by
  unfold State.cancelHead
  (repeat' split) <;> simp +contextual (maxDischargeDepth := 40) [hs, State.canon_mk, State.Canon.regs, State.Canon.die, State.Canon.hid, State.Canon.ram, State.consume_canon, State.lowWater_canon, State.cancelSlots_canon, State.refuseEntry_canon]
theorem State.slotDue_canon {s : State}  (hs : s.Canon) : (State.slotDue s).Canon := by
  unfold State.slotDue
  (repeat' split) <;> simp +contextual (maxDischargeDepth := 40) [hs, State.lowWater_canon, State.cancelSlots_canon, State.releaseOrWait_canon]
theorem State.foldEnabled_canon {s : State}  (hs : s.Canon) : (State.foldEnabled s).Canon := by
  unfold State.foldEnabled
  simp +contextual (maxDischargeDepth := 40) [hs, State.canon_foldl, State.lowWater_canon, State.cancelAbsent_canon, State.lateSlot_canon]
theorem State.foldCancel_canon {s : State} {mask : Nat} (hs : s.Canon) : (State.foldCancel s mask).Canon := by
  unfold State.foldCancel
  simp +contextual (maxDischargeDepth := 40) [hs, State.cancelSlots_canon]
theorem State.edgeDone_canon {s : State} {w : EdgeWait} {none_ : Bool} {cross : Nat} {d : Nat} (hs : s.Canon) : (State.edgeDone s w none_ cross d).Canon := by
  unfold State.edgeDone
  simp +contextual (maxDischargeDepth := 40) [hs, State.notify_canon]
theorem State.waitEnds_canon {s : State} {c : Ch} {w : EdgeWait} {none_ : Bool} {cross : Nat} {d : Nat} (hs : s.Canon) : (State.waitEnds s c w none_ cross d).Canon := by
  unfold State.waitEnds
  simp +contextual (maxDischargeDepth := 40) [hs, State.canon_ite, State.setReg_canon, State.updCh_canon, State.edgeDone_canon]
theorem State.delayIn_canon {s : State} {c : Ch} {on : Bool} {d : Nat} {v : Nat} {cross : Nat} {slot : Option Nat} (hs : s.Canon) : (State.delayIn s c on d v cross slot).Canon := by
  unfold State.delayIn
  (repeat' split) <;> simp +contextual (maxDischargeDepth := 40) [hs, State.canon_ite, State.setReg_canon, State.updCh_canon, State.tally_canon, State.waitEnds_canon]
theorem State.setPair_canon {s : State} {lo : Fld} {hi : Fld} {v : Nat} (hs : s.Canon) : (State.setPair s lo hi v).Canon := by
  unfold State.setPair
  simp +contextual (maxDischargeDepth := 40) [hs, State.setReg_canon]
theorem State.tickOn_canon {s : State}  (hs : s.Canon) : (State.tickOn s).Canon := by
  unfold State.tickOn
  simp +contextual (maxDischargeDepth := 40) [hs, State.canon_mk, State.Canon.regs, State.Canon.die, State.Canon.hid, State.Canon.ram, State.peakOcc_canon, State.cmdDue_canon]
theorem State.slewWritten_canon {s : State} {v : Nat} (hs : s.Canon) : (State.slewWritten s v).Canon := by
  unfold State.slewWritten
  simp +contextual (maxDischargeDepth := 40) [hs, State.canon_mk, State.Canon.regs, State.Canon.die, State.Canon.hid, State.Canon.ram, State.setReg_canon]
theorem State.stepRelease_canon {s : State}  (hs : s.Canon) : (State.stepRelease s).Canon := by
  unfold State.stepRelease
  (repeat' split) <;> simp +contextual (maxDischargeDepth := 40) [hs, State.canon_mk, State.Canon.regs, State.Canon.die, State.Canon.hid, State.Canon.ram, State.setReg_canon]
theorem State.stepAsked_canon {s : State} {delta : Int} {cause : Nat} (hs : s.Canon) : (State.stepAsked s delta cause).Canon := by
  unfold State.stepAsked
  (repeat' split) <;> simp +contextual (maxDischargeDepth := 40) [hs, State.canon_mk, State.Canon.regs, State.Canon.die, State.Canon.hid, State.Canon.ram, State.setReg_canon, State.tally_canon]
theorem State.moveSchedule_canon {s : State} {delta : Int} (hs : s.Canon) : (State.moveSchedule s delta).Canon := by
  unfold State.moveSchedule
  simp +contextual (maxDischargeDepth := 40) [hs, State.canon_mk, State.canon_ite, State.canon_foldl, State.Canon.regs, State.Canon.die, State.Canon.hid, State.Canon.ram, State.setPair_canon]
theorem State.soAim_canon {s : State} {t : Nat} (hs : s.Canon) : (State.soAim s t).Canon := by
  unfold State.soAim
  simp +contextual (maxDischargeDepth := 40) [hs, State.canon_mk, State.Canon.regs, State.Canon.die, State.Canon.hid, State.Canon.ram]
theorem State.sendStep_canon {s : State} {delta : Int} (hs : s.Canon) : (State.sendStep s delta).Canon := by
  unfold State.sendStep
  simp +contextual (maxDischargeDepth := 40) [hs, State.canon_ite, State.canon_foldl, State.setReg_canon, State.updLink_canon]
theorem State.stepApplied_canon {s : State} {delta : Int} {cause : Nat} {k : Nat} (hs : s.Canon) : (State.stepApplied s delta cause k).Canon := by
  unfold State.stepApplied
  dsimp only
  (repeat' split) <;> simp +contextual (maxDischargeDepth := 40) [hs, State.canon_mk, State.Canon.regs, State.Canon.die, State.Canon.hid, State.Canon.ram, State.setReg_canon, State.tally_canon, State.hwSet_canon, State.cause_canon, State.notify_canon, State.cmdDue_canon, State.setPair_canon, State.stepRelease_canon, State.moveSchedule_canon, State.soAim_canon, State.sendStep_canon]
theorem State.siEdge_canon {s : State} {rising : Bool} (hs : s.Canon) : (State.siEdge s rising).Canon := by
  unfold State.siEdge
  simp +contextual (maxDischargeDepth := 40) [hs, State.canon_mk, State.canon_ite, State.Canon.regs, State.Canon.die, State.Canon.hid, State.Canon.ram, State.setReg_canon, State.tally_canon, State.wrapTally_canon, State.hwSet_canon, State.cause_canon, State.setPair_canon, State.stepAsked_canon]
theorem State.soWritten_canon {s : State}  (hs : s.Canon) : (State.soWritten s).Canon := by
  unfold State.soWritten
  simp +contextual (maxDischargeDepth := 40) [hs, State.canon_mk, State.canon_ite, State.Canon.regs, State.Canon.die, State.Canon.hid, State.Canon.ram, State.soAim_canon]
theorem State.soEnWritten_canon {s : State} {old : Nat} (hs : s.Canon) : (State.soEnWritten s old).Canon := by
  unfold State.soEnWritten
  simp +contextual (maxDischargeDepth := 40) [hs, State.canon_ite, State.soWritten_canon]
theorem State.condition_canon {s : State} {lane : Grp} {x : Cond} (hs : s.Canon) : (State.condition s lane x).Canon := by
  unfold State.condition
  simp +contextual (maxDischargeDepth := 40) [hs, State.canon_mk, State.canon_ite, State.Canon.regs, State.Canon.die, State.Canon.hid, State.Canon.ram, State.tally_canon, State.cause_canon]
theorem State.windowNote_canon {s : State} {x : Strm} {fine : Bool} {dir : Nat} {word : Nat} {t : Nat} {gap : Bool} (hs : s.Canon) : (State.windowNote s x fine dir word t gap).Canon := by
  unfold State.windowNote
  simp +contextual (maxDischargeDepth := 40) [hs, State.canon_ite, State.updChain_canon, State.tally_canon, State.cause_canon, State.raise_canon]
theorem State.windowExit_canon {s : State} {x : Strm} {fine : Bool} {dir : Nat} {word : Nat} {t : Nat} {gap : Bool} (hs : s.Canon) : (State.windowExit s x fine dir word t gap).Canon := by
  unfold State.windowExit
  simp +contextual (maxDischargeDepth := 40) [hs, State.cause_canon, State.condition_canon, State.windowNote_canon]
theorem State.compare_canon {s : State} {x : Strm} {fine : Bool} {v : Int} {settle gap : Bool} {word t : Nat} (h : s.Canon) :
    (s.compare x fine v settle gap word t).Canon := by
  unfold State.compare
  dsimp only
  split
  · exact h
  · split
    · exact State.updChain_canon h
    · repeat' split
      all_goals first
        | exact State.setReg_canon (State.updChain_canon h)
        | exact State.windowExit_canon (State.setReg_canon (State.updChain_canon h))
theorem State.cmpUnset_canon {s : State} {x : Strm} {fine : Bool} (hs : s.Canon) : (State.cmpUnset s x fine).Canon := by
  unfold State.cmpUnset
  simp +contextual (maxDischargeDepth := 40) [hs, State.setReg_canon, State.updChain_canon]
theorem State.cmpSuspend_canon {s : State} {c : Ch} (hs : s.Canon) : (State.cmpSuspend s c).Canon := by
  unfold State.cmpSuspend
  simp +contextual (maxDischargeDepth := 40) [hs, State.canon_foldl, State.updChain_canon, State.cmpUnset_canon]
theorem State.cmpResume_canon {s : State} {c : Ch} (hs : s.Canon) : (State.cmpResume s c).Canon := by
  unfold State.cmpResume
  simp +contextual (maxDischargeDepth := 40) [hs, State.canon_foldl, State.updChain_canon]
theorem State.winWritten_canon {s : State} {x : Strm} {fine : Bool} (hs : s.Canon) : (State.winWritten s x fine).Canon := by
  unfold State.winWritten
  simp +contextual (maxDischargeDepth := 40) [hs, State.canon_ite, State.updChain_canon]
theorem State.cmpTick_canon {s : State} (h : s.Canon) : s.cmpTick.Canon := by
  unfold State.cmpTick
  refine State.canon_foldl (fun s p h => ?_) _ h
  split
  · refine State.canon_foldl (fun s x h => ?_) _ h
    split
    · exact State.cmpUnset_canon h
    · exact h
  · exact h
theorem State.queueAction_canon {s : State} {r : RuleNo} {g : Grp} {tag : TxTag} (hs : s.Canon) : (State.queueAction s r g tag).Canon := by
  unfold State.queueAction
  simp +contextual (maxDischargeDepth := 40) [hs, State.updLink_canon]
theorem State.urgIn_canon {s : State} {g : Grp} (hs : s.Canon) : (State.urgIn s g).Canon := by
  unfold State.urgIn
  simp +contextual (maxDischargeDepth := 40) [hs, State.updLink_canon]
theorem State.urgSend_canon {g : Grp} {n : Nat} {s : State} (h : s.Canon) : (State.urgSend g n s).Canon := by
  induction n generalizing s with
  | zero => exact h
  | succ n ih =>
    unfold State.urgSend
    (repeat' split) <;> simp +contextual (maxDischargeDepth := 40) [h, ih, State.updLink_canon, State.urgIn_canon]
theorem State.urgGo_canon {s : State} {g : Grp} (h : s.Canon) : (s.urgGo g).Canon := State.urgSend_canon h
theorem State.urgWait_canon {s : State}  (hs : s.Canon) : (State.urgWait s).Canon := by
  unfold State.urgWait
  simp +contextual (maxDischargeDepth := 40) [hs, State.tally_canon, State.cause_canon]
theorem State.sendAction_canon {s : State} {r : RuleNo} (hs : s.Canon) : (State.sendAction s r).Canon := by
  unfold State.sendAction
  simp +contextual (maxDischargeDepth := 40) [hs, State.canon_ite, State.updLink_canon, State.queueAction_canon, State.urgGo_canon, State.urgWait_canon]
theorem State.reflexCmd_canon {s : State} {r : RuleNo} (hs : s.Canon) : (State.reflexCmd s r).Canon := by
  unfold State.reflexCmd
  (repeat' split) <;> simp +contextual (maxDischargeDepth := 40) [hs, State.setCmd_canon, State.cmdAt_canon]
theorem State.fireAction_canon {s : State} {r : RuleNo} (hs : s.Canon) : (State.fireAction s r).Canon := by
  unfold State.fireAction
  simp +contextual (maxDischargeDepth := 40) [hs, State.canon_mk, State.canon_ite, State.Canon.regs, State.Canon.die, State.Canon.hid, State.Canon.ram, State.sendAction_canon, State.reflexCmd_canon]
theorem State.fireArm_canon {s : State} {r : RuleNo} {once : Bool} (hs : s.Canon) : (State.fireArm s r once).Canon := by
  unfold State.fireArm
  simp +contextual (maxDischargeDepth := 40) [hs, State.canon_mk, State.canon_ite, State.Canon.regs, State.Canon.die, State.Canon.hid, State.Canon.ram, State.setReg_canon, State.edgeMasks_canon]
theorem State.fire_canon {s : State} {x : Cond} {r : RuleNo} (hs : s.Canon) : (State.fire s x r).Canon := by
  unfold State.fire
  simp +contextual (maxDischargeDepth := 40) [hs, State.canon_ite, State.setReg_canon, State.tally_canon, State.notify_canon, State.fireAction_canon, State.fireArm_canon]
theorem State.evaluate_canon {s : State} {x : Cond} (hs : s.Canon) : (State.evaluate s x).Canon := by
  unfold State.evaluate
  simp +contextual (maxDischargeDepth := 40) [hs, State.canon_foldl, State.tally_canon, State.fire_canon]
theorem State.armWritten_canon {s : State} {r : RuleNo} (hs : s.Canon) : (State.armWritten s r).Canon := by
  unfold State.armWritten
  simp +contextual (maxDischargeDepth := 40) [hs, State.setReg_canon, State.noteWrite_canon, State.edgeMasks_canon]
theorem State.busyRule_canon {s : State}  (hs : s.Canon) : (State.busyRule s).Canon := by
  unfold State.busyRule
  simp +contextual (maxDischargeDepth := 40) [hs, State.tally_canon, State.cause_canon]
theorem State.discarded_canon {s : State} {c : Option Ch} {fold : Bool} (hs : s.Canon) : (State.discarded s c fold).Canon := by
  unfold State.discarded
  (repeat' split) <;> simp +contextual (maxDischargeDepth := 40) [hs, State.setReg_canon, State.tally_canon, State.cause_canon]

end Sys2Proof.Machine
end

