-- ==== Sys2Proof/Laws/Frame.lean ====
section
/-! SUPPORT. Each field of a state that a choice or a fold gives. -/

namespace Sys2Proof.Machine

variable {c : Prop} [Decidable c] {a b s : State} {α : Type}

@[simp] theorem State.ite_pending : (if c then a else b).pending = if c then a.pending else b.pending := by split <;> rfl
@[simp] theorem State.ite_regs : (if c then a else b).regs = if c then a.regs else b.regs := by split <;> rfl
@[simp] theorem State.ite_die : (if c then a else b).die = if c then a.die else b.die := by split <;> rfl
@[simp] theorem State.ite_hid : (if c then a else b).hid = if c then a.hid else b.hid := by split <;> rfl
@[simp] theorem State.ite_hub : (if c then a else b).hub = if c then a.hub else b.hub := by split <;> rfl
@[simp] theorem State.ite_host : (if c then a else b).host = if c then a.host else b.host := by split <;> rfl
@[simp] theorem State.ite_links : (if c then a else b).links = if c then a.links else b.links := by split <;> rfl
@[simp] theorem State.ite_dies : (if c then a else b).dies = if c then a.dies else b.dies := by split <;> rfl
@[simp] theorem State.ite_chans : (if c then a else b).chans = if c then a.chans else b.chans := by split <;> rfl
@[simp] theorem State.ite_chains : (if c then a else b).chains = if c then a.chains else b.chains := by split <;> rfl
@[simp] theorem State.ite_coef : (if c then a else b).coef = if c then a.coef else b.coef := by split <;> rfl
@[simp] theorem State.ite_fold : (if c then a else b).fold = if c then a.fold else b.fold := by split <;> rfl
@[simp] theorem State.ite_rfx : (if c then a else b).rfx = if c then a.rfx else b.rfx := by split <;> rfl
@[simp] theorem State.ite_drv : (if c then a else b).drv = if c then a.drv else b.drv := by split <;> rfl
@[simp] theorem State.ite_ck : (if c then a else b).ck = if c then a.ck else b.ck := by split <;> rfl
@[simp] theorem State.ite_sv : (if c then a else b).sv = if c then a.sv else b.sv := by split <;> rfl
@[simp] theorem State.ite_fw : (if c then a else b).fw = if c then a.fw else b.fw := by split <;> rfl
@[simp] theorem State.ite_hk : (if c then a else b).hk = if c then a.hk else b.hk := by split <;> rfl
@[simp] theorem State.ite_ldg : (if c then a else b).ldg = if c then a.ldg else b.ldg := by split <;> rfl
@[simp] theorem State.ite_tk : (if c then a else b).tk = if c then a.tk else b.tk := by split <;> rfl
@[simp] theorem State.ite_free : (if c then a else b).free = if c then a.free else b.free := by split <;> rfl
@[simp] theorem snd_ite_state {x y : α × State} : (if c then x else y).2 = if c then x.2 else y.2 := by split <;> rfl
@[simp] theorem fst_ite_state {x y : State × α} : (if c then x else y).1 = if c then x.1 else y.1 := by split <;> rfl

/-- What every step of a fold keeps, the fold keeps. -/
theorem State.foldl_keep {β : Type} (p : State → β) {f : State → α → State} (h : ∀ s x, p (f s x) = p s) (l : List α) (s : State) :
    p (l.foldl f s) = p s := by
  induction l generalizing s with
  | nil => rfl
  | cons x t ih => rw [List.foldl_cons, ih, h]
/-- What every step of a fold over a state and something beside it keeps, the fold keeps. -/
theorem State.foldl_snd_keep {β γ : Type} (p : State → β) {f : γ × State → α → γ × State} (h : ∀ q x, p (f q x).2 = p q.2) (l : List α)
    (q : γ × State) : p (l.foldl f q).2 = p q.2 := by
  induction l generalizing q with
  | nil => rfl
  | cons x t ih => rw [List.foldl_cons, ih, h]
@[simp] theorem State.foldl_pending {f : State → α → State} (h : ∀ s x, (f s x).pending = s.pending) (l : List α) : (l.foldl f s).pending = s.pending :=
  State.foldl_keep State.pending h l s
@[simp] theorem State.foldl_regs {f : State → α → State} (h : ∀ s x, (f s x).regs = s.regs) (l : List α) : (l.foldl f s).regs = s.regs :=
  State.foldl_keep State.regs h l s
@[simp] theorem State.foldl_die {f : State → α → State} (h : ∀ s x, (f s x).die = s.die) (l : List α) : (l.foldl f s).die = s.die :=
  State.foldl_keep State.die h l s
@[simp] theorem State.foldl_hid {f : State → α → State} (h : ∀ s x, (f s x).hid = s.hid) (l : List α) : (l.foldl f s).hid = s.hid :=
  State.foldl_keep State.hid h l s
@[simp] theorem State.foldl_hub {f : State → α → State} (h : ∀ s x, (f s x).hub = s.hub) (l : List α) : (l.foldl f s).hub = s.hub :=
  State.foldl_keep State.hub h l s
@[simp] theorem State.foldl_host {f : State → α → State} (h : ∀ s x, (f s x).host = s.host) (l : List α) : (l.foldl f s).host = s.host :=
  State.foldl_keep State.host h l s
@[simp] theorem State.foldl_links {f : State → α → State} (h : ∀ s x, (f s x).links = s.links) (l : List α) : (l.foldl f s).links = s.links :=
  State.foldl_keep State.links h l s
@[simp] theorem State.foldl_dies {f : State → α → State} (h : ∀ s x, (f s x).dies = s.dies) (l : List α) : (l.foldl f s).dies = s.dies :=
  State.foldl_keep State.dies h l s
@[simp] theorem State.foldl_chans {f : State → α → State} (h : ∀ s x, (f s x).chans = s.chans) (l : List α) : (l.foldl f s).chans = s.chans :=
  State.foldl_keep State.chans h l s
@[simp] theorem State.foldl_chains {f : State → α → State} (h : ∀ s x, (f s x).chains = s.chains) (l : List α) : (l.foldl f s).chains = s.chains :=
  State.foldl_keep State.chains h l s
@[simp] theorem State.foldl_coef {f : State → α → State} (h : ∀ s x, (f s x).coef = s.coef) (l : List α) : (l.foldl f s).coef = s.coef :=
  State.foldl_keep State.coef h l s
@[simp] theorem State.foldl_fold {f : State → α → State} (h : ∀ s x, (f s x).fold = s.fold) (l : List α) : (l.foldl f s).fold = s.fold :=
  State.foldl_keep State.fold h l s
@[simp] theorem State.foldl_rfx {f : State → α → State} (h : ∀ s x, (f s x).rfx = s.rfx) (l : List α) : (l.foldl f s).rfx = s.rfx :=
  State.foldl_keep State.rfx h l s
@[simp] theorem State.foldl_drv {f : State → α → State} (h : ∀ s x, (f s x).drv = s.drv) (l : List α) : (l.foldl f s).drv = s.drv :=
  State.foldl_keep State.drv h l s
@[simp] theorem State.foldl_ck {f : State → α → State} (h : ∀ s x, (f s x).ck = s.ck) (l : List α) : (l.foldl f s).ck = s.ck :=
  State.foldl_keep State.ck h l s
@[simp] theorem State.foldl_sv {f : State → α → State} (h : ∀ s x, (f s x).sv = s.sv) (l : List α) : (l.foldl f s).sv = s.sv :=
  State.foldl_keep State.sv h l s
@[simp] theorem State.foldl_fw {f : State → α → State} (h : ∀ s x, (f s x).fw = s.fw) (l : List α) : (l.foldl f s).fw = s.fw :=
  State.foldl_keep State.fw h l s
@[simp] theorem State.foldl_hk {f : State → α → State} (h : ∀ s x, (f s x).hk = s.hk) (l : List α) : (l.foldl f s).hk = s.hk :=
  State.foldl_keep State.hk h l s
@[simp] theorem State.foldl_ldg {f : State → α → State} (h : ∀ s x, (f s x).ldg = s.ldg) (l : List α) : (l.foldl f s).ldg = s.ldg :=
  State.foldl_keep State.ldg h l s
@[simp] theorem State.foldl_tk {f : State → α → State} (h : ∀ s x, (f s x).tk = s.tk) (l : List α) : (l.foldl f s).tk = s.tk :=
  State.foldl_keep State.tk h l s
@[simp] theorem State.foldl_free {f : State → α → State} (h : ∀ s x, (f s x).free = s.free) (l : List α) : (l.foldl f s).free = s.free :=
  State.foldl_keep State.free h l s

end Sys2Proof.Machine
end

