-- ==== Sys2Proof/Laws/Frame1.lean ====
section
/-! SUPPORT. What the shared operations, the Fold, machine time, windows and reflexes leave unchanged: one lemma for each operation. -/

set_option Elab.async false

namespace Sys2Proof.Machine

@[simp] theorem State.tally_frame {s : State} {f : Fld} {k : Nat} :
    (State.tally s f k).pending = s.pending ∧ (State.tally s f k).die = s.die ∧ (State.tally s f k).hid = s.hid ∧
    (State.tally s f k).hub = s.hub ∧ (State.tally s f k).host = s.host ∧ (State.tally s f k).links = s.links ∧
    (State.tally s f k).dies = s.dies ∧ (State.tally s f k).chans = s.chans ∧ (State.tally s f k).chains = s.chains ∧
    (State.tally s f k).coef = s.coef ∧ (State.tally s f k).fold = s.fold ∧ (State.tally s f k).rfx = s.rfx ∧
    (State.tally s f k).drv = s.drv ∧ (State.tally s f k).ck = s.ck ∧ (State.tally s f k).sv = s.sv ∧
    (State.tally s f k).fw = s.fw ∧ (State.tally s f k).hk = s.hk ∧ (State.tally s f k).ldg = s.ldg ∧
    (State.tally s f k).tk = s.tk ∧ (State.tally s f k).free = s.free := by
  unfold State.tally
  simp -implicitDefEqProofs
@[simp] theorem State.wrapTally_frame {s : State} {f : Fld} {k : Nat} :
    (State.wrapTally s f k).pending = s.pending ∧ (State.wrapTally s f k).die = s.die ∧
    (State.wrapTally s f k).hid = s.hid ∧ (State.wrapTally s f k).hub = s.hub ∧ (State.wrapTally s f k).host = s.host ∧
    (State.wrapTally s f k).links = s.links ∧ (State.wrapTally s f k).dies = s.dies ∧
    (State.wrapTally s f k).chans = s.chans ∧ (State.wrapTally s f k).chains = s.chains ∧
    (State.wrapTally s f k).coef = s.coef ∧ (State.wrapTally s f k).fold = s.fold ∧ (State.wrapTally s f k).rfx = s.rfx ∧
    (State.wrapTally s f k).drv = s.drv ∧ (State.wrapTally s f k).ck = s.ck ∧ (State.wrapTally s f k).sv = s.sv ∧
    (State.wrapTally s f k).fw = s.fw ∧ (State.wrapTally s f k).hk = s.hk ∧ (State.wrapTally s f k).ldg = s.ldg ∧
    (State.wrapTally s f k).tk = s.tk ∧ (State.wrapTally s f k).free = s.free := by
  unfold State.wrapTally
  simp -implicitDefEqProofs
@[simp] theorem State.dieTally_frame {s : State} {f : Fld} :
    (State.dieTally s f).pending = s.pending ∧ (State.dieTally s f).regs = s.regs ∧ (State.dieTally s f).hid = s.hid ∧
    (State.dieTally s f).hub = s.hub ∧ (State.dieTally s f).host = s.host ∧ (State.dieTally s f).links = s.links ∧
    (State.dieTally s f).dies = s.dies ∧ (State.dieTally s f).chans = s.chans ∧ (State.dieTally s f).chains = s.chains ∧
    (State.dieTally s f).coef = s.coef ∧ (State.dieTally s f).fold = s.fold ∧ (State.dieTally s f).rfx = s.rfx ∧
    (State.dieTally s f).drv = s.drv ∧ (State.dieTally s f).ck = s.ck ∧ (State.dieTally s f).sv = s.sv ∧
    (State.dieTally s f).fw = s.fw ∧ (State.dieTally s f).hk = s.hk ∧ (State.dieTally s f).ldg = s.ldg ∧
    (State.dieTally s f).tk = s.tk ∧ (State.dieTally s f).free = s.free := by
  unfold State.dieTally
  simp -implicitDefEqProofs
@[simp] theorem State.openValue_frame {s : State} :
    (State.openValue s).2.pending = s.pending ∧ (State.openValue s).2.regs = s.regs ∧ (State.openValue s).2.die = s.die ∧
    (State.openValue s).2.hid = s.hid ∧ (State.openValue s).2.hub = s.hub ∧ (State.openValue s).2.host = s.host ∧
    (State.openValue s).2.links = s.links ∧ (State.openValue s).2.dies = s.dies ∧ (State.openValue s).2.chans = s.chans ∧
    (State.openValue s).2.chains = s.chains ∧ (State.openValue s).2.coef = s.coef ∧ (State.openValue s).2.fold = s.fold ∧
    (State.openValue s).2.rfx = s.rfx ∧ (State.openValue s).2.drv = s.drv ∧ (State.openValue s).2.ck = s.ck ∧
    (State.openValue s).2.sv = s.sv ∧ (State.openValue s).2.fw = s.fw ∧ (State.openValue s).2.hk = s.hk ∧
    (State.openValue s).2.ldg = s.ldg ∧ (State.openValue s).2.tk = s.tk := by
  unfold State.openValue
  simp -implicitDefEqProofs
@[simp] theorem State.stick_frame {s : State} {f : Fld} {v : Nat} :
    (State.stick s f v).pending = s.pending ∧ (State.stick s f v).die = s.die ∧ (State.stick s f v).hid = s.hid ∧
    (State.stick s f v).hub = s.hub ∧ (State.stick s f v).host = s.host ∧ (State.stick s f v).links = s.links ∧
    (State.stick s f v).dies = s.dies ∧ (State.stick s f v).chans = s.chans ∧ (State.stick s f v).chains = s.chains ∧
    (State.stick s f v).coef = s.coef ∧ (State.stick s f v).fold = s.fold ∧ (State.stick s f v).rfx = s.rfx ∧
    (State.stick s f v).drv = s.drv ∧ (State.stick s f v).ck = s.ck ∧ (State.stick s f v).sv = s.sv ∧
    (State.stick s f v).fw = s.fw ∧ (State.stick s f v).hk = s.hk ∧ (State.stick s f v).ldg = s.ldg ∧
    (State.stick s f v).free = s.free := by
  unfold State.stick
  simp -implicitDefEqProofs
@[simp] theorem State.orCause_frame {s : State} {u : U} {k : Nat} :
    (State.orCause s u k).pending = s.pending ∧ (State.orCause s u k).die = s.die ∧ (State.orCause s u k).hid = s.hid ∧
    (State.orCause s u k).hub = s.hub ∧ (State.orCause s u k).host = s.host ∧ (State.orCause s u k).links = s.links ∧
    (State.orCause s u k).dies = s.dies ∧ (State.orCause s u k).chans = s.chans ∧ (State.orCause s u k).chains = s.chains ∧
    (State.orCause s u k).coef = s.coef ∧ (State.orCause s u k).fold = s.fold ∧ (State.orCause s u k).rfx = s.rfx ∧
    (State.orCause s u k).drv = s.drv ∧ (State.orCause s u k).ck = s.ck ∧ (State.orCause s u k).sv = s.sv ∧
    (State.orCause s u k).fw = s.fw ∧ (State.orCause s u k).hk = s.hk ∧ (State.orCause s u k).ldg = s.ldg ∧
    (State.orCause s u k).free = s.free := by
  unfold State.orCause
  simp -implicitDefEqProofs
@[simp] theorem State.hwSet_frame {s : State} {f : Fld} {v : Nat} :
    (State.hwSet s f v).pending = s.pending ∧ (State.hwSet s f v).die = s.die ∧ (State.hwSet s f v).hid = s.hid ∧
    (State.hwSet s f v).hub = s.hub ∧ (State.hwSet s f v).host = s.host ∧ (State.hwSet s f v).links = s.links ∧
    (State.hwSet s f v).dies = s.dies ∧ (State.hwSet s f v).chans = s.chans ∧ (State.hwSet s f v).chains = s.chains ∧
    (State.hwSet s f v).coef = s.coef ∧ (State.hwSet s f v).fold = s.fold ∧ (State.hwSet s f v).rfx = s.rfx ∧
    (State.hwSet s f v).drv = s.drv ∧ (State.hwSet s f v).ck = s.ck ∧ (State.hwSet s f v).sv = s.sv ∧
    (State.hwSet s f v).fw = s.fw ∧ (State.hwSet s f v).hk = s.hk ∧ (State.hwSet s f v).ldg = s.ldg ∧
    (State.hwSet s f v).tk = s.tk ∧ (State.hwSet s f v).free = s.free := by
  unfold State.hwSet
  simp -implicitDefEqProofs
@[simp] theorem State.hwTally_frame {s : State} {f : Fld} {k : Nat} :
    (State.hwTally s f k).pending = s.pending ∧ (State.hwTally s f k).die = s.die ∧ (State.hwTally s f k).hid = s.hid ∧
    (State.hwTally s f k).hub = s.hub ∧ (State.hwTally s f k).host = s.host ∧ (State.hwTally s f k).links = s.links ∧
    (State.hwTally s f k).dies = s.dies ∧ (State.hwTally s f k).chans = s.chans ∧ (State.hwTally s f k).chains = s.chains ∧
    (State.hwTally s f k).coef = s.coef ∧ (State.hwTally s f k).fold = s.fold ∧ (State.hwTally s f k).rfx = s.rfx ∧
    (State.hwTally s f k).drv = s.drv ∧ (State.hwTally s f k).ck = s.ck ∧ (State.hwTally s f k).sv = s.sv ∧
    (State.hwTally s f k).fw = s.fw ∧ (State.hwTally s f k).hk = s.hk ∧ (State.hwTally s f k).ldg = s.ldg ∧
    (State.hwTally s f k).tk = s.tk ∧ (State.hwTally s f k).free = s.free := by
  unfold State.hwTally
  simp -implicitDefEqProofs
@[simp] theorem State.noteWrite_frame {s : State} {f : Fld} {was : Nat} :
    (State.noteWrite s f was).pending = s.pending ∧ (State.noteWrite s f was).regs = s.regs ∧
    (State.noteWrite s f was).die = s.die ∧ (State.noteWrite s f was).hid = s.hid ∧ (State.noteWrite s f was).hub = s.hub ∧
    (State.noteWrite s f was).host = s.host ∧ (State.noteWrite s f was).links = s.links ∧
    (State.noteWrite s f was).dies = s.dies ∧ (State.noteWrite s f was).chans = s.chans ∧
    (State.noteWrite s f was).chains = s.chains ∧ (State.noteWrite s f was).coef = s.coef ∧
    (State.noteWrite s f was).fold = s.fold ∧ (State.noteWrite s f was).rfx = s.rfx ∧
    (State.noteWrite s f was).drv = s.drv ∧ (State.noteWrite s f was).ck = s.ck ∧ (State.noteWrite s f was).sv = s.sv ∧
    (State.noteWrite s f was).fw = s.fw ∧ (State.noteWrite s f was).hk = s.hk ∧ (State.noteWrite s f was).ldg = s.ldg ∧
    (State.noteWrite s f was).free = s.free := by
  unfold State.noteWrite
  simp -implicitDefEqProofs
@[simp] theorem State.deliverMsix_frame {s : State} {k : Nat} {u : Option U} :
    (State.deliverMsix s k u).pending = s.pending ∧ (State.deliverMsix s k u).regs = s.regs ∧
    (State.deliverMsix s k u).die = s.die ∧ (State.deliverMsix s k u).hid = s.hid ∧ (State.deliverMsix s k u).hub = s.hub ∧
    (State.deliverMsix s k u).links = s.links ∧ (State.deliverMsix s k u).dies = s.dies ∧
    (State.deliverMsix s k u).chans = s.chans ∧ (State.deliverMsix s k u).chains = s.chains ∧
    (State.deliverMsix s k u).coef = s.coef ∧ (State.deliverMsix s k u).fold = s.fold ∧
    (State.deliverMsix s k u).rfx = s.rfx ∧ (State.deliverMsix s k u).drv = s.drv ∧ (State.deliverMsix s k u).ck = s.ck ∧
    (State.deliverMsix s k u).sv = s.sv ∧ (State.deliverMsix s k u).fw = s.fw ∧ (State.deliverMsix s k u).hk = s.hk ∧
    (State.deliverMsix s k u).ldg = s.ldg ∧ (State.deliverMsix s k u).tk = s.tk ∧ (State.deliverMsix s k u).free = s.free := by
  unfold State.deliverMsix
  simp -implicitDefEqProofs
@[simp] theorem State.crossBlocked_frame {s : State} :
    (State.crossBlocked s).pending = s.pending ∧ (State.crossBlocked s).die = s.die ∧ (State.crossBlocked s).hid = s.hid ∧
    (State.crossBlocked s).hub = s.hub ∧ (State.crossBlocked s).host = s.host ∧ (State.crossBlocked s).links = s.links ∧
    (State.crossBlocked s).dies = s.dies ∧ (State.crossBlocked s).chans = s.chans ∧
    (State.crossBlocked s).chains = s.chains ∧ (State.crossBlocked s).coef = s.coef ∧ (State.crossBlocked s).fold = s.fold ∧
    (State.crossBlocked s).rfx = s.rfx ∧ (State.crossBlocked s).drv = s.drv ∧ (State.crossBlocked s).ck = s.ck ∧
    (State.crossBlocked s).sv = s.sv ∧ (State.crossBlocked s).fw = s.fw ∧ (State.crossBlocked s).hk = s.hk ∧
    (State.crossBlocked s).ldg = s.ldg ∧ (State.crossBlocked s).free = s.free := by
  unfold State.crossBlocked
  simp -implicitDefEqProofs
@[simp] theorem State.requestMsix_frame {s : State} {k : Nat} {u : Option U} :
    (State.requestMsix s k u).pending = s.pending ∧ (State.requestMsix s k u).die = s.die ∧
    (State.requestMsix s k u).hid = s.hid ∧ (State.requestMsix s k u).hub = s.hub ∧
    (State.requestMsix s k u).links = s.links ∧ (State.requestMsix s k u).dies = s.dies ∧
    (State.requestMsix s k u).chans = s.chans ∧ (State.requestMsix s k u).chains = s.chains ∧
    (State.requestMsix s k u).coef = s.coef ∧ (State.requestMsix s k u).fold = s.fold ∧
    (State.requestMsix s k u).rfx = s.rfx ∧ (State.requestMsix s k u).drv = s.drv ∧ (State.requestMsix s k u).ck = s.ck ∧
    (State.requestMsix s k u).sv = s.sv ∧ (State.requestMsix s k u).fw = s.fw ∧ (State.requestMsix s k u).hk = s.hk ∧
    (State.requestMsix s k u).ldg = s.ldg ∧ (State.requestMsix s k u).free = s.free := by
  unfold State.requestMsix
  simp -implicitDefEqProofs
@[simp] theorem State.unitMessage_frame {s : State} {u : U} :
    (State.unitMessage s u).pending = s.pending ∧ (State.unitMessage s u).die = s.die ∧
    (State.unitMessage s u).hid = s.hid ∧ (State.unitMessage s u).hub = s.hub ∧ (State.unitMessage s u).links = s.links ∧
    (State.unitMessage s u).dies = s.dies ∧ (State.unitMessage s u).chans = s.chans ∧
    (State.unitMessage s u).chains = s.chains ∧ (State.unitMessage s u).coef = s.coef ∧
    (State.unitMessage s u).fold = s.fold ∧ (State.unitMessage s u).rfx = s.rfx ∧ (State.unitMessage s u).drv = s.drv ∧
    (State.unitMessage s u).ck = s.ck ∧ (State.unitMessage s u).sv = s.sv ∧ (State.unitMessage s u).fw = s.fw ∧
    (State.unitMessage s u).hk = s.hk ∧ (State.unitMessage s u).ldg = s.ldg ∧ (State.unitMessage s u).free = s.free := by
  unfold State.unitMessage
  simp -implicitDefEqProofs
@[simp] theorem State.unitAsked_frame {s : State} {u : U} :
    (State.unitAsked s u).pending = s.pending ∧ (State.unitAsked s u).die = s.die ∧ (State.unitAsked s u).hid = s.hid ∧
    (State.unitAsked s u).hub = s.hub ∧ (State.unitAsked s u).links = s.links ∧ (State.unitAsked s u).dies = s.dies ∧
    (State.unitAsked s u).chans = s.chans ∧ (State.unitAsked s u).chains = s.chains ∧ (State.unitAsked s u).coef = s.coef ∧
    (State.unitAsked s u).fold = s.fold ∧ (State.unitAsked s u).rfx = s.rfx ∧ (State.unitAsked s u).drv = s.drv ∧
    (State.unitAsked s u).ck = s.ck ∧ (State.unitAsked s u).sv = s.sv ∧ (State.unitAsked s u).fw = s.fw ∧
    (State.unitAsked s u).hk = s.hk ∧ (State.unitAsked s u).ldg = s.ldg ∧ (State.unitAsked s u).free = s.free := by
  unfold State.unitAsked
  simp -implicitDefEqProofs
@[simp] theorem State.cause_frame {s : State} {u : U} {k : Nat} :
    (State.cause s u k).pending = s.pending ∧ (State.cause s u k).die = s.die ∧ (State.cause s u k).hid = s.hid ∧
    (State.cause s u k).hub = s.hub ∧ (State.cause s u k).links = s.links ∧ (State.cause s u k).dies = s.dies ∧
    (State.cause s u k).chans = s.chans ∧ (State.cause s u k).chains = s.chains ∧ (State.cause s u k).coef = s.coef ∧
    (State.cause s u k).fold = s.fold ∧ (State.cause s u k).rfx = s.rfx ∧ (State.cause s u k).drv = s.drv ∧
    (State.cause s u k).ck = s.ck ∧ (State.cause s u k).sv = s.sv ∧ (State.cause s u k).fw = s.fw ∧
    (State.cause s u k).hk = s.hk ∧ (State.cause s u k).ldg = s.ldg ∧ (State.cause s u k).free = s.free := by
  unfold State.cause
  simp -implicitDefEqProofs
@[simp] theorem State.loseNote_frame {s : State} {kind : Nat} :
    (State.loseNote s kind).pending = s.pending ∧ (State.loseNote s kind).die = s.die ∧
    (State.loseNote s kind).hid = s.hid ∧ (State.loseNote s kind).hub = s.hub ∧ (State.loseNote s kind).links = s.links ∧
    (State.loseNote s kind).dies = s.dies ∧ (State.loseNote s kind).chans = s.chans ∧
    (State.loseNote s kind).chains = s.chains ∧ (State.loseNote s kind).coef = s.coef ∧
    (State.loseNote s kind).fold = s.fold ∧ (State.loseNote s kind).rfx = s.rfx ∧ (State.loseNote s kind).drv = s.drv ∧
    (State.loseNote s kind).ck = s.ck ∧ (State.loseNote s kind).sv = s.sv ∧ (State.loseNote s kind).fw = s.fw ∧
    (State.loseNote s kind).hk = s.hk ∧ (State.loseNote s kind).ldg = s.ldg ∧ (State.loseNote s kind).free = s.free := by
  unfold State.loseNote
  simp -implicitDefEqProofs
@[simp] theorem State.raise_frame {s : State} {kind : Nat} {time : Nat} {body : List Place} :
    (State.raise s kind time body).pending = s.pending ∧ (State.raise s kind time body).die = s.die ∧
    (State.raise s kind time body).hid = s.hid ∧ (State.raise s kind time body).hub = s.hub ∧
    (State.raise s kind time body).links = s.links ∧ (State.raise s kind time body).dies = s.dies ∧
    (State.raise s kind time body).chans = s.chans ∧ (State.raise s kind time body).chains = s.chains ∧
    (State.raise s kind time body).coef = s.coef ∧ (State.raise s kind time body).fold = s.fold ∧
    (State.raise s kind time body).rfx = s.rfx ∧ (State.raise s kind time body).drv = s.drv ∧
    (State.raise s kind time body).ck = s.ck ∧ (State.raise s kind time body).sv = s.sv ∧
    (State.raise s kind time body).fw = s.fw ∧ (State.raise s kind time body).hk = s.hk ∧
    (State.raise s kind time body).ldg = s.ldg ∧ (State.raise s kind time body).free = s.free := by
  unfold State.raise
  simp -implicitDefEqProofs
@[simp] theorem State.notify_frame {s : State} {kind : Nat} {body : List Place} :
    (State.notify s kind body).pending = s.pending ∧ (State.notify s kind body).die = s.die ∧
    (State.notify s kind body).hid = s.hid ∧ (State.notify s kind body).hub = s.hub ∧
    (State.notify s kind body).links = s.links ∧ (State.notify s kind body).dies = s.dies ∧
    (State.notify s kind body).chans = s.chans ∧ (State.notify s kind body).chains = s.chains ∧
    (State.notify s kind body).coef = s.coef ∧ (State.notify s kind body).fold = s.fold ∧
    (State.notify s kind body).rfx = s.rfx ∧ (State.notify s kind body).drv = s.drv ∧ (State.notify s kind body).ck = s.ck ∧
    (State.notify s kind body).sv = s.sv ∧ (State.notify s kind body).fw = s.fw ∧ (State.notify s kind body).hk = s.hk ∧
    (State.notify s kind body).ldg = s.ldg ∧ (State.notify s kind body).free = s.free := by
  unfold State.notify
  simp -implicitDefEqProofs
@[simp] theorem State.post_frame {s : State} {r : LRec} :
    (State.post s r).pending = s.pending ∧ (State.post s r).die = s.die ∧ (State.post s r).hid = s.hid ∧
    (State.post s r).hub = s.hub ∧ (State.post s r).links = s.links ∧ (State.post s r).dies = s.dies ∧
    (State.post s r).chans = s.chans ∧ (State.post s r).chains = s.chains ∧ (State.post s r).coef = s.coef ∧
    (State.post s r).fold = s.fold ∧ (State.post s r).rfx = s.rfx ∧ (State.post s r).drv = s.drv ∧
    (State.post s r).ck = s.ck ∧ (State.post s r).sv = s.sv ∧ (State.post s r).fw = s.fw ∧ (State.post s r).hk = s.hk ∧
    (State.post s r).free = s.free := by
  unfold State.post
  simp -implicitDefEqProofs
@[simp] theorem State.evt_frame {s : State} {g : Grp} {e : EvData} :
    (State.evt s g e).pending = s.pending ∧ (State.evt s g e).regs = s.regs ∧ (State.evt s g e).die = s.die ∧
    (State.evt s g e).hid = s.hid ∧ (State.evt s g e).hub = s.hub ∧ (State.evt s g e).host = s.host ∧
    (State.evt s g e).links = s.links ∧ (State.evt s g e).chans = s.chans ∧ (State.evt s g e).chains = s.chains ∧
    (State.evt s g e).coef = s.coef ∧ (State.evt s g e).fold = s.fold ∧ (State.evt s g e).rfx = s.rfx ∧
    (State.evt s g e).drv = s.drv ∧ (State.evt s g e).ck = s.ck ∧ (State.evt s g e).sv = s.sv ∧
    (State.evt s g e).fw = s.fw ∧ (State.evt s g e).hk = s.hk ∧ (State.evt s g e).ldg = s.ldg ∧
    (State.evt s g e).tk = s.tk ∧ (State.evt s g e).free = s.free := by
  unfold State.evt
  simp -implicitDefEqProofs
@[simp] theorem State.laneTake_frame {s : State} {g : Grp} {n : Nat} :
    (State.laneTake s g n).pending = s.pending ∧ (State.laneTake s g n).regs = s.regs ∧ (State.laneTake s g n).die = s.die ∧
    (State.laneTake s g n).hid = s.hid ∧ (State.laneTake s g n).hub = s.hub ∧ (State.laneTake s g n).host = s.host ∧
    (State.laneTake s g n).links = s.links ∧ (State.laneTake s g n).chans = s.chans ∧
    (State.laneTake s g n).chains = s.chains ∧ (State.laneTake s g n).coef = s.coef ∧ (State.laneTake s g n).fold = s.fold ∧
    (State.laneTake s g n).rfx = s.rfx ∧ (State.laneTake s g n).drv = s.drv ∧ (State.laneTake s g n).ck = s.ck ∧
    (State.laneTake s g n).sv = s.sv ∧ (State.laneTake s g n).fw = s.fw ∧ (State.laneTake s g n).hk = s.hk ∧
    (State.laneTake s g n).ldg = s.ldg ∧ (State.laneTake s g n).tk = s.tk ∧ (State.laneTake s g n).free = s.free := by
  unfold State.laneTake
  simp -implicitDefEqProofs
@[simp] theorem State.chEvt_frame {s : State} {c : Ch} {k : Nat} :
    (State.chEvt s c k).pending = s.pending ∧ (State.chEvt s c k).regs = s.regs ∧ (State.chEvt s c k).die = s.die ∧
    (State.chEvt s c k).hid = s.hid ∧ (State.chEvt s c k).hub = s.hub ∧ (State.chEvt s c k).host = s.host ∧
    (State.chEvt s c k).links = s.links ∧ (State.chEvt s c k).chans = s.chans ∧ (State.chEvt s c k).chains = s.chains ∧
    (State.chEvt s c k).coef = s.coef ∧ (State.chEvt s c k).fold = s.fold ∧ (State.chEvt s c k).rfx = s.rfx ∧
    (State.chEvt s c k).drv = s.drv ∧ (State.chEvt s c k).ck = s.ck ∧ (State.chEvt s c k).sv = s.sv ∧
    (State.chEvt s c k).fw = s.fw ∧ (State.chEvt s c k).hk = s.hk ∧ (State.chEvt s c k).ldg = s.ldg ∧
    (State.chEvt s c k).tk = s.tk ∧ (State.chEvt s c k).free = s.free := by
  unfold State.chEvt
  simp -implicitDefEqProofs
@[simp] theorem State.urgent_frame {s : State} {c : Ch} {code : Nat} {k : Nat} :
    (State.urgent s c code k).pending = s.pending ∧ (State.urgent s c code k).regs = s.regs ∧
    (State.urgent s c code k).die = s.die ∧ (State.urgent s c code k).hid = s.hid ∧ (State.urgent s c code k).hub = s.hub ∧
    (State.urgent s c code k).host = s.host ∧ (State.urgent s c code k).links = s.links ∧
    (State.urgent s c code k).chans = s.chans ∧ (State.urgent s c code k).chains = s.chains ∧
    (State.urgent s c code k).coef = s.coef ∧ (State.urgent s c code k).fold = s.fold ∧
    (State.urgent s c code k).rfx = s.rfx ∧ (State.urgent s c code k).drv = s.drv ∧ (State.urgent s c code k).ck = s.ck ∧
    (State.urgent s c code k).sv = s.sv ∧ (State.urgent s c code k).fw = s.fw ∧ (State.urgent s c code k).hk = s.hk ∧
    (State.urgent s c code k).ldg = s.ldg ∧ (State.urgent s c code k).tk = s.tk ∧ (State.urgent s c code k).free = s.free := by
  unfold State.urgent
  simp -implicitDefEqProofs
@[simp] theorem State.beginCommit_frame {s : State} {g : Grp} :
    (State.beginCommit s g).pending = s.pending ∧ (State.beginCommit s g).regs = s.regs ∧
    (State.beginCommit s g).die = s.die ∧ (State.beginCommit s g).hid = s.hid ∧ (State.beginCommit s g).hub = s.hub ∧
    (State.beginCommit s g).host = s.host ∧ (State.beginCommit s g).links = s.links ∧
    (State.beginCommit s g).chans = s.chans ∧ (State.beginCommit s g).chains = s.chains ∧
    (State.beginCommit s g).coef = s.coef ∧ (State.beginCommit s g).fold = s.fold ∧ (State.beginCommit s g).rfx = s.rfx ∧
    (State.beginCommit s g).drv = s.drv ∧ (State.beginCommit s g).ck = s.ck ∧ (State.beginCommit s g).sv = s.sv ∧
    (State.beginCommit s g).fw = s.fw ∧ (State.beginCommit s g).hk = s.hk ∧ (State.beginCommit s g).ldg = s.ldg ∧
    (State.beginCommit s g).tk = s.tk ∧ (State.beginCommit s g).free = s.free := by
  unfold State.beginCommit
  simp -implicitDefEqProofs
@[simp] theorem State.localTime_frame {s : State} {g : Grp} :
    (State.localTime s g).2.2.pending = s.pending ∧ (State.localTime s g).2.2.regs = s.regs ∧
    (State.localTime s g).2.2.die = s.die ∧ (State.localTime s g).2.2.hid = s.hid ∧ (State.localTime s g).2.2.hub = s.hub ∧
    (State.localTime s g).2.2.host = s.host ∧ (State.localTime s g).2.2.links = s.links ∧
    (State.localTime s g).2.2.dies = s.dies ∧ (State.localTime s g).2.2.chans = s.chans ∧
    (State.localTime s g).2.2.chains = s.chains ∧ (State.localTime s g).2.2.coef = s.coef ∧
    (State.localTime s g).2.2.fold = s.fold ∧ (State.localTime s g).2.2.rfx = s.rfx ∧
    (State.localTime s g).2.2.drv = s.drv ∧ (State.localTime s g).2.2.ck = s.ck ∧ (State.localTime s g).2.2.sv = s.sv ∧
    (State.localTime s g).2.2.fw = s.fw ∧ (State.localTime s g).2.2.hk = s.hk ∧ (State.localTime s g).2.2.ldg = s.ldg ∧
    (State.localTime s g).2.2.tk = s.tk := by
  unfold State.localTime
  (repeat' split) <;> simp -implicitDefEqProofs
@[simp] theorem State.local_frame {s : State} {g : Grp} {code : Nat} {chan : Nat} {cls : Nat} {data : Nat} :
    (State.local s g code chan cls data).pending = s.pending ∧ (State.local s g code chan cls data).regs = s.regs ∧
    (State.local s g code chan cls data).die = s.die ∧ (State.local s g code chan cls data).hid = s.hid ∧
    (State.local s g code chan cls data).hub = s.hub ∧ (State.local s g code chan cls data).host = s.host ∧
    (State.local s g code chan cls data).links = s.links ∧ (State.local s g code chan cls data).chans = s.chans ∧
    (State.local s g code chan cls data).chains = s.chains ∧ (State.local s g code chan cls data).coef = s.coef ∧
    (State.local s g code chan cls data).fold = s.fold ∧ (State.local s g code chan cls data).rfx = s.rfx ∧
    (State.local s g code chan cls data).drv = s.drv ∧ (State.local s g code chan cls data).ck = s.ck ∧
    (State.local s g code chan cls data).sv = s.sv ∧ (State.local s g code chan cls data).fw = s.fw ∧
    (State.local s g code chan cls data).hk = s.hk ∧ (State.local s g code chan cls data).ldg = s.ldg ∧
    (State.local s g code chan cls data).tk = s.tk := by
  unfold State.local
  simp -implicitDefEqProofs
@[simp] theorem State.imageWrite_frame {s : State} {g : Grp} {off : Nat} {data : Nat} :
    (State.imageWrite s g off data).2.pending = s.pending ∧ (State.imageWrite s g off data).2.die = s.die ∧
    (State.imageWrite s g off data).2.hid = s.hid ∧ (State.imageWrite s g off data).2.hub = s.hub ∧
    (State.imageWrite s g off data).2.host = s.host ∧ (State.imageWrite s g off data).2.dies = s.dies ∧
    (State.imageWrite s g off data).2.chains = s.chains ∧ (State.imageWrite s g off data).2.coef = s.coef ∧
    (State.imageWrite s g off data).2.fold = s.fold ∧ (State.imageWrite s g off data).2.rfx = s.rfx ∧
    (State.imageWrite s g off data).2.drv = s.drv ∧ (State.imageWrite s g off data).2.ck = s.ck ∧
    (State.imageWrite s g off data).2.sv = s.sv ∧ (State.imageWrite s g off data).2.fw = s.fw ∧
    (State.imageWrite s g off data).2.hk = s.hk ∧ (State.imageWrite s g off data).2.ldg = s.ldg ∧
    (State.imageWrite s g off data).2.tk = s.tk ∧ (State.imageWrite s g off data).2.free = s.free := by
  unfold State.imageWrite
  (repeat' split) <;> simp -implicitDefEqProofs
@[simp] theorem State.sendWord_frame {s : State} {u : U} {off : Nat} :
    (State.sendWord s u off).2.pending = s.pending ∧ (State.sendWord s u off).2.die = s.die ∧
    (State.sendWord s u off).2.hid = s.hid ∧ (State.sendWord s u off).2.hub = s.hub ∧
    (State.sendWord s u off).2.host = s.host ∧ (State.sendWord s u off).2.dies = s.dies ∧
    (State.sendWord s u off).2.chains = s.chains ∧ (State.sendWord s u off).2.coef = s.coef ∧
    (State.sendWord s u off).2.fold = s.fold ∧ (State.sendWord s u off).2.rfx = s.rfx ∧
    (State.sendWord s u off).2.drv = s.drv ∧ (State.sendWord s u off).2.ck = s.ck ∧ (State.sendWord s u off).2.sv = s.sv ∧
    (State.sendWord s u off).2.fw = s.fw ∧ (State.sendWord s u off).2.hk = s.hk ∧ (State.sendWord s u off).2.ldg = s.ldg ∧
    (State.sendWord s u off).2.tk = s.tk ∧ (State.sendWord s u off).2.free = s.free := by
  unfold State.sendWord
  (repeat' split) <;> simp -implicitDefEqProofs
@[simp] theorem State.sendRule_frame {s : State} {r : RuleNo} :
    (State.sendRule s r).pending = s.pending ∧ (State.sendRule s r).regs = s.regs ∧ (State.sendRule s r).die = s.die ∧
    (State.sendRule s r).hid = s.hid ∧ (State.sendRule s r).hub = s.hub ∧ (State.sendRule s r).host = s.host ∧
    (State.sendRule s r).dies = s.dies ∧ (State.sendRule s r).chans = s.chans ∧ (State.sendRule s r).chains = s.chains ∧
    (State.sendRule s r).coef = s.coef ∧ (State.sendRule s r).fold = s.fold ∧ (State.sendRule s r).rfx = s.rfx ∧
    (State.sendRule s r).drv = s.drv ∧ (State.sendRule s r).ck = s.ck ∧ (State.sendRule s r).sv = s.sv ∧
    (State.sendRule s r).fw = s.fw ∧ (State.sendRule s r).hk = s.hk ∧ (State.sendRule s r).ldg = s.ldg ∧
    (State.sendRule s r).tk = s.tk ∧ (State.sendRule s r).free = s.free := by
  unfold State.sendRule
  simp -implicitDefEqProofs
@[simp] theorem State.edgeMasks_frame {s : State} :
    (State.edgeMasks s).pending = s.pending ∧ (State.edgeMasks s).die = s.die ∧ (State.edgeMasks s).hid = s.hid ∧
    (State.edgeMasks s).hub = s.hub ∧ (State.edgeMasks s).host = s.host ∧ (State.edgeMasks s).dies = s.dies ∧
    (State.edgeMasks s).chains = s.chains ∧ (State.edgeMasks s).coef = s.coef ∧ (State.edgeMasks s).fold = s.fold ∧
    (State.edgeMasks s).rfx = s.rfx ∧ (State.edgeMasks s).drv = s.drv ∧ (State.edgeMasks s).ck = s.ck ∧
    (State.edgeMasks s).sv = s.sv ∧ (State.edgeMasks s).fw = s.fw ∧ (State.edgeMasks s).hk = s.hk ∧
    (State.edgeMasks s).ldg = s.ldg ∧ (State.edgeMasks s).tk = s.tk ∧ (State.edgeMasks s).free = s.free := by
  unfold State.edgeMasks
  simp -implicitDefEqProofs
@[simp] theorem State.consume_frame {s : State} {r : RingNo} :
    (State.consume s r).pending = s.pending ∧ (State.consume s r).die = s.die ∧ (State.consume s r).hid = s.hid ∧
    (State.consume s r).hub = s.hub ∧ (State.consume s r).links = s.links ∧ (State.consume s r).dies = s.dies ∧
    (State.consume s r).chans = s.chans ∧ (State.consume s r).chains = s.chains ∧ (State.consume s r).coef = s.coef ∧
    (State.consume s r).fold = s.fold ∧ (State.consume s r).rfx = s.rfx ∧ (State.consume s r).drv = s.drv ∧
    (State.consume s r).ck = s.ck ∧ (State.consume s r).sv = s.sv ∧ (State.consume s r).fw = s.fw ∧
    (State.consume s r).hk = s.hk ∧ (State.consume s r).ldg = s.ldg ∧ (State.consume s r).tk = s.tk ∧
    (State.consume s r).free = s.free := by
  unfold State.consume
  simp -implicitDefEqProofs
@[simp] theorem State.ringOut_frame {s : State} {r : RingNo} {e : OutEntry} :
    (State.ringOut s r e).pending = s.pending ∧ (State.ringOut s r e).regs = s.regs ∧ (State.ringOut s r e).die = s.die ∧
    (State.ringOut s r e).hid = s.hid ∧ (State.ringOut s r e).hub = s.hub ∧ (State.ringOut s r e).links = s.links ∧
    (State.ringOut s r e).dies = s.dies ∧ (State.ringOut s r e).chans = s.chans ∧ (State.ringOut s r e).chains = s.chains ∧
    (State.ringOut s r e).coef = s.coef ∧ (State.ringOut s r e).fold = s.fold ∧ (State.ringOut s r e).rfx = s.rfx ∧
    (State.ringOut s r e).drv = s.drv ∧ (State.ringOut s r e).ck = s.ck ∧ (State.ringOut s r e).sv = s.sv ∧
    (State.ringOut s r e).fw = s.fw ∧ (State.ringOut s r e).hk = s.hk ∧ (State.ringOut s r e).ldg = s.ldg ∧
    (State.ringOut s r e).tk = s.tk ∧ (State.ringOut s r e).free = s.free := by
  unfold State.ringOut
  simp -implicitDefEqProofs
@[simp] theorem State.complete_frame {s : State} {seq : Nat} {status : Nat} {op : Nat} {ring : Nat} {item : Nat} {extra : List Place} :
    (State.complete s seq status op ring item extra).pending = s.pending ∧
    (State.complete s seq status op ring item extra).regs = s.regs ∧
    (State.complete s seq status op ring item extra).die = s.die ∧
    (State.complete s seq status op ring item extra).hid = s.hid ∧
    (State.complete s seq status op ring item extra).hub = s.hub ∧
    (State.complete s seq status op ring item extra).links = s.links ∧
    (State.complete s seq status op ring item extra).dies = s.dies ∧
    (State.complete s seq status op ring item extra).chans = s.chans ∧
    (State.complete s seq status op ring item extra).chains = s.chains ∧
    (State.complete s seq status op ring item extra).coef = s.coef ∧
    (State.complete s seq status op ring item extra).fold = s.fold ∧
    (State.complete s seq status op ring item extra).rfx = s.rfx ∧
    (State.complete s seq status op ring item extra).drv = s.drv ∧
    (State.complete s seq status op ring item extra).ck = s.ck ∧
    (State.complete s seq status op ring item extra).sv = s.sv ∧
    (State.complete s seq status op ring item extra).fw = s.fw ∧
    (State.complete s seq status op ring item extra).hk = s.hk ∧
    (State.complete s seq status op ring item extra).ldg = s.ldg ∧
    (State.complete s seq status op ring item extra).tk = s.tk ∧
    (State.complete s seq status op ring item extra).free = s.free := by
  unfold State.complete
  simp -implicitDefEqProofs
@[simp] theorem State.halt_frame {s : State} {r : RingNo} {cause : Nat} :
    (State.halt s r cause).pending = s.pending ∧ (State.halt s r cause).die = s.die ∧ (State.halt s r cause).hid = s.hid ∧
    (State.halt s r cause).hub = s.hub ∧ (State.halt s r cause).links = s.links ∧ (State.halt s r cause).dies = s.dies ∧
    (State.halt s r cause).chans = s.chans ∧ (State.halt s r cause).chains = s.chains ∧
    (State.halt s r cause).coef = s.coef ∧ (State.halt s r cause).fold = s.fold ∧ (State.halt s r cause).rfx = s.rfx ∧
    (State.halt s r cause).drv = s.drv ∧ (State.halt s r cause).ck = s.ck ∧ (State.halt s r cause).sv = s.sv ∧
    (State.halt s r cause).fw = s.fw ∧ (State.halt s r cause).hk = s.hk ∧ (State.halt s r cause).ldg = s.ldg ∧
    (State.halt s r cause).free = s.free := by
  unfold State.halt
  simp -implicitDefEqProofs
@[simp] theorem State.lowWater_frame {s : State} :
    (State.lowWater s).pending = s.pending ∧ (State.lowWater s).die = s.die ∧ (State.lowWater s).hid = s.hid ∧
    (State.lowWater s).hub = s.hub ∧ (State.lowWater s).links = s.links ∧ (State.lowWater s).dies = s.dies ∧
    (State.lowWater s).chans = s.chans ∧ (State.lowWater s).chains = s.chains ∧ (State.lowWater s).coef = s.coef ∧
    (State.lowWater s).rfx = s.rfx ∧ (State.lowWater s).drv = s.drv ∧ (State.lowWater s).ck = s.ck ∧
    (State.lowWater s).sv = s.sv ∧ (State.lowWater s).fw = s.fw ∧ (State.lowWater s).hk = s.hk ∧
    (State.lowWater s).ldg = s.ldg ∧ (State.lowWater s).free = s.free := by
  unfold State.lowWater
  simp -implicitDefEqProofs
@[simp] theorem State.peakOcc_frame {s : State} :
    (State.peakOcc s).pending = s.pending ∧ (State.peakOcc s).die = s.die ∧ (State.peakOcc s).hid = s.hid ∧
    (State.peakOcc s).hub = s.hub ∧ (State.peakOcc s).host = s.host ∧ (State.peakOcc s).links = s.links ∧
    (State.peakOcc s).dies = s.dies ∧ (State.peakOcc s).chans = s.chans ∧ (State.peakOcc s).chains = s.chains ∧
    (State.peakOcc s).coef = s.coef ∧ (State.peakOcc s).fold = s.fold ∧ (State.peakOcc s).rfx = s.rfx ∧
    (State.peakOcc s).drv = s.drv ∧ (State.peakOcc s).ck = s.ck ∧ (State.peakOcc s).sv = s.sv ∧
    (State.peakOcc s).fw = s.fw ∧ (State.peakOcc s).hk = s.hk ∧ (State.peakOcc s).ldg = s.ldg ∧
    (State.peakOcc s).tk = s.tk ∧ (State.peakOcc s).free = s.free := by
  unfold State.peakOcc
  simp -implicitDefEqProofs
@[simp] theorem State.setCmd_frame {s : State} {c : Ch} {on : Bool} {run : Bool} :
    (State.setCmd s c on run).pending = s.pending ∧ (State.setCmd s c on run).die = s.die ∧
    (State.setCmd s c on run).hid = s.hid ∧ (State.setCmd s c on run).hub = s.hub ∧
    (State.setCmd s c on run).host = s.host ∧ (State.setCmd s c on run).links = s.links ∧
    (State.setCmd s c on run).dies = s.dies ∧ (State.setCmd s c on run).chans = s.chans ∧
    (State.setCmd s c on run).chains = s.chains ∧ (State.setCmd s c on run).coef = s.coef ∧
    (State.setCmd s c on run).fold = s.fold ∧ (State.setCmd s c on run).rfx = s.rfx ∧
    (State.setCmd s c on run).drv = s.drv ∧ (State.setCmd s c on run).ck = s.ck ∧ (State.setCmd s c on run).sv = s.sv ∧
    (State.setCmd s c on run).fw = s.fw ∧ (State.setCmd s c on run).hk = s.hk ∧ (State.setCmd s c on run).ldg = s.ldg ∧
    (State.setCmd s c on run).tk = s.tk ∧ (State.setCmd s c on run).free = s.free := by
  unfold State.setCmd
  simp -implicitDefEqProofs
@[simp] theorem State.cmdAt_frame {s : State} {t : Nat} {c : Ch} {on : Bool} {run : Bool} :
    (State.cmdAt s t c on run).pending = s.pending ∧ (State.cmdAt s t c on run).die = s.die ∧
    (State.cmdAt s t c on run).hid = s.hid ∧ (State.cmdAt s t c on run).hub = s.hub ∧
    (State.cmdAt s t c on run).host = s.host ∧ (State.cmdAt s t c on run).links = s.links ∧
    (State.cmdAt s t c on run).dies = s.dies ∧ (State.cmdAt s t c on run).chans = s.chans ∧
    (State.cmdAt s t c on run).chains = s.chains ∧ (State.cmdAt s t c on run).coef = s.coef ∧
    (State.cmdAt s t c on run).rfx = s.rfx ∧ (State.cmdAt s t c on run).drv = s.drv ∧ (State.cmdAt s t c on run).ck = s.ck ∧
    (State.cmdAt s t c on run).sv = s.sv ∧ (State.cmdAt s t c on run).fw = s.fw ∧ (State.cmdAt s t c on run).hk = s.hk ∧
    (State.cmdAt s t c on run).ldg = s.ldg ∧ (State.cmdAt s t c on run).tk = s.tk ∧
    (State.cmdAt s t c on run).free = s.free := by
  unfold State.cmdAt
  simp -implicitDefEqProofs
@[simp] theorem State.cmdDue_frame {s : State} :
    (State.cmdDue s).pending = s.pending ∧ (State.cmdDue s).die = s.die ∧ (State.cmdDue s).hid = s.hid ∧
    (State.cmdDue s).hub = s.hub ∧ (State.cmdDue s).host = s.host ∧ (State.cmdDue s).links = s.links ∧
    (State.cmdDue s).dies = s.dies ∧ (State.cmdDue s).chans = s.chans ∧ (State.cmdDue s).chains = s.chains ∧
    (State.cmdDue s).coef = s.coef ∧ (State.cmdDue s).rfx = s.rfx ∧ (State.cmdDue s).drv = s.drv ∧
    (State.cmdDue s).ck = s.ck ∧ (State.cmdDue s).sv = s.sv ∧ (State.cmdDue s).fw = s.fw ∧ (State.cmdDue s).hk = s.hk ∧
    (State.cmdDue s).ldg = s.ldg ∧ (State.cmdDue s).tk = s.tk ∧ (State.cmdDue s).free = s.free := by
  unfold State.cmdDue
  simp -implicitDefEqProofs
@[simp] theorem State.actionCmd_frame {s : State} {g : Nat} {target : Nat} {action : Nat} {param : Nat} :
    (State.actionCmd s g target action param).pending = s.pending ∧ (State.actionCmd s g target action param).die = s.die ∧
    (State.actionCmd s g target action param).hid = s.hid ∧ (State.actionCmd s g target action param).hub = s.hub ∧
    (State.actionCmd s g target action param).host = s.host ∧ (State.actionCmd s g target action param).links = s.links ∧
    (State.actionCmd s g target action param).dies = s.dies ∧ (State.actionCmd s g target action param).chans = s.chans ∧
    (State.actionCmd s g target action param).chains = s.chains ∧ (State.actionCmd s g target action param).coef = s.coef ∧
    (State.actionCmd s g target action param).rfx = s.rfx ∧ (State.actionCmd s g target action param).drv = s.drv ∧
    (State.actionCmd s g target action param).ck = s.ck ∧ (State.actionCmd s g target action param).sv = s.sv ∧
    (State.actionCmd s g target action param).fw = s.fw ∧ (State.actionCmd s g target action param).hk = s.hk ∧
    (State.actionCmd s g target action param).ldg = s.ldg ∧ (State.actionCmd s g target action param).tk = s.tk ∧
    (State.actionCmd s g target action param).free = s.free := by
  unfold State.actionCmd
  (repeat' split) <;> simp -implicitDefEqProofs
@[simp] theorem State.slotLate_frame {s : State} {target : Nat} {action : Nat} {t : Nat} {outcome : Nat} {where_ : Nat} {lateness : Nat} :
    (State.slotLate s target action t outcome where_ lateness).pending = s.pending ∧
    (State.slotLate s target action t outcome where_ lateness).die = s.die ∧
    (State.slotLate s target action t outcome where_ lateness).hid = s.hid ∧
    (State.slotLate s target action t outcome where_ lateness).hub = s.hub ∧
    (State.slotLate s target action t outcome where_ lateness).links = s.links ∧
    (State.slotLate s target action t outcome where_ lateness).dies = s.dies ∧
    (State.slotLate s target action t outcome where_ lateness).chans = s.chans ∧
    (State.slotLate s target action t outcome where_ lateness).chains = s.chains ∧
    (State.slotLate s target action t outcome where_ lateness).coef = s.coef ∧
    (State.slotLate s target action t outcome where_ lateness).fold = s.fold ∧
    (State.slotLate s target action t outcome where_ lateness).rfx = s.rfx ∧
    (State.slotLate s target action t outcome where_ lateness).drv = s.drv ∧
    (State.slotLate s target action t outcome where_ lateness).ck = s.ck ∧
    (State.slotLate s target action t outcome where_ lateness).sv = s.sv ∧
    (State.slotLate s target action t outcome where_ lateness).fw = s.fw ∧
    (State.slotLate s target action t outcome where_ lateness).hk = s.hk ∧
    (State.slotLate s target action t outcome where_ lateness).ldg = s.ldg ∧
    (State.slotLate s target action t outcome where_ lateness).free = s.free := by
  unfold State.slotLate
  simp -implicitDefEqProofs
@[simp] theorem State.cancelNote_frame {s : State} {l : List Slot} {chByte : Nat} {cause : Nat} {rule : Nat} :
    (State.cancelNote s l chByte cause rule).pending = s.pending ∧ (State.cancelNote s l chByte cause rule).die = s.die ∧
    (State.cancelNote s l chByte cause rule).hid = s.hid ∧ (State.cancelNote s l chByte cause rule).hub = s.hub ∧
    (State.cancelNote s l chByte cause rule).links = s.links ∧ (State.cancelNote s l chByte cause rule).dies = s.dies ∧
    (State.cancelNote s l chByte cause rule).chans = s.chans ∧ (State.cancelNote s l chByte cause rule).chains = s.chains ∧
    (State.cancelNote s l chByte cause rule).coef = s.coef ∧ (State.cancelNote s l chByte cause rule).fold = s.fold ∧
    (State.cancelNote s l chByte cause rule).rfx = s.rfx ∧ (State.cancelNote s l chByte cause rule).drv = s.drv ∧
    (State.cancelNote s l chByte cause rule).ck = s.ck ∧ (State.cancelNote s l chByte cause rule).sv = s.sv ∧
    (State.cancelNote s l chByte cause rule).fw = s.fw ∧ (State.cancelNote s l chByte cause rule).hk = s.hk ∧
    (State.cancelNote s l chByte cause rule).ldg = s.ldg ∧ (State.cancelNote s l chByte cause rule).free = s.free := by
  unfold State.cancelNote
  (repeat' split) <;> simp -implicitDefEqProofs
@[simp] theorem State.cancelSlots_frame {s : State} {p : Slot → Bool} {cause : Nat} {rule : Nat} :
    (State.cancelSlots s p cause rule).pending = s.pending ∧ (State.cancelSlots s p cause rule).die = s.die ∧
    (State.cancelSlots s p cause rule).hid = s.hid ∧ (State.cancelSlots s p cause rule).hub = s.hub ∧
    (State.cancelSlots s p cause rule).links = s.links ∧ (State.cancelSlots s p cause rule).dies = s.dies ∧
    (State.cancelSlots s p cause rule).chans = s.chans ∧ (State.cancelSlots s p cause rule).chains = s.chains ∧
    (State.cancelSlots s p cause rule).coef = s.coef ∧ (State.cancelSlots s p cause rule).rfx = s.rfx ∧
    (State.cancelSlots s p cause rule).drv = s.drv ∧ (State.cancelSlots s p cause rule).ck = s.ck ∧
    (State.cancelSlots s p cause rule).sv = s.sv ∧ (State.cancelSlots s p cause rule).fw = s.fw ∧
    (State.cancelSlots s p cause rule).hk = s.hk ∧ (State.cancelSlots s p cause rule).ldg = s.ldg ∧
    (State.cancelSlots s p cause rule).free = s.free := by
  unfold State.cancelSlots
  simp -implicitDefEqProofs
@[simp] theorem State.markNote_frame {s : State} {t : Nat} {param : Nat} :
    (State.markNote s t param).pending = s.pending ∧ (State.markNote s t param).die = s.die ∧
    (State.markNote s t param).hid = s.hid ∧ (State.markNote s t param).hub = s.hub ∧
    (State.markNote s t param).links = s.links ∧ (State.markNote s t param).dies = s.dies ∧
    (State.markNote s t param).chans = s.chans ∧ (State.markNote s t param).chains = s.chains ∧
    (State.markNote s t param).coef = s.coef ∧ (State.markNote s t param).fold = s.fold ∧
    (State.markNote s t param).rfx = s.rfx ∧ (State.markNote s t param).drv = s.drv ∧ (State.markNote s t param).ck = s.ck ∧
    (State.markNote s t param).sv = s.sv ∧ (State.markNote s t param).fw = s.fw ∧ (State.markNote s t param).hk = s.hk ∧
    (State.markNote s t param).ldg = s.ldg ∧ (State.markNote s t param).free = s.free := by
  unfold State.markNote
  simp -implicitDefEqProofs
@[simp] theorem State.releaseSlot_frame {s : State} {x : Slot} :
    (State.releaseSlot s x).pending = s.pending ∧ (State.releaseSlot s x).die = s.die ∧
    (State.releaseSlot s x).hid = s.hid ∧ (State.releaseSlot s x).hub = s.hub ∧ (State.releaseSlot s x).dies = s.dies ∧
    (State.releaseSlot s x).chains = s.chains ∧ (State.releaseSlot s x).coef = s.coef ∧
    (State.releaseSlot s x).rfx = s.rfx ∧ (State.releaseSlot s x).drv = s.drv ∧ (State.releaseSlot s x).ck = s.ck ∧
    (State.releaseSlot s x).sv = s.sv ∧ (State.releaseSlot s x).fw = s.fw ∧ (State.releaseSlot s x).hk = s.hk ∧
    (State.releaseSlot s x).ldg = s.ldg ∧ (State.releaseSlot s x).free = s.free := by
  unfold State.releaseSlot
  simp -implicitDefEqProofs
@[simp] theorem State.markDue_frame {s : State} {x : Slot} :
    (State.markDue s x).pending = s.pending ∧ (State.markDue s x).regs = s.regs ∧ (State.markDue s x).die = s.die ∧
    (State.markDue s x).hid = s.hid ∧ (State.markDue s x).hub = s.hub ∧ (State.markDue s x).host = s.host ∧
    (State.markDue s x).links = s.links ∧ (State.markDue s x).dies = s.dies ∧ (State.markDue s x).chans = s.chans ∧
    (State.markDue s x).chains = s.chains ∧ (State.markDue s x).coef = s.coef ∧ (State.markDue s x).rfx = s.rfx ∧
    (State.markDue s x).drv = s.drv ∧ (State.markDue s x).ck = s.ck ∧ (State.markDue s x).sv = s.sv ∧
    (State.markDue s x).fw = s.fw ∧ (State.markDue s x).hk = s.hk ∧ (State.markDue s x).ldg = s.ldg ∧
    (State.markDue s x).tk = s.tk ∧ (State.markDue s x).free = s.free := by
  unfold State.markDue
  simp -implicitDefEqProofs
@[simp] theorem State.releaseOrWait_frame {s : State} {x : Slot} :
    (State.releaseOrWait s x).pending = s.pending ∧ (State.releaseOrWait s x).die = s.die ∧
    (State.releaseOrWait s x).hid = s.hid ∧ (State.releaseOrWait s x).hub = s.hub ∧
    (State.releaseOrWait s x).dies = s.dies ∧ (State.releaseOrWait s x).chains = s.chains ∧
    (State.releaseOrWait s x).coef = s.coef ∧ (State.releaseOrWait s x).rfx = s.rfx ∧
    (State.releaseOrWait s x).drv = s.drv ∧ (State.releaseOrWait s x).ck = s.ck ∧ (State.releaseOrWait s x).sv = s.sv ∧
    (State.releaseOrWait s x).fw = s.fw ∧ (State.releaseOrWait s x).hk = s.hk ∧ (State.releaseOrWait s x).ldg = s.ldg ∧
    (State.releaseOrWait s x).free = s.free := by
  unfold State.releaseOrWait
  simp -implicitDefEqProofs
@[simp] theorem State.cancelAbsent_frame {s : State} :
    (State.cancelAbsent s).pending = s.pending ∧ (State.cancelAbsent s).die = s.die ∧ (State.cancelAbsent s).hid = s.hid ∧
    (State.cancelAbsent s).hub = s.hub ∧ (State.cancelAbsent s).links = s.links ∧ (State.cancelAbsent s).dies = s.dies ∧
    (State.cancelAbsent s).chans = s.chans ∧ (State.cancelAbsent s).chains = s.chains ∧
    (State.cancelAbsent s).coef = s.coef ∧ (State.cancelAbsent s).rfx = s.rfx ∧ (State.cancelAbsent s).drv = s.drv ∧
    (State.cancelAbsent s).ck = s.ck ∧ (State.cancelAbsent s).sv = s.sv ∧ (State.cancelAbsent s).fw = s.fw ∧
    (State.cancelAbsent s).hk = s.hk ∧ (State.cancelAbsent s).ldg = s.ldg ∧ (State.cancelAbsent s).free = s.free := by
  unfold State.cancelAbsent
  simp -implicitDefEqProofs
@[simp] theorem State.lateSlot_frame {s : State} {x : Slot} {where_ : Nat} :
    (State.lateSlot s x where_).pending = s.pending ∧ (State.lateSlot s x where_).die = s.die ∧
    (State.lateSlot s x where_).hid = s.hid ∧ (State.lateSlot s x where_).hub = s.hub ∧
    (State.lateSlot s x where_).dies = s.dies ∧ (State.lateSlot s x where_).chains = s.chains ∧
    (State.lateSlot s x where_).coef = s.coef ∧ (State.lateSlot s x where_).rfx = s.rfx ∧
    (State.lateSlot s x where_).drv = s.drv ∧ (State.lateSlot s x where_).ck = s.ck ∧
    (State.lateSlot s x where_).sv = s.sv ∧ (State.lateSlot s x where_).fw = s.fw ∧ (State.lateSlot s x where_).hk = s.hk ∧
    (State.lateSlot s x where_).ldg = s.ldg ∧ (State.lateSlot s x where_).free = s.free := by
  unfold State.lateSlot
  simp -implicitDefEqProofs
@[simp] theorem State.enterAction_frame {s : State} {policy : Nat} {t : Nat} {target : Nat} {action : Nat} {param : Nat} :
    (State.enterAction s policy t target action param).pending = s.pending ∧
    (State.enterAction s policy t target action param).die = s.die ∧
    (State.enterAction s policy t target action param).hid = s.hid ∧
    (State.enterAction s policy t target action param).hub = s.hub ∧
    (State.enterAction s policy t target action param).dies = s.dies ∧
    (State.enterAction s policy t target action param).chains = s.chains ∧
    (State.enterAction s policy t target action param).coef = s.coef ∧
    (State.enterAction s policy t target action param).rfx = s.rfx ∧
    (State.enterAction s policy t target action param).drv = s.drv ∧
    (State.enterAction s policy t target action param).ck = s.ck ∧
    (State.enterAction s policy t target action param).sv = s.sv ∧
    (State.enterAction s policy t target action param).fw = s.fw ∧
    (State.enterAction s policy t target action param).hk = s.hk ∧
    (State.enterAction s policy t target action param).ldg = s.ldg := by
  unfold State.enterAction
  simp -implicitDefEqProofs
@[simp] theorem State.refuseEntry_frame {s : State} {e : Entry} {why : Nat} :
    (State.refuseEntry s e why).pending = s.pending ∧ (State.refuseEntry s e why).die = s.die ∧
    (State.refuseEntry s e why).hid = s.hid ∧ (State.refuseEntry s e why).hub = s.hub ∧
    (State.refuseEntry s e why).links = s.links ∧ (State.refuseEntry s e why).dies = s.dies ∧
    (State.refuseEntry s e why).chans = s.chans ∧ (State.refuseEntry s e why).chains = s.chains ∧
    (State.refuseEntry s e why).coef = s.coef ∧ (State.refuseEntry s e why).rfx = s.rfx ∧
    (State.refuseEntry s e why).drv = s.drv ∧ (State.refuseEntry s e why).ck = s.ck ∧
    (State.refuseEntry s e why).sv = s.sv ∧ (State.refuseEntry s e why).fw = s.fw ∧ (State.refuseEntry s e why).hk = s.hk ∧
    (State.refuseEntry s e why).ldg = s.ldg ∧ (State.refuseEntry s e why).free = s.free := by
  unfold State.refuseEntry
  simp -implicitDefEqProofs
@[simp] theorem State.fullWait_frame {s : State} {e : Entry} :
    (State.fullWait s e).pending = s.pending ∧ (State.fullWait s e).die = s.die ∧ (State.fullWait s e).hid = s.hid ∧
    (State.fullWait s e).hub = s.hub ∧ (State.fullWait s e).links = s.links ∧ (State.fullWait s e).dies = s.dies ∧
    (State.fullWait s e).chans = s.chans ∧ (State.fullWait s e).chains = s.chains ∧ (State.fullWait s e).coef = s.coef ∧
    (State.fullWait s e).fold = s.fold ∧ (State.fullWait s e).rfx = s.rfx ∧ (State.fullWait s e).drv = s.drv ∧
    (State.fullWait s e).ck = s.ck ∧ (State.fullWait s e).sv = s.sv ∧ (State.fullWait s e).fw = s.fw ∧
    (State.fullWait s e).hk = s.hk ∧ (State.fullWait s e).ldg = s.ldg ∧ (State.fullWait s e).free = s.free := by
  unfold State.fullWait
  simp -implicitDefEqProofs
@[simp] theorem State.scheduleHead_frame {s : State} :
    (State.scheduleHead s).pending = s.pending ∧ (State.scheduleHead s).die = s.die ∧ (State.scheduleHead s).hid = s.hid ∧
    (State.scheduleHead s).hub = s.hub ∧ (State.scheduleHead s).dies = s.dies ∧ (State.scheduleHead s).chains = s.chains ∧
    (State.scheduleHead s).coef = s.coef ∧ (State.scheduleHead s).rfx = s.rfx ∧ (State.scheduleHead s).drv = s.drv ∧
    (State.scheduleHead s).ck = s.ck ∧ (State.scheduleHead s).sv = s.sv ∧ (State.scheduleHead s).fw = s.fw ∧
    (State.scheduleHead s).hk = s.hk ∧ (State.scheduleHead s).ldg = s.ldg := by
  unfold State.scheduleHead
  (repeat' split) <;> simp -implicitDefEqProofs
@[simp] theorem State.cancelHead_frame {s : State} :
    (State.cancelHead s).pending = s.pending ∧ (State.cancelHead s).die = s.die ∧ (State.cancelHead s).hid = s.hid ∧
    (State.cancelHead s).hub = s.hub ∧ (State.cancelHead s).links = s.links ∧ (State.cancelHead s).dies = s.dies ∧
    (State.cancelHead s).chans = s.chans ∧ (State.cancelHead s).chains = s.chains ∧ (State.cancelHead s).coef = s.coef ∧
    (State.cancelHead s).rfx = s.rfx ∧ (State.cancelHead s).drv = s.drv ∧ (State.cancelHead s).ck = s.ck ∧
    (State.cancelHead s).sv = s.sv ∧ (State.cancelHead s).fw = s.fw ∧ (State.cancelHead s).hk = s.hk ∧
    (State.cancelHead s).ldg = s.ldg ∧ (State.cancelHead s).free = s.free := by
  unfold State.cancelHead
  (repeat' split) <;> simp -implicitDefEqProofs
@[simp] theorem State.slotDue_frame {s : State} :
    (State.slotDue s).pending = s.pending ∧ (State.slotDue s).die = s.die ∧ (State.slotDue s).hid = s.hid ∧
    (State.slotDue s).hub = s.hub ∧ (State.slotDue s).dies = s.dies ∧ (State.slotDue s).chains = s.chains ∧
    (State.slotDue s).coef = s.coef ∧ (State.slotDue s).rfx = s.rfx ∧ (State.slotDue s).drv = s.drv ∧
    (State.slotDue s).ck = s.ck ∧ (State.slotDue s).sv = s.sv ∧ (State.slotDue s).fw = s.fw ∧ (State.slotDue s).hk = s.hk ∧
    (State.slotDue s).ldg = s.ldg ∧ (State.slotDue s).free = s.free := by
  unfold State.slotDue
  (repeat' split) <;> simp -implicitDefEqProofs
@[simp] theorem State.drain_frame {g : Grp} {k : Nat} {s : State} :
    (State.drain g k s).pending = s.pending ∧ (State.drain g k s).die = s.die ∧ (State.drain g k s).hid = s.hid ∧
    (State.drain g k s).hub = s.hub ∧ (State.drain g k s).dies = s.dies ∧ (State.drain g k s).chains = s.chains ∧
    (State.drain g k s).coef = s.coef ∧ (State.drain g k s).rfx = s.rfx ∧ (State.drain g k s).drv = s.drv ∧
    (State.drain g k s).ck = s.ck ∧ (State.drain g k s).sv = s.sv ∧ (State.drain g k s).fw = s.fw ∧
    (State.drain g k s).hk = s.hk ∧ (State.drain g k s).ldg = s.ldg ∧ (State.drain g k s).free = s.free := by
  induction k generalizing s with
  | zero => simp [State.drain]
  | succ n ih => unfold State.drain; (repeat' split) <;> simp [ih]
@[simp] theorem State.foldEnabled_frame {s : State} :
    (State.foldEnabled s).pending = s.pending ∧ (State.foldEnabled s).die = s.die ∧ (State.foldEnabled s).hid = s.hid ∧
    (State.foldEnabled s).hub = s.hub ∧ (State.foldEnabled s).dies = s.dies ∧ (State.foldEnabled s).chains = s.chains ∧
    (State.foldEnabled s).coef = s.coef ∧ (State.foldEnabled s).rfx = s.rfx ∧ (State.foldEnabled s).drv = s.drv ∧
    (State.foldEnabled s).ck = s.ck ∧ (State.foldEnabled s).sv = s.sv ∧ (State.foldEnabled s).fw = s.fw ∧
    (State.foldEnabled s).hk = s.hk ∧ (State.foldEnabled s).ldg = s.ldg ∧ (State.foldEnabled s).free = s.free := by
  unfold State.foldEnabled
  simp -implicitDefEqProofs
@[simp] theorem State.foldCancel_frame {s : State} {mask : Nat} :
    (State.foldCancel s mask).pending = s.pending ∧ (State.foldCancel s mask).die = s.die ∧
    (State.foldCancel s mask).hid = s.hid ∧ (State.foldCancel s mask).hub = s.hub ∧
    (State.foldCancel s mask).links = s.links ∧ (State.foldCancel s mask).dies = s.dies ∧
    (State.foldCancel s mask).chans = s.chans ∧ (State.foldCancel s mask).chains = s.chains ∧
    (State.foldCancel s mask).coef = s.coef ∧ (State.foldCancel s mask).rfx = s.rfx ∧
    (State.foldCancel s mask).drv = s.drv ∧ (State.foldCancel s mask).ck = s.ck ∧ (State.foldCancel s mask).sv = s.sv ∧
    (State.foldCancel s mask).fw = s.fw ∧ (State.foldCancel s mask).hk = s.hk ∧ (State.foldCancel s mask).ldg = s.ldg ∧
    (State.foldCancel s mask).free = s.free := by
  unfold State.foldCancel
  simp -implicitDefEqProofs
@[simp] theorem State.edgeDone_frame {s : State} {w : EdgeWait} {none_ : Bool} {cross : Nat} {d : Nat} :
    (State.edgeDone s w none_ cross d).pending = s.pending ∧ (State.edgeDone s w none_ cross d).die = s.die ∧
    (State.edgeDone s w none_ cross d).hid = s.hid ∧ (State.edgeDone s w none_ cross d).hub = s.hub ∧
    (State.edgeDone s w none_ cross d).links = s.links ∧ (State.edgeDone s w none_ cross d).dies = s.dies ∧
    (State.edgeDone s w none_ cross d).chans = s.chans ∧ (State.edgeDone s w none_ cross d).chains = s.chains ∧
    (State.edgeDone s w none_ cross d).coef = s.coef ∧ (State.edgeDone s w none_ cross d).fold = s.fold ∧
    (State.edgeDone s w none_ cross d).rfx = s.rfx ∧ (State.edgeDone s w none_ cross d).drv = s.drv ∧
    (State.edgeDone s w none_ cross d).ck = s.ck ∧ (State.edgeDone s w none_ cross d).sv = s.sv ∧
    (State.edgeDone s w none_ cross d).fw = s.fw ∧ (State.edgeDone s w none_ cross d).hk = s.hk ∧
    (State.edgeDone s w none_ cross d).ldg = s.ldg ∧ (State.edgeDone s w none_ cross d).free = s.free := by
  unfold State.edgeDone
  simp -implicitDefEqProofs
@[simp] theorem State.waitEnds_frame {s : State} {c : Ch} {w : EdgeWait} {none_ : Bool} {cross : Nat} {d : Nat} :
    (State.waitEnds s c w none_ cross d).pending = s.pending ∧ (State.waitEnds s c w none_ cross d).die = s.die ∧
    (State.waitEnds s c w none_ cross d).hid = s.hid ∧ (State.waitEnds s c w none_ cross d).hub = s.hub ∧
    (State.waitEnds s c w none_ cross d).links = s.links ∧ (State.waitEnds s c w none_ cross d).dies = s.dies ∧
    (State.waitEnds s c w none_ cross d).chains = s.chains ∧ (State.waitEnds s c w none_ cross d).coef = s.coef ∧
    (State.waitEnds s c w none_ cross d).fold = s.fold ∧ (State.waitEnds s c w none_ cross d).rfx = s.rfx ∧
    (State.waitEnds s c w none_ cross d).drv = s.drv ∧ (State.waitEnds s c w none_ cross d).ck = s.ck ∧
    (State.waitEnds s c w none_ cross d).sv = s.sv ∧ (State.waitEnds s c w none_ cross d).fw = s.fw ∧
    (State.waitEnds s c w none_ cross d).hk = s.hk ∧ (State.waitEnds s c w none_ cross d).ldg = s.ldg ∧
    (State.waitEnds s c w none_ cross d).free = s.free := by
  unfold State.waitEnds
  simp -implicitDefEqProofs
@[simp] theorem State.delayIn_frame {s : State} {c : Ch} {on : Bool} {d : Nat} {v : Nat} {cross : Nat} {slot : Option Nat} :
    (State.delayIn s c on d v cross slot).pending = s.pending ∧ (State.delayIn s c on d v cross slot).die = s.die ∧
    (State.delayIn s c on d v cross slot).hid = s.hid ∧ (State.delayIn s c on d v cross slot).hub = s.hub ∧
    (State.delayIn s c on d v cross slot).links = s.links ∧ (State.delayIn s c on d v cross slot).dies = s.dies ∧
    (State.delayIn s c on d v cross slot).chains = s.chains ∧ (State.delayIn s c on d v cross slot).coef = s.coef ∧
    (State.delayIn s c on d v cross slot).fold = s.fold ∧ (State.delayIn s c on d v cross slot).rfx = s.rfx ∧
    (State.delayIn s c on d v cross slot).drv = s.drv ∧ (State.delayIn s c on d v cross slot).ck = s.ck ∧
    (State.delayIn s c on d v cross slot).sv = s.sv ∧ (State.delayIn s c on d v cross slot).fw = s.fw ∧
    (State.delayIn s c on d v cross slot).hk = s.hk ∧ (State.delayIn s c on d v cross slot).ldg = s.ldg ∧
    (State.delayIn s c on d v cross slot).free = s.free := by
  unfold State.delayIn
  (repeat' split) <;> simp -implicitDefEqProofs
@[simp] theorem State.setPair_frame {s : State} {lo : Fld} {hi : Fld} {v : Nat} :
    (State.setPair s lo hi v).pending = s.pending ∧ (State.setPair s lo hi v).die = s.die ∧
    (State.setPair s lo hi v).hid = s.hid ∧ (State.setPair s lo hi v).hub = s.hub ∧
    (State.setPair s lo hi v).host = s.host ∧ (State.setPair s lo hi v).links = s.links ∧
    (State.setPair s lo hi v).dies = s.dies ∧ (State.setPair s lo hi v).chans = s.chans ∧
    (State.setPair s lo hi v).chains = s.chains ∧ (State.setPair s lo hi v).coef = s.coef ∧
    (State.setPair s lo hi v).fold = s.fold ∧ (State.setPair s lo hi v).rfx = s.rfx ∧
    (State.setPair s lo hi v).drv = s.drv ∧ (State.setPair s lo hi v).ck = s.ck ∧ (State.setPair s lo hi v).sv = s.sv ∧
    (State.setPair s lo hi v).fw = s.fw ∧ (State.setPair s lo hi v).hk = s.hk ∧ (State.setPair s lo hi v).ldg = s.ldg ∧
    (State.setPair s lo hi v).tk = s.tk ∧ (State.setPair s lo hi v).free = s.free := by
  unfold State.setPair
  simp -implicitDefEqProofs
@[simp] theorem State.tickOn_frame {s : State} :
    (State.tickOn s).pending = s.pending ∧ (State.tickOn s).die = s.die ∧ (State.tickOn s).hid = s.hid ∧
    (State.tickOn s).host = s.host ∧ (State.tickOn s).links = s.links ∧ (State.tickOn s).dies = s.dies ∧
    (State.tickOn s).chans = s.chans ∧ (State.tickOn s).chains = s.chains ∧ (State.tickOn s).coef = s.coef ∧
    (State.tickOn s).rfx = s.rfx ∧ (State.tickOn s).drv = s.drv ∧ (State.tickOn s).ck = s.ck ∧ (State.tickOn s).sv = s.sv ∧
    (State.tickOn s).fw = s.fw ∧ (State.tickOn s).hk = s.hk ∧ (State.tickOn s).ldg = s.ldg ∧ (State.tickOn s).tk = s.tk ∧
    (State.tickOn s).free = s.free := by
  unfold State.tickOn
  simp -implicitDefEqProofs
@[simp] theorem State.slewWritten_frame {s : State} {v : Nat} :
    (State.slewWritten s v).pending = s.pending ∧ (State.slewWritten s v).die = s.die ∧
    (State.slewWritten s v).hid = s.hid ∧ (State.slewWritten s v).host = s.host ∧ (State.slewWritten s v).links = s.links ∧
    (State.slewWritten s v).dies = s.dies ∧ (State.slewWritten s v).chans = s.chans ∧
    (State.slewWritten s v).chains = s.chains ∧ (State.slewWritten s v).coef = s.coef ∧
    (State.slewWritten s v).fold = s.fold ∧ (State.slewWritten s v).rfx = s.rfx ∧ (State.slewWritten s v).drv = s.drv ∧
    (State.slewWritten s v).ck = s.ck ∧ (State.slewWritten s v).sv = s.sv ∧ (State.slewWritten s v).fw = s.fw ∧
    (State.slewWritten s v).hk = s.hk ∧ (State.slewWritten s v).ldg = s.ldg ∧ (State.slewWritten s v).tk = s.tk ∧
    (State.slewWritten s v).free = s.free := by
  unfold State.slewWritten
  simp -implicitDefEqProofs
@[simp] theorem State.stepRelease_frame {s : State} :
    (State.stepRelease s).pending = s.pending ∧ (State.stepRelease s).die = s.die ∧ (State.stepRelease s).hid = s.hid ∧
    (State.stepRelease s).host = s.host ∧ (State.stepRelease s).links = s.links ∧ (State.stepRelease s).dies = s.dies ∧
    (State.stepRelease s).chans = s.chans ∧ (State.stepRelease s).chains = s.chains ∧ (State.stepRelease s).coef = s.coef ∧
    (State.stepRelease s).fold = s.fold ∧ (State.stepRelease s).rfx = s.rfx ∧ (State.stepRelease s).drv = s.drv ∧
    (State.stepRelease s).ck = s.ck ∧ (State.stepRelease s).sv = s.sv ∧ (State.stepRelease s).fw = s.fw ∧
    (State.stepRelease s).hk = s.hk ∧ (State.stepRelease s).ldg = s.ldg ∧ (State.stepRelease s).tk = s.tk ∧
    (State.stepRelease s).free = s.free := by
  unfold State.stepRelease
  (repeat' split) <;> simp -implicitDefEqProofs
@[simp] theorem State.stepAsked_frame {s : State} {delta : Int} {cause : Nat} :
    (State.stepAsked s delta cause).pending = s.pending ∧ (State.stepAsked s delta cause).die = s.die ∧
    (State.stepAsked s delta cause).hid = s.hid ∧ (State.stepAsked s delta cause).host = s.host ∧
    (State.stepAsked s delta cause).links = s.links ∧ (State.stepAsked s delta cause).dies = s.dies ∧
    (State.stepAsked s delta cause).chans = s.chans ∧ (State.stepAsked s delta cause).chains = s.chains ∧
    (State.stepAsked s delta cause).coef = s.coef ∧ (State.stepAsked s delta cause).fold = s.fold ∧
    (State.stepAsked s delta cause).rfx = s.rfx ∧ (State.stepAsked s delta cause).drv = s.drv ∧
    (State.stepAsked s delta cause).ck = s.ck ∧ (State.stepAsked s delta cause).sv = s.sv ∧
    (State.stepAsked s delta cause).fw = s.fw ∧ (State.stepAsked s delta cause).hk = s.hk ∧
    (State.stepAsked s delta cause).ldg = s.ldg ∧ (State.stepAsked s delta cause).tk = s.tk ∧
    (State.stepAsked s delta cause).free = s.free := by
  unfold State.stepAsked
  (repeat' split) <;> simp -implicitDefEqProofs
@[simp] theorem State.moveSchedule_frame {s : State} {delta : Int} :
    (State.moveSchedule s delta).pending = s.pending ∧ (State.moveSchedule s delta).die = s.die ∧
    (State.moveSchedule s delta).hid = s.hid ∧ (State.moveSchedule s delta).hub = s.hub ∧
    (State.moveSchedule s delta).host = s.host ∧ (State.moveSchedule s delta).dies = s.dies ∧
    (State.moveSchedule s delta).chains = s.chains ∧ (State.moveSchedule s delta).coef = s.coef ∧
    (State.moveSchedule s delta).rfx = s.rfx ∧ (State.moveSchedule s delta).drv = s.drv ∧
    (State.moveSchedule s delta).ck = s.ck ∧ (State.moveSchedule s delta).sv = s.sv ∧
    (State.moveSchedule s delta).fw = s.fw ∧ (State.moveSchedule s delta).hk = s.hk ∧
    (State.moveSchedule s delta).ldg = s.ldg ∧ (State.moveSchedule s delta).tk = s.tk ∧
    (State.moveSchedule s delta).free = s.free := by
  unfold State.moveSchedule
  simp -implicitDefEqProofs
@[simp] theorem State.soAim_frame {s : State} {t : Nat} :
    (State.soAim s t).pending = s.pending ∧ (State.soAim s t).regs = s.regs ∧ (State.soAim s t).die = s.die ∧
    (State.soAim s t).hid = s.hid ∧ (State.soAim s t).host = s.host ∧ (State.soAim s t).links = s.links ∧
    (State.soAim s t).dies = s.dies ∧ (State.soAim s t).chans = s.chans ∧ (State.soAim s t).chains = s.chains ∧
    (State.soAim s t).coef = s.coef ∧ (State.soAim s t).fold = s.fold ∧ (State.soAim s t).rfx = s.rfx ∧
    (State.soAim s t).drv = s.drv ∧ (State.soAim s t).ck = s.ck ∧ (State.soAim s t).sv = s.sv ∧
    (State.soAim s t).fw = s.fw ∧ (State.soAim s t).hk = s.hk ∧ (State.soAim s t).ldg = s.ldg ∧
    (State.soAim s t).tk = s.tk ∧ (State.soAim s t).free = s.free := by
  unfold State.soAim
  simp -implicitDefEqProofs
@[simp] theorem State.sendStep_frame {s : State} {delta : Int} :
    (State.sendStep s delta).pending = s.pending ∧ (State.sendStep s delta).die = s.die ∧
    (State.sendStep s delta).hid = s.hid ∧ (State.sendStep s delta).hub = s.hub ∧ (State.sendStep s delta).host = s.host ∧
    (State.sendStep s delta).dies = s.dies ∧ (State.sendStep s delta).chans = s.chans ∧
    (State.sendStep s delta).chains = s.chains ∧ (State.sendStep s delta).coef = s.coef ∧
    (State.sendStep s delta).fold = s.fold ∧ (State.sendStep s delta).rfx = s.rfx ∧ (State.sendStep s delta).drv = s.drv ∧
    (State.sendStep s delta).ck = s.ck ∧ (State.sendStep s delta).sv = s.sv ∧ (State.sendStep s delta).fw = s.fw ∧
    (State.sendStep s delta).hk = s.hk ∧ (State.sendStep s delta).ldg = s.ldg ∧ (State.sendStep s delta).tk = s.tk ∧
    (State.sendStep s delta).free = s.free := by
  unfold State.sendStep
  simp -implicitDefEqProofs
@[simp] theorem State.stepApplied_frame {s : State} {delta : Int} {cause : Nat} {k : Nat} :
    (State.stepApplied s delta cause k).pending = s.pending ∧ (State.stepApplied s delta cause k).die = s.die ∧
    (State.stepApplied s delta cause k).hid = s.hid ∧ (State.stepApplied s delta cause k).dies = s.dies ∧
    (State.stepApplied s delta cause k).coef = s.coef ∧ (State.stepApplied s delta cause k).rfx = s.rfx ∧
    (State.stepApplied s delta cause k).drv = s.drv ∧ (State.stepApplied s delta cause k).ck = s.ck ∧
    (State.stepApplied s delta cause k).sv = s.sv ∧ (State.stepApplied s delta cause k).fw = s.fw ∧
    (State.stepApplied s delta cause k).hk = s.hk ∧ (State.stepApplied s delta cause k).ldg = s.ldg ∧
    (State.stepApplied s delta cause k).free = s.free := by
  unfold State.stepApplied
  simp -implicitDefEqProofs
@[simp] theorem State.siEdge_frame {s : State} {rising : Bool} :
    (State.siEdge s rising).pending = s.pending ∧ (State.siEdge s rising).die = s.die ∧
    (State.siEdge s rising).hid = s.hid ∧ (State.siEdge s rising).links = s.links ∧ (State.siEdge s rising).dies = s.dies ∧
    (State.siEdge s rising).chans = s.chans ∧ (State.siEdge s rising).chains = s.chains ∧
    (State.siEdge s rising).coef = s.coef ∧ (State.siEdge s rising).fold = s.fold ∧ (State.siEdge s rising).rfx = s.rfx ∧
    (State.siEdge s rising).drv = s.drv ∧ (State.siEdge s rising).ck = s.ck ∧ (State.siEdge s rising).sv = s.sv ∧
    (State.siEdge s rising).fw = s.fw ∧ (State.siEdge s rising).hk = s.hk ∧ (State.siEdge s rising).ldg = s.ldg ∧
    (State.siEdge s rising).free = s.free := by
  unfold State.siEdge
  simp -implicitDefEqProofs
@[simp] theorem State.soWritten_frame {s : State} :
    (State.soWritten s).pending = s.pending ∧ (State.soWritten s).regs = s.regs ∧ (State.soWritten s).die = s.die ∧
    (State.soWritten s).hid = s.hid ∧ (State.soWritten s).host = s.host ∧ (State.soWritten s).links = s.links ∧
    (State.soWritten s).dies = s.dies ∧ (State.soWritten s).chans = s.chans ∧ (State.soWritten s).chains = s.chains ∧
    (State.soWritten s).coef = s.coef ∧ (State.soWritten s).fold = s.fold ∧ (State.soWritten s).rfx = s.rfx ∧
    (State.soWritten s).drv = s.drv ∧ (State.soWritten s).ck = s.ck ∧ (State.soWritten s).sv = s.sv ∧
    (State.soWritten s).fw = s.fw ∧ (State.soWritten s).hk = s.hk ∧ (State.soWritten s).ldg = s.ldg ∧
    (State.soWritten s).tk = s.tk ∧ (State.soWritten s).free = s.free := by
  unfold State.soWritten
  simp -implicitDefEqProofs
@[simp] theorem State.soEnWritten_frame {s : State} {old : Nat} :
    (State.soEnWritten s old).pending = s.pending ∧ (State.soEnWritten s old).regs = s.regs ∧
    (State.soEnWritten s old).die = s.die ∧ (State.soEnWritten s old).hid = s.hid ∧
    (State.soEnWritten s old).host = s.host ∧ (State.soEnWritten s old).links = s.links ∧
    (State.soEnWritten s old).dies = s.dies ∧ (State.soEnWritten s old).chans = s.chans ∧
    (State.soEnWritten s old).chains = s.chains ∧ (State.soEnWritten s old).coef = s.coef ∧
    (State.soEnWritten s old).fold = s.fold ∧ (State.soEnWritten s old).rfx = s.rfx ∧
    (State.soEnWritten s old).drv = s.drv ∧ (State.soEnWritten s old).ck = s.ck ∧ (State.soEnWritten s old).sv = s.sv ∧
    (State.soEnWritten s old).fw = s.fw ∧ (State.soEnWritten s old).hk = s.hk ∧ (State.soEnWritten s old).ldg = s.ldg ∧
    (State.soEnWritten s old).tk = s.tk ∧ (State.soEnWritten s old).free = s.free := by
  unfold State.soEnWritten
  simp -implicitDefEqProofs
@[simp] theorem State.condition_frame {s : State} {lane : Grp} {x : Cond} :
    (State.condition s lane x).pending = s.pending ∧ (State.condition s lane x).die = s.die ∧
    (State.condition s lane x).hid = s.hid ∧ (State.condition s lane x).hub = s.hub ∧
    (State.condition s lane x).links = s.links ∧ (State.condition s lane x).dies = s.dies ∧
    (State.condition s lane x).chans = s.chans ∧ (State.condition s lane x).chains = s.chains ∧
    (State.condition s lane x).coef = s.coef ∧ (State.condition s lane x).fold = s.fold ∧
    (State.condition s lane x).drv = s.drv ∧ (State.condition s lane x).ck = s.ck ∧ (State.condition s lane x).sv = s.sv ∧
    (State.condition s lane x).fw = s.fw ∧ (State.condition s lane x).hk = s.hk ∧ (State.condition s lane x).ldg = s.ldg ∧
    (State.condition s lane x).free = s.free := by
  unfold State.condition
  simp -implicitDefEqProofs
@[simp] theorem State.windowNote_frame {s : State} {x : Strm} {fine : Bool} {dir : Nat} {word : Nat} {t : Nat} {gap : Bool} :
    (State.windowNote s x fine dir word t gap).pending = s.pending ∧
    (State.windowNote s x fine dir word t gap).die = s.die ∧ (State.windowNote s x fine dir word t gap).hid = s.hid ∧
    (State.windowNote s x fine dir word t gap).hub = s.hub ∧ (State.windowNote s x fine dir word t gap).links = s.links ∧
    (State.windowNote s x fine dir word t gap).dies = s.dies ∧ (State.windowNote s x fine dir word t gap).chans = s.chans ∧
    (State.windowNote s x fine dir word t gap).coef = s.coef ∧ (State.windowNote s x fine dir word t gap).fold = s.fold ∧
    (State.windowNote s x fine dir word t gap).rfx = s.rfx ∧ (State.windowNote s x fine dir word t gap).drv = s.drv ∧
    (State.windowNote s x fine dir word t gap).ck = s.ck ∧ (State.windowNote s x fine dir word t gap).sv = s.sv ∧
    (State.windowNote s x fine dir word t gap).fw = s.fw ∧ (State.windowNote s x fine dir word t gap).hk = s.hk ∧
    (State.windowNote s x fine dir word t gap).ldg = s.ldg ∧ (State.windowNote s x fine dir word t gap).free = s.free := by
  unfold State.windowNote
  simp -implicitDefEqProofs
@[simp] theorem State.windowExit_frame {s : State} {x : Strm} {fine : Bool} {dir : Nat} {word : Nat} {t : Nat} {gap : Bool} :
    (State.windowExit s x fine dir word t gap).pending = s.pending ∧
    (State.windowExit s x fine dir word t gap).die = s.die ∧ (State.windowExit s x fine dir word t gap).hid = s.hid ∧
    (State.windowExit s x fine dir word t gap).hub = s.hub ∧ (State.windowExit s x fine dir word t gap).links = s.links ∧
    (State.windowExit s x fine dir word t gap).dies = s.dies ∧ (State.windowExit s x fine dir word t gap).chans = s.chans ∧
    (State.windowExit s x fine dir word t gap).coef = s.coef ∧ (State.windowExit s x fine dir word t gap).fold = s.fold ∧
    (State.windowExit s x fine dir word t gap).drv = s.drv ∧ (State.windowExit s x fine dir word t gap).ck = s.ck ∧
    (State.windowExit s x fine dir word t gap).sv = s.sv ∧ (State.windowExit s x fine dir word t gap).fw = s.fw ∧
    (State.windowExit s x fine dir word t gap).hk = s.hk ∧ (State.windowExit s x fine dir word t gap).ldg = s.ldg ∧
    (State.windowExit s x fine dir word t gap).free = s.free := by
  unfold State.windowExit
  simp -implicitDefEqProofs
@[simp] theorem State.compare_frame {s : State} {x : Strm} {fine : Bool} {v : Int} {settle : Bool} {gap : Bool} {word : Nat} {t : Nat} :
    (State.compare s x fine v settle gap word t).pending = s.pending ∧
    (State.compare s x fine v settle gap word t).die = s.die ∧ (State.compare s x fine v settle gap word t).hid = s.hid ∧
    (State.compare s x fine v settle gap word t).hub = s.hub ∧
    (State.compare s x fine v settle gap word t).links = s.links ∧
    (State.compare s x fine v settle gap word t).dies = s.dies ∧
    (State.compare s x fine v settle gap word t).chans = s.chans ∧
    (State.compare s x fine v settle gap word t).coef = s.coef ∧
    (State.compare s x fine v settle gap word t).fold = s.fold ∧ (State.compare s x fine v settle gap word t).drv = s.drv ∧
    (State.compare s x fine v settle gap word t).ck = s.ck ∧ (State.compare s x fine v settle gap word t).sv = s.sv ∧
    (State.compare s x fine v settle gap word t).fw = s.fw ∧ (State.compare s x fine v settle gap word t).hk = s.hk ∧
    (State.compare s x fine v settle gap word t).ldg = s.ldg ∧ (State.compare s x fine v settle gap word t).free = s.free := by
  unfold State.compare
  simp -implicitDefEqProofs
@[simp] theorem State.cmpUnset_frame {s : State} {x : Strm} {fine : Bool} :
    (State.cmpUnset s x fine).pending = s.pending ∧ (State.cmpUnset s x fine).die = s.die ∧
    (State.cmpUnset s x fine).hid = s.hid ∧ (State.cmpUnset s x fine).hub = s.hub ∧
    (State.cmpUnset s x fine).host = s.host ∧ (State.cmpUnset s x fine).links = s.links ∧
    (State.cmpUnset s x fine).dies = s.dies ∧ (State.cmpUnset s x fine).chans = s.chans ∧
    (State.cmpUnset s x fine).coef = s.coef ∧ (State.cmpUnset s x fine).fold = s.fold ∧
    (State.cmpUnset s x fine).rfx = s.rfx ∧ (State.cmpUnset s x fine).drv = s.drv ∧ (State.cmpUnset s x fine).ck = s.ck ∧
    (State.cmpUnset s x fine).sv = s.sv ∧ (State.cmpUnset s x fine).fw = s.fw ∧ (State.cmpUnset s x fine).hk = s.hk ∧
    (State.cmpUnset s x fine).ldg = s.ldg ∧ (State.cmpUnset s x fine).tk = s.tk ∧ (State.cmpUnset s x fine).free = s.free := by
  unfold State.cmpUnset
  simp -implicitDefEqProofs
@[simp] theorem State.cmpSuspend_frame {s : State} {c : Ch} :
    (State.cmpSuspend s c).pending = s.pending ∧ (State.cmpSuspend s c).die = s.die ∧ (State.cmpSuspend s c).hid = s.hid ∧
    (State.cmpSuspend s c).hub = s.hub ∧ (State.cmpSuspend s c).host = s.host ∧ (State.cmpSuspend s c).links = s.links ∧
    (State.cmpSuspend s c).dies = s.dies ∧ (State.cmpSuspend s c).chans = s.chans ∧ (State.cmpSuspend s c).coef = s.coef ∧
    (State.cmpSuspend s c).fold = s.fold ∧ (State.cmpSuspend s c).rfx = s.rfx ∧ (State.cmpSuspend s c).drv = s.drv ∧
    (State.cmpSuspend s c).ck = s.ck ∧ (State.cmpSuspend s c).sv = s.sv ∧ (State.cmpSuspend s c).fw = s.fw ∧
    (State.cmpSuspend s c).hk = s.hk ∧ (State.cmpSuspend s c).ldg = s.ldg ∧ (State.cmpSuspend s c).tk = s.tk ∧
    (State.cmpSuspend s c).free = s.free := by
  unfold State.cmpSuspend
  simp -implicitDefEqProofs
@[simp] theorem State.cmpResume_frame {s : State} {c : Ch} :
    (State.cmpResume s c).pending = s.pending ∧ (State.cmpResume s c).regs = s.regs ∧ (State.cmpResume s c).die = s.die ∧
    (State.cmpResume s c).hid = s.hid ∧ (State.cmpResume s c).hub = s.hub ∧ (State.cmpResume s c).host = s.host ∧
    (State.cmpResume s c).links = s.links ∧ (State.cmpResume s c).dies = s.dies ∧ (State.cmpResume s c).chans = s.chans ∧
    (State.cmpResume s c).coef = s.coef ∧ (State.cmpResume s c).fold = s.fold ∧ (State.cmpResume s c).rfx = s.rfx ∧
    (State.cmpResume s c).drv = s.drv ∧ (State.cmpResume s c).ck = s.ck ∧ (State.cmpResume s c).sv = s.sv ∧
    (State.cmpResume s c).fw = s.fw ∧ (State.cmpResume s c).hk = s.hk ∧ (State.cmpResume s c).ldg = s.ldg ∧
    (State.cmpResume s c).tk = s.tk ∧ (State.cmpResume s c).free = s.free := by
  unfold State.cmpResume
  simp -implicitDefEqProofs
@[simp] theorem State.winWritten_frame {s : State} {x : Strm} {fine : Bool} :
    (State.winWritten s x fine).pending = s.pending ∧ (State.winWritten s x fine).regs = s.regs ∧
    (State.winWritten s x fine).die = s.die ∧ (State.winWritten s x fine).hid = s.hid ∧
    (State.winWritten s x fine).hub = s.hub ∧ (State.winWritten s x fine).host = s.host ∧
    (State.winWritten s x fine).links = s.links ∧ (State.winWritten s x fine).dies = s.dies ∧
    (State.winWritten s x fine).chans = s.chans ∧ (State.winWritten s x fine).coef = s.coef ∧
    (State.winWritten s x fine).fold = s.fold ∧ (State.winWritten s x fine).rfx = s.rfx ∧
    (State.winWritten s x fine).drv = s.drv ∧ (State.winWritten s x fine).ck = s.ck ∧
    (State.winWritten s x fine).sv = s.sv ∧ (State.winWritten s x fine).fw = s.fw ∧ (State.winWritten s x fine).hk = s.hk ∧
    (State.winWritten s x fine).ldg = s.ldg ∧ (State.winWritten s x fine).tk = s.tk ∧
    (State.winWritten s x fine).free = s.free := by
  unfold State.winWritten
  simp -implicitDefEqProofs
@[simp] theorem State.cmpTick_frame {s : State} :
    (State.cmpTick s).pending = s.pending ∧ (State.cmpTick s).die = s.die ∧ (State.cmpTick s).hid = s.hid ∧
    (State.cmpTick s).hub = s.hub ∧ (State.cmpTick s).host = s.host ∧ (State.cmpTick s).links = s.links ∧
    (State.cmpTick s).dies = s.dies ∧ (State.cmpTick s).chans = s.chans ∧ (State.cmpTick s).coef = s.coef ∧
    (State.cmpTick s).fold = s.fold ∧ (State.cmpTick s).rfx = s.rfx ∧ (State.cmpTick s).drv = s.drv ∧
    (State.cmpTick s).ck = s.ck ∧ (State.cmpTick s).sv = s.sv ∧ (State.cmpTick s).fw = s.fw ∧ (State.cmpTick s).hk = s.hk ∧
    (State.cmpTick s).ldg = s.ldg ∧ (State.cmpTick s).tk = s.tk ∧ (State.cmpTick s).free = s.free := by
  unfold State.cmpTick
  repeat' apply And.intro
  all_goals (refine (State.foldl_keep _ (fun s x => ?_) _ _).trans ?_)
  all_goals (first | rfl | (split <;> simp))
@[simp] theorem State.queueAction_frame {s : State} {r : RuleNo} {g : Grp} {tag : TxTag} :
    (State.queueAction s r g tag).pending = s.pending ∧ (State.queueAction s r g tag).regs = s.regs ∧
    (State.queueAction s r g tag).die = s.die ∧ (State.queueAction s r g tag).hid = s.hid ∧
    (State.queueAction s r g tag).hub = s.hub ∧ (State.queueAction s r g tag).host = s.host ∧
    (State.queueAction s r g tag).dies = s.dies ∧ (State.queueAction s r g tag).chans = s.chans ∧
    (State.queueAction s r g tag).chains = s.chains ∧ (State.queueAction s r g tag).coef = s.coef ∧
    (State.queueAction s r g tag).fold = s.fold ∧ (State.queueAction s r g tag).rfx = s.rfx ∧
    (State.queueAction s r g tag).drv = s.drv ∧ (State.queueAction s r g tag).ck = s.ck ∧
    (State.queueAction s r g tag).sv = s.sv ∧ (State.queueAction s r g tag).fw = s.fw ∧
    (State.queueAction s r g tag).hk = s.hk ∧ (State.queueAction s r g tag).ldg = s.ldg ∧
    (State.queueAction s r g tag).tk = s.tk ∧ (State.queueAction s r g tag).free = s.free := by
  unfold State.queueAction
  simp -implicitDefEqProofs
@[simp] theorem State.urgIn_frame {s : State} {g : Grp} :
    (State.urgIn s g).pending = s.pending ∧ (State.urgIn s g).regs = s.regs ∧ (State.urgIn s g).die = s.die ∧
    (State.urgIn s g).hid = s.hid ∧ (State.urgIn s g).hub = s.hub ∧ (State.urgIn s g).host = s.host ∧
    (State.urgIn s g).dies = s.dies ∧ (State.urgIn s g).chans = s.chans ∧ (State.urgIn s g).chains = s.chains ∧
    (State.urgIn s g).coef = s.coef ∧ (State.urgIn s g).fold = s.fold ∧ (State.urgIn s g).rfx = s.rfx ∧
    (State.urgIn s g).drv = s.drv ∧ (State.urgIn s g).ck = s.ck ∧ (State.urgIn s g).sv = s.sv ∧
    (State.urgIn s g).fw = s.fw ∧ (State.urgIn s g).hk = s.hk ∧ (State.urgIn s g).ldg = s.ldg ∧
    (State.urgIn s g).tk = s.tk ∧ (State.urgIn s g).free = s.free := by
  unfold State.urgIn
  simp -implicitDefEqProofs
@[simp] theorem State.urgSend_frame {g : Grp} {k : Nat} {s : State} :
    (State.urgSend g k s).pending = s.pending ∧ (State.urgSend g k s).regs = s.regs ∧ (State.urgSend g k s).die = s.die ∧
    (State.urgSend g k s).hid = s.hid ∧ (State.urgSend g k s).hub = s.hub ∧ (State.urgSend g k s).host = s.host ∧
    (State.urgSend g k s).dies = s.dies ∧ (State.urgSend g k s).chans = s.chans ∧ (State.urgSend g k s).chains = s.chains ∧
    (State.urgSend g k s).coef = s.coef ∧ (State.urgSend g k s).fold = s.fold ∧ (State.urgSend g k s).rfx = s.rfx ∧
    (State.urgSend g k s).drv = s.drv ∧ (State.urgSend g k s).ck = s.ck ∧ (State.urgSend g k s).sv = s.sv ∧
    (State.urgSend g k s).fw = s.fw ∧ (State.urgSend g k s).hk = s.hk ∧ (State.urgSend g k s).ldg = s.ldg ∧
    (State.urgSend g k s).tk = s.tk ∧ (State.urgSend g k s).free = s.free := by
  induction k generalizing s with
  | zero => simp [State.urgSend]
  | succ n ih => unfold State.urgSend; (repeat' split) <;> simp [ih]
@[simp] theorem State.urgGo_frame {s : State} {g : Grp} :
    (State.urgGo s g).pending = s.pending ∧ (State.urgGo s g).regs = s.regs ∧ (State.urgGo s g).die = s.die ∧
    (State.urgGo s g).hid = s.hid ∧ (State.urgGo s g).hub = s.hub ∧ (State.urgGo s g).host = s.host ∧
    (State.urgGo s g).dies = s.dies ∧ (State.urgGo s g).chans = s.chans ∧ (State.urgGo s g).chains = s.chains ∧
    (State.urgGo s g).coef = s.coef ∧ (State.urgGo s g).fold = s.fold ∧ (State.urgGo s g).rfx = s.rfx ∧
    (State.urgGo s g).drv = s.drv ∧ (State.urgGo s g).ck = s.ck ∧ (State.urgGo s g).sv = s.sv ∧
    (State.urgGo s g).fw = s.fw ∧ (State.urgGo s g).hk = s.hk ∧ (State.urgGo s g).ldg = s.ldg ∧
    (State.urgGo s g).tk = s.tk ∧ (State.urgGo s g).free = s.free := by
  unfold State.urgGo
  simp -implicitDefEqProofs
@[simp] theorem State.urgWait_frame {s : State} :
    (State.urgWait s).pending = s.pending ∧ (State.urgWait s).die = s.die ∧ (State.urgWait s).hid = s.hid ∧
    (State.urgWait s).hub = s.hub ∧ (State.urgWait s).links = s.links ∧ (State.urgWait s).dies = s.dies ∧
    (State.urgWait s).chans = s.chans ∧ (State.urgWait s).chains = s.chains ∧ (State.urgWait s).coef = s.coef ∧
    (State.urgWait s).fold = s.fold ∧ (State.urgWait s).rfx = s.rfx ∧ (State.urgWait s).drv = s.drv ∧
    (State.urgWait s).ck = s.ck ∧ (State.urgWait s).sv = s.sv ∧ (State.urgWait s).fw = s.fw ∧ (State.urgWait s).hk = s.hk ∧
    (State.urgWait s).ldg = s.ldg ∧ (State.urgWait s).free = s.free := by
  unfold State.urgWait
  simp -implicitDefEqProofs
@[simp] theorem State.sendAction_frame {s : State} {r : RuleNo} :
    (State.sendAction s r).pending = s.pending ∧ (State.sendAction s r).die = s.die ∧ (State.sendAction s r).hid = s.hid ∧
    (State.sendAction s r).hub = s.hub ∧ (State.sendAction s r).dies = s.dies ∧ (State.sendAction s r).chans = s.chans ∧
    (State.sendAction s r).chains = s.chains ∧ (State.sendAction s r).coef = s.coef ∧ (State.sendAction s r).fold = s.fold ∧
    (State.sendAction s r).rfx = s.rfx ∧ (State.sendAction s r).drv = s.drv ∧ (State.sendAction s r).ck = s.ck ∧
    (State.sendAction s r).sv = s.sv ∧ (State.sendAction s r).fw = s.fw ∧ (State.sendAction s r).hk = s.hk ∧
    (State.sendAction s r).ldg = s.ldg ∧ (State.sendAction s r).free = s.free := by
  unfold State.sendAction
  try dsimp only
  (repeat' split) <;> simp -implicitDefEqProofs
@[simp] theorem State.reflexCmd_frame {s : State} {r : RuleNo} :
    (State.reflexCmd s r).pending = s.pending ∧ (State.reflexCmd s r).die = s.die ∧ (State.reflexCmd s r).hid = s.hid ∧
    (State.reflexCmd s r).hub = s.hub ∧ (State.reflexCmd s r).host = s.host ∧ (State.reflexCmd s r).links = s.links ∧
    (State.reflexCmd s r).dies = s.dies ∧ (State.reflexCmd s r).chans = s.chans ∧ (State.reflexCmd s r).chains = s.chains ∧
    (State.reflexCmd s r).coef = s.coef ∧ (State.reflexCmd s r).rfx = s.rfx ∧ (State.reflexCmd s r).drv = s.drv ∧
    (State.reflexCmd s r).ck = s.ck ∧ (State.reflexCmd s r).sv = s.sv ∧ (State.reflexCmd s r).fw = s.fw ∧
    (State.reflexCmd s r).hk = s.hk ∧ (State.reflexCmd s r).ldg = s.ldg ∧ (State.reflexCmd s r).tk = s.tk ∧
    (State.reflexCmd s r).free = s.free := by
  unfold State.reflexCmd
  (repeat' split) <;> simp -implicitDefEqProofs
@[simp] theorem State.fireAction_frame {s : State} {r : RuleNo} :
    (State.fireAction s r).pending = s.pending ∧ (State.fireAction s r).die = s.die ∧ (State.fireAction s r).hid = s.hid ∧
    (State.fireAction s r).hub = s.hub ∧ (State.fireAction s r).dies = s.dies ∧ (State.fireAction s r).chans = s.chans ∧
    (State.fireAction s r).chains = s.chains ∧ (State.fireAction s r).coef = s.coef ∧ (State.fireAction s r).drv = s.drv ∧
    (State.fireAction s r).ck = s.ck ∧ (State.fireAction s r).sv = s.sv ∧ (State.fireAction s r).fw = s.fw ∧
    (State.fireAction s r).hk = s.hk ∧ (State.fireAction s r).ldg = s.ldg ∧ (State.fireAction s r).free = s.free := by
  unfold State.fireAction
  simp -implicitDefEqProofs
@[simp] theorem State.fireArm_frame {s : State} {r : RuleNo} {once : Bool} :
    (State.fireArm s r once).pending = s.pending ∧ (State.fireArm s r once).die = s.die ∧
    (State.fireArm s r once).hid = s.hid ∧ (State.fireArm s r once).hub = s.hub ∧ (State.fireArm s r once).host = s.host ∧
    (State.fireArm s r once).dies = s.dies ∧ (State.fireArm s r once).chains = s.chains ∧
    (State.fireArm s r once).coef = s.coef ∧ (State.fireArm s r once).fold = s.fold ∧ (State.fireArm s r once).drv = s.drv ∧
    (State.fireArm s r once).ck = s.ck ∧ (State.fireArm s r once).sv = s.sv ∧ (State.fireArm s r once).fw = s.fw ∧
    (State.fireArm s r once).hk = s.hk ∧ (State.fireArm s r once).ldg = s.ldg ∧ (State.fireArm s r once).tk = s.tk ∧
    (State.fireArm s r once).free = s.free := by
  unfold State.fireArm
  simp -implicitDefEqProofs
@[simp] theorem State.fire_frame {s : State} {x : Cond} {r : RuleNo} :
    (State.fire s x r).pending = s.pending ∧ (State.fire s x r).die = s.die ∧ (State.fire s x r).hid = s.hid ∧
    (State.fire s x r).hub = s.hub ∧ (State.fire s x r).dies = s.dies ∧ (State.fire s x r).chains = s.chains ∧
    (State.fire s x r).coef = s.coef ∧ (State.fire s x r).drv = s.drv ∧ (State.fire s x r).ck = s.ck ∧
    (State.fire s x r).sv = s.sv ∧ (State.fire s x r).fw = s.fw ∧ (State.fire s x r).hk = s.hk ∧
    (State.fire s x r).ldg = s.ldg ∧ (State.fire s x r).free = s.free := by
  unfold State.fire
  simp -implicitDefEqProofs
@[simp] theorem State.evaluate_frame {s : State} {x : Cond} :
    (State.evaluate s x).pending = s.pending ∧ (State.evaluate s x).die = s.die ∧ (State.evaluate s x).hid = s.hid ∧
    (State.evaluate s x).hub = s.hub ∧ (State.evaluate s x).dies = s.dies ∧ (State.evaluate s x).chains = s.chains ∧
    (State.evaluate s x).coef = s.coef ∧ (State.evaluate s x).drv = s.drv ∧ (State.evaluate s x).ck = s.ck ∧
    (State.evaluate s x).sv = s.sv ∧ (State.evaluate s x).fw = s.fw ∧ (State.evaluate s x).hk = s.hk ∧
    (State.evaluate s x).ldg = s.ldg ∧ (State.evaluate s x).free = s.free := by
  unfold State.evaluate
  simp -implicitDefEqProofs
@[simp] theorem State.armWritten_frame {s : State} {r : RuleNo} :
    (State.armWritten s r).pending = s.pending ∧ (State.armWritten s r).die = s.die ∧ (State.armWritten s r).hid = s.hid ∧
    (State.armWritten s r).hub = s.hub ∧ (State.armWritten s r).host = s.host ∧ (State.armWritten s r).dies = s.dies ∧
    (State.armWritten s r).chains = s.chains ∧ (State.armWritten s r).coef = s.coef ∧ (State.armWritten s r).fold = s.fold ∧
    (State.armWritten s r).rfx = s.rfx ∧ (State.armWritten s r).drv = s.drv ∧ (State.armWritten s r).ck = s.ck ∧
    (State.armWritten s r).sv = s.sv ∧ (State.armWritten s r).fw = s.fw ∧ (State.armWritten s r).hk = s.hk ∧
    (State.armWritten s r).ldg = s.ldg ∧ (State.armWritten s r).free = s.free := by
  unfold State.armWritten
  simp -implicitDefEqProofs
@[simp] theorem State.busyRule_frame {s : State} :
    (State.busyRule s).pending = s.pending ∧ (State.busyRule s).die = s.die ∧ (State.busyRule s).hid = s.hid ∧
    (State.busyRule s).hub = s.hub ∧ (State.busyRule s).links = s.links ∧ (State.busyRule s).dies = s.dies ∧
    (State.busyRule s).chans = s.chans ∧ (State.busyRule s).chains = s.chains ∧ (State.busyRule s).coef = s.coef ∧
    (State.busyRule s).fold = s.fold ∧ (State.busyRule s).rfx = s.rfx ∧ (State.busyRule s).drv = s.drv ∧
    (State.busyRule s).ck = s.ck ∧ (State.busyRule s).sv = s.sv ∧ (State.busyRule s).fw = s.fw ∧
    (State.busyRule s).hk = s.hk ∧ (State.busyRule s).ldg = s.ldg ∧ (State.busyRule s).free = s.free := by
  unfold State.busyRule
  simp -implicitDefEqProofs
@[simp] theorem State.discarded_frame {s : State} {c : Option Ch} {fold : Bool} :
    (State.discarded s c fold).pending = s.pending ∧ (State.discarded s c fold).die = s.die ∧
    (State.discarded s c fold).hid = s.hid ∧ (State.discarded s c fold).hub = s.hub ∧
    (State.discarded s c fold).links = s.links ∧ (State.discarded s c fold).dies = s.dies ∧
    (State.discarded s c fold).chans = s.chans ∧ (State.discarded s c fold).chains = s.chains ∧
    (State.discarded s c fold).coef = s.coef ∧ (State.discarded s c fold).fold = s.fold ∧
    (State.discarded s c fold).rfx = s.rfx ∧ (State.discarded s c fold).drv = s.drv ∧ (State.discarded s c fold).ck = s.ck ∧
    (State.discarded s c fold).sv = s.sv ∧ (State.discarded s c fold).fw = s.fw ∧ (State.discarded s c fold).hk = s.hk ∧
    (State.discarded s c fold).ldg = s.ldg ∧ (State.discarded s c fold).free = s.free := by
  unfold State.discarded
  (repeat' split) <;> simp -implicitDefEqProofs

end Sys2Proof.Machine
end

