-- ==== Sys2Proof/Laws/Frame2.lean ====
section
/-! SUPPORT. What the operations of the channels and the group dies leave unchanged: one lemma for each operation. -/

set_option Elab.async false

namespace Sys2Proof.Machine

@[simp] theorem State.strokeOpen_frame {s : State} {c : Ch} {residual : Bool} {lp : Nat} :
    (State.strokeOpen s c residual lp).pending = s.pending ∧ (State.strokeOpen s c residual lp).regs = s.regs ∧
    (State.strokeOpen s c residual lp).die = s.die ∧ (State.strokeOpen s c residual lp).hid = s.hid ∧
    (State.strokeOpen s c residual lp).hub = s.hub ∧ (State.strokeOpen s c residual lp).host = s.host ∧
    (State.strokeOpen s c residual lp).links = s.links ∧ (State.strokeOpen s c residual lp).dies = s.dies ∧
    (State.strokeOpen s c residual lp).chains = s.chains ∧ (State.strokeOpen s c residual lp).coef = s.coef ∧
    (State.strokeOpen s c residual lp).fold = s.fold ∧ (State.strokeOpen s c residual lp).rfx = s.rfx ∧
    (State.strokeOpen s c residual lp).drv = s.drv ∧ (State.strokeOpen s c residual lp).ck = s.ck ∧
    (State.strokeOpen s c residual lp).sv = s.sv ∧ (State.strokeOpen s c residual lp).fw = s.fw ∧
    (State.strokeOpen s c residual lp).hk = s.hk ∧ (State.strokeOpen s c residual lp).ldg = s.ldg ∧
    (State.strokeOpen s c residual lp).tk = s.tk ∧ (State.strokeOpen s c residual lp).free = s.free := by
  unfold State.strokeOpen
  simp -implicitDefEqProofs
@[simp] theorem State.learn_frame {s : State} {c : Ch} {x : Rat} {d : Rat} :
    (State.learn s c x d).pending = s.pending ∧ (State.learn s c x d).die = s.die ∧ (State.learn s c x d).hid = s.hid ∧
    (State.learn s c x d).hub = s.hub ∧ (State.learn s c x d).links = s.links ∧ (State.learn s c x d).dies = s.dies ∧
    (State.learn s c x d).chains = s.chains ∧ (State.learn s c x d).coef = s.coef ∧ (State.learn s c x d).fold = s.fold ∧
    (State.learn s c x d).rfx = s.rfx ∧ (State.learn s c x d).drv = s.drv ∧ (State.learn s c x d).ck = s.ck ∧
    (State.learn s c x d).sv = s.sv ∧ (State.learn s c x d).fw = s.fw ∧ (State.learn s c x d).hk = s.hk ∧
    (State.learn s c x d).ldg = s.ldg ∧ (State.learn s c x d).free = s.free := by
  unfold State.learn
  simp -implicitDefEqProofs
@[simp] theorem State.trend_frame {s : State} {c : Ch} {x : Rat} :
    (State.trend s c x).pending = s.pending ∧ (State.trend s c x).die = s.die ∧ (State.trend s c x).hid = s.hid ∧
    (State.trend s c x).hub = s.hub ∧ (State.trend s c x).host = s.host ∧ (State.trend s c x).links = s.links ∧
    (State.trend s c x).dies = s.dies ∧ (State.trend s c x).chains = s.chains ∧ (State.trend s c x).coef = s.coef ∧
    (State.trend s c x).fold = s.fold ∧ (State.trend s c x).rfx = s.rfx ∧ (State.trend s c x).drv = s.drv ∧
    (State.trend s c x).ck = s.ck ∧ (State.trend s c x).sv = s.sv ∧ (State.trend s c x).fw = s.fw ∧
    (State.trend s c x).hk = s.hk ∧ (State.trend s c x).ldg = s.ldg ∧ (State.trend s c x).tk = s.tk ∧
    (State.trend s c x).free = s.free := by
  unfold State.trend
  simp -implicitDefEqProofs
@[simp] theorem State.strokeDecide_frame {s : State} {c : Ch} {w : Stroke} {kind : Nat} {reason : Nat} :
    (State.strokeDecide s c w kind reason).pending = s.pending ∧ (State.strokeDecide s c w kind reason).die = s.die ∧
    (State.strokeDecide s c w kind reason).hid = s.hid ∧ (State.strokeDecide s c w kind reason).hub = s.hub ∧
    (State.strokeDecide s c w kind reason).links = s.links ∧ (State.strokeDecide s c w kind reason).dies = s.dies ∧
    (State.strokeDecide s c w kind reason).chains = s.chains ∧ (State.strokeDecide s c w kind reason).coef = s.coef ∧
    (State.strokeDecide s c w kind reason).fold = s.fold ∧ (State.strokeDecide s c w kind reason).drv = s.drv ∧
    (State.strokeDecide s c w kind reason).ck = s.ck ∧ (State.strokeDecide s c w kind reason).sv = s.sv ∧
    (State.strokeDecide s c w kind reason).fw = s.fw ∧ (State.strokeDecide s c w kind reason).hk = s.hk ∧
    (State.strokeDecide s c w kind reason).ldg = s.ldg ∧ (State.strokeDecide s c w kind reason).free = s.free := by
  unfold State.strokeDecide
  simp -implicitDefEqProofs
@[simp] theorem State.updWindow_frame {s : State} {c : Ch} {f : Stroke → Stroke} :
    (State.updWindow s c f).pending = s.pending ∧ (State.updWindow s c f).regs = s.regs ∧
    (State.updWindow s c f).die = s.die ∧ (State.updWindow s c f).hid = s.hid ∧ (State.updWindow s c f).hub = s.hub ∧
    (State.updWindow s c f).host = s.host ∧ (State.updWindow s c f).links = s.links ∧
    (State.updWindow s c f).dies = s.dies ∧ (State.updWindow s c f).chains = s.chains ∧
    (State.updWindow s c f).coef = s.coef ∧ (State.updWindow s c f).fold = s.fold ∧ (State.updWindow s c f).rfx = s.rfx ∧
    (State.updWindow s c f).drv = s.drv ∧ (State.updWindow s c f).ck = s.ck ∧ (State.updWindow s c f).sv = s.sv ∧
    (State.updWindow s c f).fw = s.fw ∧ (State.updWindow s c f).hk = s.hk ∧ (State.updWindow s c f).ldg = s.ldg ∧
    (State.updWindow s c f).tk = s.tk ∧ (State.updWindow s c f).free = s.free := by
  unfold State.updWindow
  (repeat' split) <;> simp -implicitDefEqProofs
@[simp] theorem State.strokeCross_frame {s : State} {c : Ch} {t : Nat} :
    (State.strokeCross s c t).pending = s.pending ∧ (State.strokeCross s c t).regs = s.regs ∧
    (State.strokeCross s c t).die = s.die ∧ (State.strokeCross s c t).hid = s.hid ∧ (State.strokeCross s c t).hub = s.hub ∧
    (State.strokeCross s c t).host = s.host ∧ (State.strokeCross s c t).links = s.links ∧
    (State.strokeCross s c t).dies = s.dies ∧ (State.strokeCross s c t).chains = s.chains ∧
    (State.strokeCross s c t).coef = s.coef ∧ (State.strokeCross s c t).fold = s.fold ∧
    (State.strokeCross s c t).rfx = s.rfx ∧ (State.strokeCross s c t).drv = s.drv ∧ (State.strokeCross s c t).ck = s.ck ∧
    (State.strokeCross s c t).sv = s.sv ∧ (State.strokeCross s c t).fw = s.fw ∧ (State.strokeCross s c t).hk = s.hk ∧
    (State.strokeCross s c t).ldg = s.ldg ∧ (State.strokeCross s c t).tk = s.tk ∧ (State.strokeCross s c t).free = s.free := by
  unfold State.strokeCross
  simp -implicitDefEqProofs
@[simp] theorem State.strokeNoCross_frame {s : State} {c : Ch} :
    (State.strokeNoCross s c).pending = s.pending ∧ (State.strokeNoCross s c).die = s.die ∧
    (State.strokeNoCross s c).hid = s.hid ∧ (State.strokeNoCross s c).hub = s.hub ∧
    (State.strokeNoCross s c).links = s.links ∧ (State.strokeNoCross s c).dies = s.dies ∧
    (State.strokeNoCross s c).chains = s.chains ∧ (State.strokeNoCross s c).coef = s.coef ∧
    (State.strokeNoCross s c).fold = s.fold ∧ (State.strokeNoCross s c).drv = s.drv ∧ (State.strokeNoCross s c).ck = s.ck ∧
    (State.strokeNoCross s c).sv = s.sv ∧ (State.strokeNoCross s c).fw = s.fw ∧ (State.strokeNoCross s c).hk = s.hk ∧
    (State.strokeNoCross s c).ldg = s.ldg ∧ (State.strokeNoCross s c).free = s.free := by
  unfold State.strokeNoCross
  (repeat' split) <;> simp -implicitDefEqProofs
@[simp] theorem State.strokeGateOff_frame {s : State} {c : Ch} :
    (State.strokeGateOff s c).pending = s.pending ∧ (State.strokeGateOff s c).die = s.die ∧
    (State.strokeGateOff s c).hid = s.hid ∧ (State.strokeGateOff s c).hub = s.hub ∧
    (State.strokeGateOff s c).links = s.links ∧ (State.strokeGateOff s c).dies = s.dies ∧
    (State.strokeGateOff s c).chains = s.chains ∧ (State.strokeGateOff s c).coef = s.coef ∧
    (State.strokeGateOff s c).fold = s.fold ∧ (State.strokeGateOff s c).drv = s.drv ∧ (State.strokeGateOff s c).ck = s.ck ∧
    (State.strokeGateOff s c).sv = s.sv ∧ (State.strokeGateOff s c).fw = s.fw ∧ (State.strokeGateOff s c).hk = s.hk ∧
    (State.strokeGateOff s c).ldg = s.ldg ∧ (State.strokeGateOff s c).free = s.free := by
  unfold State.strokeGateOff
  (repeat' split) <;> simp -implicitDefEqProofs
@[simp] theorem State.strokeAbort_frame {s : State} {c : Ch} :
    (State.strokeAbort s c).pending = s.pending ∧ (State.strokeAbort s c).die = s.die ∧
    (State.strokeAbort s c).hid = s.hid ∧ (State.strokeAbort s c).hub = s.hub ∧ (State.strokeAbort s c).links = s.links ∧
    (State.strokeAbort s c).dies = s.dies ∧ (State.strokeAbort s c).chains = s.chains ∧
    (State.strokeAbort s c).coef = s.coef ∧ (State.strokeAbort s c).fold = s.fold ∧ (State.strokeAbort s c).drv = s.drv ∧
    (State.strokeAbort s c).ck = s.ck ∧ (State.strokeAbort s c).sv = s.sv ∧ (State.strokeAbort s c).fw = s.fw ∧
    (State.strokeAbort s c).hk = s.hk ∧ (State.strokeAbort s c).ldg = s.ldg ∧ (State.strokeAbort s c).free = s.free := by
  unfold State.strokeAbort
  (repeat' split) <;> simp -implicitDefEqProofs
@[simp] theorem State.strokeLimited_frame {s : State} {c : Ch} :
    (State.strokeLimited s c).pending = s.pending ∧ (State.strokeLimited s c).regs = s.regs ∧
    (State.strokeLimited s c).die = s.die ∧ (State.strokeLimited s c).hid = s.hid ∧ (State.strokeLimited s c).hub = s.hub ∧
    (State.strokeLimited s c).host = s.host ∧ (State.strokeLimited s c).links = s.links ∧
    (State.strokeLimited s c).dies = s.dies ∧ (State.strokeLimited s c).chains = s.chains ∧
    (State.strokeLimited s c).coef = s.coef ∧ (State.strokeLimited s c).fold = s.fold ∧
    (State.strokeLimited s c).rfx = s.rfx ∧ (State.strokeLimited s c).drv = s.drv ∧ (State.strokeLimited s c).ck = s.ck ∧
    (State.strokeLimited s c).sv = s.sv ∧ (State.strokeLimited s c).fw = s.fw ∧ (State.strokeLimited s c).hk = s.hk ∧
    (State.strokeLimited s c).ldg = s.ldg ∧ (State.strokeLimited s c).tk = s.tk ∧ (State.strokeLimited s c).free = s.free := by
  unfold State.strokeLimited
  simp -implicitDefEqProofs
@[simp] theorem State.strokeSample_frame {s : State} {c : Ch} {gap : Bool} {settle : Bool} {i : Rat} {t : Nat} :
    (State.strokeSample s c gap settle i t).pending = s.pending ∧ (State.strokeSample s c gap settle i t).die = s.die ∧
    (State.strokeSample s c gap settle i t).hid = s.hid ∧ (State.strokeSample s c gap settle i t).hub = s.hub ∧
    (State.strokeSample s c gap settle i t).links = s.links ∧ (State.strokeSample s c gap settle i t).dies = s.dies ∧
    (State.strokeSample s c gap settle i t).chains = s.chains ∧ (State.strokeSample s c gap settle i t).coef = s.coef ∧
    (State.strokeSample s c gap settle i t).fold = s.fold ∧ (State.strokeSample s c gap settle i t).drv = s.drv ∧
    (State.strokeSample s c gap settle i t).ck = s.ck ∧ (State.strokeSample s c gap settle i t).sv = s.sv ∧
    (State.strokeSample s c gap settle i t).fw = s.fw ∧ (State.strokeSample s c gap settle i t).hk = s.hk ∧
    (State.strokeSample s c gap settle i t).ldg = s.ldg ∧ (State.strokeSample s c gap settle i t).free = s.free := by
  unfold State.strokeSample
  (repeat' split) <;> simp -implicitDefEqProofs
@[simp] theorem State.dieNote_frame {s : State} {g : Grp} {kind : Nat} {body : List Place} :
    (State.dieNote s g kind body).pending = s.pending ∧ (State.dieNote s g kind body).regs = s.regs ∧
    (State.dieNote s g kind body).die = s.die ∧ (State.dieNote s g kind body).hid = s.hid ∧
    (State.dieNote s g kind body).hub = s.hub ∧ (State.dieNote s g kind body).host = s.host ∧
    (State.dieNote s g kind body).links = s.links ∧ (State.dieNote s g kind body).chans = s.chans ∧
    (State.dieNote s g kind body).chains = s.chains ∧ (State.dieNote s g kind body).coef = s.coef ∧
    (State.dieNote s g kind body).fold = s.fold ∧ (State.dieNote s g kind body).rfx = s.rfx ∧
    (State.dieNote s g kind body).drv = s.drv ∧ (State.dieNote s g kind body).ck = s.ck ∧
    (State.dieNote s g kind body).sv = s.sv ∧ (State.dieNote s g kind body).fw = s.fw ∧
    (State.dieNote s g kind body).hk = s.hk ∧ (State.dieNote s g kind body).ldg = s.ldg ∧
    (State.dieNote s g kind body).tk = s.tk ∧ (State.dieNote s g kind body).free = s.free := by
  unfold State.dieNote
  simp -implicitDefEqProofs
@[simp] theorem State.gateOn1_frame {s : State} {c : Ch} :
    (State.gateOn1 s c).pending = s.pending ∧ (State.gateOn1 s c).regs = s.regs ∧ (State.gateOn1 s c).die = s.die ∧
    (State.gateOn1 s c).hid = s.hid ∧ (State.gateOn1 s c).hub = s.hub ∧ (State.gateOn1 s c).host = s.host ∧
    (State.gateOn1 s c).links = s.links ∧ (State.gateOn1 s c).chains = s.chains ∧ (State.gateOn1 s c).coef = s.coef ∧
    (State.gateOn1 s c).fold = s.fold ∧ (State.gateOn1 s c).rfx = s.rfx ∧ (State.gateOn1 s c).drv = s.drv ∧
    (State.gateOn1 s c).ck = s.ck ∧ (State.gateOn1 s c).sv = s.sv ∧ (State.gateOn1 s c).fw = s.fw ∧
    (State.gateOn1 s c).hk = s.hk ∧ (State.gateOn1 s c).ldg = s.ldg ∧ (State.gateOn1 s c).tk = s.tk ∧
    (State.gateOn1 s c).free = s.free := by
  unfold State.gateOn1
  simp -implicitDefEqProofs
@[simp] theorem State.gateOn_frame {s : State} {c : Ch} {t : Nat} {meas : Bool} :
    (State.gateOn s c t meas).pending = s.pending ∧ (State.gateOn s c t meas).regs = s.regs ∧
    (State.gateOn s c t meas).die = s.die ∧ (State.gateOn s c t meas).hid = s.hid ∧ (State.gateOn s c t meas).hub = s.hub ∧
    (State.gateOn s c t meas).host = s.host ∧ (State.gateOn s c t meas).links = s.links ∧
    (State.gateOn s c t meas).chains = s.chains ∧ (State.gateOn s c t meas).coef = s.coef ∧
    (State.gateOn s c t meas).fold = s.fold ∧ (State.gateOn s c t meas).rfx = s.rfx ∧
    (State.gateOn s c t meas).drv = s.drv ∧ (State.gateOn s c t meas).ck = s.ck ∧ (State.gateOn s c t meas).sv = s.sv ∧
    (State.gateOn s c t meas).fw = s.fw ∧ (State.gateOn s c t meas).hk = s.hk ∧ (State.gateOn s c t meas).ldg = s.ldg ∧
    (State.gateOn s c t meas).tk = s.tk ∧ (State.gateOn s c t meas).free = s.free := by
  unfold State.gateOn
  simp -implicitDefEqProofs
@[simp] theorem State.residual_frame {s : State} {c : Ch} :
    (State.residual s c).2.pending = s.pending ∧ (State.residual s c).2.regs = s.regs ∧ (State.residual s c).2.die = s.die ∧
    (State.residual s c).2.hid = s.hid ∧ (State.residual s c).2.hub = s.hub ∧ (State.residual s c).2.host = s.host ∧
    (State.residual s c).2.links = s.links ∧ (State.residual s c).2.dies = s.dies ∧ (State.residual s c).2.chans = s.chans ∧
    (State.residual s c).2.chains = s.chains ∧ (State.residual s c).2.coef = s.coef ∧ (State.residual s c).2.fold = s.fold ∧
    (State.residual s c).2.rfx = s.rfx ∧ (State.residual s c).2.drv = s.drv ∧ (State.residual s c).2.ck = s.ck ∧
    (State.residual s c).2.sv = s.sv ∧ (State.residual s c).2.fw = s.fw ∧ (State.residual s c).2.hk = s.hk ∧
    (State.residual s c).2.ldg = s.ldg ∧ (State.residual s c).2.tk = s.tk := by
  unfold State.residual
  simp -implicitDefEqProofs
@[simp] theorem State.gateStart_frame {s : State} {c : Ch} {t : Nat} {meas : Bool} :
    (State.gateStart s c t meas).pending = s.pending ∧ (State.gateStart s c t meas).regs = s.regs ∧
    (State.gateStart s c t meas).die = s.die ∧ (State.gateStart s c t meas).hid = s.hid ∧
    (State.gateStart s c t meas).hub = s.hub ∧ (State.gateStart s c t meas).host = s.host ∧
    (State.gateStart s c t meas).links = s.links ∧ (State.gateStart s c t meas).chains = s.chains ∧
    (State.gateStart s c t meas).coef = s.coef ∧ (State.gateStart s c t meas).fold = s.fold ∧
    (State.gateStart s c t meas).rfx = s.rfx ∧ (State.gateStart s c t meas).drv = s.drv ∧
    (State.gateStart s c t meas).ck = s.ck ∧ (State.gateStart s c t meas).sv = s.sv ∧
    (State.gateStart s c t meas).fw = s.fw ∧ (State.gateStart s c t meas).hk = s.hk ∧
    (State.gateStart s c t meas).ldg = s.ldg ∧ (State.gateStart s c t meas).tk = s.tk := by
  unfold State.gateStart
  simp -implicitDefEqProofs
@[simp] theorem State.gateOff_frame {s : State} {c : Ch} {t : Nat} {meas : Bool} :
    (State.gateOff s c t meas).pending = s.pending ∧ (State.gateOff s c t meas).die = s.die ∧
    (State.gateOff s c t meas).hid = s.hid ∧ (State.gateOff s c t meas).hub = s.hub ∧
    (State.gateOff s c t meas).links = s.links ∧ (State.gateOff s c t meas).dies = s.dies ∧
    (State.gateOff s c t meas).chains = s.chains ∧ (State.gateOff s c t meas).coef = s.coef ∧
    (State.gateOff s c t meas).fold = s.fold ∧ (State.gateOff s c t meas).drv = s.drv ∧
    (State.gateOff s c t meas).ck = s.ck ∧ (State.gateOff s c t meas).sv = s.sv ∧ (State.gateOff s c t meas).fw = s.fw ∧
    (State.gateOff s c t meas).hk = s.hk ∧ (State.gateOff s c t meas).ldg = s.ldg ∧
    (State.gateOff s c t meas).free = s.free := by
  unfold State.gateOff
  simp -implicitDefEqProofs
@[simp] theorem State.turnOn_frame {s : State} {c : Ch} {t : Nat} :
    (State.turnOn s c t).pending = s.pending ∧ (State.turnOn s c t).regs = s.regs ∧ (State.turnOn s c t).die = s.die ∧
    (State.turnOn s c t).hid = s.hid ∧ (State.turnOn s c t).hub = s.hub ∧ (State.turnOn s c t).host = s.host ∧
    (State.turnOn s c t).links = s.links ∧ (State.turnOn s c t).chains = s.chains ∧ (State.turnOn s c t).coef = s.coef ∧
    (State.turnOn s c t).fold = s.fold ∧ (State.turnOn s c t).rfx = s.rfx ∧ (State.turnOn s c t).drv = s.drv ∧
    (State.turnOn s c t).ck = s.ck ∧ (State.turnOn s c t).sv = s.sv ∧ (State.turnOn s c t).fw = s.fw ∧
    (State.turnOn s c t).hk = s.hk ∧ (State.turnOn s c t).ldg = s.ldg ∧ (State.turnOn s c t).tk = s.tk := by
  unfold State.turnOn
  simp -implicitDefEqProofs
@[simp] theorem State.turnOff_frame {s : State} {c : Ch} {t : Nat} {act : Bool} :
    (State.turnOff s c t act).pending = s.pending ∧ (State.turnOff s c t act).die = s.die ∧
    (State.turnOff s c t act).hid = s.hid ∧ (State.turnOff s c t act).hub = s.hub ∧
    (State.turnOff s c t act).links = s.links ∧ (State.turnOff s c t act).dies = s.dies ∧
    (State.turnOff s c t act).chains = s.chains ∧ (State.turnOff s c t act).coef = s.coef ∧
    (State.turnOff s c t act).fold = s.fold ∧ (State.turnOff s c t act).drv = s.drv ∧ (State.turnOff s c t act).ck = s.ck ∧
    (State.turnOff s c t act).sv = s.sv ∧ (State.turnOff s c t act).fw = s.fw ∧ (State.turnOff s c t act).hk = s.hk ∧
    (State.turnOff s c t act).ldg = s.ldg ∧ (State.turnOff s c t act).free = s.free := by
  unfold State.turnOff
  simp -implicitDefEqProofs
@[simp] theorem State.startRun_frame {s : State} {c : Ch} {p : Nat} {own : Option Nat} {start : Nat} {t : Nat} {act : Bool} :
    (State.startRun s c p own start t act).pending = s.pending ∧ (State.startRun s c p own start t act).regs = s.regs ∧
    (State.startRun s c p own start t act).die = s.die ∧ (State.startRun s c p own start t act).hid = s.hid ∧
    (State.startRun s c p own start t act).hub = s.hub ∧ (State.startRun s c p own start t act).host = s.host ∧
    (State.startRun s c p own start t act).links = s.links ∧ (State.startRun s c p own start t act).chains = s.chains ∧
    (State.startRun s c p own start t act).coef = s.coef ∧ (State.startRun s c p own start t act).fold = s.fold ∧
    (State.startRun s c p own start t act).rfx = s.rfx ∧ (State.startRun s c p own start t act).drv = s.drv ∧
    (State.startRun s c p own start t act).ck = s.ck ∧ (State.startRun s c p own start t act).sv = s.sv ∧
    (State.startRun s c p own start t act).fw = s.fw ∧ (State.startRun s c p own start t act).hk = s.hk ∧
    (State.startRun s c p own start t act).ldg = s.ldg ∧ (State.startRun s c p own start t act).tk = s.tk := by
  unfold State.startRun
  simp -implicitDefEqProofs
@[simp] theorem State.regrid_frame {s : State} {c : Ch} {origin : Nat} :
    (State.regrid s c origin).pending = s.pending ∧ (State.regrid s c origin).regs = s.regs ∧
    (State.regrid s c origin).die = s.die ∧ (State.regrid s c origin).hid = s.hid ∧ (State.regrid s c origin).hub = s.hub ∧
    (State.regrid s c origin).host = s.host ∧ (State.regrid s c origin).links = s.links ∧
    (State.regrid s c origin).dies = s.dies ∧ (State.regrid s c origin).chains = s.chains ∧
    (State.regrid s c origin).coef = s.coef ∧ (State.regrid s c origin).fold = s.fold ∧
    (State.regrid s c origin).rfx = s.rfx ∧ (State.regrid s c origin).drv = s.drv ∧ (State.regrid s c origin).ck = s.ck ∧
    (State.regrid s c origin).sv = s.sv ∧ (State.regrid s c origin).fw = s.fw ∧ (State.regrid s c origin).hk = s.hk ∧
    (State.regrid s c origin).ldg = s.ldg ∧ (State.regrid s c origin).tk = s.tk ∧ (State.regrid s c origin).free = s.free := by
  unfold State.regrid
  simp -implicitDefEqProofs
@[simp] theorem State.bringOn_frame {s : State} {c : Ch} {t : Nat} {act : Bool} :
    (State.bringOn s c t act).pending = s.pending ∧ (State.bringOn s c t act).regs = s.regs ∧
    (State.bringOn s c t act).die = s.die ∧ (State.bringOn s c t act).hid = s.hid ∧ (State.bringOn s c t act).hub = s.hub ∧
    (State.bringOn s c t act).host = s.host ∧ (State.bringOn s c t act).links = s.links ∧
    (State.bringOn s c t act).chains = s.chains ∧ (State.bringOn s c t act).coef = s.coef ∧
    (State.bringOn s c t act).fold = s.fold ∧ (State.bringOn s c t act).rfx = s.rfx ∧
    (State.bringOn s c t act).drv = s.drv ∧ (State.bringOn s c t act).ck = s.ck ∧ (State.bringOn s c t act).sv = s.sv ∧
    (State.bringOn s c t act).fw = s.fw ∧ (State.bringOn s c t act).hk = s.hk ∧ (State.bringOn s c t act).ldg = s.ldg ∧
    (State.bringOn s c t act).tk = s.tk := by
  unfold State.bringOn
  simp -implicitDefEqProofs
@[simp] theorem State.settle_frame {s : State} {c : Ch} :
    (State.settle s c).pending = s.pending ∧ (State.settle s c).die = s.die ∧ (State.settle s c).hid = s.hid ∧
    (State.settle s c).hub = s.hub ∧ (State.settle s c).links = s.links ∧ (State.settle s c).chains = s.chains ∧
    (State.settle s c).coef = s.coef ∧ (State.settle s c).fold = s.fold ∧ (State.settle s c).drv = s.drv ∧
    (State.settle s c).ck = s.ck ∧ (State.settle s c).sv = s.sv ∧ (State.settle s c).fw = s.fw ∧
    (State.settle s c).hk = s.hk ∧ (State.settle s c).ldg = s.ldg := by
  unfold State.settle
  (repeat' split) <;> simp -implicitDefEqProofs
@[simp] theorem State.forceOff_frame {s : State} {c : Ch} :
    (State.forceOff s c).pending = s.pending ∧ (State.forceOff s c).die = s.die ∧ (State.forceOff s c).hid = s.hid ∧
    (State.forceOff s c).hub = s.hub ∧ (State.forceOff s c).links = s.links ∧ (State.forceOff s c).dies = s.dies ∧
    (State.forceOff s c).chains = s.chains ∧ (State.forceOff s c).coef = s.coef ∧ (State.forceOff s c).fold = s.fold ∧
    (State.forceOff s c).drv = s.drv ∧ (State.forceOff s c).ck = s.ck ∧ (State.forceOff s c).sv = s.sv ∧
    (State.forceOff s c).fw = s.fw ∧ (State.forceOff s c).hk = s.hk ∧ (State.forceOff s c).ldg = s.ldg ∧
    (State.forceOff s c).free = s.free := by
  unfold State.forceOff
  simp -implicitDefEqProofs
@[simp] theorem State.resume_frame {s : State} {c : Ch} :
    (State.resume s c).pending = s.pending ∧ (State.resume s c).die = s.die ∧ (State.resume s c).hid = s.hid ∧
    (State.resume s c).hub = s.hub ∧ (State.resume s c).links = s.links ∧ (State.resume s c).chains = s.chains ∧
    (State.resume s c).coef = s.coef ∧ (State.resume s c).fold = s.fold ∧ (State.resume s c).drv = s.drv ∧
    (State.resume s c).ck = s.ck ∧ (State.resume s c).sv = s.sv ∧ (State.resume s c).fw = s.fw ∧
    (State.resume s c).hk = s.hk ∧ (State.resume s c).ldg = s.ldg := by
  unfold State.resume
  simp -implicitDefEqProofs
@[simp] theorem State.commanded_frame {s : State} {c : Ch} {on : Bool} {run : Option (Nat × Option Nat)} :
    (State.commanded s c on run).pending = s.pending ∧ (State.commanded s c on run).regs = s.regs ∧
    (State.commanded s c on run).die = s.die ∧ (State.commanded s c on run).hid = s.hid ∧
    (State.commanded s c on run).hub = s.hub ∧ (State.commanded s c on run).host = s.host ∧
    (State.commanded s c on run).links = s.links ∧ (State.commanded s c on run).dies = s.dies ∧
    (State.commanded s c on run).chains = s.chains ∧ (State.commanded s c on run).coef = s.coef ∧
    (State.commanded s c on run).fold = s.fold ∧ (State.commanded s c on run).rfx = s.rfx ∧
    (State.commanded s c on run).drv = s.drv ∧ (State.commanded s c on run).ck = s.ck ∧
    (State.commanded s c on run).sv = s.sv ∧ (State.commanded s c on run).fw = s.fw ∧
    (State.commanded s c on run).hk = s.hk ∧ (State.commanded s c on run).ldg = s.ldg ∧
    (State.commanded s c on run).tk = s.tk ∧ (State.commanded s c on run).free = s.free := by
  unfold State.commanded
  simp -implicitDefEqProofs
@[simp] theorem State.cmdSwitch_frame {s : State} {c : Ch} {on : Bool} {t : Nat} {act : Bool} :
    (State.cmdSwitch s c on t act).pending = s.pending ∧ (State.cmdSwitch s c on t act).die = s.die ∧
    (State.cmdSwitch s c on t act).hid = s.hid ∧ (State.cmdSwitch s c on t act).hub = s.hub ∧
    (State.cmdSwitch s c on t act).links = s.links ∧ (State.cmdSwitch s c on t act).chains = s.chains ∧
    (State.cmdSwitch s c on t act).coef = s.coef ∧ (State.cmdSwitch s c on t act).fold = s.fold ∧
    (State.cmdSwitch s c on t act).drv = s.drv ∧ (State.cmdSwitch s c on t act).ck = s.ck ∧
    (State.cmdSwitch s c on t act).sv = s.sv ∧ (State.cmdSwitch s c on t act).fw = s.fw ∧
    (State.cmdSwitch s c on t act).hk = s.hk ∧ (State.cmdSwitch s c on t act).ldg = s.ldg := by
  unfold State.cmdSwitch
  simp -implicitDefEqProofs
@[simp] theorem State.cmdRunStart_frame {s : State} {c : Ch} {p : Nat} {own : Option Nat} {start : Nat} {t : Nat} {act : Bool} :
    (State.cmdRunStart s c p own start t act).pending = s.pending ∧
    (State.cmdRunStart s c p own start t act).regs = s.regs ∧ (State.cmdRunStart s c p own start t act).die = s.die ∧
    (State.cmdRunStart s c p own start t act).hid = s.hid ∧ (State.cmdRunStart s c p own start t act).hub = s.hub ∧
    (State.cmdRunStart s c p own start t act).host = s.host ∧ (State.cmdRunStart s c p own start t act).links = s.links ∧
    (State.cmdRunStart s c p own start t act).chains = s.chains ∧ (State.cmdRunStart s c p own start t act).coef = s.coef ∧
    (State.cmdRunStart s c p own start t act).fold = s.fold ∧ (State.cmdRunStart s c p own start t act).rfx = s.rfx ∧
    (State.cmdRunStart s c p own start t act).drv = s.drv ∧ (State.cmdRunStart s c p own start t act).ck = s.ck ∧
    (State.cmdRunStart s c p own start t act).sv = s.sv ∧ (State.cmdRunStart s c p own start t act).fw = s.fw ∧
    (State.cmdRunStart s c p own start t act).hk = s.hk ∧ (State.cmdRunStart s c p own start t act).ldg = s.ldg ∧
    (State.cmdRunStart s c p own start t act).tk = s.tk := by
  unfold State.cmdRunStart
  simp -implicitDefEqProofs
@[simp] theorem State.addPulse_frame {s : State} {c : Ch} {term : Nat} {gate : Nat} :
    (State.addPulse s c term gate).pending = s.pending ∧ (State.addPulse s c term gate).regs = s.regs ∧
    (State.addPulse s c term gate).die = s.die ∧ (State.addPulse s c term gate).hid = s.hid ∧
    (State.addPulse s c term gate).hub = s.hub ∧ (State.addPulse s c term gate).host = s.host ∧
    (State.addPulse s c term gate).links = s.links ∧ (State.addPulse s c term gate).dies = s.dies ∧
    (State.addPulse s c term gate).chains = s.chains ∧ (State.addPulse s c term gate).coef = s.coef ∧
    (State.addPulse s c term gate).fold = s.fold ∧ (State.addPulse s c term gate).rfx = s.rfx ∧
    (State.addPulse s c term gate).drv = s.drv ∧ (State.addPulse s c term gate).ck = s.ck ∧
    (State.addPulse s c term gate).sv = s.sv ∧ (State.addPulse s c term gate).fw = s.fw ∧
    (State.addPulse s c term gate).hk = s.hk ∧ (State.addPulse s c term gate).ldg = s.ldg ∧
    (State.addPulse s c term gate).tk = s.tk ∧ (State.addPulse s c term gate).free = s.free := by
  unfold State.addPulse
  simp -implicitDefEqProofs
@[simp] theorem State.loopNote_frame {s : State} {c : Ch} {old : Nat} :
    (State.loopNote s c old).pending = s.pending ∧ (State.loopNote s c old).regs = s.regs ∧
    (State.loopNote s c old).die = s.die ∧ (State.loopNote s c old).hid = s.hid ∧ (State.loopNote s c old).hub = s.hub ∧
    (State.loopNote s c old).host = s.host ∧ (State.loopNote s c old).links = s.links ∧
    (State.loopNote s c old).chains = s.chains ∧ (State.loopNote s c old).coef = s.coef ∧
    (State.loopNote s c old).fold = s.fold ∧ (State.loopNote s c old).rfx = s.rfx ∧ (State.loopNote s c old).drv = s.drv ∧
    (State.loopNote s c old).ck = s.ck ∧ (State.loopNote s c old).sv = s.sv ∧ (State.loopNote s c old).fw = s.fw ∧
    (State.loopNote s c old).hk = s.hk ∧ (State.loopNote s c old).ldg = s.ldg ∧ (State.loopNote s c old).tk = s.tk ∧
    (State.loopNote s c old).free = s.free := by
  unfold State.loopNote
  try dsimp only
  (repeat' split) <;> simp -implicitDefEqProofs
@[simp] theorem State.anRecord_frame {s : State} {c : Ch} :
    (State.anRecord s c).pending = s.pending ∧ (State.anRecord s c).regs = s.regs ∧ (State.anRecord s c).die = s.die ∧
    (State.anRecord s c).hid = s.hid ∧ (State.anRecord s c).hub = s.hub ∧ (State.anRecord s c).host = s.host ∧
    (State.anRecord s c).links = s.links ∧ (State.anRecord s c).chans = s.chans ∧ (State.anRecord s c).chains = s.chains ∧
    (State.anRecord s c).coef = s.coef ∧ (State.anRecord s c).fold = s.fold ∧ (State.anRecord s c).rfx = s.rfx ∧
    (State.anRecord s c).drv = s.drv ∧ (State.anRecord s c).ck = s.ck ∧ (State.anRecord s c).sv = s.sv ∧
    (State.anRecord s c).fw = s.fw ∧ (State.anRecord s c).hk = s.hk ∧ (State.anRecord s c).ldg = s.ldg ∧
    (State.anRecord s c).tk = s.tk := by
  unfold State.anRecord
  simp -implicitDefEqProofs
@[simp] theorem State.anFlags_frame {s : State} {c : Ch} {l : List (Nat × Bool)} :
    (State.anFlags s c l).pending = s.pending ∧ (State.anFlags s c l).regs = s.regs ∧ (State.anFlags s c l).hid = s.hid ∧
    (State.anFlags s c l).hub = s.hub ∧ (State.anFlags s c l).host = s.host ∧ (State.anFlags s c l).links = s.links ∧
    (State.anFlags s c l).chains = s.chains ∧ (State.anFlags s c l).coef = s.coef ∧ (State.anFlags s c l).fold = s.fold ∧
    (State.anFlags s c l).rfx = s.rfx ∧ (State.anFlags s c l).drv = s.drv ∧ (State.anFlags s c l).ck = s.ck ∧
    (State.anFlags s c l).sv = s.sv ∧ (State.anFlags s c l).fw = s.fw ∧ (State.anFlags s c l).hk = s.hk ∧
    (State.anFlags s c l).ldg = s.ldg ∧ (State.anFlags s c l).tk = s.tk := by
  unfold State.anFlags
  try dsimp only
  (repeat' split) <;> simp_all -implicitDefEqProofs
@[simp] theorem State.anClear_frame {s : State} {c : Ch} {all : Bool} :
    (State.anClear s c all).pending = s.pending ∧ (State.anClear s c all).regs = s.regs ∧
    (State.anClear s c all).hid = s.hid ∧ (State.anClear s c all).hub = s.hub ∧ (State.anClear s c all).host = s.host ∧
    (State.anClear s c all).links = s.links ∧ (State.anClear s c all).chains = s.chains ∧
    (State.anClear s c all).coef = s.coef ∧ (State.anClear s c all).fold = s.fold ∧ (State.anClear s c all).rfx = s.rfx ∧
    (State.anClear s c all).drv = s.drv ∧ (State.anClear s c all).ck = s.ck ∧ (State.anClear s c all).sv = s.sv ∧
    (State.anClear s c all).fw = s.fw ∧ (State.anClear s c all).hk = s.hk ∧ (State.anClear s c all).ldg = s.ldg ∧
    (State.anClear s c all).tk = s.tk := by
  unfold State.anClear
  simp -implicitDefEqProofs
@[simp] theorem State.showClamped_frame {s : State} {c : Ch} :
    (State.showClamped s c).pending = s.pending ∧ (State.showClamped s c).regs = s.regs ∧
    (State.showClamped s c).hid = s.hid ∧ (State.showClamped s c).hub = s.hub ∧ (State.showClamped s c).host = s.host ∧
    (State.showClamped s c).links = s.links ∧ (State.showClamped s c).dies = s.dies ∧
    (State.showClamped s c).chans = s.chans ∧ (State.showClamped s c).chains = s.chains ∧
    (State.showClamped s c).coef = s.coef ∧ (State.showClamped s c).fold = s.fold ∧ (State.showClamped s c).rfx = s.rfx ∧
    (State.showClamped s c).drv = s.drv ∧ (State.showClamped s c).ck = s.ck ∧ (State.showClamped s c).sv = s.sv ∧
    (State.showClamped s c).fw = s.fw ∧ (State.showClamped s c).hk = s.hk ∧ (State.showClamped s c).ldg = s.ldg ∧
    (State.showClamped s c).tk = s.tk ∧ (State.showClamped s c).free = s.free := by
  unfold State.showClamped
  simp -implicitDefEqProofs
@[simp] theorem State.setEffective_frame {s : State} {c : Ch} {v : Nat} :
    (State.setEffective s c v).pending = s.pending ∧ (State.setEffective s c v).regs = s.regs ∧
    (State.setEffective s c v).die = s.die ∧ (State.setEffective s c v).hid = s.hid ∧
    (State.setEffective s c v).hub = s.hub ∧ (State.setEffective s c v).host = s.host ∧
    (State.setEffective s c v).links = s.links ∧ (State.setEffective s c v).dies = s.dies ∧
    (State.setEffective s c v).chains = s.chains ∧ (State.setEffective s c v).coef = s.coef ∧
    (State.setEffective s c v).fold = s.fold ∧ (State.setEffective s c v).rfx = s.rfx ∧
    (State.setEffective s c v).drv = s.drv ∧ (State.setEffective s c v).ck = s.ck ∧ (State.setEffective s c v).sv = s.sv ∧
    (State.setEffective s c v).fw = s.fw ∧ (State.setEffective s c v).hk = s.hk ∧ (State.setEffective s c v).ldg = s.ldg ∧
    (State.setEffective s c v).tk = s.tk ∧ (State.setEffective s c v).free = s.free := by
  unfold State.setEffective
  simp -implicitDefEqProofs
@[simp] theorem State.dacStep_frame {s : State} {c : Ch} {v : Nat} :
    (State.dacStep s c v).pending = s.pending ∧ (State.dacStep s c v).regs = s.regs ∧ (State.dacStep s c v).hid = s.hid ∧
    (State.dacStep s c v).hub = s.hub ∧ (State.dacStep s c v).host = s.host ∧ (State.dacStep s c v).links = s.links ∧
    (State.dacStep s c v).dies = s.dies ∧ (State.dacStep s c v).chains = s.chains ∧ (State.dacStep s c v).coef = s.coef ∧
    (State.dacStep s c v).fold = s.fold ∧ (State.dacStep s c v).rfx = s.rfx ∧ (State.dacStep s c v).drv = s.drv ∧
    (State.dacStep s c v).ck = s.ck ∧ (State.dacStep s c v).sv = s.sv ∧ (State.dacStep s c v).fw = s.fw ∧
    (State.dacStep s c v).hk = s.hk ∧ (State.dacStep s c v).ldg = s.ldg ∧ (State.dacStep s c v).tk = s.tk ∧
    (State.dacStep s c v).free = s.free := by
  unfold State.dacStep
  simp -implicitDefEqProofs
@[simp] theorem State.dacTarget_frame {s : State} {c : Ch} {v : Nat} :
    (State.dacTarget s c v).pending = s.pending ∧ (State.dacTarget s c v).regs = s.regs ∧
    (State.dacTarget s c v).hid = s.hid ∧ (State.dacTarget s c v).hub = s.hub ∧ (State.dacTarget s c v).host = s.host ∧
    (State.dacTarget s c v).links = s.links ∧ (State.dacTarget s c v).dies = s.dies ∧
    (State.dacTarget s c v).chains = s.chains ∧ (State.dacTarget s c v).coef = s.coef ∧
    (State.dacTarget s c v).fold = s.fold ∧ (State.dacTarget s c v).rfx = s.rfx ∧ (State.dacTarget s c v).drv = s.drv ∧
    (State.dacTarget s c v).ck = s.ck ∧ (State.dacTarget s c v).sv = s.sv ∧ (State.dacTarget s c v).fw = s.fw ∧
    (State.dacTarget s c v).hk = s.hk ∧ (State.dacTarget s c v).ldg = s.ldg ∧ (State.dacTarget s c v).tk = s.tk ∧
    (State.dacTarget s c v).free = s.free := by
  unfold State.dacTarget
  simp -implicitDefEqProofs
@[simp] theorem State.dacCommand_frame {s : State} {c : Ch} {code : Nat} :
    (State.dacCommand s c code).pending = s.pending ∧ (State.dacCommand s c code).regs = s.regs ∧
    (State.dacCommand s c code).hid = s.hid ∧ (State.dacCommand s c code).hub = s.hub ∧
    (State.dacCommand s c code).host = s.host ∧ (State.dacCommand s c code).links = s.links ∧
    (State.dacCommand s c code).dies = s.dies ∧ (State.dacCommand s c code).chains = s.chains ∧
    (State.dacCommand s c code).coef = s.coef ∧ (State.dacCommand s c code).fold = s.fold ∧
    (State.dacCommand s c code).rfx = s.rfx ∧ (State.dacCommand s c code).drv = s.drv ∧
    (State.dacCommand s c code).ck = s.ck ∧ (State.dacCommand s c code).sv = s.sv ∧ (State.dacCommand s c code).fw = s.fw ∧
    (State.dacCommand s c code).hk = s.hk ∧ (State.dacCommand s c code).ldg = s.ldg ∧
    (State.dacCommand s c code).tk = s.tk ∧ (State.dacCommand s c code).free = s.free := by
  unfold State.dacCommand
  simp -implicitDefEqProofs
@[simp] theorem State.anSettle_frame {s : State} {c : Ch} :
    (State.anSettle s c).pending = s.pending ∧ (State.anSettle s c).regs = s.regs ∧ (State.anSettle s c).hid = s.hid ∧
    (State.anSettle s c).hub = s.hub ∧ (State.anSettle s c).host = s.host ∧ (State.anSettle s c).links = s.links ∧
    (State.anSettle s c).dies = s.dies ∧ (State.anSettle s c).chains = s.chains ∧ (State.anSettle s c).coef = s.coef ∧
    (State.anSettle s c).fold = s.fold ∧ (State.anSettle s c).rfx = s.rfx ∧ (State.anSettle s c).drv = s.drv ∧
    (State.anSettle s c).ck = s.ck ∧ (State.anSettle s c).sv = s.sv ∧ (State.anSettle s c).fw = s.fw ∧
    (State.anSettle s c).hk = s.hk ∧ (State.anSettle s c).ldg = s.ldg ∧ (State.anSettle s c).tk = s.tk ∧
    (State.anSettle s c).free = s.free := by
  unfold State.anSettle
  simp -implicitDefEqProofs
@[simp] theorem State.dacTold_frame {s : State} {c : Ch} {code : Nat} :
    (State.dacTold s c code).pending = s.pending ∧ (State.dacTold s c code).regs = s.regs ∧
    (State.dacTold s c code).die = s.die ∧ (State.dacTold s c code).hid = s.hid ∧ (State.dacTold s c code).hub = s.hub ∧
    (State.dacTold s c code).host = s.host ∧ (State.dacTold s c code).links = s.links ∧
    (State.dacTold s c code).chans = s.chans ∧ (State.dacTold s c code).chains = s.chains ∧
    (State.dacTold s c code).coef = s.coef ∧ (State.dacTold s c code).fold = s.fold ∧ (State.dacTold s c code).rfx = s.rfx ∧
    (State.dacTold s c code).drv = s.drv ∧ (State.dacTold s c code).ck = s.ck ∧ (State.dacTold s c code).sv = s.sv ∧
    (State.dacTold s c code).fw = s.fw ∧ (State.dacTold s c code).hk = s.hk ∧ (State.dacTold s c code).ldg = s.ldg ∧
    (State.dacTold s c code).tk = s.tk ∧ (State.dacTold s c code).free = s.free := by
  unfold State.dacTold
  simp -implicitDefEqProofs
@[simp] theorem State.dacWritten_frame {s : State} {c : Ch} {code : Nat} :
    (State.dacWritten s c code).pending = s.pending ∧ (State.dacWritten s c code).regs = s.regs ∧
    (State.dacWritten s c code).hid = s.hid ∧ (State.dacWritten s c code).hub = s.hub ∧
    (State.dacWritten s c code).host = s.host ∧ (State.dacWritten s c code).links = s.links ∧
    (State.dacWritten s c code).chains = s.chains ∧ (State.dacWritten s c code).coef = s.coef ∧
    (State.dacWritten s c code).fold = s.fold ∧ (State.dacWritten s c code).rfx = s.rfx ∧
    (State.dacWritten s c code).drv = s.drv ∧ (State.dacWritten s c code).ck = s.ck ∧
    (State.dacWritten s c code).sv = s.sv ∧ (State.dacWritten s c code).fw = s.fw ∧ (State.dacWritten s c code).hk = s.hk ∧
    (State.dacWritten s c code).ldg = s.ldg ∧ (State.dacWritten s c code).tk = s.tk ∧
    (State.dacWritten s c code).free = s.free := by
  unfold State.dacWritten
  simp -implicitDefEqProofs
@[simp] theorem State.dacAction_frame {s : State} {c : Ch} {code : Nat} :
    (State.dacAction s c code).pending = s.pending ∧ (State.dacAction s c code).regs = s.regs ∧
    (State.dacAction s c code).hid = s.hid ∧ (State.dacAction s c code).hub = s.hub ∧
    (State.dacAction s c code).host = s.host ∧ (State.dacAction s c code).links = s.links ∧
    (State.dacAction s c code).chains = s.chains ∧ (State.dacAction s c code).coef = s.coef ∧
    (State.dacAction s c code).fold = s.fold ∧ (State.dacAction s c code).rfx = s.rfx ∧
    (State.dacAction s c code).drv = s.drv ∧ (State.dacAction s c code).ck = s.ck ∧ (State.dacAction s c code).sv = s.sv ∧
    (State.dacAction s c code).fw = s.fw ∧ (State.dacAction s c code).hk = s.hk ∧ (State.dacAction s c code).ldg = s.ldg ∧
    (State.dacAction s c code).tk = s.tk ∧ (State.dacAction s c code).free = s.free := by
  unfold State.dacAction
  simp -implicitDefEqProofs
@[simp] theorem State.clampWritten_frame {s : State} {c : Ch} :
    (State.clampWritten s c).pending = s.pending ∧ (State.clampWritten s c).regs = s.regs ∧
    (State.clampWritten s c).hid = s.hid ∧ (State.clampWritten s c).hub = s.hub ∧ (State.clampWritten s c).host = s.host ∧
    (State.clampWritten s c).links = s.links ∧ (State.clampWritten s c).dies = s.dies ∧
    (State.clampWritten s c).chains = s.chains ∧ (State.clampWritten s c).coef = s.coef ∧
    (State.clampWritten s c).fold = s.fold ∧ (State.clampWritten s c).rfx = s.rfx ∧ (State.clampWritten s c).drv = s.drv ∧
    (State.clampWritten s c).ck = s.ck ∧ (State.clampWritten s c).sv = s.sv ∧ (State.clampWritten s c).fw = s.fw ∧
    (State.clampWritten s c).hk = s.hk ∧ (State.clampWritten s c).ldg = s.ldg ∧ (State.clampWritten s c).tk = s.tk ∧
    (State.clampWritten s c).free = s.free := by
  unfold State.clampWritten
  simp -implicitDefEqProofs
@[simp] theorem State.rampStep_frame {s : State} {c : Ch} :
    (State.rampStep s c).pending = s.pending ∧ (State.rampStep s c).regs = s.regs ∧ (State.rampStep s c).hid = s.hid ∧
    (State.rampStep s c).hub = s.hub ∧ (State.rampStep s c).host = s.host ∧ (State.rampStep s c).links = s.links ∧
    (State.rampStep s c).dies = s.dies ∧ (State.rampStep s c).chans = s.chans ∧ (State.rampStep s c).chains = s.chains ∧
    (State.rampStep s c).coef = s.coef ∧ (State.rampStep s c).fold = s.fold ∧ (State.rampStep s c).rfx = s.rfx ∧
    (State.rampStep s c).drv = s.drv ∧ (State.rampStep s c).ck = s.ck ∧ (State.rampStep s c).sv = s.sv ∧
    (State.rampStep s c).fw = s.fw ∧ (State.rampStep s c).hk = s.hk ∧ (State.rampStep s c).ldg = s.ldg ∧
    (State.rampStep s c).tk = s.tk ∧ (State.rampStep s c).free = s.free := by
  unfold State.rampStep
  simp -implicitDefEqProofs
@[simp] theorem State.openFollow_frame {s : State} {c : Ch} :
    (State.openFollow s c).pending = s.pending ∧ (State.openFollow s c).regs = s.regs ∧ (State.openFollow s c).hid = s.hid ∧
    (State.openFollow s c).hub = s.hub ∧ (State.openFollow s c).host = s.host ∧ (State.openFollow s c).links = s.links ∧
    (State.openFollow s c).chains = s.chains ∧ (State.openFollow s c).coef = s.coef ∧ (State.openFollow s c).fold = s.fold ∧
    (State.openFollow s c).rfx = s.rfx ∧ (State.openFollow s c).drv = s.drv ∧ (State.openFollow s c).ck = s.ck ∧
    (State.openFollow s c).sv = s.sv ∧ (State.openFollow s c).fw = s.fw ∧ (State.openFollow s c).hk = s.hk ∧
    (State.openFollow s c).ldg = s.ldg ∧ (State.openFollow s c).tk = s.tk := by
  unfold State.openFollow
  try dsimp only
  (repeat' split) <;> simp -implicitDefEqProofs
@[simp] theorem State.retried_frame {s : State} {c : Ch} {k : Nat} :
    (State.retried s c k).pending = s.pending ∧ (State.retried s c k).regs = s.regs ∧ (State.retried s c k).hid = s.hid ∧
    (State.retried s c k).hub = s.hub ∧ (State.retried s c k).host = s.host ∧ (State.retried s c k).links = s.links ∧
    (State.retried s c k).chains = s.chains ∧ (State.retried s c k).coef = s.coef ∧ (State.retried s c k).fold = s.fold ∧
    (State.retried s c k).rfx = s.rfx ∧ (State.retried s c k).drv = s.drv ∧ (State.retried s c k).ck = s.ck ∧
    (State.retried s c k).sv = s.sv ∧ (State.retried s c k).fw = s.fw ∧ (State.retried s c k).hk = s.hk ∧
    (State.retried s c k).ldg = s.ldg ∧ (State.retried s c k).tk = s.tk := by
  unfold State.retried
  simp -implicitDefEqProofs
@[simp] theorem State.loopWritten_frame {s : State} {c : Ch} {was : Bool} :
    (State.loopWritten s c was).pending = s.pending ∧ (State.loopWritten s c was).regs = s.regs ∧
    (State.loopWritten s c was).hid = s.hid ∧ (State.loopWritten s c was).hub = s.hub ∧
    (State.loopWritten s c was).host = s.host ∧ (State.loopWritten s c was).links = s.links ∧
    (State.loopWritten s c was).chains = s.chains ∧ (State.loopWritten s c was).coef = s.coef ∧
    (State.loopWritten s c was).fold = s.fold ∧ (State.loopWritten s c was).rfx = s.rfx ∧
    (State.loopWritten s c was).drv = s.drv ∧ (State.loopWritten s c was).ck = s.ck ∧
    (State.loopWritten s c was).sv = s.sv ∧ (State.loopWritten s c was).fw = s.fw ∧ (State.loopWritten s c was).hk = s.hk ∧
    (State.loopWritten s c was).ldg = s.ldg ∧ (State.loopWritten s c was).tk = s.tk := by
  unfold State.loopWritten
  simp -implicitDefEqProofs
@[simp] theorem State.protMarks_frame {s : State} {c : Ch} {cause : Nat} {urg : Nat} {code : Nat} {cls : Nat} {last : Nat} :
    (State.protMarks s c cause urg code cls last).pending = s.pending ∧
    (State.protMarks s c cause urg code cls last).regs = s.regs ∧
    (State.protMarks s c cause urg code cls last).die = s.die ∧ (State.protMarks s c cause urg code cls last).hid = s.hid ∧
    (State.protMarks s c cause urg code cls last).hub = s.hub ∧
    (State.protMarks s c cause urg code cls last).host = s.host ∧
    (State.protMarks s c cause urg code cls last).links = s.links ∧
    (State.protMarks s c cause urg code cls last).chans = s.chans ∧
    (State.protMarks s c cause urg code cls last).chains = s.chains ∧
    (State.protMarks s c cause urg code cls last).coef = s.coef ∧
    (State.protMarks s c cause urg code cls last).fold = s.fold ∧
    (State.protMarks s c cause urg code cls last).rfx = s.rfx ∧ (State.protMarks s c cause urg code cls last).drv = s.drv ∧
    (State.protMarks s c cause urg code cls last).ck = s.ck ∧ (State.protMarks s c cause urg code cls last).sv = s.sv ∧
    (State.protMarks s c cause urg code cls last).fw = s.fw ∧ (State.protMarks s c cause urg code cls last).hk = s.hk ∧
    (State.protMarks s c cause urg code cls last).ldg = s.ldg ∧ (State.protMarks s c cause urg code cls last).tk = s.tk := by
  unfold State.protMarks
  simp -implicitDefEqProofs
@[simp] theorem State.enterFault_frame {s : State} {c : Ch} {cause : Nat} :
    (State.enterFault s c cause).pending = s.pending ∧ (State.enterFault s c cause).hid = s.hid ∧
    (State.enterFault s c cause).hub = s.hub ∧ (State.enterFault s c cause).links = s.links ∧
    (State.enterFault s c cause).chains = s.chains ∧ (State.enterFault s c cause).coef = s.coef ∧
    (State.enterFault s c cause).fold = s.fold ∧ (State.enterFault s c cause).drv = s.drv ∧
    (State.enterFault s c cause).ck = s.ck ∧ (State.enterFault s c cause).sv = s.sv ∧
    (State.enterFault s c cause).fw = s.fw ∧ (State.enterFault s c cause).hk = s.hk ∧
    (State.enterFault s c cause).ldg = s.ldg := by
  unfold State.enterFault
  simp -implicitDefEqProofs
@[simp] theorem State.enterClamp_frame {s : State} {c : Ch} :
    (State.enterClamp s c).pending = s.pending ∧ (State.enterClamp s c).die = s.die ∧ (State.enterClamp s c).hid = s.hid ∧
    (State.enterClamp s c).hub = s.hub ∧ (State.enterClamp s c).links = s.links ∧ (State.enterClamp s c).chains = s.chains ∧
    (State.enterClamp s c).coef = s.coef ∧ (State.enterClamp s c).fold = s.fold ∧ (State.enterClamp s c).drv = s.drv ∧
    (State.enterClamp s c).ck = s.ck ∧ (State.enterClamp s c).sv = s.sv ∧ (State.enterClamp s c).fw = s.fw ∧
    (State.enterClamp s c).hk = s.hk ∧ (State.enterClamp s c).ldg = s.ldg := by
  unfold State.enterClamp
  simp -implicitDefEqProofs
@[simp] theorem State.enterFuse_frame {s : State} {c : Ch} {dwell : Bool} :
    (State.enterFuse s c dwell).pending = s.pending ∧ (State.enterFuse s c dwell).die = s.die ∧
    (State.enterFuse s c dwell).hid = s.hid ∧ (State.enterFuse s c dwell).hub = s.hub ∧
    (State.enterFuse s c dwell).links = s.links ∧ (State.enterFuse s c dwell).chains = s.chains ∧
    (State.enterFuse s c dwell).coef = s.coef ∧ (State.enterFuse s c dwell).fold = s.fold ∧
    (State.enterFuse s c dwell).drv = s.drv ∧ (State.enterFuse s c dwell).ck = s.ck ∧
    (State.enterFuse s c dwell).sv = s.sv ∧ (State.enterFuse s c dwell).fw = s.fw ∧ (State.enterFuse s c dwell).hk = s.hk ∧
    (State.enterFuse s c dwell).ldg = s.ldg := by
  unfold State.enterFuse
  simp -implicitDefEqProofs
@[simp] theorem State.enterThermal_frame {s : State} {c : Ch} :
    (State.enterThermal s c).pending = s.pending ∧ (State.enterThermal s c).hid = s.hid ∧
    (State.enterThermal s c).hub = s.hub ∧ (State.enterThermal s c).links = s.links ∧
    (State.enterThermal s c).chains = s.chains ∧ (State.enterThermal s c).coef = s.coef ∧
    (State.enterThermal s c).fold = s.fold ∧ (State.enterThermal s c).drv = s.drv ∧ (State.enterThermal s c).ck = s.ck ∧
    (State.enterThermal s c).sv = s.sv ∧ (State.enterThermal s c).fw = s.fw ∧ (State.enterThermal s c).hk = s.hk ∧
    (State.enterThermal s c).ldg = s.ldg := by
  unfold State.enterThermal
  simp -implicitDefEqProofs
@[simp] theorem State.diagSet_frame {s : State} {c : Ch} {f : Fld} :
    (State.diagSet s c f).pending = s.pending ∧ (State.diagSet s c f).regs = s.regs ∧ (State.diagSet s c f).hid = s.hid ∧
    (State.diagSet s c f).hub = s.hub ∧ (State.diagSet s c f).host = s.host ∧ (State.diagSet s c f).links = s.links ∧
    (State.diagSet s c f).chans = s.chans ∧ (State.diagSet s c f).chains = s.chains ∧ (State.diagSet s c f).coef = s.coef ∧
    (State.diagSet s c f).fold = s.fold ∧ (State.diagSet s c f).rfx = s.rfx ∧ (State.diagSet s c f).drv = s.drv ∧
    (State.diagSet s c f).ck = s.ck ∧ (State.diagSet s c f).sv = s.sv ∧ (State.diagSet s c f).fw = s.fw ∧
    (State.diagSet s c f).hk = s.hk ∧ (State.diagSet s c f).ldg = s.ldg ∧ (State.diagSet s c f).tk = s.tk := by
  unfold State.diagSet
  simp -implicitDefEqProofs
@[simp] theorem State.diagClear_frame {s : State} {f : Fld} :
    (State.diagClear s f).pending = s.pending ∧ (State.diagClear s f).regs = s.regs ∧ (State.diagClear s f).hid = s.hid ∧
    (State.diagClear s f).hub = s.hub ∧ (State.diagClear s f).host = s.host ∧ (State.diagClear s f).links = s.links ∧
    (State.diagClear s f).dies = s.dies ∧ (State.diagClear s f).chans = s.chans ∧ (State.diagClear s f).chains = s.chains ∧
    (State.diagClear s f).coef = s.coef ∧ (State.diagClear s f).fold = s.fold ∧ (State.diagClear s f).rfx = s.rfx ∧
    (State.diagClear s f).drv = s.drv ∧ (State.diagClear s f).ck = s.ck ∧ (State.diagClear s f).sv = s.sv ∧
    (State.diagClear s f).fw = s.fw ∧ (State.diagClear s f).hk = s.hk ∧ (State.diagClear s f).ldg = s.ldg ∧
    (State.diagClear s f).tk = s.tk ∧ (State.diagClear s f).free = s.free := by
  unfold State.diagClear
  simp -implicitDefEqProofs
@[simp] theorem State.limitIn_frame {s : State} {c : Ch} :
    (State.limitIn s c).pending = s.pending ∧ (State.limitIn s c).regs = s.regs ∧ (State.limitIn s c).die = s.die ∧
    (State.limitIn s c).hid = s.hid ∧ (State.limitIn s c).hub = s.hub ∧ (State.limitIn s c).host = s.host ∧
    (State.limitIn s c).links = s.links ∧ (State.limitIn s c).chains = s.chains ∧ (State.limitIn s c).coef = s.coef ∧
    (State.limitIn s c).fold = s.fold ∧ (State.limitIn s c).rfx = s.rfx ∧ (State.limitIn s c).drv = s.drv ∧
    (State.limitIn s c).ck = s.ck ∧ (State.limitIn s c).sv = s.sv ∧ (State.limitIn s c).fw = s.fw ∧
    (State.limitIn s c).hk = s.hk ∧ (State.limitIn s c).ldg = s.ldg ∧ (State.limitIn s c).tk = s.tk ∧
    (State.limitIn s c).free = s.free := by
  unfold State.limitIn
  simp -implicitDefEqProofs
@[simp] theorem State.limitOut_frame {s : State} {c : Ch} :
    (State.limitOut s c).pending = s.pending ∧ (State.limitOut s c).regs = s.regs ∧ (State.limitOut s c).die = s.die ∧
    (State.limitOut s c).hid = s.hid ∧ (State.limitOut s c).hub = s.hub ∧ (State.limitOut s c).host = s.host ∧
    (State.limitOut s c).links = s.links ∧ (State.limitOut s c).dies = s.dies ∧ (State.limitOut s c).chains = s.chains ∧
    (State.limitOut s c).coef = s.coef ∧ (State.limitOut s c).fold = s.fold ∧ (State.limitOut s c).rfx = s.rfx ∧
    (State.limitOut s c).drv = s.drv ∧ (State.limitOut s c).ck = s.ck ∧ (State.limitOut s c).sv = s.sv ∧
    (State.limitOut s c).fw = s.fw ∧ (State.limitOut s c).hk = s.hk ∧ (State.limitOut s c).ldg = s.ldg ∧
    (State.limitOut s c).tk = s.tk ∧ (State.limitOut s c).free = s.free := by
  unfold State.limitOut
  simp -implicitDefEqProofs
@[simp] theorem State.inrushEnd_frame {s : State} {c : Ch} {i : Int} :
    (State.inrushEnd s c i).pending = s.pending ∧ (State.inrushEnd s c i).regs = s.regs ∧
    (State.inrushEnd s c i).die = s.die ∧ (State.inrushEnd s c i).hid = s.hid ∧ (State.inrushEnd s c i).hub = s.hub ∧
    (State.inrushEnd s c i).host = s.host ∧ (State.inrushEnd s c i).links = s.links ∧
    (State.inrushEnd s c i).chains = s.chains ∧ (State.inrushEnd s c i).coef = s.coef ∧
    (State.inrushEnd s c i).fold = s.fold ∧ (State.inrushEnd s c i).rfx = s.rfx ∧ (State.inrushEnd s c i).drv = s.drv ∧
    (State.inrushEnd s c i).ck = s.ck ∧ (State.inrushEnd s c i).sv = s.sv ∧ (State.inrushEnd s c i).fw = s.fw ∧
    (State.inrushEnd s c i).hk = s.hk ∧ (State.inrushEnd s c i).ldg = s.ldg ∧ (State.inrushEnd s c i).tk = s.tk ∧
    (State.inrushEnd s c i).free = s.free := by
  unfold State.inrushEnd
  simp -implicitDefEqProofs
@[simp] theorem State.openLoadOn_frame {s : State} {c : Ch} {i : Int} :
    (State.openLoadOn s c i).pending = s.pending ∧ (State.openLoadOn s c i).regs = s.regs ∧
    (State.openLoadOn s c i).hid = s.hid ∧ (State.openLoadOn s c i).hub = s.hub ∧ (State.openLoadOn s c i).host = s.host ∧
    (State.openLoadOn s c i).links = s.links ∧ (State.openLoadOn s c i).chans = s.chans ∧
    (State.openLoadOn s c i).chains = s.chains ∧ (State.openLoadOn s c i).coef = s.coef ∧
    (State.openLoadOn s c i).fold = s.fold ∧ (State.openLoadOn s c i).rfx = s.rfx ∧ (State.openLoadOn s c i).drv = s.drv ∧
    (State.openLoadOn s c i).ck = s.ck ∧ (State.openLoadOn s c i).sv = s.sv ∧ (State.openLoadOn s c i).fw = s.fw ∧
    (State.openLoadOn s c i).hk = s.hk ∧ (State.openLoadOn s c i).ldg = s.ldg ∧ (State.openLoadOn s c i).tk = s.tk := by
  unfold State.openLoadOn
  simp -implicitDefEqProofs
@[simp] theorem State.checkMeans_frame {s : State} {c : Ch} :
    (State.checkMeans s c).pending = s.pending ∧ (State.checkMeans s c).regs = s.regs ∧ (State.checkMeans s c).die = s.die ∧
    (State.checkMeans s c).hid = s.hid ∧ (State.checkMeans s c).hub = s.hub ∧ (State.checkMeans s c).host = s.host ∧
    (State.checkMeans s c).links = s.links ∧ (State.checkMeans s c).dies = s.dies ∧
    (State.checkMeans s c).chains = s.chains ∧ (State.checkMeans s c).coef = s.coef ∧ (State.checkMeans s c).fold = s.fold ∧
    (State.checkMeans s c).rfx = s.rfx ∧ (State.checkMeans s c).drv = s.drv ∧ (State.checkMeans s c).ck = s.ck ∧
    (State.checkMeans s c).sv = s.sv ∧ (State.checkMeans s c).fw = s.fw ∧ (State.checkMeans s c).hk = s.hk ∧
    (State.checkMeans s c).ldg = s.ldg ∧ (State.checkMeans s c).tk = s.tk ∧ (State.checkMeans s c).free = s.free := by
  unfold State.checkMeans
  simp -implicitDefEqProofs
@[simp] theorem State.imbMean_frame {s : State} {c : Ch} :
    (State.imbMean s c).pending = s.pending ∧ (State.imbMean s c).regs = s.regs ∧ (State.imbMean s c).die = s.die ∧
    (State.imbMean s c).hid = s.hid ∧ (State.imbMean s c).hub = s.hub ∧ (State.imbMean s c).host = s.host ∧
    (State.imbMean s c).links = s.links ∧ (State.imbMean s c).dies = s.dies ∧ (State.imbMean s c).chains = s.chains ∧
    (State.imbMean s c).coef = s.coef ∧ (State.imbMean s c).fold = s.fold ∧ (State.imbMean s c).rfx = s.rfx ∧
    (State.imbMean s c).drv = s.drv ∧ (State.imbMean s c).ck = s.ck ∧ (State.imbMean s c).sv = s.sv ∧
    (State.imbMean s c).fw = s.fw ∧ (State.imbMean s c).hk = s.hk ∧ (State.imbMean s c).ldg = s.ldg ∧
    (State.imbMean s c).tk = s.tk ∧ (State.imbMean s c).free = s.free := by
  unfold State.imbMean
  simp -implicitDefEqProofs
@[simp] theorem State.mean_frame {s : State} {c : Ch} {i : Int} {i10 : Int} {tj : Int} {ua : Int} {mv : Int} {clamp : Bool} :
    (State.mean s c i i10 tj ua mv clamp).pending = s.pending ∧ (State.mean s c i i10 tj ua mv clamp).hid = s.hid ∧
    (State.mean s c i i10 tj ua mv clamp).hub = s.hub ∧ (State.mean s c i i10 tj ua mv clamp).links = s.links ∧
    (State.mean s c i i10 tj ua mv clamp).chains = s.chains ∧ (State.mean s c i i10 tj ua mv clamp).coef = s.coef ∧
    (State.mean s c i i10 tj ua mv clamp).fold = s.fold ∧ (State.mean s c i i10 tj ua mv clamp).drv = s.drv ∧
    (State.mean s c i i10 tj ua mv clamp).ck = s.ck ∧ (State.mean s c i i10 tj ua mv clamp).sv = s.sv ∧
    (State.mean s c i i10 tj ua mv clamp).fw = s.fw ∧ (State.mean s c i i10 tj ua mv clamp).hk = s.hk ∧
    (State.mean s c i i10 tj ua mv clamp).ldg = s.ldg := by
  unfold State.mean
  try dsimp only
  (repeat' split) <;> simp -implicitDefEqProofs
@[simp] theorem State.clampEnd_frame {s : State} {c : Ch} {e : Nat} :
    (State.clampEnd s c e).pending = s.pending ∧ (State.clampEnd s c e).hid = s.hid ∧ (State.clampEnd s c e).hub = s.hub ∧
    (State.clampEnd s c e).links = s.links ∧ (State.clampEnd s c e).chains = s.chains ∧
    (State.clampEnd s c e).coef = s.coef ∧ (State.clampEnd s c e).fold = s.fold ∧ (State.clampEnd s c e).drv = s.drv ∧
    (State.clampEnd s c e).ck = s.ck ∧ (State.clampEnd s c e).sv = s.sv ∧ (State.clampEnd s c e).fw = s.fw ∧
    (State.clampEnd s c e).hk = s.hk ∧ (State.clampEnd s c e).ldg = s.ldg := by
  unfold State.clampEnd
  simp -implicitDefEqProofs
@[simp] theorem State.crossDrive_frame {s : State} {c : Ch} :
    (State.crossDrive s c).pending = s.pending ∧ (State.crossDrive s c).regs = s.regs ∧ (State.crossDrive s c).hid = s.hid ∧
    (State.crossDrive s c).hub = s.hub ∧ (State.crossDrive s c).host = s.host ∧ (State.crossDrive s c).links = s.links ∧
    (State.crossDrive s c).chans = s.chans ∧ (State.crossDrive s c).chains = s.chains ∧
    (State.crossDrive s c).coef = s.coef ∧ (State.crossDrive s c).fold = s.fold ∧ (State.crossDrive s c).rfx = s.rfx ∧
    (State.crossDrive s c).drv = s.drv ∧ (State.crossDrive s c).ck = s.ck ∧ (State.crossDrive s c).sv = s.sv ∧
    (State.crossDrive s c).fw = s.fw ∧ (State.crossDrive s c).hk = s.hk ∧ (State.crossDrive s c).ldg = s.ldg ∧
    (State.crossDrive s c).tk = s.tk := by
  unfold State.crossDrive
  (repeat' split) <;> simp -implicitDefEqProofs
@[simp] theorem State.crossing_frame {s : State} {c : Ch} {d : Nat} :
    (State.crossing s c d).pending = s.pending ∧ (State.crossing s c d).regs = s.regs ∧ (State.crossing s c d).hid = s.hid ∧
    (State.crossing s c d).hub = s.hub ∧ (State.crossing s c d).host = s.host ∧ (State.crossing s c d).links = s.links ∧
    (State.crossing s c d).chains = s.chains ∧ (State.crossing s c d).coef = s.coef ∧ (State.crossing s c d).fold = s.fold ∧
    (State.crossing s c d).rfx = s.rfx ∧ (State.crossing s c d).drv = s.drv ∧ (State.crossing s c d).ck = s.ck ∧
    (State.crossing s c d).sv = s.sv ∧ (State.crossing s c d).fw = s.fw ∧ (State.crossing s c d).hk = s.hk ∧
    (State.crossing s c d).ldg = s.ldg ∧ (State.crossing s c d).tk = s.tk := by
  unfold State.crossing
  (repeat' split) <;> simp -implicitDefEqProofs
@[simp] theorem State.clearRefused_frame {s : State} {c : Ch} :
    (State.clearRefused s c).pending = s.pending ∧ (State.clearRefused s c).regs = s.regs ∧
    (State.clearRefused s c).die = s.die ∧ (State.clearRefused s c).hid = s.hid ∧ (State.clearRefused s c).hub = s.hub ∧
    (State.clearRefused s c).host = s.host ∧ (State.clearRefused s c).links = s.links ∧
    (State.clearRefused s c).chans = s.chans ∧ (State.clearRefused s c).chains = s.chains ∧
    (State.clearRefused s c).coef = s.coef ∧ (State.clearRefused s c).fold = s.fold ∧ (State.clearRefused s c).rfx = s.rfx ∧
    (State.clearRefused s c).drv = s.drv ∧ (State.clearRefused s c).ck = s.ck ∧ (State.clearRefused s c).sv = s.sv ∧
    (State.clearRefused s c).fw = s.fw ∧ (State.clearRefused s c).hk = s.hk ∧ (State.clearRefused s c).ldg = s.ldg ∧
    (State.clearRefused s c).tk = s.tk ∧ (State.clearRefused s c).free = s.free := by
  unfold State.clearRefused
  simp -implicitDefEqProofs
@[simp] theorem State.cmdOff_frame {s : State} {c : Ch} :
    (State.cmdOff s c).pending = s.pending ∧ (State.cmdOff s c).regs = s.regs ∧ (State.cmdOff s c).die = s.die ∧
    (State.cmdOff s c).hid = s.hid ∧ (State.cmdOff s c).hub = s.hub ∧ (State.cmdOff s c).host = s.host ∧
    (State.cmdOff s c).links = s.links ∧ (State.cmdOff s c).chains = s.chains ∧ (State.cmdOff s c).coef = s.coef ∧
    (State.cmdOff s c).fold = s.fold ∧ (State.cmdOff s c).rfx = s.rfx ∧ (State.cmdOff s c).drv = s.drv ∧
    (State.cmdOff s c).ck = s.ck ∧ (State.cmdOff s c).sv = s.sv ∧ (State.cmdOff s c).fw = s.fw ∧
    (State.cmdOff s c).hk = s.hk ∧ (State.cmdOff s c).ldg = s.ldg ∧ (State.cmdOff s c).tk = s.tk ∧
    (State.cmdOff s c).free = s.free := by
  unfold State.cmdOff
  simp -implicitDefEqProofs
@[simp] theorem State.clearLatch_pending {s : State} {c : Ch} {has : Chan → Bool} {ok : Ch → Bool} {k : State → Ch → State} (h : ∀ (a0 : State) (a1 : Ch), (k a0 a1).pending = a0.pending) :
    (State.clearLatch s c has ok k).pending = s.pending := by
  unfold State.clearLatch
  simp -implicitDefEqProofs [h]
@[simp] theorem State.clearLatch_regs {s : State} {c : Ch} {has : Chan → Bool} {ok : Ch → Bool} {k : State → Ch → State} (h : ∀ (a0 : State) (a1 : Ch), (k a0 a1).regs = a0.regs) :
    (State.clearLatch s c has ok k).regs = s.regs := by
  unfold State.clearLatch
  simp -implicitDefEqProofs [h]
@[simp] theorem State.clearLatch_die {s : State} {c : Ch} {has : Chan → Bool} {ok : Ch → Bool} {k : State → Ch → State} (h : ∀ (a0 : State) (a1 : Ch), (k a0 a1).die = a0.die) :
    (State.clearLatch s c has ok k).die = s.die := by
  unfold State.clearLatch
  simp -implicitDefEqProofs [h]
@[simp] theorem State.clearLatch_hid {s : State} {c : Ch} {has : Chan → Bool} {ok : Ch → Bool} {k : State → Ch → State} (h : ∀ (a0 : State) (a1 : Ch), (k a0 a1).hid = a0.hid) :
    (State.clearLatch s c has ok k).hid = s.hid := by
  unfold State.clearLatch
  simp -implicitDefEqProofs [h]
@[simp] theorem State.clearLatch_hub {s : State} {c : Ch} {has : Chan → Bool} {ok : Ch → Bool} {k : State → Ch → State} (h : ∀ (a0 : State) (a1 : Ch), (k a0 a1).hub = a0.hub) :
    (State.clearLatch s c has ok k).hub = s.hub := by
  unfold State.clearLatch
  simp -implicitDefEqProofs [h]
@[simp] theorem State.clearLatch_host {s : State} {c : Ch} {has : Chan → Bool} {ok : Ch → Bool} {k : State → Ch → State} (h : ∀ (a0 : State) (a1 : Ch), (k a0 a1).host = a0.host) :
    (State.clearLatch s c has ok k).host = s.host := by
  unfold State.clearLatch
  simp -implicitDefEqProofs [h]
@[simp] theorem State.clearLatch_links {s : State} {c : Ch} {has : Chan → Bool} {ok : Ch → Bool} {k : State → Ch → State} (h : ∀ (a0 : State) (a1 : Ch), (k a0 a1).links = a0.links) :
    (State.clearLatch s c has ok k).links = s.links := by
  unfold State.clearLatch
  simp -implicitDefEqProofs [h]
@[simp] theorem State.clearLatch_chains {s : State} {c : Ch} {has : Chan → Bool} {ok : Ch → Bool} {k : State → Ch → State} (h : ∀ (a0 : State) (a1 : Ch), (k a0 a1).chains = a0.chains) :
    (State.clearLatch s c has ok k).chains = s.chains := by
  unfold State.clearLatch
  simp -implicitDefEqProofs [h]
@[simp] theorem State.clearLatch_coef {s : State} {c : Ch} {has : Chan → Bool} {ok : Ch → Bool} {k : State → Ch → State} (h : ∀ (a0 : State) (a1 : Ch), (k a0 a1).coef = a0.coef) :
    (State.clearLatch s c has ok k).coef = s.coef := by
  unfold State.clearLatch
  simp -implicitDefEqProofs [h]
@[simp] theorem State.clearLatch_fold {s : State} {c : Ch} {has : Chan → Bool} {ok : Ch → Bool} {k : State → Ch → State} (h : ∀ (a0 : State) (a1 : Ch), (k a0 a1).fold = a0.fold) :
    (State.clearLatch s c has ok k).fold = s.fold := by
  unfold State.clearLatch
  simp -implicitDefEqProofs [h]
@[simp] theorem State.clearLatch_rfx {s : State} {c : Ch} {has : Chan → Bool} {ok : Ch → Bool} {k : State → Ch → State} (h : ∀ (a0 : State) (a1 : Ch), (k a0 a1).rfx = a0.rfx) :
    (State.clearLatch s c has ok k).rfx = s.rfx := by
  unfold State.clearLatch
  simp -implicitDefEqProofs [h]
@[simp] theorem State.clearLatch_drv {s : State} {c : Ch} {has : Chan → Bool} {ok : Ch → Bool} {k : State → Ch → State} (h : ∀ (a0 : State) (a1 : Ch), (k a0 a1).drv = a0.drv) :
    (State.clearLatch s c has ok k).drv = s.drv := by
  unfold State.clearLatch
  simp -implicitDefEqProofs [h]
@[simp] theorem State.clearLatch_ck {s : State} {c : Ch} {has : Chan → Bool} {ok : Ch → Bool} {k : State → Ch → State} (h : ∀ (a0 : State) (a1 : Ch), (k a0 a1).ck = a0.ck) :
    (State.clearLatch s c has ok k).ck = s.ck := by
  unfold State.clearLatch
  simp -implicitDefEqProofs [h]
@[simp] theorem State.clearLatch_sv {s : State} {c : Ch} {has : Chan → Bool} {ok : Ch → Bool} {k : State → Ch → State} (h : ∀ (a0 : State) (a1 : Ch), (k a0 a1).sv = a0.sv) :
    (State.clearLatch s c has ok k).sv = s.sv := by
  unfold State.clearLatch
  simp -implicitDefEqProofs [h]
@[simp] theorem State.clearLatch_fw {s : State} {c : Ch} {has : Chan → Bool} {ok : Ch → Bool} {k : State → Ch → State} (h : ∀ (a0 : State) (a1 : Ch), (k a0 a1).fw = a0.fw) :
    (State.clearLatch s c has ok k).fw = s.fw := by
  unfold State.clearLatch
  simp -implicitDefEqProofs [h]
@[simp] theorem State.clearLatch_hk {s : State} {c : Ch} {has : Chan → Bool} {ok : Ch → Bool} {k : State → Ch → State} (h : ∀ (a0 : State) (a1 : Ch), (k a0 a1).hk = a0.hk) :
    (State.clearLatch s c has ok k).hk = s.hk := by
  unfold State.clearLatch
  simp -implicitDefEqProofs [h]
@[simp] theorem State.clearLatch_ldg {s : State} {c : Ch} {has : Chan → Bool} {ok : Ch → Bool} {k : State → Ch → State} (h : ∀ (a0 : State) (a1 : Ch), (k a0 a1).ldg = a0.ldg) :
    (State.clearLatch s c has ok k).ldg = s.ldg := by
  unfold State.clearLatch
  simp -implicitDefEqProofs [h]
@[simp] theorem State.clearLatch_tk {s : State} {c : Ch} {has : Chan → Bool} {ok : Ch → Bool} {k : State → Ch → State} (h : ∀ (a0 : State) (a1 : Ch), (k a0 a1).tk = a0.tk) :
    (State.clearLatch s c has ok k).tk = s.tk := by
  unfold State.clearLatch
  simp -implicitDefEqProofs [h]
@[simp] theorem State.clearLatch_free {s : State} {c : Ch} {has : Chan → Bool} {ok : Ch → Bool} {k : State → Ch → State} (h : ∀ (a0 : State) (a1 : Ch), (k a0 a1).free = a0.free) :
    (State.clearLatch s c has ok k).free = s.free := by
  unfold State.clearLatch
  simp -implicitDefEqProofs [h]
@[simp] theorem State.clearFaultDie_frame {s : State} {c : Ch} {i : Int} {clamp : Bool} :
    (State.clearFaultDie s c i clamp).pending = s.pending ∧ (State.clearFaultDie s c i clamp).regs = s.regs ∧
    (State.clearFaultDie s c i clamp).hid = s.hid ∧ (State.clearFaultDie s c i clamp).hub = s.hub ∧
    (State.clearFaultDie s c i clamp).host = s.host ∧ (State.clearFaultDie s c i clamp).links = s.links ∧
    (State.clearFaultDie s c i clamp).chains = s.chains ∧ (State.clearFaultDie s c i clamp).coef = s.coef ∧
    (State.clearFaultDie s c i clamp).fold = s.fold ∧ (State.clearFaultDie s c i clamp).rfx = s.rfx ∧
    (State.clearFaultDie s c i clamp).drv = s.drv ∧ (State.clearFaultDie s c i clamp).ck = s.ck ∧
    (State.clearFaultDie s c i clamp).sv = s.sv ∧ (State.clearFaultDie s c i clamp).fw = s.fw ∧
    (State.clearFaultDie s c i clamp).hk = s.hk ∧ (State.clearFaultDie s c i clamp).ldg = s.ldg ∧
    (State.clearFaultDie s c i clamp).tk = s.tk ∧ (State.clearFaultDie s c i clamp).free = s.free := by
  unfold State.clearFaultDie
  simp -implicitDefEqProofs
@[simp] theorem State.clearClampDie_frame {s : State} {c : Ch} :
    (State.clearClampDie s c).pending = s.pending ∧ (State.clearClampDie s c).regs = s.regs ∧
    (State.clearClampDie s c).die = s.die ∧ (State.clearClampDie s c).hid = s.hid ∧ (State.clearClampDie s c).hub = s.hub ∧
    (State.clearClampDie s c).host = s.host ∧ (State.clearClampDie s c).links = s.links ∧
    (State.clearClampDie s c).chains = s.chains ∧ (State.clearClampDie s c).coef = s.coef ∧
    (State.clearClampDie s c).fold = s.fold ∧ (State.clearClampDie s c).rfx = s.rfx ∧
    (State.clearClampDie s c).drv = s.drv ∧ (State.clearClampDie s c).ck = s.ck ∧ (State.clearClampDie s c).sv = s.sv ∧
    (State.clearClampDie s c).fw = s.fw ∧ (State.clearClampDie s c).hk = s.hk ∧ (State.clearClampDie s c).ldg = s.ldg ∧
    (State.clearClampDie s c).tk = s.tk ∧ (State.clearClampDie s c).free = s.free := by
  unfold State.clearClampDie
  simp -implicitDefEqProofs
@[simp] theorem State.clearFuseDie_frame {s : State} {c : Ch} :
    (State.clearFuseDie s c).pending = s.pending ∧ (State.clearFuseDie s c).regs = s.regs ∧
    (State.clearFuseDie s c).die = s.die ∧ (State.clearFuseDie s c).hid = s.hid ∧ (State.clearFuseDie s c).hub = s.hub ∧
    (State.clearFuseDie s c).host = s.host ∧ (State.clearFuseDie s c).links = s.links ∧
    (State.clearFuseDie s c).chains = s.chains ∧ (State.clearFuseDie s c).coef = s.coef ∧
    (State.clearFuseDie s c).fold = s.fold ∧ (State.clearFuseDie s c).rfx = s.rfx ∧ (State.clearFuseDie s c).drv = s.drv ∧
    (State.clearFuseDie s c).ck = s.ck ∧ (State.clearFuseDie s c).sv = s.sv ∧ (State.clearFuseDie s c).fw = s.fw ∧
    (State.clearFuseDie s c).hk = s.hk ∧ (State.clearFuseDie s c).ldg = s.ldg ∧ (State.clearFuseDie s c).tk = s.tk ∧
    (State.clearFuseDie s c).free = s.free := by
  unfold State.clearFuseDie
  simp -implicitDefEqProofs
@[simp] theorem State.clearWord_frame {s : State} {c : Ch} {v : Nat} {i : Int} {clamp : Bool} :
    (State.clearWord s c v i clamp).pending = s.pending ∧ (State.clearWord s c v i clamp).regs = s.regs ∧
    (State.clearWord s c v i clamp).hid = s.hid ∧ (State.clearWord s c v i clamp).hub = s.hub ∧
    (State.clearWord s c v i clamp).host = s.host ∧ (State.clearWord s c v i clamp).links = s.links ∧
    (State.clearWord s c v i clamp).chains = s.chains ∧ (State.clearWord s c v i clamp).coef = s.coef ∧
    (State.clearWord s c v i clamp).fold = s.fold ∧ (State.clearWord s c v i clamp).rfx = s.rfx ∧
    (State.clearWord s c v i clamp).drv = s.drv ∧ (State.clearWord s c v i clamp).ck = s.ck ∧
    (State.clearWord s c v i clamp).sv = s.sv ∧ (State.clearWord s c v i clamp).fw = s.fw ∧
    (State.clearWord s c v i clamp).hk = s.hk ∧ (State.clearWord s c v i clamp).ldg = s.ldg ∧
    (State.clearWord s c v i clamp).tk = s.tk ∧ (State.clearWord s c v i clamp).free = s.free := by
  unfold State.clearWord
  simp -implicitDefEqProofs
@[simp] theorem State.offConfirmed_frame {s : State} {c : Ch} {r : Nat} {k : Option CrossSeen} :
    (State.offConfirmed s c r k).pending = s.pending ∧ (State.offConfirmed s c r k).regs = s.regs ∧
    (State.offConfirmed s c r k).hid = s.hid ∧ (State.offConfirmed s c r k).hub = s.hub ∧
    (State.offConfirmed s c r k).host = s.host ∧ (State.offConfirmed s c r k).links = s.links ∧
    (State.offConfirmed s c r k).chans = s.chans ∧ (State.offConfirmed s c r k).chains = s.chains ∧
    (State.offConfirmed s c r k).coef = s.coef ∧ (State.offConfirmed s c r k).fold = s.fold ∧
    (State.offConfirmed s c r k).rfx = s.rfx ∧ (State.offConfirmed s c r k).drv = s.drv ∧
    (State.offConfirmed s c r k).ck = s.ck ∧ (State.offConfirmed s c r k).sv = s.sv ∧
    (State.offConfirmed s c r k).fw = s.fw ∧ (State.offConfirmed s c r k).hk = s.hk ∧
    (State.offConfirmed s c r k).ldg = s.ldg ∧ (State.offConfirmed s c r k).tk = s.tk := by
  unfold State.offConfirmed
  (repeat' split) <;> simp -implicitDefEqProofs
@[simp] theorem State.shedCh_frame {s : State} {c : Ch} :
    (State.shedCh s c).pending = s.pending ∧ (State.shedCh s c).die = s.die ∧ (State.shedCh s c).hid = s.hid ∧
    (State.shedCh s c).hub = s.hub ∧ (State.shedCh s c).links = s.links ∧ (State.shedCh s c).chains = s.chains ∧
    (State.shedCh s c).coef = s.coef ∧ (State.shedCh s c).fold = s.fold ∧ (State.shedCh s c).drv = s.drv ∧
    (State.shedCh s c).ck = s.ck ∧ (State.shedCh s c).sv = s.sv ∧ (State.shedCh s c).fw = s.fw ∧
    (State.shedCh s c).hk = s.hk ∧ (State.shedCh s c).ldg = s.ldg := by
  unfold State.shedCh
  simp -implicitDefEqProofs
@[simp] theorem State.placeHeld_frame {s : State} {g : Grp} {n : ChN} :
    (State.placeHeld s g n).pending = s.pending ∧ (State.placeHeld s g n).regs = s.regs ∧
    (State.placeHeld s g n).die = s.die ∧ (State.placeHeld s g n).hid = s.hid ∧ (State.placeHeld s g n).hub = s.hub ∧
    (State.placeHeld s g n).host = s.host ∧ (State.placeHeld s g n).links = s.links ∧
    (State.placeHeld s g n).chains = s.chains ∧ (State.placeHeld s g n).coef = s.coef ∧
    (State.placeHeld s g n).fold = s.fold ∧ (State.placeHeld s g n).rfx = s.rfx ∧ (State.placeHeld s g n).drv = s.drv ∧
    (State.placeHeld s g n).ck = s.ck ∧ (State.placeHeld s g n).sv = s.sv ∧ (State.placeHeld s g n).fw = s.fw ∧
    (State.placeHeld s g n).hk = s.hk ∧ (State.placeHeld s g n).ldg = s.ldg ∧ (State.placeHeld s g n).tk = s.tk ∧
    (State.placeHeld s g n).free = s.free := by
  unfold State.placeHeld
  simp -implicitDefEqProofs
@[simp] theorem State.holdLate_frame {s : State} {g : Grp} {h : Held} :
    (State.holdLate s g h).pending = s.pending ∧ (State.holdLate s g h).regs = s.regs ∧ (State.holdLate s g h).die = s.die ∧
    (State.holdLate s g h).hid = s.hid ∧ (State.holdLate s g h).hub = s.hub ∧ (State.holdLate s g h).host = s.host ∧
    (State.holdLate s g h).links = s.links ∧ (State.holdLate s g h).chans = s.chans ∧
    (State.holdLate s g h).chains = s.chains ∧ (State.holdLate s g h).coef = s.coef ∧ (State.holdLate s g h).fold = s.fold ∧
    (State.holdLate s g h).rfx = s.rfx ∧ (State.holdLate s g h).drv = s.drv ∧ (State.holdLate s g h).ck = s.ck ∧
    (State.holdLate s g h).sv = s.sv ∧ (State.holdLate s g h).fw = s.fw ∧ (State.holdLate s g h).hk = s.hk ∧
    (State.holdLate s g h).ldg = s.ldg ∧ (State.holdLate s g h).tk = s.tk ∧ (State.holdLate s g h).free = s.free := by
  unfold State.holdLate
  (repeat' split) <;> simp -implicitDefEqProofs
@[simp] theorem State.supersede_frame {s : State} {g : Grp} {h : Held} {n : ChN} :
    (State.supersede s g h n).pending = s.pending ∧ (State.supersede s g h n).regs = s.regs ∧
    (State.supersede s g h n).die = s.die ∧ (State.supersede s g h n).hid = s.hid ∧ (State.supersede s g h n).hub = s.hub ∧
    (State.supersede s g h n).host = s.host ∧ (State.supersede s g h n).links = s.links ∧
    (State.supersede s g h n).chans = s.chans ∧ (State.supersede s g h n).chains = s.chains ∧
    (State.supersede s g h n).coef = s.coef ∧ (State.supersede s g h n).fold = s.fold ∧
    (State.supersede s g h n).rfx = s.rfx ∧ (State.supersede s g h n).drv = s.drv ∧ (State.supersede s g h n).ck = s.ck ∧
    (State.supersede s g h n).sv = s.sv ∧ (State.supersede s g h n).fw = s.fw ∧ (State.supersede s g h n).hk = s.hk ∧
    (State.supersede s g h n).ldg = s.ldg ∧ (State.supersede s g h n).tk = s.tk ∧ (State.supersede s g h n).free = s.free := by
  unfold State.supersede
  simp -implicitDefEqProofs
@[simp] theorem State.keepDelays_frame {s : State} {c : Ch} {x : DlCmd} :
    (State.keepDelays s c x).pending = s.pending ∧ (State.keepDelays s c x).regs = s.regs ∧
    (State.keepDelays s c x).die = s.die ∧ (State.keepDelays s c x).hid = s.hid ∧ (State.keepDelays s c x).hub = s.hub ∧
    (State.keepDelays s c x).host = s.host ∧ (State.keepDelays s c x).links = s.links ∧
    (State.keepDelays s c x).dies = s.dies ∧ (State.keepDelays s c x).chains = s.chains ∧
    (State.keepDelays s c x).coef = s.coef ∧ (State.keepDelays s c x).fold = s.fold ∧ (State.keepDelays s c x).rfx = s.rfx ∧
    (State.keepDelays s c x).drv = s.drv ∧ (State.keepDelays s c x).ck = s.ck ∧ (State.keepDelays s c x).sv = s.sv ∧
    (State.keepDelays s c x).fw = s.fw ∧ (State.keepDelays s c x).hk = s.hk ∧ (State.keepDelays s c x).ldg = s.ldg ∧
    (State.keepDelays s c x).tk = s.tk ∧ (State.keepDelays s c x).free = s.free := by
  unfold State.keepDelays
  (repeat' split) <;> simp -implicitDefEqProofs
@[simp] theorem State.acceptAt_frame {s0 : State} {g : Grp} {x : DlCmd} {i : Option SlotInfo} {n : ChN} {gi : Nat} {epoch : Bool} :
    (State.acceptAt s0 g x i n gi epoch).pending = s0.pending ∧ (State.acceptAt s0 g x i n gi epoch).regs = s0.regs ∧
    (State.acceptAt s0 g x i n gi epoch).die = s0.die ∧ (State.acceptAt s0 g x i n gi epoch).hid = s0.hid ∧
    (State.acceptAt s0 g x i n gi epoch).hub = s0.hub ∧ (State.acceptAt s0 g x i n gi epoch).host = s0.host ∧
    (State.acceptAt s0 g x i n gi epoch).links = s0.links ∧ (State.acceptAt s0 g x i n gi epoch).chains = s0.chains ∧
    (State.acceptAt s0 g x i n gi epoch).coef = s0.coef ∧ (State.acceptAt s0 g x i n gi epoch).fold = s0.fold ∧
    (State.acceptAt s0 g x i n gi epoch).rfx = s0.rfx ∧ (State.acceptAt s0 g x i n gi epoch).drv = s0.drv ∧
    (State.acceptAt s0 g x i n gi epoch).ck = s0.ck ∧ (State.acceptAt s0 g x i n gi epoch).sv = s0.sv ∧
    (State.acceptAt s0 g x i n gi epoch).fw = s0.fw ∧ (State.acceptAt s0 g x i n gi epoch).hk = s0.hk ∧
    (State.acceptAt s0 g x i n gi epoch).ldg = s0.ldg ∧ (State.acceptAt s0 g x i n gi epoch).tk = s0.tk ∧
    (State.acceptAt s0 g x i n gi epoch).free = s0.free := by
  unfold State.acceptAt
  simp -implicitDefEqProofs
@[simp] theorem State.acceptTimed_frame {s : State} {g : Grp} {x : DlCmd} {i : Option SlotInfo} {epoch : Bool} :
    (State.acceptTimed s g x i epoch).pending = s.pending ∧ (State.acceptTimed s g x i epoch).regs = s.regs ∧
    (State.acceptTimed s g x i epoch).die = s.die ∧ (State.acceptTimed s g x i epoch).hid = s.hid ∧
    (State.acceptTimed s g x i epoch).hub = s.hub ∧ (State.acceptTimed s g x i epoch).host = s.host ∧
    (State.acceptTimed s g x i epoch).links = s.links ∧ (State.acceptTimed s g x i epoch).chains = s.chains ∧
    (State.acceptTimed s g x i epoch).coef = s.coef ∧ (State.acceptTimed s g x i epoch).fold = s.fold ∧
    (State.acceptTimed s g x i epoch).rfx = s.rfx ∧ (State.acceptTimed s g x i epoch).drv = s.drv ∧
    (State.acceptTimed s g x i epoch).ck = s.ck ∧ (State.acceptTimed s g x i epoch).sv = s.sv ∧
    (State.acceptTimed s g x i epoch).fw = s.fw ∧ (State.acceptTimed s g x i epoch).hk = s.hk ∧
    (State.acceptTimed s g x i epoch).ldg = s.ldg ∧ (State.acceptTimed s g x i epoch).tk = s.tk ∧
    (State.acceptTimed s g x i epoch).free = s.free := by
  unfold State.acceptTimed
  (repeat' split) <;> simp -implicitDefEqProofs
@[simp] theorem State.discardAt_frame {s : State} {c : Ch} {fold : Bool} :
    (State.discardAt s c fold).pending = s.pending ∧ (State.discardAt s c fold).regs = s.regs ∧
    (State.discardAt s c fold).die = s.die ∧ (State.discardAt s c fold).hid = s.hid ∧
    (State.discardAt s c fold).hub = s.hub ∧ (State.discardAt s c fold).host = s.host ∧
    (State.discardAt s c fold).links = s.links ∧ (State.discardAt s c fold).chans = s.chans ∧
    (State.discardAt s c fold).chains = s.chains ∧ (State.discardAt s c fold).coef = s.coef ∧
    (State.discardAt s c fold).fold = s.fold ∧ (State.discardAt s c fold).rfx = s.rfx ∧
    (State.discardAt s c fold).drv = s.drv ∧ (State.discardAt s c fold).ck = s.ck ∧ (State.discardAt s c fold).sv = s.sv ∧
    (State.discardAt s c fold).fw = s.fw ∧ (State.discardAt s c fold).hk = s.hk ∧ (State.discardAt s c fold).ldg = s.ldg ∧
    (State.discardAt s c fold).tk = s.tk ∧ (State.discardAt s c fold).free = s.free := by
  unfold State.discardAt
  simp -implicitDefEqProofs
@[simp] theorem State.runTimed_frame {s : State} {c : Ch} {h : Held} {t : Nat} :
    (State.runTimed s c h t).pending = s.pending ∧ (State.runTimed s c h t).hid = s.hid ∧
    (State.runTimed s c h t).hub = s.hub ∧ (State.runTimed s c h t).links = s.links ∧
    (State.runTimed s c h t).chains = s.chains ∧ (State.runTimed s c h t).coef = s.coef ∧
    (State.runTimed s c h t).fold = s.fold ∧ (State.runTimed s c h t).drv = s.drv ∧ (State.runTimed s c h t).ck = s.ck ∧
    (State.runTimed s c h t).sv = s.sv ∧ (State.runTimed s c h t).fw = s.fw ∧ (State.runTimed s c h t).hk = s.hk ∧
    (State.runTimed s c h t).ldg = s.ldg := by
  unfold State.runTimed
  (repeat' split) <;> simp -implicitDefEqProofs
@[simp] theorem State.forSlot_pending {s : State} {c : Ch} {slot : Option Nat} {k : State → State} (h : ∀ (a0 : State), (k a0).pending = a0.pending) :
    (State.forSlot s c slot k).pending = s.pending := by
  unfold State.forSlot
  simp -implicitDefEqProofs [h]
@[simp] theorem State.forSlot_regs {s : State} {c : Ch} {slot : Option Nat} {k : State → State} (h : ∀ (a0 : State), (k a0).regs = a0.regs) :
    (State.forSlot s c slot k).regs = s.regs := by
  unfold State.forSlot
  simp -implicitDefEqProofs [h]
@[simp] theorem State.forSlot_die {s : State} {c : Ch} {slot : Option Nat} {k : State → State} (h : ∀ (a0 : State), (k a0).die = a0.die) :
    (State.forSlot s c slot k).die = s.die := by
  unfold State.forSlot
  simp -implicitDefEqProofs [h]
@[simp] theorem State.forSlot_hid {s : State} {c : Ch} {slot : Option Nat} {k : State → State} (h : ∀ (a0 : State), (k a0).hid = a0.hid) :
    (State.forSlot s c slot k).hid = s.hid := by
  unfold State.forSlot
  simp -implicitDefEqProofs [h]
@[simp] theorem State.forSlot_hub {s : State} {c : Ch} {slot : Option Nat} {k : State → State} (h : ∀ (a0 : State), (k a0).hub = a0.hub) :
    (State.forSlot s c slot k).hub = s.hub := by
  unfold State.forSlot
  simp -implicitDefEqProofs [h]
@[simp] theorem State.forSlot_host {s : State} {c : Ch} {slot : Option Nat} {k : State → State} (h : ∀ (a0 : State), (k a0).host = a0.host) :
    (State.forSlot s c slot k).host = s.host := by
  unfold State.forSlot
  simp -implicitDefEqProofs [h]
@[simp] theorem State.forSlot_links {s : State} {c : Ch} {slot : Option Nat} {k : State → State} (h : ∀ (a0 : State), (k a0).links = a0.links) :
    (State.forSlot s c slot k).links = s.links := by
  unfold State.forSlot
  simp -implicitDefEqProofs [h]
@[simp] theorem State.forSlot_dies {s : State} {c : Ch} {slot : Option Nat} {k : State → State} (h : ∀ (a0 : State), (k a0).dies = a0.dies) :
    (State.forSlot s c slot k).dies = s.dies := by
  unfold State.forSlot
  simp -implicitDefEqProofs [h]
@[simp] theorem State.forSlot_chains {s : State} {c : Ch} {slot : Option Nat} {k : State → State} (h : ∀ (a0 : State), (k a0).chains = a0.chains) :
    (State.forSlot s c slot k).chains = s.chains := by
  unfold State.forSlot
  simp -implicitDefEqProofs [h]
@[simp] theorem State.forSlot_coef {s : State} {c : Ch} {slot : Option Nat} {k : State → State} (h : ∀ (a0 : State), (k a0).coef = a0.coef) :
    (State.forSlot s c slot k).coef = s.coef := by
  unfold State.forSlot
  simp -implicitDefEqProofs [h]
@[simp] theorem State.forSlot_fold {s : State} {c : Ch} {slot : Option Nat} {k : State → State} (h : ∀ (a0 : State), (k a0).fold = a0.fold) :
    (State.forSlot s c slot k).fold = s.fold := by
  unfold State.forSlot
  simp -implicitDefEqProofs [h]
@[simp] theorem State.forSlot_rfx {s : State} {c : Ch} {slot : Option Nat} {k : State → State} (h : ∀ (a0 : State), (k a0).rfx = a0.rfx) :
    (State.forSlot s c slot k).rfx = s.rfx := by
  unfold State.forSlot
  simp -implicitDefEqProofs [h]
@[simp] theorem State.forSlot_drv {s : State} {c : Ch} {slot : Option Nat} {k : State → State} (h : ∀ (a0 : State), (k a0).drv = a0.drv) :
    (State.forSlot s c slot k).drv = s.drv := by
  unfold State.forSlot
  simp -implicitDefEqProofs [h]
@[simp] theorem State.forSlot_ck {s : State} {c : Ch} {slot : Option Nat} {k : State → State} (h : ∀ (a0 : State), (k a0).ck = a0.ck) :
    (State.forSlot s c slot k).ck = s.ck := by
  unfold State.forSlot
  simp -implicitDefEqProofs [h]
@[simp] theorem State.forSlot_sv {s : State} {c : Ch} {slot : Option Nat} {k : State → State} (h : ∀ (a0 : State), (k a0).sv = a0.sv) :
    (State.forSlot s c slot k).sv = s.sv := by
  unfold State.forSlot
  simp -implicitDefEqProofs [h]
@[simp] theorem State.forSlot_fw {s : State} {c : Ch} {slot : Option Nat} {k : State → State} (h : ∀ (a0 : State), (k a0).fw = a0.fw) :
    (State.forSlot s c slot k).fw = s.fw := by
  unfold State.forSlot
  simp -implicitDefEqProofs [h]
@[simp] theorem State.forSlot_hk {s : State} {c : Ch} {slot : Option Nat} {k : State → State} (h : ∀ (a0 : State), (k a0).hk = a0.hk) :
    (State.forSlot s c slot k).hk = s.hk := by
  unfold State.forSlot
  simp -implicitDefEqProofs [h]
@[simp] theorem State.forSlot_ldg {s : State} {c : Ch} {slot : Option Nat} {k : State → State} (h : ∀ (a0 : State), (k a0).ldg = a0.ldg) :
    (State.forSlot s c slot k).ldg = s.ldg := by
  unfold State.forSlot
  simp -implicitDefEqProofs [h]
@[simp] theorem State.forSlot_tk {s : State} {c : Ch} {slot : Option Nat} {k : State → State} (h : ∀ (a0 : State), (k a0).tk = a0.tk) :
    (State.forSlot s c slot k).tk = s.tk := by
  unfold State.forSlot
  simp -implicitDefEqProofs [h]
@[simp] theorem State.forSlot_free {s : State} {c : Ch} {slot : Option Nat} {k : State → State} (h : ∀ (a0 : State), (k a0).free = a0.free) :
    (State.forSlot s c slot k).free = s.free := by
  unfold State.forSlot
  simp -implicitDefEqProofs [h]
@[simp] theorem State.pulsesTo_frame {s : State} {c : Ch} {p : Nat × Nat → Bool} :
    (State.pulsesTo s c p).pending = s.pending ∧ (State.pulsesTo s c p).die = s.die ∧ (State.pulsesTo s c p).hid = s.hid ∧
    (State.pulsesTo s c p).hub = s.hub ∧ (State.pulsesTo s c p).links = s.links ∧ (State.pulsesTo s c p).chains = s.chains ∧
    (State.pulsesTo s c p).coef = s.coef ∧ (State.pulsesTo s c p).fold = s.fold ∧ (State.pulsesTo s c p).drv = s.drv ∧
    (State.pulsesTo s c p).ck = s.ck ∧ (State.pulsesTo s c p).sv = s.sv ∧ (State.pulsesTo s c p).fw = s.fw ∧
    (State.pulsesTo s c p).hk = s.hk ∧ (State.pulsesTo s c p).ldg = s.ldg := by
  unfold State.pulsesTo
  simp -implicitDefEqProofs
@[simp] theorem State.runHeld_frame {s : State} {c : Ch} {h : Held} :
    (State.runHeld s c h).pending = s.pending ∧ (State.runHeld s c h).hid = s.hid ∧ (State.runHeld s c h).hub = s.hub ∧
    (State.runHeld s c h).links = s.links ∧ (State.runHeld s c h).chains = s.chains ∧ (State.runHeld s c h).coef = s.coef ∧
    (State.runHeld s c h).fold = s.fold ∧ (State.runHeld s c h).drv = s.drv ∧ (State.runHeld s c h).ck = s.ck ∧
    (State.runHeld s c h).sv = s.sv ∧ (State.runHeld s c h).fw = s.fw ∧ (State.runHeld s c h).hk = s.hk ∧
    (State.runHeld s c h).ldg = s.ldg := by
  unfold State.runHeld
  simp -implicitDefEqProofs
@[simp] theorem State.timedAt_frame {s : State} {c : Ch} {k : Nat} :
    (State.timedAt s c k).pending = s.pending ∧ (State.timedAt s c k).hid = s.hid ∧ (State.timedAt s c k).hub = s.hub ∧
    (State.timedAt s c k).links = s.links ∧ (State.timedAt s c k).chains = s.chains ∧ (State.timedAt s c k).coef = s.coef ∧
    (State.timedAt s c k).fold = s.fold ∧ (State.timedAt s c k).drv = s.drv ∧ (State.timedAt s c k).ck = s.ck ∧
    (State.timedAt s c k).sv = s.sv ∧ (State.timedAt s c k).fw = s.fw ∧ (State.timedAt s c k).hk = s.hk ∧
    (State.timedAt s c k).ldg = s.ldg := by
  unfold State.timedAt
  try dsimp only
  (repeat' split) <;> simp -implicitDefEqProofs
@[simp] theorem State.pulseOff_frame {s : State} {c : Ch} :
    (State.pulseOff s c).pending = s.pending ∧ (State.pulseOff s c).hid = s.hid ∧ (State.pulseOff s c).hub = s.hub ∧
    (State.pulseOff s c).links = s.links ∧ (State.pulseOff s c).chains = s.chains ∧ (State.pulseOff s c).coef = s.coef ∧
    (State.pulseOff s c).fold = s.fold ∧ (State.pulseOff s c).drv = s.drv ∧ (State.pulseOff s c).ck = s.ck ∧
    (State.pulseOff s c).sv = s.sv ∧ (State.pulseOff s c).fw = s.fw ∧ (State.pulseOff s c).hk = s.hk ∧
    (State.pulseOff s c).ldg = s.ldg := by
  unfold State.pulseOff
  (repeat' split) <;> simp -implicitDefEqProofs
@[simp] theorem State.runOff_frame {s : State} {c : Ch} {r : Run} {x : Rat} {t : Nat} :
    (State.runOff s c r x t).pending = s.pending ∧ (State.runOff s c r x t).die = s.die ∧
    (State.runOff s c r x t).hid = s.hid ∧ (State.runOff s c r x t).hub = s.hub ∧ (State.runOff s c r x t).links = s.links ∧
    (State.runOff s c r x t).dies = s.dies ∧ (State.runOff s c r x t).chains = s.chains ∧
    (State.runOff s c r x t).coef = s.coef ∧ (State.runOff s c r x t).fold = s.fold ∧ (State.runOff s c r x t).drv = s.drv ∧
    (State.runOff s c r x t).ck = s.ck ∧ (State.runOff s c r x t).sv = s.sv ∧ (State.runOff s c r x t).fw = s.fw ∧
    (State.runOff s c r x t).hk = s.hk ∧ (State.runOff s c r x t).ldg = s.ldg ∧ (State.runOff s c r x t).free = s.free := by
  unfold State.runOff
  simp -implicitDefEqProofs
@[simp] theorem State.runOn_frame {s : State} {c : Ch} {r0 : Run} {x : Rat} {t : Nat} :
    (State.runOn s c r0 x t).pending = s.pending ∧ (State.runOn s c r0 x t).die = s.die ∧
    (State.runOn s c r0 x t).hid = s.hid ∧ (State.runOn s c r0 x t).hub = s.hub ∧ (State.runOn s c r0 x t).links = s.links ∧
    (State.runOn s c r0 x t).chains = s.chains ∧ (State.runOn s c r0 x t).coef = s.coef ∧
    (State.runOn s c r0 x t).fold = s.fold ∧ (State.runOn s c r0 x t).drv = s.drv ∧ (State.runOn s c r0 x t).ck = s.ck ∧
    (State.runOn s c r0 x t).sv = s.sv ∧ (State.runOn s c r0 x t).fw = s.fw ∧ (State.runOn s c r0 x t).hk = s.hk ∧
    (State.runOn s c r0 x t).ldg = s.ldg ∧ (State.runOn s c r0 x t).free = s.free := by
  unfold State.runOn
  simp -implicitDefEqProofs
@[simp] theorem State.dutiesTo_frame {s : State} {c : Ch} {x : Rat} :
    (State.dutiesTo s c x).pending = s.pending ∧ (State.dutiesTo s c x).hid = s.hid ∧ (State.dutiesTo s c x).hub = s.hub ∧
    (State.dutiesTo s c x).links = s.links ∧ (State.dutiesTo s c x).chains = s.chains ∧
    (State.dutiesTo s c x).coef = s.coef ∧ (State.dutiesTo s c x).fold = s.fold ∧ (State.dutiesTo s c x).drv = s.drv ∧
    (State.dutiesTo s c x).ck = s.ck ∧ (State.dutiesTo s c x).sv = s.sv ∧ (State.dutiesTo s c x).fw = s.fw ∧
    (State.dutiesTo s c x).hk = s.hk ∧ (State.dutiesTo s c x).ldg = s.ldg := by
  unfold State.dutiesTo
  simp -implicitDefEqProofs
@[simp] theorem State.runStart_frame {s0 : State} {c : Ch} {t : Nat} {x : Rat} :
    (State.runStart s0 c t x).pending = s0.pending ∧ (State.runStart s0 c t x).hid = s0.hid ∧
    (State.runStart s0 c t x).hub = s0.hub ∧ (State.runStart s0 c t x).links = s0.links ∧
    (State.runStart s0 c t x).chains = s0.chains ∧ (State.runStart s0 c t x).coef = s0.coef ∧
    (State.runStart s0 c t x).fold = s0.fold ∧ (State.runStart s0 c t x).drv = s0.drv ∧
    (State.runStart s0 c t x).ck = s0.ck ∧ (State.runStart s0 c t x).sv = s0.sv ∧ (State.runStart s0 c t x).fw = s0.fw ∧
    (State.runStart s0 c t x).hk = s0.hk ∧ (State.runStart s0 c t x).ldg = s0.ldg := by
  unfold State.runStart
  try dsimp only
  (repeat' split) <;> simp -implicitDefEqProofs
@[simp] theorem State.runEdge_frame {s : State} {c : Ch} :
    (State.runEdge s c).pending = s.pending ∧ (State.runEdge s c).hid = s.hid ∧ (State.runEdge s c).hub = s.hub ∧
    (State.runEdge s c).links = s.links ∧ (State.runEdge s c).chains = s.chains ∧ (State.runEdge s c).coef = s.coef ∧
    (State.runEdge s c).fold = s.fold ∧ (State.runEdge s c).drv = s.drv ∧ (State.runEdge s c).ck = s.ck ∧
    (State.runEdge s c).sv = s.sv ∧ (State.runEdge s c).fw = s.fw ∧ (State.runEdge s c).hk = s.hk ∧
    (State.runEdge s c).ldg = s.ldg := by
  unfold State.runEdge
  (repeat' split) <;> simp -implicitDefEqProofs
@[simp] theorem State.runWritten_frame {s : State} {c : Ch} :
    (State.runWritten s c).pending = s.pending ∧ (State.runWritten s c).die = s.die ∧ (State.runWritten s c).hid = s.hid ∧
    (State.runWritten s c).hub = s.hub ∧ (State.runWritten s c).links = s.links ∧ (State.runWritten s c).chains = s.chains ∧
    (State.runWritten s c).coef = s.coef ∧ (State.runWritten s c).fold = s.fold ∧ (State.runWritten s c).drv = s.drv ∧
    (State.runWritten s c).ck = s.ck ∧ (State.runWritten s c).sv = s.sv ∧ (State.runWritten s c).fw = s.fw ∧
    (State.runWritten s c).hk = s.hk ∧ (State.runWritten s c).ldg = s.ldg := by
  unfold State.runWritten
  simp -implicitDefEqProofs
@[simp] theorem State.coincide_frame {s : State} {c : Ch} :
    (State.coincide s c).pending = s.pending ∧ (State.coincide s c).hid = s.hid ∧ (State.coincide s c).hub = s.hub ∧
    (State.coincide s c).links = s.links ∧ (State.coincide s c).chains = s.chains ∧ (State.coincide s c).coef = s.coef ∧
    (State.coincide s c).fold = s.fold ∧ (State.coincide s c).drv = s.drv ∧ (State.coincide s c).ck = s.ck ∧
    (State.coincide s c).sv = s.sv ∧ (State.coincide s c).fw = s.fw ∧ (State.coincide s c).hk = s.hk ∧
    (State.coincide s c).ldg = s.ldg := by
  unfold State.coincide
  try dsimp only
  (repeat' split) <;> simp -implicitDefEqProofs
@[simp] theorem State.reflexAt_pending {s : State} {c : Ch} {code : Nat} {k : State → Nat → State} {pwm : Bool} (h : ∀ (a0 : State) (a1 : Nat), (k a0 a1).pending = a0.pending) :
    (State.reflexAt s c code k pwm).pending = s.pending := by
  unfold State.reflexAt
  try dsimp only
  (repeat' split) <;> simp -implicitDefEqProofs [h]
@[simp] theorem State.reflexAt_hid {s : State} {c : Ch} {code : Nat} {k : State → Nat → State} {pwm : Bool} (h : ∀ (a0 : State) (a1 : Nat), (k a0 a1).hid = a0.hid) :
    (State.reflexAt s c code k pwm).hid = s.hid := by
  unfold State.reflexAt
  try dsimp only
  (repeat' split) <;> simp -implicitDefEqProofs [h]
@[simp] theorem State.reflexAt_hub {s : State} {c : Ch} {code : Nat} {k : State → Nat → State} {pwm : Bool} (h : ∀ (a0 : State) (a1 : Nat), (k a0 a1).hub = a0.hub) :
    (State.reflexAt s c code k pwm).hub = s.hub := by
  unfold State.reflexAt
  try dsimp only
  (repeat' split) <;> simp -implicitDefEqProofs [h]
@[simp] theorem State.reflexAt_links {s : State} {c : Ch} {code : Nat} {k : State → Nat → State} {pwm : Bool} (h : ∀ (a0 : State) (a1 : Nat), (k a0 a1).links = a0.links) :
    (State.reflexAt s c code k pwm).links = s.links := by
  unfold State.reflexAt
  try dsimp only
  (repeat' split) <;> simp -implicitDefEqProofs [h]
@[simp] theorem State.reflexAt_chains {s : State} {c : Ch} {code : Nat} {k : State → Nat → State} {pwm : Bool} (h : ∀ (a0 : State) (a1 : Nat), (k a0 a1).chains = a0.chains) :
    (State.reflexAt s c code k pwm).chains = s.chains := by
  unfold State.reflexAt
  try dsimp only
  (repeat' split) <;> simp -implicitDefEqProofs [h]
@[simp] theorem State.reflexAt_coef {s : State} {c : Ch} {code : Nat} {k : State → Nat → State} {pwm : Bool} (h : ∀ (a0 : State) (a1 : Nat), (k a0 a1).coef = a0.coef) :
    (State.reflexAt s c code k pwm).coef = s.coef := by
  unfold State.reflexAt
  try dsimp only
  (repeat' split) <;> simp -implicitDefEqProofs [h]
@[simp] theorem State.reflexAt_fold {s : State} {c : Ch} {code : Nat} {k : State → Nat → State} {pwm : Bool} (h : ∀ (a0 : State) (a1 : Nat), (k a0 a1).fold = a0.fold) :
    (State.reflexAt s c code k pwm).fold = s.fold := by
  unfold State.reflexAt
  try dsimp only
  (repeat' split) <;> simp -implicitDefEqProofs [h]
@[simp] theorem State.reflexAt_drv {s : State} {c : Ch} {code : Nat} {k : State → Nat → State} {pwm : Bool} (h : ∀ (a0 : State) (a1 : Nat), (k a0 a1).drv = a0.drv) :
    (State.reflexAt s c code k pwm).drv = s.drv := by
  unfold State.reflexAt
  try dsimp only
  (repeat' split) <;> simp -implicitDefEqProofs [h]
@[simp] theorem State.reflexAt_ck {s : State} {c : Ch} {code : Nat} {k : State → Nat → State} {pwm : Bool} (h : ∀ (a0 : State) (a1 : Nat), (k a0 a1).ck = a0.ck) :
    (State.reflexAt s c code k pwm).ck = s.ck := by
  unfold State.reflexAt
  try dsimp only
  (repeat' split) <;> simp -implicitDefEqProofs [h]
@[simp] theorem State.reflexAt_sv {s : State} {c : Ch} {code : Nat} {k : State → Nat → State} {pwm : Bool} (h : ∀ (a0 : State) (a1 : Nat), (k a0 a1).sv = a0.sv) :
    (State.reflexAt s c code k pwm).sv = s.sv := by
  unfold State.reflexAt
  try dsimp only
  (repeat' split) <;> simp -implicitDefEqProofs [h]
@[simp] theorem State.reflexAt_fw {s : State} {c : Ch} {code : Nat} {k : State → Nat → State} {pwm : Bool} (h : ∀ (a0 : State) (a1 : Nat), (k a0 a1).fw = a0.fw) :
    (State.reflexAt s c code k pwm).fw = s.fw := by
  unfold State.reflexAt
  try dsimp only
  (repeat' split) <;> simp -implicitDefEqProofs [h]
@[simp] theorem State.reflexAt_hk {s : State} {c : Ch} {code : Nat} {k : State → Nat → State} {pwm : Bool} (h : ∀ (a0 : State) (a1 : Nat), (k a0 a1).hk = a0.hk) :
    (State.reflexAt s c code k pwm).hk = s.hk := by
  unfold State.reflexAt
  try dsimp only
  (repeat' split) <;> simp -implicitDefEqProofs [h]
@[simp] theorem State.reflexAt_ldg {s : State} {c : Ch} {code : Nat} {k : State → Nat → State} {pwm : Bool} (h : ∀ (a0 : State) (a1 : Nat), (k a0 a1).ldg = a0.ldg) :
    (State.reflexAt s c code k pwm).ldg = s.ldg := by
  unfold State.reflexAt
  try dsimp only
  (repeat' split) <;> simp -implicitDefEqProofs [h]
@[simp] theorem State.followSource_frame {s : State} {c : Ch} :
    (State.followSource s c).pending = s.pending ∧ (State.followSource s c).die = s.die ∧
    (State.followSource s c).hid = s.hid ∧ (State.followSource s c).hub = s.hub ∧ (State.followSource s c).links = s.links ∧
    (State.followSource s c).chains = s.chains ∧ (State.followSource s c).coef = s.coef ∧
    (State.followSource s c).fold = s.fold ∧ (State.followSource s c).drv = s.drv ∧ (State.followSource s c).ck = s.ck ∧
    (State.followSource s c).sv = s.sv ∧ (State.followSource s c).fw = s.fw ∧ (State.followSource s c).hk = s.hk ∧
    (State.followSource s c).ldg = s.ldg := by
  unfold State.followSource
  simp -implicitDefEqProofs
@[simp] theorem State.filterStart_frame {s : State} {c : Ch} :
    (State.filterStart s c).pending = s.pending ∧ (State.filterStart s c).regs = s.regs ∧
    (State.filterStart s c).die = s.die ∧ (State.filterStart s c).hid = s.hid ∧ (State.filterStart s c).hub = s.hub ∧
    (State.filterStart s c).host = s.host ∧ (State.filterStart s c).links = s.links ∧
    (State.filterStart s c).dies = s.dies ∧ (State.filterStart s c).chains = s.chains ∧
    (State.filterStart s c).coef = s.coef ∧ (State.filterStart s c).fold = s.fold ∧ (State.filterStart s c).rfx = s.rfx ∧
    (State.filterStart s c).drv = s.drv ∧ (State.filterStart s c).ck = s.ck ∧ (State.filterStart s c).sv = s.sv ∧
    (State.filterStart s c).fw = s.fw ∧ (State.filterStart s c).hk = s.hk ∧ (State.filterStart s c).ldg = s.ldg ∧
    (State.filterStart s c).tk = s.tk ∧ (State.filterStart s c).free = s.free := by
  unfold State.filterStart
  simp -implicitDefEqProofs
@[simp] theorem State.compTo_frame {s : State} {c : Ch} {up : Bool} :
    (State.compTo s c up).pending = s.pending ∧ (State.compTo s c up).regs = s.regs ∧ (State.compTo s c up).die = s.die ∧
    (State.compTo s c up).hid = s.hid ∧ (State.compTo s c up).hub = s.hub ∧ (State.compTo s c up).host = s.host ∧
    (State.compTo s c up).links = s.links ∧ (State.compTo s c up).dies = s.dies ∧ (State.compTo s c up).chains = s.chains ∧
    (State.compTo s c up).coef = s.coef ∧ (State.compTo s c up).fold = s.fold ∧ (State.compTo s c up).rfx = s.rfx ∧
    (State.compTo s c up).drv = s.drv ∧ (State.compTo s c up).ck = s.ck ∧ (State.compTo s c up).sv = s.sv ∧
    (State.compTo s c up).fw = s.fw ∧ (State.compTo s c up).hk = s.hk ∧ (State.compTo s c up).ldg = s.ldg ∧
    (State.compTo s c up).tk = s.tk ∧ (State.compTo s c up).free = s.free := by
  unfold State.compTo
  simp -implicitDefEqProofs
@[simp] theorem State.stampEdge_frame {s : State} {c : Ch} {rising : Bool} :
    (State.stampEdge s c rising).pending = s.pending ∧ (State.stampEdge s c rising).regs = s.regs ∧
    (State.stampEdge s c rising).die = s.die ∧ (State.stampEdge s c rising).hid = s.hid ∧
    (State.stampEdge s c rising).hub = s.hub ∧ (State.stampEdge s c rising).host = s.host ∧
    (State.stampEdge s c rising).links = s.links ∧ (State.stampEdge s c rising).chans = s.chans ∧
    (State.stampEdge s c rising).chains = s.chains ∧ (State.stampEdge s c rising).coef = s.coef ∧
    (State.stampEdge s c rising).fold = s.fold ∧ (State.stampEdge s c rising).rfx = s.rfx ∧
    (State.stampEdge s c rising).drv = s.drv ∧ (State.stampEdge s c rising).ck = s.ck ∧
    (State.stampEdge s c rising).sv = s.sv ∧ (State.stampEdge s c rising).fw = s.fw ∧
    (State.stampEdge s c rising).hk = s.hk ∧ (State.stampEdge s c rising).ldg = s.ldg ∧
    (State.stampEdge s c rising).tk = s.tk ∧ (State.stampEdge s c rising).free = s.free := by
  unfold State.stampEdge
  simp -implicitDefEqProofs
@[simp] theorem State.tallyEdge_frame {s : State} {c : Ch} {rising : Bool} :
    (State.tallyEdge s c rising).pending = s.pending ∧ (State.tallyEdge s c rising).regs = s.regs ∧
    (State.tallyEdge s c rising).die = s.die ∧ (State.tallyEdge s c rising).hid = s.hid ∧
    (State.tallyEdge s c rising).hub = s.hub ∧ (State.tallyEdge s c rising).host = s.host ∧
    (State.tallyEdge s c rising).links = s.links ∧ (State.tallyEdge s c rising).chains = s.chains ∧
    (State.tallyEdge s c rising).coef = s.coef ∧ (State.tallyEdge s c rising).fold = s.fold ∧
    (State.tallyEdge s c rising).rfx = s.rfx ∧ (State.tallyEdge s c rising).drv = s.drv ∧
    (State.tallyEdge s c rising).ck = s.ck ∧ (State.tallyEdge s c rising).sv = s.sv ∧
    (State.tallyEdge s c rising).fw = s.fw ∧ (State.tallyEdge s c rising).hk = s.hk ∧
    (State.tallyEdge s c rising).ldg = s.ldg ∧ (State.tallyEdge s c rising).tk = s.tk ∧
    (State.tallyEdge s c rising).free = s.free := by
  unfold State.tallyEdge
  simp -implicitDefEqProofs
@[simp] theorem State.urgentEdge_frame {s : State} {c : Ch} {rising : Bool} :
    (State.urgentEdge s c rising).pending = s.pending ∧ (State.urgentEdge s c rising).regs = s.regs ∧
    (State.urgentEdge s c rising).die = s.die ∧ (State.urgentEdge s c rising).hid = s.hid ∧
    (State.urgentEdge s c rising).hub = s.hub ∧ (State.urgentEdge s c rising).host = s.host ∧
    (State.urgentEdge s c rising).links = s.links ∧ (State.urgentEdge s c rising).chans = s.chans ∧
    (State.urgentEdge s c rising).chains = s.chains ∧ (State.urgentEdge s c rising).coef = s.coef ∧
    (State.urgentEdge s c rising).fold = s.fold ∧ (State.urgentEdge s c rising).rfx = s.rfx ∧
    (State.urgentEdge s c rising).drv = s.drv ∧ (State.urgentEdge s c rising).ck = s.ck ∧
    (State.urgentEdge s c rising).sv = s.sv ∧ (State.urgentEdge s c rising).fw = s.fw ∧
    (State.urgentEdge s c rising).hk = s.hk ∧ (State.urgentEdge s c rising).ldg = s.ldg ∧
    (State.urgentEdge s c rising).tk = s.tk ∧ (State.urgentEdge s c rising).free = s.free := by
  unfold State.urgentEdge
  simp -implicitDefEqProofs
@[simp] theorem State.qualify_frame {s : State} {c : Ch} :
    (State.qualify s c).pending = s.pending ∧ (State.qualify s c).die = s.die ∧ (State.qualify s c).hid = s.hid ∧
    (State.qualify s c).hub = s.hub ∧ (State.qualify s c).links = s.links ∧ (State.qualify s c).chains = s.chains ∧
    (State.qualify s c).coef = s.coef ∧ (State.qualify s c).fold = s.fold ∧ (State.qualify s c).drv = s.drv ∧
    (State.qualify s c).ck = s.ck ∧ (State.qualify s c).sv = s.sv ∧ (State.qualify s c).fw = s.fw ∧
    (State.qualify s c).hk = s.hk ∧ (State.qualify s c).ldg = s.ldg := by
  unfold State.qualify
  simp -implicitDefEqProofs
@[simp] theorem State.compare1_frame {s0 : State} {c : Ch} {mv : Int} :
    (State.compare1 s0 c mv).pending = s0.pending ∧ (State.compare1 s0 c mv).die = s0.die ∧
    (State.compare1 s0 c mv).hid = s0.hid ∧ (State.compare1 s0 c mv).hub = s0.hub ∧
    (State.compare1 s0 c mv).links = s0.links ∧ (State.compare1 s0 c mv).chains = s0.chains ∧
    (State.compare1 s0 c mv).coef = s0.coef ∧ (State.compare1 s0 c mv).fold = s0.fold ∧
    (State.compare1 s0 c mv).drv = s0.drv ∧ (State.compare1 s0 c mv).ck = s0.ck ∧ (State.compare1 s0 c mv).sv = s0.sv ∧
    (State.compare1 s0 c mv).fw = s0.fw ∧ (State.compare1 s0 c mv).hk = s0.hk ∧ (State.compare1 s0 c mv).ldg = s0.ldg := by
  unfold State.compare1
  simp -implicitDefEqProofs
@[simp] theorem State.unqualify_frame {s : State} {c : Ch} {start : Bool} :
    (State.unqualify s c start).pending = s.pending ∧ (State.unqualify s c start).regs = s.regs ∧
    (State.unqualify s c start).die = s.die ∧ (State.unqualify s c start).hid = s.hid ∧
    (State.unqualify s c start).hub = s.hub ∧ (State.unqualify s c start).host = s.host ∧
    (State.unqualify s c start).links = s.links ∧ (State.unqualify s c start).dies = s.dies ∧
    (State.unqualify s c start).chains = s.chains ∧ (State.unqualify s c start).coef = s.coef ∧
    (State.unqualify s c start).fold = s.fold ∧ (State.unqualify s c start).rfx = s.rfx ∧
    (State.unqualify s c start).drv = s.drv ∧ (State.unqualify s c start).ck = s.ck ∧
    (State.unqualify s c start).sv = s.sv ∧ (State.unqualify s c start).fw = s.fw ∧ (State.unqualify s c start).hk = s.hk ∧
    (State.unqualify s c start).ldg = s.ldg ∧ (State.unqualify s c start).tk = s.tk ∧
    (State.unqualify s c start).free = s.free := by
  unfold State.unqualify
  simp -implicitDefEqProofs
@[simp] theorem State.tsLost_frame {s : State} {c : Ch} :
    (State.tsLost s c).pending = s.pending ∧ (State.tsLost s c).die = s.die ∧ (State.tsLost s c).hid = s.hid ∧
    (State.tsLost s c).hub = s.hub ∧ (State.tsLost s c).links = s.links ∧ (State.tsLost s c).dies = s.dies ∧
    (State.tsLost s c).chains = s.chains ∧ (State.tsLost s c).coef = s.coef ∧ (State.tsLost s c).fold = s.fold ∧
    (State.tsLost s c).rfx = s.rfx ∧ (State.tsLost s c).drv = s.drv ∧ (State.tsLost s c).ck = s.ck ∧
    (State.tsLost s c).sv = s.sv ∧ (State.tsLost s c).fw = s.fw ∧ (State.tsLost s c).hk = s.hk ∧
    (State.tsLost s c).ldg = s.ldg ∧ (State.tsLost s c).free = s.free := by
  unfold State.tsLost
  simp -implicitDefEqProofs
@[simp] theorem State.timestampIn_frame {s : State} {c : Ch} {rising : Bool} {epoch : Bool} {t : Nat} :
    (State.timestampIn s c rising epoch t).pending = s.pending ∧ (State.timestampIn s c rising epoch t).die = s.die ∧
    (State.timestampIn s c rising epoch t).hid = s.hid ∧ (State.timestampIn s c rising epoch t).hub = s.hub ∧
    (State.timestampIn s c rising epoch t).links = s.links ∧ (State.timestampIn s c rising epoch t).dies = s.dies ∧
    (State.timestampIn s c rising epoch t).chains = s.chains ∧ (State.timestampIn s c rising epoch t).coef = s.coef ∧
    (State.timestampIn s c rising epoch t).fold = s.fold ∧ (State.timestampIn s c rising epoch t).rfx = s.rfx ∧
    (State.timestampIn s c rising epoch t).drv = s.drv ∧ (State.timestampIn s c rising epoch t).ck = s.ck ∧
    (State.timestampIn s c rising epoch t).sv = s.sv ∧ (State.timestampIn s c rising epoch t).fw = s.fw ∧
    (State.timestampIn s c rising epoch t).hk = s.hk ∧ (State.timestampIn s c rising epoch t).ldg = s.ldg ∧
    (State.timestampIn s c rising epoch t).free = s.free := by
  unfold State.timestampIn
  (repeat' split) <;> simp -implicitDefEqProofs
@[simp] theorem State.tallyAdd_frame {s : State} {c : Ch} {a : Nat} :
    (State.tallyAdd s c a).pending = s.pending ∧ (State.tallyAdd s c a).die = s.die ∧ (State.tallyAdd s c a).hid = s.hid ∧
    (State.tallyAdd s c a).hub = s.hub ∧ (State.tallyAdd s c a).host = s.host ∧ (State.tallyAdd s c a).links = s.links ∧
    (State.tallyAdd s c a).dies = s.dies ∧ (State.tallyAdd s c a).chans = s.chans ∧
    (State.tallyAdd s c a).chains = s.chains ∧ (State.tallyAdd s c a).coef = s.coef ∧ (State.tallyAdd s c a).fold = s.fold ∧
    (State.tallyAdd s c a).rfx = s.rfx ∧ (State.tallyAdd s c a).drv = s.drv ∧ (State.tallyAdd s c a).ck = s.ck ∧
    (State.tallyAdd s c a).sv = s.sv ∧ (State.tallyAdd s c a).fw = s.fw ∧ (State.tallyAdd s c a).hk = s.hk ∧
    (State.tallyAdd s c a).ldg = s.ldg ∧ (State.tallyAdd s c a).free = s.free := by
  unfold State.tallyAdd
  simp -implicitDefEqProofs
@[simp] theorem State.tallyBase_frame {s : State} {c : Ch} :
    (State.tallyBase s c).pending = s.pending ∧ (State.tallyBase s c).die = s.die ∧ (State.tallyBase s c).hid = s.hid ∧
    (State.tallyBase s c).hub = s.hub ∧ (State.tallyBase s c).host = s.host ∧ (State.tallyBase s c).links = s.links ∧
    (State.tallyBase s c).dies = s.dies ∧ (State.tallyBase s c).chans = s.chans ∧ (State.tallyBase s c).chains = s.chains ∧
    (State.tallyBase s c).coef = s.coef ∧ (State.tallyBase s c).fold = s.fold ∧ (State.tallyBase s c).rfx = s.rfx ∧
    (State.tallyBase s c).drv = s.drv ∧ (State.tallyBase s c).ck = s.ck ∧ (State.tallyBase s c).sv = s.sv ∧
    (State.tallyBase s c).fw = s.fw ∧ (State.tallyBase s c).hk = s.hk ∧ (State.tallyBase s c).ldg = s.ldg ∧
    (State.tallyBase s c).free = s.free := by
  unfold State.tallyBase
  try dsimp only
  simp -implicitDefEqProofs
@[simp] theorem State.tickEnd_frame {s : State} :
    (State.tickEnd s).pending = s.pending ∧ (State.tickEnd s).die = s.die ∧ (State.tickEnd s).hid = s.hid ∧
    (State.tickEnd s).hub = s.hub ∧ (State.tickEnd s).host = s.host ∧ (State.tickEnd s).links = s.links ∧
    (State.tickEnd s).dies = s.dies ∧ (State.tickEnd s).chans = s.chans ∧ (State.tickEnd s).chains = s.chains ∧
    (State.tickEnd s).coef = s.coef ∧ (State.tickEnd s).fold = s.fold ∧ (State.tickEnd s).rfx = s.rfx ∧
    (State.tickEnd s).drv = s.drv ∧ (State.tickEnd s).ck = s.ck ∧ (State.tickEnd s).sv = s.sv ∧
    (State.tickEnd s).fw = s.fw ∧ (State.tickEnd s).hk = s.hk ∧ (State.tickEnd s).ldg = s.ldg ∧
    (State.tickEnd s).free = s.free := by
  unfold State.tickEnd
  simp -implicitDefEqProofs
@[simp] theorem State.tallyTransfer_frame {s : State} {c : Ch} {ok : Bool} :
    (State.tallyTransfer s c ok).pending = s.pending ∧ (State.tallyTransfer s c ok).die = s.die ∧
    (State.tallyTransfer s c ok).hid = s.hid ∧ (State.tallyTransfer s c ok).hub = s.hub ∧
    (State.tallyTransfer s c ok).host = s.host ∧ (State.tallyTransfer s c ok).links = s.links ∧
    (State.tallyTransfer s c ok).chains = s.chains ∧ (State.tallyTransfer s c ok).coef = s.coef ∧
    (State.tallyTransfer s c ok).fold = s.fold ∧ (State.tallyTransfer s c ok).rfx = s.rfx ∧
    (State.tallyTransfer s c ok).drv = s.drv ∧ (State.tallyTransfer s c ok).ck = s.ck ∧
    (State.tallyTransfer s c ok).sv = s.sv ∧ (State.tallyTransfer s c ok).fw = s.fw ∧
    (State.tallyTransfer s c ok).hk = s.hk ∧ (State.tallyTransfer s c ok).ldg = s.ldg ∧
    (State.tallyTransfer s c ok).free = s.free := by
  unfold State.tallyTransfer
  simp -implicitDefEqProofs
@[simp] theorem State.tallyAcked_frame {s : State} {c : Ch} {t : Bool} :
    (State.tallyAcked s c t).pending = s.pending ∧ (State.tallyAcked s c t).regs = s.regs ∧
    (State.tallyAcked s c t).die = s.die ∧ (State.tallyAcked s c t).hid = s.hid ∧ (State.tallyAcked s c t).hub = s.hub ∧
    (State.tallyAcked s c t).host = s.host ∧ (State.tallyAcked s c t).links = s.links ∧
    (State.tallyAcked s c t).dies = s.dies ∧ (State.tallyAcked s c t).chains = s.chains ∧
    (State.tallyAcked s c t).coef = s.coef ∧ (State.tallyAcked s c t).fold = s.fold ∧ (State.tallyAcked s c t).rfx = s.rfx ∧
    (State.tallyAcked s c t).drv = s.drv ∧ (State.tallyAcked s c t).ck = s.ck ∧ (State.tallyAcked s c t).sv = s.sv ∧
    (State.tallyAcked s c t).fw = s.fw ∧ (State.tallyAcked s c t).hk = s.hk ∧ (State.tallyAcked s c t).ldg = s.ldg ∧
    (State.tallyAcked s c t).tk = s.tk ∧ (State.tallyAcked s c t).free = s.free := by
  unfold State.tallyAcked
  (repeat' split) <;> simp -implicitDefEqProofs
@[simp] theorem State.wireBreak_frame {s : State} {c : Ch} {on : Bool} {ua : Nat} :
    (State.wireBreak s c on ua).pending = s.pending ∧ (State.wireBreak s c on ua).regs = s.regs ∧
    (State.wireBreak s c on ua).hid = s.hid ∧ (State.wireBreak s c on ua).hub = s.hub ∧
    (State.wireBreak s c on ua).host = s.host ∧ (State.wireBreak s c on ua).links = s.links ∧
    (State.wireBreak s c on ua).chans = s.chans ∧ (State.wireBreak s c on ua).chains = s.chains ∧
    (State.wireBreak s c on ua).coef = s.coef ∧ (State.wireBreak s c on ua).fold = s.fold ∧
    (State.wireBreak s c on ua).rfx = s.rfx ∧ (State.wireBreak s c on ua).drv = s.drv ∧
    (State.wireBreak s c on ua).ck = s.ck ∧ (State.wireBreak s c on ua).sv = s.sv ∧ (State.wireBreak s c on ua).fw = s.fw ∧
    (State.wireBreak s c on ua).hk = s.hk ∧ (State.wireBreak s c on ua).ldg = s.ldg ∧
    (State.wireBreak s c on ua).tk = s.tk := by
  unfold State.wireBreak
  simp -implicitDefEqProofs
@[simp] theorem State.inCfgWritten_frame {s : State} {c : Ch} :
    (State.inCfgWritten s c).pending = s.pending ∧ (State.inCfgWritten s c).regs = s.regs ∧
    (State.inCfgWritten s c).hid = s.hid ∧ (State.inCfgWritten s c).hub = s.hub ∧ (State.inCfgWritten s c).host = s.host ∧
    (State.inCfgWritten s c).links = s.links ∧ (State.inCfgWritten s c).dies = s.dies ∧
    (State.inCfgWritten s c).chains = s.chains ∧ (State.inCfgWritten s c).coef = s.coef ∧
    (State.inCfgWritten s c).fold = s.fold ∧ (State.inCfgWritten s c).rfx = s.rfx ∧ (State.inCfgWritten s c).drv = s.drv ∧
    (State.inCfgWritten s c).ck = s.ck ∧ (State.inCfgWritten s c).sv = s.sv ∧ (State.inCfgWritten s c).fw = s.fw ∧
    (State.inCfgWritten s c).hk = s.hk ∧ (State.inCfgWritten s c).ldg = s.ldg ∧ (State.inCfgWritten s c).tk = s.tk ∧
    (State.inCfgWritten s c).free = s.free := by
  unfold State.inCfgWritten
  simp -implicitDefEqProofs
@[simp] theorem State.settleAll_frame {s : State} {g : Grp} :
    (State.settleAll s g).pending = s.pending ∧ (State.settleAll s g).hid = s.hid ∧ (State.settleAll s g).hub = s.hub ∧
    (State.settleAll s g).links = s.links ∧ (State.settleAll s g).chains = s.chains ∧ (State.settleAll s g).coef = s.coef ∧
    (State.settleAll s g).fold = s.fold ∧ (State.settleAll s g).drv = s.drv ∧ (State.settleAll s g).ck = s.ck ∧
    (State.settleAll s g).sv = s.sv ∧ (State.settleAll s g).fw = s.fw ∧ (State.settleAll s g).hk = s.hk ∧
    (State.settleAll s g).ldg = s.ldg := by
  unfold State.settleAll
  simp -implicitDefEqProofs
@[simp] theorem State.pullDown_frame {s : State} {g : Grp} :
    (State.pullDown s g).pending = s.pending ∧ (State.pullDown s g).die = s.die ∧ (State.pullDown s g).hid = s.hid ∧
    (State.pullDown s g).hub = s.hub ∧ (State.pullDown s g).links = s.links ∧ (State.pullDown s g).dies = s.dies ∧
    (State.pullDown s g).chains = s.chains ∧ (State.pullDown s g).coef = s.coef ∧ (State.pullDown s g).fold = s.fold ∧
    (State.pullDown s g).drv = s.drv ∧ (State.pullDown s g).ck = s.ck ∧ (State.pullDown s g).sv = s.sv ∧
    (State.pullDown s g).fw = s.fw ∧ (State.pullDown s g).hk = s.hk ∧ (State.pullDown s g).ldg = s.ldg ∧
    (State.pullDown s g).free = s.free := by
  unfold State.pullDown
  simp -implicitDefEqProofs
@[simp] theorem State.safeReport_frame {s : State} {g : Grp} {on : Bool} {cause : Nat} :
    (State.safeReport s g on cause).pending = s.pending ∧ (State.safeReport s g on cause).regs = s.regs ∧
    (State.safeReport s g on cause).die = s.die ∧ (State.safeReport s g on cause).hid = s.hid ∧
    (State.safeReport s g on cause).hub = s.hub ∧ (State.safeReport s g on cause).host = s.host ∧
    (State.safeReport s g on cause).links = s.links ∧ (State.safeReport s g on cause).chans = s.chans ∧
    (State.safeReport s g on cause).chains = s.chains ∧ (State.safeReport s g on cause).coef = s.coef ∧
    (State.safeReport s g on cause).fold = s.fold ∧ (State.safeReport s g on cause).rfx = s.rfx ∧
    (State.safeReport s g on cause).drv = s.drv ∧ (State.safeReport s g on cause).ck = s.ck ∧
    (State.safeReport s g on cause).sv = s.sv ∧ (State.safeReport s g on cause).fw = s.fw ∧
    (State.safeReport s g on cause).hk = s.hk ∧ (State.safeReport s g on cause).ldg = s.ldg ∧
    (State.safeReport s g on cause).tk = s.tk := by
  unfold State.safeReport
  simp -implicitDefEqProofs
@[simp] theorem State.safeEnter_frame {s : State} {g : Grp} {cause : Nat} :
    (State.safeEnter s g cause).pending = s.pending ∧ (State.safeEnter s g cause).hid = s.hid ∧
    (State.safeEnter s g cause).hub = s.hub ∧ (State.safeEnter s g cause).links = s.links ∧
    (State.safeEnter s g cause).chains = s.chains ∧ (State.safeEnter s g cause).coef = s.coef ∧
    (State.safeEnter s g cause).fold = s.fold ∧ (State.safeEnter s g cause).drv = s.drv ∧
    (State.safeEnter s g cause).ck = s.ck ∧ (State.safeEnter s g cause).sv = s.sv ∧ (State.safeEnter s g cause).fw = s.fw ∧
    (State.safeEnter s g cause).hk = s.hk ∧ (State.safeEnter s g cause).ldg = s.ldg := by
  unfold State.safeEnter
  simp -implicitDefEqProofs
@[simp] theorem State.safeRelease_frame {s : State} {g : Grp} :
    (State.safeRelease s g).pending = s.pending ∧ (State.safeRelease s g).hid = s.hid ∧
    (State.safeRelease s g).hub = s.hub ∧ (State.safeRelease s g).links = s.links ∧
    (State.safeRelease s g).chains = s.chains ∧ (State.safeRelease s g).coef = s.coef ∧
    (State.safeRelease s g).fold = s.fold ∧ (State.safeRelease s g).drv = s.drv ∧ (State.safeRelease s g).ck = s.ck ∧
    (State.safeRelease s g).sv = s.sv ∧ (State.safeRelease s g).fw = s.fw ∧ (State.safeRelease s g).hk = s.hk ∧
    (State.safeRelease s g).ldg = s.ldg := by
  unfold State.safeRelease
  simp -implicitDefEqProofs
@[simp] theorem State.regridAll_frame {s : State} {g : Grp} :
    (State.regridAll s g).pending = s.pending ∧ (State.regridAll s g).regs = s.regs ∧ (State.regridAll s g).die = s.die ∧
    (State.regridAll s g).hid = s.hid ∧ (State.regridAll s g).hub = s.hub ∧ (State.regridAll s g).host = s.host ∧
    (State.regridAll s g).links = s.links ∧ (State.regridAll s g).dies = s.dies ∧ (State.regridAll s g).chains = s.chains ∧
    (State.regridAll s g).coef = s.coef ∧ (State.regridAll s g).fold = s.fold ∧ (State.regridAll s g).rfx = s.rfx ∧
    (State.regridAll s g).drv = s.drv ∧ (State.regridAll s g).ck = s.ck ∧ (State.regridAll s g).sv = s.sv ∧
    (State.regridAll s g).fw = s.fw ∧ (State.regridAll s g).hk = s.hk ∧ (State.regridAll s g).ldg = s.ldg ∧
    (State.regridAll s g).tk = s.tk ∧ (State.regridAll s g).free = s.free := by
  unfold State.regridAll
  simp -implicitDefEqProofs
@[simp] theorem State.mclkLock_frame {s : State} {g : Grp} :
    (State.mclkLock s g).pending = s.pending ∧ (State.mclkLock s g).regs = s.regs ∧ (State.mclkLock s g).die = s.die ∧
    (State.mclkLock s g).hid = s.hid ∧ (State.mclkLock s g).hub = s.hub ∧ (State.mclkLock s g).host = s.host ∧
    (State.mclkLock s g).chains = s.chains ∧ (State.mclkLock s g).coef = s.coef ∧ (State.mclkLock s g).fold = s.fold ∧
    (State.mclkLock s g).rfx = s.rfx ∧ (State.mclkLock s g).drv = s.drv ∧ (State.mclkLock s g).ck = s.ck ∧
    (State.mclkLock s g).sv = s.sv ∧ (State.mclkLock s g).fw = s.fw ∧ (State.mclkLock s g).hk = s.hk ∧
    (State.mclkLock s g).ldg = s.ldg ∧ (State.mclkLock s g).tk = s.tk := by
  unfold State.mclkLock
  simp -implicitDefEqProofs
@[simp] theorem State.limpReport_frame {s : State} {g : Grp} {on : Bool} :
    (State.limpReport s g on).pending = s.pending ∧ (State.limpReport s g on).regs = s.regs ∧
    (State.limpReport s g on).die = s.die ∧ (State.limpReport s g on).hid = s.hid ∧ (State.limpReport s g on).hub = s.hub ∧
    (State.limpReport s g on).host = s.host ∧ (State.limpReport s g on).links = s.links ∧
    (State.limpReport s g on).chans = s.chans ∧ (State.limpReport s g on).chains = s.chains ∧
    (State.limpReport s g on).coef = s.coef ∧ (State.limpReport s g on).fold = s.fold ∧
    (State.limpReport s g on).rfx = s.rfx ∧ (State.limpReport s g on).drv = s.drv ∧ (State.limpReport s g on).ck = s.ck ∧
    (State.limpReport s g on).sv = s.sv ∧ (State.limpReport s g on).fw = s.fw ∧ (State.limpReport s g on).hk = s.hk ∧
    (State.limpReport s g on).ldg = s.ldg ∧ (State.limpReport s g on).tk = s.tk := by
  unfold State.limpReport
  simp -implicitDefEqProofs
@[simp] theorem State.limpCheck_frame {s : State} {g : Grp} :
    (State.limpCheck s g).pending = s.pending ∧ (State.limpCheck s g).die = s.die ∧ (State.limpCheck s g).hid = s.hid ∧
    (State.limpCheck s g).hub = s.hub ∧ (State.limpCheck s g).links = s.links ∧ (State.limpCheck s g).chains = s.chains ∧
    (State.limpCheck s g).coef = s.coef ∧ (State.limpCheck s g).fold = s.fold ∧ (State.limpCheck s g).drv = s.drv ∧
    (State.limpCheck s g).ck = s.ck ∧ (State.limpCheck s g).sv = s.sv ∧ (State.limpCheck s g).fw = s.fw ∧
    (State.limpCheck s g).hk = s.hk ∧ (State.limpCheck s g).ldg = s.ldg := by
  unfold State.limpCheck
  simp -implicitDefEqProofs
@[simp] theorem State.limpPinTo_frame {s : State} {g : Grp} {high : Bool} :
    (State.limpPinTo s g high).pending = s.pending ∧ (State.limpPinTo s g high).regs = s.regs ∧
    (State.limpPinTo s g high).die = s.die ∧ (State.limpPinTo s g high).hid = s.hid ∧
    (State.limpPinTo s g high).hub = s.hub ∧ (State.limpPinTo s g high).host = s.host ∧
    (State.limpPinTo s g high).links = s.links ∧ (State.limpPinTo s g high).chans = s.chans ∧
    (State.limpPinTo s g high).chains = s.chains ∧ (State.limpPinTo s g high).coef = s.coef ∧
    (State.limpPinTo s g high).fold = s.fold ∧ (State.limpPinTo s g high).rfx = s.rfx ∧
    (State.limpPinTo s g high).drv = s.drv ∧ (State.limpPinTo s g high).ck = s.ck ∧ (State.limpPinTo s g high).sv = s.sv ∧
    (State.limpPinTo s g high).fw = s.fw ∧ (State.limpPinTo s g high).hk = s.hk ∧ (State.limpPinTo s g high).ldg = s.ldg ∧
    (State.limpPinTo s g high).tk = s.tk ∧ (State.limpPinTo s g high).free = s.free := by
  unfold State.limpPinTo
  simp -implicitDefEqProofs
@[simp] theorem State.limpTake_pending {s : State} {g : Grp} {high : Bool} {k : State → State} (h : ∀ (a0 : State), (k a0).pending = a0.pending) :
    (State.limpTake s g high k).pending = s.pending := by
  unfold State.limpTake
  simp -implicitDefEqProofs [h]
@[simp] theorem State.limpTake_regs {s : State} {g : Grp} {high : Bool} {k : State → State} (h : ∀ (a0 : State), (k a0).regs = a0.regs) :
    (State.limpTake s g high k).regs = s.regs := by
  unfold State.limpTake
  simp -implicitDefEqProofs [h]
@[simp] theorem State.limpTake_die {s : State} {g : Grp} {high : Bool} {k : State → State} (h : ∀ (a0 : State), (k a0).die = a0.die) :
    (State.limpTake s g high k).die = s.die := by
  unfold State.limpTake
  simp -implicitDefEqProofs [h]
@[simp] theorem State.limpTake_hid {s : State} {g : Grp} {high : Bool} {k : State → State} (h : ∀ (a0 : State), (k a0).hid = a0.hid) :
    (State.limpTake s g high k).hid = s.hid := by
  unfold State.limpTake
  simp -implicitDefEqProofs [h]
@[simp] theorem State.limpTake_hub {s : State} {g : Grp} {high : Bool} {k : State → State} (h : ∀ (a0 : State), (k a0).hub = a0.hub) :
    (State.limpTake s g high k).hub = s.hub := by
  unfold State.limpTake
  simp -implicitDefEqProofs [h]
@[simp] theorem State.limpTake_host {s : State} {g : Grp} {high : Bool} {k : State → State} (h : ∀ (a0 : State), (k a0).host = a0.host) :
    (State.limpTake s g high k).host = s.host := by
  unfold State.limpTake
  simp -implicitDefEqProofs [h]
@[simp] theorem State.limpTake_links {s : State} {g : Grp} {high : Bool} {k : State → State} (h : ∀ (a0 : State), (k a0).links = a0.links) :
    (State.limpTake s g high k).links = s.links := by
  unfold State.limpTake
  simp -implicitDefEqProofs [h]
@[simp] theorem State.limpTake_chans {s : State} {g : Grp} {high : Bool} {k : State → State} (h : ∀ (a0 : State), (k a0).chans = a0.chans) :
    (State.limpTake s g high k).chans = s.chans := by
  unfold State.limpTake
  simp -implicitDefEqProofs [h]
@[simp] theorem State.limpTake_chains {s : State} {g : Grp} {high : Bool} {k : State → State} (h : ∀ (a0 : State), (k a0).chains = a0.chains) :
    (State.limpTake s g high k).chains = s.chains := by
  unfold State.limpTake
  simp -implicitDefEqProofs [h]
@[simp] theorem State.limpTake_coef {s : State} {g : Grp} {high : Bool} {k : State → State} (h : ∀ (a0 : State), (k a0).coef = a0.coef) :
    (State.limpTake s g high k).coef = s.coef := by
  unfold State.limpTake
  simp -implicitDefEqProofs [h]
@[simp] theorem State.limpTake_fold {s : State} {g : Grp} {high : Bool} {k : State → State} (h : ∀ (a0 : State), (k a0).fold = a0.fold) :
    (State.limpTake s g high k).fold = s.fold := by
  unfold State.limpTake
  simp -implicitDefEqProofs [h]
@[simp] theorem State.limpTake_rfx {s : State} {g : Grp} {high : Bool} {k : State → State} (h : ∀ (a0 : State), (k a0).rfx = a0.rfx) :
    (State.limpTake s g high k).rfx = s.rfx := by
  unfold State.limpTake
  simp -implicitDefEqProofs [h]
@[simp] theorem State.limpTake_drv {s : State} {g : Grp} {high : Bool} {k : State → State} (h : ∀ (a0 : State), (k a0).drv = a0.drv) :
    (State.limpTake s g high k).drv = s.drv := by
  unfold State.limpTake
  simp -implicitDefEqProofs [h]
@[simp] theorem State.limpTake_ck {s : State} {g : Grp} {high : Bool} {k : State → State} (h : ∀ (a0 : State), (k a0).ck = a0.ck) :
    (State.limpTake s g high k).ck = s.ck := by
  unfold State.limpTake
  simp -implicitDefEqProofs [h]
@[simp] theorem State.limpTake_sv {s : State} {g : Grp} {high : Bool} {k : State → State} (h : ∀ (a0 : State), (k a0).sv = a0.sv) :
    (State.limpTake s g high k).sv = s.sv := by
  unfold State.limpTake
  simp -implicitDefEqProofs [h]
@[simp] theorem State.limpTake_fw {s : State} {g : Grp} {high : Bool} {k : State → State} (h : ∀ (a0 : State), (k a0).fw = a0.fw) :
    (State.limpTake s g high k).fw = s.fw := by
  unfold State.limpTake
  simp -implicitDefEqProofs [h]
@[simp] theorem State.limpTake_hk {s : State} {g : Grp} {high : Bool} {k : State → State} (h : ∀ (a0 : State), (k a0).hk = a0.hk) :
    (State.limpTake s g high k).hk = s.hk := by
  unfold State.limpTake
  simp -implicitDefEqProofs [h]
@[simp] theorem State.limpTake_ldg {s : State} {g : Grp} {high : Bool} {k : State → State} (h : ∀ (a0 : State), (k a0).ldg = a0.ldg) :
    (State.limpTake s g high k).ldg = s.ldg := by
  unfold State.limpTake
  simp -implicitDefEqProofs [h]
@[simp] theorem State.limpTake_tk {s : State} {g : Grp} {high : Bool} {k : State → State} (h : ∀ (a0 : State), (k a0).tk = a0.tk) :
    (State.limpTake s g high k).tk = s.tk := by
  unfold State.limpTake
  simp -implicitDefEqProofs [h]
@[simp] theorem State.limpTake_free {s : State} {g : Grp} {high : Bool} {k : State → State} (h : ∀ (a0 : State), (k a0).free = a0.free) :
    (State.limpTake s g high k).free = s.free := by
  unfold State.limpTake
  simp -implicitDefEqProofs [h]
@[simp] theorem State.limpEnd_frame {s : State} {g : Grp} :
    (State.limpEnd s g).pending = s.pending ∧ (State.limpEnd s g).die = s.die ∧ (State.limpEnd s g).hid = s.hid ∧
    (State.limpEnd s g).hub = s.hub ∧ (State.limpEnd s g).links = s.links ∧ (State.limpEnd s g).chains = s.chains ∧
    (State.limpEnd s g).coef = s.coef ∧ (State.limpEnd s g).fold = s.fold ∧ (State.limpEnd s g).drv = s.drv ∧
    (State.limpEnd s g).ck = s.ck ∧ (State.limpEnd s g).sv = s.sv ∧ (State.limpEnd s g).fw = s.fw ∧
    (State.limpEnd s g).hk = s.hk ∧ (State.limpEnd s g).ldg = s.ldg := by
  unfold State.limpEnd
  simp -implicitDefEqProofs
@[simp] theorem State.supplyRead_frame {s : State} {g : Grp} {lp : Int} {hold : Nat} :
    (State.supplyRead s g lp hold).pending = s.pending ∧ (State.supplyRead s g lp hold).regs = s.regs ∧
    (State.supplyRead s g lp hold).hid = s.hid ∧ (State.supplyRead s g lp hold).hub = s.hub ∧
    (State.supplyRead s g lp hold).host = s.host ∧ (State.supplyRead s g lp hold).links = s.links ∧
    (State.supplyRead s g lp hold).dies = s.dies ∧ (State.supplyRead s g lp hold).chans = s.chans ∧
    (State.supplyRead s g lp hold).chains = s.chains ∧ (State.supplyRead s g lp hold).coef = s.coef ∧
    (State.supplyRead s g lp hold).fold = s.fold ∧ (State.supplyRead s g lp hold).rfx = s.rfx ∧
    (State.supplyRead s g lp hold).drv = s.drv ∧ (State.supplyRead s g lp hold).ck = s.ck ∧
    (State.supplyRead s g lp hold).sv = s.sv ∧ (State.supplyRead s g lp hold).fw = s.fw ∧
    (State.supplyRead s g lp hold).hk = s.hk ∧ (State.supplyRead s g lp hold).ldg = s.ldg ∧
    (State.supplyRead s g lp hold).tk = s.tk ∧ (State.supplyRead s g lp hold).free = s.free := by
  unfold State.supplyRead
  simp -implicitDefEqProofs
@[simp] theorem State.supplyEvent_frame {s : State} {g : Grp} {e : Nat} {lp : Int} {hold : Nat} :
    (State.supplyEvent s g e lp hold).pending = s.pending ∧ (State.supplyEvent s g e lp hold).regs = s.regs ∧
    (State.supplyEvent s g e lp hold).die = s.die ∧ (State.supplyEvent s g e lp hold).hid = s.hid ∧
    (State.supplyEvent s g e lp hold).hub = s.hub ∧ (State.supplyEvent s g e lp hold).host = s.host ∧
    (State.supplyEvent s g e lp hold).links = s.links ∧ (State.supplyEvent s g e lp hold).chans = s.chans ∧
    (State.supplyEvent s g e lp hold).chains = s.chains ∧ (State.supplyEvent s g e lp hold).coef = s.coef ∧
    (State.supplyEvent s g e lp hold).fold = s.fold ∧ (State.supplyEvent s g e lp hold).rfx = s.rfx ∧
    (State.supplyEvent s g e lp hold).drv = s.drv ∧ (State.supplyEvent s g e lp hold).ck = s.ck ∧
    (State.supplyEvent s g e lp hold).sv = s.sv ∧ (State.supplyEvent s g e lp hold).fw = s.fw ∧
    (State.supplyEvent s g e lp hold).hk = s.hk ∧ (State.supplyEvent s g e lp hold).ldg = s.ldg ∧
    (State.supplyEvent s g e lp hold).tk = s.tk := by
  unfold State.supplyEvent
  simp -implicitDefEqProofs
@[simp] theorem State.supplyOff_frame {s : State} {g : Grp} {k : Die → Die} :
    (State.supplyOff s g k).pending = s.pending ∧ (State.supplyOff s g k).hid = s.hid ∧
    (State.supplyOff s g k).hub = s.hub ∧ (State.supplyOff s g k).links = s.links ∧
    (State.supplyOff s g k).chains = s.chains ∧ (State.supplyOff s g k).coef = s.coef ∧
    (State.supplyOff s g k).fold = s.fold ∧ (State.supplyOff s g k).drv = s.drv ∧ (State.supplyOff s g k).ck = s.ck ∧
    (State.supplyOff s g k).sv = s.sv ∧ (State.supplyOff s g k).fw = s.fw ∧ (State.supplyOff s g k).hk = s.hk ∧
    (State.supplyOff s g k).ldg = s.ldg ∧ (State.supplyOff s g k).free = s.free := by
  unfold State.supplyOff
  simp -implicitDefEqProofs
@[simp] theorem State.supplyRelease_frame {s : State} {g : Grp} {lp : Int} {hold : Nat} :
    (State.supplyRelease s g lp hold).pending = s.pending ∧ (State.supplyRelease s g lp hold).regs = s.regs ∧
    (State.supplyRelease s g lp hold).hid = s.hid ∧ (State.supplyRelease s g lp hold).hub = s.hub ∧
    (State.supplyRelease s g lp hold).host = s.host ∧ (State.supplyRelease s g lp hold).links = s.links ∧
    (State.supplyRelease s g lp hold).chains = s.chains ∧ (State.supplyRelease s g lp hold).coef = s.coef ∧
    (State.supplyRelease s g lp hold).fold = s.fold ∧ (State.supplyRelease s g lp hold).rfx = s.rfx ∧
    (State.supplyRelease s g lp hold).drv = s.drv ∧ (State.supplyRelease s g lp hold).ck = s.ck ∧
    (State.supplyRelease s g lp hold).sv = s.sv ∧ (State.supplyRelease s g lp hold).fw = s.fw ∧
    (State.supplyRelease s g lp hold).hk = s.hk ∧ (State.supplyRelease s g lp hold).ldg = s.ldg ∧
    (State.supplyRelease s g lp hold).tk = s.tk := by
  unfold State.supplyRelease
  simp -implicitDefEqProofs
@[simp] theorem State.releaseIf_frame {s : State} {g : Grp} {was : Bool} {lp : Int} {hold : Nat} :
    (State.releaseIf s g was lp hold).pending = s.pending ∧ (State.releaseIf s g was lp hold).regs = s.regs ∧
    (State.releaseIf s g was lp hold).hid = s.hid ∧ (State.releaseIf s g was lp hold).hub = s.hub ∧
    (State.releaseIf s g was lp hold).host = s.host ∧ (State.releaseIf s g was lp hold).links = s.links ∧
    (State.releaseIf s g was lp hold).chains = s.chains ∧ (State.releaseIf s g was lp hold).coef = s.coef ∧
    (State.releaseIf s g was lp hold).fold = s.fold ∧ (State.releaseIf s g was lp hold).rfx = s.rfx ∧
    (State.releaseIf s g was lp hold).drv = s.drv ∧ (State.releaseIf s g was lp hold).ck = s.ck ∧
    (State.releaseIf s g was lp hold).sv = s.sv ∧ (State.releaseIf s g was lp hold).fw = s.fw ∧
    (State.releaseIf s g was lp hold).hk = s.hk ∧ (State.releaseIf s g was lp hold).ldg = s.ldg ∧
    (State.releaseIf s g was lp hold).tk = s.tk := by
  unfold State.releaseIf
  simp -implicitDefEqProofs
@[simp] theorem State.supplyAckDie_frame {s : State} {g : Grp} :
    (State.supplyAckDie s g).pending = s.pending ∧ (State.supplyAckDie s g).regs = s.regs ∧
    (State.supplyAckDie s g).hid = s.hid ∧ (State.supplyAckDie s g).hub = s.hub ∧ (State.supplyAckDie s g).host = s.host ∧
    (State.supplyAckDie s g).links = s.links ∧ (State.supplyAckDie s g).chans = s.chans ∧
    (State.supplyAckDie s g).chains = s.chains ∧ (State.supplyAckDie s g).coef = s.coef ∧
    (State.supplyAckDie s g).fold = s.fold ∧ (State.supplyAckDie s g).rfx = s.rfx ∧ (State.supplyAckDie s g).drv = s.drv ∧
    (State.supplyAckDie s g).ck = s.ck ∧ (State.supplyAckDie s g).sv = s.sv ∧ (State.supplyAckDie s g).fw = s.fw ∧
    (State.supplyAckDie s g).hk = s.hk ∧ (State.supplyAckDie s g).ldg = s.ldg ∧ (State.supplyAckDie s g).tk = s.tk ∧
    (State.supplyAckDie s g).free = s.free := by
  unfold State.supplyAckDie
  simp -implicitDefEqProofs
@[simp] theorem State.govUpdate_frame {s : State} :
    (State.govUpdate s).pending = s.pending ∧ (State.govUpdate s).die = s.die ∧ (State.govUpdate s).hid = s.hid ∧
    (State.govUpdate s).hub = s.hub ∧ (State.govUpdate s).host = s.host ∧ (State.govUpdate s).links = s.links ∧
    (State.govUpdate s).dies = s.dies ∧ (State.govUpdate s).chans = s.chans ∧ (State.govUpdate s).chains = s.chains ∧
    (State.govUpdate s).coef = s.coef ∧ (State.govUpdate s).fold = s.fold ∧ (State.govUpdate s).rfx = s.rfx ∧
    (State.govUpdate s).drv = s.drv ∧ (State.govUpdate s).ck = s.ck ∧ (State.govUpdate s).sv = s.sv ∧
    (State.govUpdate s).fw = s.fw ∧ (State.govUpdate s).hk = s.hk ∧ (State.govUpdate s).ldg = s.ldg ∧
    (State.govUpdate s).tk = s.tk ∧ (State.govUpdate s).free = s.free := by
  unfold State.govUpdate
  simp -implicitDefEqProofs
@[simp] theorem State.govRefused_frame {s : State} {rq : Req} {c : Ch} {new : Nat} :
    (State.govRefused s rq c new).pending = s.pending ∧ (State.govRefused s rq c new).die = s.die ∧
    (State.govRefused s rq c new).hid = s.hid ∧ (State.govRefused s rq c new).hub = s.hub ∧
    (State.govRefused s rq c new).links = s.links ∧ (State.govRefused s rq c new).dies = s.dies ∧
    (State.govRefused s rq c new).chans = s.chans ∧ (State.govRefused s rq c new).chains = s.chains ∧
    (State.govRefused s rq c new).coef = s.coef ∧ (State.govRefused s rq c new).fold = s.fold ∧
    (State.govRefused s rq c new).rfx = s.rfx ∧ (State.govRefused s rq c new).drv = s.drv ∧
    (State.govRefused s rq c new).ck = s.ck ∧ (State.govRefused s rq c new).sv = s.sv ∧
    (State.govRefused s rq c new).fw = s.fw ∧ (State.govRefused s rq c new).hk = s.hk ∧
    (State.govRefused s rq c new).free = s.free := by
  unfold State.govRefused
  simp -implicitDefEqProofs
@[simp] theorem State.supplyTakes_frame {s : State} {c : Ch} {v : Nat} :
    (State.supplyTakes s c v).pending = s.pending ∧ (State.supplyTakes s c v).regs = s.regs ∧
    (State.supplyTakes s c v).die = s.die ∧ (State.supplyTakes s c v).hid = s.hid ∧ (State.supplyTakes s c v).hub = s.hub ∧
    (State.supplyTakes s c v).host = s.host ∧ (State.supplyTakes s c v).links = s.links ∧
    (State.supplyTakes s c v).dies = s.dies ∧ (State.supplyTakes s c v).chains = s.chains ∧
    (State.supplyTakes s c v).coef = s.coef ∧ (State.supplyTakes s c v).fold = s.fold ∧
    (State.supplyTakes s c v).rfx = s.rfx ∧ (State.supplyTakes s c v).drv = s.drv ∧ (State.supplyTakes s c v).ck = s.ck ∧
    (State.supplyTakes s c v).sv = s.sv ∧ (State.supplyTakes s c v).fw = s.fw ∧ (State.supplyTakes s c v).hk = s.hk ∧
    (State.supplyTakes s c v).ldg = s.ldg ∧ (State.supplyTakes s c v).tk = s.tk ∧ (State.supplyTakes s c v).free = s.free := by
  unfold State.supplyTakes
  simp -implicitDefEqProofs
@[simp] theorem State.modeRefuse_frame {s : State} {c : Ch} {code : Nat} {m : Nat} :
    (State.modeRefuse s c code m).pending = s.pending ∧ (State.modeRefuse s c code m).die = s.die ∧
    (State.modeRefuse s c code m).hid = s.hid ∧ (State.modeRefuse s c code m).hub = s.hub ∧
    (State.modeRefuse s c code m).links = s.links ∧ (State.modeRefuse s c code m).dies = s.dies ∧
    (State.modeRefuse s c code m).chans = s.chans ∧ (State.modeRefuse s c code m).chains = s.chains ∧
    (State.modeRefuse s c code m).coef = s.coef ∧ (State.modeRefuse s c code m).fold = s.fold ∧
    (State.modeRefuse s c code m).rfx = s.rfx ∧ (State.modeRefuse s c code m).drv = s.drv ∧
    (State.modeRefuse s c code m).ck = s.ck ∧ (State.modeRefuse s c code m).sv = s.sv ∧
    (State.modeRefuse s c code m).fw = s.fw ∧ (State.modeRefuse s c code m).hk = s.hk ∧
    (State.modeRefuse s c code m).ldg = s.ldg ∧ (State.modeRefuse s c code m).free = s.free := by
  unfold State.modeRefuse
  simp -implicitDefEqProofs
@[simp] theorem State.servedUpdate_frame {s : State} {g : Grp} :
    (State.servedUpdate s g).pending = s.pending ∧ (State.servedUpdate s g).die = s.die ∧
    (State.servedUpdate s g).hid = s.hid ∧ (State.servedUpdate s g).hub = s.hub ∧ (State.servedUpdate s g).host = s.host ∧
    (State.servedUpdate s g).links = s.links ∧ (State.servedUpdate s g).dies = s.dies ∧
    (State.servedUpdate s g).chans = s.chans ∧ (State.servedUpdate s g).chains = s.chains ∧
    (State.servedUpdate s g).coef = s.coef ∧ (State.servedUpdate s g).fold = s.fold ∧ (State.servedUpdate s g).rfx = s.rfx ∧
    (State.servedUpdate s g).drv = s.drv ∧ (State.servedUpdate s g).ck = s.ck ∧ (State.servedUpdate s g).sv = s.sv ∧
    (State.servedUpdate s g).fw = s.fw ∧ (State.servedUpdate s g).hk = s.hk ∧ (State.servedUpdate s g).ldg = s.ldg ∧
    (State.servedUpdate s g).tk = s.tk ∧ (State.servedUpdate s g).free = s.free := by
  unfold State.servedUpdate
  simp -implicitDefEqProofs
@[simp] theorem State.modeBegin_frame {s : State} {c : Ch} :
    (State.modeBegin s c).pending = s.pending ∧ (State.modeBegin s c).die = s.die ∧ (State.modeBegin s c).hid = s.hid ∧
    (State.modeBegin s c).hub = s.hub ∧ (State.modeBegin s c).links = s.links ∧ (State.modeBegin s c).dies = s.dies ∧
    (State.modeBegin s c).chans = s.chans ∧ (State.modeBegin s c).chains = s.chains ∧ (State.modeBegin s c).coef = s.coef ∧
    (State.modeBegin s c).rfx = s.rfx ∧ (State.modeBegin s c).drv = s.drv ∧ (State.modeBegin s c).ck = s.ck ∧
    (State.modeBegin s c).sv = s.sv ∧ (State.modeBegin s c).fw = s.fw ∧ (State.modeBegin s c).hk = s.hk ∧
    (State.modeBegin s c).ldg = s.ldg ∧ (State.modeBegin s c).free = s.free := by
  unfold State.modeBegin
  simp -implicitDefEqProofs
@[simp] theorem State.modeWrite_frame {s : State} {rq : Req} {c : Ch} {m : Nat} {p : Nat} :
    (State.modeWrite s rq c m p).1.pending = s.pending ∧ (State.modeWrite s rq c m p).1.die = s.die ∧
    (State.modeWrite s rq c m p).1.hid = s.hid ∧ (State.modeWrite s rq c m p).1.hub = s.hub ∧
    (State.modeWrite s rq c m p).1.dies = s.dies ∧ (State.modeWrite s rq c m p).1.chains = s.chains ∧
    (State.modeWrite s rq c m p).1.coef = s.coef ∧ (State.modeWrite s rq c m p).1.rfx = s.rfx ∧
    (State.modeWrite s rq c m p).1.drv = s.drv ∧ (State.modeWrite s rq c m p).1.ck = s.ck ∧
    (State.modeWrite s rq c m p).1.sv = s.sv ∧ (State.modeWrite s rq c m p).1.fw = s.fw ∧
    (State.modeWrite s rq c m p).1.hk = s.hk ∧ (State.modeWrite s rq c m p).1.free = s.free := by
  unfold State.modeWrite
  try dsimp only
  (repeat' split) <;> simp_all -implicitDefEqProofs
@[simp] theorem State.modeReport_frame {s : State} {c : Ch} {m : Nat} {member : Bool} :
    (State.modeReport s c m member).2.pending = s.pending ∧ (State.modeReport s c m member).2.die = s.die ∧
    (State.modeReport s c m member).2.hid = s.hid ∧ (State.modeReport s c m member).2.hub = s.hub ∧
    (State.modeReport s c m member).2.links = s.links ∧ (State.modeReport s c m member).2.dies = s.dies ∧
    (State.modeReport s c m member).2.chans = s.chans ∧ (State.modeReport s c m member).2.coef = s.coef ∧
    (State.modeReport s c m member).2.fold = s.fold ∧ (State.modeReport s c m member).2.rfx = s.rfx ∧
    (State.modeReport s c m member).2.drv = s.drv ∧ (State.modeReport s c m member).2.ck = s.ck ∧
    (State.modeReport s c m member).2.sv = s.sv ∧ (State.modeReport s c m member).2.fw = s.fw ∧
    (State.modeReport s c m member).2.hk = s.hk ∧ (State.modeReport s c m member).2.ldg = s.ldg ∧
    (State.modeReport s c m member).2.free = s.free := by
  unfold State.modeReport
  simp -implicitDefEqProofs
@[simp] theorem State.parkStart_frame {s : State} {c : Ch} {m : Nat} {member : Bool} {load : Bool} :
    (State.parkStart s c m member load).pending = s.pending ∧ (State.parkStart s c m member load).hid = s.hid ∧
    (State.parkStart s c m member load).hub = s.hub ∧ (State.parkStart s c m member load).links = s.links ∧
    (State.parkStart s c m member load).coef = s.coef ∧ (State.parkStart s c m member load).fold = s.fold ∧
    (State.parkStart s c m member load).drv = s.drv ∧ (State.parkStart s c m member load).ck = s.ck ∧
    (State.parkStart s c m member load).sv = s.sv ∧ (State.parkStart s c m member load).fw = s.fw ∧
    (State.parkStart s c m member load).hk = s.hk ∧ (State.parkStart s c m member load).ldg = s.ldg := by
  unfold State.parkStart
  simp -implicitDefEqProofs
@[simp] theorem State.parkBoth_frame {s : State} {c : Ch} {m : Nat} {load : Bool} :
    (State.parkBoth s c m load).pending = s.pending ∧ (State.parkBoth s c m load).hid = s.hid ∧
    (State.parkBoth s c m load).hub = s.hub ∧ (State.parkBoth s c m load).links = s.links ∧
    (State.parkBoth s c m load).coef = s.coef ∧ (State.parkBoth s c m load).fold = s.fold ∧
    (State.parkBoth s c m load).drv = s.drv ∧ (State.parkBoth s c m load).ck = s.ck ∧
    (State.parkBoth s c m load).sv = s.sv ∧ (State.parkBoth s c m load).fw = s.fw ∧ (State.parkBoth s c m load).hk = s.hk ∧
    (State.parkBoth s c m load).ldg = s.ldg := by
  unfold State.parkBoth
  simp -implicitDefEqProofs
@[simp] theorem State.modeWord_frame {s : State} {c : Ch} {v : Nat} :
    (State.modeWord s c v).pending = s.pending ∧ (State.modeWord s c v).hid = s.hid ∧ (State.modeWord s c v).hub = s.hub ∧
    (State.modeWord s c v).links = s.links ∧ (State.modeWord s c v).coef = s.coef ∧ (State.modeWord s c v).fold = s.fold ∧
    (State.modeWord s c v).drv = s.drv ∧ (State.modeWord s c v).ck = s.ck ∧ (State.modeWord s c v).sv = s.sv ∧
    (State.modeWord s c v).fw = s.fw ∧ (State.modeWord s c v).hk = s.hk ∧ (State.modeWord s c v).ldg = s.ldg := by
  unfold State.modeWord
  simp -implicitDefEqProofs
@[simp] theorem State.dacStart_frame {s : State} {c : Ch} :
    (State.dacStart s c).pending = s.pending ∧ (State.dacStart s c).regs = s.regs ∧ (State.dacStart s c).hid = s.hid ∧
    (State.dacStart s c).hub = s.hub ∧ (State.dacStart s c).host = s.host ∧ (State.dacStart s c).links = s.links ∧
    (State.dacStart s c).dies = s.dies ∧ (State.dacStart s c).chains = s.chains ∧ (State.dacStart s c).coef = s.coef ∧
    (State.dacStart s c).fold = s.fold ∧ (State.dacStart s c).rfx = s.rfx ∧ (State.dacStart s c).drv = s.drv ∧
    (State.dacStart s c).ck = s.ck ∧ (State.dacStart s c).sv = s.sv ∧ (State.dacStart s c).fw = s.fw ∧
    (State.dacStart s c).hk = s.hk ∧ (State.dacStart s c).ldg = s.ldg ∧ (State.dacStart s c).tk = s.tk ∧
    (State.dacStart s c).free = s.free := by
  unfold State.dacStart
  simp -implicitDefEqProofs
@[simp] theorem State.enterMode_frame {s : State} {c : Ch} {p : Park} :
    (State.enterMode s c p).pending = s.pending ∧ (State.enterMode s c p).regs = s.regs ∧
    (State.enterMode s c p).hid = s.hid ∧ (State.enterMode s c p).hub = s.hub ∧ (State.enterMode s c p).host = s.host ∧
    (State.enterMode s c p).links = s.links ∧ (State.enterMode s c p).chains = s.chains ∧
    (State.enterMode s c p).coef = s.coef ∧ (State.enterMode s c p).fold = s.fold ∧ (State.enterMode s c p).rfx = s.rfx ∧
    (State.enterMode s c p).drv = s.drv ∧ (State.enterMode s c p).ck = s.ck ∧ (State.enterMode s c p).sv = s.sv ∧
    (State.enterMode s c p).fw = s.fw ∧ (State.enterMode s c p).hk = s.hk ∧ (State.enterMode s c p).ldg = s.ldg ∧
    (State.enterMode s c p).tk = s.tk := by
  unfold State.enterMode
  simp -implicitDefEqProofs
@[simp] theorem State.startMode_frame {s : State} {c : Ch} {p : Park} :
    (State.startMode s c p).pending = s.pending ∧ (State.startMode s c p).hid = s.hid ∧
    (State.startMode s c p).hub = s.hub ∧ (State.startMode s c p).links = s.links ∧
    (State.startMode s c p).chains = s.chains ∧ (State.startMode s c p).coef = s.coef ∧
    (State.startMode s c p).fold = s.fold ∧ (State.startMode s c p).drv = s.drv ∧ (State.startMode s c p).ck = s.ck ∧
    (State.startMode s c p).sv = s.sv ∧ (State.startMode s c p).fw = s.fw ∧ (State.startMode s c p).hk = s.hk ∧
    (State.startMode s c p).ldg = s.ldg := by
  unfold State.startMode
  simp -implicitDefEqProofs
@[simp] theorem State.leavePark_frame {s : State} {l : List Ch} :
    (State.leavePark s l).pending = s.pending ∧ (State.leavePark s l).hid = s.hid ∧ (State.leavePark s l).hub = s.hub ∧
    (State.leavePark s l).links = s.links ∧ (State.leavePark s l).chains = s.chains ∧ (State.leavePark s l).coef = s.coef ∧
    (State.leavePark s l).fold = s.fold ∧ (State.leavePark s l).drv = s.drv ∧ (State.leavePark s l).ck = s.ck ∧
    (State.leavePark s l).sv = s.sv ∧ (State.leavePark s l).fw = s.fw ∧ (State.leavePark s l).hk = s.hk ∧
    (State.leavePark s l).ldg = s.ldg := by
  unfold State.leavePark
  try dsimp only
  simp -implicitDefEqProofs
@[simp] theorem State.parkEnd_frame {s : State} {c : Ch} {clamp : Bool} :
    (State.parkEnd s c clamp).pending = s.pending ∧ (State.parkEnd s c clamp).hid = s.hid ∧
    (State.parkEnd s c clamp).hub = s.hub ∧ (State.parkEnd s c clamp).links = s.links ∧
    (State.parkEnd s c clamp).chains = s.chains ∧ (State.parkEnd s c clamp).coef = s.coef ∧
    (State.parkEnd s c clamp).fold = s.fold ∧ (State.parkEnd s c clamp).drv = s.drv ∧ (State.parkEnd s c clamp).ck = s.ck ∧
    (State.parkEnd s c clamp).sv = s.sv ∧ (State.parkEnd s c clamp).fw = s.fw ∧ (State.parkEnd s c clamp).hk = s.hk ∧
    (State.parkEnd s c clamp).ldg = s.ldg := by
  unfold State.parkEnd
  (repeat' split) <;> simp -implicitDefEqProofs
@[simp] theorem State.permitWord_frame {s : State} {c : Ch} {v : Nat} :
    (State.permitWord s c v).pending = s.pending ∧ (State.permitWord s c v).hid = s.hid ∧
    (State.permitWord s c v).hub = s.hub ∧ (State.permitWord s c v).links = s.links ∧
    (State.permitWord s c v).dies = s.dies ∧ (State.permitWord s c v).chains = s.chains ∧
    (State.permitWord s c v).coef = s.coef ∧ (State.permitWord s c v).fold = s.fold ∧ (State.permitWord s c v).drv = s.drv ∧
    (State.permitWord s c v).ck = s.ck ∧ (State.permitWord s c v).sv = s.sv ∧ (State.permitWord s c v).fw = s.fw ∧
    (State.permitWord s c v).hk = s.hk ∧ (State.permitWord s c v).ldg = s.ldg ∧ (State.permitWord s c v).free = s.free := by
  unfold State.permitWord
  simp -implicitDefEqProofs

end Sys2Proof.Machine
end

