-- ==== Sys2Proof/Laws/Frame3.lean ====
section
/-! SUPPORT. What the Drover, sample chains, ports, the Ledger and health leave unchanged: one lemma for each operation. -/

set_option Elab.async false

namespace Sys2Proof.Machine

@[simp] theorem State.drvTo_frame {s : State} {k : DrvNo} {st : Nat} :
    (State.drvTo s k st).pending = s.pending ∧ (State.drvTo s k st).die = s.die ∧ (State.drvTo s k st).hid = s.hid ∧
    (State.drvTo s k st).hub = s.hub ∧ (State.drvTo s k st).host = s.host ∧ (State.drvTo s k st).links = s.links ∧
    (State.drvTo s k st).dies = s.dies ∧ (State.drvTo s k st).chans = s.chans ∧ (State.drvTo s k st).chains = s.chains ∧
    (State.drvTo s k st).coef = s.coef ∧ (State.drvTo s k st).fold = s.fold ∧ (State.drvTo s k st).rfx = s.rfx ∧
    (State.drvTo s k st).drv = s.drv ∧ (State.drvTo s k st).ck = s.ck ∧ (State.drvTo s k st).sv = s.sv ∧
    (State.drvTo s k st).fw = s.fw ∧ (State.drvTo s k st).hk = s.hk ∧ (State.drvTo s k st).ldg = s.ldg ∧
    (State.drvTo s k st).tk = s.tk ∧ (State.drvTo s k st).free = s.free := by
  unfold State.drvTo
  simp -implicitDefEqProofs
@[simp] theorem State.drvEvent_frame {s : State} {k : DrvNo} {i : Nat} :
    (State.drvEvent s k i).pending = s.pending ∧ (State.drvEvent s k i).die = s.die ∧ (State.drvEvent s k i).hid = s.hid ∧
    (State.drvEvent s k i).hub = s.hub ∧ (State.drvEvent s k i).links = s.links ∧ (State.drvEvent s k i).dies = s.dies ∧
    (State.drvEvent s k i).chans = s.chans ∧ (State.drvEvent s k i).chains = s.chains ∧
    (State.drvEvent s k i).coef = s.coef ∧ (State.drvEvent s k i).fold = s.fold ∧ (State.drvEvent s k i).rfx = s.rfx ∧
    (State.drvEvent s k i).drv = s.drv ∧ (State.drvEvent s k i).ck = s.ck ∧ (State.drvEvent s k i).sv = s.sv ∧
    (State.drvEvent s k i).fw = s.fw ∧ (State.drvEvent s k i).hk = s.hk ∧ (State.drvEvent s k i).ldg = s.ldg ∧
    (State.drvEvent s k i).free = s.free := by
  unfold State.drvEvent
  simp -implicitDefEqProofs
@[simp] theorem State.setCur_frame {s : State} {k : DrvNo} {a : Nat} :
    (State.setCur s k a).pending = s.pending ∧ (State.setCur s k a).die = s.die ∧ (State.setCur s k a).hid = s.hid ∧
    (State.setCur s k a).hub = s.hub ∧ (State.setCur s k a).host = s.host ∧ (State.setCur s k a).links = s.links ∧
    (State.setCur s k a).dies = s.dies ∧ (State.setCur s k a).chans = s.chans ∧ (State.setCur s k a).chains = s.chains ∧
    (State.setCur s k a).coef = s.coef ∧ (State.setCur s k a).fold = s.fold ∧ (State.setCur s k a).rfx = s.rfx ∧
    (State.setCur s k a).drv = s.drv ∧ (State.setCur s k a).ck = s.ck ∧ (State.setCur s k a).sv = s.sv ∧
    (State.setCur s k a).fw = s.fw ∧ (State.setCur s k a).hk = s.hk ∧ (State.setCur s k a).ldg = s.ldg ∧
    (State.setCur s k a).tk = s.tk ∧ (State.setCur s k a).free = s.free := by
  unfold State.setCur
  simp -implicitDefEqProofs
@[simp] theorem State.preFlag_frame {s : State} {k : DrvNo} :
    (State.preFlag s k).pending = s.pending ∧ (State.preFlag s k).die = s.die ∧ (State.preFlag s k).hid = s.hid ∧
    (State.preFlag s k).hub = s.hub ∧ (State.preFlag s k).host = s.host ∧ (State.preFlag s k).links = s.links ∧
    (State.preFlag s k).dies = s.dies ∧ (State.preFlag s k).chans = s.chans ∧ (State.preFlag s k).chains = s.chains ∧
    (State.preFlag s k).coef = s.coef ∧ (State.preFlag s k).fold = s.fold ∧ (State.preFlag s k).rfx = s.rfx ∧
    (State.preFlag s k).drv = s.drv ∧ (State.preFlag s k).ck = s.ck ∧ (State.preFlag s k).sv = s.sv ∧
    (State.preFlag s k).fw = s.fw ∧ (State.preFlag s k).hk = s.hk ∧ (State.preFlag s k).ldg = s.ldg ∧
    (State.preFlag s k).tk = s.tk ∧ (State.preFlag s k).free = s.free := by
  unfold State.preFlag
  simp -implicitDefEqProofs
@[simp] theorem State.hostWrites_frame {s : State} {l : List HostOut} :
    (State.hostWrites s l).pending = s.pending ∧ (State.hostWrites s l).regs = s.regs ∧ (State.hostWrites s l).die = s.die ∧
    (State.hostWrites s l).hid = s.hid ∧ (State.hostWrites s l).hub = s.hub ∧ (State.hostWrites s l).links = s.links ∧
    (State.hostWrites s l).dies = s.dies ∧ (State.hostWrites s l).chans = s.chans ∧
    (State.hostWrites s l).chains = s.chains ∧ (State.hostWrites s l).coef = s.coef ∧ (State.hostWrites s l).fold = s.fold ∧
    (State.hostWrites s l).rfx = s.rfx ∧ (State.hostWrites s l).drv = s.drv ∧ (State.hostWrites s l).ck = s.ck ∧
    (State.hostWrites s l).sv = s.sv ∧ (State.hostWrites s l).fw = s.fw ∧ (State.hostWrites s l).hk = s.hk ∧
    (State.hostWrites s l).ldg = s.ldg ∧ (State.hostWrites s l).tk = s.tk ∧ (State.hostWrites s l).free = s.free := by
  unfold State.hostWrites
  simp -implicitDefEqProofs
@[simp] theorem State.drvAsk_frame {s : State} {k : DrvNo} :
    (State.drvAsk s k).pending = s.pending ∧ (State.drvAsk s k).regs = s.regs ∧ (State.drvAsk s k).die = s.die ∧
    (State.drvAsk s k).hid = s.hid ∧ (State.drvAsk s k).hub = s.hub ∧ (State.drvAsk s k).links = s.links ∧
    (State.drvAsk s k).dies = s.dies ∧ (State.drvAsk s k).chans = s.chans ∧ (State.drvAsk s k).chains = s.chains ∧
    (State.drvAsk s k).coef = s.coef ∧ (State.drvAsk s k).fold = s.fold ∧ (State.drvAsk s k).rfx = s.rfx ∧
    (State.drvAsk s k).ck = s.ck ∧ (State.drvAsk s k).sv = s.sv ∧ (State.drvAsk s k).fw = s.fw ∧
    (State.drvAsk s k).hk = s.hk ∧ (State.drvAsk s k).ldg = s.ldg ∧ (State.drvAsk s k).tk = s.tk ∧
    (State.drvAsk s k).free = s.free := by
  unfold State.drvAsk
  try dsimp only
  (repeat' split) <;> simp -implicitDefEqProofs
@[simp] theorem State.levelShow_frame {s : State} {k : DrvNo} :
    (State.levelShow s k).pending = s.pending ∧ (State.levelShow s k).die = s.die ∧ (State.levelShow s k).hid = s.hid ∧
    (State.levelShow s k).hub = s.hub ∧ (State.levelShow s k).host = s.host ∧ (State.levelShow s k).links = s.links ∧
    (State.levelShow s k).dies = s.dies ∧ (State.levelShow s k).chans = s.chans ∧ (State.levelShow s k).chains = s.chains ∧
    (State.levelShow s k).coef = s.coef ∧ (State.levelShow s k).fold = s.fold ∧ (State.levelShow s k).rfx = s.rfx ∧
    (State.levelShow s k).drv = s.drv ∧ (State.levelShow s k).ck = s.ck ∧ (State.levelShow s k).sv = s.sv ∧
    (State.levelShow s k).fw = s.fw ∧ (State.levelShow s k).hk = s.hk ∧ (State.levelShow s k).ldg = s.ldg ∧
    (State.levelShow s k).tk = s.tk ∧ (State.levelShow s k).free = s.free := by
  unfold State.levelShow
  simp -implicitDefEqProofs
@[simp] theorem State.queueEmpty_frame {s : State} {k : DrvNo} :
    (State.queueEmpty s k).pending = s.pending ∧ (State.queueEmpty s k).die = s.die ∧ (State.queueEmpty s k).hid = s.hid ∧
    (State.queueEmpty s k).hub = s.hub ∧ (State.queueEmpty s k).host = s.host ∧ (State.queueEmpty s k).links = s.links ∧
    (State.queueEmpty s k).dies = s.dies ∧ (State.queueEmpty s k).chans = s.chans ∧
    (State.queueEmpty s k).chains = s.chains ∧ (State.queueEmpty s k).coef = s.coef ∧ (State.queueEmpty s k).fold = s.fold ∧
    (State.queueEmpty s k).rfx = s.rfx ∧ (State.queueEmpty s k).ck = s.ck ∧ (State.queueEmpty s k).sv = s.sv ∧
    (State.queueEmpty s k).fw = s.fw ∧ (State.queueEmpty s k).hk = s.hk ∧ (State.queueEmpty s k).ldg = s.ldg ∧
    (State.queueEmpty s k).tk = s.tk ∧ (State.queueEmpty s k).free = s.free := by
  unfold State.queueEmpty
  simp -implicitDefEqProofs
@[simp] theorem State.formWindow_frame {s : State} {k : DrvNo} :
    (State.formWindow s k).pending = s.pending ∧ (State.formWindow s k).die = s.die ∧ (State.formWindow s k).hid = s.hid ∧
    (State.formWindow s k).hub = s.hub ∧ (State.formWindow s k).host = s.host ∧ (State.formWindow s k).links = s.links ∧
    (State.formWindow s k).dies = s.dies ∧ (State.formWindow s k).chans = s.chans ∧
    (State.formWindow s k).chains = s.chains ∧ (State.formWindow s k).coef = s.coef ∧ (State.formWindow s k).fold = s.fold ∧
    (State.formWindow s k).rfx = s.rfx ∧ (State.formWindow s k).ck = s.ck ∧ (State.formWindow s k).sv = s.sv ∧
    (State.formWindow s k).fw = s.fw ∧ (State.formWindow s k).hk = s.hk ∧ (State.formWindow s k).ldg = s.ldg ∧
    (State.formWindow s k).tk = s.tk ∧ (State.formWindow s k).free = s.free := by
  unfold State.formWindow
  (repeat' split) <;> simp -implicitDefEqProofs
@[simp] theorem State.frameIn_frame {s : State} {k : DrvNo} {t : Nat} {words : List Nat} :
    (State.frameIn s k t words).pending = s.pending ∧ (State.frameIn s k t words).die = s.die ∧
    (State.frameIn s k t words).hid = s.hid ∧ (State.frameIn s k t words).hub = s.hub ∧
    (State.frameIn s k t words).links = s.links ∧ (State.frameIn s k t words).dies = s.dies ∧
    (State.frameIn s k t words).chans = s.chans ∧ (State.frameIn s k t words).chains = s.chains ∧
    (State.frameIn s k t words).coef = s.coef ∧ (State.frameIn s k t words).fold = s.fold ∧
    (State.frameIn s k t words).rfx = s.rfx ∧ (State.frameIn s k t words).ck = s.ck ∧
    (State.frameIn s k t words).sv = s.sv ∧ (State.frameIn s k t words).fw = s.fw ∧ (State.frameIn s k t words).hk = s.hk ∧
    (State.frameIn s k t words).ldg = s.ldg ∧ (State.frameIn s k t words).free = s.free := by
  unfold State.frameIn
  simp -implicitDefEqProofs
@[simp] theorem State.gatherWord_frame {s : State} {k : DrvNo} {sel : List Strm} {low : Strm} {x : Strm} {word : Nat} {key : Nat} {t : Nat} :
    (State.gatherWord s k sel low x word key t).pending = s.pending ∧
    (State.gatherWord s k sel low x word key t).die = s.die ∧ (State.gatherWord s k sel low x word key t).hid = s.hid ∧
    (State.gatherWord s k sel low x word key t).hub = s.hub ∧ (State.gatherWord s k sel low x word key t).links = s.links ∧
    (State.gatherWord s k sel low x word key t).dies = s.dies ∧
    (State.gatherWord s k sel low x word key t).chans = s.chans ∧
    (State.gatherWord s k sel low x word key t).chains = s.chains ∧
    (State.gatherWord s k sel low x word key t).coef = s.coef ∧ (State.gatherWord s k sel low x word key t).fold = s.fold ∧
    (State.gatherWord s k sel low x word key t).rfx = s.rfx ∧ (State.gatherWord s k sel low x word key t).ck = s.ck ∧
    (State.gatherWord s k sel low x word key t).sv = s.sv ∧ (State.gatherWord s k sel low x word key t).fw = s.fw ∧
    (State.gatherWord s k sel low x word key t).hk = s.hk ∧ (State.gatherWord s k sel low x word key t).ldg = s.ldg ∧
    (State.gatherWord s k sel low x word key t).free = s.free := by
  unfold State.gatherWord
  try dsimp only
  (repeat' split) <;> simp -implicitDefEqProofs
@[simp] theorem State.feedChannel_frame {s : State} {k : DrvNo} {x : Strm} {word : Nat} {key : Nat} {t : Nat} :
    (State.feedChannel s k x word key t).pending = s.pending ∧ (State.feedChannel s k x word key t).die = s.die ∧
    (State.feedChannel s k x word key t).hid = s.hid ∧ (State.feedChannel s k x word key t).hub = s.hub ∧
    (State.feedChannel s k x word key t).links = s.links ∧ (State.feedChannel s k x word key t).dies = s.dies ∧
    (State.feedChannel s k x word key t).chans = s.chans ∧ (State.feedChannel s k x word key t).chains = s.chains ∧
    (State.feedChannel s k x word key t).coef = s.coef ∧ (State.feedChannel s k x word key t).fold = s.fold ∧
    (State.feedChannel s k x word key t).rfx = s.rfx ∧ (State.feedChannel s k x word key t).ck = s.ck ∧
    (State.feedChannel s k x word key t).sv = s.sv ∧ (State.feedChannel s k x word key t).fw = s.fw ∧
    (State.feedChannel s k x word key t).hk = s.hk ∧ (State.feedChannel s k x word key t).ldg = s.ldg ∧
    (State.feedChannel s k x word key t).free = s.free := by
  unfold State.feedChannel
  simp -implicitDefEqProofs
@[simp] theorem State.feedStream_frame {s : State} {fine : Bool} {x : Strm} {word : Nat} {key : Nat} {t : Nat} :
    (State.feedStream s fine x word key t).pending = s.pending ∧ (State.feedStream s fine x word key t).die = s.die ∧
    (State.feedStream s fine x word key t).hid = s.hid ∧ (State.feedStream s fine x word key t).hub = s.hub ∧
    (State.feedStream s fine x word key t).links = s.links ∧ (State.feedStream s fine x word key t).dies = s.dies ∧
    (State.feedStream s fine x word key t).chans = s.chans ∧ (State.feedStream s fine x word key t).chains = s.chains ∧
    (State.feedStream s fine x word key t).coef = s.coef ∧ (State.feedStream s fine x word key t).fold = s.fold ∧
    (State.feedStream s fine x word key t).rfx = s.rfx ∧ (State.feedStream s fine x word key t).ck = s.ck ∧
    (State.feedStream s fine x word key t).sv = s.sv ∧ (State.feedStream s fine x word key t).fw = s.fw ∧
    (State.feedStream s fine x word key t).hk = s.hk ∧ (State.feedStream s fine x word key t).ldg = s.ldg ∧
    (State.feedStream s fine x word key t).free = s.free := by
  unfold State.feedStream
  repeat' apply And.intro
  all_goals (refine (State.foldl_keep _ (fun s x => ?_) _ _).trans ?_)
  all_goals first | rfl | simp
@[simp] theorem State.drvDrop_frame {s : State} {k : DrvNo} :
    (State.drvDrop s k).pending = s.pending ∧ (State.drvDrop s k).die = s.die ∧ (State.drvDrop s k).hid = s.hid ∧
    (State.drvDrop s k).hub = s.hub ∧ (State.drvDrop s k).host = s.host ∧ (State.drvDrop s k).links = s.links ∧
    (State.drvDrop s k).dies = s.dies ∧ (State.drvDrop s k).chans = s.chans ∧ (State.drvDrop s k).chains = s.chains ∧
    (State.drvDrop s k).coef = s.coef ∧ (State.drvDrop s k).fold = s.fold ∧ (State.drvDrop s k).rfx = s.rfx ∧
    (State.drvDrop s k).ck = s.ck ∧ (State.drvDrop s k).sv = s.sv ∧ (State.drvDrop s k).fw = s.fw ∧
    (State.drvDrop s k).hk = s.hk ∧ (State.drvDrop s k).ldg = s.ldg ∧ (State.drvDrop s k).tk = s.tk ∧
    (State.drvDrop s k).free = s.free := by
  unfold State.drvDrop
  simp -implicitDefEqProofs
@[simp] theorem State.drvHalt_frame {s : State} {k : DrvNo} {cause : Nat} {a : Nat} :
    (State.drvHalt s k cause a).pending = s.pending ∧ (State.drvHalt s k cause a).die = s.die ∧
    (State.drvHalt s k cause a).hid = s.hid ∧ (State.drvHalt s k cause a).hub = s.hub ∧
    (State.drvHalt s k cause a).links = s.links ∧ (State.drvHalt s k cause a).dies = s.dies ∧
    (State.drvHalt s k cause a).chans = s.chans ∧ (State.drvHalt s k cause a).chains = s.chains ∧
    (State.drvHalt s k cause a).coef = s.coef ∧ (State.drvHalt s k cause a).fold = s.fold ∧
    (State.drvHalt s k cause a).rfx = s.rfx ∧ (State.drvHalt s k cause a).ck = s.ck ∧
    (State.drvHalt s k cause a).sv = s.sv ∧ (State.drvHalt s k cause a).fw = s.fw ∧ (State.drvHalt s k cause a).hk = s.hk ∧
    (State.drvHalt s k cause a).ldg = s.ldg ∧ (State.drvHalt s k cause a).free = s.free := by
  unfold State.drvHalt
  simp -implicitDefEqProofs
@[simp] theorem State.drvIdle_frame {s : State} {k : DrvNo} :
    (State.drvIdle s k).pending = s.pending ∧ (State.drvIdle s k).die = s.die ∧ (State.drvIdle s k).hid = s.hid ∧
    (State.drvIdle s k).hub = s.hub ∧ (State.drvIdle s k).host = s.host ∧ (State.drvIdle s k).links = s.links ∧
    (State.drvIdle s k).dies = s.dies ∧ (State.drvIdle s k).chans = s.chans ∧ (State.drvIdle s k).chains = s.chains ∧
    (State.drvIdle s k).coef = s.coef ∧ (State.drvIdle s k).fold = s.fold ∧ (State.drvIdle s k).rfx = s.rfx ∧
    (State.drvIdle s k).ck = s.ck ∧ (State.drvIdle s k).sv = s.sv ∧ (State.drvIdle s k).fw = s.fw ∧
    (State.drvIdle s k).hk = s.hk ∧ (State.drvIdle s k).ldg = s.ldg ∧ (State.drvIdle s k).tk = s.tk ∧
    (State.drvIdle s k).free = s.free := by
  unfold State.drvIdle
  simp -implicitDefEqProofs
@[simp] theorem State.drvStopped_frame {s : State} {k : DrvNo} :
    (State.drvStopped s k).pending = s.pending ∧ (State.drvStopped s k).die = s.die ∧ (State.drvStopped s k).hid = s.hid ∧
    (State.drvStopped s k).hub = s.hub ∧ (State.drvStopped s k).links = s.links ∧ (State.drvStopped s k).dies = s.dies ∧
    (State.drvStopped s k).chans = s.chans ∧ (State.drvStopped s k).chains = s.chains ∧
    (State.drvStopped s k).coef = s.coef ∧ (State.drvStopped s k).fold = s.fold ∧ (State.drvStopped s k).rfx = s.rfx ∧
    (State.drvStopped s k).ck = s.ck ∧ (State.drvStopped s k).sv = s.sv ∧ (State.drvStopped s k).fw = s.fw ∧
    (State.drvStopped s k).hk = s.hk ∧ (State.drvStopped s k).ldg = s.ldg ∧ (State.drvStopped s k).free = s.free := by
  unfold State.drvStopped
  simp -implicitDefEqProofs
@[simp] theorem State.drvEnd_frame {s : State} {k : DrvNo} :
    (State.drvEnd s k).pending = s.pending ∧ (State.drvEnd s k).die = s.die ∧ (State.drvEnd s k).hid = s.hid ∧
    (State.drvEnd s k).hub = s.hub ∧ (State.drvEnd s k).links = s.links ∧ (State.drvEnd s k).dies = s.dies ∧
    (State.drvEnd s k).chans = s.chans ∧ (State.drvEnd s k).chains = s.chains ∧ (State.drvEnd s k).coef = s.coef ∧
    (State.drvEnd s k).fold = s.fold ∧ (State.drvEnd s k).rfx = s.rfx ∧ (State.drvEnd s k).ck = s.ck ∧
    (State.drvEnd s k).sv = s.sv ∧ (State.drvEnd s k).fw = s.fw ∧ (State.drvEnd s k).hk = s.hk ∧
    (State.drvEnd s k).ldg = s.ldg ∧ (State.drvEnd s k).free = s.free := by
  unfold State.drvEnd
  simp -implicitDefEqProofs
@[simp] theorem State.drvIgnored_frame {s : State} {k : DrvNo} :
    (State.drvIgnored s k).pending = s.pending ∧ (State.drvIgnored s k).die = s.die ∧ (State.drvIgnored s k).hid = s.hid ∧
    (State.drvIgnored s k).hub = s.hub ∧ (State.drvIgnored s k).links = s.links ∧ (State.drvIgnored s k).dies = s.dies ∧
    (State.drvIgnored s k).chans = s.chans ∧ (State.drvIgnored s k).chains = s.chains ∧
    (State.drvIgnored s k).coef = s.coef ∧ (State.drvIgnored s k).fold = s.fold ∧ (State.drvIgnored s k).rfx = s.rfx ∧
    (State.drvIgnored s k).drv = s.drv ∧ (State.drvIgnored s k).ck = s.ck ∧ (State.drvIgnored s k).sv = s.sv ∧
    (State.drvIgnored s k).fw = s.fw ∧ (State.drvIgnored s k).hk = s.hk ∧ (State.drvIgnored s k).ldg = s.ldg ∧
    (State.drvIgnored s k).free = s.free := by
  unfold State.drvIgnored
  simp -implicitDefEqProofs
@[simp] theorem State.carry_frame {s : State} {k : DrvNo} :
    (State.carry s k).pending = s.pending ∧ (State.carry s k).die = s.die ∧ (State.carry s k).hid = s.hid ∧
    (State.carry s k).hub = s.hub ∧ (State.carry s k).host = s.host ∧ (State.carry s k).links = s.links ∧
    (State.carry s k).dies = s.dies ∧ (State.carry s k).chans = s.chans ∧ (State.carry s k).chains = s.chains ∧
    (State.carry s k).coef = s.coef ∧ (State.carry s k).fold = s.fold ∧ (State.carry s k).rfx = s.rfx ∧
    (State.carry s k).drv = s.drv ∧ (State.carry s k).ck = s.ck ∧ (State.carry s k).sv = s.sv ∧
    (State.carry s k).fw = s.fw ∧ (State.carry s k).hk = s.hk ∧ (State.carry s k).ldg = s.ldg ∧
    (State.carry s k).tk = s.tk ∧ (State.carry s k).free = s.free := by
  unfold State.carry
  (repeat' split) <;> simp -implicitDefEqProofs
@[simp] theorem State.drvStart_frame {s : State} {k : DrvNo} :
    (State.drvStart s k).pending = s.pending ∧ (State.drvStart s k).die = s.die ∧ (State.drvStart s k).hid = s.hid ∧
    (State.drvStart s k).hub = s.hub ∧ (State.drvStart s k).links = s.links ∧ (State.drvStart s k).dies = s.dies ∧
    (State.drvStart s k).chans = s.chans ∧ (State.drvStart s k).chains = s.chains ∧ (State.drvStart s k).coef = s.coef ∧
    (State.drvStart s k).fold = s.fold ∧ (State.drvStart s k).rfx = s.rfx ∧ (State.drvStart s k).ck = s.ck ∧
    (State.drvStart s k).sv = s.sv ∧ (State.drvStart s k).fw = s.fw ∧ (State.drvStart s k).hk = s.hk ∧
    (State.drvStart s k).ldg = s.ldg ∧ (State.drvStart s k).free = s.free := by
  unfold State.drvStart
  simp -implicitDefEqProofs
@[simp] theorem State.drvContinue_frame {s : State} {k : DrvNo} :
    (State.drvContinue s k).pending = s.pending ∧ (State.drvContinue s k).die = s.die ∧
    (State.drvContinue s k).hid = s.hid ∧ (State.drvContinue s k).hub = s.hub ∧ (State.drvContinue s k).links = s.links ∧
    (State.drvContinue s k).dies = s.dies ∧ (State.drvContinue s k).chans = s.chans ∧
    (State.drvContinue s k).chains = s.chains ∧ (State.drvContinue s k).coef = s.coef ∧
    (State.drvContinue s k).fold = s.fold ∧ (State.drvContinue s k).rfx = s.rfx ∧ (State.drvContinue s k).ck = s.ck ∧
    (State.drvContinue s k).sv = s.sv ∧ (State.drvContinue s k).fw = s.fw ∧ (State.drvContinue s k).hk = s.hk ∧
    (State.drvContinue s k).ldg = s.ldg ∧ (State.drvContinue s k).free = s.free := by
  unfold State.drvContinue
  simp -implicitDefEqProofs
@[simp] theorem State.drvStop_frame {s : State} {k : DrvNo} :
    (State.drvStop s k).pending = s.pending ∧ (State.drvStop s k).die = s.die ∧ (State.drvStop s k).hid = s.hid ∧
    (State.drvStop s k).hub = s.hub ∧ (State.drvStop s k).host = s.host ∧ (State.drvStop s k).links = s.links ∧
    (State.drvStop s k).dies = s.dies ∧ (State.drvStop s k).chans = s.chans ∧ (State.drvStop s k).chains = s.chains ∧
    (State.drvStop s k).coef = s.coef ∧ (State.drvStop s k).fold = s.fold ∧ (State.drvStop s k).rfx = s.rfx ∧
    (State.drvStop s k).ck = s.ck ∧ (State.drvStop s k).sv = s.sv ∧ (State.drvStop s k).fw = s.fw ∧
    (State.drvStop s k).hk = s.hk ∧ (State.drvStop s k).ldg = s.ldg ∧ (State.drvStop s k).tk = s.tk ∧
    (State.drvStop s k).free = s.free := by
  unfold State.drvStop
  simp -implicitDefEqProofs
@[simp] theorem State.drvTick1_frame {s : State} {k : DrvNo} :
    (State.drvTick1 s k).pending = s.pending ∧ (State.drvTick1 s k).die = s.die ∧ (State.drvTick1 s k).hid = s.hid ∧
    (State.drvTick1 s k).hub = s.hub ∧ (State.drvTick1 s k).links = s.links ∧ (State.drvTick1 s k).dies = s.dies ∧
    (State.drvTick1 s k).chans = s.chans ∧ (State.drvTick1 s k).chains = s.chains ∧ (State.drvTick1 s k).coef = s.coef ∧
    (State.drvTick1 s k).fold = s.fold ∧ (State.drvTick1 s k).rfx = s.rfx ∧ (State.drvTick1 s k).ck = s.ck ∧
    (State.drvTick1 s k).sv = s.sv ∧ (State.drvTick1 s k).fw = s.fw ∧ (State.drvTick1 s k).hk = s.hk ∧
    (State.drvTick1 s k).ldg = s.ldg ∧ (State.drvTick1 s k).free = s.free := by
  unfold State.drvTick1
  simp -implicitDefEqProofs
@[simp] theorem State.drvTick_frame {s : State} :
    (State.drvTick s).pending = s.pending ∧ (State.drvTick s).die = s.die ∧ (State.drvTick s).hid = s.hid ∧
    (State.drvTick s).hub = s.hub ∧ (State.drvTick s).links = s.links ∧ (State.drvTick s).dies = s.dies ∧
    (State.drvTick s).chans = s.chans ∧ (State.drvTick s).chains = s.chains ∧ (State.drvTick s).coef = s.coef ∧
    (State.drvTick s).fold = s.fold ∧ (State.drvTick s).rfx = s.rfx ∧ (State.drvTick s).ck = s.ck ∧
    (State.drvTick s).sv = s.sv ∧ (State.drvTick s).fw = s.fw ∧ (State.drvTick s).hk = s.hk ∧
    (State.drvTick s).ldg = s.ldg ∧ (State.drvTick s).free = s.free := by
  unfold State.drvTick
  simp -implicitDefEqProofs
@[simp] theorem State.drvClear_frame {s : State} {k : DrvNo} :
    (State.drvClear s k).pending = s.pending ∧ (State.drvClear s k).die = s.die ∧ (State.drvClear s k).hid = s.hid ∧
    (State.drvClear s k).hub = s.hub ∧ (State.drvClear s k).host = s.host ∧ (State.drvClear s k).links = s.links ∧
    (State.drvClear s k).dies = s.dies ∧ (State.drvClear s k).chans = s.chans ∧ (State.drvClear s k).chains = s.chains ∧
    (State.drvClear s k).coef = s.coef ∧ (State.drvClear s k).fold = s.fold ∧ (State.drvClear s k).rfx = s.rfx ∧
    (State.drvClear s k).ck = s.ck ∧ (State.drvClear s k).sv = s.sv ∧ (State.drvClear s k).fw = s.fw ∧
    (State.drvClear s k).hk = s.hk ∧ (State.drvClear s k).ldg = s.ldg ∧ (State.drvClear s k).tk = s.tk ∧
    (State.drvClear s k).free = s.free := by
  unfold State.drvClear
  simp -implicitDefEqProofs
@[simp] theorem State.drvRecover_frame {s : State} :
    (State.drvRecover s).pending = s.pending ∧ (State.drvRecover s).die = s.die ∧ (State.drvRecover s).hid = s.hid ∧
    (State.drvRecover s).hub = s.hub ∧ (State.drvRecover s).host = s.host ∧ (State.drvRecover s).links = s.links ∧
    (State.drvRecover s).dies = s.dies ∧ (State.drvRecover s).chans = s.chans ∧ (State.drvRecover s).chains = s.chains ∧
    (State.drvRecover s).coef = s.coef ∧ (State.drvRecover s).fold = s.fold ∧ (State.drvRecover s).rfx = s.rfx ∧
    (State.drvRecover s).ck = s.ck ∧ (State.drvRecover s).sv = s.sv ∧ (State.drvRecover s).fw = s.fw ∧
    (State.drvRecover s).hk = s.hk ∧ (State.drvRecover s).ldg = s.ldg ∧ (State.drvRecover s).tk = s.tk ∧
    (State.drvRecover s).free = s.free := by
  unfold State.drvRecover
  simp -implicitDefEqProofs
@[simp] theorem State.drvDoorbell_frame {s : State} {k : DrvNo} {v : Nat} :
    (State.drvDoorbell s k v).pending = s.pending ∧ (State.drvDoorbell s k v).die = s.die ∧
    (State.drvDoorbell s k v).hid = s.hid ∧ (State.drvDoorbell s k v).hub = s.hub ∧
    (State.drvDoorbell s k v).links = s.links ∧ (State.drvDoorbell s k v).dies = s.dies ∧
    (State.drvDoorbell s k v).chans = s.chans ∧ (State.drvDoorbell s k v).chains = s.chains ∧
    (State.drvDoorbell s k v).coef = s.coef ∧ (State.drvDoorbell s k v).fold = s.fold ∧
    (State.drvDoorbell s k v).rfx = s.rfx ∧ (State.drvDoorbell s k v).ck = s.ck ∧ (State.drvDoorbell s k v).sv = s.sv ∧
    (State.drvDoorbell s k v).fw = s.fw ∧ (State.drvDoorbell s k v).hk = s.hk ∧ (State.drvDoorbell s k v).ldg = s.ldg ∧
    (State.drvDoorbell s k v).free = s.free := by
  unfold State.drvDoorbell
  simp -implicitDefEqProofs
@[simp] theorem State.coefSet_frame {s : State} {off : Nat} {v : Nat} :
    (State.coefSet s off v).pending = s.pending ∧ (State.coefSet s off v).regs = s.regs ∧
    (State.coefSet s off v).die = s.die ∧ (State.coefSet s off v).hid = s.hid ∧ (State.coefSet s off v).hub = s.hub ∧
    (State.coefSet s off v).host = s.host ∧ (State.coefSet s off v).links = s.links ∧
    (State.coefSet s off v).dies = s.dies ∧ (State.coefSet s off v).chans = s.chans ∧
    (State.coefSet s off v).chains = s.chains ∧ (State.coefSet s off v).fold = s.fold ∧
    (State.coefSet s off v).rfx = s.rfx ∧ (State.coefSet s off v).drv = s.drv ∧ (State.coefSet s off v).ck = s.ck ∧
    (State.coefSet s off v).sv = s.sv ∧ (State.coefSet s off v).fw = s.fw ∧ (State.coefSet s off v).hk = s.hk ∧
    (State.coefSet s off v).ldg = s.ldg ∧ (State.coefSet s off v).tk = s.tk ∧ (State.coefSet s off v).free = s.free := by
  unfold State.coefSet
  simp -implicitDefEqProofs
@[simp] theorem State.coefWrite_frame {s : State} {off : Nat} {v : Nat} :
    (State.coefWrite s off v).2.pending = s.pending ∧ (State.coefWrite s off v).2.die = s.die ∧
    (State.coefWrite s off v).2.hid = s.hid ∧ (State.coefWrite s off v).2.hub = s.hub ∧
    (State.coefWrite s off v).2.links = s.links ∧ (State.coefWrite s off v).2.dies = s.dies ∧
    (State.coefWrite s off v).2.chans = s.chans ∧ (State.coefWrite s off v).2.chains = s.chains ∧
    (State.coefWrite s off v).2.fold = s.fold ∧ (State.coefWrite s off v).2.rfx = s.rfx ∧
    (State.coefWrite s off v).2.drv = s.drv ∧ (State.coefWrite s off v).2.ck = s.ck ∧
    (State.coefWrite s off v).2.sv = s.sv ∧ (State.coefWrite s off v).2.fw = s.fw ∧ (State.coefWrite s off v).2.hk = s.hk ∧
    (State.coefWrite s off v).2.ldg = s.ldg ∧ (State.coefWrite s off v).2.free = s.free := by
  unfold State.coefWrite
  simp -implicitDefEqProofs
@[simp] theorem State.overBegins_frame {s : State} {x : Strm} :
    (State.overBegins s x).pending = s.pending ∧ (State.overBegins s x).die = s.die ∧ (State.overBegins s x).hid = s.hid ∧
    (State.overBegins s x).hub = s.hub ∧ (State.overBegins s x).links = s.links ∧ (State.overBegins s x).dies = s.dies ∧
    (State.overBegins s x).chans = s.chans ∧ (State.overBegins s x).chains = s.chains ∧
    (State.overBegins s x).coef = s.coef ∧ (State.overBegins s x).fold = s.fold ∧ (State.overBegins s x).rfx = s.rfx ∧
    (State.overBegins s x).drv = s.drv ∧ (State.overBegins s x).ck = s.ck ∧ (State.overBegins s x).sv = s.sv ∧
    (State.overBegins s x).fw = s.fw ∧ (State.overBegins s x).hk = s.hk ∧ (State.overBegins s x).ldg = s.ldg ∧
    (State.overBegins s x).free = s.free := by
  unfold State.overBegins
  simp -implicitDefEqProofs
@[simp] theorem State.runMarks_frame {s : State} {x : Strm} {o : Smp} :
    (State.runMarks s x o).pending = s.pending ∧ (State.runMarks s x o).die = s.die ∧ (State.runMarks s x o).hid = s.hid ∧
    (State.runMarks s x o).hub = s.hub ∧ (State.runMarks s x o).links = s.links ∧ (State.runMarks s x o).dies = s.dies ∧
    (State.runMarks s x o).chans = s.chans ∧ (State.runMarks s x o).coef = s.coef ∧ (State.runMarks s x o).fold = s.fold ∧
    (State.runMarks s x o).rfx = s.rfx ∧ (State.runMarks s x o).drv = s.drv ∧ (State.runMarks s x o).ck = s.ck ∧
    (State.runMarks s x o).sv = s.sv ∧ (State.runMarks s x o).fw = s.fw ∧ (State.runMarks s x o).hk = s.hk ∧
    (State.runMarks s x o).ldg = s.ldg ∧ (State.runMarks s x o).free = s.free := by
  unfold State.runMarks
  simp -implicitDefEqProofs
@[simp] theorem State.settleShow_frame {s : State} {x : Strm} :
    (State.settleShow s x).pending = s.pending ∧ (State.settleShow s x).die = s.die ∧ (State.settleShow s x).hid = s.hid ∧
    (State.settleShow s x).hub = s.hub ∧ (State.settleShow s x).links = s.links ∧ (State.settleShow s x).dies = s.dies ∧
    (State.settleShow s x).chans = s.chans ∧ (State.settleShow s x).chains = s.chains ∧
    (State.settleShow s x).coef = s.coef ∧ (State.settleShow s x).fold = s.fold ∧ (State.settleShow s x).rfx = s.rfx ∧
    (State.settleShow s x).drv = s.drv ∧ (State.settleShow s x).ck = s.ck ∧ (State.settleShow s x).sv = s.sv ∧
    (State.settleShow s x).fw = s.fw ∧ (State.settleShow s x).hk = s.hk ∧ (State.settleShow s x).ldg = s.ldg ∧
    (State.settleShow s x).free = s.free := by
  unfold State.settleShow
  simp -implicitDefEqProofs
@[simp] theorem State.strokeFeed_frame {s : State} {x : Strm} :
    (State.strokeFeed s x).pending = s.pending ∧ (State.strokeFeed s x).die = s.die ∧ (State.strokeFeed s x).hid = s.hid ∧
    (State.strokeFeed s x).hub = s.hub ∧ (State.strokeFeed s x).links = s.links ∧ (State.strokeFeed s x).dies = s.dies ∧
    (State.strokeFeed s x).chains = s.chains ∧ (State.strokeFeed s x).coef = s.coef ∧ (State.strokeFeed s x).fold = s.fold ∧
    (State.strokeFeed s x).drv = s.drv ∧ (State.strokeFeed s x).ck = s.ck ∧ (State.strokeFeed s x).sv = s.sv ∧
    (State.strokeFeed s x).fw = s.fw ∧ (State.strokeFeed s x).hk = s.hk ∧ (State.strokeFeed s x).ldg = s.ldg ∧
    (State.strokeFeed s x).free = s.free := by
  unfold State.strokeFeed
  simp -implicitDefEqProofs
@[simp] theorem State.capture_frame {s : State} {x : Strm} :
    (State.capture s x).pending = s.pending ∧ (State.capture s x).die = s.die ∧ (State.capture s x).hid = s.hid ∧
    (State.capture s x).hub = s.hub ∧ (State.capture s x).links = s.links ∧ (State.capture s x).dies = s.dies ∧
    (State.capture s x).coef = s.coef ∧ (State.capture s x).fold = s.fold ∧ (State.capture s x).ck = s.ck ∧
    (State.capture s x).sv = s.sv ∧ (State.capture s x).fw = s.fw ∧ (State.capture s x).hk = s.hk ∧
    (State.capture s x).ldg = s.ldg := by
  unfold State.capture
  try dsimp only
  (repeat' split) <;> simp -implicitDefEqProofs
@[simp] theorem State.coarse_frame {s : State} {x : Strm} :
    (State.coarse s x).pending = s.pending ∧ (State.coarse s x).die = s.die ∧ (State.coarse s x).hid = s.hid ∧
    (State.coarse s x).hub = s.hub ∧ (State.coarse s x).host = s.host ∧ (State.coarse s x).links = s.links ∧
    (State.coarse s x).dies = s.dies ∧ (State.coarse s x).chans = s.chans ∧ (State.coarse s x).chains = s.chains ∧
    (State.coarse s x).coef = s.coef ∧ (State.coarse s x).fold = s.fold ∧ (State.coarse s x).rfx = s.rfx ∧
    (State.coarse s x).drv = s.drv ∧ (State.coarse s x).ck = s.ck ∧ (State.coarse s x).sv = s.sv ∧
    (State.coarse s x).fw = s.fw ∧ (State.coarse s x).hk = s.hk ∧ (State.coarse s x).ldg = s.ldg ∧
    (State.coarse s x).tk = s.tk ∧ (State.coarse s x).free = s.free := by
  unfold State.coarse
  simp -implicitDefEqProofs
@[simp] theorem State.swapDone_frame {s : State} {x : Strm} {bank : Nat} :
    (State.swapDone s x bank).pending = s.pending ∧ (State.swapDone s x bank).die = s.die ∧
    (State.swapDone s x bank).hid = s.hid ∧ (State.swapDone s x bank).hub = s.hub ∧
    (State.swapDone s x bank).links = s.links ∧ (State.swapDone s x bank).dies = s.dies ∧
    (State.swapDone s x bank).chans = s.chans ∧ (State.swapDone s x bank).chains = s.chains ∧
    (State.swapDone s x bank).coef = s.coef ∧ (State.swapDone s x bank).fold = s.fold ∧
    (State.swapDone s x bank).rfx = s.rfx ∧ (State.swapDone s x bank).drv = s.drv ∧ (State.swapDone s x bank).ck = s.ck ∧
    (State.swapDone s x bank).sv = s.sv ∧ (State.swapDone s x bank).fw = s.fw ∧ (State.swapDone s x bank).hk = s.hk ∧
    (State.swapDone s x bank).ldg = s.ldg ∧ (State.swapDone s x bank).free = s.free := by
  unfold State.swapDone
  simp -implicitDefEqProofs
@[simp] theorem State.fadeOut_frame {s : State} {x : Strm} {f : Fade} :
    (State.fadeOut s x f).2.2.2.pending = s.pending ∧ (State.fadeOut s x f).2.2.2.die = s.die ∧
    (State.fadeOut s x f).2.2.2.hid = s.hid ∧ (State.fadeOut s x f).2.2.2.hub = s.hub ∧
    (State.fadeOut s x f).2.2.2.links = s.links ∧ (State.fadeOut s x f).2.2.2.dies = s.dies ∧
    (State.fadeOut s x f).2.2.2.chans = s.chans ∧ (State.fadeOut s x f).2.2.2.coef = s.coef ∧
    (State.fadeOut s x f).2.2.2.fold = s.fold ∧ (State.fadeOut s x f).2.2.2.rfx = s.rfx ∧
    (State.fadeOut s x f).2.2.2.drv = s.drv ∧ (State.fadeOut s x f).2.2.2.ck = s.ck ∧
    (State.fadeOut s x f).2.2.2.sv = s.sv ∧ (State.fadeOut s x f).2.2.2.fw = s.fw ∧ (State.fadeOut s x f).2.2.2.hk = s.hk ∧
    (State.fadeOut s x f).2.2.2.ldg = s.ldg ∧ (State.fadeOut s x f).2.2.2.free = s.free := by
  unfold State.fadeOut
  (repeat' split) <;> simp -implicitDefEqProofs
@[simp] theorem State.firNext_frame {s : State} {x : Strm} :
    (State.firNext s x).2.2.2.pending = s.pending ∧ (State.firNext s x).2.2.2.die = s.die ∧
    (State.firNext s x).2.2.2.hid = s.hid ∧ (State.firNext s x).2.2.2.hub = s.hub ∧
    (State.firNext s x).2.2.2.links = s.links ∧ (State.firNext s x).2.2.2.dies = s.dies ∧
    (State.firNext s x).2.2.2.chans = s.chans ∧ (State.firNext s x).2.2.2.coef = s.coef ∧
    (State.firNext s x).2.2.2.fold = s.fold ∧ (State.firNext s x).2.2.2.rfx = s.rfx ∧
    (State.firNext s x).2.2.2.drv = s.drv ∧ (State.firNext s x).2.2.2.ck = s.ck ∧ (State.firNext s x).2.2.2.sv = s.sv ∧
    (State.firNext s x).2.2.2.fw = s.fw ∧ (State.firNext s x).2.2.2.hk = s.hk ∧ (State.firNext s x).2.2.2.ldg = s.ldg ∧
    (State.firNext s x).2.2.2.free = s.free := by
  unfold State.firNext
  try dsimp only
  (repeat' split) <;> simp -implicitDefEqProofs
@[simp] theorem State.firRun_frame {s : State} {x : Strm} :
    (State.firRun s x).pending = s.pending ∧ (State.firRun s x).die = s.die ∧ (State.firRun s x).hid = s.hid ∧
    (State.firRun s x).hub = s.hub ∧ (State.firRun s x).links = s.links ∧ (State.firRun s x).dies = s.dies ∧
    (State.firRun s x).chans = s.chans ∧ (State.firRun s x).coef = s.coef ∧ (State.firRun s x).fold = s.fold ∧
    (State.firRun s x).rfx = s.rfx ∧ (State.firRun s x).drv = s.drv ∧ (State.firRun s x).ck = s.ck ∧
    (State.firRun s x).sv = s.sv ∧ (State.firRun s x).fw = s.fw ∧ (State.firRun s x).hk = s.hk ∧
    (State.firRun s x).ldg = s.ldg ∧ (State.firRun s x).free = s.free := by
  unfold State.firRun
  simp -implicitDefEqProofs
@[simp] theorem State.dcCleared_frame {s : State} {x : Strm} :
    (State.dcCleared s x).pending = s.pending ∧ (State.dcCleared s x).die = s.die ∧ (State.dcCleared s x).hid = s.hid ∧
    (State.dcCleared s x).hub = s.hub ∧ (State.dcCleared s x).host = s.host ∧ (State.dcCleared s x).links = s.links ∧
    (State.dcCleared s x).dies = s.dies ∧ (State.dcCleared s x).chans = s.chans ∧ (State.dcCleared s x).coef = s.coef ∧
    (State.dcCleared s x).fold = s.fold ∧ (State.dcCleared s x).rfx = s.rfx ∧ (State.dcCleared s x).drv = s.drv ∧
    (State.dcCleared s x).ck = s.ck ∧ (State.dcCleared s x).sv = s.sv ∧ (State.dcCleared s x).fw = s.fw ∧
    (State.dcCleared s x).hk = s.hk ∧ (State.dcCleared s x).ldg = s.ldg ∧ (State.dcCleared s x).tk = s.tk ∧
    (State.dcCleared s x).free = s.free := by
  unfold State.dcCleared
  simp -implicitDefEqProofs
@[simp] theorem State.swapAsk_frame {s : State} {x : Strm} {bank : Nat} {len : Nat} :
    (State.swapAsk s x bank len).pending = s.pending ∧ (State.swapAsk s x bank len).die = s.die ∧
    (State.swapAsk s x bank len).hid = s.hid ∧ (State.swapAsk s x bank len).hub = s.hub ∧
    (State.swapAsk s x bank len).links = s.links ∧ (State.swapAsk s x bank len).dies = s.dies ∧
    (State.swapAsk s x bank len).chans = s.chans ∧ (State.swapAsk s x bank len).coef = s.coef ∧
    (State.swapAsk s x bank len).fold = s.fold ∧ (State.swapAsk s x bank len).rfx = s.rfx ∧
    (State.swapAsk s x bank len).drv = s.drv ∧ (State.swapAsk s x bank len).ck = s.ck ∧
    (State.swapAsk s x bank len).sv = s.sv ∧ (State.swapAsk s x bank len).fw = s.fw ∧
    (State.swapAsk s x bank len).hk = s.hk ∧ (State.swapAsk s x bank len).ldg = s.ldg ∧
    (State.swapAsk s x bank len).free = s.free := by
  unfold State.swapAsk
  simp -implicitDefEqProofs
@[simp] theorem State.syncReset_frame {s : State} {x : Strm} :
    (State.syncReset s x).pending = s.pending ∧ (State.syncReset s x).die = s.die ∧ (State.syncReset s x).hid = s.hid ∧
    (State.syncReset s x).hub = s.hub ∧ (State.syncReset s x).links = s.links ∧ (State.syncReset s x).dies = s.dies ∧
    (State.syncReset s x).chans = s.chans ∧ (State.syncReset s x).coef = s.coef ∧ (State.syncReset s x).fold = s.fold ∧
    (State.syncReset s x).rfx = s.rfx ∧ (State.syncReset s x).drv = s.drv ∧ (State.syncReset s x).ck = s.ck ∧
    (State.syncReset s x).sv = s.sv ∧ (State.syncReset s x).fw = s.fw ∧ (State.syncReset s x).hk = s.hk ∧
    (State.syncReset s x).ldg = s.ldg ∧ (State.syncReset s x).free = s.free := by
  unfold State.syncReset
  try dsimp only
  (repeat' split) <;> simp -implicitDefEqProofs
@[simp] theorem State.fineRun_frame {s : State} {x : Strm} :
    (State.fineRun s x).pending = s.pending ∧ (State.fineRun s x).die = s.die ∧ (State.fineRun s x).hid = s.hid ∧
    (State.fineRun s x).hub = s.hub ∧ (State.fineRun s x).links = s.links ∧ (State.fineRun s x).dies = s.dies ∧
    (State.fineRun s x).chans = s.chans ∧ (State.fineRun s x).coef = s.coef ∧ (State.fineRun s x).fold = s.fold ∧
    (State.fineRun s x).ck = s.ck ∧ (State.fineRun s x).sv = s.sv ∧ (State.fineRun s x).fw = s.fw ∧
    (State.fineRun s x).hk = s.hk ∧ (State.fineRun s x).ldg = s.ldg ∧ (State.fineRun s x).free = s.free := by
  unfold State.fineRun
  simp -implicitDefEqProofs
@[simp] theorem State.putState_frame {s : State} {c : Ch} {e : OutEntry} :
    (State.putState s c e).pending = s.pending ∧ (State.putState s c e).regs = s.regs ∧ (State.putState s c e).die = s.die ∧
    (State.putState s c e).hid = s.hid ∧ (State.putState s c e).hub = s.hub ∧ (State.putState s c e).links = s.links ∧
    (State.putState s c e).dies = s.dies ∧ (State.putState s c e).chains = s.chains ∧ (State.putState s c e).coef = s.coef ∧
    (State.putState s c e).fold = s.fold ∧ (State.putState s c e).rfx = s.rfx ∧ (State.putState s c e).drv = s.drv ∧
    (State.putState s c e).ck = s.ck ∧ (State.putState s c e).sv = s.sv ∧ (State.putState s c e).fw = s.fw ∧
    (State.putState s c e).hk = s.hk ∧ (State.putState s c e).ldg = s.ldg ∧ (State.putState s c e).tk = s.tk ∧
    (State.putState s c e).free = s.free := by
  unfold State.putState
  simp -implicitDefEqProofs
@[simp] theorem State.putPd_frame {s : State} {c : Ch} {e : OutEntry} :
    (State.putPd s c e).pending = s.pending ∧ (State.putPd s c e).regs = s.regs ∧ (State.putPd s c e).die = s.die ∧
    (State.putPd s c e).hid = s.hid ∧ (State.putPd s c e).hub = s.hub ∧ (State.putPd s c e).links = s.links ∧
    (State.putPd s c e).dies = s.dies ∧ (State.putPd s c e).chains = s.chains ∧ (State.putPd s c e).coef = s.coef ∧
    (State.putPd s c e).fold = s.fold ∧ (State.putPd s c e).rfx = s.rfx ∧ (State.putPd s c e).drv = s.drv ∧
    (State.putPd s c e).ck = s.ck ∧ (State.putPd s c e).sv = s.sv ∧ (State.putPd s c e).fw = s.fw ∧
    (State.putPd s c e).hk = s.hk ∧ (State.putPd s c e).ldg = s.ldg ∧ (State.putPd s c e).tk = s.tk ∧
    (State.putPd s c e).free = s.free := by
  unfold State.putPd
  simp -implicitDefEqProofs
@[simp] theorem State.putResp_frame {s : State} {c : Ch} {e : OutEntry} :
    (State.putResp s c e).pending = s.pending ∧ (State.putResp s c e).regs = s.regs ∧ (State.putResp s c e).die = s.die ∧
    (State.putResp s c e).hid = s.hid ∧ (State.putResp s c e).hub = s.hub ∧ (State.putResp s c e).links = s.links ∧
    (State.putResp s c e).dies = s.dies ∧ (State.putResp s c e).chains = s.chains ∧ (State.putResp s c e).coef = s.coef ∧
    (State.putResp s c e).fold = s.fold ∧ (State.putResp s c e).rfx = s.rfx ∧ (State.putResp s c e).drv = s.drv ∧
    (State.putResp s c e).ck = s.ck ∧ (State.putResp s c e).sv = s.sv ∧ (State.putResp s c e).fw = s.fw ∧
    (State.putResp s c e).hk = s.hk ∧ (State.putResp s c e).ldg = s.ldg ∧ (State.putResp s c e).tk = s.tk ∧
    (State.putResp s c e).free = s.free := by
  unfold State.putResp
  simp -implicitDefEqProofs
@[simp] theorem State.putEvent_frame {s : State} {c : Ch} {e : OutEntry} :
    (State.putEvent s c e).pending = s.pending ∧ (State.putEvent s c e).die = s.die ∧ (State.putEvent s c e).hid = s.hid ∧
    (State.putEvent s c e).hub = s.hub ∧ (State.putEvent s c e).links = s.links ∧ (State.putEvent s c e).dies = s.dies ∧
    (State.putEvent s c e).chains = s.chains ∧ (State.putEvent s c e).coef = s.coef ∧ (State.putEvent s c e).fold = s.fold ∧
    (State.putEvent s c e).rfx = s.rfx ∧ (State.putEvent s c e).drv = s.drv ∧ (State.putEvent s c e).ck = s.ck ∧
    (State.putEvent s c e).sv = s.sv ∧ (State.putEvent s c e).fw = s.fw ∧ (State.putEvent s c e).hk = s.hk ∧
    (State.putEvent s c e).ldg = s.ldg ∧ (State.putEvent s c e).free = s.free := by
  unfold State.putEvent
  simp -implicitDefEqProofs
@[simp] theorem State.odSend_frame {s : State} {c : Ch} :
    (State.odSend s c).pending = s.pending ∧ (State.odSend s c).regs = s.regs ∧ (State.odSend s c).die = s.die ∧
    (State.odSend s c).hid = s.hid ∧ (State.odSend s c).hub = s.hub ∧ (State.odSend s c).host = s.host ∧
    (State.odSend s c).dies = s.dies ∧ (State.odSend s c).chans = s.chans ∧ (State.odSend s c).chains = s.chains ∧
    (State.odSend s c).coef = s.coef ∧ (State.odSend s c).fold = s.fold ∧ (State.odSend s c).rfx = s.rfx ∧
    (State.odSend s c).drv = s.drv ∧ (State.odSend s c).ck = s.ck ∧ (State.odSend s c).sv = s.sv ∧
    (State.odSend s c).fw = s.fw ∧ (State.odSend s c).hk = s.hk ∧ (State.odSend s c).ldg = s.ldg ∧
    (State.odSend s c).tk = s.tk := by
  unfold State.odSend
  simp -implicitDefEqProofs
@[simp] theorem State.confirmEvents_frame {s : State} {c : Ch} :
    (State.confirmEvents s c).pending = s.pending ∧ (State.confirmEvents s c).regs = s.regs ∧
    (State.confirmEvents s c).die = s.die ∧ (State.confirmEvents s c).hid = s.hid ∧ (State.confirmEvents s c).hub = s.hub ∧
    (State.confirmEvents s c).host = s.host ∧ (State.confirmEvents s c).dies = s.dies ∧
    (State.confirmEvents s c).chains = s.chains ∧ (State.confirmEvents s c).coef = s.coef ∧
    (State.confirmEvents s c).fold = s.fold ∧ (State.confirmEvents s c).rfx = s.rfx ∧
    (State.confirmEvents s c).drv = s.drv ∧ (State.confirmEvents s c).ck = s.ck ∧ (State.confirmEvents s c).sv = s.sv ∧
    (State.confirmEvents s c).fw = s.fw ∧ (State.confirmEvents s c).hk = s.hk ∧ (State.confirmEvents s c).ldg = s.ldg ∧
    (State.confirmEvents s c).tk = s.tk := by
  unfold State.confirmEvents
  simp -implicitDefEqProofs
@[simp] theorem State.endIsdu_frame {s : State} {c : Ch} {q : Isdu} {status : Nat} :
    (State.endIsdu s c q status).pending = s.pending ∧ (State.endIsdu s c q status).regs = s.regs ∧
    (State.endIsdu s c q status).die = s.die ∧ (State.endIsdu s c q status).hid = s.hid ∧
    (State.endIsdu s c q status).hub = s.hub ∧ (State.endIsdu s c q status).links = s.links ∧
    (State.endIsdu s c q status).dies = s.dies ∧ (State.endIsdu s c q status).chains = s.chains ∧
    (State.endIsdu s c q status).coef = s.coef ∧ (State.endIsdu s c q status).fold = s.fold ∧
    (State.endIsdu s c q status).rfx = s.rfx ∧ (State.endIsdu s c q status).drv = s.drv ∧
    (State.endIsdu s c q status).ck = s.ck ∧ (State.endIsdu s c q status).sv = s.sv ∧
    (State.endIsdu s c q status).fw = s.fw ∧ (State.endIsdu s c q status).hk = s.hk ∧
    (State.endIsdu s c q status).ldg = s.ldg ∧ (State.endIsdu s c q status).tk = s.tk ∧
    (State.endIsdu s c q status).free = s.free := by
  unfold State.endIsdu
  simp -implicitDefEqProofs
@[simp] theorem State.reqDone_frame {s : State} {c : Ch} {seq : Nat} {op : Nat} {status : Nat} :
    (State.reqDone s c seq op status).pending = s.pending ∧ (State.reqDone s c seq op status).regs = s.regs ∧
    (State.reqDone s c seq op status).die = s.die ∧ (State.reqDone s c seq op status).hid = s.hid ∧
    (State.reqDone s c seq op status).hub = s.hub ∧ (State.reqDone s c seq op status).links = s.links ∧
    (State.reqDone s c seq op status).dies = s.dies ∧ (State.reqDone s c seq op status).chains = s.chains ∧
    (State.reqDone s c seq op status).coef = s.coef ∧ (State.reqDone s c seq op status).fold = s.fold ∧
    (State.reqDone s c seq op status).rfx = s.rfx ∧ (State.reqDone s c seq op status).drv = s.drv ∧
    (State.reqDone s c seq op status).ck = s.ck ∧ (State.reqDone s c seq op status).sv = s.sv ∧
    (State.reqDone s c seq op status).fw = s.fw ∧ (State.reqDone s c seq op status).hk = s.hk ∧
    (State.reqDone s c seq op status).ldg = s.ldg ∧ (State.reqDone s c seq op status).tk = s.tk ∧
    (State.reqDone s c seq op status).free = s.free := by
  unfold State.reqDone
  simp -implicitDefEqProofs
@[simp] theorem State.markDead_frame {s : State} {k : Nat × Nat × Nat × Nat} {on : Bool} :
    (State.markDead s k on).pending = s.pending ∧ (State.markDead s k on).regs = s.regs ∧
    (State.markDead s k on).die = s.die ∧ (State.markDead s k on).hid = s.hid ∧ (State.markDead s k on).hub = s.hub ∧
    (State.markDead s k on).host = s.host ∧ (State.markDead s k on).links = s.links ∧
    (State.markDead s k on).dies = s.dies ∧ (State.markDead s k on).chans = s.chans ∧
    (State.markDead s k on).chains = s.chains ∧ (State.markDead s k on).coef = s.coef ∧
    (State.markDead s k on).fold = s.fold ∧ (State.markDead s k on).rfx = s.rfx ∧ (State.markDead s k on).drv = s.drv ∧
    (State.markDead s k on).ck = s.ck ∧ (State.markDead s k on).sv = s.sv ∧ (State.markDead s k on).hk = s.hk ∧
    (State.markDead s k on).ldg = s.ldg ∧ (State.markDead s k on).tk = s.tk ∧ (State.markDead s k on).free = s.free := by
  unfold State.markDead
  simp -implicitDefEqProofs
@[simp] theorem State.endFrag_frame {s : State} {c : Ch} {status : Nat} :
    (State.endFrag s c status).pending = s.pending ∧ (State.endFrag s c status).regs = s.regs ∧
    (State.endFrag s c status).die = s.die ∧ (State.endFrag s c status).hid = s.hid ∧
    (State.endFrag s c status).hub = s.hub ∧ (State.endFrag s c status).links = s.links ∧
    (State.endFrag s c status).dies = s.dies ∧ (State.endFrag s c status).chains = s.chains ∧
    (State.endFrag s c status).coef = s.coef ∧ (State.endFrag s c status).fold = s.fold ∧
    (State.endFrag s c status).rfx = s.rfx ∧ (State.endFrag s c status).drv = s.drv ∧ (State.endFrag s c status).ck = s.ck ∧
    (State.endFrag s c status).sv = s.sv ∧ (State.endFrag s c status).hk = s.hk ∧ (State.endFrag s c status).ldg = s.ldg ∧
    (State.endFrag s c status).tk = s.tk ∧ (State.endFrag s c status).free = s.free := by
  unfold State.endFrag
  (repeat' split) <;> simp -implicitDefEqProofs
@[simp] theorem State.endIsdus_frame {s : State} {c : Ch} :
    (State.endIsdus s c).pending = s.pending ∧ (State.endIsdus s c).regs = s.regs ∧ (State.endIsdus s c).die = s.die ∧
    (State.endIsdus s c).hid = s.hid ∧ (State.endIsdus s c).hub = s.hub ∧ (State.endIsdus s c).links = s.links ∧
    (State.endIsdus s c).dies = s.dies ∧ (State.endIsdus s c).chains = s.chains ∧ (State.endIsdus s c).coef = s.coef ∧
    (State.endIsdus s c).fold = s.fold ∧ (State.endIsdus s c).rfx = s.rfx ∧ (State.endIsdus s c).drv = s.drv ∧
    (State.endIsdus s c).ck = s.ck ∧ (State.endIsdus s c).sv = s.sv ∧ (State.endIsdus s c).hk = s.hk ∧
    (State.endIsdus s c).ldg = s.ldg ∧ (State.endIsdus s c).tk = s.tk ∧ (State.endIsdus s c).free = s.free := by
  unfold State.endIsdus
  dsimp only
  simp only [State.endFrag_frame]
  repeat' apply And.intro
  all_goals (refine (State.foldl_keep _ (fun s x => ?_) _ _).trans ?_)
  all_goals simp
@[simp] theorem State.nextIsdu_frame {s : State} {c : Ch} :
    (State.nextIsdu s c).pending = s.pending ∧ (State.nextIsdu s c).regs = s.regs ∧ (State.nextIsdu s c).die = s.die ∧
    (State.nextIsdu s c).hid = s.hid ∧ (State.nextIsdu s c).hub = s.hub ∧ (State.nextIsdu s c).host = s.host ∧
    (State.nextIsdu s c).dies = s.dies ∧ (State.nextIsdu s c).chains = s.chains ∧ (State.nextIsdu s c).coef = s.coef ∧
    (State.nextIsdu s c).fold = s.fold ∧ (State.nextIsdu s c).rfx = s.rfx ∧ (State.nextIsdu s c).drv = s.drv ∧
    (State.nextIsdu s c).ck = s.ck ∧ (State.nextIsdu s c).sv = s.sv ∧ (State.nextIsdu s c).fw = s.fw ∧
    (State.nextIsdu s c).hk = s.hk ∧ (State.nextIsdu s c).ldg = s.ldg ∧ (State.nextIsdu s c).tk = s.tk := by
  unfold State.nextIsdu
  try dsimp only
  (repeat' split) <;> simp -implicitDefEqProofs
@[simp] theorem State.drainPort_frame {s : State} {c : Ch} :
    (State.drainPort s c).pending = s.pending ∧ (State.drainPort s c).die = s.die ∧ (State.drainPort s c).hid = s.hid ∧
    (State.drainPort s c).hub = s.hub ∧ (State.drainPort s c).dies = s.dies ∧ (State.drainPort s c).chains = s.chains ∧
    (State.drainPort s c).coef = s.coef ∧ (State.drainPort s c).fold = s.fold ∧ (State.drainPort s c).rfx = s.rfx ∧
    (State.drainPort s c).drv = s.drv ∧ (State.drainPort s c).ck = s.ck ∧ (State.drainPort s c).sv = s.sv ∧
    (State.drainPort s c).fw = s.fw ∧ (State.drainPort s c).hk = s.hk ∧ (State.drainPort s c).ldg = s.ldg := by
  unfold State.drainPort
  try dsimp only
  (repeat' split) <;> simp -implicitDefEqProofs
@[simp] theorem State.drain5_frame {s : State} :
    (State.drain5 s).pending = s.pending ∧ (State.drain5 s).die = s.die ∧ (State.drain5 s).hid = s.hid ∧
    (State.drain5 s).hub = s.hub ∧ (State.drain5 s).dies = s.dies ∧ (State.drain5 s).chains = s.chains ∧
    (State.drain5 s).coef = s.coef ∧ (State.drain5 s).fold = s.fold ∧ (State.drain5 s).rfx = s.rfx ∧
    (State.drain5 s).drv = s.drv ∧ (State.drain5 s).ck = s.ck ∧ (State.drain5 s).sv = s.sv ∧ (State.drain5 s).fw = s.fw ∧
    (State.drain5 s).hk = s.hk ∧ (State.drain5 s).ldg = s.ldg := by
  unfold State.drain5
  simp -implicitDefEqProofs
@[simp] theorem State.portSet_frame {s : State} {c : Ch} {st : Nat} {rs : Nat} :
    (State.portSet s c st rs).pending = s.pending ∧ (State.portSet s c st rs).die = s.die ∧
    (State.portSet s c st rs).hid = s.hid ∧ (State.portSet s c st rs).hub = s.hub ∧
    (State.portSet s c st rs).links = s.links ∧ (State.portSet s c st rs).dies = s.dies ∧
    (State.portSet s c st rs).chains = s.chains ∧ (State.portSet s c st rs).coef = s.coef ∧
    (State.portSet s c st rs).fold = s.fold ∧ (State.portSet s c st rs).rfx = s.rfx ∧
    (State.portSet s c st rs).drv = s.drv ∧ (State.portSet s c st rs).ck = s.ck ∧ (State.portSet s c st rs).sv = s.sv ∧
    (State.portSet s c st rs).fw = s.fw ∧ (State.portSet s c st rs).hk = s.hk ∧ (State.portSet s c st rs).ldg = s.ldg ∧
    (State.portSet s c st rs).free = s.free := by
  unfold State.portSet
  simp -implicitDefEqProofs
@[simp] theorem State.sendPlain_frame {s : State} {c : Ch} {off : Nat} :
    (State.sendPlain s c off).pending = s.pending ∧ (State.sendPlain s c off).regs = s.regs ∧
    (State.sendPlain s c off).die = s.die ∧ (State.sendPlain s c off).hid = s.hid ∧ (State.sendPlain s c off).hub = s.hub ∧
    (State.sendPlain s c off).host = s.host ∧ (State.sendPlain s c off).dies = s.dies ∧
    (State.sendPlain s c off).chans = s.chans ∧ (State.sendPlain s c off).chains = s.chains ∧
    (State.sendPlain s c off).coef = s.coef ∧ (State.sendPlain s c off).fold = s.fold ∧
    (State.sendPlain s c off).rfx = s.rfx ∧ (State.sendPlain s c off).drv = s.drv ∧ (State.sendPlain s c off).ck = s.ck ∧
    (State.sendPlain s c off).sv = s.sv ∧ (State.sendPlain s c off).fw = s.fw ∧ (State.sendPlain s c off).hk = s.hk ∧
    (State.sendPlain s c off).ldg = s.ldg ∧ (State.sendPlain s c off).tk = s.tk ∧ (State.sendPlain s c off).free = s.free := by
  unfold State.sendPlain
  simp -implicitDefEqProofs
@[simp] theorem State.supplierCmd_frame {s : State} {c : Ch} {on : Bool} :
    (State.supplierCmd s c on).pending = s.pending ∧ (State.supplierCmd s c on).die = s.die ∧
    (State.supplierCmd s c on).hid = s.hid ∧ (State.supplierCmd s c on).hub = s.hub ∧
    (State.supplierCmd s c on).host = s.host ∧ (State.supplierCmd s c on).dies = s.dies ∧
    (State.supplierCmd s c on).chains = s.chains ∧ (State.supplierCmd s c on).coef = s.coef ∧
    (State.supplierCmd s c on).fold = s.fold ∧ (State.supplierCmd s c on).rfx = s.rfx ∧
    (State.supplierCmd s c on).drv = s.drv ∧ (State.supplierCmd s c on).ck = s.ck ∧ (State.supplierCmd s c on).sv = s.sv ∧
    (State.supplierCmd s c on).fw = s.fw ∧ (State.supplierCmd s c on).hk = s.hk ∧ (State.supplierCmd s c on).ldg = s.ldg ∧
    (State.supplierCmd s c on).tk = s.tk ∧ (State.supplierCmd s c on).free = s.free := by
  unfold State.supplierCmd
  (repeat' split) <;> simp -implicitDefEqProofs
@[simp] theorem State.portGo_frame {s : State} {c : Ch} :
    (State.portGo s c).pending = s.pending ∧ (State.portGo s c).die = s.die ∧ (State.portGo s c).hid = s.hid ∧
    (State.portGo s c).hub = s.hub ∧ (State.portGo s c).links = s.links ∧ (State.portGo s c).dies = s.dies ∧
    (State.portGo s c).chains = s.chains ∧ (State.portGo s c).coef = s.coef ∧ (State.portGo s c).fold = s.fold ∧
    (State.portGo s c).rfx = s.rfx ∧ (State.portGo s c).drv = s.drv ∧ (State.portGo s c).ck = s.ck ∧
    (State.portGo s c).sv = s.sv ∧ (State.portGo s c).fw = s.fw ∧ (State.portGo s c).hk = s.hk ∧
    (State.portGo s c).ldg = s.ldg ∧ (State.portGo s c).free = s.free := by
  unfold State.portGo
  (repeat' split) <;> simp -implicitDefEqProofs
@[simp] theorem State.powering_frame {s : State} {c : Ch} :
    (State.powering s c).pending = s.pending ∧ (State.powering s c).die = s.die ∧ (State.powering s c).hid = s.hid ∧
    (State.powering s c).hub = s.hub ∧ (State.powering s c).links = s.links ∧ (State.powering s c).dies = s.dies ∧
    (State.powering s c).chains = s.chains ∧ (State.powering s c).coef = s.coef ∧ (State.powering s c).fold = s.fold ∧
    (State.powering s c).rfx = s.rfx ∧ (State.powering s c).drv = s.drv ∧ (State.powering s c).ck = s.ck ∧
    (State.powering s c).sv = s.sv ∧ (State.powering s c).fw = s.fw ∧ (State.powering s c).hk = s.hk ∧
    (State.powering s c).ldg = s.ldg ∧ (State.powering s c).free = s.free := by
  unfold State.powering
  simp -implicitDefEqProofs
@[simp] theorem State.portCheck_frame {s : State} {c : Ch} :
    (State.portCheck s c).pending = s.pending ∧ (State.portCheck s c).die = s.die ∧ (State.portCheck s c).hid = s.hid ∧
    (State.portCheck s c).hub = s.hub ∧ (State.portCheck s c).links = s.links ∧ (State.portCheck s c).dies = s.dies ∧
    (State.portCheck s c).chains = s.chains ∧ (State.portCheck s c).coef = s.coef ∧ (State.portCheck s c).fold = s.fold ∧
    (State.portCheck s c).rfx = s.rfx ∧ (State.portCheck s c).drv = s.drv ∧ (State.portCheck s c).ck = s.ck ∧
    (State.portCheck s c).sv = s.sv ∧ (State.portCheck s c).hk = s.hk ∧ (State.portCheck s c).ldg = s.ldg ∧
    (State.portCheck s c).free = s.free := by
  unfold State.portCheck
  try dsimp only
  (repeat' split) <;> simp -implicitDefEqProofs
@[simp] theorem State.portChecks_frame {s : State} {g : Grp} :
    (State.portChecks s g).pending = s.pending ∧ (State.portChecks s g).die = s.die ∧ (State.portChecks s g).hid = s.hid ∧
    (State.portChecks s g).hub = s.hub ∧ (State.portChecks s g).links = s.links ∧ (State.portChecks s g).dies = s.dies ∧
    (State.portChecks s g).chains = s.chains ∧ (State.portChecks s g).coef = s.coef ∧ (State.portChecks s g).fold = s.fold ∧
    (State.portChecks s g).rfx = s.rfx ∧ (State.portChecks s g).drv = s.drv ∧ (State.portChecks s g).ck = s.ck ∧
    (State.portChecks s g).sv = s.sv ∧ (State.portChecks s g).hk = s.hk ∧ (State.portChecks s g).ldg = s.ldg ∧
    (State.portChecks s g).free = s.free := by
  unfold State.portChecks
  simp -implicitDefEqProofs
@[simp] theorem State.targetCheck_frame {s : State} {c : Ch} :
    (State.targetCheck s c).pending = s.pending ∧ (State.targetCheck s c).die = s.die ∧
    (State.targetCheck s c).hid = s.hid ∧ (State.targetCheck s c).hub = s.hub ∧ (State.targetCheck s c).links = s.links ∧
    (State.targetCheck s c).dies = s.dies ∧ (State.targetCheck s c).chains = s.chains ∧
    (State.targetCheck s c).coef = s.coef ∧ (State.targetCheck s c).fold = s.fold ∧ (State.targetCheck s c).rfx = s.rfx ∧
    (State.targetCheck s c).drv = s.drv ∧ (State.targetCheck s c).ck = s.ck ∧ (State.targetCheck s c).sv = s.sv ∧
    (State.targetCheck s c).fw = s.fw ∧ (State.targetCheck s c).hk = s.hk ∧ (State.targetCheck s c).ldg = s.ldg ∧
    (State.targetCheck s c).free = s.free := by
  unfold State.targetCheck
  simp -implicitDefEqProofs
@[simp] theorem State.supplierOn_frame {s : State} {c : Ch} :
    (State.supplierOn s c).pending = s.pending ∧ (State.supplierOn s c).die = s.die ∧ (State.supplierOn s c).hid = s.hid ∧
    (State.supplierOn s c).hub = s.hub ∧ (State.supplierOn s c).host = s.host ∧ (State.supplierOn s c).dies = s.dies ∧
    (State.supplierOn s c).chains = s.chains ∧ (State.supplierOn s c).coef = s.coef ∧ (State.supplierOn s c).fold = s.fold ∧
    (State.supplierOn s c).rfx = s.rfx ∧ (State.supplierOn s c).drv = s.drv ∧ (State.supplierOn s c).ck = s.ck ∧
    (State.supplierOn s c).sv = s.sv ∧ (State.supplierOn s c).fw = s.fw ∧ (State.supplierOn s c).hk = s.hk ∧
    (State.supplierOn s c).ldg = s.ldg ∧ (State.supplierOn s c).tk = s.tk ∧ (State.supplierOn s c).free = s.free := by
  unfold State.supplierOn
  simp -implicitDefEqProofs
@[simp] theorem State.portBegin_frame {s : State} {c : Ch} :
    (State.portBegin s c).pending = s.pending ∧ (State.portBegin s c).die = s.die ∧ (State.portBegin s c).hid = s.hid ∧
    (State.portBegin s c).hub = s.hub ∧ (State.portBegin s c).links = s.links ∧ (State.portBegin s c).dies = s.dies ∧
    (State.portBegin s c).chains = s.chains ∧ (State.portBegin s c).coef = s.coef ∧ (State.portBegin s c).fold = s.fold ∧
    (State.portBegin s c).rfx = s.rfx ∧ (State.portBegin s c).drv = s.drv ∧ (State.portBegin s c).ck = s.ck ∧
    (State.portBegin s c).sv = s.sv ∧ (State.portBegin s c).hk = s.hk ∧ (State.portBegin s c).ldg = s.ldg ∧
    (State.portBegin s c).free = s.free := by
  unfold State.portBegin
  simp -implicitDefEqProofs
@[simp] theorem State.portActive_frame {s : State} {c : Ch} :
    (State.portActive s c).pending = s.pending ∧ (State.portActive s c).die = s.die ∧ (State.portActive s c).hid = s.hid ∧
    (State.portActive s c).hub = s.hub ∧ (State.portActive s c).links = s.links ∧ (State.portActive s c).dies = s.dies ∧
    (State.portActive s c).chains = s.chains ∧ (State.portActive s c).coef = s.coef ∧ (State.portActive s c).fold = s.fold ∧
    (State.portActive s c).rfx = s.rfx ∧ (State.portActive s c).drv = s.drv ∧ (State.portActive s c).ck = s.ck ∧
    (State.portActive s c).sv = s.sv ∧ (State.portActive s c).hk = s.hk ∧ (State.portActive s c).ldg = s.ldg ∧
    (State.portActive s c).free = s.free := by
  unfold State.portActive
  simp -implicitDefEqProofs
@[simp] theorem State.portsPower_frame {s : State} {g : Grp} :
    (State.portsPower s g).pending = s.pending ∧ (State.portsPower s g).die = s.die ∧ (State.portsPower s g).hid = s.hid ∧
    (State.portsPower s g).hub = s.hub ∧ (State.portsPower s g).links = s.links ∧ (State.portsPower s g).dies = s.dies ∧
    (State.portsPower s g).chains = s.chains ∧ (State.portsPower s g).coef = s.coef ∧ (State.portsPower s g).fold = s.fold ∧
    (State.portsPower s g).rfx = s.rfx ∧ (State.portsPower s g).drv = s.drv ∧ (State.portsPower s g).ck = s.ck ∧
    (State.portsPower s g).sv = s.sv ∧ (State.portsPower s g).hk = s.hk ∧ (State.portsPower s g).ldg = s.ldg ∧
    (State.portsPower s g).free = s.free := by
  unfold State.portsPower
  simp -implicitDefEqProofs
@[simp] theorem State.portEnd_frame {s : State} {c : Ch} :
    (State.portEnd s c).pending = s.pending ∧ (State.portEnd s c).die = s.die ∧ (State.portEnd s c).hid = s.hid ∧
    (State.portEnd s c).hub = s.hub ∧ (State.portEnd s c).links = s.links ∧ (State.portEnd s c).dies = s.dies ∧
    (State.portEnd s c).chains = s.chains ∧ (State.portEnd s c).coef = s.coef ∧ (State.portEnd s c).fold = s.fold ∧
    (State.portEnd s c).rfx = s.rfx ∧ (State.portEnd s c).drv = s.drv ∧ (State.portEnd s c).ck = s.ck ∧
    (State.portEnd s c).sv = s.sv ∧ (State.portEnd s c).hk = s.hk ∧ (State.portEnd s c).ldg = s.ldg ∧
    (State.portEnd s c).free = s.free := by
  unfold State.portEnd
  try dsimp only
  simp -implicitDefEqProofs
@[simp] theorem State.takeDevice_frame {s : State} {c : Ch} :
    (State.takeDevice s c).pending = s.pending ∧ (State.takeDevice s c).die = s.die ∧ (State.takeDevice s c).hid = s.hid ∧
    (State.takeDevice s c).hub = s.hub ∧ (State.takeDevice s c).links = s.links ∧ (State.takeDevice s c).dies = s.dies ∧
    (State.takeDevice s c).chains = s.chains ∧ (State.takeDevice s c).coef = s.coef ∧ (State.takeDevice s c).fold = s.fold ∧
    (State.takeDevice s c).rfx = s.rfx ∧ (State.takeDevice s c).drv = s.drv ∧ (State.takeDevice s c).ck = s.ck ∧
    (State.takeDevice s c).sv = s.sv ∧ (State.takeDevice s c).fw = s.fw ∧ (State.takeDevice s c).hk = s.hk ∧
    (State.takeDevice s c).ldg = s.ldg ∧ (State.takeDevice s c).free = s.free := by
  unfold State.takeDevice
  simp -implicitDefEqProofs
@[simp] theorem State.iolCtrlWritten_frame {s : State} {c : Ch} {start : Bool} {ask : Bool} :
    (State.iolCtrlWritten s c start ask).pending = s.pending ∧ (State.iolCtrlWritten s c start ask).die = s.die ∧
    (State.iolCtrlWritten s c start ask).hid = s.hid ∧ (State.iolCtrlWritten s c start ask).hub = s.hub ∧
    (State.iolCtrlWritten s c start ask).dies = s.dies ∧ (State.iolCtrlWritten s c start ask).chains = s.chains ∧
    (State.iolCtrlWritten s c start ask).coef = s.coef ∧ (State.iolCtrlWritten s c start ask).fold = s.fold ∧
    (State.iolCtrlWritten s c start ask).rfx = s.rfx ∧ (State.iolCtrlWritten s c start ask).drv = s.drv ∧
    (State.iolCtrlWritten s c start ask).ck = s.ck ∧ (State.iolCtrlWritten s c start ask).sv = s.sv ∧
    (State.iolCtrlWritten s c start ask).hk = s.hk ∧ (State.iolCtrlWritten s c start ask).ldg = s.ldg ∧
    (State.iolCtrlWritten s c start ask).free = s.free := by
  unfold State.iolCtrlWritten
  simp -implicitDefEqProofs
@[simp] theorem State.pdOutMask_frame {s : State} {c : Ch} :
    (State.pdOutMask s c).pending = s.pending ∧ (State.pdOutMask s c).die = s.die ∧ (State.pdOutMask s c).hid = s.hid ∧
    (State.pdOutMask s c).hub = s.hub ∧ (State.pdOutMask s c).host = s.host ∧ (State.pdOutMask s c).links = s.links ∧
    (State.pdOutMask s c).dies = s.dies ∧ (State.pdOutMask s c).chans = s.chans ∧ (State.pdOutMask s c).chains = s.chains ∧
    (State.pdOutMask s c).coef = s.coef ∧ (State.pdOutMask s c).fold = s.fold ∧ (State.pdOutMask s c).rfx = s.rfx ∧
    (State.pdOutMask s c).drv = s.drv ∧ (State.pdOutMask s c).ck = s.ck ∧ (State.pdOutMask s c).sv = s.sv ∧
    (State.pdOutMask s c).fw = s.fw ∧ (State.pdOutMask s c).hk = s.hk ∧ (State.pdOutMask s c).ldg = s.ldg ∧
    (State.pdOutMask s c).tk = s.tk ∧ (State.pdOutMask s c).free = s.free := by
  unfold State.pdOutMask
  (repeat' split) <;> simp -implicitDefEqProofs
@[simp] theorem State.pdOutWritten_frame {s : State} {c : Ch} :
    (State.pdOutWritten s c).pending = s.pending ∧ (State.pdOutWritten s c).die = s.die ∧
    (State.pdOutWritten s c).hid = s.hid ∧ (State.pdOutWritten s c).hub = s.hub ∧ (State.pdOutWritten s c).host = s.host ∧
    (State.pdOutWritten s c).dies = s.dies ∧ (State.pdOutWritten s c).chains = s.chains ∧
    (State.pdOutWritten s c).coef = s.coef ∧ (State.pdOutWritten s c).fold = s.fold ∧ (State.pdOutWritten s c).rfx = s.rfx ∧
    (State.pdOutWritten s c).drv = s.drv ∧ (State.pdOutWritten s c).ck = s.ck ∧ (State.pdOutWritten s c).sv = s.sv ∧
    (State.pdOutWritten s c).fw = s.fw ∧ (State.pdOutWritten s c).hk = s.hk ∧ (State.pdOutWritten s c).ldg = s.ldg ∧
    (State.pdOutWritten s c).tk = s.tk ∧ (State.pdOutWritten s c).free = s.free := by
  unfold State.pdOutWritten
  simp -implicitDefEqProofs
@[simp] theorem State.pdOutDie_frame {s : State} {c : Ch} {v : Nat} :
    (State.pdOutDie s c v).pending = s.pending ∧ (State.pdOutDie s c v).regs = s.regs ∧ (State.pdOutDie s c v).die = s.die ∧
    (State.pdOutDie s c v).hid = s.hid ∧ (State.pdOutDie s c v).hub = s.hub ∧ (State.pdOutDie s c v).host = s.host ∧
    (State.pdOutDie s c v).links = s.links ∧ (State.pdOutDie s c v).dies = s.dies ∧
    (State.pdOutDie s c v).chains = s.chains ∧ (State.pdOutDie s c v).coef = s.coef ∧ (State.pdOutDie s c v).fold = s.fold ∧
    (State.pdOutDie s c v).rfx = s.rfx ∧ (State.pdOutDie s c v).drv = s.drv ∧ (State.pdOutDie s c v).ck = s.ck ∧
    (State.pdOutDie s c v).sv = s.sv ∧ (State.pdOutDie s c v).fw = s.fw ∧ (State.pdOutDie s c v).hk = s.hk ∧
    (State.pdOutDie s c v).ldg = s.ldg ∧ (State.pdOutDie s c v).tk = s.tk ∧ (State.pdOutDie s c v).free = s.free := by
  unfold State.pdOutDie
  simp -implicitDefEqProofs
@[simp] theorem State.supplierWritten_frame {s : State} {d : Ch} :
    (State.supplierWritten s d).pending = s.pending ∧ (State.supplierWritten s d).die = s.die ∧
    (State.supplierWritten s d).hid = s.hid ∧ (State.supplierWritten s d).hub = s.hub ∧
    (State.supplierWritten s d).links = s.links ∧ (State.supplierWritten s d).dies = s.dies ∧
    (State.supplierWritten s d).chains = s.chains ∧ (State.supplierWritten s d).coef = s.coef ∧
    (State.supplierWritten s d).fold = s.fold ∧ (State.supplierWritten s d).rfx = s.rfx ∧
    (State.supplierWritten s d).drv = s.drv ∧ (State.supplierWritten s d).ck = s.ck ∧
    (State.supplierWritten s d).sv = s.sv ∧ (State.supplierWritten s d).hk = s.hk ∧
    (State.supplierWritten s d).ldg = s.ldg ∧ (State.supplierWritten s d).free = s.free := by
  unfold State.supplierWritten
  simp -implicitDefEqProofs
@[simp] theorem State.supplierShed_frame {s : State} {d : Ch} :
    (State.supplierShed s d).pending = s.pending ∧ (State.supplierShed s d).die = s.die ∧
    (State.supplierShed s d).hid = s.hid ∧ (State.supplierShed s d).hub = s.hub ∧ (State.supplierShed s d).links = s.links ∧
    (State.supplierShed s d).dies = s.dies ∧ (State.supplierShed s d).chains = s.chains ∧
    (State.supplierShed s d).coef = s.coef ∧ (State.supplierShed s d).fold = s.fold ∧ (State.supplierShed s d).rfx = s.rfx ∧
    (State.supplierShed s d).drv = s.drv ∧ (State.supplierShed s d).ck = s.ck ∧ (State.supplierShed s d).sv = s.sv ∧
    (State.supplierShed s d).hk = s.hk ∧ (State.supplierShed s d).ldg = s.ldg ∧ (State.supplierShed s d).free = s.free := by
  unfold State.supplierShed
  simp -implicitDefEqProofs
@[simp] theorem State.portLeaves_frame {s : State} {c : Ch} :
    (State.portLeaves s c).pending = s.pending ∧ (State.portLeaves s c).regs = s.regs ∧ (State.portLeaves s c).die = s.die ∧
    (State.portLeaves s c).hid = s.hid ∧ (State.portLeaves s c).hub = s.hub ∧ (State.portLeaves s c).links = s.links ∧
    (State.portLeaves s c).dies = s.dies ∧ (State.portLeaves s c).chains = s.chains ∧ (State.portLeaves s c).coef = s.coef ∧
    (State.portLeaves s c).fold = s.fold ∧ (State.portLeaves s c).rfx = s.rfx ∧ (State.portLeaves s c).drv = s.drv ∧
    (State.portLeaves s c).ck = s.ck ∧ (State.portLeaves s c).sv = s.sv ∧ (State.portLeaves s c).hk = s.hk ∧
    (State.portLeaves s c).ldg = s.ldg ∧ (State.portLeaves s c).tk = s.tk ∧ (State.portLeaves s c).free = s.free := by
  unfold State.portLeaves
  try dsimp only
  simp -implicitDefEqProofs
@[simp] theorem State.portLeft_frame {s : State} {c : Ch} :
    (State.portLeft s c).pending = s.pending ∧ (State.portLeft s c).die = s.die ∧ (State.portLeft s c).hid = s.hid ∧
    (State.portLeft s c).hub = s.hub ∧ (State.portLeft s c).links = s.links ∧ (State.portLeft s c).dies = s.dies ∧
    (State.portLeft s c).chains = s.chains ∧ (State.portLeft s c).coef = s.coef ∧ (State.portLeft s c).fold = s.fold ∧
    (State.portLeft s c).rfx = s.rfx ∧ (State.portLeft s c).drv = s.drv ∧ (State.portLeft s c).ck = s.ck ∧
    (State.portLeft s c).sv = s.sv ∧ (State.portLeft s c).fw = s.fw ∧ (State.portLeft s c).hk = s.hk ∧
    (State.portLeft s c).ldg = s.ldg ∧ (State.portLeft s c).free = s.free := by
  unfold State.portLeft
  simp -implicitDefEqProofs
@[simp] theorem State.portLost_frame {s : State} {c : Ch} :
    (State.portLost s c).pending = s.pending ∧ (State.portLost s c).die = s.die ∧ (State.portLost s c).hid = s.hid ∧
    (State.portLost s c).hub = s.hub ∧ (State.portLost s c).links = s.links ∧ (State.portLost s c).dies = s.dies ∧
    (State.portLost s c).chains = s.chains ∧ (State.portLost s c).coef = s.coef ∧ (State.portLost s c).fold = s.fold ∧
    (State.portLost s c).rfx = s.rfx ∧ (State.portLost s c).drv = s.drv ∧ (State.portLost s c).ck = s.ck ∧
    (State.portLost s c).sv = s.sv ∧ (State.portLost s c).hk = s.hk ∧ (State.portLost s c).ldg = s.ldg ∧
    (State.portLost s c).free = s.free := by
  unfold State.portLost
  try dsimp only
  simp -implicitDefEqProofs
@[simp] theorem State.portResumed_frame {s : State} {c : Ch} :
    (State.portResumed s c).pending = s.pending ∧ (State.portResumed s c).die = s.die ∧
    (State.portResumed s c).hid = s.hid ∧ (State.portResumed s c).hub = s.hub ∧ (State.portResumed s c).dies = s.dies ∧
    (State.portResumed s c).chains = s.chains ∧ (State.portResumed s c).coef = s.coef ∧
    (State.portResumed s c).fold = s.fold ∧ (State.portResumed s c).rfx = s.rfx ∧ (State.portResumed s c).drv = s.drv ∧
    (State.portResumed s c).ck = s.ck ∧ (State.portResumed s c).sv = s.sv ∧ (State.portResumed s c).hk = s.hk ∧
    (State.portResumed s c).ldg = s.ldg ∧ (State.portResumed s c).free = s.free := by
  unfold State.portResumed
  simp -implicitDefEqProofs
@[simp] theorem State.fwResumed_frame {s : State} :
    (State.fwResumed s).pending = s.pending ∧ (State.fwResumed s).die = s.die ∧ (State.fwResumed s).hid = s.hid ∧
    (State.fwResumed s).hub = s.hub ∧ (State.fwResumed s).dies = s.dies ∧ (State.fwResumed s).chains = s.chains ∧
    (State.fwResumed s).coef = s.coef ∧ (State.fwResumed s).fold = s.fold ∧ (State.fwResumed s).rfx = s.rfx ∧
    (State.fwResumed s).drv = s.drv ∧ (State.fwResumed s).ck = s.ck ∧ (State.fwResumed s).sv = s.sv ∧
    (State.fwResumed s).hk = s.hk ∧ (State.fwResumed s).ldg = s.ldg := by
  unfold State.fwResumed
  try dsimp only
  simp -implicitDefEqProofs
@[simp] theorem State.fwHanded_frame {s : State} :
    (State.fwHanded s).pending = s.pending ∧ (State.fwHanded s).die = s.die ∧ (State.fwHanded s).hid = s.hid ∧
    (State.fwHanded s).hub = s.hub ∧ (State.fwHanded s).dies = s.dies ∧ (State.fwHanded s).chains = s.chains ∧
    (State.fwHanded s).coef = s.coef ∧ (State.fwHanded s).fold = s.fold ∧ (State.fwHanded s).rfx = s.rfx ∧
    (State.fwHanded s).drv = s.drv ∧ (State.fwHanded s).ck = s.ck ∧ (State.fwHanded s).sv = s.sv ∧
    (State.fwHanded s).hk = s.hk ∧ (State.fwHanded s).ldg = s.ldg := by
  unfold State.fwHanded
  simp -implicitDefEqProofs
@[simp] theorem State.inspect_frame {s : State} {c : Ch} {d : IolDevice} :
    (State.inspect s c d).pending = s.pending ∧ (State.inspect s c d).die = s.die ∧ (State.inspect s c d).hid = s.hid ∧
    (State.inspect s c d).hub = s.hub ∧ (State.inspect s c d).links = s.links ∧ (State.inspect s c d).dies = s.dies ∧
    (State.inspect s c d).chains = s.chains ∧ (State.inspect s c d).coef = s.coef ∧ (State.inspect s c d).fold = s.fold ∧
    (State.inspect s c d).rfx = s.rfx ∧ (State.inspect s c d).drv = s.drv ∧ (State.inspect s c d).ck = s.ck ∧
    (State.inspect s c d).sv = s.sv ∧ (State.inspect s c d).fw = s.fw ∧ (State.inspect s c d).hk = s.hk ∧
    (State.inspect s c d).ldg = s.ldg ∧ (State.inspect s c d).free = s.free := by
  unfold State.inspect
  (repeat' split) <;> simp -implicitDefEqProofs
@[simp] theorem State.masterCycle_frame {s : State} {c : Ch} :
    (State.masterCycle s c).pending = s.pending ∧ (State.masterCycle s c).regs = s.regs ∧
    (State.masterCycle s c).die = s.die ∧ (State.masterCycle s c).hid = s.hid ∧ (State.masterCycle s c).hub = s.hub ∧
    (State.masterCycle s c).host = s.host ∧ (State.masterCycle s c).links = s.links ∧
    (State.masterCycle s c).dies = s.dies ∧ (State.masterCycle s c).chains = s.chains ∧
    (State.masterCycle s c).coef = s.coef ∧ (State.masterCycle s c).fold = s.fold ∧ (State.masterCycle s c).rfx = s.rfx ∧
    (State.masterCycle s c).drv = s.drv ∧ (State.masterCycle s c).ck = s.ck ∧ (State.masterCycle s c).sv = s.sv ∧
    (State.masterCycle s c).fw = s.fw ∧ (State.masterCycle s c).hk = s.hk ∧ (State.masterCycle s c).ldg = s.ldg ∧
    (State.masterCycle s c).tk = s.tk ∧ (State.masterCycle s c).free = s.free := by
  unfold State.masterCycle
  simp -implicitDefEqProofs
@[simp] theorem State.pdIn_frame {s : State} {c : Ch} {n : Nat} {v : Nat} {start : Nat} :
    (State.pdIn s c n v start).pending = s.pending ∧ (State.pdIn s c n v start).die = s.die ∧
    (State.pdIn s c n v start).hid = s.hid ∧ (State.pdIn s c n v start).hub = s.hub ∧
    (State.pdIn s c n v start).links = s.links ∧ (State.pdIn s c n v start).dies = s.dies ∧
    (State.pdIn s c n v start).chains = s.chains ∧ (State.pdIn s c n v start).coef = s.coef ∧
    (State.pdIn s c n v start).fold = s.fold ∧ (State.pdIn s c n v start).rfx = s.rfx ∧
    (State.pdIn s c n v start).drv = s.drv ∧ (State.pdIn s c n v start).ck = s.ck ∧ (State.pdIn s c n v start).sv = s.sv ∧
    (State.pdIn s c n v start).fw = s.fw ∧ (State.pdIn s c n v start).hk = s.hk ∧ (State.pdIn s c n v start).ldg = s.ldg ∧
    (State.pdIn s c n v start).free = s.free := by
  unfold State.pdIn
  simp -implicitDefEqProofs
@[simp] theorem State.portMessage_frame {s : State} {c : Ch} {good : Bool} :
    (State.portMessage s c good).pending = s.pending ∧ (State.portMessage s c good).die = s.die ∧
    (State.portMessage s c good).hid = s.hid ∧ (State.portMessage s c good).hub = s.hub ∧
    (State.portMessage s c good).links = s.links ∧ (State.portMessage s c good).dies = s.dies ∧
    (State.portMessage s c good).chains = s.chains ∧ (State.portMessage s c good).coef = s.coef ∧
    (State.portMessage s c good).fold = s.fold ∧ (State.portMessage s c good).rfx = s.rfx ∧
    (State.portMessage s c good).drv = s.drv ∧ (State.portMessage s c good).ck = s.ck ∧
    (State.portMessage s c good).sv = s.sv ∧ (State.portMessage s c good).hk = s.hk ∧
    (State.portMessage s c good).ldg = s.ldg ∧ (State.portMessage s c good).free = s.free := by
  unfold State.portMessage
  simp -implicitDefEqProofs
@[simp] theorem State.portCycle_frame {s : State} {c : Ch} {good : Bool} {pd : Nat} :
    (State.portCycle s c good pd).pending = s.pending ∧ (State.portCycle s c good pd).die = s.die ∧
    (State.portCycle s c good pd).hid = s.hid ∧ (State.portCycle s c good pd).hub = s.hub ∧
    (State.portCycle s c good pd).links = s.links ∧ (State.portCycle s c good pd).chains = s.chains ∧
    (State.portCycle s c good pd).coef = s.coef ∧ (State.portCycle s c good pd).fold = s.fold ∧
    (State.portCycle s c good pd).rfx = s.rfx ∧ (State.portCycle s c good pd).drv = s.drv ∧
    (State.portCycle s c good pd).ck = s.ck ∧ (State.portCycle s c good pd).sv = s.sv ∧
    (State.portCycle s c good pd).hk = s.hk ∧ (State.portCycle s c good pd).ldg = s.ldg := by
  unfold State.portCycle
  try dsimp only
  (repeat' split) <;> simp -implicitDefEqProofs
@[simp] theorem State.takeReq_pending {s : State} {op : Nat} {k : State → Entry → State} (h : ∀ (a0 : State) (a1 : Entry), (k a0 a1).pending = a0.pending) :
    (State.takeReq s op k).pending = s.pending := by
  unfold State.takeReq
  (repeat' split) <;> simp -implicitDefEqProofs [h]
@[simp] theorem State.takeReq_regs {s : State} {op : Nat} {k : State → Entry → State} (h : ∀ (a0 : State) (a1 : Entry), (k a0 a1).regs = a0.regs) :
    (State.takeReq s op k).regs = s.regs := by
  unfold State.takeReq
  (repeat' split) <;> simp -implicitDefEqProofs [h]
@[simp] theorem State.takeReq_die {s : State} {op : Nat} {k : State → Entry → State} (h : ∀ (a0 : State) (a1 : Entry), (k a0 a1).die = a0.die) :
    (State.takeReq s op k).die = s.die := by
  unfold State.takeReq
  (repeat' split) <;> simp -implicitDefEqProofs [h]
@[simp] theorem State.takeReq_hid {s : State} {op : Nat} {k : State → Entry → State} (h : ∀ (a0 : State) (a1 : Entry), (k a0 a1).hid = a0.hid) :
    (State.takeReq s op k).hid = s.hid := by
  unfold State.takeReq
  (repeat' split) <;> simp -implicitDefEqProofs [h]
@[simp] theorem State.takeReq_hub {s : State} {op : Nat} {k : State → Entry → State} (h : ∀ (a0 : State) (a1 : Entry), (k a0 a1).hub = a0.hub) :
    (State.takeReq s op k).hub = s.hub := by
  unfold State.takeReq
  (repeat' split) <;> simp -implicitDefEqProofs [h]
@[simp] theorem State.takeReq_host {s : State} {op : Nat} {k : State → Entry → State} (h : ∀ (a0 : State) (a1 : Entry), (k a0 a1).host = a0.host) :
    (State.takeReq s op k).host = s.host := by
  unfold State.takeReq
  (repeat' split) <;> simp -implicitDefEqProofs [h]
@[simp] theorem State.takeReq_links {s : State} {op : Nat} {k : State → Entry → State} (h : ∀ (a0 : State) (a1 : Entry), (k a0 a1).links = a0.links) :
    (State.takeReq s op k).links = s.links := by
  unfold State.takeReq
  (repeat' split) <;> simp -implicitDefEqProofs [h]
@[simp] theorem State.takeReq_dies {s : State} {op : Nat} {k : State → Entry → State} (h : ∀ (a0 : State) (a1 : Entry), (k a0 a1).dies = a0.dies) :
    (State.takeReq s op k).dies = s.dies := by
  unfold State.takeReq
  (repeat' split) <;> simp -implicitDefEqProofs [h]
@[simp] theorem State.takeReq_chans {s : State} {op : Nat} {k : State → Entry → State} (h : ∀ (a0 : State) (a1 : Entry), (k a0 a1).chans = a0.chans) :
    (State.takeReq s op k).chans = s.chans := by
  unfold State.takeReq
  (repeat' split) <;> simp -implicitDefEqProofs [h]
@[simp] theorem State.takeReq_chains {s : State} {op : Nat} {k : State → Entry → State} (h : ∀ (a0 : State) (a1 : Entry), (k a0 a1).chains = a0.chains) :
    (State.takeReq s op k).chains = s.chains := by
  unfold State.takeReq
  (repeat' split) <;> simp -implicitDefEqProofs [h]
@[simp] theorem State.takeReq_coef {s : State} {op : Nat} {k : State → Entry → State} (h : ∀ (a0 : State) (a1 : Entry), (k a0 a1).coef = a0.coef) :
    (State.takeReq s op k).coef = s.coef := by
  unfold State.takeReq
  (repeat' split) <;> simp -implicitDefEqProofs [h]
@[simp] theorem State.takeReq_fold {s : State} {op : Nat} {k : State → Entry → State} (h : ∀ (a0 : State) (a1 : Entry), (k a0 a1).fold = a0.fold) :
    (State.takeReq s op k).fold = s.fold := by
  unfold State.takeReq
  (repeat' split) <;> simp -implicitDefEqProofs [h]
@[simp] theorem State.takeReq_rfx {s : State} {op : Nat} {k : State → Entry → State} (h : ∀ (a0 : State) (a1 : Entry), (k a0 a1).rfx = a0.rfx) :
    (State.takeReq s op k).rfx = s.rfx := by
  unfold State.takeReq
  (repeat' split) <;> simp -implicitDefEqProofs [h]
@[simp] theorem State.takeReq_drv {s : State} {op : Nat} {k : State → Entry → State} (h : ∀ (a0 : State) (a1 : Entry), (k a0 a1).drv = a0.drv) :
    (State.takeReq s op k).drv = s.drv := by
  unfold State.takeReq
  (repeat' split) <;> simp -implicitDefEqProofs [h]
@[simp] theorem State.takeReq_ck {s : State} {op : Nat} {k : State → Entry → State} (h : ∀ (a0 : State) (a1 : Entry), (k a0 a1).ck = a0.ck) :
    (State.takeReq s op k).ck = s.ck := by
  unfold State.takeReq
  (repeat' split) <;> simp -implicitDefEqProofs [h]
@[simp] theorem State.takeReq_sv {s : State} {op : Nat} {k : State → Entry → State} (h : ∀ (a0 : State) (a1 : Entry), (k a0 a1).sv = a0.sv) :
    (State.takeReq s op k).sv = s.sv := by
  unfold State.takeReq
  (repeat' split) <;> simp -implicitDefEqProofs [h]
@[simp] theorem State.takeReq_hk {s : State} {op : Nat} {k : State → Entry → State} (h : ∀ (a0 : State) (a1 : Entry), (k a0 a1).hk = a0.hk) :
    (State.takeReq s op k).hk = s.hk := by
  unfold State.takeReq
  (repeat' split) <;> simp -implicitDefEqProofs [h]
@[simp] theorem State.takeReq_ldg {s : State} {op : Nat} {k : State → Entry → State} (h : ∀ (a0 : State) (a1 : Entry), (k a0 a1).ldg = a0.ldg) :
    (State.takeReq s op k).ldg = s.ldg := by
  unfold State.takeReq
  (repeat' split) <;> simp -implicitDefEqProofs [h]
@[simp] theorem State.takeReq_tk {s : State} {op : Nat} {k : State → Entry → State} (h : ∀ (a0 : State) (a1 : Entry), (k a0 a1).tk = a0.tk) :
    (State.takeReq s op k).tk = s.tk := by
  unfold State.takeReq
  (repeat' split) <;> simp -implicitDefEqProofs [h]
@[simp] theorem State.takeReq_free {s : State} {op : Nat} {k : State → Entry → State} (h : ∀ (a0 : State) (a1 : Entry), (k a0 a1).free = a0.free) :
    (State.takeReq s op k).free = s.free := by
  unfold State.takeReq
  (repeat' split) <;> simp -implicitDefEqProofs [h]
@[simp] theorem State.refuseIsdu_frame {s : State} {e : Entry} {status : Nat} :
    (State.refuseIsdu s e status).pending = s.pending ∧ (State.refuseIsdu s e status).regs = s.regs ∧
    (State.refuseIsdu s e status).die = s.die ∧ (State.refuseIsdu s e status).hid = s.hid ∧
    (State.refuseIsdu s e status).hub = s.hub ∧ (State.refuseIsdu s e status).links = s.links ∧
    (State.refuseIsdu s e status).dies = s.dies ∧ (State.refuseIsdu s e status).chans = s.chans ∧
    (State.refuseIsdu s e status).chains = s.chains ∧ (State.refuseIsdu s e status).coef = s.coef ∧
    (State.refuseIsdu s e status).fold = s.fold ∧ (State.refuseIsdu s e status).rfx = s.rfx ∧
    (State.refuseIsdu s e status).drv = s.drv ∧ (State.refuseIsdu s e status).ck = s.ck ∧
    (State.refuseIsdu s e status).sv = s.sv ∧ (State.refuseIsdu s e status).fw = s.fw ∧
    (State.refuseIsdu s e status).hk = s.hk ∧ (State.refuseIsdu s e status).ldg = s.ldg ∧
    (State.refuseIsdu s e status).tk = s.tk ∧ (State.refuseIsdu s e status).free = s.free := by
  unfold State.refuseIsdu
  simp -implicitDefEqProofs
@[simp] theorem State.interleave_frame {s : State} {c : Ch} :
    (State.interleave s c).pending = s.pending ∧ (State.interleave s c).regs = s.regs ∧ (State.interleave s c).die = s.die ∧
    (State.interleave s c).hid = s.hid ∧ (State.interleave s c).hub = s.hub ∧ (State.interleave s c).links = s.links ∧
    (State.interleave s c).dies = s.dies ∧ (State.interleave s c).chains = s.chains ∧ (State.interleave s c).coef = s.coef ∧
    (State.interleave s c).fold = s.fold ∧ (State.interleave s c).rfx = s.rfx ∧ (State.interleave s c).drv = s.drv ∧
    (State.interleave s c).ck = s.ck ∧ (State.interleave s c).sv = s.sv ∧ (State.interleave s c).hk = s.hk ∧
    (State.interleave s c).ldg = s.ldg ∧ (State.interleave s c).tk = s.tk ∧ (State.interleave s c).free = s.free := by
  unfold State.interleave
  simp -implicitDefEqProofs
@[simp] theorem State.queueIsdu_frame {s : State} {c : Ch} {q : Isdu} :
    (State.queueIsdu s c q).pending = s.pending ∧ (State.queueIsdu s c q).regs = s.regs ∧
    (State.queueIsdu s c q).die = s.die ∧ (State.queueIsdu s c q).hid = s.hid ∧ (State.queueIsdu s c q).hub = s.hub ∧
    (State.queueIsdu s c q).dies = s.dies ∧ (State.queueIsdu s c q).chains = s.chains ∧
    (State.queueIsdu s c q).coef = s.coef ∧ (State.queueIsdu s c q).fold = s.fold ∧ (State.queueIsdu s c q).rfx = s.rfx ∧
    (State.queueIsdu s c q).drv = s.drv ∧ (State.queueIsdu s c q).ck = s.ck ∧ (State.queueIsdu s c q).sv = s.sv ∧
    (State.queueIsdu s c q).fw = s.fw ∧ (State.queueIsdu s c q).hk = s.hk ∧ (State.queueIsdu s c q).ldg = s.ldg ∧
    (State.queueIsdu s c q).tk = s.tk := by
  unfold State.queueIsdu
  simp -implicitDefEqProofs
@[simp] theorem State.passOver_frame {s : State} {e : Entry} :
    (State.passOver s e).pending = s.pending ∧ (State.passOver s e).regs = s.regs ∧ (State.passOver s e).die = s.die ∧
    (State.passOver s e).hid = s.hid ∧ (State.passOver s e).hub = s.hub ∧ (State.passOver s e).host = s.host ∧
    (State.passOver s e).links = s.links ∧ (State.passOver s e).dies = s.dies ∧ (State.passOver s e).chans = s.chans ∧
    (State.passOver s e).chains = s.chains ∧ (State.passOver s e).coef = s.coef ∧ (State.passOver s e).fold = s.fold ∧
    (State.passOver s e).rfx = s.rfx ∧ (State.passOver s e).drv = s.drv ∧ (State.passOver s e).ck = s.ck ∧
    (State.passOver s e).sv = s.sv ∧ (State.passOver s e).hk = s.hk ∧ (State.passOver s e).ldg = s.ldg ∧
    (State.passOver s e).tk = s.tk ∧ (State.passOver s e).free = s.free := by
  unfold State.passOver
  simp -implicitDefEqProofs
@[simp] theorem State.fragment_frame {s : State} {c : Ch} {e : Entry} :
    (State.fragment s c e).pending = s.pending ∧ (State.fragment s c e).regs = s.regs ∧ (State.fragment s c e).die = s.die ∧
    (State.fragment s c e).hid = s.hid ∧ (State.fragment s c e).hub = s.hub ∧ (State.fragment s c e).dies = s.dies ∧
    (State.fragment s c e).chains = s.chains ∧ (State.fragment s c e).coef = s.coef ∧ (State.fragment s c e).fold = s.fold ∧
    (State.fragment s c e).rfx = s.rfx ∧ (State.fragment s c e).drv = s.drv ∧ (State.fragment s c e).ck = s.ck ∧
    (State.fragment s c e).sv = s.sv ∧ (State.fragment s c e).hk = s.hk ∧ (State.fragment s c e).ldg = s.ldg ∧
    (State.fragment s c e).tk = s.tk := by
  unfold State.fragment
  try dsimp only
  (repeat' split) <;> simp -implicitDefEqProofs
@[simp] theorem State.powerCycle_frame {s : State} {c : Ch} {e : Entry} :
    (State.powerCycle s c e).pending = s.pending ∧ (State.powerCycle s c e).die = s.die ∧
    (State.powerCycle s c e).hid = s.hid ∧ (State.powerCycle s c e).hub = s.hub ∧ (State.powerCycle s c e).dies = s.dies ∧
    (State.powerCycle s c e).chains = s.chains ∧ (State.powerCycle s c e).coef = s.coef ∧
    (State.powerCycle s c e).fold = s.fold ∧ (State.powerCycle s c e).rfx = s.rfx ∧ (State.powerCycle s c e).drv = s.drv ∧
    (State.powerCycle s c e).ck = s.ck ∧ (State.powerCycle s c e).sv = s.sv ∧ (State.powerCycle s c e).hk = s.hk ∧
    (State.powerCycle s c e).ldg = s.ldg ∧ (State.powerCycle s c e).tk = s.tk ∧ (State.powerCycle s c e).free = s.free := by
  unfold State.powerCycle
  try dsimp only
  (repeat' split) <;> simp -implicitDefEqProofs
@[simp] theorem State.updCopy_frame {s : State} {g : Grp} {f : LCopy → LCopy} :
    (State.updCopy s g f).pending = s.pending ∧ (State.updCopy s g f).regs = s.regs ∧ (State.updCopy s g f).die = s.die ∧
    (State.updCopy s g f).hid = s.hid ∧ (State.updCopy s g f).hub = s.hub ∧ (State.updCopy s g f).host = s.host ∧
    (State.updCopy s g f).links = s.links ∧ (State.updCopy s g f).dies = s.dies ∧ (State.updCopy s g f).chans = s.chans ∧
    (State.updCopy s g f).chains = s.chains ∧ (State.updCopy s g f).coef = s.coef ∧ (State.updCopy s g f).fold = s.fold ∧
    (State.updCopy s g f).rfx = s.rfx ∧ (State.updCopy s g f).drv = s.drv ∧ (State.updCopy s g f).ck = s.ck ∧
    (State.updCopy s g f).sv = s.sv ∧ (State.updCopy s g f).fw = s.fw ∧ (State.updCopy s g f).hk = s.hk ∧
    (State.updCopy s g f).tk = s.tk ∧ (State.updCopy s g f).free = s.free := by
  unfold State.updCopy
  simp -implicitDefEqProofs
@[simp] theorem State.ldgNote_frame {s : State} {event : Nat} {code : Nat} {src : Nat} {cls : Nat} {seq : Nat} :
    (State.ldgNote s event code src cls seq).pending = s.pending ∧ (State.ldgNote s event code src cls seq).die = s.die ∧
    (State.ldgNote s event code src cls seq).hid = s.hid ∧ (State.ldgNote s event code src cls seq).hub = s.hub ∧
    (State.ldgNote s event code src cls seq).links = s.links ∧ (State.ldgNote s event code src cls seq).dies = s.dies ∧
    (State.ldgNote s event code src cls seq).chans = s.chans ∧ (State.ldgNote s event code src cls seq).chains = s.chains ∧
    (State.ldgNote s event code src cls seq).coef = s.coef ∧ (State.ldgNote s event code src cls seq).fold = s.fold ∧
    (State.ldgNote s event code src cls seq).rfx = s.rfx ∧ (State.ldgNote s event code src cls seq).drv = s.drv ∧
    (State.ldgNote s event code src cls seq).ck = s.ck ∧ (State.ldgNote s event code src cls seq).sv = s.sv ∧
    (State.ldgNote s event code src cls seq).fw = s.fw ∧ (State.ldgNote s event code src cls seq).hk = s.hk ∧
    (State.ldgNote s event code src cls seq).ldg = s.ldg ∧ (State.ldgNote s event code src cls seq).free = s.free := by
  unfold State.ldgNote
  simp -implicitDefEqProofs
@[simp] theorem State.assertFault_frame {s : State} {code : Nat} {src : Nat} {cls : Nat} {seq : Nat} :
    (State.assertFault s code src cls seq).pending = s.pending ∧ (State.assertFault s code src cls seq).die = s.die ∧
    (State.assertFault s code src cls seq).hid = s.hid ∧ (State.assertFault s code src cls seq).hub = s.hub ∧
    (State.assertFault s code src cls seq).links = s.links ∧ (State.assertFault s code src cls seq).dies = s.dies ∧
    (State.assertFault s code src cls seq).chans = s.chans ∧ (State.assertFault s code src cls seq).chains = s.chains ∧
    (State.assertFault s code src cls seq).coef = s.coef ∧ (State.assertFault s code src cls seq).fold = s.fold ∧
    (State.assertFault s code src cls seq).rfx = s.rfx ∧ (State.assertFault s code src cls seq).drv = s.drv ∧
    (State.assertFault s code src cls seq).ck = s.ck ∧ (State.assertFault s code src cls seq).sv = s.sv ∧
    (State.assertFault s code src cls seq).fw = s.fw ∧ (State.assertFault s code src cls seq).hk = s.hk ∧
    (State.assertFault s code src cls seq).free = s.free := by
  unfold State.assertFault
  simp -implicitDefEqProofs
@[simp] theorem State.freeze_frame {s : State} {slot : Nat} {r : LRec} {seq : Nat} :
    (State.freeze s slot r seq).pending = s.pending ∧ (State.freeze s slot r seq).die = s.die ∧
    (State.freeze s slot r seq).hid = s.hid ∧ (State.freeze s slot r seq).hub = s.hub ∧
    (State.freeze s slot r seq).links = s.links ∧ (State.freeze s slot r seq).dies = s.dies ∧
    (State.freeze s slot r seq).chans = s.chans ∧ (State.freeze s slot r seq).chains = s.chains ∧
    (State.freeze s slot r seq).coef = s.coef ∧ (State.freeze s slot r seq).fold = s.fold ∧
    (State.freeze s slot r seq).rfx = s.rfx ∧ (State.freeze s slot r seq).drv = s.drv ∧
    (State.freeze s slot r seq).ck = s.ck ∧ (State.freeze s slot r seq).sv = s.sv ∧ (State.freeze s slot r seq).fw = s.fw ∧
    (State.freeze s slot r seq).hk = s.hk ∧ (State.freeze s slot r seq).free = s.free := by
  unfold State.freeze
  simp -implicitDefEqProofs
@[simp] theorem State.ldgPut_frame {s : State} {r : LRec} :
    (State.ldgPut s r).pending = s.pending ∧ (State.ldgPut s r).die = s.die ∧ (State.ldgPut s r).hid = s.hid ∧
    (State.ldgPut s r).hub = s.hub ∧ (State.ldgPut s r).links = s.links ∧ (State.ldgPut s r).dies = s.dies ∧
    (State.ldgPut s r).chans = s.chans ∧ (State.ldgPut s r).chains = s.chains ∧ (State.ldgPut s r).coef = s.coef ∧
    (State.ldgPut s r).fold = s.fold ∧ (State.ldgPut s r).rfx = s.rfx ∧ (State.ldgPut s r).drv = s.drv ∧
    (State.ldgPut s r).ck = s.ck ∧ (State.ldgPut s r).sv = s.sv ∧ (State.ldgPut s r).fw = s.fw ∧
    (State.ldgPut s r).hk = s.hk ∧ (State.ldgPut s r).free = s.free := by
  unfold State.ldgPut
  simp -implicitDefEqProofs
@[simp] theorem State.ldgPosted_frame {s : State} {v : Nat} :
    (State.ldgPosted s v).pending = s.pending ∧ (State.ldgPosted s v).die = s.die ∧ (State.ldgPosted s v).hid = s.hid ∧
    (State.ldgPosted s v).hub = s.hub ∧ (State.ldgPosted s v).links = s.links ∧ (State.ldgPosted s v).dies = s.dies ∧
    (State.ldgPosted s v).chans = s.chans ∧ (State.ldgPosted s v).chains = s.chains ∧ (State.ldgPosted s v).coef = s.coef ∧
    (State.ldgPosted s v).fold = s.fold ∧ (State.ldgPosted s v).rfx = s.rfx ∧ (State.ldgPosted s v).drv = s.drv ∧
    (State.ldgPosted s v).ck = s.ck ∧ (State.ldgPosted s v).sv = s.sv ∧ (State.ldgPosted s v).fw = s.fw ∧
    (State.ldgPosted s v).hk = s.hk ∧ (State.ldgPosted s v).free = s.free := by
  unfold State.ldgPosted
  simp -implicitDefEqProofs
@[simp] theorem State.unfreeze_frame {s : State} :
    (State.unfreeze s).pending = s.pending ∧ (State.unfreeze s).die = s.die ∧ (State.unfreeze s).hid = s.hid ∧
    (State.unfreeze s).hub = s.hub ∧ (State.unfreeze s).links = s.links ∧ (State.unfreeze s).dies = s.dies ∧
    (State.unfreeze s).chans = s.chans ∧ (State.unfreeze s).chains = s.chains ∧ (State.unfreeze s).coef = s.coef ∧
    (State.unfreeze s).fold = s.fold ∧ (State.unfreeze s).rfx = s.rfx ∧ (State.unfreeze s).drv = s.drv ∧
    (State.unfreeze s).ck = s.ck ∧ (State.unfreeze s).sv = s.sv ∧ (State.unfreeze s).fw = s.fw ∧
    (State.unfreeze s).hk = s.hk ∧ (State.unfreeze s).free = s.free := by
  unfold State.unfreeze
  simp -implicitDefEqProofs
@[simp] theorem State.faultAck_frame {s : State} :
    (State.faultAck s).pending = s.pending ∧ (State.faultAck s).die = s.die ∧ (State.faultAck s).hid = s.hid ∧
    (State.faultAck s).hub = s.hub ∧ (State.faultAck s).links = s.links ∧ (State.faultAck s).dies = s.dies ∧
    (State.faultAck s).chans = s.chans ∧ (State.faultAck s).chains = s.chains ∧ (State.faultAck s).coef = s.coef ∧
    (State.faultAck s).fold = s.fold ∧ (State.faultAck s).rfx = s.rfx ∧ (State.faultAck s).drv = s.drv ∧
    (State.faultAck s).ck = s.ck ∧ (State.faultAck s).sv = s.sv ∧ (State.faultAck s).fw = s.fw ∧
    (State.faultAck s).hk = s.hk ∧ (State.faultAck s).free = s.free := by
  unfold State.faultAck
  simp -implicitDefEqProofs
@[simp] theorem State.copyIn_frame {s : State} {g : Grp} {r : LocRec} :
    (State.copyIn s g r).pending = s.pending ∧ (State.copyIn s g r).die = s.die ∧ (State.copyIn s g r).hid = s.hid ∧
    (State.copyIn s g r).hub = s.hub ∧ (State.copyIn s g r).links = s.links ∧ (State.copyIn s g r).dies = s.dies ∧
    (State.copyIn s g r).chans = s.chans ∧ (State.copyIn s g r).chains = s.chains ∧ (State.copyIn s g r).coef = s.coef ∧
    (State.copyIn s g r).fold = s.fold ∧ (State.copyIn s g r).rfx = s.rfx ∧ (State.copyIn s g r).drv = s.drv ∧
    (State.copyIn s g r).ck = s.ck ∧ (State.copyIn s g r).sv = s.sv ∧ (State.copyIn s g r).fw = s.fw ∧
    (State.copyIn s g r).hk = s.hk ∧ (State.copyIn s g r).free = s.free := by
  unfold State.copyIn
  simp -implicitDefEqProofs
@[simp] theorem State.copyClear_frame {s : State} {g : Grp} :
    (State.copyClear s g).pending = s.pending ∧ (State.copyClear s g).die = s.die ∧ (State.copyClear s g).hid = s.hid ∧
    (State.copyClear s g).hub = s.hub ∧ (State.copyClear s g).host = s.host ∧ (State.copyClear s g).links = s.links ∧
    (State.copyClear s g).dies = s.dies ∧ (State.copyClear s g).chans = s.chans ∧ (State.copyClear s g).chains = s.chains ∧
    (State.copyClear s g).coef = s.coef ∧ (State.copyClear s g).fold = s.fold ∧ (State.copyClear s g).rfx = s.rfx ∧
    (State.copyClear s g).drv = s.drv ∧ (State.copyClear s g).ck = s.ck ∧ (State.copyClear s g).sv = s.sv ∧
    (State.copyClear s g).fw = s.fw ∧ (State.copyClear s g).hk = s.hk ∧ (State.copyClear s g).tk = s.tk ∧
    (State.copyClear s g).free = s.free := by
  unfold State.copyClear
  simp -implicitDefEqProofs
@[simp] theorem State.healthNote_frame {s : State} {src : Nat} {idx : Nat} {on : Bool} {reading : Nat} {cls : Nat} :
    (State.healthNote s src idx on reading cls).pending = s.pending ∧
    (State.healthNote s src idx on reading cls).die = s.die ∧ (State.healthNote s src idx on reading cls).hid = s.hid ∧
    (State.healthNote s src idx on reading cls).hub = s.hub ∧ (State.healthNote s src idx on reading cls).links = s.links ∧
    (State.healthNote s src idx on reading cls).dies = s.dies ∧
    (State.healthNote s src idx on reading cls).chans = s.chans ∧
    (State.healthNote s src idx on reading cls).chains = s.chains ∧
    (State.healthNote s src idx on reading cls).coef = s.coef ∧ (State.healthNote s src idx on reading cls).fold = s.fold ∧
    (State.healthNote s src idx on reading cls).rfx = s.rfx ∧ (State.healthNote s src idx on reading cls).drv = s.drv ∧
    (State.healthNote s src idx on reading cls).ck = s.ck ∧ (State.healthNote s src idx on reading cls).sv = s.sv ∧
    (State.healthNote s src idx on reading cls).fw = s.fw ∧ (State.healthNote s src idx on reading cls).hk = s.hk ∧
    (State.healthNote s src idx on reading cls).free = s.free := by
  unfold State.healthNote
  simp -implicitDefEqProofs
@[simp] theorem State.tempFlag_frame {s : State} {f : Fld} {at_ : Nat} {src : Nat} {bit : Nat} {h : Nat × Int} :
    (State.tempFlag s f at_ src bit h).pending = s.pending ∧ (State.tempFlag s f at_ src bit h).die = s.die ∧
    (State.tempFlag s f at_ src bit h).hid = s.hid ∧ (State.tempFlag s f at_ src bit h).hub = s.hub ∧
    (State.tempFlag s f at_ src bit h).links = s.links ∧ (State.tempFlag s f at_ src bit h).dies = s.dies ∧
    (State.tempFlag s f at_ src bit h).chans = s.chans ∧ (State.tempFlag s f at_ src bit h).chains = s.chains ∧
    (State.tempFlag s f at_ src bit h).coef = s.coef ∧ (State.tempFlag s f at_ src bit h).fold = s.fold ∧
    (State.tempFlag s f at_ src bit h).rfx = s.rfx ∧ (State.tempFlag s f at_ src bit h).drv = s.drv ∧
    (State.tempFlag s f at_ src bit h).ck = s.ck ∧ (State.tempFlag s f at_ src bit h).sv = s.sv ∧
    (State.tempFlag s f at_ src bit h).fw = s.fw ∧ (State.tempFlag s f at_ src bit h).hk = s.hk ∧
    (State.tempFlag s f at_ src bit h).free = s.free := by
  unfold State.tempFlag
  simp -implicitDefEqProofs
@[simp] theorem State.railBit_frame {s : State} {rail : Fin 5} {on : Bool} {mv : Nat} :
    (State.railBit s rail on mv).pending = s.pending ∧ (State.railBit s rail on mv).die = s.die ∧
    (State.railBit s rail on mv).hid = s.hid ∧ (State.railBit s rail on mv).hub = s.hub ∧
    (State.railBit s rail on mv).links = s.links ∧ (State.railBit s rail on mv).dies = s.dies ∧
    (State.railBit s rail on mv).chans = s.chans ∧ (State.railBit s rail on mv).chains = s.chains ∧
    (State.railBit s rail on mv).coef = s.coef ∧ (State.railBit s rail on mv).fold = s.fold ∧
    (State.railBit s rail on mv).rfx = s.rfx ∧ (State.railBit s rail on mv).drv = s.drv ∧
    (State.railBit s rail on mv).ck = s.ck ∧ (State.railBit s rail on mv).sv = s.sv ∧
    (State.railBit s rail on mv).fw = s.fw ∧ (State.railBit s rail on mv).hk = s.hk ∧
    (State.railBit s rail on mv).free = s.free := by
  unfold State.railBit
  simp -implicitDefEqProofs
@[simp] theorem State.replan_frame {s : State} {kind : Nat} {item : Nat} {before : Nat} {after : Nat} {measure : Nat} :
    (State.replan s kind item before after measure).pending = s.pending ∧
    (State.replan s kind item before after measure).die = s.die ∧
    (State.replan s kind item before after measure).hid = s.hid ∧
    (State.replan s kind item before after measure).hub = s.hub ∧
    (State.replan s kind item before after measure).links = s.links ∧
    (State.replan s kind item before after measure).dies = s.dies ∧
    (State.replan s kind item before after measure).chans = s.chans ∧
    (State.replan s kind item before after measure).chains = s.chains ∧
    (State.replan s kind item before after measure).coef = s.coef ∧
    (State.replan s kind item before after measure).fold = s.fold ∧
    (State.replan s kind item before after measure).rfx = s.rfx ∧
    (State.replan s kind item before after measure).drv = s.drv ∧
    (State.replan s kind item before after measure).ck = s.ck ∧ (State.replan s kind item before after measure).sv = s.sv ∧
    (State.replan s kind item before after measure).fw = s.fw ∧ (State.replan s kind item before after measure).hk = s.hk ∧
    (State.replan s kind item before after measure).free = s.free := by
  unfold State.replan
  simp -implicitDefEqProofs
@[simp] theorem State.vidCeiling_frame {s : State} :
    (State.vidCeiling s).pending = s.pending ∧ (State.vidCeiling s).die = s.die ∧ (State.vidCeiling s).hid = s.hid ∧
    (State.vidCeiling s).hub = s.hub ∧ (State.vidCeiling s).links = s.links ∧ (State.vidCeiling s).dies = s.dies ∧
    (State.vidCeiling s).chans = s.chans ∧ (State.vidCeiling s).chains = s.chains ∧ (State.vidCeiling s).coef = s.coef ∧
    (State.vidCeiling s).fold = s.fold ∧ (State.vidCeiling s).rfx = s.rfx ∧ (State.vidCeiling s).drv = s.drv ∧
    (State.vidCeiling s).ck = s.ck ∧ (State.vidCeiling s).sv = s.sv ∧ (State.vidCeiling s).fw = s.fw ∧
    (State.vidCeiling s).free = s.free := by
  unfold State.vidCeiling
  simp -implicitDefEqProofs
@[simp] theorem State.runEnd_frame {s : State} :
    (State.runEnd s).pending = s.pending ∧ (State.runEnd s).die = s.die ∧ (State.runEnd s).hid = s.hid ∧
    (State.runEnd s).hub = s.hub ∧ (State.runEnd s).host = s.host ∧ (State.runEnd s).links = s.links ∧
    (State.runEnd s).dies = s.dies ∧ (State.runEnd s).chans = s.chans ∧ (State.runEnd s).chains = s.chains ∧
    (State.runEnd s).coef = s.coef ∧ (State.runEnd s).fold = s.fold ∧ (State.runEnd s).rfx = s.rfx ∧
    (State.runEnd s).drv = s.drv ∧ (State.runEnd s).ck = s.ck ∧ (State.runEnd s).sv = s.sv ∧ (State.runEnd s).fw = s.fw ∧
    (State.runEnd s).ldg = s.ldg ∧ (State.runEnd s).tk = s.tk ∧ (State.runEnd s).free = s.free := by
  unfold State.runEnd
  simp -implicitDefEqProofs
@[simp] theorem State.vidNow_frame {s : State} :
    (State.vidNow s).pending = s.pending ∧ (State.vidNow s).die = s.die ∧ (State.vidNow s).hid = s.hid ∧
    (State.vidNow s).hub = s.hub ∧ (State.vidNow s).links = s.links ∧ (State.vidNow s).dies = s.dies ∧
    (State.vidNow s).chans = s.chans ∧ (State.vidNow s).chains = s.chains ∧ (State.vidNow s).coef = s.coef ∧
    (State.vidNow s).fold = s.fold ∧ (State.vidNow s).rfx = s.rfx ∧ (State.vidNow s).drv = s.drv ∧
    (State.vidNow s).ck = s.ck ∧ (State.vidNow s).sv = s.sv ∧ (State.vidNow s).fw = s.fw ∧ (State.vidNow s).free = s.free := by
  unfold State.vidNow
  (repeat' split) <;> simp -implicitDefEqProofs
@[simp] theorem State.vidRaise_frame {s : State} {hw : Bool} :
    (State.vidRaise s hw).pending = s.pending ∧ (State.vidRaise s hw).die = s.die ∧ (State.vidRaise s hw).hid = s.hid ∧
    (State.vidRaise s hw).hub = s.hub ∧ (State.vidRaise s hw).links = s.links ∧ (State.vidRaise s hw).dies = s.dies ∧
    (State.vidRaise s hw).chans = s.chans ∧ (State.vidRaise s hw).chains = s.chains ∧ (State.vidRaise s hw).coef = s.coef ∧
    (State.vidRaise s hw).fold = s.fold ∧ (State.vidRaise s hw).rfx = s.rfx ∧ (State.vidRaise s hw).drv = s.drv ∧
    (State.vidRaise s hw).ck = s.ck ∧ (State.vidRaise s hw).sv = s.sv ∧ (State.vidRaise s hw).fw = s.fw ∧
    (State.vidRaise s hw).free = s.free := by
  unfold State.vidRaise
  simp -implicitDefEqProofs
@[simp] theorem State.vidTick_frame {s : State} :
    (State.vidTick s).pending = s.pending ∧ (State.vidTick s).die = s.die ∧ (State.vidTick s).hid = s.hid ∧
    (State.vidTick s).hub = s.hub ∧ (State.vidTick s).links = s.links ∧ (State.vidTick s).dies = s.dies ∧
    (State.vidTick s).chans = s.chans ∧ (State.vidTick s).chains = s.chains ∧ (State.vidTick s).coef = s.coef ∧
    (State.vidTick s).fold = s.fold ∧ (State.vidTick s).rfx = s.rfx ∧ (State.vidTick s).drv = s.drv ∧
    (State.vidTick s).ck = s.ck ∧ (State.vidTick s).sv = s.sv ∧ (State.vidTick s).fw = s.fw ∧
    (State.vidTick s).free = s.free := by
  unfold State.vidTick
  simp -implicitDefEqProofs
@[simp] theorem State.hkFault_frame {s : State} {g : Grp} {f : Fld} :
    (State.hkFault s g f).pending = s.pending ∧ (State.hkFault s g f).regs = s.regs ∧ (State.hkFault s g f).hid = s.hid ∧
    (State.hkFault s g f).hub = s.hub ∧ (State.hkFault s g f).host = s.host ∧ (State.hkFault s g f).links = s.links ∧
    (State.hkFault s g f).chans = s.chans ∧ (State.hkFault s g f).chains = s.chains ∧ (State.hkFault s g f).coef = s.coef ∧
    (State.hkFault s g f).fold = s.fold ∧ (State.hkFault s g f).rfx = s.rfx ∧ (State.hkFault s g f).drv = s.drv ∧
    (State.hkFault s g f).ck = s.ck ∧ (State.hkFault s g f).sv = s.sv ∧ (State.hkFault s g f).fw = s.fw ∧
    (State.hkFault s g f).hk = s.hk ∧ (State.hkFault s g f).ldg = s.ldg ∧ (State.hkFault s g f).tk = s.tk ∧
    (State.hkFault s g f).free = s.free := by
  unfold State.hkFault
  simp -implicitDefEqProofs
@[simp] theorem State.seqGo_frame {s : State} {g : Grp} {b : Bool} {l : List Nat} :
    (State.seqGo s g b l).pending = s.pending ∧ (State.seqGo s g b l).regs = s.regs ∧ (State.seqGo s g b l).hid = s.hid ∧
    (State.seqGo s g b l).hub = s.hub ∧ (State.seqGo s g b l).host = s.host ∧ (State.seqGo s g b l).links = s.links ∧
    (State.seqGo s g b l).chans = s.chans ∧ (State.seqGo s g b l).chains = s.chains ∧ (State.seqGo s g b l).coef = s.coef ∧
    (State.seqGo s g b l).fold = s.fold ∧ (State.seqGo s g b l).rfx = s.rfx ∧ (State.seqGo s g b l).drv = s.drv ∧
    (State.seqGo s g b l).ck = s.ck ∧ (State.seqGo s g b l).sv = s.sv ∧ (State.seqGo s g b l).fw = s.fw ∧
    (State.seqGo s g b l).hk = s.hk ∧ (State.seqGo s g b l).ldg = s.ldg ∧ (State.seqGo s g b l).tk = s.tk ∧
    (State.seqGo s g b l).free = s.free := by
  unfold State.seqGo
  (repeat' split) <;> simp -implicitDefEqProofs
@[simp] theorem State.hkStart_frame {s : State} {g : Grp} {b : Bool} {mask : Nat} :
    (State.hkStart s g b mask).pending = s.pending ∧ (State.hkStart s g b mask).regs = s.regs ∧
    (State.hkStart s g b mask).hid = s.hid ∧ (State.hkStart s g b mask).hub = s.hub ∧
    (State.hkStart s g b mask).host = s.host ∧ (State.hkStart s g b mask).links = s.links ∧
    (State.hkStart s g b mask).chans = s.chans ∧ (State.hkStart s g b mask).chains = s.chains ∧
    (State.hkStart s g b mask).coef = s.coef ∧ (State.hkStart s g b mask).fold = s.fold ∧
    (State.hkStart s g b mask).rfx = s.rfx ∧ (State.hkStart s g b mask).drv = s.drv ∧ (State.hkStart s g b mask).ck = s.ck ∧
    (State.hkStart s g b mask).sv = s.sv ∧ (State.hkStart s g b mask).fw = s.fw ∧ (State.hkStart s g b mask).hk = s.hk ∧
    (State.hkStart s g b mask).ldg = s.ldg ∧ (State.hkStart s g b mask).tk = s.tk ∧
    (State.hkStart s g b mask).free = s.free := by
  unfold State.hkStart
  (repeat' split) <;> simp -implicitDefEqProofs
@[simp] theorem State.hkWindow_frame {s : State} {g : Grp} {k : Fin 24} {code : Nat} :
    (State.hkWindow s g k code).pending = s.pending ∧ (State.hkWindow s g k code).regs = s.regs ∧
    (State.hkWindow s g k code).hid = s.hid ∧ (State.hkWindow s g k code).hub = s.hub ∧
    (State.hkWindow s g k code).host = s.host ∧ (State.hkWindow s g k code).links = s.links ∧
    (State.hkWindow s g k code).chans = s.chans ∧ (State.hkWindow s g k code).chains = s.chains ∧
    (State.hkWindow s g k code).coef = s.coef ∧ (State.hkWindow s g k code).fold = s.fold ∧
    (State.hkWindow s g k code).rfx = s.rfx ∧ (State.hkWindow s g k code).drv = s.drv ∧
    (State.hkWindow s g k code).ck = s.ck ∧ (State.hkWindow s g k code).sv = s.sv ∧ (State.hkWindow s g k code).fw = s.fw ∧
    (State.hkWindow s g k code).hk = s.hk ∧ (State.hkWindow s g k code).ldg = s.ldg ∧
    (State.hkWindow s g k code).tk = s.tk := by
  unfold State.hkWindow
  simp -implicitDefEqProofs
@[simp] theorem State.hkExitIn_frame {s : State} {g : Grp} {slot : Nat} {dir : Nat} {code : Nat} :
    (State.hkExitIn s g slot dir code).pending = s.pending ∧ (State.hkExitIn s g slot dir code).die = s.die ∧
    (State.hkExitIn s g slot dir code).hid = s.hid ∧ (State.hkExitIn s g slot dir code).hub = s.hub ∧
    (State.hkExitIn s g slot dir code).links = s.links ∧ (State.hkExitIn s g slot dir code).dies = s.dies ∧
    (State.hkExitIn s g slot dir code).chans = s.chans ∧ (State.hkExitIn s g slot dir code).chains = s.chains ∧
    (State.hkExitIn s g slot dir code).coef = s.coef ∧ (State.hkExitIn s g slot dir code).fold = s.fold ∧
    (State.hkExitIn s g slot dir code).rfx = s.rfx ∧ (State.hkExitIn s g slot dir code).drv = s.drv ∧
    (State.hkExitIn s g slot dir code).ck = s.ck ∧ (State.hkExitIn s g slot dir code).sv = s.sv ∧
    (State.hkExitIn s g slot dir code).fw = s.fw ∧ (State.hkExitIn s g slot dir code).hk = s.hk ∧
    (State.hkExitIn s g slot dir code).ldg = s.ldg ∧ (State.hkExitIn s g slot dir code).free = s.free := by
  unfold State.hkExitIn
  simp -implicitDefEqProofs
@[simp] theorem State.ageRatio_frame {s : State} {c : Ch} :
    (State.ageRatio s c).pending = s.pending ∧ (State.ageRatio s c).die = s.die ∧ (State.ageRatio s c).hid = s.hid ∧
    (State.ageRatio s c).hub = s.hub ∧ (State.ageRatio s c).host = s.host ∧ (State.ageRatio s c).links = s.links ∧
    (State.ageRatio s c).dies = s.dies ∧ (State.ageRatio s c).chans = s.chans ∧ (State.ageRatio s c).chains = s.chains ∧
    (State.ageRatio s c).coef = s.coef ∧ (State.ageRatio s c).fold = s.fold ∧ (State.ageRatio s c).rfx = s.rfx ∧
    (State.ageRatio s c).drv = s.drv ∧ (State.ageRatio s c).ck = s.ck ∧ (State.ageRatio s c).sv = s.sv ∧
    (State.ageRatio s c).fw = s.fw ∧ (State.ageRatio s c).hk = s.hk ∧ (State.ageRatio s c).ldg = s.ldg ∧
    (State.ageRatio s c).tk = s.tk ∧ (State.ageRatio s c).free = s.free := by
  unfold State.ageRatio
  simp -implicitDefEqProofs
@[simp] theorem State.resTaken_frame {s : State} {c : Ch} {uv : Nat} {ma : Nat} {tj : Int} :
    (State.resTaken s c uv ma tj).pending = s.pending ∧ (State.resTaken s c uv ma tj).die = s.die ∧
    (State.resTaken s c uv ma tj).hid = s.hid ∧ (State.resTaken s c uv ma tj).hub = s.hub ∧
    (State.resTaken s c uv ma tj).host = s.host ∧ (State.resTaken s c uv ma tj).links = s.links ∧
    (State.resTaken s c uv ma tj).dies = s.dies ∧ (State.resTaken s c uv ma tj).chans = s.chans ∧
    (State.resTaken s c uv ma tj).chains = s.chains ∧ (State.resTaken s c uv ma tj).coef = s.coef ∧
    (State.resTaken s c uv ma tj).fold = s.fold ∧ (State.resTaken s c uv ma tj).rfx = s.rfx ∧
    (State.resTaken s c uv ma tj).drv = s.drv ∧ (State.resTaken s c uv ma tj).ck = s.ck ∧
    (State.resTaken s c uv ma tj).sv = s.sv ∧ (State.resTaken s c uv ma tj).fw = s.fw ∧
    (State.resTaken s c uv ma tj).ldg = s.ldg ∧ (State.resTaken s c uv ma tj).tk = s.tk ∧
    (State.resTaken s c uv ma tj).free = s.free := by
  unfold State.resTaken
  simp -implicitDefEqProofs
@[simp] theorem State.second_frame {s : State} {d : Fin 5} {b : Fin 4} :
    (State.second s d b).pending = s.pending ∧ (State.second s d b).die = s.die ∧ (State.second s d b).hid = s.hid ∧
    (State.second s d b).hub = s.hub ∧ (State.second s d b).host = s.host ∧ (State.second s d b).links = s.links ∧
    (State.second s d b).dies = s.dies ∧ (State.second s d b).chans = s.chans ∧ (State.second s d b).chains = s.chains ∧
    (State.second s d b).coef = s.coef ∧ (State.second s d b).fold = s.fold ∧ (State.second s d b).rfx = s.rfx ∧
    (State.second s d b).drv = s.drv ∧ (State.second s d b).ck = s.ck ∧ (State.second s d b).sv = s.sv ∧
    (State.second s d b).fw = s.fw ∧ (State.second s d b).ldg = s.ldg ∧ (State.second s d b).tk = s.tk ∧
    (State.second s d b).free = s.free := by
  unfold State.second
  simp -implicitDefEqProofs
@[simp] theorem State.hours_frame {s : State} :
    (State.hours s).pending = s.pending ∧ (State.hours s).die = s.die ∧ (State.hours s).hid = s.hid ∧
    (State.hours s).hub = s.hub ∧ (State.hours s).host = s.host ∧ (State.hours s).links = s.links ∧
    (State.hours s).dies = s.dies ∧ (State.hours s).chans = s.chans ∧ (State.hours s).chains = s.chains ∧
    (State.hours s).coef = s.coef ∧ (State.hours s).fold = s.fold ∧ (State.hours s).rfx = s.rfx ∧
    (State.hours s).drv = s.drv ∧ (State.hours s).ck = s.ck ∧ (State.hours s).sv = s.sv ∧ (State.hours s).fw = s.fw ∧
    (State.hours s).ldg = s.ldg ∧ (State.hours s).tk = s.tk ∧ (State.hours s).free = s.free := by
  unfold State.hours
  simp -implicitDefEqProofs
@[simp] theorem State.retuneStart_frame {s : State} {g : Grp} :
    (State.retuneStart s g).pending = s.pending ∧ (State.retuneStart s g).die = s.die ∧
    (State.retuneStart s g).hid = s.hid ∧ (State.retuneStart s g).hub = s.hub ∧ (State.retuneStart s g).host = s.host ∧
    (State.retuneStart s g).links = s.links ∧ (State.retuneStart s g).dies = s.dies ∧
    (State.retuneStart s g).chans = s.chans ∧ (State.retuneStart s g).chains = s.chains ∧
    (State.retuneStart s g).coef = s.coef ∧ (State.retuneStart s g).fold = s.fold ∧ (State.retuneStart s g).rfx = s.rfx ∧
    (State.retuneStart s g).drv = s.drv ∧ (State.retuneStart s g).ck = s.ck ∧ (State.retuneStart s g).sv = s.sv ∧
    (State.retuneStart s g).fw = s.fw ∧ (State.retuneStart s g).hk = s.hk ∧ (State.retuneStart s g).ldg = s.ldg ∧
    (State.retuneStart s g).tk = s.tk ∧ (State.retuneStart s g).free = s.free := by
  unfold State.retuneStart
  simp -implicitDefEqProofs
@[simp] theorem State.eyeSeen_frame {s : State} {g : Grp} {dir : Nat} {margin : Nat} :
    (State.eyeSeen s g dir margin).pending = s.pending ∧ (State.eyeSeen s g dir margin).regs = s.regs ∧
    (State.eyeSeen s g dir margin).die = s.die ∧ (State.eyeSeen s g dir margin).hid = s.hid ∧
    (State.eyeSeen s g dir margin).hub = s.hub ∧ (State.eyeSeen s g dir margin).host = s.host ∧
    (State.eyeSeen s g dir margin).links = s.links ∧ (State.eyeSeen s g dir margin).dies = s.dies ∧
    (State.eyeSeen s g dir margin).chans = s.chans ∧ (State.eyeSeen s g dir margin).chains = s.chains ∧
    (State.eyeSeen s g dir margin).coef = s.coef ∧ (State.eyeSeen s g dir margin).fold = s.fold ∧
    (State.eyeSeen s g dir margin).rfx = s.rfx ∧ (State.eyeSeen s g dir margin).drv = s.drv ∧
    (State.eyeSeen s g dir margin).ck = s.ck ∧ (State.eyeSeen s g dir margin).sv = s.sv ∧
    (State.eyeSeen s g dir margin).fw = s.fw ∧ (State.eyeSeen s g dir margin).ldg = s.ldg ∧
    (State.eyeSeen s g dir margin).tk = s.tk ∧ (State.eyeSeen s g dir margin).free = s.free := by
  unfold State.eyeSeen
  simp -implicitDefEqProofs
@[simp] theorem State.hoursWritten_frame {s : State} {d : Fin 5} {b : Fin 4} :
    (State.hoursWritten s d b).pending = s.pending ∧ (State.hoursWritten s d b).regs = s.regs ∧
    (State.hoursWritten s d b).die = s.die ∧ (State.hoursWritten s d b).hid = s.hid ∧
    (State.hoursWritten s d b).hub = s.hub ∧ (State.hoursWritten s d b).host = s.host ∧
    (State.hoursWritten s d b).links = s.links ∧ (State.hoursWritten s d b).dies = s.dies ∧
    (State.hoursWritten s d b).chans = s.chans ∧ (State.hoursWritten s d b).chains = s.chains ∧
    (State.hoursWritten s d b).coef = s.coef ∧ (State.hoursWritten s d b).fold = s.fold ∧
    (State.hoursWritten s d b).rfx = s.rfx ∧ (State.hoursWritten s d b).drv = s.drv ∧ (State.hoursWritten s d b).ck = s.ck ∧
    (State.hoursWritten s d b).sv = s.sv ∧ (State.hoursWritten s d b).fw = s.fw ∧ (State.hoursWritten s d b).ldg = s.ldg ∧
    (State.hoursWritten s d b).tk = s.tk ∧ (State.hoursWritten s d b).free = s.free := by
  unfold State.hoursWritten
  simp -implicitDefEqProofs
@[simp] theorem State.baseTake_frame {s : State} {item : Nat} {data : List Byte} {whole : Bool} :
    (State.baseTake s item data whole).pending = s.pending ∧ (State.baseTake s item data whole).regs = s.regs ∧
    (State.baseTake s item data whole).die = s.die ∧ (State.baseTake s item data whole).hid = s.hid ∧
    (State.baseTake s item data whole).hub = s.hub ∧ (State.baseTake s item data whole).host = s.host ∧
    (State.baseTake s item data whole).links = s.links ∧ (State.baseTake s item data whole).dies = s.dies ∧
    (State.baseTake s item data whole).chans = s.chans ∧ (State.baseTake s item data whole).chains = s.chains ∧
    (State.baseTake s item data whole).coef = s.coef ∧ (State.baseTake s item data whole).fold = s.fold ∧
    (State.baseTake s item data whole).rfx = s.rfx ∧ (State.baseTake s item data whole).drv = s.drv ∧
    (State.baseTake s item data whole).ck = s.ck ∧ (State.baseTake s item data whole).sv = s.sv ∧
    (State.baseTake s item data whole).fw = s.fw ∧ (State.baseTake s item data whole).ldg = s.ldg ∧
    (State.baseTake s item data whole).tk = s.tk ∧ (State.baseTake s item data whole).free = s.free := by
  unfold State.baseTake
  simp -implicitDefEqProofs
@[simp] theorem State.margins_frame {s : State} {g : Grp} {up : Nat} {down : Nat} :
    (State.margins s g up down).pending = s.pending ∧ (State.margins s g up down).hid = s.hid ∧
    (State.margins s g up down).hub = s.hub ∧ (State.margins s g up down).host = s.host ∧
    (State.margins s g up down).links = s.links ∧ (State.margins s g up down).dies = s.dies ∧
    (State.margins s g up down).chans = s.chans ∧ (State.margins s g up down).chains = s.chains ∧
    (State.margins s g up down).coef = s.coef ∧ (State.margins s g up down).fold = s.fold ∧
    (State.margins s g up down).rfx = s.rfx ∧ (State.margins s g up down).drv = s.drv ∧
    (State.margins s g up down).ck = s.ck ∧ (State.margins s g up down).sv = s.sv ∧ (State.margins s g up down).fw = s.fw ∧
    (State.margins s g up down).ldg = s.ldg ∧ (State.margins s g up down).tk = s.tk ∧
    (State.margins s g up down).free = s.free := by
  unfold State.margins
  simp -implicitDefEqProofs
@[simp] theorem State.basePut_frame {s : State} {item : Nat} {data : List Byte} :
    (State.basePut s item data).pending = s.pending ∧ (State.basePut s item data).die = s.die ∧
    (State.basePut s item data).hid = s.hid ∧ (State.basePut s item data).hub = s.hub ∧
    (State.basePut s item data).links = s.links ∧ (State.basePut s item data).dies = s.dies ∧
    (State.basePut s item data).chans = s.chans ∧ (State.basePut s item data).chains = s.chains ∧
    (State.basePut s item data).coef = s.coef ∧ (State.basePut s item data).fold = s.fold ∧
    (State.basePut s item data).rfx = s.rfx ∧ (State.basePut s item data).drv = s.drv ∧
    (State.basePut s item data).ck = s.ck ∧ (State.basePut s item data).sv = s.sv ∧ (State.basePut s item data).fw = s.fw ∧
    (State.basePut s item data).free = s.free := by
  unfold State.basePut
  simp -implicitDefEqProofs
@[simp] theorem State.baseline_frame {s : State} {item : Nat} {value : Nat} :
    (State.baseline s item value).pending = s.pending ∧ (State.baseline s item value).die = s.die ∧
    (State.baseline s item value).hid = s.hid ∧ (State.baseline s item value).hub = s.hub ∧
    (State.baseline s item value).links = s.links ∧ (State.baseline s item value).dies = s.dies ∧
    (State.baseline s item value).chans = s.chans ∧ (State.baseline s item value).chains = s.chains ∧
    (State.baseline s item value).coef = s.coef ∧ (State.baseline s item value).fold = s.fold ∧
    (State.baseline s item value).rfx = s.rfx ∧ (State.baseline s item value).drv = s.drv ∧
    (State.baseline s item value).ck = s.ck ∧ (State.baseline s item value).sv = s.sv ∧
    (State.baseline s item value).fw = s.fw ∧ (State.baseline s item value).free = s.free := by
  unfold State.baseline
  (repeat' split) <;> simp -implicitDefEqProofs
@[simp] theorem State.baseCut_frame {s : State} :
    (State.baseCut s).pending = s.pending ∧ (State.baseCut s).regs = s.regs ∧ (State.baseCut s).die = s.die ∧
    (State.baseCut s).hid = s.hid ∧ (State.baseCut s).hub = s.hub ∧ (State.baseCut s).host = s.host ∧
    (State.baseCut s).links = s.links ∧ (State.baseCut s).dies = s.dies ∧ (State.baseCut s).chans = s.chans ∧
    (State.baseCut s).chains = s.chains ∧ (State.baseCut s).coef = s.coef ∧ (State.baseCut s).fold = s.fold ∧
    (State.baseCut s).rfx = s.rfx ∧ (State.baseCut s).drv = s.drv ∧ (State.baseCut s).ck = s.ck ∧
    (State.baseCut s).sv = s.sv ∧ (State.baseCut s).fw = s.fw ∧ (State.baseCut s).ldg = s.ldg ∧
    (State.baseCut s).tk = s.tk := by
  unfold State.baseCut
  simp -implicitDefEqProofs
@[simp] theorem State.baseAttach_frame {s : State} {g : Grp} {on : Bool} :
    (State.baseAttach s g on).pending = s.pending ∧ (State.baseAttach s g on).regs = s.regs ∧
    (State.baseAttach s g on).die = s.die ∧ (State.baseAttach s g on).hid = s.hid ∧ (State.baseAttach s g on).hub = s.hub ∧
    (State.baseAttach s g on).host = s.host ∧ (State.baseAttach s g on).links = s.links ∧
    (State.baseAttach s g on).dies = s.dies ∧ (State.baseAttach s g on).chans = s.chans ∧
    (State.baseAttach s g on).chains = s.chains ∧ (State.baseAttach s g on).coef = s.coef ∧
    (State.baseAttach s g on).fold = s.fold ∧ (State.baseAttach s g on).rfx = s.rfx ∧
    (State.baseAttach s g on).drv = s.drv ∧ (State.baseAttach s g on).ck = s.ck ∧ (State.baseAttach s g on).sv = s.sv ∧
    (State.baseAttach s g on).fw = s.fw ∧ (State.baseAttach s g on).ldg = s.ldg ∧ (State.baseAttach s g on).tk = s.tk ∧
    (State.baseAttach s g on).free = s.free := by
  unfold State.baseAttach
  simp -implicitDefEqProofs
@[simp] theorem State.reduceWritten_frame {s : State} {rq : Req} {g : Grp} {hi : Bool} {be : Fin 16} {old : List Nat} :
    (State.reduceWritten s rq g hi be old).pending = s.pending ∧ (State.reduceWritten s rq g hi be old).die = s.die ∧
    (State.reduceWritten s rq g hi be old).hid = s.hid ∧ (State.reduceWritten s rq g hi be old).hub = s.hub ∧
    (State.reduceWritten s rq g hi be old).links = s.links ∧ (State.reduceWritten s rq g hi be old).dies = s.dies ∧
    (State.reduceWritten s rq g hi be old).chans = s.chans ∧ (State.reduceWritten s rq g hi be old).chains = s.chains ∧
    (State.reduceWritten s rq g hi be old).coef = s.coef ∧ (State.reduceWritten s rq g hi be old).fold = s.fold ∧
    (State.reduceWritten s rq g hi be old).rfx = s.rfx ∧ (State.reduceWritten s rq g hi be old).drv = s.drv ∧
    (State.reduceWritten s rq g hi be old).ck = s.ck ∧ (State.reduceWritten s rq g hi be old).sv = s.sv ∧
    (State.reduceWritten s rq g hi be old).fw = s.fw ∧ (State.reduceWritten s rq g hi be old).hk = s.hk ∧
    (State.reduceWritten s rq g hi be old).free = s.free := by
  unfold State.reduceWritten
  simp -implicitDefEqProofs
@[simp] theorem State.cmdsShow_frame {s : State} :
    (State.cmdsShow s).pending = s.pending ∧ (State.cmdsShow s).die = s.die ∧ (State.cmdsShow s).hid = s.hid ∧
    (State.cmdsShow s).hub = s.hub ∧ (State.cmdsShow s).host = s.host ∧ (State.cmdsShow s).links = s.links ∧
    (State.cmdsShow s).dies = s.dies ∧ (State.cmdsShow s).chans = s.chans ∧ (State.cmdsShow s).chains = s.chains ∧
    (State.cmdsShow s).coef = s.coef ∧ (State.cmdsShow s).fold = s.fold ∧ (State.cmdsShow s).rfx = s.rfx ∧
    (State.cmdsShow s).drv = s.drv ∧ (State.cmdsShow s).ck = s.ck ∧ (State.cmdsShow s).sv = s.sv ∧
    (State.cmdsShow s).fw = s.fw ∧ (State.cmdsShow s).hk = s.hk ∧ (State.cmdsShow s).ldg = s.ldg ∧
    (State.cmdsShow s).tk = s.tk ∧ (State.cmdsShow s).free = s.free := by
  unfold State.cmdsShow
  simp -implicitDefEqProofs
@[simp] theorem State.dropBad_frame {s : State} :
    (State.dropBad s).pending = s.pending ∧ (State.dropBad s).regs = s.regs ∧ (State.dropBad s).die = s.die ∧
    (State.dropBad s).hid = s.hid ∧ (State.dropBad s).hub = s.hub ∧ (State.dropBad s).links = s.links ∧
    (State.dropBad s).dies = s.dies ∧ (State.dropBad s).chans = s.chans ∧ (State.dropBad s).chains = s.chains ∧
    (State.dropBad s).coef = s.coef ∧ (State.dropBad s).fold = s.fold ∧ (State.dropBad s).rfx = s.rfx ∧
    (State.dropBad s).drv = s.drv ∧ (State.dropBad s).ck = s.ck ∧ (State.dropBad s).sv = s.sv ∧
    (State.dropBad s).fw = s.fw ∧ (State.dropBad s).hk = s.hk ∧ (State.dropBad s).ldg = s.ldg ∧
    (State.dropBad s).tk = s.tk ∧ (State.dropBad s).free = s.free := by
  unfold State.dropBad
  repeat' apply And.intro
  all_goals (refine (State.foldl_keep _ (fun s x => ?_) _ _).trans ?_)
  all_goals (first | rfl | (split <;> [split <;> simp; rfl]))
@[simp] theorem State.cmdsFinish_frame {s : State} :
    (State.cmdsFinish s).pending = s.pending ∧ (State.cmdsFinish s).die = s.die ∧ (State.cmdsFinish s).hid = s.hid ∧
    (State.cmdsFinish s).hub = s.hub ∧ (State.cmdsFinish s).links = s.links ∧ (State.cmdsFinish s).dies = s.dies ∧
    (State.cmdsFinish s).chans = s.chans ∧ (State.cmdsFinish s).chains = s.chains ∧ (State.cmdsFinish s).coef = s.coef ∧
    (State.cmdsFinish s).fold = s.fold ∧ (State.cmdsFinish s).rfx = s.rfx ∧ (State.cmdsFinish s).drv = s.drv ∧
    (State.cmdsFinish s).ck = s.ck ∧ (State.cmdsFinish s).sv = s.sv ∧ (State.cmdsFinish s).fw = s.fw ∧
    (State.cmdsFinish s).hk = s.hk ∧ (State.cmdsFinish s).ldg = s.ldg ∧ (State.cmdsFinish s).tk = s.tk ∧
    (State.cmdsFinish s).free = s.free := by
  unfold State.cmdsFinish
  try dsimp only
  simp -implicitDefEqProofs
@[simp] theorem State.itemsSet_frame {s : State} {p : Item → Bool} {status : Nat} :
    (State.itemsSet s p status).pending = s.pending ∧ (State.itemsSet s p status).die = s.die ∧
    (State.itemsSet s p status).hid = s.hid ∧ (State.itemsSet s p status).hub = s.hub ∧
    (State.itemsSet s p status).links = s.links ∧ (State.itemsSet s p status).dies = s.dies ∧
    (State.itemsSet s p status).chans = s.chans ∧ (State.itemsSet s p status).chains = s.chains ∧
    (State.itemsSet s p status).coef = s.coef ∧ (State.itemsSet s p status).fold = s.fold ∧
    (State.itemsSet s p status).rfx = s.rfx ∧ (State.itemsSet s p status).drv = s.drv ∧
    (State.itemsSet s p status).ck = s.ck ∧ (State.itemsSet s p status).sv = s.sv ∧ (State.itemsSet s p status).fw = s.fw ∧
    (State.itemsSet s p status).hk = s.hk ∧ (State.itemsSet s p status).ldg = s.ldg ∧
    (State.itemsSet s p status).tk = s.tk ∧ (State.itemsSet s p status).free = s.free := by
  unfold State.itemsSet
  simp -implicitDefEqProofs
@[simp] theorem State.showCh_frame {s : State} {c : Ch} :
    (State.showCh s c).pending = s.pending ∧ (State.showCh s c).regs = s.regs ∧ (State.showCh s c).hid = s.hid ∧
    (State.showCh s c).hub = s.hub ∧ (State.showCh s c).host = s.host ∧ (State.showCh s c).links = s.links ∧
    (State.showCh s c).dies = s.dies ∧ (State.showCh s c).chans = s.chans ∧ (State.showCh s c).chains = s.chains ∧
    (State.showCh s c).coef = s.coef ∧ (State.showCh s c).fold = s.fold ∧ (State.showCh s c).rfx = s.rfx ∧
    (State.showCh s c).drv = s.drv ∧ (State.showCh s c).ck = s.ck ∧ (State.showCh s c).sv = s.sv ∧
    (State.showCh s c).fw = s.fw ∧ (State.showCh s c).hk = s.hk ∧ (State.showCh s c).ldg = s.ldg ∧
    (State.showCh s c).tk = s.tk ∧ (State.showCh s c).free = s.free := by
  unfold State.showCh
  simp -implicitDefEqProofs
@[simp] theorem State.mirrorWord_frame {s : State} {g : Grp} {w : Nat} :
    (State.mirrorWord s g w).pending = s.pending ∧ (State.mirrorWord s g w).regs = s.regs ∧
    (State.mirrorWord s g w).hub = s.hub ∧ (State.mirrorWord s g w).host = s.host ∧
    (State.mirrorWord s g w).links = s.links ∧ (State.mirrorWord s g w).dies = s.dies ∧
    (State.mirrorWord s g w).chans = s.chans ∧ (State.mirrorWord s g w).chains = s.chains ∧
    (State.mirrorWord s g w).coef = s.coef ∧ (State.mirrorWord s g w).fold = s.fold ∧ (State.mirrorWord s g w).rfx = s.rfx ∧
    (State.mirrorWord s g w).drv = s.drv ∧ (State.mirrorWord s g w).ck = s.ck ∧ (State.mirrorWord s g w).sv = s.sv ∧
    (State.mirrorWord s g w).fw = s.fw ∧ (State.mirrorWord s g w).hk = s.hk ∧ (State.mirrorWord s g w).ldg = s.ldg ∧
    (State.mirrorWord s g w).tk = s.tk ∧ (State.mirrorWord s g w).free = s.free := by
  unfold State.mirrorWord
  try dsimp only
  (repeat' split) <;> simp -implicitDefEqProofs
@[simp] theorem State.refreshed_frame {s : State} {m : Fin 5} :
    (State.refreshed s m).pending = s.pending ∧ (State.refreshed s m).die = s.die ∧ (State.refreshed s m).hid = s.hid ∧
    (State.refreshed s m).host = s.host ∧ (State.refreshed s m).links = s.links ∧ (State.refreshed s m).dies = s.dies ∧
    (State.refreshed s m).chans = s.chans ∧ (State.refreshed s m).chains = s.chains ∧ (State.refreshed s m).coef = s.coef ∧
    (State.refreshed s m).fold = s.fold ∧ (State.refreshed s m).rfx = s.rfx ∧ (State.refreshed s m).drv = s.drv ∧
    (State.refreshed s m).ck = s.ck ∧ (State.refreshed s m).sv = s.sv ∧ (State.refreshed s m).fw = s.fw ∧
    (State.refreshed s m).hk = s.hk ∧ (State.refreshed s m).ldg = s.ldg ∧ (State.refreshed s m).tk = s.tk ∧
    (State.refreshed s m).free = s.free := by
  unfold State.refreshed
  simp -implicitDefEqProofs
@[simp] theorem State.refreshGrp_frame {s : State} {g : Grp} :
    (State.refreshGrp s g).pending = s.pending ∧ (State.refreshGrp s g).die = s.die ∧ (State.refreshGrp s g).hid = s.hid ∧
    (State.refreshGrp s g).links = s.links ∧ (State.refreshGrp s g).dies = s.dies ∧
    (State.refreshGrp s g).chains = s.chains ∧ (State.refreshGrp s g).coef = s.coef ∧ (State.refreshGrp s g).fold = s.fold ∧
    (State.refreshGrp s g).rfx = s.rfx ∧ (State.refreshGrp s g).drv = s.drv ∧ (State.refreshGrp s g).ck = s.ck ∧
    (State.refreshGrp s g).sv = s.sv ∧ (State.refreshGrp s g).hk = s.hk ∧ (State.refreshGrp s g).ldg = s.ldg ∧
    (State.refreshGrp s g).free = s.free := by
  unfold State.refreshGrp
  simp -implicitDefEqProofs

end Sys2Proof.Machine
end

