-- ==== Sys2Proof/Laws/Frame4.lean ====
section
/-! SUPPORT. What the operations of the Staed links leave unchanged: one lemma for each operation. -/

set_option Elab.async false

namespace Sys2Proof.Machine

@[simp] theorem State.grpReport_frame {s : State} {g : Grp} {old : Nat} {cls : Nat} :
    (State.grpReport s g old cls).pending = s.pending ∧ (State.grpReport s g old cls).die = s.die ∧
    (State.grpReport s g old cls).hid = s.hid ∧ (State.grpReport s g old cls).hub = s.hub ∧
    (State.grpReport s g old cls).links = s.links ∧ (State.grpReport s g old cls).dies = s.dies ∧
    (State.grpReport s g old cls).chans = s.chans ∧ (State.grpReport s g old cls).chains = s.chains ∧
    (State.grpReport s g old cls).coef = s.coef ∧ (State.grpReport s g old cls).fold = s.fold ∧
    (State.grpReport s g old cls).rfx = s.rfx ∧ (State.grpReport s g old cls).drv = s.drv ∧
    (State.grpReport s g old cls).ck = s.ck ∧ (State.grpReport s g old cls).sv = s.sv ∧
    (State.grpReport s g old cls).fw = s.fw ∧ (State.grpReport s g old cls).hk = s.hk ∧
    (State.grpReport s g old cls).free = s.free := by
  unfold State.grpReport
  simp -implicitDefEqProofs
@[simp] theorem State.slotLost_frame {s : State} {x : TxCmd} :
    (State.slotLost s x).pending = s.pending ∧ (State.slotLost s x).die = s.die ∧ (State.slotLost s x).hid = s.hid ∧
    (State.slotLost s x).hub = s.hub ∧ (State.slotLost s x).links = s.links ∧ (State.slotLost s x).dies = s.dies ∧
    (State.slotLost s x).chans = s.chans ∧ (State.slotLost s x).chains = s.chains ∧ (State.slotLost s x).coef = s.coef ∧
    (State.slotLost s x).fold = s.fold ∧ (State.slotLost s x).rfx = s.rfx ∧ (State.slotLost s x).drv = s.drv ∧
    (State.slotLost s x).ck = s.ck ∧ (State.slotLost s x).sv = s.sv ∧ (State.slotLost s x).fw = s.fw ∧
    (State.slotLost s x).hk = s.hk ∧ (State.slotLost s x).ldg = s.ldg ∧ (State.slotLost s x).free = s.free := by
  unfold State.slotLost
  (repeat' split) <;> simp -implicitDefEqProofs
@[simp] theorem State.txLost_frame {s : State} {x : TxCmd} :
    (State.txLost s x).pending = s.pending ∧ (State.txLost s x).die = s.die ∧ (State.txLost s x).hid = s.hid ∧
    (State.txLost s x).hub = s.hub ∧ (State.txLost s x).links = s.links ∧ (State.txLost s x).dies = s.dies ∧
    (State.txLost s x).chans = s.chans ∧ (State.txLost s x).chains = s.chains ∧ (State.txLost s x).coef = s.coef ∧
    (State.txLost s x).fold = s.fold ∧ (State.txLost s x).rfx = s.rfx ∧ (State.txLost s x).drv = s.drv ∧
    (State.txLost s x).ck = s.ck ∧ (State.txLost s x).sv = s.sv ∧ (State.txLost s x).fw = s.fw ∧
    (State.txLost s x).hk = s.hk ∧ (State.txLost s x).ldg = s.ldg ∧ (State.txLost s x).free = s.free := by
  unfold State.txLost
  (repeat' split) <;> simp -implicitDefEqProofs
@[simp] theorem State.dropTx_frame {s : State} {g : Grp} :
    (State.dropTx s g).pending = s.pending ∧ (State.dropTx s g).die = s.die ∧ (State.dropTx s g).hid = s.hid ∧
    (State.dropTx s g).hub = s.hub ∧ (State.dropTx s g).chans = s.chans ∧ (State.dropTx s g).chains = s.chains ∧
    (State.dropTx s g).coef = s.coef ∧ (State.dropTx s g).fold = s.fold ∧ (State.dropTx s g).rfx = s.rfx ∧
    (State.dropTx s g).drv = s.drv ∧ (State.dropTx s g).ck = s.ck ∧ (State.dropTx s g).sv = s.sv ∧
    (State.dropTx s g).fw = s.fw ∧ (State.dropTx s g).hk = s.hk ∧ (State.dropTx s g).ldg = s.ldg ∧
    (State.dropTx s g).free = s.free := by
  unfold State.dropTx
  try dsimp only
  simp -implicitDefEqProofs
@[simp] theorem State.setGrpState_frame {s : State} {g : Grp} {st : Nat} :
    (State.setGrpState s g st).pending = s.pending ∧ (State.setGrpState s g st).die = s.die ∧
    (State.setGrpState s g st).hid = s.hid ∧ (State.setGrpState s g st).chains = s.chains ∧
    (State.setGrpState s g st).coef = s.coef ∧ (State.setGrpState s g st).fold = s.fold ∧
    (State.setGrpState s g st).drv = s.drv ∧ (State.setGrpState s g st).ck = s.ck ∧ (State.setGrpState s g st).sv = s.sv ∧
    (State.setGrpState s g st).free = s.free := by
  unfold State.setGrpState
  simp -implicitDefEqProofs
@[simp] theorem State.setSafe_frame {s : State} {g : Grp} {on : Bool} {cause : Nat} :
    (State.setSafe s g on cause).pending = s.pending ∧ (State.setSafe s g on cause).die = s.die ∧
    (State.setSafe s g on cause).hid = s.hid ∧ (State.setSafe s g on cause).hub = s.hub ∧
    (State.setSafe s g on cause).dies = s.dies ∧ (State.setSafe s g on cause).chains = s.chains ∧
    (State.setSafe s g on cause).coef = s.coef ∧ (State.setSafe s g on cause).fold = s.fold ∧
    (State.setSafe s g on cause).rfx = s.rfx ∧ (State.setSafe s g on cause).drv = s.drv ∧
    (State.setSafe s g on cause).ck = s.ck ∧ (State.setSafe s g on cause).sv = s.sv ∧
    (State.setSafe s g on cause).hk = s.hk ∧ (State.setSafe s g on cause).free = s.free := by
  unfold State.setSafe
  simp -implicitDefEqProofs
@[simp] theorem State.setLimp_frame {s : State} {g : Grp} {on : Bool} :
    (State.setLimp s g on).pending = s.pending ∧ (State.setLimp s g on).die = s.die ∧ (State.setLimp s g on).hid = s.hid ∧
    (State.setLimp s g on).hub = s.hub ∧ (State.setLimp s g on).links = s.links ∧ (State.setLimp s g on).dies = s.dies ∧
    (State.setLimp s g on).chains = s.chains ∧ (State.setLimp s g on).coef = s.coef ∧ (State.setLimp s g on).fold = s.fold ∧
    (State.setLimp s g on).rfx = s.rfx ∧ (State.setLimp s g on).drv = s.drv ∧ (State.setLimp s g on).ck = s.ck ∧
    (State.setLimp s g on).sv = s.sv ∧ (State.setLimp s g on).hk = s.hk ∧ (State.setLimp s g on).free = s.free := by
  unfold State.setLimp
  simp -implicitDefEqProofs
@[simp] theorem State.dacLoaded_frame {s : State} {g : Grp} {off : Nat} :
    (State.dacLoaded s g off).pending = s.pending ∧ (State.dacLoaded s g off).regs = s.regs ∧
    (State.dacLoaded s g off).die = s.die ∧ (State.dacLoaded s g off).hid = s.hid ∧ (State.dacLoaded s g off).hub = s.hub ∧
    (State.dacLoaded s g off).host = s.host ∧ (State.dacLoaded s g off).links = s.links ∧
    (State.dacLoaded s g off).dies = s.dies ∧ (State.dacLoaded s g off).chains = s.chains ∧
    (State.dacLoaded s g off).coef = s.coef ∧ (State.dacLoaded s g off).fold = s.fold ∧
    (State.dacLoaded s g off).rfx = s.rfx ∧ (State.dacLoaded s g off).drv = s.drv ∧ (State.dacLoaded s g off).ck = s.ck ∧
    (State.dacLoaded s g off).sv = s.sv ∧ (State.dacLoaded s g off).fw = s.fw ∧ (State.dacLoaded s g off).hk = s.hk ∧
    (State.dacLoaded s g off).ldg = s.ldg ∧ (State.dacLoaded s g off).tk = s.tk ∧ (State.dacLoaded s g off).free = s.free := by
  unfold State.dacLoaded
  (repeat' split) <;> simp -implicitDefEqProofs
@[simp] theorem State.loadWords_frame {s : State} {g : Grp} {offs : List Nat} :
    (State.loadWords s g offs).pending = s.pending ∧ (State.loadWords s g offs).regs = s.regs ∧
    (State.loadWords s g offs).die = s.die ∧ (State.loadWords s g offs).hid = s.hid ∧
    (State.loadWords s g offs).hub = s.hub ∧ (State.loadWords s g offs).host = s.host ∧
    (State.loadWords s g offs).dies = s.dies ∧ (State.loadWords s g offs).chains = s.chains ∧
    (State.loadWords s g offs).coef = s.coef ∧ (State.loadWords s g offs).fold = s.fold ∧
    (State.loadWords s g offs).rfx = s.rfx ∧ (State.loadWords s g offs).drv = s.drv ∧ (State.loadWords s g offs).ck = s.ck ∧
    (State.loadWords s g offs).sv = s.sv ∧ (State.loadWords s g offs).fw = s.fw ∧ (State.loadWords s g offs).hk = s.hk ∧
    (State.loadWords s g offs).ldg = s.ldg ∧ (State.loadWords s g offs).tk = s.tk ∧
    (State.loadWords s g offs).free = s.free := by
  unfold State.loadWords
  simp -implicitDefEqProofs
@[simp] theorem State.loadRules_frame {s : State} {g : Grp} {rs : List RuleNo} :
    (State.loadRules s g rs).pending = s.pending ∧ (State.loadRules s g rs).regs = s.regs ∧
    (State.loadRules s g rs).die = s.die ∧ (State.loadRules s g rs).hid = s.hid ∧ (State.loadRules s g rs).hub = s.hub ∧
    (State.loadRules s g rs).host = s.host ∧ (State.loadRules s g rs).dies = s.dies ∧
    (State.loadRules s g rs).chans = s.chans ∧ (State.loadRules s g rs).chains = s.chains ∧
    (State.loadRules s g rs).coef = s.coef ∧ (State.loadRules s g rs).fold = s.fold ∧ (State.loadRules s g rs).rfx = s.rfx ∧
    (State.loadRules s g rs).drv = s.drv ∧ (State.loadRules s g rs).ck = s.ck ∧ (State.loadRules s g rs).sv = s.sv ∧
    (State.loadRules s g rs).fw = s.fw ∧ (State.loadRules s g rs).hk = s.hk ∧ (State.loadRules s g rs).ldg = s.ldg ∧
    (State.loadRules s g rs).tk = s.tk ∧ (State.loadRules s g rs).free = s.free := by
  unfold State.loadRules
  simp -implicitDefEqProofs
@[simp] theorem State.loadTime_frame {s : State} {g : Grp} :
    (State.loadTime s g).pending = s.pending ∧ (State.loadTime s g).die = s.die ∧ (State.loadTime s g).hid = s.hid ∧
    (State.loadTime s g).hub = s.hub ∧ (State.loadTime s g).host = s.host ∧ (State.loadTime s g).dies = s.dies ∧
    (State.loadTime s g).chans = s.chans ∧ (State.loadTime s g).chains = s.chains ∧ (State.loadTime s g).coef = s.coef ∧
    (State.loadTime s g).fold = s.fold ∧ (State.loadTime s g).rfx = s.rfx ∧ (State.loadTime s g).drv = s.drv ∧
    (State.loadTime s g).ck = s.ck ∧ (State.loadTime s g).sv = s.sv ∧ (State.loadTime s g).fw = s.fw ∧
    (State.loadTime s g).hk = s.hk ∧ (State.loadTime s g).ldg = s.ldg ∧ (State.loadTime s g).tk = s.tk ∧
    (State.loadTime s g).free = s.free := by
  unfold State.loadTime
  simp -implicitDefEqProofs
@[simp] theorem State.loadRest_frame {s : State} {g : Grp} :
    (State.loadRest s g).pending = s.pending ∧ (State.loadRest s g).regs = s.regs ∧ (State.loadRest s g).die = s.die ∧
    (State.loadRest s g).hid = s.hid ∧ (State.loadRest s g).hub = s.hub ∧ (State.loadRest s g).host = s.host ∧
    (State.loadRest s g).dies = s.dies ∧ (State.loadRest s g).chains = s.chains ∧ (State.loadRest s g).coef = s.coef ∧
    (State.loadRest s g).fold = s.fold ∧ (State.loadRest s g).rfx = s.rfx ∧ (State.loadRest s g).drv = s.drv ∧
    (State.loadRest s g).ck = s.ck ∧ (State.loadRest s g).sv = s.sv ∧ (State.loadRest s g).fw = s.fw ∧
    (State.loadRest s g).hk = s.hk ∧ (State.loadRest s g).ldg = s.ldg ∧ (State.loadRest s g).tk = s.tk ∧
    (State.loadRest s g).free = s.free := by
  unfold State.loadRest
  simp -implicitDefEqProofs
@[simp] theorem State.resync_frame {s : State} {g : Grp} :
    (State.resync s g).pending = s.pending ∧ (State.resync s g).die = s.die ∧ (State.resync s g).hid = s.hid ∧
    (State.resync s g).chains = s.chains ∧ (State.resync s g).coef = s.coef ∧ (State.resync s g).fold = s.fold ∧
    (State.resync s g).drv = s.drv ∧ (State.resync s g).ck = s.ck ∧ (State.resync s g).sv = s.sv ∧
    (State.resync s g).free = s.free := by
  unfold State.resync
  simp -implicitDefEqProofs
@[simp] theorem State.loadPd_frame {s : State} {g : Grp} :
    (State.loadPd s g).pending = s.pending ∧ (State.loadPd s g).regs = s.regs ∧ (State.loadPd s g).die = s.die ∧
    (State.loadPd s g).hid = s.hid ∧ (State.loadPd s g).hub = s.hub ∧ (State.loadPd s g).host = s.host ∧
    (State.loadPd s g).dies = s.dies ∧ (State.loadPd s g).chans = s.chans ∧ (State.loadPd s g).chains = s.chains ∧
    (State.loadPd s g).coef = s.coef ∧ (State.loadPd s g).fold = s.fold ∧ (State.loadPd s g).rfx = s.rfx ∧
    (State.loadPd s g).drv = s.drv ∧ (State.loadPd s g).ck = s.ck ∧ (State.loadPd s g).sv = s.sv ∧
    (State.loadPd s g).fw = s.fw ∧ (State.loadPd s g).hk = s.hk ∧ (State.loadPd s g).ldg = s.ldg ∧
    (State.loadPd s g).tk = s.tk ∧ (State.loadPd s g).free = s.free := by
  unfold State.loadPd
  simp -implicitDefEqProofs
@[simp] theorem State.loadFull_frame {s : State} {g : Grp} :
    (State.loadFull s g).pending = s.pending ∧ (State.loadFull s g).die = s.die ∧ (State.loadFull s g).hid = s.hid ∧
    (State.loadFull s g).hub = s.hub ∧ (State.loadFull s g).host = s.host ∧ (State.loadFull s g).dies = s.dies ∧
    (State.loadFull s g).chains = s.chains ∧ (State.loadFull s g).coef = s.coef ∧ (State.loadFull s g).fold = s.fold ∧
    (State.loadFull s g).rfx = s.rfx ∧ (State.loadFull s g).drv = s.drv ∧ (State.loadFull s g).ck = s.ck ∧
    (State.loadFull s g).sv = s.sv ∧ (State.loadFull s g).fw = s.fw ∧ (State.loadFull s g).hk = s.hk ∧
    (State.loadFull s g).ldg = s.ldg ∧ (State.loadFull s g).tk = s.tk ∧ (State.loadFull s g).free = s.free := by
  unfold State.loadFull
  simp -implicitDefEqProofs
@[simp] theorem State.sendControl_frame {s : State} {g : Grp} {code : Nat} {tag : TxTag} :
    (State.sendControl s g code tag).pending = s.pending ∧ (State.sendControl s g code tag).regs = s.regs ∧
    (State.sendControl s g code tag).die = s.die ∧ (State.sendControl s g code tag).hid = s.hid ∧
    (State.sendControl s g code tag).hub = s.hub ∧ (State.sendControl s g code tag).host = s.host ∧
    (State.sendControl s g code tag).dies = s.dies ∧ (State.sendControl s g code tag).chans = s.chans ∧
    (State.sendControl s g code tag).chains = s.chains ∧ (State.sendControl s g code tag).coef = s.coef ∧
    (State.sendControl s g code tag).fold = s.fold ∧ (State.sendControl s g code tag).rfx = s.rfx ∧
    (State.sendControl s g code tag).drv = s.drv ∧ (State.sendControl s g code tag).ck = s.ck ∧
    (State.sendControl s g code tag).sv = s.sv ∧ (State.sendControl s g code tag).fw = s.fw ∧
    (State.sendControl s g code tag).hk = s.hk ∧ (State.sendControl s g code tag).ldg = s.ldg ∧
    (State.sendControl s g code tag).tk = s.tk ∧ (State.sendControl s g code tag).free = s.free := by
  unfold State.sendControl
  simp -implicitDefEqProofs
@[simp] theorem State.loadDone_frame {s : State} {g : Grp} :
    (State.loadDone s g).pending = s.pending ∧ (State.loadDone s g).die = s.die ∧ (State.loadDone s g).hid = s.hid ∧
    (State.loadDone s g).chains = s.chains ∧ (State.loadDone s g).coef = s.coef ∧ (State.loadDone s g).fold = s.fold ∧
    (State.loadDone s g).drv = s.drv ∧ (State.loadDone s g).ck = s.ck ∧ (State.loadDone s g).sv = s.sv ∧
    (State.loadDone s g).free = s.free := by
  unfold State.loadDone
  try dsimp only
  (repeat' split) <;> simp -implicitDefEqProofs
@[simp] theorem State.cmdLost_frame {s : State} {g : Grp} {x : TxCmd} :
    (State.cmdLost s g x).pending = s.pending ∧ (State.cmdLost s g x).die = s.die ∧ (State.cmdLost s g x).hid = s.hid ∧
    (State.cmdLost s g x).chains = s.chains ∧ (State.cmdLost s g x).coef = s.coef ∧ (State.cmdLost s g x).fold = s.fold ∧
    (State.cmdLost s g x).drv = s.drv ∧ (State.cmdLost s g x).ck = s.ck ∧ (State.cmdLost s g x).sv = s.sv ∧
    (State.cmdLost s g x).free = s.free := by
  unfold State.cmdLost
  try dsimp only
  (repeat' split) <;> simp -implicitDefEqProofs
@[simp] theorem State.retries_frame {s : State} {g : Grp} :
    (State.retries s g).pending = s.pending ∧ (State.retries s g).die = s.die ∧ (State.retries s g).hid = s.hid ∧
    (State.retries s g).chains = s.chains ∧ (State.retries s g).coef = s.coef ∧ (State.retries s g).fold = s.fold ∧
    (State.retries s g).drv = s.drv ∧ (State.retries s g).ck = s.ck ∧ (State.retries s g).sv = s.sv ∧
    (State.retries s g).free = s.free := by
  unfold State.retries
  simp -implicitDefEqProofs
@[simp] theorem State.queueEnd_frame {s : State} {g : Grp} :
    (State.queueEnd s g).pending = s.pending ∧ (State.queueEnd s g).regs = s.regs ∧ (State.queueEnd s g).die = s.die ∧
    (State.queueEnd s g).hid = s.hid ∧ (State.queueEnd s g).hub = s.hub ∧ (State.queueEnd s g).host = s.host ∧
    (State.queueEnd s g).dies = s.dies ∧ (State.queueEnd s g).chans = s.chans ∧ (State.queueEnd s g).chains = s.chains ∧
    (State.queueEnd s g).coef = s.coef ∧ (State.queueEnd s g).fold = s.fold ∧ (State.queueEnd s g).rfx = s.rfx ∧
    (State.queueEnd s g).drv = s.drv ∧ (State.queueEnd s g).ck = s.ck ∧ (State.queueEnd s g).sv = s.sv ∧
    (State.queueEnd s g).fw = s.fw ∧ (State.queueEnd s g).hk = s.hk ∧ (State.queueEnd s g).ldg = s.ldg ∧
    (State.queueEnd s g).tk = s.tk ∧ (State.queueEnd s g).free = s.free := by
  unfold State.queueEnd
  simp -implicitDefEqProofs
@[simp] theorem State.compose_frame {s0 : State} {g : Grp} :
    (State.compose s0 g).pending = s0.pending ∧ (State.compose s0 g).die = s0.die ∧ (State.compose s0 g).hid = s0.hid ∧
    (State.compose s0 g).chains = s0.chains ∧ (State.compose s0 g).coef = s0.coef ∧ (State.compose s0 g).fold = s0.fold ∧
    (State.compose s0 g).drv = s0.drv ∧ (State.compose s0 g).ck = s0.ck ∧ (State.compose s0 g).sv = s0.sv ∧
    (State.compose s0 g).free = s0.free := by
  unfold State.compose
  simp -implicitDefEqProofs
@[simp] theorem State.writesDone_frame {s : State} {g : Grp} {off : Nat} {p : Nat → Bool} :
    (State.writesDone s g off p).pending = s.pending ∧ (State.writesDone s g off p).die = s.die ∧
    (State.writesDone s g off p).hid = s.hid ∧ (State.writesDone s g off p).hub = s.hub ∧
    (State.writesDone s g off p).host = s.host ∧ (State.writesDone s g off p).dies = s.dies ∧
    (State.writesDone s g off p).chans = s.chans ∧ (State.writesDone s g off p).chains = s.chains ∧
    (State.writesDone s g off p).coef = s.coef ∧ (State.writesDone s g off p).fold = s.fold ∧
    (State.writesDone s g off p).rfx = s.rfx ∧ (State.writesDone s g off p).drv = s.drv ∧
    (State.writesDone s g off p).ck = s.ck ∧ (State.writesDone s g off p).sv = s.sv ∧
    (State.writesDone s g off p).fw = s.fw ∧ (State.writesDone s g off p).hk = s.hk ∧
    (State.writesDone s g off p).ldg = s.ldg ∧ (State.writesDone s g off p).tk = s.tk ∧
    (State.writesDone s g off p).free = s.free := by
  unfold State.writesDone
  simp -implicitDefEqProofs
@[simp] theorem State.supplyAt_frame {s : State} {g : Grp} {off : Nat} {x : DlCmd} :
    (State.supplyAt s g off x).pending = s.pending ∧ (State.supplyAt s g off x).die = s.die ∧
    (State.supplyAt s g off x).hid = s.hid ∧ (State.supplyAt s g off x).hub = s.hub ∧
    (State.supplyAt s g off x).links = s.links ∧ (State.supplyAt s g off x).dies = s.dies ∧
    (State.supplyAt s g off x).chains = s.chains ∧ (State.supplyAt s g off x).coef = s.coef ∧
    (State.supplyAt s g off x).fold = s.fold ∧ (State.supplyAt s g off x).rfx = s.rfx ∧
    (State.supplyAt s g off x).drv = s.drv ∧ (State.supplyAt s g off x).ck = s.ck ∧ (State.supplyAt s g off x).sv = s.sv ∧
    (State.supplyAt s g off x).hk = s.hk ∧ (State.supplyAt s g off x).ldg = s.ldg ∧
    (State.supplyAt s g off x).free = s.free := by
  unfold State.supplyAt
  (repeat' split) <;> simp -implicitDefEqProofs
@[simp] theorem State.confirm_frame {s : State} {g : Grp} {x : TxCmd} :
    (State.confirm s g x).pending = s.pending ∧ (State.confirm s g x).die = s.die ∧ (State.confirm s g x).hid = s.hid ∧
    (State.confirm s g x).dies = s.dies ∧ (State.confirm s g x).chains = s.chains ∧ (State.confirm s g x).coef = s.coef ∧
    (State.confirm s g x).fold = s.fold ∧ (State.confirm s g x).rfx = s.rfx ∧ (State.confirm s g x).drv = s.drv ∧
    (State.confirm s g x).ck = s.ck ∧ (State.confirm s g x).sv = s.sv ∧ (State.confirm s g x).hk = s.hk ∧
    (State.confirm s g x).ldg = s.ldg ∧ (State.confirm s g x).free = s.free := by
  unfold State.confirm
  (repeat' split) <;> simp -implicitDefEqProofs
@[simp] theorem State.partGood_frame {s : State} {g : Grp} {alive : Nat} {isB : Bool} :
    (State.partGood s g alive isB).pending = s.pending ∧ (State.partGood s g alive isB).die = s.die ∧
    (State.partGood s g alive isB).hid = s.hid ∧ (State.partGood s g alive isB).chains = s.chains ∧
    (State.partGood s g alive isB).coef = s.coef ∧ (State.partGood s g alive isB).fold = s.fold ∧
    (State.partGood s g alive isB).drv = s.drv ∧ (State.partGood s g alive isB).ck = s.ck ∧
    (State.partGood s g alive isB).sv = s.sv ∧ (State.partGood s g alive isB).free = s.free := by
  unfold State.partGood
  try dsimp only
  simp -implicitDefEqProofs
@[simp] theorem State.upErr_frame {s : State} {g : Grp} :
    (State.upErr s g).pending = s.pending ∧ (State.upErr s g).die = s.die ∧ (State.upErr s g).hid = s.hid ∧
    (State.upErr s g).hub = s.hub ∧ (State.upErr s g).host = s.host ∧ (State.upErr s g).links = s.links ∧
    (State.upErr s g).dies = s.dies ∧ (State.upErr s g).chans = s.chans ∧ (State.upErr s g).chains = s.chains ∧
    (State.upErr s g).coef = s.coef ∧ (State.upErr s g).fold = s.fold ∧ (State.upErr s g).rfx = s.rfx ∧
    (State.upErr s g).drv = s.drv ∧ (State.upErr s g).ck = s.ck ∧ (State.upErr s g).sv = s.sv ∧
    (State.upErr s g).fw = s.fw ∧ (State.upErr s g).hk = s.hk ∧ (State.upErr s g).ldg = s.ldg ∧
    (State.upErr s g).tk = s.tk ∧ (State.upErr s g).free = s.free := by
  unfold State.upErr
  simp -implicitDefEqProofs
@[simp] theorem State.urgentUp_pending {s : State} {g : Grp} {p : UrgUp → Bool} {k : State → UrgUp → State} (h : ∀ (a0 : State) (a1 : UrgUp), (k a0 a1).pending = a0.pending) :
    (State.urgentUp s g p k).pending = s.pending := by
  unfold State.urgentUp
  try dsimp only
  (repeat' split) <;> simp -implicitDefEqProofs [h]
@[simp] theorem State.urgentUp_regs {s : State} {g : Grp} {p : UrgUp → Bool} {k : State → UrgUp → State} (h : ∀ (a0 : State) (a1 : UrgUp), (k a0 a1).regs = a0.regs) :
    (State.urgentUp s g p k).regs = s.regs := by
  unfold State.urgentUp
  try dsimp only
  (repeat' split) <;> simp -implicitDefEqProofs [h]
@[simp] theorem State.urgentUp_die {s : State} {g : Grp} {p : UrgUp → Bool} {k : State → UrgUp → State} (h : ∀ (a0 : State) (a1 : UrgUp), (k a0 a1).die = a0.die) :
    (State.urgentUp s g p k).die = s.die := by
  unfold State.urgentUp
  try dsimp only
  (repeat' split) <;> simp -implicitDefEqProofs [h]
@[simp] theorem State.urgentUp_hid {s : State} {g : Grp} {p : UrgUp → Bool} {k : State → UrgUp → State} (h : ∀ (a0 : State) (a1 : UrgUp), (k a0 a1).hid = a0.hid) :
    (State.urgentUp s g p k).hid = s.hid := by
  unfold State.urgentUp
  try dsimp only
  (repeat' split) <;> simp -implicitDefEqProofs [h]
@[simp] theorem State.urgentUp_hub {s : State} {g : Grp} {p : UrgUp → Bool} {k : State → UrgUp → State} (h : ∀ (a0 : State) (a1 : UrgUp), (k a0 a1).hub = a0.hub) :
    (State.urgentUp s g p k).hub = s.hub := by
  unfold State.urgentUp
  try dsimp only
  (repeat' split) <;> simp -implicitDefEqProofs [h]
@[simp] theorem State.urgentUp_host {s : State} {g : Grp} {p : UrgUp → Bool} {k : State → UrgUp → State} (h : ∀ (a0 : State) (a1 : UrgUp), (k a0 a1).host = a0.host) :
    (State.urgentUp s g p k).host = s.host := by
  unfold State.urgentUp
  try dsimp only
  (repeat' split) <;> simp -implicitDefEqProofs [h]
@[simp] theorem State.urgentUp_links {s : State} {g : Grp} {p : UrgUp → Bool} {k : State → UrgUp → State} (h : ∀ (a0 : State) (a1 : UrgUp), (k a0 a1).links = a0.links) :
    (State.urgentUp s g p k).links = s.links := by
  unfold State.urgentUp
  try dsimp only
  (repeat' split) <;> simp -implicitDefEqProofs [h]
@[simp] theorem State.urgentUp_chans {s : State} {g : Grp} {p : UrgUp → Bool} {k : State → UrgUp → State} (h : ∀ (a0 : State) (a1 : UrgUp), (k a0 a1).chans = a0.chans) :
    (State.urgentUp s g p k).chans = s.chans := by
  unfold State.urgentUp
  try dsimp only
  (repeat' split) <;> simp -implicitDefEqProofs [h]
@[simp] theorem State.urgentUp_chains {s : State} {g : Grp} {p : UrgUp → Bool} {k : State → UrgUp → State} (h : ∀ (a0 : State) (a1 : UrgUp), (k a0 a1).chains = a0.chains) :
    (State.urgentUp s g p k).chains = s.chains := by
  unfold State.urgentUp
  try dsimp only
  (repeat' split) <;> simp -implicitDefEqProofs [h]
@[simp] theorem State.urgentUp_coef {s : State} {g : Grp} {p : UrgUp → Bool} {k : State → UrgUp → State} (h : ∀ (a0 : State) (a1 : UrgUp), (k a0 a1).coef = a0.coef) :
    (State.urgentUp s g p k).coef = s.coef := by
  unfold State.urgentUp
  try dsimp only
  (repeat' split) <;> simp -implicitDefEqProofs [h]
@[simp] theorem State.urgentUp_fold {s : State} {g : Grp} {p : UrgUp → Bool} {k : State → UrgUp → State} (h : ∀ (a0 : State) (a1 : UrgUp), (k a0 a1).fold = a0.fold) :
    (State.urgentUp s g p k).fold = s.fold := by
  unfold State.urgentUp
  try dsimp only
  (repeat' split) <;> simp -implicitDefEqProofs [h]
@[simp] theorem State.urgentUp_rfx {s : State} {g : Grp} {p : UrgUp → Bool} {k : State → UrgUp → State} (h : ∀ (a0 : State) (a1 : UrgUp), (k a0 a1).rfx = a0.rfx) :
    (State.urgentUp s g p k).rfx = s.rfx := by
  unfold State.urgentUp
  try dsimp only
  (repeat' split) <;> simp -implicitDefEqProofs [h]
@[simp] theorem State.urgentUp_drv {s : State} {g : Grp} {p : UrgUp → Bool} {k : State → UrgUp → State} (h : ∀ (a0 : State) (a1 : UrgUp), (k a0 a1).drv = a0.drv) :
    (State.urgentUp s g p k).drv = s.drv := by
  unfold State.urgentUp
  try dsimp only
  (repeat' split) <;> simp -implicitDefEqProofs [h]
@[simp] theorem State.urgentUp_ck {s : State} {g : Grp} {p : UrgUp → Bool} {k : State → UrgUp → State} (h : ∀ (a0 : State) (a1 : UrgUp), (k a0 a1).ck = a0.ck) :
    (State.urgentUp s g p k).ck = s.ck := by
  unfold State.urgentUp
  try dsimp only
  (repeat' split) <;> simp -implicitDefEqProofs [h]
@[simp] theorem State.urgentUp_sv {s : State} {g : Grp} {p : UrgUp → Bool} {k : State → UrgUp → State} (h : ∀ (a0 : State) (a1 : UrgUp), (k a0 a1).sv = a0.sv) :
    (State.urgentUp s g p k).sv = s.sv := by
  unfold State.urgentUp
  try dsimp only
  (repeat' split) <;> simp -implicitDefEqProofs [h]
@[simp] theorem State.urgentUp_fw {s : State} {g : Grp} {p : UrgUp → Bool} {k : State → UrgUp → State} (h : ∀ (a0 : State) (a1 : UrgUp), (k a0 a1).fw = a0.fw) :
    (State.urgentUp s g p k).fw = s.fw := by
  unfold State.urgentUp
  try dsimp only
  (repeat' split) <;> simp -implicitDefEqProofs [h]
@[simp] theorem State.urgentUp_hk {s : State} {g : Grp} {p : UrgUp → Bool} {k : State → UrgUp → State} (h : ∀ (a0 : State) (a1 : UrgUp), (k a0 a1).hk = a0.hk) :
    (State.urgentUp s g p k).hk = s.hk := by
  unfold State.urgentUp
  try dsimp only
  (repeat' split) <;> simp -implicitDefEqProofs [h]
@[simp] theorem State.urgentUp_ldg {s : State} {g : Grp} {p : UrgUp → Bool} {k : State → UrgUp → State} (h : ∀ (a0 : State) (a1 : UrgUp), (k a0 a1).ldg = a0.ldg) :
    (State.urgentUp s g p k).ldg = s.ldg := by
  unfold State.urgentUp
  try dsimp only
  (repeat' split) <;> simp -implicitDefEqProofs [h]
@[simp] theorem State.urgentUp_tk {s : State} {g : Grp} {p : UrgUp → Bool} {k : State → UrgUp → State} (h : ∀ (a0 : State) (a1 : UrgUp), (k a0 a1).tk = a0.tk) :
    (State.urgentUp s g p k).tk = s.tk := by
  unfold State.urgentUp
  try dsimp only
  (repeat' split) <;> simp -implicitDefEqProofs [h]
@[simp] theorem State.urgentUp_free {s : State} {g : Grp} {p : UrgUp → Bool} {k : State → UrgUp → State} (h : ∀ (a0 : State) (a1 : UrgUp), (k a0 a1).free = a0.free) :
    (State.urgentUp s g p k).free = s.free := by
  unfold State.urgentUp
  try dsimp only
  (repeat' split) <;> simp -implicitDefEqProofs [h]
@[simp] theorem State.partAck_frame {s : State} {g : Grp} {ok : Bool} :
    (State.partAck s g ok).pending = s.pending ∧ (State.partAck s g ok).die = s.die ∧ (State.partAck s g ok).hid = s.hid ∧
    (State.partAck s g ok).chains = s.chains ∧ (State.partAck s g ok).coef = s.coef ∧ (State.partAck s g ok).fold = s.fold ∧
    (State.partAck s g ok).drv = s.drv ∧ (State.partAck s g ok).ck = s.ck ∧ (State.partAck s g ok).sv = s.sv ∧
    (State.partAck s g ok).free = s.free := by
  unfold State.partAck State.urgentUp
  try dsimp only
  (repeat' split) <;> simp -implicitDefEqProofs
@[simp] theorem State.actionAck_frame {s : State} {g : Grp} {ok : Bool} :
    (State.actionAck s g ok).pending = s.pending ∧ (State.actionAck s g ok).die = s.die ∧
    (State.actionAck s g ok).hid = s.hid ∧ (State.actionAck s g ok).hub = s.hub ∧ (State.actionAck s g ok).host = s.host ∧
    (State.actionAck s g ok).chans = s.chans ∧ (State.actionAck s g ok).chains = s.chains ∧
    (State.actionAck s g ok).coef = s.coef ∧ (State.actionAck s g ok).fold = s.fold ∧ (State.actionAck s g ok).rfx = s.rfx ∧
    (State.actionAck s g ok).drv = s.drv ∧ (State.actionAck s g ok).ck = s.ck ∧ (State.actionAck s g ok).sv = s.sv ∧
    (State.actionAck s g ok).fw = s.fw ∧ (State.actionAck s g ok).hk = s.hk ∧ (State.actionAck s g ok).ldg = s.ldg ∧
    (State.actionAck s g ok).tk = s.tk ∧ (State.actionAck s g ok).free = s.free := by
  unfold State.actionAck State.urgentUp
  try dsimp only
  (repeat' split) <;> simp -implicitDefEqProofs
@[simp] theorem State.urgentRetry_frame {s : State} {g : Grp} :
    (State.urgentRetry s g).pending = s.pending ∧ (State.urgentRetry s g).die = s.die ∧
    (State.urgentRetry s g).hid = s.hid ∧ (State.urgentRetry s g).hub = s.hub ∧ (State.urgentRetry s g).dies = s.dies ∧
    (State.urgentRetry s g).chans = s.chans ∧ (State.urgentRetry s g).chains = s.chains ∧
    (State.urgentRetry s g).coef = s.coef ∧ (State.urgentRetry s g).fold = s.fold ∧ (State.urgentRetry s g).rfx = s.rfx ∧
    (State.urgentRetry s g).drv = s.drv ∧ (State.urgentRetry s g).ck = s.ck ∧ (State.urgentRetry s g).sv = s.sv ∧
    (State.urgentRetry s g).fw = s.fw ∧ (State.urgentRetry s g).hk = s.hk ∧ (State.urgentRetry s g).ldg = s.ldg ∧
    (State.urgentRetry s g).free = s.free := by
  unfold State.urgentRetry
  (repeat' split) <;> simp -implicitDefEqProofs
@[simp] theorem State.takeTimed_frame {g : Grp} {k : Nat} {s : State} :
    (State.takeTimed g k s).pending = s.pending ∧ (State.takeTimed g k s).regs = s.regs ∧
    (State.takeTimed g k s).die = s.die ∧ (State.takeTimed g k s).hid = s.hid ∧ (State.takeTimed g k s).hub = s.hub ∧
    (State.takeTimed g k s).host = s.host ∧ (State.takeTimed g k s).links = s.links ∧
    (State.takeTimed g k s).chains = s.chains ∧ (State.takeTimed g k s).coef = s.coef ∧
    (State.takeTimed g k s).fold = s.fold ∧ (State.takeTimed g k s).rfx = s.rfx ∧ (State.takeTimed g k s).drv = s.drv ∧
    (State.takeTimed g k s).ck = s.ck ∧ (State.takeTimed g k s).sv = s.sv ∧ (State.takeTimed g k s).fw = s.fw ∧
    (State.takeTimed g k s).hk = s.hk ∧ (State.takeTimed g k s).ldg = s.ldg ∧ (State.takeTimed g k s).tk = s.tk ∧
    (State.takeTimed g k s).free = s.free := by
  induction k generalizing s with
  | zero => simp [State.takeTimed]
  | succ n ih => unfold State.takeTimed; (repeat' split) <;> simp [ih]
@[simp] theorem State.takeHeads_frame {s : State} {g : Grp} :
    (State.takeHeads s g).pending = s.pending ∧ (State.takeHeads s g).regs = s.regs ∧ (State.takeHeads s g).die = s.die ∧
    (State.takeHeads s g).hid = s.hid ∧ (State.takeHeads s g).hub = s.hub ∧ (State.takeHeads s g).host = s.host ∧
    (State.takeHeads s g).links = s.links ∧ (State.takeHeads s g).chains = s.chains ∧ (State.takeHeads s g).coef = s.coef ∧
    (State.takeHeads s g).fold = s.fold ∧ (State.takeHeads s g).rfx = s.rfx ∧ (State.takeHeads s g).drv = s.drv ∧
    (State.takeHeads s g).ck = s.ck ∧ (State.takeHeads s g).sv = s.sv ∧ (State.takeHeads s g).fw = s.fw ∧
    (State.takeHeads s g).hk = s.hk ∧ (State.takeHeads s g).ldg = s.ldg ∧ (State.takeHeads s g).tk = s.tk ∧
    (State.takeHeads s g).free = s.free := by
  unfold State.takeHeads
  simp -implicitDefEqProofs
@[simp] theorem State.takeCmd_frame {s : State} {g : Grp} {sync : Nat} {x0 : TxCmd} :
    (State.takeCmd s g sync x0).pending = s.pending ∧ (State.takeCmd s g sync x0).regs = s.regs ∧
    (State.takeCmd s g sync x0).die = s.die ∧ (State.takeCmd s g sync x0).hid = s.hid ∧
    (State.takeCmd s g sync x0).hub = s.hub ∧ (State.takeCmd s g sync x0).host = s.host ∧
    (State.takeCmd s g sync x0).links = s.links ∧ (State.takeCmd s g sync x0).chans = s.chans ∧
    (State.takeCmd s g sync x0).chains = s.chains ∧ (State.takeCmd s g sync x0).coef = s.coef ∧
    (State.takeCmd s g sync x0).fold = s.fold ∧ (State.takeCmd s g sync x0).rfx = s.rfx ∧
    (State.takeCmd s g sync x0).drv = s.drv ∧ (State.takeCmd s g sync x0).ck = s.ck ∧
    (State.takeCmd s g sync x0).sv = s.sv ∧ (State.takeCmd s g sync x0).fw = s.fw ∧ (State.takeCmd s g sync x0).hk = s.hk ∧
    (State.takeCmd s g sync x0).ldg = s.ldg ∧ (State.takeCmd s g sync x0).tk = s.tk ∧
    (State.takeCmd s g sync x0).free = s.free := by
  unfold State.takeCmd
  try dsimp only
  (repeat' split) <;> simp -implicitDefEqProofs
@[simp] theorem State.takeHeader_frame {s : State} {g : Grp} {p : Part} :
    (State.takeHeader s g p).pending = s.pending ∧ (State.takeHeader s g p).hid = s.hid ∧
    (State.takeHeader s g p).hub = s.hub ∧ (State.takeHeader s g p).links = s.links ∧
    (State.takeHeader s g p).chains = s.chains ∧ (State.takeHeader s g p).coef = s.coef ∧
    (State.takeHeader s g p).fold = s.fold ∧ (State.takeHeader s g p).drv = s.drv ∧ (State.takeHeader s g p).ck = s.ck ∧
    (State.takeHeader s g p).sv = s.sv ∧ (State.takeHeader s g p).fw = s.fw ∧ (State.takeHeader s g p).hk = s.hk ∧
    (State.takeHeader s g p).ldg = s.ldg := by
  unfold State.takeHeader
  simp -implicitDefEqProofs
@[simp] theorem State.takeAcks_frame {s : State} {g : Grp} {p : Part} :
    (State.takeAcks s g p).pending = s.pending ∧ (State.takeAcks s g p).regs = s.regs ∧ (State.takeAcks s g p).die = s.die ∧
    (State.takeAcks s g p).hid = s.hid ∧ (State.takeAcks s g p).hub = s.hub ∧ (State.takeAcks s g p).host = s.host ∧
    (State.takeAcks s g p).links = s.links ∧ (State.takeAcks s g p).chains = s.chains ∧
    (State.takeAcks s g p).coef = s.coef ∧ (State.takeAcks s g p).fold = s.fold ∧ (State.takeAcks s g p).rfx = s.rfx ∧
    (State.takeAcks s g p).drv = s.drv ∧ (State.takeAcks s g p).ck = s.ck ∧ (State.takeAcks s g p).sv = s.sv ∧
    (State.takeAcks s g p).fw = s.fw ∧ (State.takeAcks s g p).hk = s.hk ∧ (State.takeAcks s g p).ldg = s.ldg ∧
    (State.takeAcks s g p).tk = s.tk ∧ (State.takeAcks s g p).free = s.free := by
  unfold State.takeAcks
  simp -implicitDefEqProofs
@[simp] theorem State.takeRate_frame {s : State} {g : Grp} {p : Part} :
    (State.takeRate s g p).pending = s.pending ∧ (State.takeRate s g p).regs = s.regs ∧ (State.takeRate s g p).die = s.die ∧
    (State.takeRate s g p).hid = s.hid ∧ (State.takeRate s g p).hub = s.hub ∧ (State.takeRate s g p).host = s.host ∧
    (State.takeRate s g p).links = s.links ∧ (State.takeRate s g p).chans = s.chans ∧
    (State.takeRate s g p).chains = s.chains ∧ (State.takeRate s g p).coef = s.coef ∧ (State.takeRate s g p).fold = s.fold ∧
    (State.takeRate s g p).rfx = s.rfx ∧ (State.takeRate s g p).drv = s.drv ∧ (State.takeRate s g p).ck = s.ck ∧
    (State.takeRate s g p).sv = s.sv ∧ (State.takeRate s g p).fw = s.fw ∧ (State.takeRate s g p).hk = s.hk ∧
    (State.takeRate s g p).ldg = s.ldg ∧ (State.takeRate s g p).tk = s.tk ∧ (State.takeRate s g p).free = s.free := by
  unfold State.takeRate
  simp -implicitDefEqProofs
@[simp] theorem State.partIn_frame {s : State} {g : Grp} {p : Part} :
    (State.partIn s g p).pending = s.pending ∧ (State.partIn s g p).hid = s.hid ∧ (State.partIn s g p).hub = s.hub ∧
    (State.partIn s g p).links = s.links ∧ (State.partIn s g p).chains = s.chains ∧ (State.partIn s g p).coef = s.coef ∧
    (State.partIn s g p).fold = s.fold ∧ (State.partIn s g p).drv = s.drv ∧ (State.partIn s g p).ck = s.ck ∧
    (State.partIn s g p).sv = s.sv ∧ (State.partIn s g p).fw = s.fw ∧ (State.partIn s g p).hk = s.hk ∧
    (State.partIn s g p).ldg = s.ldg := by
  unfold State.partIn
  simp -implicitDefEqProofs
@[simp] theorem State.takePart_frame {s : State} {g : Grp} {check : Option (BitVec 16)} {isB : Bool} :
    (State.takePart s g check isB).pending = s.pending ∧ (State.takePart s g check isB).hid = s.hid ∧
    (State.takePart s g check isB).hub = s.hub ∧ (State.takePart s g check isB).chains = s.chains ∧
    (State.takePart s g check isB).coef = s.coef ∧ (State.takePart s g check isB).fold = s.fold ∧
    (State.takePart s g check isB).drv = s.drv ∧ (State.takePart s g check isB).ck = s.ck ∧
    (State.takePart s g check isB).sv = s.sv ∧ (State.takePart s g check isB).fw = s.fw ∧
    (State.takePart s g check isB).hk = s.hk ∧ (State.takePart s g check isB).ldg = s.ldg := by
  unfold State.takePart
  (repeat' split) <;> simp -implicitDefEqProofs
@[simp] theorem State.urgRun_frame {s : State} {g : Grp} {q : Nat} {r : RuleNo} :
    (State.urgRun s g q r).pending = s.pending ∧ (State.urgRun s g q r).regs = s.regs ∧ (State.urgRun s g q r).die = s.die ∧
    (State.urgRun s g q r).hid = s.hid ∧ (State.urgRun s g q r).hub = s.hub ∧ (State.urgRun s g q r).host = s.host ∧
    (State.urgRun s g q r).links = s.links ∧ (State.urgRun s g q r).chans = s.chans ∧
    (State.urgRun s g q r).chains = s.chains ∧ (State.urgRun s g q r).coef = s.coef ∧ (State.urgRun s g q r).fold = s.fold ∧
    (State.urgRun s g q r).rfx = s.rfx ∧ (State.urgRun s g q r).drv = s.drv ∧ (State.urgRun s g q r).ck = s.ck ∧
    (State.urgRun s g q r).sv = s.sv ∧ (State.urgRun s g q r).fw = s.fw ∧ (State.urgRun s g q r).hk = s.hk ∧
    (State.urgRun s g q r).ldg = s.ldg ∧ (State.urgRun s g q r).tk = s.tk ∧ (State.urgRun s g q r).free = s.free := by
  unfold State.urgRun
  (repeat' split) <;> simp -implicitDefEqProofs
@[simp] theorem State.urgNext_frame {s : State} {g : Grp} :
    (State.urgNext s g).pending = s.pending ∧ (State.urgNext s g).regs = s.regs ∧ (State.urgNext s g).die = s.die ∧
    (State.urgNext s g).hid = s.hid ∧ (State.urgNext s g).hub = s.hub ∧ (State.urgNext s g).host = s.host ∧
    (State.urgNext s g).links = s.links ∧ (State.urgNext s g).chans = s.chans ∧ (State.urgNext s g).chains = s.chains ∧
    (State.urgNext s g).coef = s.coef ∧ (State.urgNext s g).fold = s.fold ∧ (State.urgNext s g).rfx = s.rfx ∧
    (State.urgNext s g).drv = s.drv ∧ (State.urgNext s g).ck = s.ck ∧ (State.urgNext s g).sv = s.sv ∧
    (State.urgNext s g).fw = s.fw ∧ (State.urgNext s g).hk = s.hk ∧ (State.urgNext s g).ldg = s.ldg ∧
    (State.urgNext s g).tk = s.tk ∧ (State.urgNext s g).free = s.free := by
  unfold State.urgNext
  (repeat' split) <;> simp -implicitDefEqProofs
@[simp] theorem State.urgTake_frame {s : State} {g : Grp} {ok : Bool} :
    (State.urgTake s g ok).pending = s.pending ∧ (State.urgTake s g ok).regs = s.regs ∧ (State.urgTake s g ok).die = s.die ∧
    (State.urgTake s g ok).hid = s.hid ∧ (State.urgTake s g ok).hub = s.hub ∧ (State.urgTake s g ok).host = s.host ∧
    (State.urgTake s g ok).chans = s.chans ∧ (State.urgTake s g ok).chains = s.chains ∧
    (State.urgTake s g ok).coef = s.coef ∧ (State.urgTake s g ok).fold = s.fold ∧ (State.urgTake s g ok).rfx = s.rfx ∧
    (State.urgTake s g ok).drv = s.drv ∧ (State.urgTake s g ok).ck = s.ck ∧ (State.urgTake s g ok).sv = s.sv ∧
    (State.urgTake s g ok).fw = s.fw ∧ (State.urgTake s g ok).hk = s.hk ∧ (State.urgTake s g ok).ldg = s.ldg ∧
    (State.urgTake s g ok).tk = s.tk ∧ (State.urgTake s g ok).free = s.free := by
  unfold State.urgTake
  (repeat' split) <;> simp -implicitDefEqProofs
@[simp] theorem State.urgSkip_frame {s : State} {g : Grp} :
    (State.urgSkip s g).pending = s.pending ∧ (State.urgSkip s g).die = s.die ∧ (State.urgSkip s g).hid = s.hid ∧
    (State.urgSkip s g).hub = s.hub ∧ (State.urgSkip s g).host = s.host ∧ (State.urgSkip s g).chans = s.chans ∧
    (State.urgSkip s g).chains = s.chains ∧ (State.urgSkip s g).coef = s.coef ∧ (State.urgSkip s g).fold = s.fold ∧
    (State.urgSkip s g).rfx = s.rfx ∧ (State.urgSkip s g).drv = s.drv ∧ (State.urgSkip s g).ck = s.ck ∧
    (State.urgSkip s g).sv = s.sv ∧ (State.urgSkip s g).fw = s.fw ∧ (State.urgSkip s g).hk = s.hk ∧
    (State.urgSkip s g).ldg = s.ldg ∧ (State.urgSkip s g).tk = s.tk ∧ (State.urgSkip s g).free = s.free := by
  unfold State.urgSkip
  (repeat' split) <;> simp -implicitDefEqProofs
@[simp] theorem State.levelClip_frame {s : State} {c : Ch} :
    (State.levelClip s c).pending = s.pending ∧ (State.levelClip s c).regs = s.regs ∧ (State.levelClip s c).die = s.die ∧
    (State.levelClip s c).hid = s.hid ∧ (State.levelClip s c).hub = s.hub ∧ (State.levelClip s c).host = s.host ∧
    (State.levelClip s c).links = s.links ∧ (State.levelClip s c).dies = s.dies ∧ (State.levelClip s c).chains = s.chains ∧
    (State.levelClip s c).coef = s.coef ∧ (State.levelClip s c).fold = s.fold ∧ (State.levelClip s c).rfx = s.rfx ∧
    (State.levelClip s c).drv = s.drv ∧ (State.levelClip s c).ck = s.ck ∧ (State.levelClip s c).sv = s.sv ∧
    (State.levelClip s c).fw = s.fw ∧ (State.levelClip s c).hk = s.hk ∧ (State.levelClip s c).ldg = s.ldg ∧
    (State.levelClip s c).tk = s.tk ∧ (State.levelClip s c).free = s.free := by
  unfold State.levelClip
  simp -implicitDefEqProofs
@[simp] theorem State.chWritten_frame {s : State} {c : Ch} {off : Nat} {v : Nat} {old : State} :
    (State.chWritten s c off v old).pending = s.pending ∧ (State.chWritten s c off v old).hid = s.hid ∧
    (State.chWritten s c off v old).hub = s.hub ∧ (State.chWritten s c off v old).links = s.links ∧
    (State.chWritten s c off v old).coef = s.coef ∧ (State.chWritten s c off v old).fold = s.fold ∧
    (State.chWritten s c off v old).drv = s.drv ∧ (State.chWritten s c off v old).ck = s.ck ∧
    (State.chWritten s c off v old).sv = s.sv ∧ (State.chWritten s c off v old).fw = s.fw ∧
    (State.chWritten s c off v old).hk = s.hk ∧ (State.chWritten s c off v old).ldg = s.ldg := by
  unfold State.chWritten
  simp -implicitDefEqProofs
@[simp] theorem State.limpPolarity_frame {s : State} {g : Grp} {was : Bool} :
    (State.limpPolarity s g was).pending = s.pending ∧ (State.limpPolarity s g was).regs = s.regs ∧
    (State.limpPolarity s g was).die = s.die ∧ (State.limpPolarity s g was).hid = s.hid ∧
    (State.limpPolarity s g was).hub = s.hub ∧ (State.limpPolarity s g was).host = s.host ∧
    (State.limpPolarity s g was).links = s.links ∧ (State.limpPolarity s g was).chans = s.chans ∧
    (State.limpPolarity s g was).chains = s.chains ∧ (State.limpPolarity s g was).coef = s.coef ∧
    (State.limpPolarity s g was).fold = s.fold ∧ (State.limpPolarity s g was).rfx = s.rfx ∧
    (State.limpPolarity s g was).drv = s.drv ∧ (State.limpPolarity s g was).ck = s.ck ∧
    (State.limpPolarity s g was).sv = s.sv ∧ (State.limpPolarity s g was).fw = s.fw ∧
    (State.limpPolarity s g was).hk = s.hk ∧ (State.limpPolarity s g was).ldg = s.ldg ∧
    (State.limpPolarity s g was).tk = s.tk ∧ (State.limpPolarity s g was).free = s.free := by
  unfold State.limpPolarity
  simp -implicitDefEqProofs
@[simp] theorem State.grpWritten_frame {s : State} {g : Grp} {off : Nat} {v : Nat} {old : State} :
    (State.grpWritten s g off v old).pending = s.pending ∧ (State.grpWritten s g off v old).hid = s.hid ∧
    (State.grpWritten s g off v old).hub = s.hub ∧ (State.grpWritten s g off v old).links = s.links ∧
    (State.grpWritten s g off v old).chains = s.chains ∧ (State.grpWritten s g off v old).coef = s.coef ∧
    (State.grpWritten s g off v old).fold = s.fold ∧ (State.grpWritten s g off v old).drv = s.drv ∧
    (State.grpWritten s g off v old).ck = s.ck ∧ (State.grpWritten s g off v old).sv = s.sv ∧
    (State.grpWritten s g off v old).fw = s.fw ∧ (State.grpWritten s g off v old).hk = s.hk ∧
    (State.grpWritten s g off v old).ldg = s.ldg := by
  unfold State.grpWritten
  (repeat' split) <;> simp -implicitDefEqProofs
@[simp] theorem State.dieWord_frame {s : State} {g : Grp} {off : Nat} {v : Nat} :
    (State.dieWord s g off v).pending = s.pending ∧ (State.dieWord s g off v).hid = s.hid ∧
    (State.dieWord s g off v).hub = s.hub ∧ (State.dieWord s g off v).links = s.links ∧
    (State.dieWord s g off v).coef = s.coef ∧ (State.dieWord s g off v).fold = s.fold ∧
    (State.dieWord s g off v).drv = s.drv ∧ (State.dieWord s g off v).ck = s.ck ∧ (State.dieWord s g off v).sv = s.sv ∧
    (State.dieWord s g off v).fw = s.fw ∧ (State.dieWord s g off v).hk = s.hk ∧ (State.dieWord s g off v).ldg = s.ldg := by
  unfold State.dieWord
  try dsimp only
  (repeat' split) <;> simp -implicitDefEqProofs
@[simp] theorem State.dlHead_pending {s : State} {g : Grp} {kind : Nat} {k : State → TxCmd → State} (h : ∀ (a0 : State) (a1 : TxCmd), (k a0 a1).pending = a0.pending) :
    (State.dlHead s g kind k).pending = s.pending := by
  unfold State.dlHead
  (repeat' split) <;> simp -implicitDefEqProofs [h]
@[simp] theorem State.dlHead_regs {s : State} {g : Grp} {kind : Nat} {k : State → TxCmd → State} (h : ∀ (a0 : State) (a1 : TxCmd), (k a0 a1).regs = a0.regs) :
    (State.dlHead s g kind k).regs = s.regs := by
  unfold State.dlHead
  (repeat' split) <;> simp -implicitDefEqProofs [h]
@[simp] theorem State.dlHead_die {s : State} {g : Grp} {kind : Nat} {k : State → TxCmd → State} (h : ∀ (a0 : State) (a1 : TxCmd), (k a0 a1).die = a0.die) :
    (State.dlHead s g kind k).die = s.die := by
  unfold State.dlHead
  (repeat' split) <;> simp -implicitDefEqProofs [h]
@[simp] theorem State.dlHead_hid {s : State} {g : Grp} {kind : Nat} {k : State → TxCmd → State} (h : ∀ (a0 : State) (a1 : TxCmd), (k a0 a1).hid = a0.hid) :
    (State.dlHead s g kind k).hid = s.hid := by
  unfold State.dlHead
  (repeat' split) <;> simp -implicitDefEqProofs [h]
@[simp] theorem State.dlHead_hub {s : State} {g : Grp} {kind : Nat} {k : State → TxCmd → State} (h : ∀ (a0 : State) (a1 : TxCmd), (k a0 a1).hub = a0.hub) :
    (State.dlHead s g kind k).hub = s.hub := by
  unfold State.dlHead
  (repeat' split) <;> simp -implicitDefEqProofs [h]
@[simp] theorem State.dlHead_host {s : State} {g : Grp} {kind : Nat} {k : State → TxCmd → State} (h : ∀ (a0 : State) (a1 : TxCmd), (k a0 a1).host = a0.host) :
    (State.dlHead s g kind k).host = s.host := by
  unfold State.dlHead
  (repeat' split) <;> simp -implicitDefEqProofs [h]
@[simp] theorem State.dlHead_links {s : State} {g : Grp} {kind : Nat} {k : State → TxCmd → State} (h : ∀ (a0 : State) (a1 : TxCmd), (k a0 a1).links = a0.links) :
    (State.dlHead s g kind k).links = s.links := by
  unfold State.dlHead
  (repeat' split) <;> simp -implicitDefEqProofs [h]
@[simp] theorem State.dlHead_chains {s : State} {g : Grp} {kind : Nat} {k : State → TxCmd → State} (h : ∀ (a0 : State) (a1 : TxCmd), (k a0 a1).chains = a0.chains) :
    (State.dlHead s g kind k).chains = s.chains := by
  unfold State.dlHead
  (repeat' split) <;> simp -implicitDefEqProofs [h]
@[simp] theorem State.dlHead_coef {s : State} {g : Grp} {kind : Nat} {k : State → TxCmd → State} (h : ∀ (a0 : State) (a1 : TxCmd), (k a0 a1).coef = a0.coef) :
    (State.dlHead s g kind k).coef = s.coef := by
  unfold State.dlHead
  (repeat' split) <;> simp -implicitDefEqProofs [h]
@[simp] theorem State.dlHead_fold {s : State} {g : Grp} {kind : Nat} {k : State → TxCmd → State} (h : ∀ (a0 : State) (a1 : TxCmd), (k a0 a1).fold = a0.fold) :
    (State.dlHead s g kind k).fold = s.fold := by
  unfold State.dlHead
  (repeat' split) <;> simp -implicitDefEqProofs [h]
@[simp] theorem State.dlHead_rfx {s : State} {g : Grp} {kind : Nat} {k : State → TxCmd → State} (h : ∀ (a0 : State) (a1 : TxCmd), (k a0 a1).rfx = a0.rfx) :
    (State.dlHead s g kind k).rfx = s.rfx := by
  unfold State.dlHead
  (repeat' split) <;> simp -implicitDefEqProofs [h]
@[simp] theorem State.dlHead_drv {s : State} {g : Grp} {kind : Nat} {k : State → TxCmd → State} (h : ∀ (a0 : State) (a1 : TxCmd), (k a0 a1).drv = a0.drv) :
    (State.dlHead s g kind k).drv = s.drv := by
  unfold State.dlHead
  (repeat' split) <;> simp -implicitDefEqProofs [h]
@[simp] theorem State.dlHead_ck {s : State} {g : Grp} {kind : Nat} {k : State → TxCmd → State} (h : ∀ (a0 : State) (a1 : TxCmd), (k a0 a1).ck = a0.ck) :
    (State.dlHead s g kind k).ck = s.ck := by
  unfold State.dlHead
  (repeat' split) <;> simp -implicitDefEqProofs [h]
@[simp] theorem State.dlHead_sv {s : State} {g : Grp} {kind : Nat} {k : State → TxCmd → State} (h : ∀ (a0 : State) (a1 : TxCmd), (k a0 a1).sv = a0.sv) :
    (State.dlHead s g kind k).sv = s.sv := by
  unfold State.dlHead
  (repeat' split) <;> simp -implicitDefEqProofs [h]
@[simp] theorem State.dlHead_fw {s : State} {g : Grp} {kind : Nat} {k : State → TxCmd → State} (h : ∀ (a0 : State) (a1 : TxCmd), (k a0 a1).fw = a0.fw) :
    (State.dlHead s g kind k).fw = s.fw := by
  unfold State.dlHead
  (repeat' split) <;> simp -implicitDefEqProofs [h]
@[simp] theorem State.dlHead_hk {s : State} {g : Grp} {kind : Nat} {k : State → TxCmd → State} (h : ∀ (a0 : State) (a1 : TxCmd), (k a0 a1).hk = a0.hk) :
    (State.dlHead s g kind k).hk = s.hk := by
  unfold State.dlHead
  (repeat' split) <;> simp -implicitDefEqProofs [h]
@[simp] theorem State.dlHead_ldg {s : State} {g : Grp} {kind : Nat} {k : State → TxCmd → State} (h : ∀ (a0 : State) (a1 : TxCmd), (k a0 a1).ldg = a0.ldg) :
    (State.dlHead s g kind k).ldg = s.ldg := by
  unfold State.dlHead
  (repeat' split) <;> simp -implicitDefEqProofs [h]
@[simp] theorem State.dlHead_tk {s : State} {g : Grp} {kind : Nat} {k : State → TxCmd → State} (h : ∀ (a0 : State) (a1 : TxCmd), (k a0 a1).tk = a0.tk) :
    (State.dlHead s g kind k).tk = s.tk := by
  unfold State.dlHead
  (repeat' split) <;> simp -implicitDefEqProofs [h]
@[simp] theorem State.dlHead_free {s : State} {g : Grp} {kind : Nat} {k : State → TxCmd → State} (h : ∀ (a0 : State) (a1 : TxCmd), (k a0 a1).free = a0.free) :
    (State.dlHead s g kind k).free = s.free := by
  unfold State.dlHead
  (repeat' split) <;> simp -implicitDefEqProofs [h]
@[simp] theorem State.takeWrite_frame {s : State} {g : Grp} {x : TxCmd} :
    (State.takeWrite s g x).pending = s.pending ∧ (State.takeWrite s g x).hid = s.hid ∧
    (State.takeWrite s g x).hub = s.hub ∧ (State.takeWrite s g x).links = s.links ∧ (State.takeWrite s g x).coef = s.coef ∧
    (State.takeWrite s g x).fold = s.fold ∧ (State.takeWrite s g x).drv = s.drv ∧ (State.takeWrite s g x).ck = s.ck ∧
    (State.takeWrite s g x).sv = s.sv ∧ (State.takeWrite s g x).fw = s.fw ∧ (State.takeWrite s g x).hk = s.hk ∧
    (State.takeWrite s g x).ldg = s.ldg := by
  unfold State.takeWrite
  (repeat' split) <;> simp -implicitDefEqProofs
@[simp] theorem State.heldLate_frame {s : State} {g : Grp} :
    (State.heldLate s g).pending = s.pending ∧ (State.heldLate s g).regs = s.regs ∧ (State.heldLate s g).die = s.die ∧
    (State.heldLate s g).hid = s.hid ∧ (State.heldLate s g).hub = s.hub ∧ (State.heldLate s g).host = s.host ∧
    (State.heldLate s g).links = s.links ∧ (State.heldLate s g).chans = s.chans ∧ (State.heldLate s g).chains = s.chains ∧
    (State.heldLate s g).coef = s.coef ∧ (State.heldLate s g).fold = s.fold ∧ (State.heldLate s g).rfx = s.rfx ∧
    (State.heldLate s g).drv = s.drv ∧ (State.heldLate s g).ck = s.ck ∧ (State.heldLate s g).sv = s.sv ∧
    (State.heldLate s g).fw = s.fw ∧ (State.heldLate s g).hk = s.hk ∧ (State.heldLate s g).ldg = s.ldg ∧
    (State.heldLate s g).tk = s.tk ∧ (State.heldLate s g).free = s.free := by
  unfold State.heldLate
  dsimp only
  simp only [State.updDie_pending, State.updDie_regs, State.updDie_die, State.updDie_hid, State.updDie_hub, State.updDie_host, State.updDie_links, State.updDie_chans, State.updDie_chains, State.updDie_coef, State.updDie_fold, State.updDie_rfx, State.updDie_drv, State.updDie_ck, State.updDie_sv, State.updDie_fw, State.updDie_hk, State.updDie_ldg, State.updDie_tk, State.updDie_free]
  repeat' apply And.intro
  all_goals (refine (State.foldl_keep _ (fun s x => ?_) _ _).trans ?_)
  all_goals (first | rfl | (split <;> [split <;> simp; rfl]))
@[simp] theorem State.dieMoves_frame {s : State} {g : Grp} {delta : Int} {rel : Bool} :
    (State.dieMoves s g delta rel).pending = s.pending ∧ (State.dieMoves s g delta rel).regs = s.regs ∧
    (State.dieMoves s g delta rel).die = s.die ∧ (State.dieMoves s g delta rel).hid = s.hid ∧
    (State.dieMoves s g delta rel).hub = s.hub ∧ (State.dieMoves s g delta rel).host = s.host ∧
    (State.dieMoves s g delta rel).links = s.links ∧ (State.dieMoves s g delta rel).chains = s.chains ∧
    (State.dieMoves s g delta rel).coef = s.coef ∧ (State.dieMoves s g delta rel).fold = s.fold ∧
    (State.dieMoves s g delta rel).rfx = s.rfx ∧ (State.dieMoves s g delta rel).drv = s.drv ∧
    (State.dieMoves s g delta rel).ck = s.ck ∧ (State.dieMoves s g delta rel).sv = s.sv ∧
    (State.dieMoves s g delta rel).fw = s.fw ∧ (State.dieMoves s g delta rel).hk = s.hk ∧
    (State.dieMoves s g delta rel).ldg = s.ldg ∧ (State.dieMoves s g delta rel).tk = s.tk ∧
    (State.dieMoves s g delta rel).free = s.free := by
  unfold State.dieMoves
  dsimp only
  simp only [State.heldLate_frame]
  repeat' apply And.intro
  all_goals (refine (State.foldl_keep _ (fun s x => ?_) _ _).trans ?_)
  all_goals simp
@[simp] theorem State.takeTime_frame {s : State} {g : Grp} {t : Nat} :
    (State.takeTime s g t).pending = s.pending ∧ (State.takeTime s g t).hid = s.hid ∧ (State.takeTime s g t).hub = s.hub ∧
    (State.takeTime s g t).links = s.links ∧ (State.takeTime s g t).chains = s.chains ∧
    (State.takeTime s g t).coef = s.coef ∧ (State.takeTime s g t).fold = s.fold ∧ (State.takeTime s g t).drv = s.drv ∧
    (State.takeTime s g t).ck = s.ck ∧ (State.takeTime s g t).sv = s.sv ∧ (State.takeTime s g t).fw = s.fw ∧
    (State.takeTime s g t).hk = s.hk ∧ (State.takeTime s g t).ldg = s.ldg := by
  unfold State.takeTime
  simp -implicitDefEqProofs
@[simp] theorem State.takeStep_frame {s : State} {g : Grp} {delta : Int} {rel : Bool} :
    (State.takeStep s g delta rel).pending = s.pending ∧ (State.takeStep s g delta rel).regs = s.regs ∧
    (State.takeStep s g delta rel).die = s.die ∧ (State.takeStep s g delta rel).hid = s.hid ∧
    (State.takeStep s g delta rel).hub = s.hub ∧ (State.takeStep s g delta rel).host = s.host ∧
    (State.takeStep s g delta rel).links = s.links ∧ (State.takeStep s g delta rel).chains = s.chains ∧
    (State.takeStep s g delta rel).coef = s.coef ∧ (State.takeStep s g delta rel).fold = s.fold ∧
    (State.takeStep s g delta rel).rfx = s.rfx ∧ (State.takeStep s g delta rel).drv = s.drv ∧
    (State.takeStep s g delta rel).ck = s.ck ∧ (State.takeStep s g delta rel).sv = s.sv ∧
    (State.takeStep s g delta rel).fw = s.fw ∧ (State.takeStep s g delta rel).hk = s.hk ∧
    (State.takeStep s g delta rel).ldg = s.ldg ∧ (State.takeStep s g delta rel).tk = s.tk ∧
    (State.takeStep s g delta rel).free = s.free := by
  unfold State.takeStep
  simp -implicitDefEqProofs
@[simp] theorem State.ctlHead_pending {s : State} {g : Grp} {code : Nat} {k : State → State} (h : ∀ (a0 : State), (k a0).pending = a0.pending) :
    (State.ctlHead s g code k).pending = s.pending := by
  unfold State.ctlHead
  (repeat' split) <;> simp -implicitDefEqProofs [h]
@[simp] theorem State.ctlHead_regs {s : State} {g : Grp} {code : Nat} {k : State → State} (h : ∀ (a0 : State), (k a0).regs = a0.regs) :
    (State.ctlHead s g code k).regs = s.regs := by
  unfold State.ctlHead
  (repeat' split) <;> simp -implicitDefEqProofs [h]
@[simp] theorem State.ctlHead_die {s : State} {g : Grp} {code : Nat} {k : State → State} (h : ∀ (a0 : State), (k a0).die = a0.die) :
    (State.ctlHead s g code k).die = s.die := by
  unfold State.ctlHead
  (repeat' split) <;> simp -implicitDefEqProofs [h]
@[simp] theorem State.ctlHead_hid {s : State} {g : Grp} {code : Nat} {k : State → State} (h : ∀ (a0 : State), (k a0).hid = a0.hid) :
    (State.ctlHead s g code k).hid = s.hid := by
  unfold State.ctlHead
  (repeat' split) <;> simp -implicitDefEqProofs [h]
@[simp] theorem State.ctlHead_hub {s : State} {g : Grp} {code : Nat} {k : State → State} (h : ∀ (a0 : State), (k a0).hub = a0.hub) :
    (State.ctlHead s g code k).hub = s.hub := by
  unfold State.ctlHead
  (repeat' split) <;> simp -implicitDefEqProofs [h]
@[simp] theorem State.ctlHead_host {s : State} {g : Grp} {code : Nat} {k : State → State} (h : ∀ (a0 : State), (k a0).host = a0.host) :
    (State.ctlHead s g code k).host = s.host := by
  unfold State.ctlHead
  (repeat' split) <;> simp -implicitDefEqProofs [h]
@[simp] theorem State.ctlHead_links {s : State} {g : Grp} {code : Nat} {k : State → State} (h : ∀ (a0 : State), (k a0).links = a0.links) :
    (State.ctlHead s g code k).links = s.links := by
  unfold State.ctlHead
  (repeat' split) <;> simp -implicitDefEqProofs [h]
@[simp] theorem State.ctlHead_chains {s : State} {g : Grp} {code : Nat} {k : State → State} (h : ∀ (a0 : State), (k a0).chains = a0.chains) :
    (State.ctlHead s g code k).chains = s.chains := by
  unfold State.ctlHead
  (repeat' split) <;> simp -implicitDefEqProofs [h]
@[simp] theorem State.ctlHead_coef {s : State} {g : Grp} {code : Nat} {k : State → State} (h : ∀ (a0 : State), (k a0).coef = a0.coef) :
    (State.ctlHead s g code k).coef = s.coef := by
  unfold State.ctlHead
  (repeat' split) <;> simp -implicitDefEqProofs [h]
@[simp] theorem State.ctlHead_fold {s : State} {g : Grp} {code : Nat} {k : State → State} (h : ∀ (a0 : State), (k a0).fold = a0.fold) :
    (State.ctlHead s g code k).fold = s.fold := by
  unfold State.ctlHead
  (repeat' split) <;> simp -implicitDefEqProofs [h]
@[simp] theorem State.ctlHead_rfx {s : State} {g : Grp} {code : Nat} {k : State → State} (h : ∀ (a0 : State), (k a0).rfx = a0.rfx) :
    (State.ctlHead s g code k).rfx = s.rfx := by
  unfold State.ctlHead
  (repeat' split) <;> simp -implicitDefEqProofs [h]
@[simp] theorem State.ctlHead_drv {s : State} {g : Grp} {code : Nat} {k : State → State} (h : ∀ (a0 : State), (k a0).drv = a0.drv) :
    (State.ctlHead s g code k).drv = s.drv := by
  unfold State.ctlHead
  (repeat' split) <;> simp -implicitDefEqProofs [h]
@[simp] theorem State.ctlHead_ck {s : State} {g : Grp} {code : Nat} {k : State → State} (h : ∀ (a0 : State), (k a0).ck = a0.ck) :
    (State.ctlHead s g code k).ck = s.ck := by
  unfold State.ctlHead
  (repeat' split) <;> simp -implicitDefEqProofs [h]
@[simp] theorem State.ctlHead_sv {s : State} {g : Grp} {code : Nat} {k : State → State} (h : ∀ (a0 : State), (k a0).sv = a0.sv) :
    (State.ctlHead s g code k).sv = s.sv := by
  unfold State.ctlHead
  (repeat' split) <;> simp -implicitDefEqProofs [h]
@[simp] theorem State.ctlHead_fw {s : State} {g : Grp} {code : Nat} {k : State → State} (h : ∀ (a0 : State), (k a0).fw = a0.fw) :
    (State.ctlHead s g code k).fw = s.fw := by
  unfold State.ctlHead
  (repeat' split) <;> simp -implicitDefEqProofs [h]
@[simp] theorem State.ctlHead_hk {s : State} {g : Grp} {code : Nat} {k : State → State} (h : ∀ (a0 : State), (k a0).hk = a0.hk) :
    (State.ctlHead s g code k).hk = s.hk := by
  unfold State.ctlHead
  (repeat' split) <;> simp -implicitDefEqProofs [h]
@[simp] theorem State.ctlHead_ldg {s : State} {g : Grp} {code : Nat} {k : State → State} (h : ∀ (a0 : State), (k a0).ldg = a0.ldg) :
    (State.ctlHead s g code k).ldg = s.ldg := by
  unfold State.ctlHead
  (repeat' split) <;> simp -implicitDefEqProofs [h]
@[simp] theorem State.ctlHead_tk {s : State} {g : Grp} {code : Nat} {k : State → State} (h : ∀ (a0 : State), (k a0).tk = a0.tk) :
    (State.ctlHead s g code k).tk = s.tk := by
  unfold State.ctlHead
  (repeat' split) <;> simp -implicitDefEqProofs [h]
@[simp] theorem State.ctlHead_free {s : State} {g : Grp} {code : Nat} {k : State → State} (h : ∀ (a0 : State), (k a0).free = a0.free) :
    (State.ctlHead s g code k).free = s.free := by
  unfold State.ctlHead
  (repeat' split) <;> simp -implicitDefEqProofs [h]
@[simp] theorem State.bucketLoad_frame {s : State} {c : Ch} {first : Bool} :
    (State.bucketLoad s c first).pending = s.pending ∧ (State.bucketLoad s c first).regs = s.regs ∧
    (State.bucketLoad s c first).die = s.die ∧ (State.bucketLoad s c first).hid = s.hid ∧
    (State.bucketLoad s c first).hub = s.hub ∧ (State.bucketLoad s c first).host = s.host ∧
    (State.bucketLoad s c first).links = s.links ∧ (State.bucketLoad s c first).dies = s.dies ∧
    (State.bucketLoad s c first).chains = s.chains ∧ (State.bucketLoad s c first).coef = s.coef ∧
    (State.bucketLoad s c first).fold = s.fold ∧ (State.bucketLoad s c first).rfx = s.rfx ∧
    (State.bucketLoad s c first).drv = s.drv ∧ (State.bucketLoad s c first).ck = s.ck ∧
    (State.bucketLoad s c first).sv = s.sv ∧ (State.bucketLoad s c first).fw = s.fw ∧
    (State.bucketLoad s c first).hk = s.hk ∧ (State.bucketLoad s c first).ldg = s.ldg ∧
    (State.bucketLoad s c first).tk = s.tk ∧ (State.bucketLoad s c first).free = s.free := by
  unfold State.bucketLoad
  simp -implicitDefEqProofs
@[simp] theorem State.takeEndLoad_frame {s : State} {g : Grp} :
    (State.takeEndLoad s g).pending = s.pending ∧ (State.takeEndLoad s g).hid = s.hid ∧
    (State.takeEndLoad s g).hub = s.hub ∧ (State.takeEndLoad s g).links = s.links ∧
    (State.takeEndLoad s g).chains = s.chains ∧ (State.takeEndLoad s g).coef = s.coef ∧
    (State.takeEndLoad s g).fold = s.fold ∧ (State.takeEndLoad s g).drv = s.drv ∧ (State.takeEndLoad s g).ck = s.ck ∧
    (State.takeEndLoad s g).sv = s.sv ∧ (State.takeEndLoad s g).fw = s.fw ∧ (State.takeEndLoad s g).hk = s.hk ∧
    (State.takeEndLoad s g).ldg = s.ldg := by
  unfold State.takeEndLoad
  try dsimp only
  simp -implicitDefEqProofs
@[simp] theorem State.takeHold_frame {s : State} {g : Grp} :
    (State.takeHold s g).pending = s.pending ∧ (State.takeHold s g).hid = s.hid ∧ (State.takeHold s g).hub = s.hub ∧
    (State.takeHold s g).links = s.links ∧ (State.takeHold s g).chains = s.chains ∧ (State.takeHold s g).coef = s.coef ∧
    (State.takeHold s g).fold = s.fold ∧ (State.takeHold s g).drv = s.drv ∧ (State.takeHold s g).ck = s.ck ∧
    (State.takeHold s g).sv = s.sv ∧ (State.takeHold s g).fw = s.fw ∧ (State.takeHold s g).hk = s.hk ∧
    (State.takeHold s g).ldg = s.ldg := by
  unfold State.takeHold
  simp -implicitDefEqProofs
@[simp] theorem State.dieStart_frame {s0 : State} {g : Grp} {restart : Bool} :
    (State.dieStart s0 g restart).pending = s0.pending ∧ (State.dieStart s0 g restart).hid = s0.hid ∧
    (State.dieStart s0 g restart).hub = s0.hub ∧ (State.dieStart s0 g restart).chains = s0.chains ∧
    (State.dieStart s0 g restart).coef = s0.coef ∧ (State.dieStart s0 g restart).fold = s0.fold ∧
    (State.dieStart s0 g restart).drv = s0.drv ∧ (State.dieStart s0 g restart).ck = s0.ck ∧
    (State.dieStart s0 g restart).sv = s0.sv ∧ (State.dieStart s0 g restart).fw = s0.fw ∧
    (State.dieStart s0 g restart).hk = s0.hk ∧ (State.dieStart s0 g restart).ldg = s0.ldg := by
  unfold State.dieStart
  simp -implicitDefEqProofs
@[simp] theorem State.tallyOpt_frame {s : State} {x : Option Fld} :
    (State.tallyOpt s x).pending = s.pending ∧ (State.tallyOpt s x).die = s.die ∧ (State.tallyOpt s x).hid = s.hid ∧
    (State.tallyOpt s x).hub = s.hub ∧ (State.tallyOpt s x).host = s.host ∧ (State.tallyOpt s x).links = s.links ∧
    (State.tallyOpt s x).dies = s.dies ∧ (State.tallyOpt s x).chans = s.chans ∧ (State.tallyOpt s x).chains = s.chains ∧
    (State.tallyOpt s x).coef = s.coef ∧ (State.tallyOpt s x).fold = s.fold ∧ (State.tallyOpt s x).rfx = s.rfx ∧
    (State.tallyOpt s x).drv = s.drv ∧ (State.tallyOpt s x).ck = s.ck ∧ (State.tallyOpt s x).sv = s.sv ∧
    (State.tallyOpt s x).fw = s.fw ∧ (State.tallyOpt s x).hk = s.hk ∧ (State.tallyOpt s x).ldg = s.ldg ∧
    (State.tallyOpt s x).tk = s.tk ∧ (State.tallyOpt s x).free = s.free := by
  unfold State.tallyOpt
  (repeat' split) <;> simp -implicitDefEqProofs
@[simp] theorem State.shedRecord_frame {s : State} {c : Ch} :
    (State.shedRecord s c).pending = s.pending ∧ (State.shedRecord s c).die = s.die ∧ (State.shedRecord s c).hid = s.hid ∧
    (State.shedRecord s c).hub = s.hub ∧ (State.shedRecord s c).host = s.host ∧ (State.shedRecord s c).links = s.links ∧
    (State.shedRecord s c).dies = s.dies ∧ (State.shedRecord s c).chans = s.chans ∧
    (State.shedRecord s c).chains = s.chains ∧ (State.shedRecord s c).coef = s.coef ∧ (State.shedRecord s c).fold = s.fold ∧
    (State.shedRecord s c).rfx = s.rfx ∧ (State.shedRecord s c).drv = s.drv ∧ (State.shedRecord s c).ck = s.ck ∧
    (State.shedRecord s c).sv = s.sv ∧ (State.shedRecord s c).fw = s.fw ∧ (State.shedRecord s c).hk = s.hk ∧
    (State.shedRecord s c).ldg = s.ldg ∧ (State.shedRecord s c).tk = s.tk ∧ (State.shedRecord s c).free = s.free := by
  unfold State.shedRecord
  simp -implicitDefEqProofs
@[simp] theorem State.shedSeen_frame {s : State} {c : Ch} {urgent : Bool} {n : Nat} :
    (State.shedSeen s c urgent n).pending = s.pending ∧ (State.shedSeen s c urgent n).die = s.die ∧
    (State.shedSeen s c urgent n).hid = s.hid ∧ (State.shedSeen s c urgent n).hub = s.hub ∧
    (State.shedSeen s c urgent n).host = s.host ∧ (State.shedSeen s c urgent n).links = s.links ∧
    (State.shedSeen s c urgent n).dies = s.dies ∧ (State.shedSeen s c urgent n).chains = s.chains ∧
    (State.shedSeen s c urgent n).coef = s.coef ∧ (State.shedSeen s c urgent n).fold = s.fold ∧
    (State.shedSeen s c urgent n).rfx = s.rfx ∧ (State.shedSeen s c urgent n).drv = s.drv ∧
    (State.shedSeen s c urgent n).ck = s.ck ∧ (State.shedSeen s c urgent n).sv = s.sv ∧
    (State.shedSeen s c urgent n).fw = s.fw ∧ (State.shedSeen s c urgent n).hk = s.hk ∧
    (State.shedSeen s c urgent n).ldg = s.ldg ∧ (State.shedSeen s c urgent n).tk = s.tk ∧
    (State.shedSeen s c urgent n).free = s.free := by
  unfold State.shedSeen
  simp -implicitDefEqProofs
@[simp] theorem State.clampAdd_frame {s : State} {c : Ch} {e : Nat} :
    (State.clampAdd s c e).pending = s.pending ∧ (State.clampAdd s c e).die = s.die ∧ (State.clampAdd s c e).hid = s.hid ∧
    (State.clampAdd s c e).hub = s.hub ∧ (State.clampAdd s c e).host = s.host ∧ (State.clampAdd s c e).links = s.links ∧
    (State.clampAdd s c e).dies = s.dies ∧ (State.clampAdd s c e).chans = s.chans ∧
    (State.clampAdd s c e).chains = s.chains ∧ (State.clampAdd s c e).coef = s.coef ∧ (State.clampAdd s c e).fold = s.fold ∧
    (State.clampAdd s c e).rfx = s.rfx ∧ (State.clampAdd s c e).drv = s.drv ∧ (State.clampAdd s c e).ck = s.ck ∧
    (State.clampAdd s c e).sv = s.sv ∧ (State.clampAdd s c e).fw = s.fw ∧ (State.clampAdd s c e).ldg = s.ldg ∧
    (State.clampAdd s c e).tk = s.tk ∧ (State.clampAdd s c e).free = s.free := by
  unfold State.clampAdd
  simp -implicitDefEqProofs
@[simp] theorem State.modeIn_frame {s : State} {c : Ch} {m : Nat} {member : Bool} :
    (State.modeIn s c m member).pending = s.pending ∧ (State.modeIn s c m member).die = s.die ∧
    (State.modeIn s c m member).hid = s.hid ∧ (State.modeIn s c m member).hub = s.hub ∧
    (State.modeIn s c m member).links = s.links ∧ (State.modeIn s c m member).dies = s.dies ∧
    (State.modeIn s c m member).coef = s.coef ∧ (State.modeIn s c m member).fold = s.fold ∧
    (State.modeIn s c m member).rfx = s.rfx ∧ (State.modeIn s c m member).drv = s.drv ∧
    (State.modeIn s c m member).ck = s.ck ∧ (State.modeIn s c m member).sv = s.sv ∧ (State.modeIn s c m member).hk = s.hk ∧
    (State.modeIn s c m member).ldg = s.ldg ∧ (State.modeIn s c m member).free = s.free := by
  unfold State.modeIn
  simp -implicitDefEqProofs
@[simp] theorem State.raiseEntry_frame {s : State} {e : OutEntry} :
    (State.raiseEntry s e).pending = s.pending ∧ (State.raiseEntry s e).die = s.die ∧ (State.raiseEntry s e).hid = s.hid ∧
    (State.raiseEntry s e).hub = s.hub ∧ (State.raiseEntry s e).links = s.links ∧ (State.raiseEntry s e).dies = s.dies ∧
    (State.raiseEntry s e).chans = s.chans ∧ (State.raiseEntry s e).chains = s.chains ∧
    (State.raiseEntry s e).coef = s.coef ∧ (State.raiseEntry s e).fold = s.fold ∧ (State.raiseEntry s e).rfx = s.rfx ∧
    (State.raiseEntry s e).drv = s.drv ∧ (State.raiseEntry s e).ck = s.ck ∧ (State.raiseEntry s e).sv = s.sv ∧
    (State.raiseEntry s e).fw = s.fw ∧ (State.raiseEntry s e).hk = s.hk ∧ (State.raiseEntry s e).ldg = s.ldg ∧
    (State.raiseEntry s e).free = s.free := by
  unfold State.raiseEntry
  (repeat' split) <;> simp -implicitDefEqProofs
@[simp] theorem State.updWait_frame {s : State} {i : SlotInfo} {k : EdgeWait → EdgeWait} :
    (State.updWait s i k).pending = s.pending ∧ (State.updWait s i k).regs = s.regs ∧ (State.updWait s i k).die = s.die ∧
    (State.updWait s i k).hid = s.hid ∧ (State.updWait s i k).hub = s.hub ∧ (State.updWait s i k).host = s.host ∧
    (State.updWait s i k).links = s.links ∧ (State.updWait s i k).dies = s.dies ∧ (State.updWait s i k).chains = s.chains ∧
    (State.updWait s i k).coef = s.coef ∧ (State.updWait s i k).fold = s.fold ∧ (State.updWait s i k).rfx = s.rfx ∧
    (State.updWait s i k).drv = s.drv ∧ (State.updWait s i k).ck = s.ck ∧ (State.updWait s i k).sv = s.sv ∧
    (State.updWait s i k).fw = s.fw ∧ (State.updWait s i k).hk = s.hk ∧ (State.updWait s i k).ldg = s.ldg ∧
    (State.updWait s i k).tk = s.tk ∧ (State.updWait s i k).free = s.free := by
  unfold State.updWait
  simp -implicitDefEqProofs
@[simp] theorem State.dacIn_frame {s : State} {c : Ch} {code : Nat} {wid : Nat} :
    (State.dacIn s c code wid).pending = s.pending ∧ (State.dacIn s c code wid).die = s.die ∧
    (State.dacIn s c code wid).hid = s.hid ∧ (State.dacIn s c code wid).hub = s.hub ∧
    (State.dacIn s c code wid).host = s.host ∧ (State.dacIn s c code wid).links = s.links ∧
    (State.dacIn s c code wid).dies = s.dies ∧ (State.dacIn s c code wid).chans = s.chans ∧
    (State.dacIn s c code wid).chains = s.chains ∧ (State.dacIn s c code wid).coef = s.coef ∧
    (State.dacIn s c code wid).fold = s.fold ∧ (State.dacIn s c code wid).rfx = s.rfx ∧
    (State.dacIn s c code wid).drv = s.drv ∧ (State.dacIn s c code wid).ck = s.ck ∧ (State.dacIn s c code wid).sv = s.sv ∧
    (State.dacIn s c code wid).fw = s.fw ∧ (State.dacIn s c code wid).hk = s.hk ∧ (State.dacIn s c code wid).ldg = s.ldg ∧
    (State.dacIn s c code wid).tk = s.tk ∧ (State.dacIn s c code wid).free = s.free := by
  unfold State.dacIn
  simp -implicitDefEqProofs
@[simp] theorem State.eventIn_frame {s : State} {g : Grp} {x : EvData} :
    (State.eventIn s g x).pending = s.pending ∧ (State.eventIn s g x).die = s.die ∧ (State.eventIn s g x).hid = s.hid ∧
    (State.eventIn s g x).hub = s.hub ∧ (State.eventIn s g x).dies = s.dies ∧ (State.eventIn s g x).coef = s.coef ∧
    (State.eventIn s g x).fold = s.fold ∧ (State.eventIn s g x).rfx = s.rfx ∧ (State.eventIn s g x).drv = s.drv ∧
    (State.eventIn s g x).ck = s.ck ∧ (State.eventIn s g x).sv = s.sv ∧ (State.eventIn s g x).free = s.free := by
  unfold State.eventIn
  try dsimp only
  (repeat' split) <;> simp_all -implicitDefEqProofs
@[simp] theorem State.recIn_frame {s : State} {g : Grp} {q : Nat} {r : RecData} :
    (State.recIn s g q r).pending = s.pending ∧ (State.recIn s g q r).die = s.die ∧ (State.recIn s g q r).hid = s.hid ∧
    (State.recIn s g q r).hub = s.hub ∧ (State.recIn s g q r).dies = s.dies ∧ (State.recIn s g q r).coef = s.coef ∧
    (State.recIn s g q r).fold = s.fold ∧ (State.recIn s g q r).rfx = s.rfx ∧ (State.recIn s g q r).drv = s.drv ∧
    (State.recIn s g q r).ck = s.ck ∧ (State.recIn s g q r).sv = s.sv ∧ (State.recIn s g q r).free = s.free := by
  unfold State.recIn
  (repeat' split) <;> simp -implicitDefEqProofs
@[simp] theorem State.sendRec_frame {s : State} {g : Grp} {ok : Bool} {rank : Nat} {l : List RecData} {drop : Die → Die} :
    (State.sendRec s g ok rank l drop).pending = s.pending ∧ (State.sendRec s g ok rank l drop).die = s.die ∧
    (State.sendRec s g ok rank l drop).hid = s.hid ∧ (State.sendRec s g ok rank l drop).hub = s.hub ∧
    (State.sendRec s g ok rank l drop).coef = s.coef ∧ (State.sendRec s g ok rank l drop).fold = s.fold ∧
    (State.sendRec s g ok rank l drop).rfx = s.rfx ∧ (State.sendRec s g ok rank l drop).drv = s.drv ∧
    (State.sendRec s g ok rank l drop).ck = s.ck ∧ (State.sendRec s g ok rank l drop).sv = s.sv ∧
    (State.sendRec s g ok rank l drop).free = s.free := by
  unfold State.sendRec
  (repeat' split) <;> simp -implicitDefEqProofs
@[simp] theorem State.urgCondIn_frame {s : State} {g : Grp} {ok : Bool} :
    (State.urgCondIn s g ok).pending = s.pending ∧ (State.urgCondIn s g ok).die = s.die ∧
    (State.urgCondIn s g ok).hid = s.hid ∧ (State.urgCondIn s g ok).hub = s.hub ∧ (State.urgCondIn s g ok).links = s.links ∧
    (State.urgCondIn s g ok).chains = s.chains ∧ (State.urgCondIn s g ok).coef = s.coef ∧
    (State.urgCondIn s g ok).fold = s.fold ∧ (State.urgCondIn s g ok).drv = s.drv ∧ (State.urgCondIn s g ok).ck = s.ck ∧
    (State.urgCondIn s g ok).sv = s.sv ∧ (State.urgCondIn s g ok).fw = s.fw ∧ (State.urgCondIn s g ok).hk = s.hk ∧
    (State.urgCondIn s g ok).ldg = s.ldg ∧ (State.urgCondIn s g ok).free = s.free := by
  unfold State.urgCondIn State.urgentUp
  try dsimp only
  (repeat' split) <;> simp -implicitDefEqProofs
@[simp] theorem State.unannounced_frame {s : State} {g : Grp} :
    (State.unannounced s g).pending = s.pending ∧ (State.unannounced s g).die = s.die ∧
    (State.unannounced s g).hid = s.hid ∧ (State.unannounced s g).hub = s.hub ∧ (State.unannounced s g).links = s.links ∧
    (State.unannounced s g).dies = s.dies ∧ (State.unannounced s g).chans = s.chans ∧
    (State.unannounced s g).chains = s.chains ∧ (State.unannounced s g).coef = s.coef ∧
    (State.unannounced s g).fold = s.fold ∧ (State.unannounced s g).rfx = s.rfx ∧ (State.unannounced s g).drv = s.drv ∧
    (State.unannounced s g).ck = s.ck ∧ (State.unannounced s g).sv = s.sv ∧ (State.unannounced s g).fw = s.fw ∧
    (State.unannounced s g).hk = s.hk ∧ (State.unannounced s g).free = s.free := by
  unfold State.unannounced
  simp -implicitDefEqProofs
@[simp] theorem State.upLost_frame {s : State} {g : Grp} :
    (State.upLost s g).pending = s.pending ∧ (State.upLost s g).die = s.die ∧ (State.upLost s g).hid = s.hid ∧
    (State.upLost s g).chains = s.chains ∧ (State.upLost s g).coef = s.coef ∧ (State.upLost s g).fold = s.fold ∧
    (State.upLost s g).drv = s.drv ∧ (State.upLost s g).ck = s.ck ∧ (State.upLost s g).sv = s.sv ∧
    (State.upLost s g).free = s.free := by
  unfold State.upLost
  simp -implicitDefEqProofs
@[simp] theorem State.upLock_frame {s : State} {g : Grp} :
    (State.upLock s g).pending = s.pending ∧ (State.upLock s g).die = s.die ∧ (State.upLock s g).hid = s.hid ∧
    (State.upLock s g).coef = s.coef ∧ (State.upLock s g).fold = s.fold ∧ (State.upLock s g).drv = s.drv ∧
    (State.upLock s g).ck = s.ck ∧ (State.upLock s g).sv = s.sv ∧ (State.upLock s g).free = s.free := by
  unfold State.upLock
  simp -implicitDefEqProofs
@[simp] theorem State.bitsIn_frame {s : State} {x : Strm} {bits : BitVec 20} :
    (State.bitsIn s x bits).pending = s.pending ∧ (State.bitsIn s x bits).regs = s.regs ∧
    (State.bitsIn s x bits).die = s.die ∧ (State.bitsIn s x bits).hid = s.hid ∧ (State.bitsIn s x bits).hub = s.hub ∧
    (State.bitsIn s x bits).host = s.host ∧ (State.bitsIn s x bits).links = s.links ∧
    (State.bitsIn s x bits).dies = s.dies ∧ (State.bitsIn s x bits).chans = s.chans ∧
    (State.bitsIn s x bits).coef = s.coef ∧ (State.bitsIn s x bits).fold = s.fold ∧ (State.bitsIn s x bits).rfx = s.rfx ∧
    (State.bitsIn s x bits).drv = s.drv ∧ (State.bitsIn s x bits).ck = s.ck ∧ (State.bitsIn s x bits).sv = s.sv ∧
    (State.bitsIn s x bits).fw = s.fw ∧ (State.bitsIn s x bits).hk = s.hk ∧ (State.bitsIn s x bits).ldg = s.ldg ∧
    (State.bitsIn s x bits).tk = s.tk ∧ (State.bitsIn s x bits).free = s.free := by
  unfold State.bitsIn
  simp -implicitDefEqProofs
@[simp] theorem State.bitsLost_frame {s : State} {x : Strm} :
    (State.bitsLost s x).pending = s.pending ∧ (State.bitsLost s x).regs = s.regs ∧ (State.bitsLost s x).die = s.die ∧
    (State.bitsLost s x).hid = s.hid ∧ (State.bitsLost s x).hub = s.hub ∧ (State.bitsLost s x).host = s.host ∧
    (State.bitsLost s x).links = s.links ∧ (State.bitsLost s x).dies = s.dies ∧ (State.bitsLost s x).chans = s.chans ∧
    (State.bitsLost s x).coef = s.coef ∧ (State.bitsLost s x).fold = s.fold ∧ (State.bitsLost s x).rfx = s.rfx ∧
    (State.bitsLost s x).drv = s.drv ∧ (State.bitsLost s x).ck = s.ck ∧ (State.bitsLost s x).sv = s.sv ∧
    (State.bitsLost s x).fw = s.fw ∧ (State.bitsLost s x).hk = s.hk ∧ (State.bitsLost s x).ldg = s.ldg ∧
    (State.bitsLost s x).tk = s.tk ∧ (State.bitsLost s x).free = s.free := by
  unfold State.bitsLost
  simp -implicitDefEqProofs
@[simp] theorem State.laneIn_frame {s : State} {g : Grp} :
    (State.laneIn s g).pending = s.pending ∧ (State.laneIn s g).regs = s.regs ∧ (State.laneIn s g).die = s.die ∧
    (State.laneIn s g).hid = s.hid ∧ (State.laneIn s g).hub = s.hub ∧ (State.laneIn s g).host = s.host ∧
    (State.laneIn s g).links = s.links ∧ (State.laneIn s g).chans = s.chans ∧ (State.laneIn s g).chains = s.chains ∧
    (State.laneIn s g).coef = s.coef ∧ (State.laneIn s g).fold = s.fold ∧ (State.laneIn s g).rfx = s.rfx ∧
    (State.laneIn s g).drv = s.drv ∧ (State.laneIn s g).ck = s.ck ∧ (State.laneIn s g).sv = s.sv ∧
    (State.laneIn s g).fw = s.fw ∧ (State.laneIn s g).hk = s.hk ∧ (State.laneIn s g).ldg = s.ldg ∧
    (State.laneIn s g).tk = s.tk ∧ (State.laneIn s g).free = s.free := by
  unfold State.laneIn
  simp -implicitDefEqProofs
@[simp] theorem State.upFrame_frame {s0 : State} {g : Grp} {bits : List (BitVec 20)} {lane : List Byte} {check : Option (BitVec 16)} :
    (State.upFrame s0 g bits lane check).pending = s0.pending ∧ (State.upFrame s0 g bits lane check).die = s0.die ∧
    (State.upFrame s0 g bits lane check).hid = s0.hid ∧ (State.upFrame s0 g bits lane check).coef = s0.coef ∧
    (State.upFrame s0 g bits lane check).fold = s0.fold ∧ (State.upFrame s0 g bits lane check).drv = s0.drv ∧
    (State.upFrame s0 g bits lane check).ck = s0.ck ∧ (State.upFrame s0 g bits lane check).sv = s0.sv ∧
    (State.upFrame s0 g bits lane check).free = s0.free := by
  unfold State.upFrame
  simp -implicitDefEqProofs
@[simp] theorem State.linkstat_frame {s0 : State} {g : Grp} {ok : Bool} :
    (State.linkstat s0 g ok).pending = s0.pending ∧ (State.linkstat s0 g ok).die = s0.die ∧
    (State.linkstat s0 g ok).hid = s0.hid ∧ (State.linkstat s0 g ok).chains = s0.chains ∧
    (State.linkstat s0 g ok).coef = s0.coef ∧ (State.linkstat s0 g ok).fold = s0.fold ∧
    (State.linkstat s0 g ok).drv = s0.drv ∧ (State.linkstat s0 g ok).ck = s0.ck ∧ (State.linkstat s0 g ok).sv = s0.sv ∧
    (State.linkstat s0 g ok).free = s0.free := by
  unfold State.linkstat
  simp -implicitDefEqProofs
@[simp] theorem State.drefClear_frame {s : State} {c : Ch} :
    (State.drefClear s c).pending = s.pending ∧ (State.drefClear s c).die = s.die ∧ (State.drefClear s c).hid = s.hid ∧
    (State.drefClear s c).hub = s.hub ∧ (State.drefClear s c).host = s.host ∧ (State.drefClear s c).links = s.links ∧
    (State.drefClear s c).dies = s.dies ∧ (State.drefClear s c).chains = s.chains ∧ (State.drefClear s c).coef = s.coef ∧
    (State.drefClear s c).fold = s.fold ∧ (State.drefClear s c).rfx = s.rfx ∧ (State.drefClear s c).drv = s.drv ∧
    (State.drefClear s c).ck = s.ck ∧ (State.drefClear s c).sv = s.sv ∧ (State.drefClear s c).fw = s.fw ∧
    (State.drefClear s c).hk = s.hk ∧ (State.drefClear s c).ldg = s.ldg ∧ (State.drefClear s c).tk = s.tk ∧
    (State.drefClear s c).free = s.free := by
  unfold State.drefClear
  simp -implicitDefEqProofs
@[simp] theorem State.attach_frame {s : State} {g : Grp} {full : Bool} :
    (State.attach s g full).pending = s.pending ∧ (State.attach s g full).die = s.die ∧
    (State.attach s g full).hid = s.hid ∧ (State.attach s g full).coef = s.coef ∧ (State.attach s g full).fold = s.fold ∧
    (State.attach s g full).drv = s.drv ∧ (State.attach s g full).ck = s.ck ∧ (State.attach s g full).sv = s.sv ∧
    (State.attach s g full).free = s.free := by
  unfold State.attach
  simp -implicitDefEqProofs
@[simp] theorem State.identIn_frame {s : State} {g : Grp} {id : List Byte} :
    (State.identIn s g id).pending = s.pending ∧ (State.identIn s g id).die = s.die ∧ (State.identIn s g id).hid = s.hid ∧
    (State.identIn s g id).coef = s.coef ∧ (State.identIn s g id).fold = s.fold ∧ (State.identIn s g id).drv = s.drv ∧
    (State.identIn s g id).ck = s.ck ∧ (State.identIn s g id).sv = s.sv ∧ (State.identIn s g id).free = s.free := by
  unfold State.identIn
  simp -implicitDefEqProofs
@[simp] theorem State.grpCtrl_frame {s : State} {g : Grp} {v : Nat} :
    (State.grpCtrl s g v).pending = s.pending ∧ (State.grpCtrl s g v).die = s.die ∧ (State.grpCtrl s g v).hid = s.hid ∧
    (State.grpCtrl s g v).chains = s.chains ∧ (State.grpCtrl s g v).coef = s.coef ∧ (State.grpCtrl s g v).fold = s.fold ∧
    (State.grpCtrl s g v).drv = s.drv ∧ (State.grpCtrl s g v).ck = s.ck ∧ (State.grpCtrl s g v).sv = s.sv ∧
    (State.grpCtrl s g v).free = s.free := by
  unfold State.grpCtrl
  simp -implicitDefEqProofs
@[simp] theorem State.feed_frame {s : State} {g : Grp} {sv : Bool} {key : Nat} :
    (State.feed s g sv key).pending = s.pending ∧ (State.feed s g sv key).regs = s.regs ∧
    (State.feed s g sv key).die = s.die ∧ (State.feed s g sv key).hid = s.hid ∧ (State.feed s g sv key).hub = s.hub ∧
    (State.feed s g sv key).host = s.host ∧ (State.feed s g sv key).dies = s.dies ∧
    (State.feed s g sv key).chans = s.chans ∧ (State.feed s g sv key).chains = s.chains ∧
    (State.feed s g sv key).coef = s.coef ∧ (State.feed s g sv key).fold = s.fold ∧ (State.feed s g sv key).rfx = s.rfx ∧
    (State.feed s g sv key).drv = s.drv ∧ (State.feed s g sv key).ck = s.ck ∧ (State.feed s g sv key).sv = s.sv ∧
    (State.feed s g sv key).fw = s.fw ∧ (State.feed s g sv key).hk = s.hk ∧ (State.feed s g sv key).ldg = s.ldg ∧
    (State.feed s g sv key).tk = s.tk ∧ (State.feed s g sv key).free = s.free := by
  unfold State.feed
  simp -implicitDefEqProofs

end Sys2Proof.Machine
end

