-- ==== Sys2Proof/Laws/Frame5.lean ====
section
/-! SUPPORT. What the rings, the controller, the resets and the arbiter leave unchanged: one lemma for each operation. -/

set_option Elab.async false

namespace Sys2Proof.Machine

@[simp] theorem State.passEntry_frame {s : State} {r : RingNo} {e : Entry} :
    (State.passEntry s r e).pending = s.pending ∧ (State.passEntry s r e).die = s.die ∧
    (State.passEntry s r e).hid = s.hid ∧ (State.passEntry s r e).hub = s.hub ∧ (State.passEntry s r e).links = s.links ∧
    (State.passEntry s r e).dies = s.dies ∧ (State.passEntry s r e).chans = s.chans ∧
    (State.passEntry s r e).chains = s.chains ∧ (State.passEntry s r e).coef = s.coef ∧
    (State.passEntry s r e).fold = s.fold ∧ (State.passEntry s r e).rfx = s.rfx ∧ (State.passEntry s r e).drv = s.drv ∧
    (State.passEntry s r e).ck = s.ck ∧ (State.passEntry s r e).sv = s.sv ∧ (State.passEntry s r e).hk = s.hk ∧
    (State.passEntry s r e).ldg = s.ldg ∧ (State.passEntry s r e).tk = s.tk ∧ (State.passEntry s r e).free = s.free := by
  unfold State.passEntry
  simp -implicitDefEqProofs
@[simp] theorem State.testEntry_frame {s : State} {r : RingNo} {e : Entry} :
    (State.testEntry s r e).pending = s.pending ∧ (State.testEntry s r e).die = s.die ∧
    (State.testEntry s r e).hid = s.hid ∧ (State.testEntry s r e).hub = s.hub ∧ (State.testEntry s r e).links = s.links ∧
    (State.testEntry s r e).dies = s.dies ∧ (State.testEntry s r e).chans = s.chans ∧
    (State.testEntry s r e).chains = s.chains ∧ (State.testEntry s r e).coef = s.coef ∧
    (State.testEntry s r e).fold = s.fold ∧ (State.testEntry s r e).rfx = s.rfx ∧ (State.testEntry s r e).drv = s.drv ∧
    (State.testEntry s r e).ck = s.ck ∧ (State.testEntry s r e).sv = s.sv ∧ (State.testEntry s r e).hk = s.hk ∧
    (State.testEntry s r e).ldg = s.ldg ∧ (State.testEntry s r e).free = s.free := by
  unfold State.testEntry
  simp -implicitDefEqProofs
@[simp] theorem State.fetchFailed_frame {s : State} {r : RingNo} :
    (State.fetchFailed s r).pending = s.pending ∧ (State.fetchFailed s r).die = s.die ∧
    (State.fetchFailed s r).hid = s.hid ∧ (State.fetchFailed s r).hub = s.hub ∧ (State.fetchFailed s r).links = s.links ∧
    (State.fetchFailed s r).dies = s.dies ∧ (State.fetchFailed s r).chans = s.chans ∧
    (State.fetchFailed s r).chains = s.chains ∧ (State.fetchFailed s r).coef = s.coef ∧
    (State.fetchFailed s r).fold = s.fold ∧ (State.fetchFailed s r).rfx = s.rfx ∧ (State.fetchFailed s r).drv = s.drv ∧
    (State.fetchFailed s r).ck = s.ck ∧ (State.fetchFailed s r).sv = s.sv ∧ (State.fetchFailed s r).fw = s.fw ∧
    (State.fetchFailed s r).hk = s.hk ∧ (State.fetchFailed s r).ldg = s.ldg ∧ (State.fetchFailed s r).free = s.free := by
  unfold State.fetchFailed
  simp -implicitDefEqProofs
@[simp] theorem State.badDoorbell_frame {s : State} {r : RingNo} {why : Nat} {v : Nat} :
    (State.badDoorbell s r why v).pending = s.pending ∧ (State.badDoorbell s r why v).die = s.die ∧
    (State.badDoorbell s r why v).hid = s.hid ∧ (State.badDoorbell s r why v).hub = s.hub ∧
    (State.badDoorbell s r why v).links = s.links ∧ (State.badDoorbell s r why v).dies = s.dies ∧
    (State.badDoorbell s r why v).chans = s.chans ∧ (State.badDoorbell s r why v).chains = s.chains ∧
    (State.badDoorbell s r why v).coef = s.coef ∧ (State.badDoorbell s r why v).fold = s.fold ∧
    (State.badDoorbell s r why v).rfx = s.rfx ∧ (State.badDoorbell s r why v).drv = s.drv ∧
    (State.badDoorbell s r why v).ck = s.ck ∧ (State.badDoorbell s r why v).sv = s.sv ∧
    (State.badDoorbell s r why v).fw = s.fw ∧ (State.badDoorbell s r why v).hk = s.hk ∧
    (State.badDoorbell s r why v).ldg = s.ldg ∧ (State.badDoorbell s r why v).free = s.free := by
  unfold State.badDoorbell
  simp -implicitDefEqProofs
@[simp] theorem State.ringDoorbell_frame {s : State} {r : RingNo} {v : Nat} :
    (State.ringDoorbell s r v).pending = s.pending ∧ (State.ringDoorbell s r v).die = s.die ∧
    (State.ringDoorbell s r v).hid = s.hid ∧ (State.ringDoorbell s r v).hub = s.hub ∧
    (State.ringDoorbell s r v).dies = s.dies ∧ (State.ringDoorbell s r v).chains = s.chains ∧
    (State.ringDoorbell s r v).coef = s.coef ∧ (State.ringDoorbell s r v).rfx = s.rfx ∧
    (State.ringDoorbell s r v).drv = s.drv ∧ (State.ringDoorbell s r v).ck = s.ck ∧ (State.ringDoorbell s r v).sv = s.sv ∧
    (State.ringDoorbell s r v).fw = s.fw ∧ (State.ringDoorbell s r v).hk = s.hk ∧ (State.ringDoorbell s r v).ldg = s.ldg := by
  unfold State.ringDoorbell
  simp -implicitDefEqProofs
@[simp] theorem State.pageDoorbell_frame {s : State} {p : Nat} {v : Nat} :
    (State.pageDoorbell s p v).pending = s.pending ∧ (State.pageDoorbell s p v).die = s.die ∧
    (State.pageDoorbell s p v).hid = s.hid ∧ (State.pageDoorbell s p v).hub = s.hub ∧
    (State.pageDoorbell s p v).dies = s.dies ∧ (State.pageDoorbell s p v).chains = s.chains ∧
    (State.pageDoorbell s p v).coef = s.coef ∧ (State.pageDoorbell s p v).rfx = s.rfx ∧
    (State.pageDoorbell s p v).ck = s.ck ∧ (State.pageDoorbell s p v).sv = s.sv ∧ (State.pageDoorbell s p v).fw = s.fw ∧
    (State.pageDoorbell s p v).hk = s.hk ∧ (State.pageDoorbell s p v).ldg = s.ldg := by
  unfold State.pageDoorbell
  (repeat' split) <;> simp -implicitDefEqProofs
@[simp] theorem State.doorbellWrite_frame {s : State} {off : Nat} {data : List Byte} :
    (State.doorbellWrite s off data).pending = s.pending ∧ (State.doorbellWrite s off data).die = s.die ∧
    (State.doorbellWrite s off data).hid = s.hid ∧ (State.doorbellWrite s off data).hub = s.hub ∧
    (State.doorbellWrite s off data).dies = s.dies ∧ (State.doorbellWrite s off data).chains = s.chains ∧
    (State.doorbellWrite s off data).coef = s.coef ∧ (State.doorbellWrite s off data).rfx = s.rfx ∧
    (State.doorbellWrite s off data).ck = s.ck ∧ (State.doorbellWrite s off data).sv = s.sv ∧
    (State.doorbellWrite s off data).fw = s.fw ∧ (State.doorbellWrite s off data).hk = s.hk ∧
    (State.doorbellWrite s off data).ldg = s.ldg := by
  unfold State.doorbellWrite
  simp -implicitDefEqProofs
@[simp] theorem State.writeRecord_frame {s : State} {r : RingNo} :
    (State.writeRecord s r).pending = s.pending ∧ (State.writeRecord s r).regs = s.regs ∧
    (State.writeRecord s r).die = s.die ∧ (State.writeRecord s r).hid = s.hid ∧ (State.writeRecord s r).hub = s.hub ∧
    (State.writeRecord s r).links = s.links ∧ (State.writeRecord s r).dies = s.dies ∧
    (State.writeRecord s r).chans = s.chans ∧ (State.writeRecord s r).chains = s.chains ∧
    (State.writeRecord s r).coef = s.coef ∧ (State.writeRecord s r).fold = s.fold ∧ (State.writeRecord s r).rfx = s.rfx ∧
    (State.writeRecord s r).drv = s.drv ∧ (State.writeRecord s r).ck = s.ck ∧ (State.writeRecord s r).sv = s.sv ∧
    (State.writeRecord s r).fw = s.fw ∧ (State.writeRecord s r).hk = s.hk ∧ (State.writeRecord s r).ldg = s.ldg ∧
    (State.writeRecord s r).tk = s.tk ∧ (State.writeRecord s r).free = s.free := by
  unfold State.writeRecord
  simp -implicitDefEqProofs
@[simp] theorem State.tookOut_frame {s : State} {r : RingNo} :
    (State.tookOut s r).pending = s.pending ∧ (State.tookOut s r).die = s.die ∧ (State.tookOut s r).hid = s.hid ∧
    (State.tookOut s r).hub = s.hub ∧ (State.tookOut s r).links = s.links ∧ (State.tookOut s r).dies = s.dies ∧
    (State.tookOut s r).chans = s.chans ∧ (State.tookOut s r).chains = s.chains ∧ (State.tookOut s r).coef = s.coef ∧
    (State.tookOut s r).fold = s.fold ∧ (State.tookOut s r).rfx = s.rfx ∧ (State.tookOut s r).drv = s.drv ∧
    (State.tookOut s r).ck = s.ck ∧ (State.tookOut s r).sv = s.sv ∧ (State.tookOut s r).fw = s.fw ∧
    (State.tookOut s r).hk = s.hk ∧ (State.tookOut s r).ldg = s.ldg ∧ (State.tookOut s r).tk = s.tk ∧
    (State.tookOut s r).free = s.free := by
  unfold State.tookOut
  simp -implicitDefEqProofs
@[simp] theorem State.writeEntry_frame {s : State} {r : RingNo} {e : OutEntry} :
    (State.writeEntry s r e).pending = s.pending ∧ (State.writeEntry s r e).die = s.die ∧
    (State.writeEntry s r e).hid = s.hid ∧ (State.writeEntry s r e).hub = s.hub ∧ (State.writeEntry s r e).dies = s.dies ∧
    (State.writeEntry s r e).chains = s.chains ∧ (State.writeEntry s r e).coef = s.coef ∧
    (State.writeEntry s r e).fold = s.fold ∧ (State.writeEntry s r e).rfx = s.rfx ∧ (State.writeEntry s r e).drv = s.drv ∧
    (State.writeEntry s r e).ck = s.ck ∧ (State.writeEntry s r e).sv = s.sv ∧ (State.writeEntry s r e).fw = s.fw ∧
    (State.writeEntry s r e).hk = s.hk ∧ (State.writeEntry s r e).ldg = s.ldg := by
  unfold State.writeEntry
  simp -implicitDefEqProofs
@[simp] theorem State.ringMessage_frame {s : State} {r : RingNo} :
    (State.ringMessage s r).pending = s.pending ∧ (State.ringMessage s r).die = s.die ∧
    (State.ringMessage s r).hid = s.hid ∧ (State.ringMessage s r).hub = s.hub ∧ (State.ringMessage s r).links = s.links ∧
    (State.ringMessage s r).dies = s.dies ∧ (State.ringMessage s r).chans = s.chans ∧
    (State.ringMessage s r).chains = s.chains ∧ (State.ringMessage s r).coef = s.coef ∧
    (State.ringMessage s r).fold = s.fold ∧ (State.ringMessage s r).rfx = s.rfx ∧ (State.ringMessage s r).drv = s.drv ∧
    (State.ringMessage s r).ck = s.ck ∧ (State.ringMessage s r).sv = s.sv ∧ (State.ringMessage s r).fw = s.fw ∧
    (State.ringMessage s r).hk = s.hk ∧ (State.ringMessage s r).ldg = s.ldg ∧ (State.ringMessage s r).free = s.free := by
  unfold State.ringMessage
  simp -implicitDefEqProofs
@[simp] theorem State.ringUp_frame {s : State} {r : RingNo} :
    (State.ringUp s r).pending = s.pending ∧ (State.ringUp s r).die = s.die ∧ (State.ringUp s r).hid = s.hid ∧
    (State.ringUp s r).hub = s.hub ∧ (State.ringUp s r).dies = s.dies ∧ (State.ringUp s r).chains = s.chains ∧
    (State.ringUp s r).coef = s.coef ∧ (State.ringUp s r).fold = s.fold ∧ (State.ringUp s r).rfx = s.rfx ∧
    (State.ringUp s r).drv = s.drv ∧ (State.ringUp s r).ck = s.ck ∧ (State.ringUp s r).sv = s.sv ∧
    (State.ringUp s r).fw = s.fw ∧ (State.ringUp s r).hk = s.hk ∧ (State.ringUp s r).ldg = s.ldg := by
  unfold State.ringUp
  simp -implicitDefEqProofs
@[simp] theorem State.ringDown_frame {s : State} {r : RingNo} :
    (State.ringDown s r).pending = s.pending ∧ (State.ringDown s r).die = s.die ∧ (State.ringDown s r).hid = s.hid ∧
    (State.ringDown s r).hub = s.hub ∧ (State.ringDown s r).links = s.links ∧ (State.ringDown s r).dies = s.dies ∧
    (State.ringDown s r).chans = s.chans ∧ (State.ringDown s r).chains = s.chains ∧ (State.ringDown s r).coef = s.coef ∧
    (State.ringDown s r).fold = s.fold ∧ (State.ringDown s r).rfx = s.rfx ∧ (State.ringDown s r).drv = s.drv ∧
    (State.ringDown s r).ck = s.ck ∧ (State.ringDown s r).sv = s.sv ∧ (State.ringDown s r).fw = s.fw ∧
    (State.ringDown s r).hk = s.hk ∧ (State.ringDown s r).ldg = s.ldg ∧ (State.ringDown s r).free = s.free := by
  unfold State.ringDown
  simp -implicitDefEqProofs
@[simp] theorem State.ringResume_frame {s : State} {r : RingNo} :
    (State.ringResume s r).pending = s.pending ∧ (State.ringResume s r).die = s.die ∧ (State.ringResume s r).hid = s.hid ∧
    (State.ringResume s r).hub = s.hub ∧ (State.ringResume s r).links = s.links ∧ (State.ringResume s r).dies = s.dies ∧
    (State.ringResume s r).chans = s.chans ∧ (State.ringResume s r).chains = s.chains ∧
    (State.ringResume s r).coef = s.coef ∧ (State.ringResume s r).fold = s.fold ∧ (State.ringResume s r).rfx = s.rfx ∧
    (State.ringResume s r).drv = s.drv ∧ (State.ringResume s r).ck = s.ck ∧ (State.ringResume s r).sv = s.sv ∧
    (State.ringResume s r).fw = s.fw ∧ (State.ringResume s r).hk = s.hk ∧ (State.ringResume s r).ldg = s.ldg ∧
    (State.ringResume s r).tk = s.tk ∧ (State.ringResume s r).free = s.free := by
  unfold State.ringResume
  simp -implicitDefEqProofs
@[simp] theorem State.ramWrite_frame {s : State} {a : Nat} {v : Nat} :
    (State.ramWrite s a v).2.pending = s.pending ∧ (State.ramWrite s a v).2.die = s.die ∧
    (State.ramWrite s a v).2.hid = s.hid ∧ (State.ramWrite s a v).2.hub = s.hub ∧ (State.ramWrite s a v).2.host = s.host ∧
    (State.ramWrite s a v).2.links = s.links ∧ (State.ramWrite s a v).2.dies = s.dies ∧
    (State.ramWrite s a v).2.chans = s.chans ∧ (State.ramWrite s a v).2.chains = s.chains ∧
    (State.ramWrite s a v).2.coef = s.coef ∧ (State.ramWrite s a v).2.fold = s.fold ∧ (State.ramWrite s a v).2.rfx = s.rfx ∧
    (State.ramWrite s a v).2.drv = s.drv ∧ (State.ramWrite s a v).2.ck = s.ck ∧ (State.ramWrite s a v).2.sv = s.sv ∧
    (State.ramWrite s a v).2.hk = s.hk ∧ (State.ramWrite s a v).2.ldg = s.ldg ∧ (State.ramWrite s a v).2.tk = s.tk ∧
    (State.ramWrite s a v).2.free = s.free := by
  unfold State.ramWrite
  simp -implicitDefEqProofs
@[simp] theorem State.ramStep_frame {s : State} :
    (State.ramStep s).pending = s.pending ∧ (State.ramStep s).die = s.die ∧ (State.ramStep s).hid = s.hid ∧
    (State.ramStep s).hub = s.hub ∧ (State.ramStep s).host = s.host ∧ (State.ramStep s).links = s.links ∧
    (State.ramStep s).dies = s.dies ∧ (State.ramStep s).chans = s.chans ∧ (State.ramStep s).chains = s.chains ∧
    (State.ramStep s).coef = s.coef ∧ (State.ramStep s).fold = s.fold ∧ (State.ramStep s).rfx = s.rfx ∧
    (State.ramStep s).drv = s.drv ∧ (State.ramStep s).ck = s.ck ∧ (State.ramStep s).sv = s.sv ∧
    (State.ramStep s).fw = s.fw ∧ (State.ramStep s).hk = s.hk ∧ (State.ramStep s).ldg = s.ldg ∧
    (State.ramStep s).tk = s.tk ∧ (State.ramStep s).free = s.free := by
  unfold State.ramStep
  simp -implicitDefEqProofs
@[simp] theorem State.verifyEnd_frame {s : State} {code : Nat} :
    (State.verifyEnd s code).pending = s.pending ∧ (State.verifyEnd s code).die = s.die ∧
    (State.verifyEnd s code).hid = s.hid ∧ (State.verifyEnd s code).hub = s.hub ∧ (State.verifyEnd s code).links = s.links ∧
    (State.verifyEnd s code).dies = s.dies ∧ (State.verifyEnd s code).chans = s.chans ∧
    (State.verifyEnd s code).chains = s.chains ∧ (State.verifyEnd s code).coef = s.coef ∧
    (State.verifyEnd s code).fold = s.fold ∧ (State.verifyEnd s code).rfx = s.rfx ∧ (State.verifyEnd s code).drv = s.drv ∧
    (State.verifyEnd s code).ck = s.ck ∧ (State.verifyEnd s code).sv = s.sv ∧ (State.verifyEnd s code).fw = s.fw ∧
    (State.verifyEnd s code).hk = s.hk ∧ (State.verifyEnd s code).ldg = s.ldg ∧ (State.verifyEnd s code).free = s.free := by
  unfold State.verifyEnd
  simp -implicitDefEqProofs
@[simp] theorem State.fwTo_frame {s : State} {st : Nat} :
    (State.fwTo s st).pending = s.pending ∧ (State.fwTo s st).die = s.die ∧ (State.fwTo s st).hid = s.hid ∧
    (State.fwTo s st).hub = s.hub ∧ (State.fwTo s st).links = s.links ∧ (State.fwTo s st).dies = s.dies ∧
    (State.fwTo s st).chans = s.chans ∧ (State.fwTo s st).chains = s.chains ∧ (State.fwTo s st).coef = s.coef ∧
    (State.fwTo s st).fold = s.fold ∧ (State.fwTo s st).rfx = s.rfx ∧ (State.fwTo s st).drv = s.drv ∧
    (State.fwTo s st).ck = s.ck ∧ (State.fwTo s st).sv = s.sv ∧ (State.fwTo s st).fw = s.fw ∧ (State.fwTo s st).hk = s.hk ∧
    (State.fwTo s st).free = s.free := by
  unfold State.fwTo
  simp -implicitDefEqProofs
@[simp] theorem State.fwStart_frame {s : State} {slot : Nat} {src : Nat} :
    (State.fwStart s slot src).pending = s.pending ∧ (State.fwStart s slot src).die = s.die ∧
    (State.fwStart s slot src).hid = s.hid ∧ (State.fwStart s slot src).hub = s.hub ∧
    (State.fwStart s slot src).links = s.links ∧ (State.fwStart s slot src).dies = s.dies ∧
    (State.fwStart s slot src).chans = s.chans ∧ (State.fwStart s slot src).chains = s.chains ∧
    (State.fwStart s slot src).coef = s.coef ∧ (State.fwStart s slot src).fold = s.fold ∧
    (State.fwStart s slot src).rfx = s.rfx ∧ (State.fwStart s slot src).drv = s.drv ∧ (State.fwStart s slot src).ck = s.ck ∧
    (State.fwStart s slot src).sv = s.sv ∧ (State.fwStart s slot src).hk = s.hk ∧ (State.fwStart s slot src).free = s.free := by
  unfold State.fwStart
  simp -implicitDefEqProofs
@[simp] theorem State.tryCopy_frame {s : State} {slot : Nat} {src : Nat} {copy : List Byte} :
    (State.tryCopy s slot src copy).2.pending = s.pending ∧ (State.tryCopy s slot src copy).2.die = s.die ∧
    (State.tryCopy s slot src copy).2.hid = s.hid ∧ (State.tryCopy s slot src copy).2.hub = s.hub ∧
    (State.tryCopy s slot src copy).2.links = s.links ∧ (State.tryCopy s slot src copy).2.dies = s.dies ∧
    (State.tryCopy s slot src copy).2.chans = s.chans ∧ (State.tryCopy s slot src copy).2.chains = s.chains ∧
    (State.tryCopy s slot src copy).2.coef = s.coef ∧ (State.tryCopy s slot src copy).2.fold = s.fold ∧
    (State.tryCopy s slot src copy).2.rfx = s.rfx ∧ (State.tryCopy s slot src copy).2.drv = s.drv ∧
    (State.tryCopy s slot src copy).2.ck = s.ck ∧ (State.tryCopy s slot src copy).2.sv = s.sv ∧
    (State.tryCopy s slot src copy).2.hk = s.hk ∧ (State.tryCopy s slot src copy).2.free = s.free := by
  unfold State.tryCopy
  simp -implicitDefEqProofs
@[simp] theorem State.bootFrom_frame {s : State} {slot : Nat} {flash : Bool} {copy0 : List Byte} {copy1 : List Byte} :
    (State.bootFrom s slot flash copy0 copy1).2.pending = s.pending ∧
    (State.bootFrom s slot flash copy0 copy1).2.die = s.die ∧ (State.bootFrom s slot flash copy0 copy1).2.hid = s.hid ∧
    (State.bootFrom s slot flash copy0 copy1).2.hub = s.hub ∧ (State.bootFrom s slot flash copy0 copy1).2.links = s.links ∧
    (State.bootFrom s slot flash copy0 copy1).2.dies = s.dies ∧
    (State.bootFrom s slot flash copy0 copy1).2.chans = s.chans ∧
    (State.bootFrom s slot flash copy0 copy1).2.chains = s.chains ∧
    (State.bootFrom s slot flash copy0 copy1).2.coef = s.coef ∧ (State.bootFrom s slot flash copy0 copy1).2.fold = s.fold ∧
    (State.bootFrom s slot flash copy0 copy1).2.rfx = s.rfx ∧ (State.bootFrom s slot flash copy0 copy1).2.drv = s.drv ∧
    (State.bootFrom s slot flash copy0 copy1).2.ck = s.ck ∧ (State.bootFrom s slot flash copy0 copy1).2.sv = s.sv ∧
    (State.bootFrom s slot flash copy0 copy1).2.hk = s.hk ∧ (State.bootFrom s slot flash copy0 copy1).2.free = s.free := by
  unfold State.bootFrom
  simp -implicitDefEqProofs
@[simp] theorem State.restarted_frame {s : State} {counted : Bool} :
    (State.restarted s counted).pending = s.pending ∧ (State.restarted s counted).die = s.die ∧
    (State.restarted s counted).hid = s.hid ∧ (State.restarted s counted).hub = s.hub ∧
    (State.restarted s counted).links = s.links ∧ (State.restarted s counted).dies = s.dies ∧
    (State.restarted s counted).chans = s.chans ∧ (State.restarted s counted).chains = s.chains ∧
    (State.restarted s counted).coef = s.coef ∧ (State.restarted s counted).fold = s.fold ∧
    (State.restarted s counted).rfx = s.rfx ∧ (State.restarted s counted).drv = s.drv ∧
    (State.restarted s counted).ck = s.ck ∧ (State.restarted s counted).sv = s.sv ∧ (State.restarted s counted).fw = s.fw ∧
    (State.restarted s counted).hk = s.hk ∧ (State.restarted s counted).ldg = s.ldg ∧
    (State.restarted s counted).free = s.free := by
  unfold State.restarted
  simp -implicitDefEqProofs
@[simp] theorem State.boot_frame {s : State} {flash : Bool} {copy0 : List Byte} {copy1 : List Byte} :
    (State.boot s flash copy0 copy1).pending = s.pending ∧ (State.boot s flash copy0 copy1).die = s.die ∧
    (State.boot s flash copy0 copy1).hid = s.hid ∧ (State.boot s flash copy0 copy1).hub = s.hub ∧
    (State.boot s flash copy0 copy1).links = s.links ∧ (State.boot s flash copy0 copy1).dies = s.dies ∧
    (State.boot s flash copy0 copy1).chans = s.chans ∧ (State.boot s flash copy0 copy1).chains = s.chains ∧
    (State.boot s flash copy0 copy1).coef = s.coef ∧ (State.boot s flash copy0 copy1).fold = s.fold ∧
    (State.boot s flash copy0 copy1).rfx = s.rfx ∧ (State.boot s flash copy0 copy1).drv = s.drv ∧
    (State.boot s flash copy0 copy1).ck = s.ck ∧ (State.boot s flash copy0 copy1).sv = s.sv ∧
    (State.boot s flash copy0 copy1).hk = s.hk ∧ (State.boot s flash copy0 copy1).free = s.free := by
  unfold State.boot
  (repeat' split) <;> simp -implicitDefEqProofs
@[simp] theorem State.fwVerify_frame {s : State} :
    (State.fwVerify s).pending = s.pending ∧ (State.fwVerify s).die = s.die ∧ (State.fwVerify s).hid = s.hid ∧
    (State.fwVerify s).hub = s.hub ∧ (State.fwVerify s).links = s.links ∧ (State.fwVerify s).dies = s.dies ∧
    (State.fwVerify s).chans = s.chans ∧ (State.fwVerify s).chains = s.chains ∧ (State.fwVerify s).coef = s.coef ∧
    (State.fwVerify s).fold = s.fold ∧ (State.fwVerify s).rfx = s.rfx ∧ (State.fwVerify s).drv = s.drv ∧
    (State.fwVerify s).ck = s.ck ∧ (State.fwVerify s).sv = s.sv ∧ (State.fwVerify s).hk = s.hk ∧
    (State.fwVerify s).free = s.free := by
  unfold State.fwVerify
  simp -implicitDefEqProofs
@[simp] theorem State.fwAgain_frame {s : State} {counted : Bool} :
    (State.fwAgain s counted).pending = s.pending ∧ (State.fwAgain s counted).die = s.die ∧
    (State.fwAgain s counted).hid = s.hid ∧ (State.fwAgain s counted).hub = s.hub ∧
    (State.fwAgain s counted).links = s.links ∧ (State.fwAgain s counted).dies = s.dies ∧
    (State.fwAgain s counted).chans = s.chans ∧ (State.fwAgain s counted).chains = s.chains ∧
    (State.fwAgain s counted).coef = s.coef ∧ (State.fwAgain s counted).fold = s.fold ∧
    (State.fwAgain s counted).rfx = s.rfx ∧ (State.fwAgain s counted).drv = s.drv ∧ (State.fwAgain s counted).ck = s.ck ∧
    (State.fwAgain s counted).sv = s.sv ∧ (State.fwAgain s counted).hk = s.hk ∧ (State.fwAgain s counted).free = s.free := by
  unfold State.fwAgain
  simp -implicitDefEqProofs
@[simp] theorem State.verifyDone_frame {s : State} :
    (State.verifyDone s).pending = s.pending ∧ (State.verifyDone s).die = s.die ∧ (State.verifyDone s).hid = s.hid ∧
    (State.verifyDone s).hub = s.hub ∧ (State.verifyDone s).links = s.links ∧ (State.verifyDone s).dies = s.dies ∧
    (State.verifyDone s).chans = s.chans ∧ (State.verifyDone s).chains = s.chains ∧ (State.verifyDone s).coef = s.coef ∧
    (State.verifyDone s).fold = s.fold ∧ (State.verifyDone s).rfx = s.rfx ∧ (State.verifyDone s).drv = s.drv ∧
    (State.verifyDone s).ck = s.ck ∧ (State.verifyDone s).sv = s.sv ∧ (State.verifyDone s).hk = s.hk ∧
    (State.verifyDone s).free = s.free := by
  unfold State.verifyDone
  (repeat' split) <;> simp -implicitDefEqProofs
@[simp] theorem State.fwActivate_frame {s : State} :
    (State.fwActivate s).pending = s.pending ∧ (State.fwActivate s).die = s.die ∧ (State.fwActivate s).hid = s.hid ∧
    (State.fwActivate s).hub = s.hub ∧ (State.fwActivate s).links = s.links ∧ (State.fwActivate s).dies = s.dies ∧
    (State.fwActivate s).chans = s.chans ∧ (State.fwActivate s).chains = s.chains ∧ (State.fwActivate s).coef = s.coef ∧
    (State.fwActivate s).fold = s.fold ∧ (State.fwActivate s).rfx = s.rfx ∧ (State.fwActivate s).drv = s.drv ∧
    (State.fwActivate s).ck = s.ck ∧ (State.fwActivate s).sv = s.sv ∧ (State.fwActivate s).hk = s.hk ∧
    (State.fwActivate s).free = s.free := by
  unfold State.fwActivate
  simp -implicitDefEqProofs
@[simp] theorem State.handoverRecord_frame {s : State} :
    (State.handoverRecord s).pending = s.pending ∧ (State.handoverRecord s).regs = s.regs ∧
    (State.handoverRecord s).die = s.die ∧ (State.handoverRecord s).hid = s.hid ∧ (State.handoverRecord s).hub = s.hub ∧
    (State.handoverRecord s).host = s.host ∧ (State.handoverRecord s).links = s.links ∧
    (State.handoverRecord s).dies = s.dies ∧ (State.handoverRecord s).chans = s.chans ∧
    (State.handoverRecord s).chains = s.chains ∧ (State.handoverRecord s).coef = s.coef ∧
    (State.handoverRecord s).fold = s.fold ∧ (State.handoverRecord s).rfx = s.rfx ∧ (State.handoverRecord s).drv = s.drv ∧
    (State.handoverRecord s).ck = s.ck ∧ (State.handoverRecord s).sv = s.sv ∧ (State.handoverRecord s).hk = s.hk ∧
    (State.handoverRecord s).ldg = s.ldg ∧ (State.handoverRecord s).tk = s.tk := by
  unfold State.handoverRecord
  simp -implicitDefEqProofs
@[simp] theorem State.handover_frame {s : State} :
    (State.handover s).pending = s.pending ∧ (State.handover s).regs = s.regs ∧ (State.handover s).die = s.die ∧
    (State.handover s).hid = s.hid ∧ (State.handover s).hub = s.hub ∧ (State.handover s).host = s.host ∧
    (State.handover s).links = s.links ∧ (State.handover s).dies = s.dies ∧ (State.handover s).chans = s.chans ∧
    (State.handover s).chains = s.chains ∧ (State.handover s).coef = s.coef ∧ (State.handover s).fold = s.fold ∧
    (State.handover s).rfx = s.rfx ∧ (State.handover s).drv = s.drv ∧ (State.handover s).ck = s.ck ∧
    (State.handover s).sv = s.sv ∧ (State.handover s).hk = s.hk ∧ (State.handover s).ldg = s.ldg ∧
    (State.handover s).tk = s.tk := by
  unfold State.handover
  simp -implicitDefEqProofs
@[simp] theorem State.fwKick_frame {s0 : State} :
    (State.fwKick s0).pending = s0.pending ∧ (State.fwKick s0).die = s0.die ∧ (State.fwKick s0).hid = s0.hid ∧
    (State.fwKick s0).hub = s0.hub ∧ (State.fwKick s0).dies = s0.dies ∧ (State.fwKick s0).chains = s0.chains ∧
    (State.fwKick s0).coef = s0.coef ∧ (State.fwKick s0).fold = s0.fold ∧ (State.fwKick s0).rfx = s0.rfx ∧
    (State.fwKick s0).drv = s0.drv ∧ (State.fwKick s0).ck = s0.ck ∧ (State.fwKick s0).sv = s0.sv ∧
    (State.fwKick s0).hk = s0.hk := by
  unfold State.fwKick
  simp -implicitDefEqProofs
@[simp] theorem State.fwHold_frame {s : State} :
    (State.fwHold s).2.pending = s.pending ∧ (State.fwHold s).2.die = s.die ∧ (State.fwHold s).2.hid = s.hid ∧
    (State.fwHold s).2.hub = s.hub ∧ (State.fwHold s).2.links = s.links ∧ (State.fwHold s).2.dies = s.dies ∧
    (State.fwHold s).2.chans = s.chans ∧ (State.fwHold s).2.chains = s.chains ∧ (State.fwHold s).2.coef = s.coef ∧
    (State.fwHold s).2.fold = s.fold ∧ (State.fwHold s).2.rfx = s.rfx ∧ (State.fwHold s).2.drv = s.drv ∧
    (State.fwHold s).2.ck = s.ck ∧ (State.fwHold s).2.sv = s.sv ∧ (State.fwHold s).2.hk = s.hk ∧
    (State.fwHold s).2.free = s.free := by
  unfold State.fwHold
  simp -implicitDefEqProofs
@[simp] theorem State.fwFault_frame {s : State} {fail : Nat} {flash : Bool} {copy0 : List Byte} {copy1 : List Byte} :
    (State.fwFault s fail flash copy0 copy1).pending = s.pending ∧ (State.fwFault s fail flash copy0 copy1).die = s.die ∧
    (State.fwFault s fail flash copy0 copy1).hid = s.hid ∧ (State.fwFault s fail flash copy0 copy1).hub = s.hub ∧
    (State.fwFault s fail flash copy0 copy1).links = s.links ∧ (State.fwFault s fail flash copy0 copy1).dies = s.dies ∧
    (State.fwFault s fail flash copy0 copy1).chans = s.chans ∧ (State.fwFault s fail flash copy0 copy1).chains = s.chains ∧
    (State.fwFault s fail flash copy0 copy1).coef = s.coef ∧ (State.fwFault s fail flash copy0 copy1).fold = s.fold ∧
    (State.fwFault s fail flash copy0 copy1).rfx = s.rfx ∧ (State.fwFault s fail flash copy0 copy1).drv = s.drv ∧
    (State.fwFault s fail flash copy0 copy1).ck = s.ck ∧ (State.fwFault s fail flash copy0 copy1).sv = s.sv ∧
    (State.fwFault s fail flash copy0 copy1).hk = s.hk ∧ (State.fwFault s fail flash copy0 copy1).free = s.free := by
  unfold State.fwFault
  simp -implicitDefEqProofs
@[simp] theorem State.fwRestart_frame {s : State} :
    (State.fwRestart s).pending = s.pending ∧ (State.fwRestart s).die = s.die ∧ (State.fwRestart s).hid = s.hid ∧
    (State.fwRestart s).hub = s.hub ∧ (State.fwRestart s).links = s.links ∧ (State.fwRestart s).dies = s.dies ∧
    (State.fwRestart s).chans = s.chans ∧ (State.fwRestart s).chains = s.chains ∧ (State.fwRestart s).coef = s.coef ∧
    (State.fwRestart s).fold = s.fold ∧ (State.fwRestart s).rfx = s.rfx ∧ (State.fwRestart s).drv = s.drv ∧
    (State.fwRestart s).ck = s.ck ∧ (State.fwRestart s).sv = s.sv ∧ (State.fwRestart s).hk = s.hk ∧
    (State.fwRestart s).free = s.free := by
  unfold State.fwRestart
  simp -implicitDefEqProofs
@[simp] theorem State.fwStop_frame {s : State} :
    (State.fwStop s).pending = s.pending ∧ (State.fwStop s).die = s.die ∧ (State.fwStop s).hid = s.hid ∧
    (State.fwStop s).hub = s.hub ∧ (State.fwStop s).links = s.links ∧ (State.fwStop s).dies = s.dies ∧
    (State.fwStop s).chans = s.chans ∧ (State.fwStop s).chains = s.chains ∧ (State.fwStop s).coef = s.coef ∧
    (State.fwStop s).fold = s.fold ∧ (State.fwStop s).rfx = s.rfx ∧ (State.fwStop s).drv = s.drv ∧
    (State.fwStop s).ck = s.ck ∧ (State.fwStop s).sv = s.sv ∧ (State.fwStop s).hk = s.hk ∧ (State.fwStop s).free = s.free := by
  unfold State.fwStop
  simp -implicitDefEqProofs
@[simp] theorem State.fwCtrl_frame {s : State} {v : Nat} :
    (State.fwCtrl s v).pending = s.pending ∧ (State.fwCtrl s v).die = s.die ∧ (State.fwCtrl s v).hid = s.hid ∧
    (State.fwCtrl s v).hub = s.hub ∧ (State.fwCtrl s v).links = s.links ∧ (State.fwCtrl s v).dies = s.dies ∧
    (State.fwCtrl s v).chans = s.chans ∧ (State.fwCtrl s v).chains = s.chains ∧ (State.fwCtrl s v).coef = s.coef ∧
    (State.fwCtrl s v).fold = s.fold ∧ (State.fwCtrl s v).rfx = s.rfx ∧ (State.fwCtrl s v).drv = s.drv ∧
    (State.fwCtrl s v).ck = s.ck ∧ (State.fwCtrl s v).sv = s.sv ∧ (State.fwCtrl s v).hk = s.hk ∧
    (State.fwCtrl s v).free = s.free := by
  unfold State.fwCtrl
  simp -implicitDefEqProofs
@[simp] theorem State.ramBad_frame {s : State} {a : Nat} :
    (State.ramBad s a).pending = s.pending ∧ (State.ramBad s a).regs = s.regs ∧ (State.ramBad s a).die = s.die ∧
    (State.ramBad s a).hid = s.hid ∧ (State.ramBad s a).hub = s.hub ∧ (State.ramBad s a).host = s.host ∧
    (State.ramBad s a).links = s.links ∧ (State.ramBad s a).dies = s.dies ∧ (State.ramBad s a).chans = s.chans ∧
    (State.ramBad s a).chains = s.chains ∧ (State.ramBad s a).coef = s.coef ∧ (State.ramBad s a).fold = s.fold ∧
    (State.ramBad s a).rfx = s.rfx ∧ (State.ramBad s a).drv = s.drv ∧ (State.ramBad s a).ck = s.ck ∧
    (State.ramBad s a).sv = s.sv ∧ (State.ramBad s a).hk = s.hk ∧ (State.ramBad s a).ldg = s.ldg ∧
    (State.ramBad s a).tk = s.tk := by
  unfold State.ramBad
  simp -implicitDefEqProofs
@[simp] theorem State.startTimeout_frame {s : State} {flash : Bool} {copy0 : List Byte} {copy1 : List Byte} :
    (State.startTimeout s flash copy0 copy1).pending = s.pending ∧ (State.startTimeout s flash copy0 copy1).die = s.die ∧
    (State.startTimeout s flash copy0 copy1).hid = s.hid ∧ (State.startTimeout s flash copy0 copy1).hub = s.hub ∧
    (State.startTimeout s flash copy0 copy1).dies = s.dies ∧ (State.startTimeout s flash copy0 copy1).chains = s.chains ∧
    (State.startTimeout s flash copy0 copy1).coef = s.coef ∧ (State.startTimeout s flash copy0 copy1).fold = s.fold ∧
    (State.startTimeout s flash copy0 copy1).rfx = s.rfx ∧ (State.startTimeout s flash copy0 copy1).drv = s.drv ∧
    (State.startTimeout s flash copy0 copy1).ck = s.ck ∧ (State.startTimeout s flash copy0 copy1).sv = s.sv ∧
    (State.startTimeout s flash copy0 copy1).hk = s.hk := by
  unfold State.startTimeout
  simp -implicitDefEqProofs
@[simp] theorem State.clearRegs_frame {s : State} {p : Fld → Bool} :
    (State.clearRegs s p).pending = s.pending ∧ (State.clearRegs s p).die = s.die ∧ (State.clearRegs s p).hid = s.hid ∧
    (State.clearRegs s p).hub = s.hub ∧ (State.clearRegs s p).host = s.host ∧ (State.clearRegs s p).links = s.links ∧
    (State.clearRegs s p).dies = s.dies ∧ (State.clearRegs s p).chans = s.chans ∧ (State.clearRegs s p).chains = s.chains ∧
    (State.clearRegs s p).coef = s.coef ∧ (State.clearRegs s p).fold = s.fold ∧ (State.clearRegs s p).rfx = s.rfx ∧
    (State.clearRegs s p).drv = s.drv ∧ (State.clearRegs s p).ck = s.ck ∧ (State.clearRegs s p).sv = s.sv ∧
    (State.clearRegs s p).fw = s.fw ∧ (State.clearRegs s p).hk = s.hk ∧ (State.clearRegs s p).ldg = s.ldg ∧
    (State.clearRegs s p).tk = s.tk ∧ (State.clearRegs s p).free = s.free := by
  unfold State.clearRegs
  simp -implicitDefEqProofs
@[simp] theorem State.hostReset_frame {s : State} :
    (State.hostReset s).pending = s.pending ∧ (State.hostReset s).die = s.die ∧ (State.hostReset s).hid = s.hid ∧
    (State.hostReset s).links = s.links ∧ (State.hostReset s).dies = s.dies ∧ (State.hostReset s).chans = s.chans ∧
    (State.hostReset s).chains = s.chains ∧ (State.hostReset s).coef = s.coef ∧ (State.hostReset s).rfx = s.rfx ∧
    (State.hostReset s).sv = s.sv ∧ (State.hostReset s).fw = s.fw ∧ (State.hostReset s).hk = s.hk ∧
    (State.hostReset s).ldg = s.ldg ∧ (State.hostReset s).free = s.free := by
  unfold State.hostReset
  simp -implicitDefEqProofs
@[simp] theorem State.cfgClear_frame {s : State} :
    (State.cfgClear s).pending = s.pending ∧ (State.cfgClear s).regs = s.regs ∧ (State.cfgClear s).die = s.die ∧
    (State.cfgClear s).hid = s.hid ∧ (State.cfgClear s).hub = s.hub ∧ (State.cfgClear s).links = s.links ∧
    (State.cfgClear s).dies = s.dies ∧ (State.cfgClear s).chans = s.chans ∧ (State.cfgClear s).chains = s.chains ∧
    (State.cfgClear s).coef = s.coef ∧ (State.cfgClear s).fold = s.fold ∧ (State.cfgClear s).rfx = s.rfx ∧
    (State.cfgClear s).drv = s.drv ∧ (State.cfgClear s).ck = s.ck ∧ (State.cfgClear s).sv = s.sv ∧
    (State.cfgClear s).fw = s.fw ∧ (State.cfgClear s).hk = s.hk ∧ (State.cfgClear s).ldg = s.ldg ∧
    (State.cfgClear s).tk = s.tk ∧ (State.cfgClear s).free = s.free := by
  unfold State.cfgClear
  simp -implicitDefEqProofs
@[simp] theorem State.linkLost_frame {s : State} :
    (State.linkLost s).pending = s.pending ∧ (State.linkLost s).die = s.die ∧ (State.linkLost s).hid = s.hid ∧
    (State.linkLost s).links = s.links ∧ (State.linkLost s).dies = s.dies ∧ (State.linkLost s).chans = s.chans ∧
    (State.linkLost s).chains = s.chains ∧ (State.linkLost s).coef = s.coef ∧ (State.linkLost s).rfx = s.rfx ∧
    (State.linkLost s).sv = s.sv ∧ (State.linkLost s).fw = s.fw ∧ (State.linkLost s).hk = s.hk ∧
    (State.linkLost s).free = s.free := by
  unfold State.linkLost
  simp -implicitDefEqProofs
@[simp] theorem State.pclkRefresh_frame {s : State} :
    (State.pclkRefresh s).pending = s.pending ∧ (State.pclkRefresh s).die = s.die ∧ (State.pclkRefresh s).hid = s.hid ∧
    (State.pclkRefresh s).host = s.host ∧ (State.pclkRefresh s).links = s.links ∧ (State.pclkRefresh s).dies = s.dies ∧
    (State.pclkRefresh s).chans = s.chans ∧ (State.pclkRefresh s).chains = s.chains ∧ (State.pclkRefresh s).coef = s.coef ∧
    (State.pclkRefresh s).fold = s.fold ∧ (State.pclkRefresh s).rfx = s.rfx ∧ (State.pclkRefresh s).drv = s.drv ∧
    (State.pclkRefresh s).ck = s.ck ∧ (State.pclkRefresh s).sv = s.sv ∧ (State.pclkRefresh s).fw = s.fw ∧
    (State.pclkRefresh s).hk = s.hk ∧ (State.pclkRefresh s).ldg = s.ldg ∧ (State.pclkRefresh s).tk = s.tk ∧
    (State.pclkRefresh s).free = s.free := by
  unfold State.pclkRefresh
  simp -implicitDefEqProofs
@[simp] theorem State.linkEvent_frame {s : State} {up : Bool} {speed : Nat} {width : Nat} :
    (State.linkEvent s up speed width).pending = s.pending ∧ (State.linkEvent s up speed width).die = s.die ∧
    (State.linkEvent s up speed width).hid = s.hid ∧ (State.linkEvent s up speed width).hub = s.hub ∧
    (State.linkEvent s up speed width).links = s.links ∧ (State.linkEvent s up speed width).dies = s.dies ∧
    (State.linkEvent s up speed width).chans = s.chans ∧ (State.linkEvent s up speed width).chains = s.chains ∧
    (State.linkEvent s up speed width).coef = s.coef ∧ (State.linkEvent s up speed width).fold = s.fold ∧
    (State.linkEvent s up speed width).rfx = s.rfx ∧ (State.linkEvent s up speed width).drv = s.drv ∧
    (State.linkEvent s up speed width).ck = s.ck ∧ (State.linkEvent s up speed width).sv = s.sv ∧
    (State.linkEvent s up speed width).fw = s.fw ∧ (State.linkEvent s up speed width).hk = s.hk ∧
    (State.linkEvent s up speed width).free = s.free := by
  unfold State.linkEvent
  simp -implicitDefEqProofs
@[simp] theorem State.msixFlush_frame {s : State} :
    (State.msixFlush s).pending = s.pending ∧ (State.msixFlush s).regs = s.regs ∧ (State.msixFlush s).die = s.die ∧
    (State.msixFlush s).hid = s.hid ∧ (State.msixFlush s).hub = s.hub ∧ (State.msixFlush s).links = s.links ∧
    (State.msixFlush s).dies = s.dies ∧ (State.msixFlush s).chans = s.chans ∧ (State.msixFlush s).chains = s.chains ∧
    (State.msixFlush s).coef = s.coef ∧ (State.msixFlush s).fold = s.fold ∧ (State.msixFlush s).rfx = s.rfx ∧
    (State.msixFlush s).drv = s.drv ∧ (State.msixFlush s).ck = s.ck ∧ (State.msixFlush s).sv = s.sv ∧
    (State.msixFlush s).fw = s.fw ∧ (State.msixFlush s).hk = s.hk ∧ (State.msixFlush s).ldg = s.ldg ∧
    (State.msixFlush s).tk = s.tk ∧ (State.msixFlush s).free = s.free := by
  unfold State.msixFlush
  simp -implicitDefEqProofs
@[simp] theorem State.powerState_frame {s : State} {d3 : Bool} :
    (State.powerState s d3).pending = s.pending ∧ (State.powerState s d3).regs = s.regs ∧
    (State.powerState s d3).die = s.die ∧ (State.powerState s d3).hid = s.hid ∧ (State.powerState s d3).hub = s.hub ∧
    (State.powerState s d3).links = s.links ∧ (State.powerState s d3).dies = s.dies ∧
    (State.powerState s d3).chans = s.chans ∧ (State.powerState s d3).chains = s.chains ∧
    (State.powerState s d3).coef = s.coef ∧ (State.powerState s d3).fold = s.fold ∧ (State.powerState s d3).rfx = s.rfx ∧
    (State.powerState s d3).drv = s.drv ∧ (State.powerState s d3).ck = s.ck ∧ (State.powerState s d3).sv = s.sv ∧
    (State.powerState s d3).fw = s.fw ∧ (State.powerState s d3).hk = s.hk ∧ (State.powerState s d3).ldg = s.ldg ∧
    (State.powerState s d3).tk = s.tk ∧ (State.powerState s d3).free = s.free := by
  unfold State.powerState
  simp -implicitDefEqProofs
@[simp] theorem State.softReset_frame {s : State} :
    (State.softReset s).pending = s.pending ∧ (State.softReset s).die = s.die ∧ (State.softReset s).hid = s.hid ∧
    (State.softReset s).links = s.links ∧ (State.softReset s).dies = s.dies ∧ (State.softReset s).chans = s.chans ∧
    (State.softReset s).chains = s.chains ∧ (State.softReset s).coef = s.coef ∧ (State.softReset s).rfx = s.rfx ∧
    (State.softReset s).sv = s.sv ∧ (State.softReset s).fw = s.fw ∧ (State.softReset s).hk = s.hk ∧
    (State.softReset s).ldg = s.ldg ∧ (State.softReset s).free = s.free := by
  unfold State.softReset
  simp -implicitDefEqProofs
@[simp] theorem State.flr_frame {s : State} :
    (State.flr s).pending = s.pending ∧ (State.flr s).die = s.die ∧ (State.flr s).hid = s.hid ∧
    (State.flr s).links = s.links ∧ (State.flr s).dies = s.dies ∧ (State.flr s).chans = s.chans ∧
    (State.flr s).chains = s.chains ∧ (State.flr s).coef = s.coef ∧ (State.flr s).rfx = s.rfx ∧ (State.flr s).sv = s.sv ∧
    (State.flr s).fw = s.fw ∧ (State.flr s).hk = s.hk ∧ (State.flr s).ldg = s.ldg ∧ (State.flr s).free = s.free := by
  unfold State.flr
  simp -implicitDefEqProofs
@[simp] theorem State.logError_frame {s : State} {unc : Bool} {fatal : Bool} {adv : Bool} {k : Nat} {hdr : List Nat} :
    (State.logError s unc fatal adv k hdr).pending = s.pending ∧ (State.logError s unc fatal adv k hdr).die = s.die ∧
    (State.logError s unc fatal adv k hdr).hid = s.hid ∧ (State.logError s unc fatal adv k hdr).hub = s.hub ∧
    (State.logError s unc fatal adv k hdr).links = s.links ∧ (State.logError s unc fatal adv k hdr).dies = s.dies ∧
    (State.logError s unc fatal adv k hdr).chans = s.chans ∧ (State.logError s unc fatal adv k hdr).chains = s.chains ∧
    (State.logError s unc fatal adv k hdr).coef = s.coef ∧ (State.logError s unc fatal adv k hdr).fold = s.fold ∧
    (State.logError s unc fatal adv k hdr).rfx = s.rfx ∧ (State.logError s unc fatal adv k hdr).drv = s.drv ∧
    (State.logError s unc fatal adv k hdr).ck = s.ck ∧ (State.logError s unc fatal adv k hdr).sv = s.sv ∧
    (State.logError s unc fatal adv k hdr).fw = s.fw ∧ (State.logError s unc fatal adv k hdr).hk = s.hk ∧
    (State.logError s unc fatal adv k hdr).ldg = s.ldg ∧ (State.logError s unc fatal adv k hdr).free = s.free := by
  unfold State.logError
  simp -implicitDefEqProofs
@[simp] theorem State.drvAbort_frame {s : State} {k : DrvNo} {cause : Nat} :
    (State.drvAbort s k cause).pending = s.pending ∧ (State.drvAbort s k cause).die = s.die ∧
    (State.drvAbort s k cause).hid = s.hid ∧ (State.drvAbort s k cause).hub = s.hub ∧
    (State.drvAbort s k cause).links = s.links ∧ (State.drvAbort s k cause).dies = s.dies ∧
    (State.drvAbort s k cause).chans = s.chans ∧ (State.drvAbort s k cause).chains = s.chains ∧
    (State.drvAbort s k cause).coef = s.coef ∧ (State.drvAbort s k cause).fold = s.fold ∧
    (State.drvAbort s k cause).rfx = s.rfx ∧ (State.drvAbort s k cause).ck = s.ck ∧ (State.drvAbort s k cause).sv = s.sv ∧
    (State.drvAbort s k cause).fw = s.fw ∧ (State.drvAbort s k cause).hk = s.hk ∧ (State.drvAbort s k cause).ldg = s.ldg ∧
    (State.drvAbort s k cause).free = s.free := by
  unfold State.drvAbort
  simp -implicitDefEqProofs
@[simp] theorem State.ckBack_frame {s : State} {k : DrvNo} :
    (State.ckBack s k).pending = s.pending ∧ (State.ckBack s k).die = s.die ∧ (State.ckBack s k).hid = s.hid ∧
    (State.ckBack s k).hub = s.hub ∧ (State.ckBack s k).host = s.host ∧ (State.ckBack s k).links = s.links ∧
    (State.ckBack s k).dies = s.dies ∧ (State.ckBack s k).chans = s.chans ∧ (State.ckBack s k).chains = s.chains ∧
    (State.ckBack s k).coef = s.coef ∧ (State.ckBack s k).fold = s.fold ∧ (State.ckBack s k).rfx = s.rfx ∧
    (State.ckBack s k).drv = s.drv ∧ (State.ckBack s k).sv = s.sv ∧ (State.ckBack s k).fw = s.fw ∧
    (State.ckBack s k).hk = s.hk ∧ (State.ckBack s k).ldg = s.ldg ∧ (State.ckBack s k).tk = s.tk ∧
    (State.ckBack s k).free = s.free := by
  unfold State.ckBack
  (repeat' split) <;> simp -implicitDefEqProofs
@[simp] theorem State.drvAbortAll_frame {s : State} {cause : Nat} :
    (State.drvAbortAll s cause).pending = s.pending ∧ (State.drvAbortAll s cause).die = s.die ∧
    (State.drvAbortAll s cause).hid = s.hid ∧ (State.drvAbortAll s cause).hub = s.hub ∧
    (State.drvAbortAll s cause).links = s.links ∧ (State.drvAbortAll s cause).dies = s.dies ∧
    (State.drvAbortAll s cause).chans = s.chans ∧ (State.drvAbortAll s cause).chains = s.chains ∧
    (State.drvAbortAll s cause).coef = s.coef ∧ (State.drvAbortAll s cause).fold = s.fold ∧
    (State.drvAbortAll s cause).rfx = s.rfx ∧ (State.drvAbortAll s cause).sv = s.sv ∧
    (State.drvAbortAll s cause).fw = s.fw ∧ (State.drvAbortAll s cause).hk = s.hk ∧
    (State.drvAbortAll s cause).ldg = s.ldg ∧ (State.drvAbortAll s cause).free = s.free := by
  unfold State.drvAbortAll
  simp -implicitDefEqProofs
@[simp] theorem State.drvFatalOne_frame {s : State} {k : DrvNo} :
    (State.drvFatalOne s k).pending = s.pending ∧ (State.drvFatalOne s k).die = s.die ∧
    (State.drvFatalOne s k).hid = s.hid ∧ (State.drvFatalOne s k).hub = s.hub ∧ (State.drvFatalOne s k).links = s.links ∧
    (State.drvFatalOne s k).dies = s.dies ∧ (State.drvFatalOne s k).chans = s.chans ∧
    (State.drvFatalOne s k).chains = s.chains ∧ (State.drvFatalOne s k).coef = s.coef ∧
    (State.drvFatalOne s k).fold = s.fold ∧ (State.drvFatalOne s k).rfx = s.rfx ∧ (State.drvFatalOne s k).sv = s.sv ∧
    (State.drvFatalOne s k).fw = s.fw ∧ (State.drvFatalOne s k).hk = s.hk ∧ (State.drvFatalOne s k).ldg = s.ldg ∧
    (State.drvFatalOne s k).free = s.free := by
  unfold State.drvFatalOne
  simp -implicitDefEqProofs
@[simp] theorem State.drvFatal_frame {s : State} :
    (State.drvFatal s).pending = s.pending ∧ (State.drvFatal s).die = s.die ∧ (State.drvFatal s).hid = s.hid ∧
    (State.drvFatal s).hub = s.hub ∧ (State.drvFatal s).links = s.links ∧ (State.drvFatal s).dies = s.dies ∧
    (State.drvFatal s).chans = s.chans ∧ (State.drvFatal s).chains = s.chains ∧ (State.drvFatal s).coef = s.coef ∧
    (State.drvFatal s).fold = s.fold ∧ (State.drvFatal s).rfx = s.rfx ∧ (State.drvFatal s).sv = s.sv ∧
    (State.drvFatal s).fw = s.fw ∧ (State.drvFatal s).hk = s.hk ∧ (State.drvFatal s).ldg = s.ldg ∧
    (State.drvFatal s).free = s.free := by
  unfold State.drvFatal
  repeat' apply And.intro
  all_goals (refine (State.foldl_keep _ (fun s x => ?_) _ _).trans ?_)
  all_goals simp
@[simp] theorem State.fatalError_frame {s : State} :
    (State.fatalError s).pending = s.pending ∧ (State.fatalError s).die = s.die ∧ (State.fatalError s).hid = s.hid ∧
    (State.fatalError s).hub = s.hub ∧ (State.fatalError s).links = s.links ∧ (State.fatalError s).dies = s.dies ∧
    (State.fatalError s).chans = s.chans ∧ (State.fatalError s).chains = s.chains ∧ (State.fatalError s).coef = s.coef ∧
    (State.fatalError s).fold = s.fold ∧ (State.fatalError s).rfx = s.rfx ∧ (State.fatalError s).sv = s.sv ∧
    (State.fatalError s).fw = s.fw ∧ (State.fatalError s).hk = s.hk ∧ (State.fatalError s).free = s.free := by
  unfold State.fatalError
  simp -implicitDefEqProofs
@[simp] theorem State.uncError_frame {s : State} {k : Nat} {adv : Bool} {hdr : List Nat} :
    (State.uncError s k adv hdr).pending = s.pending ∧ (State.uncError s k adv hdr).die = s.die ∧
    (State.uncError s k adv hdr).hid = s.hid ∧ (State.uncError s k adv hdr).hub = s.hub ∧
    (State.uncError s k adv hdr).links = s.links ∧ (State.uncError s k adv hdr).dies = s.dies ∧
    (State.uncError s k adv hdr).chans = s.chans ∧ (State.uncError s k adv hdr).chains = s.chains ∧
    (State.uncError s k adv hdr).coef = s.coef ∧ (State.uncError s k adv hdr).fold = s.fold ∧
    (State.uncError s k adv hdr).rfx = s.rfx ∧ (State.uncError s k adv hdr).sv = s.sv ∧
    (State.uncError s k adv hdr).fw = s.fw ∧ (State.uncError s k adv hdr).hk = s.hk ∧
    (State.uncError s k adv hdr).free = s.free := by
  unfold State.uncError
  simp -implicitDefEqProofs
@[simp] theorem State.unsupported_frame {s : State} {nonPosted : Bool} :
    (State.unsupported s nonPosted).pending = s.pending ∧ (State.unsupported s nonPosted).die = s.die ∧
    (State.unsupported s nonPosted).hid = s.hid ∧ (State.unsupported s nonPosted).hub = s.hub ∧
    (State.unsupported s nonPosted).links = s.links ∧ (State.unsupported s nonPosted).dies = s.dies ∧
    (State.unsupported s nonPosted).chans = s.chans ∧ (State.unsupported s nonPosted).chains = s.chains ∧
    (State.unsupported s nonPosted).coef = s.coef ∧ (State.unsupported s nonPosted).fold = s.fold ∧
    (State.unsupported s nonPosted).rfx = s.rfx ∧ (State.unsupported s nonPosted).sv = s.sv ∧
    (State.unsupported s nonPosted).fw = s.fw ∧ (State.unsupported s nonPosted).hk = s.hk := by
  unfold State.unsupported
  dsimp only
  simp only [State.uncError_frame]
  repeat' apply And.intro
  all_goals (refine (State.foldl_snd_keep _ (fun q x => ?_) _ _).trans ?_)
  all_goals rfl
@[simp] theorem State.busError_frame {s : State} {addr : Nat} {k : Nat} {hdr : List Nat} :
    (State.busError s addr k hdr).pending = s.pending ∧ (State.busError s addr k hdr).die = s.die ∧
    (State.busError s addr k hdr).hid = s.hid ∧ (State.busError s addr k hdr).hub = s.hub ∧
    (State.busError s addr k hdr).links = s.links ∧ (State.busError s addr k hdr).dies = s.dies ∧
    (State.busError s addr k hdr).chans = s.chans ∧ (State.busError s addr k hdr).chains = s.chains ∧
    (State.busError s addr k hdr).coef = s.coef ∧ (State.busError s addr k hdr).fold = s.fold ∧
    (State.busError s addr k hdr).rfx = s.rfx ∧ (State.busError s addr k hdr).sv = s.sv ∧
    (State.busError s addr k hdr).fw = s.fw ∧ (State.busError s addr k hdr).hk = s.hk ∧
    (State.busError s addr k hdr).free = s.free := by
  unfold State.busError
  simp -implicitDefEqProofs
@[simp] theorem State.cfgWrite_frame {s : State} {off : Nat} {be : Fin 16} {v : Nat} :
    (State.cfgWrite s off be v).pending = s.pending ∧ (State.cfgWrite s off be v).die = s.die ∧
    (State.cfgWrite s off be v).hid = s.hid ∧ (State.cfgWrite s off be v).links = s.links ∧
    (State.cfgWrite s off be v).dies = s.dies ∧ (State.cfgWrite s off be v).chans = s.chans ∧
    (State.cfgWrite s off be v).chains = s.chains ∧ (State.cfgWrite s off be v).coef = s.coef ∧
    (State.cfgWrite s off be v).rfx = s.rfx ∧ (State.cfgWrite s off be v).sv = s.sv ∧
    (State.cfgWrite s off be v).fw = s.fw ∧ (State.cfgWrite s off be v).hk = s.hk ∧
    (State.cfgWrite s off be v).ldg = s.ldg ∧ (State.cfgWrite s off be v).free = s.free := by
  unfold State.cfgWrite
  simp -implicitDefEqProofs
@[simp] theorem State.reqBlocked_frame {s : State} :
    (State.reqBlocked s).pending = s.pending ∧ (State.reqBlocked s).die = s.die ∧ (State.reqBlocked s).hid = s.hid ∧
    (State.reqBlocked s).hub = s.hub ∧ (State.reqBlocked s).links = s.links ∧ (State.reqBlocked s).dies = s.dies ∧
    (State.reqBlocked s).chans = s.chans ∧ (State.reqBlocked s).chains = s.chains ∧ (State.reqBlocked s).coef = s.coef ∧
    (State.reqBlocked s).fold = s.fold ∧ (State.reqBlocked s).rfx = s.rfx ∧ (State.reqBlocked s).drv = s.drv ∧
    (State.reqBlocked s).ck = s.ck ∧ (State.reqBlocked s).sv = s.sv ∧ (State.reqBlocked s).fw = s.fw ∧
    (State.reqBlocked s).hk = s.hk ∧ (State.reqBlocked s).ldg = s.ldg ∧ (State.reqBlocked s).free = s.free := by
  unfold State.reqBlocked
  simp -implicitDefEqProofs
@[simp] theorem State.holdReq_frame {s : State} {q : HostReq} :
    (State.holdReq s q).pending = s.pending ∧ (State.holdReq s q).regs = s.regs ∧ (State.holdReq s q).die = s.die ∧
    (State.holdReq s q).hid = s.hid ∧ (State.holdReq s q).hub = s.hub ∧ (State.holdReq s q).links = s.links ∧
    (State.holdReq s q).dies = s.dies ∧ (State.holdReq s q).chans = s.chans ∧ (State.holdReq s q).chains = s.chains ∧
    (State.holdReq s q).coef = s.coef ∧ (State.holdReq s q).fold = s.fold ∧ (State.holdReq s q).rfx = s.rfx ∧
    (State.holdReq s q).drv = s.drv ∧ (State.holdReq s q).ck = s.ck ∧ (State.holdReq s q).sv = s.sv ∧
    (State.holdReq s q).fw = s.fw ∧ (State.holdReq s q).hk = s.hk ∧ (State.holdReq s q).ldg = s.ldg ∧
    (State.holdReq s q).tk = s.tk ∧ (State.holdReq s q).free = s.free := by
  unfold State.holdReq
  simp -implicitDefEqProofs
@[simp] theorem State.hostAccess_pending {s : State} {q : HostReq} {k : State → State} (h : ∀ (a0 : State), (k a0).pending = a0.pending) :
    (State.hostAccess s q k).pending = s.pending := by
  unfold State.hostAccess
  try dsimp only
  (repeat' split) <;> simp -implicitDefEqProofs [h]
@[simp] theorem State.hostAccess_die {s : State} {q : HostReq} {k : State → State} (h : ∀ (a0 : State), (k a0).die = a0.die) :
    (State.hostAccess s q k).die = s.die := by
  unfold State.hostAccess
  try dsimp only
  (repeat' split) <;> simp -implicitDefEqProofs [h]
@[simp] theorem State.hostAccess_hid {s : State} {q : HostReq} {k : State → State} (h : ∀ (a0 : State), (k a0).hid = a0.hid) :
    (State.hostAccess s q k).hid = s.hid := by
  unfold State.hostAccess
  try dsimp only
  (repeat' split) <;> simp -implicitDefEqProofs [h]
@[simp] theorem State.hostAccess_hub {s : State} {q : HostReq} {k : State → State} (h : ∀ (a0 : State), (k a0).hub = a0.hub) :
    (State.hostAccess s q k).hub = s.hub := by
  unfold State.hostAccess
  try dsimp only
  (repeat' split) <;> simp -implicitDefEqProofs [h]
@[simp] theorem State.hostAccess_links {s : State} {q : HostReq} {k : State → State} (h : ∀ (a0 : State), (k a0).links = a0.links) :
    (State.hostAccess s q k).links = s.links := by
  unfold State.hostAccess
  try dsimp only
  (repeat' split) <;> simp -implicitDefEqProofs [h]
@[simp] theorem State.hostAccess_dies {s : State} {q : HostReq} {k : State → State} (h : ∀ (a0 : State), (k a0).dies = a0.dies) :
    (State.hostAccess s q k).dies = s.dies := by
  unfold State.hostAccess
  try dsimp only
  (repeat' split) <;> simp -implicitDefEqProofs [h]
@[simp] theorem State.hostAccess_chans {s : State} {q : HostReq} {k : State → State} (h : ∀ (a0 : State), (k a0).chans = a0.chans) :
    (State.hostAccess s q k).chans = s.chans := by
  unfold State.hostAccess
  try dsimp only
  (repeat' split) <;> simp -implicitDefEqProofs [h]
@[simp] theorem State.hostAccess_chains {s : State} {q : HostReq} {k : State → State} (h : ∀ (a0 : State), (k a0).chains = a0.chains) :
    (State.hostAccess s q k).chains = s.chains := by
  unfold State.hostAccess
  try dsimp only
  (repeat' split) <;> simp -implicitDefEqProofs [h]
@[simp] theorem State.hostAccess_coef {s : State} {q : HostReq} {k : State → State} (h : ∀ (a0 : State), (k a0).coef = a0.coef) :
    (State.hostAccess s q k).coef = s.coef := by
  unfold State.hostAccess
  try dsimp only
  (repeat' split) <;> simp -implicitDefEqProofs [h]
@[simp] theorem State.hostAccess_fold {s : State} {q : HostReq} {k : State → State} (h : ∀ (a0 : State), (k a0).fold = a0.fold) :
    (State.hostAccess s q k).fold = s.fold := by
  unfold State.hostAccess
  try dsimp only
  (repeat' split) <;> simp -implicitDefEqProofs [h]
@[simp] theorem State.hostAccess_rfx {s : State} {q : HostReq} {k : State → State} (h : ∀ (a0 : State), (k a0).rfx = a0.rfx) :
    (State.hostAccess s q k).rfx = s.rfx := by
  unfold State.hostAccess
  try dsimp only
  (repeat' split) <;> simp -implicitDefEqProofs [h]
@[simp] theorem State.hostAccess_sv {s : State} {q : HostReq} {k : State → State} (h : ∀ (a0 : State), (k a0).sv = a0.sv) :
    (State.hostAccess s q k).sv = s.sv := by
  unfold State.hostAccess
  try dsimp only
  (repeat' split) <;> simp -implicitDefEqProofs [h]
@[simp] theorem State.hostAccess_fw {s : State} {q : HostReq} {k : State → State} (h : ∀ (a0 : State), (k a0).fw = a0.fw) :
    (State.hostAccess s q k).fw = s.fw := by
  unfold State.hostAccess
  try dsimp only
  (repeat' split) <;> simp -implicitDefEqProofs [h]
@[simp] theorem State.hostAccess_hk {s : State} {q : HostReq} {k : State → State} (h : ∀ (a0 : State), (k a0).hk = a0.hk) :
    (State.hostAccess s q k).hk = s.hk := by
  unfold State.hostAccess
  try dsimp only
  (repeat' split) <;> simp -implicitDefEqProofs [h]
@[simp] theorem State.keeperEnd_frame {s : State} :
    (State.keeperEnd s).pending = s.pending ∧ (State.keeperEnd s).die = s.die ∧ (State.keeperEnd s).hid = s.hid ∧
    (State.keeperEnd s).hub = s.hub ∧ (State.keeperEnd s).links = s.links ∧ (State.keeperEnd s).dies = s.dies ∧
    (State.keeperEnd s).chans = s.chans ∧ (State.keeperEnd s).chains = s.chains ∧ (State.keeperEnd s).coef = s.coef ∧
    (State.keeperEnd s).fold = s.fold ∧ (State.keeperEnd s).rfx = s.rfx ∧ (State.keeperEnd s).drv = s.drv ∧
    (State.keeperEnd s).ck = s.ck ∧ (State.keeperEnd s).fw = s.fw ∧ (State.keeperEnd s).hk = s.hk ∧
    (State.keeperEnd s).free = s.free := by
  unfold State.keeperEnd
  simp -implicitDefEqProofs
@[simp] theorem State.accumGone_frame {s : State} :
    (State.accumGone s).pending = s.pending ∧ (State.accumGone s).die = s.die ∧ (State.accumGone s).hid = s.hid ∧
    (State.accumGone s).hub = s.hub ∧ (State.accumGone s).host = s.host ∧ (State.accumGone s).links = s.links ∧
    (State.accumGone s).dies = s.dies ∧ (State.accumGone s).chans = s.chans ∧ (State.accumGone s).chains = s.chains ∧
    (State.accumGone s).coef = s.coef ∧ (State.accumGone s).fold = s.fold ∧ (State.accumGone s).rfx = s.rfx ∧
    (State.accumGone s).drv = s.drv ∧ (State.accumGone s).ck = s.ck ∧ (State.accumGone s).sv = s.sv ∧
    (State.accumGone s).fw = s.fw ∧ (State.accumGone s).ldg = s.ldg ∧ (State.accumGone s).tk = s.tk ∧
    (State.accumGone s).free = s.free := by
  unfold State.accumGone
  simp -implicitDefEqProofs
@[simp] theorem State.vauxApplied_frame {s : State} :
    (State.vauxApplied s).pending = s.pending ∧ (State.vauxApplied s).die = s.die ∧ (State.vauxApplied s).hid = s.hid ∧
    (State.vauxApplied s).host = s.host ∧ (State.vauxApplied s).dies = s.dies ∧ (State.vauxApplied s).chans = s.chans ∧
    (State.vauxApplied s).chains = s.chains ∧ (State.vauxApplied s).coef = s.coef ∧ (State.vauxApplied s).fold = s.fold ∧
    (State.vauxApplied s).rfx = s.rfx ∧ (State.vauxApplied s).drv = s.drv ∧ (State.vauxApplied s).ck = s.ck ∧
    (State.vauxApplied s).sv = s.sv ∧ (State.vauxApplied s).fw = s.fw ∧ (State.vauxApplied s).tk = s.tk ∧
    (State.vauxApplied s).free = s.free := by
  unfold State.vauxApplied
  simp -implicitDefEqProofs
@[simp] theorem State.hubPor_frame {s : State} :
    (State.hubPor s).pending = s.pending ∧ (State.hubPor s).dies = s.dies ∧ (State.hubPor s).ldg = s.ldg := by
  unfold State.hubPor
  simp -implicitDefEqProofs
@[simp] theorem State.timeZero_frame {s : State} :
    (State.timeZero s).pending = s.pending ∧ (State.timeZero s).regs = s.regs ∧ (State.timeZero s).die = s.die ∧
    (State.timeZero s).hid = s.hid ∧ (State.timeZero s).host = s.host ∧ (State.timeZero s).links = s.links ∧
    (State.timeZero s).dies = s.dies ∧ (State.timeZero s).chans = s.chans ∧ (State.timeZero s).coef = s.coef ∧
    (State.timeZero s).fold = s.fold ∧ (State.timeZero s).rfx = s.rfx ∧ (State.timeZero s).drv = s.drv ∧
    (State.timeZero s).ck = s.ck ∧ (State.timeZero s).sv = s.sv ∧ (State.timeZero s).fw = s.fw ∧
    (State.timeZero s).hk = s.hk ∧ (State.timeZero s).ldg = s.ldg ∧ (State.timeZero s).tk = s.tk ∧
    (State.timeZero s).free = s.free := by
  unfold State.timeZero
  simp -implicitDefEqProofs
@[simp] theorem State.restartsLost_frame {s : State} {g : Grp} :
    (State.restartsLost s g).pending = s.pending ∧ (State.restartsLost s g).die = s.die ∧
    (State.restartsLost s g).hid = s.hid ∧ (State.restartsLost s g).hub = s.hub ∧ (State.restartsLost s g).host = s.host ∧
    (State.restartsLost s g).links = s.links ∧ (State.restartsLost s g).dies = s.dies ∧
    (State.restartsLost s g).chans = s.chans ∧ (State.restartsLost s g).chains = s.chains ∧
    (State.restartsLost s g).coef = s.coef ∧ (State.restartsLost s g).fold = s.fold ∧ (State.restartsLost s g).rfx = s.rfx ∧
    (State.restartsLost s g).drv = s.drv ∧ (State.restartsLost s g).ck = s.ck ∧ (State.restartsLost s g).sv = s.sv ∧
    (State.restartsLost s g).fw = s.fw ∧ (State.restartsLost s g).hk = s.hk ∧ (State.restartsLost s g).ldg = s.ldg ∧
    (State.restartsLost s g).tk = s.tk ∧ (State.restartsLost s g).free = s.free := by
  unfold State.restartsLost
  simp -implicitDefEqProofs
@[simp] theorem State.hubResetBegin_frame {s : State} {cause : Nat} {r : LRec} :
    (State.hubResetBegin s cause r).pending = s.pending ∧ (State.hubResetBegin s cause r).die = s.die ∧
    (State.hubResetBegin s cause r).hid = s.hid ∧ (State.hubResetBegin s cause r).dies = s.dies ∧
    (State.hubResetBegin s cause r).coef = s.coef ∧ (State.hubResetBegin s cause r).free = s.free := by
  unfold State.hubResetBegin
  simp -implicitDefEqProofs
@[simp] theorem State.rootReset_frame {s : State} {v : Nat} :
    (State.rootReset s v).pending = s.pending ∧ (State.rootReset s v).die = s.die ∧ (State.rootReset s v).hid = s.hid ∧
    (State.rootReset s v).dies = s.dies ∧ (State.rootReset s v).coef = s.coef ∧ (State.rootReset s v).free = s.free := by
  unfold State.rootReset
  try dsimp only
  (repeat' split) <;> simp -implicitDefEqProofs
@[simp] theorem State.rulesAgain_frame {s : State} :
    (State.rulesAgain s).pending = s.pending ∧ (State.rulesAgain s).die = s.die ∧ (State.rulesAgain s).hid = s.hid ∧
    (State.rulesAgain s).hub = s.hub ∧ (State.rulesAgain s).host = s.host ∧ (State.rulesAgain s).links = s.links ∧
    (State.rulesAgain s).dies = s.dies ∧ (State.rulesAgain s).chans = s.chans ∧ (State.rulesAgain s).chains = s.chains ∧
    (State.rulesAgain s).coef = s.coef ∧ (State.rulesAgain s).fold = s.fold ∧ (State.rulesAgain s).rfx = s.rfx ∧
    (State.rulesAgain s).drv = s.drv ∧ (State.rulesAgain s).ck = s.ck ∧ (State.rulesAgain s).sv = s.sv ∧
    (State.rulesAgain s).fw = s.fw ∧ (State.rulesAgain s).hk = s.hk ∧ (State.rulesAgain s).ldg = s.ldg ∧
    (State.rulesAgain s).tk = s.tk ∧ (State.rulesAgain s).free = s.free := by
  unfold State.rulesAgain
  simp -implicitDefEqProofs
@[simp] theorem State.fwAfterReset_frame {s : State} :
    (State.fwAfterReset s).pending = s.pending ∧ (State.fwAfterReset s).die = s.die ∧ (State.fwAfterReset s).hid = s.hid ∧
    (State.fwAfterReset s).hub = s.hub ∧ (State.fwAfterReset s).links = s.links ∧ (State.fwAfterReset s).dies = s.dies ∧
    (State.fwAfterReset s).chans = s.chans ∧ (State.fwAfterReset s).chains = s.chains ∧
    (State.fwAfterReset s).coef = s.coef ∧ (State.fwAfterReset s).fold = s.fold ∧ (State.fwAfterReset s).rfx = s.rfx ∧
    (State.fwAfterReset s).drv = s.drv ∧ (State.fwAfterReset s).ck = s.ck ∧ (State.fwAfterReset s).sv = s.sv ∧
    (State.fwAfterReset s).hk = s.hk ∧ (State.fwAfterReset s).free = s.free := by
  unfold State.fwAfterReset
  (repeat' split) <;> simp -implicitDefEqProofs
@[simp] theorem State.hubResetDone_frame {s : State} :
    (State.hubResetDone s).pending = s.pending ∧ (State.hubResetDone s).die = s.die ∧ (State.hubResetDone s).hid = s.hid ∧
    (State.hubResetDone s).coef = s.coef ∧ (State.hubResetDone s).free = s.free := by
  unfold State.hubResetDone
  simp -implicitDefEqProofs
@[simp] theorem State.setSnap_frame {s : State} {rq : Req} {v : Nat × Nat} :
    (State.setSnap s rq v).pending = s.pending ∧ (State.setSnap s rq v).regs = s.regs ∧ (State.setSnap s rq v).die = s.die ∧
    (State.setSnap s rq v).hid = s.hid ∧ (State.setSnap s rq v).host = s.host ∧ (State.setSnap s rq v).links = s.links ∧
    (State.setSnap s rq v).dies = s.dies ∧ (State.setSnap s rq v).chans = s.chans ∧
    (State.setSnap s rq v).chains = s.chains ∧ (State.setSnap s rq v).coef = s.coef ∧ (State.setSnap s rq v).fold = s.fold ∧
    (State.setSnap s rq v).rfx = s.rfx ∧ (State.setSnap s rq v).ck = s.ck ∧ (State.setSnap s rq v).sv = s.sv ∧
    (State.setSnap s rq v).fw = s.fw ∧ (State.setSnap s rq v).hk = s.hk ∧ (State.setSnap s rq v).ldg = s.ldg ∧
    (State.setSnap s rq v).tk = s.tk ∧ (State.setSnap s rq v).free = s.free := by
  unfold State.setSnap
  (repeat' split) <;> simp -implicitDefEqProofs
@[simp] theorem State.setStage_frame {s : State} {rq : Req} {v : Option (Nat × Nat)} :
    (State.setStage s rq v).pending = s.pending ∧ (State.setStage s rq v).regs = s.regs ∧
    (State.setStage s rq v).die = s.die ∧ (State.setStage s rq v).hid = s.hid ∧ (State.setStage s rq v).host = s.host ∧
    (State.setStage s rq v).links = s.links ∧ (State.setStage s rq v).dies = s.dies ∧
    (State.setStage s rq v).chans = s.chans ∧ (State.setStage s rq v).chains = s.chains ∧
    (State.setStage s rq v).coef = s.coef ∧ (State.setStage s rq v).fold = s.fold ∧ (State.setStage s rq v).rfx = s.rfx ∧
    (State.setStage s rq v).ck = s.ck ∧ (State.setStage s rq v).sv = s.sv ∧ (State.setStage s rq v).fw = s.fw ∧
    (State.setStage s rq v).hk = s.hk ∧ (State.setStage s rq v).ldg = s.ldg ∧ (State.setStage s rq v).tk = s.tk ∧
    (State.setStage s rq v).free = s.free := by
  unfold State.setStage
  (repeat' split) <;> simp -implicitDefEqProofs
@[simp] theorem State.unmapped_frame {s : State} :
    (State.unmapped s).pending = s.pending ∧ (State.unmapped s).die = s.die ∧ (State.unmapped s).hid = s.hid ∧
    (State.unmapped s).hub = s.hub ∧ (State.unmapped s).links = s.links ∧ (State.unmapped s).dies = s.dies ∧
    (State.unmapped s).chans = s.chans ∧ (State.unmapped s).chains = s.chains ∧ (State.unmapped s).coef = s.coef ∧
    (State.unmapped s).fold = s.fold ∧ (State.unmapped s).rfx = s.rfx ∧ (State.unmapped s).drv = s.drv ∧
    (State.unmapped s).ck = s.ck ∧ (State.unmapped s).sv = s.sv ∧ (State.unmapped s).fw = s.fw ∧
    (State.unmapped s).hk = s.hk ∧ (State.unmapped s).ldg = s.ldg ∧ (State.unmapped s).free = s.free := by
  unfold State.unmapped
  simp -implicitDefEqProofs
@[simp] theorem State.readWord_frame {s : State} {rq : Req} {addr : Nat} :
    (State.readWord s rq addr).2.pending = s.pending ∧ (State.readWord s rq addr).2.die = s.die ∧
    (State.readWord s rq addr).2.hid = s.hid ∧ (State.readWord s rq addr).2.links = s.links ∧
    (State.readWord s rq addr).2.dies = s.dies ∧ (State.readWord s rq addr).2.chans = s.chans ∧
    (State.readWord s rq addr).2.chains = s.chains ∧ (State.readWord s rq addr).2.coef = s.coef ∧
    (State.readWord s rq addr).2.fold = s.fold ∧ (State.readWord s rq addr).2.rfx = s.rfx ∧
    (State.readWord s rq addr).2.ck = s.ck ∧ (State.readWord s rq addr).2.sv = s.sv ∧
    (State.readWord s rq addr).2.fw = s.fw ∧ (State.readWord s rq addr).2.hk = s.hk ∧
    (State.readWord s rq addr).2.ldg = s.ldg ∧ (State.readWord s rq addr).2.free = s.free := by
  unfold State.readWord
  try dsimp only
  (repeat' split) <;> simp -implicitDefEqProofs
@[simp] theorem State.readBy_frame {s : State} {rq : Req} {addr : Nat} :
    (State.readBy s rq addr).pending = s.pending ∧ (State.readBy s rq addr).die = s.die ∧
    (State.readBy s rq addr).hid = s.hid ∧ (State.readBy s rq addr).links = s.links ∧
    (State.readBy s rq addr).dies = s.dies ∧ (State.readBy s rq addr).chans = s.chans ∧
    (State.readBy s rq addr).chains = s.chains ∧ (State.readBy s rq addr).coef = s.coef ∧
    (State.readBy s rq addr).fold = s.fold ∧ (State.readBy s rq addr).rfx = s.rfx ∧ (State.readBy s rq addr).ck = s.ck ∧
    (State.readBy s rq addr).sv = s.sv ∧ (State.readBy s rq addr).fw = s.fw ∧ (State.readBy s rq addr).hk = s.hk ∧
    (State.readBy s rq addr).ldg = s.ldg ∧ (State.readBy s rq addr).free = s.free := by
  unfold State.readBy
  simp -implicitDefEqProofs
@[simp] theorem State.noteWord_frame {s : State} {u : U} {off : Nat} {be : Fin 16} :
    (State.noteWord s u off be).pending = s.pending ∧ (State.noteWord s u off be).regs = s.regs ∧
    (State.noteWord s u off be).die = s.die ∧ (State.noteWord s u off be).hid = s.hid ∧
    (State.noteWord s u off be).hub = s.hub ∧ (State.noteWord s u off be).host = s.host ∧
    (State.noteWord s u off be).links = s.links ∧ (State.noteWord s u off be).dies = s.dies ∧
    (State.noteWord s u off be).chans = s.chans ∧ (State.noteWord s u off be).chains = s.chains ∧
    (State.noteWord s u off be).coef = s.coef ∧ (State.noteWord s u off be).fold = s.fold ∧
    (State.noteWord s u off be).rfx = s.rfx ∧ (State.noteWord s u off be).drv = s.drv ∧
    (State.noteWord s u off be).ck = s.ck ∧ (State.noteWord s u off be).sv = s.sv ∧ (State.noteWord s u off be).fw = s.fw ∧
    (State.noteWord s u off be).hk = s.hk ∧ (State.noteWord s u off be).ldg = s.ldg ∧
    (State.noteWord s u off be).free = s.free := by
  unfold State.noteWord
  simp -implicitDefEqProofs
@[simp] theorem State.lockedWrite_frame {s : State} :
    (State.lockedWrite s).pending = s.pending ∧ (State.lockedWrite s).die = s.die ∧ (State.lockedWrite s).hid = s.hid ∧
    (State.lockedWrite s).hub = s.hub ∧ (State.lockedWrite s).links = s.links ∧ (State.lockedWrite s).dies = s.dies ∧
    (State.lockedWrite s).chans = s.chans ∧ (State.lockedWrite s).chains = s.chains ∧ (State.lockedWrite s).coef = s.coef ∧
    (State.lockedWrite s).fold = s.fold ∧ (State.lockedWrite s).rfx = s.rfx ∧ (State.lockedWrite s).drv = s.drv ∧
    (State.lockedWrite s).ck = s.ck ∧ (State.lockedWrite s).sv = s.sv ∧ (State.lockedWrite s).fw = s.fw ∧
    (State.lockedWrite s).hk = s.hk ∧ (State.lockedWrite s).ldg = s.ldg ∧ (State.lockedWrite s).free = s.free := by
  unfold State.lockedWrite
  simp -implicitDefEqProofs
@[simp] theorem State.hoDiscard_frame {s : State} {addr : Nat} :
    (State.hoDiscard s addr).pending = s.pending ∧ (State.hoDiscard s addr).die = s.die ∧
    (State.hoDiscard s addr).hid = s.hid ∧ (State.hoDiscard s addr).hub = s.hub ∧ (State.hoDiscard s addr).links = s.links ∧
    (State.hoDiscard s addr).dies = s.dies ∧ (State.hoDiscard s addr).chans = s.chans ∧
    (State.hoDiscard s addr).chains = s.chains ∧ (State.hoDiscard s addr).coef = s.coef ∧
    (State.hoDiscard s addr).fold = s.fold ∧ (State.hoDiscard s addr).rfx = s.rfx ∧ (State.hoDiscard s addr).drv = s.drv ∧
    (State.hoDiscard s addr).ck = s.ck ∧ (State.hoDiscard s addr).sv = s.sv ∧ (State.hoDiscard s addr).fw = s.fw ∧
    (State.hoDiscard s addr).hk = s.hk ∧ (State.hoDiscard s addr).free = s.free := by
  unfold State.hoDiscard
  simp -implicitDefEqProofs
@[simp] theorem State.filtered_frame {s : State} :
    (State.filtered s).pending = s.pending ∧ (State.filtered s).die = s.die ∧ (State.filtered s).hid = s.hid ∧
    (State.filtered s).hub = s.hub ∧ (State.filtered s).links = s.links ∧ (State.filtered s).dies = s.dies ∧
    (State.filtered s).chans = s.chans ∧ (State.filtered s).chains = s.chains ∧ (State.filtered s).coef = s.coef ∧
    (State.filtered s).fold = s.fold ∧ (State.filtered s).rfx = s.rfx ∧ (State.filtered s).drv = s.drv ∧
    (State.filtered s).ck = s.ck ∧ (State.filtered s).sv = s.sv ∧ (State.filtered s).fw = s.fw ∧
    (State.filtered s).hk = s.hk ∧ (State.filtered s).ldg = s.ldg ∧ (State.filtered s).free = s.free := by
  unfold State.filtered
  simp -implicitDefEqProofs
@[simp] theorem State.fwRefuse_frame {s : State} {u : U} {off : Nat} {addr : Nat} {be : Fin 16} :
    (State.fwRefuse s u off addr be).pending = s.pending ∧ (State.fwRefuse s u off addr be).die = s.die ∧
    (State.fwRefuse s u off addr be).hid = s.hid ∧ (State.fwRefuse s u off addr be).hub = s.hub ∧
    (State.fwRefuse s u off addr be).links = s.links ∧ (State.fwRefuse s u off addr be).dies = s.dies ∧
    (State.fwRefuse s u off addr be).chans = s.chans ∧ (State.fwRefuse s u off addr be).chains = s.chains ∧
    (State.fwRefuse s u off addr be).coef = s.coef ∧ (State.fwRefuse s u off addr be).fold = s.fold ∧
    (State.fwRefuse s u off addr be).rfx = s.rfx ∧ (State.fwRefuse s u off addr be).drv = s.drv ∧
    (State.fwRefuse s u off addr be).ck = s.ck ∧ (State.fwRefuse s u off addr be).sv = s.sv ∧
    (State.fwRefuse s u off addr be).fw = s.fw ∧ (State.fwRefuse s u off addr be).hk = s.hk ∧
    (State.fwRefuse s u off addr be).free = s.free := by
  unfold State.fwRefuse
  simp -implicitDefEqProofs
@[simp] theorem State.drvBusyWrite_frame {s : State} {k : DrvNo} :
    (State.drvBusyWrite s k).pending = s.pending ∧ (State.drvBusyWrite s k).die = s.die ∧
    (State.drvBusyWrite s k).hid = s.hid ∧ (State.drvBusyWrite s k).hub = s.hub ∧ (State.drvBusyWrite s k).host = s.host ∧
    (State.drvBusyWrite s k).links = s.links ∧ (State.drvBusyWrite s k).dies = s.dies ∧
    (State.drvBusyWrite s k).chans = s.chans ∧ (State.drvBusyWrite s k).chains = s.chains ∧
    (State.drvBusyWrite s k).coef = s.coef ∧ (State.drvBusyWrite s k).fold = s.fold ∧ (State.drvBusyWrite s k).rfx = s.rfx ∧
    (State.drvBusyWrite s k).drv = s.drv ∧ (State.drvBusyWrite s k).ck = s.ck ∧ (State.drvBusyWrite s k).sv = s.sv ∧
    (State.drvBusyWrite s k).fw = s.fw ∧ (State.drvBusyWrite s k).hk = s.hk ∧ (State.drvBusyWrite s k).ldg = s.ldg ∧
    (State.drvBusyWrite s k).tk = s.tk ∧ (State.drvBusyWrite s k).free = s.free := by
  unfold State.drvBusyWrite
  simp -implicitDefEqProofs
@[simp] theorem State.ckBusyWrite_frame {s : State} {u : CkNo} :
    (State.ckBusyWrite s u).pending = s.pending ∧ (State.ckBusyWrite s u).die = s.die ∧
    (State.ckBusyWrite s u).hid = s.hid ∧ (State.ckBusyWrite s u).hub = s.hub ∧ (State.ckBusyWrite s u).links = s.links ∧
    (State.ckBusyWrite s u).dies = s.dies ∧ (State.ckBusyWrite s u).chans = s.chans ∧
    (State.ckBusyWrite s u).chains = s.chains ∧ (State.ckBusyWrite s u).coef = s.coef ∧
    (State.ckBusyWrite s u).fold = s.fold ∧ (State.ckBusyWrite s u).rfx = s.rfx ∧ (State.ckBusyWrite s u).drv = s.drv ∧
    (State.ckBusyWrite s u).ck = s.ck ∧ (State.ckBusyWrite s u).sv = s.sv ∧ (State.ckBusyWrite s u).fw = s.fw ∧
    (State.ckBusyWrite s u).hk = s.hk ∧ (State.ckBusyWrite s u).ldg = s.ldg ∧ (State.ckBusyWrite s u).free = s.free := by
  unfold State.ckBusyWrite
  simp -implicitDefEqProofs
@[simp] theorem State.ckAbandon_frame {s : State} {u : CkNo} :
    (State.ckAbandon s u).pending = s.pending ∧ (State.ckAbandon s u).die = s.die ∧ (State.ckAbandon s u).hid = s.hid ∧
    (State.ckAbandon s u).hub = s.hub ∧ (State.ckAbandon s u).host = s.host ∧ (State.ckAbandon s u).links = s.links ∧
    (State.ckAbandon s u).dies = s.dies ∧ (State.ckAbandon s u).chans = s.chans ∧ (State.ckAbandon s u).chains = s.chains ∧
    (State.ckAbandon s u).coef = s.coef ∧ (State.ckAbandon s u).fold = s.fold ∧ (State.ckAbandon s u).rfx = s.rfx ∧
    (State.ckAbandon s u).drv = s.drv ∧ (State.ckAbandon s u).sv = s.sv ∧ (State.ckAbandon s u).fw = s.fw ∧
    (State.ckAbandon s u).hk = s.hk ∧ (State.ckAbandon s u).ldg = s.ldg ∧ (State.ckAbandon s u).tk = s.tk ∧
    (State.ckAbandon s u).free = s.free := by
  unfold State.ckAbandon
  simp -implicitDefEqProofs
theorem State.wordHeld_frame {s : State} {u : U} {off new : Nat} {p : State × WRes} (h : s.wordHeld u off new = some p) :
    p.1.pending = s.pending ∧ p.1.die = s.die ∧ p.1.hid = s.hid ∧ p.1.hub = s.hub ∧ p.1.links = s.links ∧
    p.1.dies = s.dies ∧ p.1.chans = s.chans ∧ p.1.chains = s.chains ∧ p.1.coef = s.coef ∧ p.1.fold = s.fold ∧
    p.1.rfx = s.rfx ∧ p.1.drv = s.drv ∧ p.1.ck = s.ck ∧ p.1.sv = s.sv ∧ p.1.fw = s.fw ∧ p.1.hk = s.hk ∧ p.1.ldg = s.ldg ∧
    p.1.free = s.free := by
  unfold State.wordHeld at h
  (repeat' split at h) <;> simp at h <;> subst h <;> simp
@[simp] theorem State.imageSent_frame {s : State} {u : U} {off : Nat} :
    (State.imageSent s u off).1.pending = s.pending ∧ (State.imageSent s u off).1.die = s.die ∧
    (State.imageSent s u off).1.hid = s.hid ∧ (State.imageSent s u off).1.hub = s.hub ∧
    (State.imageSent s u off).1.host = s.host ∧ (State.imageSent s u off).1.dies = s.dies ∧
    (State.imageSent s u off).1.chains = s.chains ∧ (State.imageSent s u off).1.coef = s.coef ∧
    (State.imageSent s u off).1.fold = s.fold ∧ (State.imageSent s u off).1.rfx = s.rfx ∧
    (State.imageSent s u off).1.drv = s.drv ∧ (State.imageSent s u off).1.ck = s.ck ∧
    (State.imageSent s u off).1.sv = s.sv ∧ (State.imageSent s u off).1.fw = s.fw ∧ (State.imageSent s u off).1.hk = s.hk ∧
    (State.imageSent s u off).1.ldg = s.ldg ∧ (State.imageSent s u off).1.tk = s.tk ∧
    (State.imageSent s u off).1.free = s.free := by
  unfold State.imageSent
  (repeat' split) <;> simp -implicitDefEqProofs
@[simp] theorem State.bitsSent_frame {s : State} {g : Grp} {off : Nat} {x : Nat} :
    (State.bitsSent s g off x).1.pending = s.pending ∧ (State.bitsSent s g off x).1.die = s.die ∧
    (State.bitsSent s g off x).1.hid = s.hid ∧ (State.bitsSent s g off x).1.hub = s.hub ∧
    (State.bitsSent s g off x).1.host = s.host ∧ (State.bitsSent s g off x).1.dies = s.dies ∧
    (State.bitsSent s g off x).1.chains = s.chains ∧ (State.bitsSent s g off x).1.coef = s.coef ∧
    (State.bitsSent s g off x).1.fold = s.fold ∧ (State.bitsSent s g off x).1.rfx = s.rfx ∧
    (State.bitsSent s g off x).1.drv = s.drv ∧ (State.bitsSent s g off x).1.ck = s.ck ∧
    (State.bitsSent s g off x).1.sv = s.sv ∧ (State.bitsSent s g off x).1.fw = s.fw ∧
    (State.bitsSent s g off x).1.hk = s.hk ∧ (State.bitsSent s g off x).1.ldg = s.ldg ∧
    (State.bitsSent s g off x).1.tk = s.tk ∧ (State.bitsSent s g off x).1.free = s.free := by
  unfold State.bitsSent
  simp -implicitDefEqProofs
@[simp] theorem State.chDone_frame {s : State} {s0 : State} {rq : Req} {c : Ch} {off : Nat} {be : Fin 16} {x : Nat} :
    (State.chDone s s0 rq c off be x).1.pending = s.pending ∧ (State.chDone s s0 rq c off be x).1.die = s.die ∧
    (State.chDone s s0 rq c off be x).1.hid = s.hid ∧ (State.chDone s s0 rq c off be x).1.hub = s.hub ∧
    (State.chDone s s0 rq c off be x).1.dies = s.dies ∧ (State.chDone s s0 rq c off be x).1.chains = s.chains ∧
    (State.chDone s s0 rq c off be x).1.coef = s.coef ∧ (State.chDone s s0 rq c off be x).1.fold = s.fold ∧
    (State.chDone s s0 rq c off be x).1.rfx = s.rfx ∧ (State.chDone s s0 rq c off be x).1.drv = s.drv ∧
    (State.chDone s s0 rq c off be x).1.ck = s.ck ∧ (State.chDone s s0 rq c off be x).1.sv = s.sv ∧
    (State.chDone s s0 rq c off be x).1.hk = s.hk ∧ (State.chDone s s0 rq c off be x).1.ldg = s.ldg ∧
    (State.chDone s s0 rq c off be x).1.free = s.free := by
  unfold State.chDone
  simp -implicitDefEqProofs
@[simp] theorem State.grpDone_frame {s : State} {s0 : State} {rq : Req} {g : Grp} {off : Nat} {be : Fin 16} {x : Nat} :
    (State.grpDone s s0 rq g off be x).1.pending = s.pending ∧ (State.grpDone s s0 rq g off be x).1.die = s.die ∧
    (State.grpDone s s0 rq g off be x).1.hid = s.hid ∧ (State.grpDone s s0 rq g off be x).1.chains = s.chains ∧
    (State.grpDone s s0 rq g off be x).1.coef = s.coef ∧ (State.grpDone s s0 rq g off be x).1.fold = s.fold ∧
    (State.grpDone s s0 rq g off be x).1.drv = s.drv ∧ (State.grpDone s s0 rq g off be x).1.ck = s.ck ∧
    (State.grpDone s s0 rq g off be x).1.sv = s.sv ∧ (State.grpDone s s0 rq g off be x).1.free = s.free := by
  unfold State.grpDone
  simp -implicitDefEqProofs
@[simp] theorem State.chainDone_frame {s : State} {s0 : State} {k : Strm} {off : Nat} {x : Nat} :
    (State.chainDone s s0 k off x).pending = s.pending ∧ (State.chainDone s s0 k off x).die = s.die ∧
    (State.chainDone s s0 k off x).hid = s.hid ∧ (State.chainDone s s0 k off x).hub = s.hub ∧
    (State.chainDone s s0 k off x).links = s.links ∧ (State.chainDone s s0 k off x).dies = s.dies ∧
    (State.chainDone s s0 k off x).chans = s.chans ∧ (State.chainDone s s0 k off x).coef = s.coef ∧
    (State.chainDone s s0 k off x).fold = s.fold ∧ (State.chainDone s s0 k off x).rfx = s.rfx ∧
    (State.chainDone s s0 k off x).drv = s.drv ∧ (State.chainDone s s0 k off x).ck = s.ck ∧
    (State.chainDone s s0 k off x).sv = s.sv ∧ (State.chainDone s s0 k off x).fw = s.fw ∧
    (State.chainDone s s0 k off x).hk = s.hk ∧ (State.chainDone s s0 k off x).ldg = s.ldg ∧
    (State.chainDone s s0 k off x).free = s.free := by
  unfold State.chainDone
  simp -implicitDefEqProofs
@[simp] theorem State.ringCfg_frame {s : State} {r : RingNo} {m : Nat} {x : Nat} :
    (State.ringCfg s r m x).pending = s.pending ∧ (State.ringCfg s r m x).die = s.die ∧
    (State.ringCfg s r m x).hid = s.hid ∧ (State.ringCfg s r m x).hub = s.hub ∧ (State.ringCfg s r m x).dies = s.dies ∧
    (State.ringCfg s r m x).chains = s.chains ∧ (State.ringCfg s r m x).coef = s.coef ∧
    (State.ringCfg s r m x).rfx = s.rfx ∧ (State.ringCfg s r m x).drv = s.drv ∧ (State.ringCfg s r m x).ck = s.ck ∧
    (State.ringCfg s r m x).sv = s.sv ∧ (State.ringCfg s r m x).fw = s.fw ∧ (State.ringCfg s r m x).hk = s.hk ∧
    (State.ringCfg s r m x).ldg = s.ldg := by
  unfold State.ringCfg
  simp -implicitDefEqProofs
@[simp] theorem State.wordDone_frame {s : State} {s0 : State} {rq : Req} {u : U} {off : Nat} {be : Fin 16} {x : Nat} :
    (State.wordDone s s0 rq u off be x).1.pending = s.pending ∧ (State.wordDone s s0 rq u off be x).1.die = s.die ∧
    (State.wordDone s s0 rq u off be x).1.hid = s.hid ∧ (State.wordDone s s0 rq u off be x).1.coef = s.coef := by
  unfold State.wordDone
  (repeat' split) <;> simp -implicitDefEqProofs
theorem State.wordOwn_frame {s : State} {rq : Req} {u : U} {off : Nat} {be : Fin 16} {v : Nat} {p : State × WRes} (h : s.wordOwn rq u off be v = some p) :
    p.1.pending = s.pending ∧ p.1.die = s.die ∧ p.1.hid = s.hid ∧ p.1.dies = s.dies ∧ p.1.coef = s.coef ∧ p.1.rfx = s.rfx ∧
    p.1.drv = s.drv ∧ p.1.ck = s.ck ∧ p.1.sv = s.sv ∧ p.1.hk = s.hk := by
  unfold State.wordOwn at h
  dsimp only at h
  (repeat' split at h) <;> simp at h <;> subst h <;> simp
@[simp] theorem State.oneWrite_frame {s : State} {rq : Req} {u : U} {off : Nat} {addr : Nat} {be : Fin 16} {v : Nat} :
    (State.oneWrite s rq u off addr be v).1.pending = s.pending ∧ (State.oneWrite s rq u off addr be v).1.die = s.die ∧
    (State.oneWrite s rq u off addr be v).1.hid = s.hid ∧ (State.oneWrite s rq u off addr be v).1.coef = s.coef := by
  unfold State.oneWrite
  split
  · next p h => have := State.wordHeld_frame h; simp [this]
  · split
    · next p h => have := State.wordOwn_frame h; simp [this]
    · dsimp only
      (repeat' split) <;> simp
theorem State.pairHeld_frame {s : State} {u : U} {lo : Nat} {p : State × WRes} (h : s.pairHeld u lo = some p) :
    p.1.pending = s.pending ∧ p.1.die = s.die ∧ p.1.hid = s.hid ∧ p.1.hub = s.hub ∧ p.1.links = s.links ∧
    p.1.dies = s.dies ∧ p.1.chans = s.chans ∧ p.1.chains = s.chains ∧ p.1.coef = s.coef ∧ p.1.fold = s.fold ∧
    p.1.rfx = s.rfx ∧ p.1.drv = s.drv ∧ p.1.ck = s.ck ∧ p.1.sv = s.sv ∧ p.1.fw = s.fw ∧ p.1.hk = s.hk ∧ p.1.ldg = s.ldg ∧
    p.1.free = s.free := by
  unfold State.pairHeld at h
  (repeat' split at h) <;> simp at h <;> subst h <;> simp
@[simp] theorem State.pairWrite_frame {s : State} {u : U} {lo : Nat} {low : Option Nat} {high : Nat} :
    (State.pairWrite s u lo low high).1.pending = s.pending ∧ (State.pairWrite s u lo low high).1.die = s.die ∧
    (State.pairWrite s u lo low high).1.hid = s.hid ∧ (State.pairWrite s u lo low high).1.links = s.links ∧
    (State.pairWrite s u lo low high).1.dies = s.dies ∧ (State.pairWrite s u lo low high).1.chans = s.chans ∧
    (State.pairWrite s u lo low high).1.chains = s.chains ∧ (State.pairWrite s u lo low high).1.coef = s.coef ∧
    (State.pairWrite s u lo low high).1.fold = s.fold ∧ (State.pairWrite s u lo low high).1.rfx = s.rfx ∧
    (State.pairWrite s u lo low high).1.drv = s.drv ∧ (State.pairWrite s u lo low high).1.ck = s.ck ∧
    (State.pairWrite s u lo low high).1.sv = s.sv ∧ (State.pairWrite s u lo low high).1.fw = s.fw ∧
    (State.pairWrite s u lo low high).1.hk = s.hk ∧ (State.pairWrite s u lo low high).1.ldg = s.ldg ∧
    (State.pairWrite s u lo low high).1.free = s.free := by
  unfold State.pairWrite
  split
  · next p h => have := State.pairHeld_frame h; simp [this]
  · dsimp only
    (repeat' split) <;> simp
@[simp] theorem State.unitWrite_frame {s : State} {rq : Req} {u : U} {off : Nat} {addr : Nat} {be : Fin 16} {v : Nat} :
    (State.unitWrite s rq u off addr be v).1.pending = s.pending ∧ (State.unitWrite s rq u off addr be v).1.die = s.die ∧
    (State.unitWrite s rq u off addr be v).1.hid = s.hid ∧ (State.unitWrite s rq u off addr be v).1.coef = s.coef := by
  unfold State.unitWrite
  dsimp only
  split
  · simp
  · split
    · split
      · next p h => have := State.pairHeld_frame h; simp [this]
      · simp
    · (repeat' split) <;> simp
@[simp] theorem State.tableWrite_frame {s : State} {o : Nat} {be : Fin 16} {v : Nat} :
    (State.tableWrite s o be v).pending = s.pending ∧ (State.tableWrite s o be v).regs = s.regs ∧
    (State.tableWrite s o be v).die = s.die ∧ (State.tableWrite s o be v).hid = s.hid ∧
    (State.tableWrite s o be v).hub = s.hub ∧ (State.tableWrite s o be v).links = s.links ∧
    (State.tableWrite s o be v).dies = s.dies ∧ (State.tableWrite s o be v).chans = s.chans ∧
    (State.tableWrite s o be v).chains = s.chains ∧ (State.tableWrite s o be v).coef = s.coef ∧
    (State.tableWrite s o be v).fold = s.fold ∧ (State.tableWrite s o be v).rfx = s.rfx ∧
    (State.tableWrite s o be v).drv = s.drv ∧ (State.tableWrite s o be v).ck = s.ck ∧
    (State.tableWrite s o be v).sv = s.sv ∧ (State.tableWrite s o be v).fw = s.fw ∧ (State.tableWrite s o be v).hk = s.hk ∧
    (State.tableWrite s o be v).ldg = s.ldg ∧ (State.tableWrite s o be v).tk = s.tk ∧
    (State.tableWrite s o be v).free = s.free := by
  unfold State.tableWrite
  simp -implicitDefEqProofs
@[simp] theorem State.writeWord_frame {s : State} {rq : Req} {addr : Nat} {be : Fin 16} {v : Nat} :
    (State.writeWord s rq addr be v).1.pending = s.pending ∧ (State.writeWord s rq addr be v).1.die = s.die ∧
    (State.writeWord s rq addr be v).1.hid = s.hid := by
  unfold State.writeWord
  try dsimp only
  (repeat' split) <;> simp -implicitDefEqProofs
@[simp] theorem State.hostDiscard_frame {s : State} :
    (State.hostDiscard s).pending = s.pending ∧ (State.hostDiscard s).die = s.die ∧ (State.hostDiscard s).hid = s.hid ∧
    (State.hostDiscard s).hub = s.hub ∧ (State.hostDiscard s).links = s.links ∧ (State.hostDiscard s).dies = s.dies ∧
    (State.hostDiscard s).chans = s.chans ∧ (State.hostDiscard s).chains = s.chains ∧ (State.hostDiscard s).coef = s.coef ∧
    (State.hostDiscard s).fold = s.fold ∧ (State.hostDiscard s).rfx = s.rfx ∧ (State.hostDiscard s).drv = s.drv ∧
    (State.hostDiscard s).ck = s.ck ∧ (State.hostDiscard s).sv = s.sv ∧ (State.hostDiscard s).fw = s.fw ∧
    (State.hostDiscard s).hk = s.hk ∧ (State.hostDiscard s).ldg = s.ldg ∧ (State.hostDiscard s).free = s.free := by
  unfold State.hostDiscard
  simp -implicitDefEqProofs
@[simp] theorem State.writeBy_frame {s : State} {rq : Req} {addr : Nat} {be : Fin 16} {v : Nat} :
    (State.writeBy s rq addr be v).pending = s.pending ∧ (State.writeBy s rq addr be v).die = s.die ∧
    (State.writeBy s rq addr be v).hid = s.hid := by
  unfold State.writeBy
  try dsimp only
  (repeat' split) <;> simp_all -implicitDefEqProofs

end Sys2Proof.Machine
end

