-- ==== Sys2Proof/Laws/Frame6.lean ====
section
/-! SUPPORT. What the Drover transfers, ring 0 commands and the supervisor port leave unchanged: one lemma for each operation. -/

set_option Elab.async false

namespace Sys2Proof.Machine

@[simp] theorem State.dlWriteAt_frame {s : State} {g : Grp} {off : Nat} :
    (State.dlWriteAt s g off).pending = s.pending ∧ (State.dlWriteAt s g off).hid = s.hid ∧
    (State.dlWriteAt s g off).hub = s.hub ∧ (State.dlWriteAt s g off).links = s.links ∧
    (State.dlWriteAt s g off).coef = s.coef ∧ (State.dlWriteAt s g off).fold = s.fold ∧
    (State.dlWriteAt s g off).drv = s.drv ∧ (State.dlWriteAt s g off).ck = s.ck ∧ (State.dlWriteAt s g off).sv = s.sv ∧
    (State.dlWriteAt s g off).fw = s.fw ∧ (State.dlWriteAt s g off).hk = s.hk ∧ (State.dlWriteAt s g off).ldg = s.ldg := by
  unfold State.dlWriteAt
  (repeat' split) <;> simp -implicitDefEqProofs
@[simp] theorem State.clearAt_frame {s : State} {c : Ch} {i : Int} {clamp : Bool} :
    (State.clearAt s c i clamp).pending = s.pending ∧ (State.clearAt s c i clamp).regs = s.regs ∧
    (State.clearAt s c i clamp).hid = s.hid ∧ (State.clearAt s c i clamp).hub = s.hub ∧
    (State.clearAt s c i clamp).host = s.host ∧ (State.clearAt s c i clamp).links = s.links ∧
    (State.clearAt s c i clamp).chains = s.chains ∧ (State.clearAt s c i clamp).coef = s.coef ∧
    (State.clearAt s c i clamp).fold = s.fold ∧ (State.clearAt s c i clamp).rfx = s.rfx ∧
    (State.clearAt s c i clamp).drv = s.drv ∧ (State.clearAt s c i clamp).ck = s.ck ∧
    (State.clearAt s c i clamp).sv = s.sv ∧ (State.clearAt s c i clamp).fw = s.fw ∧ (State.clearAt s c i clamp).hk = s.hk ∧
    (State.clearAt s c i clamp).ldg = s.ldg ∧ (State.clearAt s c i clamp).tk = s.tk ∧
    (State.clearAt s c i clamp).free = s.free := by
  unfold State.clearAt
  (repeat' split) <;> simp -implicitDefEqProofs
@[simp] theorem State.serveHeld_frame {s : State} {x : HostReq} :
    (State.serveHeld s x).pending = s.pending ∧ (State.serveHeld s x).die = s.die ∧ (State.serveHeld s x).hid = s.hid := by
  unfold State.serveHeld
  (repeat' split) <;> simp -implicitDefEqProofs
@[simp] theorem State.countBlocked_frame {s : State} :
    (State.countBlocked s).pending = s.pending ∧ (State.countBlocked s).die = s.die ∧ (State.countBlocked s).hid = s.hid ∧
    (State.countBlocked s).hub = s.hub ∧ (State.countBlocked s).links = s.links ∧ (State.countBlocked s).dies = s.dies ∧
    (State.countBlocked s).chans = s.chans ∧ (State.countBlocked s).chains = s.chains ∧
    (State.countBlocked s).coef = s.coef ∧ (State.countBlocked s).fold = s.fold ∧ (State.countBlocked s).rfx = s.rfx ∧
    (State.countBlocked s).drv = s.drv ∧ (State.countBlocked s).ck = s.ck ∧ (State.countBlocked s).sv = s.sv ∧
    (State.countBlocked s).fw = s.fw ∧ (State.countBlocked s).hk = s.hk ∧ (State.countBlocked s).ldg = s.ldg ∧
    (State.countBlocked s).free = s.free := by
  unfold State.countBlocked
  simp -implicitDefEqProofs
@[simp] theorem State.crossingDelivery_frame {s : State} :
    (State.crossingDelivery s).pending = s.pending ∧ (State.crossingDelivery s).die = s.die ∧
    (State.crossingDelivery s).hid = s.hid := by
  unfold State.crossingDelivery
  (repeat' split) <;> simp -implicitDefEqProofs
@[simp] theorem State.fwDerate_frame {s : State} {c : Ch} :
    (State.fwDerate s c).pending = s.pending ∧ (State.fwDerate s c).die = s.die ∧ (State.fwDerate s c).hid = s.hid := by
  unfold State.fwDerate
  simp -implicitDefEqProofs
@[simp] theorem State.ckFeed_frame {s : State} {u : CkNo} {l : List Byte} :
    (State.ckFeed s u l).pending = s.pending ∧ (State.ckFeed s u l).die = s.die ∧ (State.ckFeed s u l).hid = s.hid ∧
    (State.ckFeed s u l).hub = s.hub ∧ (State.ckFeed s u l).host = s.host ∧ (State.ckFeed s u l).links = s.links ∧
    (State.ckFeed s u l).dies = s.dies ∧ (State.ckFeed s u l).chans = s.chans ∧ (State.ckFeed s u l).chains = s.chains ∧
    (State.ckFeed s u l).coef = s.coef ∧ (State.ckFeed s u l).fold = s.fold ∧ (State.ckFeed s u l).rfx = s.rfx ∧
    (State.ckFeed s u l).drv = s.drv ∧ (State.ckFeed s u l).ck = s.ck ∧ (State.ckFeed s u l).sv = s.sv ∧
    (State.ckFeed s u l).fw = s.fw ∧ (State.ckFeed s u l).hk = s.hk ∧ (State.ckFeed s u l).ldg = s.ldg ∧
    (State.ckFeed s u l).tk = s.tk ∧ (State.ckFeed s u l).free = s.free := by
  unfold State.ckFeed
  simp -implicitDefEqProofs
@[simp] theorem State.ckOpen_frame {s : State} {u : CkNo} {d : Desc} :
    (State.ckOpen s u d).pending = s.pending ∧ (State.ckOpen s u d).die = s.die ∧ (State.ckOpen s u d).hid = s.hid ∧
    (State.ckOpen s u d).hub = s.hub ∧ (State.ckOpen s u d).host = s.host ∧ (State.ckOpen s u d).links = s.links ∧
    (State.ckOpen s u d).dies = s.dies ∧ (State.ckOpen s u d).chans = s.chans ∧ (State.ckOpen s u d).chains = s.chains ∧
    (State.ckOpen s u d).coef = s.coef ∧ (State.ckOpen s u d).fold = s.fold ∧ (State.ckOpen s u d).rfx = s.rfx ∧
    (State.ckOpen s u d).drv = s.drv ∧ (State.ckOpen s u d).sv = s.sv ∧ (State.ckOpen s u d).fw = s.fw ∧
    (State.ckOpen s u d).hk = s.hk ∧ (State.ckOpen s u d).ldg = s.ldg ∧ (State.ckOpen s u d).tk = s.tk ∧
    (State.ckOpen s u d).free = s.free := by
  unfold State.ckOpen
  simp -implicitDefEqProofs
@[simp] theorem State.ckEnsure_frame {s : State} {u : CkNo} {d : Desc} :
    (State.ckEnsure s u d).pending = s.pending ∧ (State.ckEnsure s u d).die = s.die ∧ (State.ckEnsure s u d).hid = s.hid ∧
    (State.ckEnsure s u d).hub = s.hub ∧ (State.ckEnsure s u d).host = s.host ∧ (State.ckEnsure s u d).links = s.links ∧
    (State.ckEnsure s u d).dies = s.dies ∧ (State.ckEnsure s u d).chans = s.chans ∧
    (State.ckEnsure s u d).chains = s.chains ∧ (State.ckEnsure s u d).coef = s.coef ∧ (State.ckEnsure s u d).fold = s.fold ∧
    (State.ckEnsure s u d).rfx = s.rfx ∧ (State.ckEnsure s u d).drv = s.drv ∧ (State.ckEnsure s u d).sv = s.sv ∧
    (State.ckEnsure s u d).fw = s.fw ∧ (State.ckEnsure s u d).hk = s.hk ∧ (State.ckEnsure s u d).ldg = s.ldg ∧
    (State.ckEnsure s u d).tk = s.tk ∧ (State.ckEnsure s u d).free = s.free := by
  unfold State.ckEnsure
  simp -implicitDefEqProofs
@[simp] theorem State.ckKeep_frame {s : State} {u : CkNo} :
    (State.ckKeep s u).pending = s.pending ∧ (State.ckKeep s u).regs = s.regs ∧ (State.ckKeep s u).die = s.die ∧
    (State.ckKeep s u).hid = s.hid ∧ (State.ckKeep s u).hub = s.hub ∧ (State.ckKeep s u).host = s.host ∧
    (State.ckKeep s u).links = s.links ∧ (State.ckKeep s u).dies = s.dies ∧ (State.ckKeep s u).chans = s.chans ∧
    (State.ckKeep s u).chains = s.chains ∧ (State.ckKeep s u).coef = s.coef ∧ (State.ckKeep s u).fold = s.fold ∧
    (State.ckKeep s u).rfx = s.rfx ∧ (State.ckKeep s u).drv = s.drv ∧ (State.ckKeep s u).sv = s.sv ∧
    (State.ckKeep s u).fw = s.fw ∧ (State.ckKeep s u).hk = s.hk ∧ (State.ckKeep s u).ldg = s.ldg ∧
    (State.ckKeep s u).tk = s.tk ∧ (State.ckKeep s u).free = s.free := by
  unfold State.ckKeep
  simp -implicitDefEqProofs
@[simp] theorem State.ckClose_frame {s : State} {u : CkNo} :
    (State.ckClose s u).pending = s.pending ∧ (State.ckClose s u).die = s.die ∧ (State.ckClose s u).hid = s.hid ∧
    (State.ckClose s u).hub = s.hub ∧ (State.ckClose s u).host = s.host ∧ (State.ckClose s u).links = s.links ∧
    (State.ckClose s u).dies = s.dies ∧ (State.ckClose s u).chans = s.chans ∧ (State.ckClose s u).chains = s.chains ∧
    (State.ckClose s u).coef = s.coef ∧ (State.ckClose s u).fold = s.fold ∧ (State.ckClose s u).rfx = s.rfx ∧
    (State.ckClose s u).drv = s.drv ∧ (State.ckClose s u).sv = s.sv ∧ (State.ckClose s u).fw = s.fw ∧
    (State.ckClose s u).hk = s.hk ∧ (State.ckClose s u).ldg = s.ldg ∧ (State.ckClose s u).tk = s.tk ∧
    (State.ckClose s u).free = s.free := by
  unfold State.ckClose
  simp -implicitDefEqProofs
@[simp] theorem State.ckGood_frame {s : State} {u : CkNo} :
    (State.ckGood s u).pending = s.pending ∧ (State.ckGood s u).die = s.die ∧ (State.ckGood s u).hid = s.hid ∧
    (State.ckGood s u).hub = s.hub ∧ (State.ckGood s u).links = s.links ∧ (State.ckGood s u).dies = s.dies ∧
    (State.ckGood s u).chans = s.chans ∧ (State.ckGood s u).chains = s.chains ∧ (State.ckGood s u).coef = s.coef ∧
    (State.ckGood s u).fold = s.fold ∧ (State.ckGood s u).rfx = s.rfx ∧ (State.ckGood s u).drv = s.drv ∧
    (State.ckGood s u).sv = s.sv ∧ (State.ckGood s u).fw = s.fw ∧ (State.ckGood s u).hk = s.hk ∧
    (State.ckGood s u).ldg = s.ldg ∧ (State.ckGood s u).free = s.free := by
  unfold State.ckGood
  simp -implicitDefEqProofs
@[simp] theorem State.ckBad_frame {s : State} {u : CkNo} {reason : Nat} :
    (State.ckBad s u reason).pending = s.pending ∧ (State.ckBad s u reason).die = s.die ∧
    (State.ckBad s u reason).hid = s.hid ∧ (State.ckBad s u reason).hub = s.hub ∧ (State.ckBad s u reason).links = s.links ∧
    (State.ckBad s u reason).dies = s.dies ∧ (State.ckBad s u reason).chans = s.chans ∧
    (State.ckBad s u reason).chains = s.chains ∧ (State.ckBad s u reason).coef = s.coef ∧
    (State.ckBad s u reason).fold = s.fold ∧ (State.ckBad s u reason).rfx = s.rfx ∧ (State.ckBad s u reason).drv = s.drv ∧
    (State.ckBad s u reason).sv = s.sv ∧ (State.ckBad s u reason).fw = s.fw ∧ (State.ckBad s u reason).hk = s.hk ∧
    (State.ckBad s u reason).ldg = s.ldg ∧ (State.ckBad s u reason).free = s.free := by
  unfold State.ckBad
  simp -implicitDefEqProofs
@[simp] theorem State.dataWrites_frame {s : State} {l : List (Nat × List Byte)} :
    (State.dataWrites s l).pending = s.pending ∧ (State.dataWrites s l).regs = s.regs ∧ (State.dataWrites s l).die = s.die ∧
    (State.dataWrites s l).hid = s.hid ∧ (State.dataWrites s l).hub = s.hub ∧ (State.dataWrites s l).links = s.links ∧
    (State.dataWrites s l).dies = s.dies ∧ (State.dataWrites s l).chans = s.chans ∧
    (State.dataWrites s l).chains = s.chains ∧ (State.dataWrites s l).coef = s.coef ∧ (State.dataWrites s l).fold = s.fold ∧
    (State.dataWrites s l).rfx = s.rfx ∧ (State.dataWrites s l).drv = s.drv ∧ (State.dataWrites s l).ck = s.ck ∧
    (State.dataWrites s l).sv = s.sv ∧ (State.dataWrites s l).fw = s.fw ∧ (State.dataWrites s l).hk = s.hk ∧
    (State.dataWrites s l).ldg = s.ldg ∧ (State.dataWrites s l).tk = s.tk ∧ (State.dataWrites s l).free = s.free := by
  unfold State.dataWrites
  simp -implicitDefEqProofs
@[simp] theorem State.spaceRead_frame {s : State} {k : DrvNo} {sp : Nat} {a : Nat} :
    (State.spaceRead s k sp a).2.pending = s.pending ∧ (State.spaceRead s k sp a).2.die = s.die ∧
    (State.spaceRead s k sp a).2.hid = s.hid ∧ (State.spaceRead s k sp a).2.links = s.links ∧
    (State.spaceRead s k sp a).2.dies = s.dies ∧ (State.spaceRead s k sp a).2.chans = s.chans ∧
    (State.spaceRead s k sp a).2.chains = s.chains ∧ (State.spaceRead s k sp a).2.coef = s.coef ∧
    (State.spaceRead s k sp a).2.fold = s.fold ∧ (State.spaceRead s k sp a).2.rfx = s.rfx ∧
    (State.spaceRead s k sp a).2.ck = s.ck ∧ (State.spaceRead s k sp a).2.sv = s.sv ∧
    (State.spaceRead s k sp a).2.fw = s.fw ∧ (State.spaceRead s k sp a).2.hk = s.hk ∧
    (State.spaceRead s k sp a).2.ldg = s.ldg ∧ (State.spaceRead s k sp a).2.free = s.free := by
  unfold State.spaceRead
  simp -implicitDefEqProofs
@[simp] theorem State.elemRead_frame {s : State} {k : DrvNo} {sp : Nat} {a : Nat} {n : Nat} :
    (State.elemRead s k sp a n).2.pending = s.pending ∧ (State.elemRead s k sp a n).2.die = s.die ∧
    (State.elemRead s k sp a n).2.hid = s.hid ∧ (State.elemRead s k sp a n).2.links = s.links ∧
    (State.elemRead s k sp a n).2.dies = s.dies ∧ (State.elemRead s k sp a n).2.chans = s.chans ∧
    (State.elemRead s k sp a n).2.chains = s.chains ∧ (State.elemRead s k sp a n).2.coef = s.coef ∧
    (State.elemRead s k sp a n).2.fold = s.fold ∧ (State.elemRead s k sp a n).2.rfx = s.rfx ∧
    (State.elemRead s k sp a n).2.ck = s.ck ∧ (State.elemRead s k sp a n).2.sv = s.sv ∧
    (State.elemRead s k sp a n).2.fw = s.fw ∧ (State.elemRead s k sp a n).2.hk = s.hk ∧
    (State.elemRead s k sp a n).2.ldg = s.ldg ∧ (State.elemRead s k sp a n).2.free = s.free := by
  unfold State.elemRead
  repeat' apply And.intro
  all_goals (refine (State.foldl_snd_keep _ (fun q x => ?_) _ _).trans ?_)
  all_goals first | rfl | simp
@[simp] theorem State.gatherElems_frame {s : State} {k : DrvNo} {d : Desc} {l : List (Nat × Nat)} :
    (State.gatherElems s k d l).2.pending = s.pending ∧ (State.gatherElems s k d l).2.die = s.die ∧
    (State.gatherElems s k d l).2.hid = s.hid ∧ (State.gatherElems s k d l).2.links = s.links ∧
    (State.gatherElems s k d l).2.dies = s.dies ∧ (State.gatherElems s k d l).2.chans = s.chans ∧
    (State.gatherElems s k d l).2.chains = s.chains ∧ (State.gatherElems s k d l).2.coef = s.coef ∧
    (State.gatherElems s k d l).2.fold = s.fold ∧ (State.gatherElems s k d l).2.rfx = s.rfx ∧
    (State.gatherElems s k d l).2.ck = s.ck ∧ (State.gatherElems s k d l).2.sv = s.sv ∧
    (State.gatherElems s k d l).2.fw = s.fw ∧ (State.gatherElems s k d l).2.hk = s.hk ∧
    (State.gatherElems s k d l).2.ldg = s.ldg ∧ (State.gatherElems s k d l).2.free = s.free := by
  unfold State.gatherElems
  split
  · simp
  · dsimp only
    repeat' apply And.intro
    all_goals (refine (State.foldl_snd_keep _ (fun q x => ?_) _ _).trans ?_)
    all_goals first | rfl | simp
@[simp] theorem State.gather_frame {s : State} {k : DrvNo} {d : Desc} :
    (State.gather s k d).2.pending = s.pending ∧ (State.gather s k d).2.die = s.die ∧ (State.gather s k d).2.hid = s.hid ∧
    (State.gather s k d).2.links = s.links ∧ (State.gather s k d).2.dies = s.dies ∧ (State.gather s k d).2.chans = s.chans ∧
    (State.gather s k d).2.chains = s.chains ∧ (State.gather s k d).2.coef = s.coef ∧ (State.gather s k d).2.fold = s.fold ∧
    (State.gather s k d).2.rfx = s.rfx ∧ (State.gather s k d).2.ck = s.ck ∧ (State.gather s k d).2.sv = s.sv ∧
    (State.gather s k d).2.fw = s.fw ∧ (State.gather s k d).2.hk = s.hk ∧ (State.gather s k d).2.ldg = s.ldg ∧
    (State.gather s k d).2.free = s.free := by
  unfold State.gather
  try dsimp only
  simp -implicitDefEqProofs
@[simp] theorem State.devDiscard_frame {s : State} {k : DrvNo} :
    (State.devDiscard s k).pending = s.pending ∧ (State.devDiscard s k).die = s.die ∧ (State.devDiscard s k).hid = s.hid ∧
    (State.devDiscard s k).hub = s.hub ∧ (State.devDiscard s k).host = s.host ∧ (State.devDiscard s k).links = s.links ∧
    (State.devDiscard s k).dies = s.dies ∧ (State.devDiscard s k).chans = s.chans ∧
    (State.devDiscard s k).chains = s.chains ∧ (State.devDiscard s k).coef = s.coef ∧ (State.devDiscard s k).fold = s.fold ∧
    (State.devDiscard s k).rfx = s.rfx ∧ (State.devDiscard s k).drv = s.drv ∧ (State.devDiscard s k).ck = s.ck ∧
    (State.devDiscard s k).sv = s.sv ∧ (State.devDiscard s k).fw = s.fw ∧ (State.devDiscard s k).hk = s.hk ∧
    (State.devDiscard s k).ldg = s.ldg ∧ (State.devDiscard s k).tk = s.tk ∧ (State.devDiscard s k).free = s.free := by
  unfold State.devDiscard
  simp -implicitDefEqProofs
@[simp] theorem State.spaceWrite_frame {s : State} {k : DrvNo} {sp : Nat} {a : Nat} {v : Nat} :
    (State.spaceWrite s k sp a v).pending = s.pending ∧ (State.spaceWrite s k sp a v).die = s.die ∧
    (State.spaceWrite s k sp a v).hid = s.hid := by
  unfold State.spaceWrite
  simp -implicitDefEqProofs
@[simp] theorem State.deliverElems_frame {s : State} {k : DrvNo} {d : Desc} {l : List (Nat × Nat)} {data : List Byte} :
    (State.deliverElems s k d l data).pending = s.pending ∧ (State.deliverElems s k d l data).die = s.die ∧
    (State.deliverElems s k d l data).hid = s.hid := by
  unfold State.deliverElems
  simp -implicitDefEqProofs
@[simp] theorem State.deliver_frame {s : State} {k : DrvNo} {d : Desc} {data : List Byte} :
    (State.deliver s k d data).pending = s.pending ∧ (State.deliver s k d data).die = s.die ∧
    (State.deliver s k d data).hid = s.hid := by
  unfold State.deliver
  simp -implicitDefEqProofs
@[simp] theorem State.drvBegin_frame {s : State} {k : DrvNo} {d : Desc} :
    (State.drvBegin s k d).pending = s.pending ∧ (State.drvBegin s k d).die = s.die ∧ (State.drvBegin s k d).hid = s.hid ∧
    (State.drvBegin s k d).hub = s.hub ∧ (State.drvBegin s k d).links = s.links ∧ (State.drvBegin s k d).dies = s.dies ∧
    (State.drvBegin s k d).chans = s.chans ∧ (State.drvBegin s k d).chains = s.chains ∧
    (State.drvBegin s k d).coef = s.coef ∧ (State.drvBegin s k d).fold = s.fold ∧ (State.drvBegin s k d).rfx = s.rfx ∧
    (State.drvBegin s k d).sv = s.sv ∧ (State.drvBegin s k d).fw = s.fw ∧ (State.drvBegin s k d).hk = s.hk ∧
    (State.drvBegin s k d).ldg = s.ldg ∧ (State.drvBegin s k d).tk = s.tk ∧ (State.drvBegin s k d).free = s.free := by
  unfold State.drvBegin
  try dsimp only
  (repeat' split) <;> simp -implicitDefEqProofs
@[simp] theorem State.drvAwait_frame {s : State} {k : DrvNo} {a : Nat} :
    (State.drvAwait s k a).pending = s.pending ∧ (State.drvAwait s k a).die = s.die ∧ (State.drvAwait s k a).hid = s.hid ∧
    (State.drvAwait s k a).hub = s.hub ∧ (State.drvAwait s k a).host = s.host ∧ (State.drvAwait s k a).links = s.links ∧
    (State.drvAwait s k a).dies = s.dies ∧ (State.drvAwait s k a).chans = s.chans ∧
    (State.drvAwait s k a).chains = s.chains ∧ (State.drvAwait s k a).coef = s.coef ∧ (State.drvAwait s k a).fold = s.fold ∧
    (State.drvAwait s k a).rfx = s.rfx ∧ (State.drvAwait s k a).ck = s.ck ∧ (State.drvAwait s k a).sv = s.sv ∧
    (State.drvAwait s k a).fw = s.fw ∧ (State.drvAwait s k a).hk = s.hk ∧ (State.drvAwait s k a).ldg = s.ldg ∧
    (State.drvAwait s k a).tk = s.tk ∧ (State.drvAwait s k a).free = s.free := by
  unfold State.drvAwait
  simp -implicitDefEqProofs
@[simp] theorem State.drvLast_frame {s : State} {k : DrvNo} {d : Desc} :
    (State.drvLast s k d).pending = s.pending ∧ (State.drvLast s k d).die = s.die ∧ (State.drvLast s k d).hid = s.hid ∧
    (State.drvLast s k d).hub = s.hub ∧ (State.drvLast s k d).links = s.links ∧ (State.drvLast s k d).dies = s.dies ∧
    (State.drvLast s k d).chans = s.chans ∧ (State.drvLast s k d).chains = s.chains ∧ (State.drvLast s k d).coef = s.coef ∧
    (State.drvLast s k d).fold = s.fold ∧ (State.drvLast s k d).rfx = s.rfx ∧ (State.drvLast s k d).ck = s.ck ∧
    (State.drvLast s k d).sv = s.sv ∧ (State.drvLast s k d).fw = s.fw ∧ (State.drvLast s k d).hk = s.hk ∧
    (State.drvLast s k d).ldg = s.ldg ∧ (State.drvLast s k d).free = s.free := by
  unfold State.drvLast
  simp -implicitDefEqProofs
@[simp] theorem State.drvDone_frame {s : State} {k : DrvNo} {d : Desc} :
    (State.drvDone s k d).pending = s.pending ∧ (State.drvDone s k d).die = s.die ∧ (State.drvDone s k d).hid = s.hid ∧
    (State.drvDone s k d).hub = s.hub ∧ (State.drvDone s k d).links = s.links ∧ (State.drvDone s k d).dies = s.dies ∧
    (State.drvDone s k d).chans = s.chans ∧ (State.drvDone s k d).chains = s.chains ∧ (State.drvDone s k d).coef = s.coef ∧
    (State.drvDone s k d).fold = s.fold ∧ (State.drvDone s k d).rfx = s.rfx ∧ (State.drvDone s k d).drv = s.drv ∧
    (State.drvDone s k d).ck = s.ck ∧ (State.drvDone s k d).sv = s.sv ∧ (State.drvDone s k d).fw = s.fw ∧
    (State.drvDone s k d).hk = s.hk ∧ (State.drvDone s k d).ldg = s.ldg ∧ (State.drvDone s k d).free = s.free := by
  unfold State.drvDone
  simp -implicitDefEqProofs
@[simp] theorem State.zeroRun_frame {s : State} {k : DrvNo} {d : Desc} :
    (State.zeroRun s k d).2.pending = s.pending ∧ (State.zeroRun s k d).2.die = s.die ∧
    (State.zeroRun s k d).2.hid = s.hid ∧ (State.zeroRun s k d).2.hub = s.hub ∧ (State.zeroRun s k d).2.links = s.links ∧
    (State.zeroRun s k d).2.dies = s.dies ∧ (State.zeroRun s k d).2.chans = s.chans ∧
    (State.zeroRun s k d).2.chains = s.chains ∧ (State.zeroRun s k d).2.coef = s.coef ∧
    (State.zeroRun s k d).2.fold = s.fold ∧ (State.zeroRun s k d).2.rfx = s.rfx ∧ (State.zeroRun s k d).2.ck = s.ck ∧
    (State.zeroRun s k d).2.sv = s.sv ∧ (State.zeroRun s k d).2.fw = s.fw ∧ (State.zeroRun s k d).2.hk = s.hk ∧
    (State.zeroRun s k d).2.ldg = s.ldg ∧ (State.zeroRun s k d).2.free = s.free := by
  unfold State.zeroRun
  simp -implicitDefEqProofs
@[simp] theorem State.ckOut_frame {s : State} {k : DrvNo} {d : Desc} :
    (State.ckOut s k d).pending = s.pending ∧ (State.ckOut s k d).die = s.die ∧ (State.ckOut s k d).hid = s.hid ∧
    (State.ckOut s k d).hub = s.hub ∧ (State.ckOut s k d).links = s.links ∧ (State.ckOut s k d).dies = s.dies ∧
    (State.ckOut s k d).chans = s.chans ∧ (State.ckOut s k d).chains = s.chains ∧ (State.ckOut s k d).coef = s.coef ∧
    (State.ckOut s k d).fold = s.fold ∧ (State.ckOut s k d).rfx = s.rfx ∧ (State.ckOut s k d).drv = s.drv ∧
    (State.ckOut s k d).sv = s.sv ∧ (State.ckOut s k d).fw = s.fw ∧ (State.ckOut s k d).hk = s.hk ∧
    (State.ckOut s k d).ldg = s.ldg ∧ (State.ckOut s k d).free = s.free := by
  unfold State.ckOut
  (repeat' split) <;> simp -implicitDefEqProofs
@[simp] theorem State.drvFail_frame {s : State} {k : DrvNo} {u : CkNo} {reason : Nat} {d : Desc} :
    (State.drvFail s k u reason d).pending = s.pending ∧ (State.drvFail s k u reason d).die = s.die ∧
    (State.drvFail s k u reason d).hid = s.hid ∧ (State.drvFail s k u reason d).hub = s.hub ∧
    (State.drvFail s k u reason d).links = s.links ∧ (State.drvFail s k u reason d).dies = s.dies ∧
    (State.drvFail s k u reason d).chans = s.chans ∧ (State.drvFail s k u reason d).chains = s.chains ∧
    (State.drvFail s k u reason d).coef = s.coef ∧ (State.drvFail s k u reason d).fold = s.fold ∧
    (State.drvFail s k u reason d).rfx = s.rfx ∧ (State.drvFail s k u reason d).sv = s.sv ∧
    (State.drvFail s k u reason d).fw = s.fw ∧ (State.drvFail s k u reason d).hk = s.hk ∧
    (State.drvFail s k u reason d).ldg = s.ldg ∧ (State.drvFail s k u reason d).free = s.free := by
  unfold State.drvFail
  simp -implicitDefEqProofs
@[simp] theorem State.drvTake_frame {s : State} {k : DrvNo} {d : Desc} :
    (State.drvTake s k d).pending = s.pending ∧ (State.drvTake s k d).die = s.die ∧ (State.drvTake s k d).hid = s.hid ∧
    (State.drvTake s k d).hub = s.hub ∧ (State.drvTake s k d).links = s.links ∧ (State.drvTake s k d).dies = s.dies ∧
    (State.drvTake s k d).chans = s.chans ∧ (State.drvTake s k d).chains = s.chains ∧ (State.drvTake s k d).coef = s.coef ∧
    (State.drvTake s k d).fold = s.fold ∧ (State.drvTake s k d).rfx = s.rfx ∧ (State.drvTake s k d).sv = s.sv ∧
    (State.drvTake s k d).fw = s.fw ∧ (State.drvTake s k d).hk = s.hk ∧ (State.drvTake s k d).ldg = s.ldg ∧
    (State.drvTake s k d).free = s.free := by
  unfold State.drvTake
  try dsimp only
  (repeat' split) <;> simp -implicitDefEqProofs
@[simp] theorem State.drvNext_frame {s : State} {k : DrvNo} {d : Desc} :
    (State.drvNext s k d).pending = s.pending ∧ (State.drvNext s k d).die = s.die ∧ (State.drvNext s k d).hid = s.hid ∧
    (State.drvNext s k d).hub = s.hub ∧ (State.drvNext s k d).links = s.links ∧ (State.drvNext s k d).dies = s.dies ∧
    (State.drvNext s k d).chans = s.chans ∧ (State.drvNext s k d).chains = s.chains ∧ (State.drvNext s k d).coef = s.coef ∧
    (State.drvNext s k d).fold = s.fold ∧ (State.drvNext s k d).rfx = s.rfx ∧ (State.drvNext s k d).sv = s.sv ∧
    (State.drvNext s k d).fw = s.fw ∧ (State.drvNext s k d).hk = s.hk ∧ (State.drvNext s k d).ldg = s.ldg ∧
    (State.drvNext s k d).free = s.free := by
  unfold State.drvNext
  try dsimp only
  (repeat' split) <;> simp -implicitDefEqProofs
@[simp] theorem State.drvFinish_frame {s : State} {k : DrvNo} {d : Desc} :
    (State.drvFinish s k d).pending = s.pending ∧ (State.drvFinish s k d).die = s.die ∧
    (State.drvFinish s k d).hid = s.hid ∧ (State.drvFinish s k d).hub = s.hub ∧ (State.drvFinish s k d).links = s.links ∧
    (State.drvFinish s k d).dies = s.dies ∧ (State.drvFinish s k d).chans = s.chans ∧
    (State.drvFinish s k d).chains = s.chains ∧ (State.drvFinish s k d).coef = s.coef ∧
    (State.drvFinish s k d).fold = s.fold ∧ (State.drvFinish s k d).rfx = s.rfx ∧ (State.drvFinish s k d).sv = s.sv ∧
    (State.drvFinish s k d).fw = s.fw ∧ (State.drvFinish s k d).hk = s.hk ∧ (State.drvFinish s k d).ldg = s.ldg ∧
    (State.drvFinish s k d).free = s.free := by
  unfold State.drvFinish
  try dsimp only
  (repeat' split) <;> simp -implicitDefEqProofs
@[simp] theorem State.descArrives_frame {s : State} {k : DrvNo} {bytes : List Byte} :
    (State.descArrives s k bytes).pending = s.pending ∧ (State.descArrives s k bytes).die = s.die ∧
    (State.descArrives s k bytes).hid = s.hid ∧ (State.descArrives s k bytes).hub = s.hub ∧
    (State.descArrives s k bytes).links = s.links ∧ (State.descArrives s k bytes).dies = s.dies ∧
    (State.descArrives s k bytes).chans = s.chans ∧ (State.descArrives s k bytes).chains = s.chains ∧
    (State.descArrives s k bytes).coef = s.coef ∧ (State.descArrives s k bytes).fold = s.fold ∧
    (State.descArrives s k bytes).rfx = s.rfx ∧ (State.descArrives s k bytes).sv = s.sv ∧
    (State.descArrives s k bytes).fw = s.fw ∧ (State.descArrives s k bytes).hk = s.hk ∧
    (State.descArrives s k bytes).ldg = s.ldg ∧ (State.descArrives s k bytes).free = s.free := by
  unfold State.descArrives
  try dsimp only
  (repeat' split) <;> simp -implicitDefEqProofs
@[simp] theorem State.descStart_frame {s : State} {h2d : Bool} :
    (State.descStart s h2d).pending = s.pending ∧ (State.descStart s h2d).die = s.die ∧
    (State.descStart s h2d).hid = s.hid ∧ (State.descStart s h2d).hub = s.hub ∧ (State.descStart s h2d).links = s.links ∧
    (State.descStart s h2d).dies = s.dies ∧ (State.descStart s h2d).chans = s.chans ∧
    (State.descStart s h2d).chains = s.chains ∧ (State.descStart s h2d).coef = s.coef ∧
    (State.descStart s h2d).fold = s.fold ∧ (State.descStart s h2d).rfx = s.rfx ∧ (State.descStart s h2d).sv = s.sv ∧
    (State.descStart s h2d).fw = s.fw ∧ (State.descStart s h2d).hk = s.hk ∧ (State.descStart s h2d).ldg = s.ldg ∧
    (State.descStart s h2d).tk = s.tk ∧ (State.descStart s h2d).free = s.free := by
  unfold State.descStart
  (repeat' split) <;> simp -implicitDefEqProofs
@[simp] theorem State.drvRelease_frame {s : State} {k : DrvNo} {b : Nat} :
    (State.drvRelease s k b).pending = s.pending ∧ (State.drvRelease s k b).die = s.die ∧
    (State.drvRelease s k b).hid = s.hid ∧ (State.drvRelease s k b).hub = s.hub ∧ (State.drvRelease s k b).host = s.host ∧
    (State.drvRelease s k b).links = s.links ∧ (State.drvRelease s k b).dies = s.dies ∧
    (State.drvRelease s k b).chans = s.chans ∧ (State.drvRelease s k b).chains = s.chains ∧
    (State.drvRelease s k b).coef = s.coef ∧ (State.drvRelease s k b).fold = s.fold ∧ (State.drvRelease s k b).rfx = s.rfx ∧
    (State.drvRelease s k b).ck = s.ck ∧ (State.drvRelease s k b).sv = s.sv ∧ (State.drvRelease s k b).fw = s.fw ∧
    (State.drvRelease s k b).hk = s.hk ∧ (State.drvRelease s k b).ldg = s.ldg ∧ (State.drvRelease s k b).tk = s.tk ∧
    (State.drvRelease s k b).free = s.free := by
  unfold State.drvRelease
  simp -implicitDefEqProofs
@[simp] theorem State.d2hDone_frame {s : State} {k : DrvNo} {d : Desc} :
    (State.d2hDone s k d).pending = s.pending ∧ (State.d2hDone s k d).die = s.die ∧ (State.d2hDone s k d).hid = s.hid ∧
    (State.d2hDone s k d).links = s.links ∧ (State.d2hDone s k d).dies = s.dies ∧ (State.d2hDone s k d).chans = s.chans ∧
    (State.d2hDone s k d).chains = s.chains ∧ (State.d2hDone s k d).coef = s.coef ∧ (State.d2hDone s k d).fold = s.fold ∧
    (State.d2hDone s k d).rfx = s.rfx ∧ (State.d2hDone s k d).sv = s.sv ∧ (State.d2hDone s k d).fw = s.fw ∧
    (State.d2hDone s k d).hk = s.hk ∧ (State.d2hDone s k d).ldg = s.ldg ∧ (State.d2hDone s k d).free = s.free := by
  unfold State.d2hDone
  try dsimp only
  (repeat' split) <;> simp -implicitDefEqProofs
@[simp] theorem State.h2dDone_frame {s : State} {k : DrvNo} {d : Desc} {data : List Byte} :
    (State.h2dDone s k d data).pending = s.pending ∧ (State.h2dDone s k d data).die = s.die ∧
    (State.h2dDone s k d data).hid = s.hid := by
  unfold State.h2dDone
  (repeat' split) <;> simp -implicitDefEqProofs
@[simp] theorem State.descDone_frame {s : State} {k : DrvNo} {data : List Byte} :
    (State.descDone s k data).pending = s.pending ∧ (State.descDone s k data).die = s.die ∧
    (State.descDone s k data).hid = s.hid := by
  unfold State.descDone
  (repeat' split) <;> simp -implicitDefEqProofs
@[simp] theorem State.rescanDone_frame {s : State} {k : DrvNo} {bytes : List Byte} :
    (State.rescanDone s k bytes).pending = s.pending ∧ (State.rescanDone s k bytes).die = s.die ∧
    (State.rescanDone s k bytes).hid = s.hid ∧ (State.rescanDone s k bytes).hub = s.hub ∧
    (State.rescanDone s k bytes).links = s.links ∧ (State.rescanDone s k bytes).dies = s.dies ∧
    (State.rescanDone s k bytes).chans = s.chans ∧ (State.rescanDone s k bytes).chains = s.chains ∧
    (State.rescanDone s k bytes).coef = s.coef ∧ (State.rescanDone s k bytes).fold = s.fold ∧
    (State.rescanDone s k bytes).rfx = s.rfx ∧ (State.rescanDone s k bytes).ck = s.ck ∧
    (State.rescanDone s k bytes).sv = s.sv ∧ (State.rescanDone s k bytes).fw = s.fw ∧
    (State.rescanDone s k bytes).hk = s.hk ∧ (State.rescanDone s k bytes).ldg = s.ldg ∧
    (State.rescanDone s k bytes).free = s.free := by
  unfold State.rescanDone
  try dsimp only
  (repeat' split) <;> simp -implicitDefEqProofs
@[simp] theorem State.blockTested_frame {s : State} {u : CkNo} {trailer : List Byte} :
    (State.blockTested s u trailer).pending = s.pending ∧ (State.blockTested s u trailer).die = s.die ∧
    (State.blockTested s u trailer).hid = s.hid := by
  unfold State.blockTested
  (repeat' split) <;> simp -implicitDefEqProofs
@[simp] theorem State.movedSoFar_frame {s : State} {n : Nat} {data : List Byte} {k : DrvNo} :
    (State.movedSoFar s n data k).pending = s.pending ∧ (State.movedSoFar s n data k).die = s.die ∧
    (State.movedSoFar s n data k).hid = s.hid := by
  unfold State.movedSoFar
  try dsimp only
  (repeat' split) <;> simp_all -implicitDefEqProofs
@[simp] theorem State.writeItems_frame {s : State} {l : List (Nat × Nat × Nat)} :
    (State.writeItems s l).1.pending = s.pending ∧ (State.writeItems s l).1.die = s.die ∧
    (State.writeItems s l).1.hid = s.hid := by
  induction l generalizing s with
  | nil => simp [State.writeItems]
  | cons x t ih => unfold State.writeItems; dsimp only; split <;> simp [ih]
@[simp] theorem State.readItems_frame {s : State} {l : List Nat} {j : Nat} :
    (State.readItems s l j).1.pending = s.pending ∧ (State.readItems s l j).1.die = s.die ∧
    (State.readItems s l j).1.hid = s.hid ∧ (State.readItems s l j).1.links = s.links ∧
    (State.readItems s l j).1.dies = s.dies ∧ (State.readItems s l j).1.chans = s.chans ∧
    (State.readItems s l j).1.chains = s.chains ∧ (State.readItems s l j).1.coef = s.coef ∧
    (State.readItems s l j).1.fold = s.fold ∧ (State.readItems s l j).1.rfx = s.rfx ∧ (State.readItems s l j).1.ck = s.ck ∧
    (State.readItems s l j).1.sv = s.sv ∧ (State.readItems s l j).1.fw = s.fw ∧ (State.readItems s l j).1.hk = s.hk ∧
    (State.readItems s l j).1.ldg = s.ldg ∧ (State.readItems s l j).1.free = s.free := by
  induction l generalizing s j with
  | nil => simp [State.readItems]
  | cons x t ih => unfold State.readItems; dsimp only; split <;> simp [ih]
@[simp] theorem State.onCommand_pending {s : State} {op : Nat} {f : Entry → State → State} (h : ∀ (a0 : Entry) (a1 : State), (f a0 a1).pending = a1.pending) :
    (State.onCommand s op f).pending = s.pending := by
  unfold State.onCommand
  (repeat' split) <;> simp -implicitDefEqProofs [h]
@[simp] theorem State.onCommand_regs {s : State} {op : Nat} {f : Entry → State → State} (h : ∀ (a0 : Entry) (a1 : State), (f a0 a1).regs = a1.regs) :
    (State.onCommand s op f).regs = s.regs := by
  unfold State.onCommand
  (repeat' split) <;> simp -implicitDefEqProofs [h]
@[simp] theorem State.onCommand_die {s : State} {op : Nat} {f : Entry → State → State} (h : ∀ (a0 : Entry) (a1 : State), (f a0 a1).die = a1.die) :
    (State.onCommand s op f).die = s.die := by
  unfold State.onCommand
  (repeat' split) <;> simp -implicitDefEqProofs [h]
@[simp] theorem State.onCommand_hid {s : State} {op : Nat} {f : Entry → State → State} (h : ∀ (a0 : Entry) (a1 : State), (f a0 a1).hid = a1.hid) :
    (State.onCommand s op f).hid = s.hid := by
  unfold State.onCommand
  (repeat' split) <;> simp -implicitDefEqProofs [h]
@[simp] theorem State.onCommand_hub {s : State} {op : Nat} {f : Entry → State → State} (h : ∀ (a0 : Entry) (a1 : State), (f a0 a1).hub = a1.hub) :
    (State.onCommand s op f).hub = s.hub := by
  unfold State.onCommand
  (repeat' split) <;> simp -implicitDefEqProofs [h]
@[simp] theorem State.onCommand_links {s : State} {op : Nat} {f : Entry → State → State} (h : ∀ (a0 : Entry) (a1 : State), (f a0 a1).links = a1.links) :
    (State.onCommand s op f).links = s.links := by
  unfold State.onCommand
  (repeat' split) <;> simp -implicitDefEqProofs [h]
@[simp] theorem State.onCommand_dies {s : State} {op : Nat} {f : Entry → State → State} (h : ∀ (a0 : Entry) (a1 : State), (f a0 a1).dies = a1.dies) :
    (State.onCommand s op f).dies = s.dies := by
  unfold State.onCommand
  (repeat' split) <;> simp -implicitDefEqProofs [h]
@[simp] theorem State.onCommand_chans {s : State} {op : Nat} {f : Entry → State → State} (h : ∀ (a0 : Entry) (a1 : State), (f a0 a1).chans = a1.chans) :
    (State.onCommand s op f).chans = s.chans := by
  unfold State.onCommand
  (repeat' split) <;> simp -implicitDefEqProofs [h]
@[simp] theorem State.onCommand_chains {s : State} {op : Nat} {f : Entry → State → State} (h : ∀ (a0 : Entry) (a1 : State), (f a0 a1).chains = a1.chains) :
    (State.onCommand s op f).chains = s.chains := by
  unfold State.onCommand
  (repeat' split) <;> simp -implicitDefEqProofs [h]
@[simp] theorem State.onCommand_coef {s : State} {op : Nat} {f : Entry → State → State} (h : ∀ (a0 : Entry) (a1 : State), (f a0 a1).coef = a1.coef) :
    (State.onCommand s op f).coef = s.coef := by
  unfold State.onCommand
  (repeat' split) <;> simp -implicitDefEqProofs [h]
@[simp] theorem State.onCommand_fold {s : State} {op : Nat} {f : Entry → State → State} (h : ∀ (a0 : Entry) (a1 : State), (f a0 a1).fold = a1.fold) :
    (State.onCommand s op f).fold = s.fold := by
  unfold State.onCommand
  (repeat' split) <;> simp -implicitDefEqProofs [h]
@[simp] theorem State.onCommand_rfx {s : State} {op : Nat} {f : Entry → State → State} (h : ∀ (a0 : Entry) (a1 : State), (f a0 a1).rfx = a1.rfx) :
    (State.onCommand s op f).rfx = s.rfx := by
  unfold State.onCommand
  (repeat' split) <;> simp -implicitDefEqProofs [h]
@[simp] theorem State.onCommand_drv {s : State} {op : Nat} {f : Entry → State → State} (h : ∀ (a0 : Entry) (a1 : State), (f a0 a1).drv = a1.drv) :
    (State.onCommand s op f).drv = s.drv := by
  unfold State.onCommand
  (repeat' split) <;> simp -implicitDefEqProofs [h]
@[simp] theorem State.onCommand_ck {s : State} {op : Nat} {f : Entry → State → State} (h : ∀ (a0 : Entry) (a1 : State), (f a0 a1).ck = a1.ck) :
    (State.onCommand s op f).ck = s.ck := by
  unfold State.onCommand
  (repeat' split) <;> simp -implicitDefEqProofs [h]
@[simp] theorem State.onCommand_sv {s : State} {op : Nat} {f : Entry → State → State} (h : ∀ (a0 : Entry) (a1 : State), (f a0 a1).sv = a1.sv) :
    (State.onCommand s op f).sv = s.sv := by
  unfold State.onCommand
  (repeat' split) <;> simp -implicitDefEqProofs [h]
@[simp] theorem State.onCommand_fw {s : State} {op : Nat} {f : Entry → State → State} (h : ∀ (a0 : Entry) (a1 : State), (f a0 a1).fw = a1.fw) :
    (State.onCommand s op f).fw = s.fw := by
  unfold State.onCommand
  (repeat' split) <;> simp -implicitDefEqProofs [h]
@[simp] theorem State.onCommand_hk {s : State} {op : Nat} {f : Entry → State → State} (h : ∀ (a0 : Entry) (a1 : State), (f a0 a1).hk = a1.hk) :
    (State.onCommand s op f).hk = s.hk := by
  unfold State.onCommand
  (repeat' split) <;> simp -implicitDefEqProofs [h]
@[simp] theorem State.onCommand_ldg {s : State} {op : Nat} {f : Entry → State → State} (h : ∀ (a0 : Entry) (a1 : State), (f a0 a1).ldg = a1.ldg) :
    (State.onCommand s op f).ldg = s.ldg := by
  unfold State.onCommand
  (repeat' split) <;> simp -implicitDefEqProofs [h]
@[simp] theorem State.onCommand_tk {s : State} {op : Nat} {f : Entry → State → State} (h : ∀ (a0 : Entry) (a1 : State), (f a0 a1).tk = a1.tk) :
    (State.onCommand s op f).tk = s.tk := by
  unfold State.onCommand
  (repeat' split) <;> simp -implicitDefEqProofs [h]
@[simp] theorem State.onCommand_free {s : State} {op : Nat} {f : Entry → State → State} (h : ∀ (a0 : Entry) (a1 : State), (f a0 a1).free = a1.free) :
    (State.onCommand s op f).free = s.free := by
  unfold State.onCommand
  (repeat' split) <;> simp -implicitDefEqProofs [h]
@[simp] theorem State.cmdEnd_frame {s : State} {e : Entry} {status : Nat} {op : Nat} :
    (State.cmdEnd s e status op).pending = s.pending ∧ (State.cmdEnd s e status op).die = s.die ∧
    (State.cmdEnd s e status op).hid = s.hid ∧ (State.cmdEnd s e status op).hub = s.hub ∧
    (State.cmdEnd s e status op).links = s.links ∧ (State.cmdEnd s e status op).dies = s.dies ∧
    (State.cmdEnd s e status op).chans = s.chans ∧ (State.cmdEnd s e status op).chains = s.chains ∧
    (State.cmdEnd s e status op).coef = s.coef ∧ (State.cmdEnd s e status op).fold = s.fold ∧
    (State.cmdEnd s e status op).rfx = s.rfx ∧ (State.cmdEnd s e status op).drv = s.drv ∧
    (State.cmdEnd s e status op).ck = s.ck ∧ (State.cmdEnd s e status op).sv = s.sv ∧
    (State.cmdEnd s e status op).fw = s.fw ∧ (State.cmdEnd s e status op).hk = s.hk ∧
    (State.cmdEnd s e status op).ldg = s.ldg ∧ (State.cmdEnd s e status op).tk = s.tk ∧
    (State.cmdEnd s e status op).free = s.free := by
  unfold State.cmdEnd
  simp -implicitDefEqProofs
@[simp] theorem State.cmdRun_pending {s : State} {e : Entry} {f : State → State × List Item × List Place} (h : ∀ (a0 : State), (f a0).1.pending = a0.pending) :
    (State.cmdRun s e f).pending = s.pending := by
  unfold State.cmdRun
  simp -implicitDefEqProofs [h]
@[simp] theorem State.cmdRun_die {s : State} {e : Entry} {f : State → State × List Item × List Place} (h : ∀ (a0 : State), (f a0).1.die = a0.die) :
    (State.cmdRun s e f).die = s.die := by
  unfold State.cmdRun
  simp -implicitDefEqProofs [h]
@[simp] theorem State.cmdRun_hid {s : State} {e : Entry} {f : State → State × List Item × List Place} (h : ∀ (a0 : State), (f a0).1.hid = a0.hid) :
    (State.cmdRun s e f).hid = s.hid := by
  unfold State.cmdRun
  simp -implicitDefEqProofs [h]
@[simp] theorem State.cmdRun_hub {s : State} {e : Entry} {f : State → State × List Item × List Place} (h : ∀ (a0 : State), (f a0).1.hub = a0.hub) :
    (State.cmdRun s e f).hub = s.hub := by
  unfold State.cmdRun
  simp -implicitDefEqProofs [h]
@[simp] theorem State.cmdRun_links {s : State} {e : Entry} {f : State → State × List Item × List Place} (h : ∀ (a0 : State), (f a0).1.links = a0.links) :
    (State.cmdRun s e f).links = s.links := by
  unfold State.cmdRun
  simp -implicitDefEqProofs [h]
@[simp] theorem State.cmdRun_dies {s : State} {e : Entry} {f : State → State × List Item × List Place} (h : ∀ (a0 : State), (f a0).1.dies = a0.dies) :
    (State.cmdRun s e f).dies = s.dies := by
  unfold State.cmdRun
  simp -implicitDefEqProofs [h]
@[simp] theorem State.cmdRun_chans {s : State} {e : Entry} {f : State → State × List Item × List Place} (h : ∀ (a0 : State), (f a0).1.chans = a0.chans) :
    (State.cmdRun s e f).chans = s.chans := by
  unfold State.cmdRun
  simp -implicitDefEqProofs [h]
@[simp] theorem State.cmdRun_chains {s : State} {e : Entry} {f : State → State × List Item × List Place} (h : ∀ (a0 : State), (f a0).1.chains = a0.chains) :
    (State.cmdRun s e f).chains = s.chains := by
  unfold State.cmdRun
  simp -implicitDefEqProofs [h]
@[simp] theorem State.cmdRun_coef {s : State} {e : Entry} {f : State → State × List Item × List Place} (h : ∀ (a0 : State), (f a0).1.coef = a0.coef) :
    (State.cmdRun s e f).coef = s.coef := by
  unfold State.cmdRun
  simp -implicitDefEqProofs [h]
@[simp] theorem State.cmdRun_fold {s : State} {e : Entry} {f : State → State × List Item × List Place} (h : ∀ (a0 : State), (f a0).1.fold = a0.fold) :
    (State.cmdRun s e f).fold = s.fold := by
  unfold State.cmdRun
  simp -implicitDefEqProofs [h]
@[simp] theorem State.cmdRun_rfx {s : State} {e : Entry} {f : State → State × List Item × List Place} (h : ∀ (a0 : State), (f a0).1.rfx = a0.rfx) :
    (State.cmdRun s e f).rfx = s.rfx := by
  unfold State.cmdRun
  simp -implicitDefEqProofs [h]
@[simp] theorem State.cmdRun_drv {s : State} {e : Entry} {f : State → State × List Item × List Place} (h : ∀ (a0 : State), (f a0).1.drv = a0.drv) :
    (State.cmdRun s e f).drv = s.drv := by
  unfold State.cmdRun
  simp -implicitDefEqProofs [h]
@[simp] theorem State.cmdRun_ck {s : State} {e : Entry} {f : State → State × List Item × List Place} (h : ∀ (a0 : State), (f a0).1.ck = a0.ck) :
    (State.cmdRun s e f).ck = s.ck := by
  unfold State.cmdRun
  simp -implicitDefEqProofs [h]
@[simp] theorem State.cmdRun_sv {s : State} {e : Entry} {f : State → State × List Item × List Place} (h : ∀ (a0 : State), (f a0).1.sv = a0.sv) :
    (State.cmdRun s e f).sv = s.sv := by
  unfold State.cmdRun
  simp -implicitDefEqProofs [h]
@[simp] theorem State.cmdRun_fw {s : State} {e : Entry} {f : State → State × List Item × List Place} (h : ∀ (a0 : State), (f a0).1.fw = a0.fw) :
    (State.cmdRun s e f).fw = s.fw := by
  unfold State.cmdRun
  simp -implicitDefEqProofs [h]
@[simp] theorem State.cmdRun_hk {s : State} {e : Entry} {f : State → State × List Item × List Place} (h : ∀ (a0 : State), (f a0).1.hk = a0.hk) :
    (State.cmdRun s e f).hk = s.hk := by
  unfold State.cmdRun
  simp -implicitDefEqProofs [h]
@[simp] theorem State.cmdRun_ldg {s : State} {e : Entry} {f : State → State × List Item × List Place} (h : ∀ (a0 : State), (f a0).1.ldg = a0.ldg) :
    (State.cmdRun s e f).ldg = s.ldg := by
  unfold State.cmdRun
  simp -implicitDefEqProofs [h]
@[simp] theorem State.cmdRun_tk {s : State} {e : Entry} {f : State → State × List Item × List Place} (h : ∀ (a0 : State), (f a0).1.tk = a0.tk) :
    (State.cmdRun s e f).tk = s.tk := by
  unfold State.cmdRun
  simp -implicitDefEqProofs [h]
@[simp] theorem State.cmdRun_free {s : State} {e : Entry} {f : State → State × List Item × List Place} (h : ∀ (a0 : State), (f a0).1.free = a0.free) :
    (State.cmdRun s e f).free = s.free := by
  unfold State.cmdRun
  simp -implicitDefEqProofs [h]
@[simp] theorem State.cmdWrite_frame {s : State} {w : Nat} {most : Nat} {e : Entry} :
    (State.cmdWrite s w most e).pending = s.pending ∧ (State.cmdWrite s w most e).die = s.die ∧
    (State.cmdWrite s w most e).hid = s.hid := by
  unfold State.cmdWrite
  try dsimp only
  (repeat' split) <;> simp -implicitDefEqProofs
@[simp] theorem State.cmdRead_frame {s : State} {n : Nat} {l : List Nat} {e : Entry} :
    (State.cmdRead s n l e).pending = s.pending ∧ (State.cmdRead s n l e).die = s.die ∧
    (State.cmdRead s n l e).hid = s.hid ∧ (State.cmdRead s n l e).links = s.links ∧ (State.cmdRead s n l e).dies = s.dies ∧
    (State.cmdRead s n l e).chans = s.chans ∧ (State.cmdRead s n l e).chains = s.chains ∧
    (State.cmdRead s n l e).coef = s.coef ∧ (State.cmdRead s n l e).fold = s.fold ∧ (State.cmdRead s n l e).rfx = s.rfx ∧
    (State.cmdRead s n l e).ck = s.ck ∧ (State.cmdRead s n l e).sv = s.sv ∧ (State.cmdRead s n l e).fw = s.fw ∧
    (State.cmdRead s n l e).hk = s.hk ∧ (State.cmdRead s n l e).ldg = s.ldg ∧ (State.cmdRead s n l e).free = s.free := by
  unfold State.cmdRead
  try dsimp only
  (repeat' split) <;> simp -implicitDefEqProofs
@[simp] theorem State.cmdCopy_frame {s : State} {e : Entry} :
    (State.cmdCopy s e).pending = s.pending ∧ (State.cmdCopy s e).die = s.die ∧ (State.cmdCopy s e).hid = s.hid ∧
    (State.cmdCopy s e).hub = s.hub ∧ (State.cmdCopy s e).links = s.links ∧ (State.cmdCopy s e).dies = s.dies ∧
    (State.cmdCopy s e).chans = s.chans ∧ (State.cmdCopy s e).chains = s.chains ∧ (State.cmdCopy s e).coef = s.coef ∧
    (State.cmdCopy s e).fold = s.fold ∧ (State.cmdCopy s e).rfx = s.rfx ∧ (State.cmdCopy s e).drv = s.drv ∧
    (State.cmdCopy s e).ck = s.ck ∧ (State.cmdCopy s e).sv = s.sv ∧ (State.cmdCopy s e).fw = s.fw ∧
    (State.cmdCopy s e).hk = s.hk ∧ (State.cmdCopy s e).ldg = s.ldg ∧ (State.cmdCopy s e).tk = s.tk ∧
    (State.cmdCopy s e).free = s.free := by
  unfold State.cmdCopy
  simp -implicitDefEqProofs
@[simp] theorem State.svBegin_frame {s : State} {cpol : Bool} :
    (State.svBegin s cpol).pending = s.pending ∧ (State.svBegin s cpol).die = s.die ∧ (State.svBegin s cpol).hid = s.hid ∧
    (State.svBegin s cpol).hub = s.hub ∧ (State.svBegin s cpol).links = s.links ∧ (State.svBegin s cpol).dies = s.dies ∧
    (State.svBegin s cpol).chans = s.chans ∧ (State.svBegin s cpol).chains = s.chains ∧
    (State.svBegin s cpol).coef = s.coef ∧ (State.svBegin s cpol).fold = s.fold ∧ (State.svBegin s cpol).rfx = s.rfx ∧
    (State.svBegin s cpol).drv = s.drv ∧ (State.svBegin s cpol).ck = s.ck ∧ (State.svBegin s cpol).fw = s.fw ∧
    (State.svBegin s cpol).hk = s.hk ∧ (State.svBegin s cpol).ldg = s.ldg ∧ (State.svBegin s cpol).free = s.free := by
  unfold State.svBegin
  simp -implicitDefEqProofs
@[simp] theorem State.svWord_frame {s : State} {a : Nat} :
    (State.svWord s a).2.pending = s.pending ∧ (State.svWord s a).2.die = s.die ∧ (State.svWord s a).2.hid = s.hid ∧
    (State.svWord s a).2.links = s.links ∧ (State.svWord s a).2.dies = s.dies ∧ (State.svWord s a).2.chans = s.chans ∧
    (State.svWord s a).2.chains = s.chains ∧ (State.svWord s a).2.coef = s.coef ∧ (State.svWord s a).2.fold = s.fold ∧
    (State.svWord s a).2.rfx = s.rfx ∧ (State.svWord s a).2.ck = s.ck ∧ (State.svWord s a).2.sv = s.sv ∧
    (State.svWord s a).2.fw = s.fw ∧ (State.svWord s a).2.hk = s.hk ∧ (State.svWord s a).2.ldg = s.ldg ∧
    (State.svWord s a).2.free = s.free := by
  unfold State.svWord
  simp -implicitDefEqProofs
@[simp] theorem State.svReadWords_frame {s : State} {a : Nat} {n : Nat} :
    (State.svReadWords s a n).2.pending = s.pending ∧ (State.svReadWords s a n).2.die = s.die ∧
    (State.svReadWords s a n).2.hid = s.hid ∧ (State.svReadWords s a n).2.links = s.links ∧
    (State.svReadWords s a n).2.dies = s.dies ∧ (State.svReadWords s a n).2.chans = s.chans ∧
    (State.svReadWords s a n).2.chains = s.chains ∧ (State.svReadWords s a n).2.coef = s.coef ∧
    (State.svReadWords s a n).2.fold = s.fold ∧ (State.svReadWords s a n).2.rfx = s.rfx ∧
    (State.svReadWords s a n).2.ck = s.ck ∧ (State.svReadWords s a n).2.sv = s.sv ∧ (State.svReadWords s a n).2.fw = s.fw ∧
    (State.svReadWords s a n).2.hk = s.hk ∧ (State.svReadWords s a n).2.ldg = s.ldg ∧
    (State.svReadWords s a n).2.free = s.free := by
  unfold State.svReadWords
  repeat' apply And.intro
  all_goals (refine (State.foldl_snd_keep _ (fun q x => ?_) _ _).trans ?_)
  all_goals first | rfl | (split <;> simp)
@[simp] theorem State.svReadKeeps_frame {s after : State} :
    (s.svReadKeeps after).pending = s.pending ∧
    (s.svReadKeeps after).regs = s.regs ∧
    (s.svReadKeeps after).die = s.die ∧
    (s.svReadKeeps after).hid = s.hid ∧
    (s.svReadKeeps after).host = s.host ∧
    (s.svReadKeeps after).links = s.links ∧
    (s.svReadKeeps after).dies = s.dies ∧
    (s.svReadKeeps after).chans = s.chans ∧
    (s.svReadKeeps after).chains = s.chains ∧
    (s.svReadKeeps after).coef = s.coef ∧
    (s.svReadKeeps after).fold = s.fold ∧
    (s.svReadKeeps after).rfx = s.rfx ∧
    (s.svReadKeeps after).drv = s.drv ∧
    (s.svReadKeeps after).ck = s.ck ∧
    (s.svReadKeeps after).sv = s.sv ∧
    (s.svReadKeeps after).fw = s.fw ∧
    (s.svReadKeeps after).hk = s.hk ∧
    (s.svReadKeeps after).ldg = s.ldg ∧
    (s.svReadKeeps after).tk = s.tk := by
  unfold State.svReadKeeps
  simp -implicitDefEqProofs
@[simp] theorem State.svReadData_frame {s : State} {f : SvFrame} :
    (s.svReadData f).2.2.pending = s.pending ∧
    (s.svReadData f).2.2.regs = s.regs ∧
    (s.svReadData f).2.2.die = s.die ∧
    (s.svReadData f).2.2.hid = s.hid ∧
    (s.svReadData f).2.2.host = s.host ∧
    (s.svReadData f).2.2.links = s.links ∧
    (s.svReadData f).2.2.dies = s.dies ∧
    (s.svReadData f).2.2.chans = s.chans ∧
    (s.svReadData f).2.2.chains = s.chains ∧
    (s.svReadData f).2.2.coef = s.coef ∧
    (s.svReadData f).2.2.fold = s.fold ∧
    (s.svReadData f).2.2.rfx = s.rfx ∧
    (s.svReadData f).2.2.drv = s.drv ∧
    (s.svReadData f).2.2.ck = s.ck ∧
    (s.svReadData f).2.2.sv = s.sv ∧
    (s.svReadData f).2.2.fw = s.fw ∧
    (s.svReadData f).2.2.hk = s.hk ∧
    (s.svReadData f).2.2.ldg = s.ldg ∧
    (s.svReadData f).2.2.tk = s.tk := by
  unfold State.svReadData
  dsimp only
  split <;> simp -implicitDefEqProofs
@[simp] theorem State.svRefused_frame {s : State} {word : Nat} {reason : Nat} {code : Nat} :
    (State.svRefused s word reason code).pending = s.pending ∧ (State.svRefused s word reason code).die = s.die ∧
    (State.svRefused s word reason code).hid = s.hid ∧ (State.svRefused s word reason code).hub = s.hub ∧
    (State.svRefused s word reason code).links = s.links ∧ (State.svRefused s word reason code).dies = s.dies ∧
    (State.svRefused s word reason code).chans = s.chans ∧ (State.svRefused s word reason code).chains = s.chains ∧
    (State.svRefused s word reason code).coef = s.coef ∧ (State.svRefused s word reason code).fold = s.fold ∧
    (State.svRefused s word reason code).rfx = s.rfx ∧ (State.svRefused s word reason code).drv = s.drv ∧
    (State.svRefused s word reason code).ck = s.ck ∧ (State.svRefused s word reason code).fw = s.fw ∧
    (State.svRefused s word reason code).hk = s.hk ∧ (State.svRefused s word reason code).ldg = s.ldg ∧
    (State.svRefused s word reason code).free = s.free := by
  unfold State.svRefused
  simp -implicitDefEqProofs
@[simp] theorem State.svWrites_frame {s : State} {l : List (Nat × Nat × Nat)} :
    (State.svWrites s l).pending = s.pending ∧ (State.svWrites s l).die = s.die ∧ (State.svWrites s l).hid = s.hid := by
  induction l generalizing s with
  | nil => simp [State.svWrites]
  | cons x t ih => unfold State.svWrites; dsimp only; split <;> simp [ih]
@[simp] theorem State.keeperStart_frame {s : State} :
    (State.keeperStart s).pending = s.pending ∧ (State.keeperStart s).die = s.die ∧ (State.keeperStart s).hid = s.hid ∧
    (State.keeperStart s).hub = s.hub ∧ (State.keeperStart s).links = s.links ∧ (State.keeperStart s).dies = s.dies ∧
    (State.keeperStart s).chans = s.chans ∧ (State.keeperStart s).chains = s.chains ∧ (State.keeperStart s).coef = s.coef ∧
    (State.keeperStart s).rfx = s.rfx ∧ (State.keeperStart s).drv = s.drv ∧ (State.keeperStart s).ck = s.ck ∧
    (State.keeperStart s).fw = s.fw ∧ (State.keeperStart s).hk = s.hk ∧ (State.keeperStart s).free = s.free := by
  unfold State.keeperStart
  simp -implicitDefEqProofs
@[simp] theorem State.svCommit_frame {s : State} {f : SvFrame} :
    (State.svCommit s f).pending = s.pending ∧ (State.svCommit s f).die = s.die ∧ (State.svCommit s f).hid = s.hid := by
  unfold State.svCommit
  try dsimp only
  (repeat' split) <;> simp_all -implicitDefEqProofs
@[simp] theorem State.svFailed_frame {s : State} {test : Nat} :
    (State.svFailed s test).pending = s.pending ∧ (State.svFailed s test).die = s.die ∧
    (State.svFailed s test).hid = s.hid ∧ (State.svFailed s test).hub = s.hub ∧ (State.svFailed s test).links = s.links ∧
    (State.svFailed s test).dies = s.dies ∧ (State.svFailed s test).chans = s.chans ∧
    (State.svFailed s test).chains = s.chains ∧ (State.svFailed s test).coef = s.coef ∧
    (State.svFailed s test).fold = s.fold ∧ (State.svFailed s test).rfx = s.rfx ∧ (State.svFailed s test).drv = s.drv ∧
    (State.svFailed s test).ck = s.ck ∧ (State.svFailed s test).fw = s.fw ∧ (State.svFailed s test).hk = s.hk ∧
    (State.svFailed s test).ldg = s.ldg ∧ (State.svFailed s test).free = s.free := by
  unfold State.svFailed
  simp -implicitDefEqProofs
@[simp] theorem State.svEnd_frame {s : State} {f : SvFrame} :
    (State.svEnd s f).pending = s.pending ∧ (State.svEnd s f).die = s.die ∧ (State.svEnd s f).hid = s.hid := by
  unfold State.svEnd
  simp -implicitDefEqProofs
@[simp] theorem State.svMuteEnd_frame {s : State} {f : SvFrame} :
    (State.svMuteEnd s f).pending = s.pending ∧ (State.svMuteEnd s f).regs = s.regs ∧ (State.svMuteEnd s f).die = s.die ∧
    (State.svMuteEnd s f).hid = s.hid ∧ (State.svMuteEnd s f).hub = s.hub ∧ (State.svMuteEnd s f).host = s.host ∧
    (State.svMuteEnd s f).links = s.links ∧ (State.svMuteEnd s f).dies = s.dies ∧ (State.svMuteEnd s f).chans = s.chans ∧
    (State.svMuteEnd s f).chains = s.chains ∧ (State.svMuteEnd s f).coef = s.coef ∧ (State.svMuteEnd s f).fold = s.fold ∧
    (State.svMuteEnd s f).rfx = s.rfx ∧ (State.svMuteEnd s f).drv = s.drv ∧ (State.svMuteEnd s f).ck = s.ck ∧
    (State.svMuteEnd s f).fw = s.fw ∧ (State.svMuteEnd s f).hk = s.hk ∧ (State.svMuteEnd s f).ldg = s.ldg ∧
    (State.svMuteEnd s f).tk = s.tk ∧ (State.svMuteEnd s f).free = s.free := by
  unfold State.svMuteEnd
  simp -implicitDefEqProofs

end Sys2Proof.Machine
end

