-- ==== Sys2Proof/Laws/Ops.lean ====
section
/-! SUPPORT. What the shared operations do to the register fields: one lemma for each of them. -/

namespace Sys2Proof.Machine

variable {s : State}

/-- A field that no cause, notification or record touches: it is no IRQ_CAUSE word and none of the three counts of what these
lose. -/
def Fld.plain (f : Fld) : Bool :=
  f.off != 0x10 && f != F.ROOT_ACCESS_TALLY_B_CROSS_BLOCKED && f != F.RING_TALLY_LOST 3 && f != F.LDG_TALLY_LOST

theorem Fld.plain_iff {f : Fld} : f.plain = true ↔
    f.off ≠ 0x10 ∧ f ≠ F.ROOT_ACCESS_TALLY_B_CROSS_BLOCKED ∧ f ≠ F.RING_TALLY_LOST 3 ∧ f ≠ F.LDG_TALLY_LOST := by
  simp [Fld.plain, and_assoc]
theorem Fld.plain_cause {f : Fld} (h : f.plain = true) (u : U) : F.CAUSE u ≠ f := by
  rintro rfl
  exact (Fld.plain_iff.mp h).1 rfl

theorem State.reg_tally (f g : Fld) (k : Nat) :
    (s.tally f k).reg g = if f = g then min (s.reg f + k) (2 ^ f.w - 1) % 2 ^ f.w else s.reg g := by
  simp [State.tally]
theorem State.reg_wrapTally (f g : Fld) (k : Nat) :
    (s.wrapTally f k).reg g = if f = g then (s.reg f + k) % 2 ^ f.w else s.reg g := by
  simp [State.wrapTally]
theorem State.reg_stick (f g : Fld) (v : Nat) :
    (s.stick f v).reg g = if f = g then (s.reg f ||| v) % 2 ^ f.w else s.reg g := State.reg_setReg s f g _
theorem State.reg_orCause (u : U) (k : Nat) (g : Fld) :
    (s.orCause u k).reg g = if F.CAUSE u = g then (s.reg (F.CAUSE u) ||| 2 ^ k) % 2 ^ 32 else s.reg g := by
  rw [State.orCause, reg_stick]
theorem State.reg_deliverMsix (k : Nat) (u : Option U) (g : Fld) : (s.deliverMsix k u).reg g = s.reg g := by simp [State.reg]
theorem State.reg_crossBlocked {g : Fld} (h1 : F.ROOT_ACCESS_TALLY_B_CROSS_BLOCKED ≠ g) (h2 : F.CAUSE .root ≠ g) :
    s.crossBlocked.reg g = s.reg g := by
  have h : ((s.tally F.ROOT_ACCESS_TALLY_B_CROSS_BLOCKED).orCause .root 3).reg g = s.reg g := by
    rw [reg_orCause, if_neg h2, reg_tally, if_neg h1]
  simp only [State.crossBlocked]
  split
  · rw [reg_tally, if_neg h1, h]
  · exact h
/-- A message request changes no field but CROSS_BLOCKED and the root unit's IRQ_CAUSE. -/
theorem State.reg_requestMsix (k : Nat) (u : Option U) {g : Fld} (h1 : F.ROOT_ACCESS_TALLY_B_CROSS_BLOCKED ≠ g) (h2 : F.CAUSE .root ≠ g) :
    (s.requestMsix k u).reg g = s.reg g := by
  unfold State.requestMsix
  split
  · exact reg_crossBlocked h1 h2
  · split
    · exact reg_deliverMsix k u g
    · rfl
theorem State.reg_unitMessage (u : U) {g : Fld} (h1 : F.ROOT_ACCESS_TALLY_B_CROSS_BLOCKED ≠ g) (h2 : F.CAUSE .root ≠ g) :
    (s.unitMessage u).reg g = s.reg g := by
  unfold State.unitMessage
  split
  · exact reg_requestMsix _ _ h1 h2
  · rfl
/-- A cause changes no field but its unit's IRQ_CAUSE and what a blocked message changes. -/
theorem State.reg_cause (u : U) (k : Nat) {g : Fld} (h : F.CAUSE u ≠ g) (h1 : F.ROOT_ACCESS_TALLY_B_CROSS_BLOCKED ≠ g)
    (h2 : F.CAUSE .root ≠ g) : (s.cause u k).reg g = s.reg g := by
  unfold State.cause
  split
  · rw [reg_unitMessage u h1 h2, reg_orCause, if_neg h]
  · rw [reg_orCause, if_neg h]
theorem State.reg_cause_plain (u : U) (k : Nat) {g : Fld} (h : g.plain = true) : (s.cause u k).reg g = s.reg g :=
  reg_cause u k (Fld.plain_cause h u) (Ne.symm (Fld.plain_iff.mp h).2.1) (Fld.plain_cause h .root)
/-- A cause is set in its unit's IRQ_CAUSE, beside those set before (R49). -/
theorem State.cause_sets (u : U) (k : Nat) (hu : u ≠ .root) : (s.cause u k).reg (F.CAUSE u) = (s.reg (F.CAUSE u) ||| 2 ^ k) % 2 ^ 32 := by
  have h2 : F.CAUSE .root ≠ F.CAUSE u := by simp; exact fun h => hu h.symm
  unfold State.cause
  split
  · rw [reg_unitMessage u (by simp) h2, reg_orCause, if_pos rfl]
  · rw [reg_orCause, if_pos rfl]
theorem State.cause_sets_bit (u : U) {k : Nat} (hu : u ≠ .root) (hk : k < 32) : bit ((s.cause u k).reg (F.CAUSE u)) k = true := by
  rw [bit, cause_sets u k hu, Nat.testBit_mod_two_pow, Nat.testBit_or, Nat.testBit_two_pow_self]
  simp [hk]
theorem State.reg_loseNote (kind : Nat) {g : Fld} (h : g.plain = true) : (s.loseNote kind).reg g = s.reg g := by
  have hne := Ne.symm (Fld.plain_iff.mp h).2.2.1
  unfold State.loseNote
  dsimp only
  split
  · rw [reg_cause_plain _ _ h, reg_tally, if_neg hne]; rfl
  · rw [reg_tally, if_neg hne]; rfl
/-- A notification changes no field but the counts of what is lost and IRQ_CAUSE words. -/
theorem State.reg_raise (kind time : Nat) (body : List Place) {g : Fld} (h : g.plain = true) : (s.raise kind time body).reg g = s.reg g := by
  unfold State.raise
  split
  · rfl
  · exact reg_loseNote kind h
theorem State.reg_notify (kind : Nat) (body : List Place) {g : Fld} (h : g.plain = true) : (s.notify kind body).reg g = s.reg g :=
  reg_raise kind _ body h
/-- A record posted changes no field but the count of lost records and IRQ_CAUSE words. -/
theorem State.reg_post (r : LRec) {g : Fld} (h : g.plain = true) : (s.post r).reg g = s.reg g := by
  unfold State.post
  generalize (if r.cls = 4 then 16 else 14) = n
  split
  · rfl
  · rw [reg_cause_plain _ _ h, reg_tally, if_neg (Ne.symm (Fld.plain_iff.mp h).2.2.2)]
/-- A notification that finds room on an enabled ring 3 is queued last, with its machine time (R332). -/
theorem State.notify_queued (kind : Nat) (body : List Place) (h : s.on (F.RING_CFG_ENABLE 3) = true) (hr : s.host.notif.length < 128) :
    (s.notify kind body).host.notif = s.host.notif ++ [{ kind := kind, body := (4, 8, s.now) :: body }] := by
  simp [State.notify, State.raise, h, hr]
/-- A record that finds room takes its place in the queue, with its tick and the machine time (R431, R434). -/
theorem State.post_queued (r : LRec) (h : s.ldg.queue.length < if r.cls = 4 then 16 else 14) :
    (s.post r).ldg.queue = queueRec { r with raised := s.tick, held := s.now } s.ldg.queue := by
  simp only [State.post, h, if_true]

/-! ### The run states -/

theorem onHub_on {k : State → State} (h : s.hubOn = true) : onHub k s = .next (k s) := by simp [onHub, h]
theorem onHub_off {k : State → State} (h : s.hubOn = false) : onHub k s = .next s := by simp [onHub, h]
theorem onDie_on {g : Grp} {k : State → State} (h : s.dieOn g = true) : onDie g k s = .next (k s) := by simp [onDie, h]
theorem onDie_off {g : Grp} {k : State → State} (h : s.dieOn g = false) : onDie g k s = .next s := by simp [onDie, h]
theorem onBoth_on {g : Grp} {k : State → State} (h : s.hubOn = true) (h2 : s.dieOn g = true) : onBoth g k s = .next (k s) := by
  simp [onBoth, h, h2]

/-! ### Channels and their groups (R3) -/

/-- A channel is that of its group and its number there. -/
@[simp] theorem chOf_grpOf_chN (c : Ch) : chOf (grpOf c) (chN c) = c := Fin.ext (Nat.div_add_mod c.val 8)
@[simp] theorem grpOf_chOf (g : Grp) (n : ChN) : grpOf (chOf g n) = g := Fin.ext (by simp only [grpOf, chOf]; omega)
@[simp] theorem chN_chOf (g : Grp) (n : ChN) : chN (chOf g n) = n := Fin.ext (by simp only [chN, chOf]; omega)

end Sys2Proof.Machine
end

