-- ==== Sys2Proof/WellFormed.lean ====
section
/-! DEFINITION. Which commands are well formed: what they carry has the size that the spec gives it. A command that is not well
formed stands for nothing that the part can meet; exec still answers for it. -/

namespace Sys2Proof

/-- An aligned word offset of BAR0 (R6, R35). -/
def barOk (off : Nat) : Bool := off % 4 == 0 && decide (off < 0x100000)
/-- A supervisor frame carries COUNT data words, or fewer when it was cut short (R380). -/
def SvFrame.ok (f : SvFrame) : Bool := decide (f.data.length ≤ 64) && decide (20 ≤ f.sck)
/-- The two flash copies fit a slot of the controller RAM (Table 19.1). -/
def copiesOk (a b : List Byte) : Bool := decide (a.length ≤ 0x18000) && decide (b.length ≤ 0x18000)
/-- The bit of an AER status register, and a TLP header of four words or none (R318, R320). -/
def PcieErr.ok : PcieErr → Bool
  | .correctable k => decide (k < 32)
  | .request k _ h | .ringFetch _ k h | .link k h => decide (k < 32) && (h.length == 0 || h.length == 4)
/-- The requester and the byte enables of a command that writes a word. -/
def Instr.enables : Instr → Option (Req × Fin 16)
  | .registerWrite rq _ be _ | .pairLowWrite rq _ be _ | .pairHighWrite rq _ be _ | .irqCauseWrite rq _ be _
  | .irqEnableWrite rq _ be _ | .lockWrite rq _ be _ | .govCeilingWrite rq be _ | .govVdeclWrite rq be _
  | .chModeWrite rq _ be _ | .chPermitWrite _ rq _ be _ | .outCmdWrite _ rq _ be _ | .foldEnableWrite rq be _
  | .foldCancelWrite rq be _ | .pwmRunStart _ rq _ be _ | .pwmRunEnd _ rq _ be _ | .relearn rq _ be _
  | .skBaseWrite rq _ be _ | .skTrendWrite rq _ be _ | .inTallyWrite rq _ be _ | .anDacWrite _ rq _ be _
  | .anClampWrite _ rq _ be _ | .scCfgWrite rq _ be _ | .chainSync rq _ be _ | .swapRequest rq _ be _ | .dcClear rq _ be _
  | .coefWrite rq _ be _ | .winWrite rq _ _ be _ | .rfxArmWrite rq _ be _ | .armAtCommit rq _ be _ | .ruleWrite rq _ _ be _
  | .rateWrite rq be _ | .slewWrite rq be _ | .stepCommit rq be _ | .portStart rq _ be _ | .portStop rq _ be _
  | .admitDevice rq _ be _ | .iolPdWrite _ rq _ be _ | .grpFeed rq _ be _ | .forceSafe rq _ be _ | .unforce rq _ be _
  | .release rq _ be _ | .restart rq _ be _ | .supplyAck _ rq _ be _ | .ringEnable rq _ be _ | .ringDisable rq _ be _
  | .ringResume rq _ be _ | .rootSoftReset rq be _ | .hubDieResetRequest rq be _ | .drvCfgWrite rq _ _ be _
  | .ckBindWrite rq _ be _ | .ckRunWrite rq _ be _ | .handbackRequest rq be _ | .verify rq be _ | .activate rq be _
  | .fwRestart rq be _ | .fwStop rq be _ | .fwKick rq be _ | .vidReqWrite rq be _ | .hoursWrite rq _ _ be _
  | .reduceWrite rq _ _ be _ | .retune rq _ be _ | .ledgerPost rq be _ | .unfreeze rq be _ | .faultAck rq be _ => some (rq, be)
  | .ramDataAccess rq (some p) => some (rq, p.1)
  | _ => none
/-- A write of the supervisor port is of a whole word (R37). -/
def Instr.wholeSv (i : Instr) : Bool := match i.enables with | some (rq, be) => rq != .sv || be == 15 | none => true
/-- Well-formedness of a command's quantities. -/
def Instr.sizes : Instr → Bool
  | .registerWrite _ off _ _ | .pairHighRead _ off | .pairLowWrite _ off _ _ | .pairHighWrite _ off _ _
  | .irqCauseWrite _ off _ _ | .irqEnableWrite _ off _ _ | .lockWrite _ off _ _ => barOk off
  | .pairLowRead rq off => barOk off || (rq == .host && off % 4 == 0 && decide (off < 0x102000))
  | .coefWrite _ off _ _ => off % 4 == 0 && decide (off < 0x10000)
  | .ringEntryFetch _ e | .entryRefetch _ e => e.length == 64
  | .descriptorFetch _ b | .rescanRead _ b => b.length == 64
  | .blockTest _ t => t.length == 16
  | .ident _ id => id.length == 16
  | .descriptorComplete _ d => decide (d.length ≤ 16384)
  | .busError _ e => decide (e.bit < 32) && decide (e.data.length ≤ 16384) && (e.hdr.length == 0 || e.hdr.length == 4)
  | .pcieError e => e.ok
  | .configWrite off _ _ => off % 4 == 0 && decide (off < 4096)
  | .doorbell off d => decide (off + d.length ≤ 0x2000)
  | .svRead f | .svWrite f | .feed f | .group f | .keepEnter f | .keepExit f | .output f | .svDac f | .svFrameRejected f => f.ok
  | .bootSequence _ a b | .fwWatchdogExpiry _ a b | .startTimeout _ a b => copiesOk a b
  | .ramUncorrectable a _ x y => decide (a < 0x40000) && copiesOk x y
  | .uplinkFrame _ bits e => bits.length == 16 && e.lane.length == 7
  | .groupShed _ cur _ => cur.length == 8
  | .processUpdate l => l.length == 8
  | .driftUpdate h g => h.length == 8 && g.length == 8
  | .retuneDone _ up down eq emph => up.length == 16 && down.length == 3 && decide (eq < 16) && decide (emph < 3)
  | .mirror _ w => decide (w < 0x4000)
  | .conversionDone _ code => decide (code < 4096)
  | .isduResponse _ _ _ d => decide (d.length ≤ 232)
  | .crossingDelivery | .govCeilingWrite _ _ _ | .govVdeclWrite _ _ _ | .pclkMirrorRefresh | .mirrorStale _ | .xinLost
  | .pclkLost | .mclkLost _ | .gclkLost _ | .chModeWrite _ _ _ _ | .parkEnd _ _ | .chPermitWrite _ _ _ _ _
  | .outCmdWrite _ _ _ _ _ | .limitReached _ | .limitingLeft _ | .limitDwellExpiry _ | .inrushWindowEnd _ _
  | .mean100us _ _ _ _ _ | .olWindowExpiry _ | .thermWarn _ _ | .thermalOff _ _ | .thermalReturn _ _ | .clampEventEnd _ _
  | .pairImbalance _ | .senseCrossing _ _ | .crossingTimeout _ | .clearFault _ _ _ _ _ | .clearClamp _ _ _ | .clearFuse _ _ _
  | .offCheckPhase _ _ _ | .stuckOn _ _ | .wiredDetect _ _ _ _ | .schedule | .cancelEntry | .slotDue | .queueRoom _
  | .foldEnableWrite _ _ _ | .foldCancelWrite _ _ _ | .timedOn _ | .timedOff _ | .timedPulse _ | .pulseEnd _ | .timedPwmStart _
  | .timedPwmStop _ | .timedPwmDuty _ | .timedDac _ | .delay _ _ | .edgeDoneTimeout _ | .pwmEdge _ | .pwmRunStart _ _ _ _ _
  | .pwmRunEnd _ _ _ _ _ | .captureSample _ | .strokeWindowExpiry _ | .relearn _ _ _ _ | .skBaseWrite _ _ _ _
  | .skTrendWrite _ _ _ _ | .comparatorChange _ _ | .edgeQualified _ | .timestamp _ _ | .tally _ _ | .inTallyWrite _ _ _ _
  | .wireBreakSet _ _ | .wireBreakClear _ _ | .loopShort _ | .loopSupplyRetry _ _ | .inOverload _ | .shuntRetry _ _
  | .loopCheck _ _ _ | .anDacWrite _ _ _ _ _ | .anClampWrite _ _ _ _ _ | .dacRampStep _ | .compliance _ | .complianceClear _
  | .mismatch _ _ | .bufferOverload _ _ | .analogHot _ | .analogHotClear _ | .coarseSample _ | .firOutput _ | .fineSample _
  | .scCfgWrite _ _ _ _ | .chainSync _ _ _ _ | .swapRequest _ _ _ _ | .dcClear _ _ _ _ | .winWrite _ _ _ _ _
  | .urgentCondition _ _ | .conditionEvaluate _ | .reflexCancel | .urgentAction _ _ | .reflexOn _ | .reflexOff _
  | .reflexPulse _ | .reflexPwm _ | .rfxArmWrite _ _ _ _ | .armAtCommit _ _ _ _ | .ruleLive _ | .holdoffEnd _
  | .ruleWrite _ _ _ _ _ | .rateWrite _ _ _ | .slewWrite _ _ _ | .slewDone | .stepCommit _ _ _ | .stepApply | .syncInEdge _
  | .syncOutPulse | .syncOutEnd | .portStart _ _ _ _ | .portStop _ _ _ _ | .admitDevice _ _ _ _ | .poweringEnd _ | .wakeUp _
  | .deviceAnswer _ _ | .page1Inspected _ _ | .preoperateDone _ | .iolCycle _ _ _ | .iolPdWrite _ _ _ _ _ | .isduRead
  | .isduWrite | .powerCycle | .powerCycleEnd _ | .pdOut | .abort | .isduTimeout _ | .portEvent _ _ | .driverOverload _
  | .driverRetry _ _ | .frameCompose _ | .partATaken _ _ | .partBTaken _ _ | .dlWrite _ | .dlRule _ | .dlAction _ | .dlTime _
  | .dlStep _ | .dlIol _ | .endLoad _ | .controlRelease _ | .controlRestart _ | .controlHold _ | .partAck _ _ | .actionAck _ _
  | .urgentRetry _ | .urgentSkip _ | .recordResend _ _ _ | .event _ _ | .iolRecord _ _ | .linkstat _ _ | .refresh _
  | .uplinkLock _ | .uplinkLost _ | .uplinkLostTimeout _ | .watchdogExpiry _ | .grpFeed _ _ _ _ | .forceSafe _ _ _ _
  | .unforce _ _ _ _ | .release _ _ _ _ | .restart _ _ _ _ | .gclkReturn _ | .limpHomeBegin _ | .limpHomeEnd _
  | .uvWarnSet _ _ _ | .uvWarnClear _ _ _ | .uvLockout _ _ _ | .holdupBegin _ _ _ | .holdupExhausted _ _ _
  | .holdCapMeasured _ _ | .lockoutRelease _ _ _ | .channelRelease _ | .supplyAck _ _ _ _ _ | .ovLockout _ _ _
  | .clampDisarm _ _ | .ovClear _ _ _ | .reverseLplus _ _ _ | .gndfLoss _ | .checkResume _ | .ringWbWrite _ | .outboundEntry _
  | .ringMessage _ | .ringEnable _ _ _ _ | .ringDisable _ _ _ _ | .ringResume _ _ _ _ | .nop | .write | .writeMasked | .read
  | .readBlock | .recordCopy | .linkEvent _ _ _ | .powerStateChange _ | .linkDown | .perstN | .hotReset | .functionLevelReset
  | .rootSoftReset _ _ _ | .hubDieResetRequest _ _ _ | .hubResetEnd | .drvStart _ | .drvContinue _ | .drvStop _ _
  | .drvClear _ _ | .recover _ | .drvCfgWrite _ _ _ _ _ | .descriptorStart _ | .ckBindWrite _ _ _ _ | .ckRunWrite _ _ _ _
  | .abandon _ _ | .svFrameStart _ | .handbackRequest _ _ _ | .verify _ _ _ | .verifyDone | .activate _ _ _ | .handover
  | .handoverTimeout | .fwRestart _ _ _ | .fwStop _ _ _ | .fwKick _ _ _ | .ramDataAccess _ _ | .tempUpdate _ _ _ _
  | .railUpdate _ _ | .vidRaiseFw | .vidRaiseHw | .vidApply | .vidReqWrite _ _ _ | .sequenceA _ | .sequenceB _
  | .urgentConversion _ | .resMeasurement _ _ _ _ _ _ | .hoursTick | .hoursWrite _ _ _ _ _ | .eyeSweep _ _ _
  | .baselineWrite _ _ | .reduceWrite _ _ _ _ _ | .retune _ _ _ _ | .ledgerWrite | .ledgerPost _ _ _
  | .unfreeze _ _ _ | .faultAck _ _ _ | .hourlyCommit _ | .localCommitEnd _ | .vauxApplied | .vauxLost | .hubPowerOnReset _
  | .powerOnResetEnd | .cclkLock | .phyRailLow | .vddIoFall | .boundaryScanReset _ | .groupDiePor _ | .mclkLock _
  | .pllLockLoss | .xinReturn | .hubRailRise | .phyRailRise | .perstNRelease | .holdupEnd _ _ _ | .reverseClear _ _ _
  | .baselineRunStart => true

/-- Well-formedness of a command. -/
def Instr.wf (i : Instr) : Bool := i.sizes && i.wholeSv

end Sys2Proof
end

