-- ==== Sys2Proof/Tests/Slice0.lean ====
section
/-! SUPPORT. Tests: for every statement with hypotheses, states and operands that meet them clause by clause, with what the commands
give there; the expected values are worked out from the spec's rules and tables. -/

set_option maxRecDepth 4000
set_option Elab.async false

namespace Sys2Proof.Tests

open Sys2Proof Sys2Proof.Machine

/-! ### The states of the tests -/

/-- The hub die runs, the link is up with Memory Space Enable and Bus Master Enable, and every group die has supply and clocks, two seconds after reset. -/
def base : State :=
  { hub := { run := .running, core := true, vddIo := true, vaux := true, clock := 2000000000, time := 1000 * 2 ^ 32, grid := 400 }
    host := { dlUp := true, perst := false, phyLow := false, cfg := [(4, 0x00100006)] }
    dies := Vector.replicate 4
      { powered := true, intact := true, gclk := true, timed := true, gotTime := true, time := 1000 * 2 ^ 32 } }
/-- Fields put in at the hub die. -/
def rg (s : State) (l : List (Fld × Nat)) : State := l.foldl (fun s p => s.setReg p.1 p.2) s
/-- Fields put in at the group dies. -/
def dg (s : State) (l : List (Fld × Nat)) : State := l.foldl (fun s p => s.setDie p.1 p.2) s
/-- Group 0 present. -/
def pres : State := rg base [(F.GRP_STATUS_STATE 0, 3)]
/-- The state after a command; the state itself where it answers none. -/
def run (i : Instr) (s : State) : State := match exec i s with | .next t => t | _ => s

/-! ### Machine time, the reflex engine, safe state, the Fold -/

def mt1 : State := rg base [(F.TB_STATUS_SLEWING, 1)]
def mt2 : State := { base with hub := { base.hub with step := some (-8, 0, 1, 399) } }
def mt3 : State := rg base [(F.TB_CTRL_SI_EDGE, 1)]
def mt4 : State := { rg base [(F.TB_CTRL_SO_EN, 1)] with hub := { base.hub with soNext := some 900 } }
def mt5 : State := { base with hub := { base.hub with so := some 400 } }
theorem test_MachineTimeCommands :
    (mt1.hubOn = true ∧ mt1.reg F.TB_STATUS_SLEWING = 1 ∧ mt1.hub.slew = 0 ∧
      (run .slewDone mt1).reg F.TB_STATUS_SLEWING = 0 ∧ bit ((run .slewDone mt1).reg (F.CAUSE .tb)) 4 = true) ∧
    (mt2.hubOn = true ∧ mt2.hub.step = some (-8, 0, 1, 399) ∧ 399 < mt2.tick ∧ 0 ≤ (mt2.hub.time : Int) + -8 * 2 ^ 32 ∧
      (run .stepApply mt2).now = 992 ∧ (run .stepApply mt2).hub.last = (-8, 1000) ∧
      (run .stepApply mt2).hub.grid = 400 ∧ (run .stepApply mt2).dieNow 1 = 1000) ∧
    (mt3.hubOn = true ∧ mt3.siSelected true = true ∧ mt3.hub.siTick = none ∧
      (run (.syncInEdge true) mt3).pair F.TB_SI_LO F.TB_SI_HI = 991 ∧ (run (.syncInEdge true) mt3).hub.siTick = some 400) ∧
    (mt4.hubOn = true ∧ mt4.hub.soNext = some 900 ∧ mt4.on F.TB_CTRL_SO_EN = true ∧ 900 ≤ mt4.now ∧ mt4.hub.so = none ∧
      (run .syncOutPulse mt4).hub.so = some 650) ∧
    (mt5.hubOn = true ∧ mt5.hub.so = some 400 ∧ 400 ≤ mt5.tick ∧ run .syncOutEnd mt5 = { mt5 with hub := { mt5.hub with so := none } }) := by
  decide +kernel
def rf0 : Cond := { kind := 3, src := 0, bit := 0 }
def rf1 : State := { base with rfx := { lanes := #v[[rf0], [], [], []], cancels := [(3, 1, 399), (4, 2, 400)] } }
def rfSlot : Slot := { idx := 0, t := 5000, target := 1, action := 1, param := 0, policy := 1, order := 0, r := 5000 }
def rf2 : State := { rf1 with fold := { slots := [rfSlot] } }
def rf3 : State := rg base [(F.RFX_ARM_PHASE 5, 1), (F.RFX_ARM_AT_LO 5, 1000)]
def rf4 : State := { rg base [(F.RFX_ARM_PHASE 5, 3), (F.RFX_ARM_HOLDOFF 5, 1)] with rfx := { fired := [(5, 150)] } }
def rf6 : State := { rf1 with rfx := { lanes := #v[[rf0], [], [], []], evalAt := #v[some 400, none, none, none] } }
theorem test_ReflexCommands :
    (rf1.hubOn = true ∧ rf1.rfx.lanes[0] = [rf0] ∧ rf1.rfx.evalAt[0] ≠ some rf1.tick ∧
      (run (.conditionEvaluate 0) rf1).rfx.lanes = #v[[], [], [], []] ∧ (run (.conditionEvaluate 0) rf1).rfx.evalAt[0] = some 400) ∧
    (rf6.hubOn = true ∧ rf6.rfx.lanes[0] = [rf0] ∧ rf6.rfx.evalAt[0] = some rf6.tick ∧ run (.conditionEvaluate 0) rf6 = rf6) ∧
    (rf2.hubOn = true ∧ (3, (1 : Ch), 399) ∈ rf2.rfx.cancels ∧ 399 < rf2.tick ∧ (run .reflexCancel rf2).fold.slots = [] ∧
      (run .reflexCancel rf2).rfx.cancels = [(4, 2, 400)]) ∧
    (rf3.hubOn = true ∧ rf3.reg (F.RFX_ARM_PHASE 5) = 1 ∧ rf3.regOld (F.RFX_ARM_AT_HI 5) * 2 ^ 32 + rf3.regOld (F.RFX_ARM_AT_LO 5) ≤ rf3.now ∧
      run (.ruleLive 5) rf3 = rf3.setReg (F.RFX_ARM_PHASE 5) 2) ∧
    (rf4.hubOn = true ∧ rf4.reg (F.RFX_ARM_PHASE 5) = 3 ∧ (rf4.rfx.fired.lookup 5).getD 0 + 250 * rf4.reg (F.RFX_ARM_HOLDOFF 5) ≤ rf4.tick ∧
      run (.holdoffEnd 5) rf4 = rf4.setReg (F.RFX_ARM_PHASE 5) 2) := by decide +kernel
/-- Rule 0 watches the rising edge of channel 0, live, one-shot; rule 1 the same, in holdoff. -/
def rf5 : State := rg rf1 [(F.RFX_CTRL_ENABLE, 1), (F.RFX_COND_KIND 0, 3), (F.RFX_COND_MASK 0, 1), (F.RFX_ARM_PHASE 0, 2), (F.RFX_ARM_ARM 0, 2),
  (F.RFX_COND_KIND 1, 3), (F.RFX_COND_MASK 1, 1), (F.RFX_ARM_PHASE 1, 3), (F.RFX_ARM_ARM 1, 1)]
/-- Rule 0 disarmed by a write of this very tick. -/
def rf7 : State := run (.rfxArmWrite .host 0 15 0) rf5
theorem test_MatchingRulesFire :
    (rf5.hubOn = true ∧ rf5.rfx.lanes[0] = [rf0] ∧ rf5.rfx.evalAt[0] ≠ some rf5.tick ∧ rf5.on F.RFX_CTRL_ENABLE = true ∧ rf5.ruleMatches 0 rf0 = true ∧ rf5.regOld (F.RFX_ARM_PHASE 0) = 2 ∧
      rf5.written (F.RFX_ARM_ARM 0) = false ∧
      (run (.conditionEvaluate 0) rf5).reg (F.RFX_FIRES_FIRES 0) = 1 ∧ (run (.conditionEvaluate 0) rf5).reg (F.RFX_ARM_PHASE 0) = 0) ∧
    (rf5.ruleMatches 1 rf0 = true ∧ rf5.regOld (F.RFX_ARM_PHASE 1) = 3 ∧ (run (.conditionEvaluate 0) rf5).reg (F.RFX_FIRES_IGNORED 1) = 1) ∧
    (rf7.ruleMatches 0 rf0 = true ∧ rf7.regOld (F.RFX_ARM_PHASE 0) = 2 ∧ rf7.written (F.RFX_ARM_ARM 0) = true ∧ rf7.reg (F.RFX_ARM_PHASE 0) = 0 ∧
      (run (.conditionEvaluate 0) rf7).reg (F.RFX_FIRES_FIRES 0) = 1 ∧ (run (.conditionEvaluate 0) rf7).reg (F.RFX_ARM_PHASE 0) = 0) ∧
    (rf5.ruleMatches 2 rf0 = false ∧ (run (.conditionEvaluate 0) rf5).reg (F.RFX_FIRES_FIRES 2) = 0) := by
  decide +kernel
def sf1 : State := dg base [(F.GRP_LIMP_CTRL_ENABLE 1, 1), (F.GRP_LOCK 1, 1), (F.GRP_LIMP_CTRL_ACTIVE_LOW 1, 1)]
def sf2 : State := base.updDie 1 fun d => { d with timed := false }
def sf3 : State := ((base.updDie 1 fun d => { d with timed := false }).updCh 9 fun k => { k with sw := true })
def sf4 : State := ((base.updDie 1 fun d => { d with gclk := false, safe := true }).updCh 9 fun k => { k with sw := true })
/-- LIMPx has just gone high, with ACTIVE_LOW 1. -/
def sf5 : State := sf1.updDie 1 fun d => { d with limpPin := (true, base.clock) }
theorem test_SafeStateCommands :
    (base.dieOn 1 = true ∧ (base.dieOf 1).intact = true ∧ base.wdPassed 1 = true ∧ ((run (.watchdogExpiry 1) base).dieOf 1).safeCause = 1) ∧
    ((base.dieOf 1).gclk = true ∧ (base.dieOf 1).timed = true ∧ ((run (.gclkLost 1) base).dieOf 1).safeCause = 3) ∧
    (sf3.dieOn 1 = true ∧ (sf3.dieOf 1).gclk = true ∧ (sf3.dieOf 1).timed = false ∧ ((run (.gclkLost 1) sf3).ch 9).sw = false) ∧
    ((sf4.dieOf 1).powered = true ∧ (sf4.dieOf 1).hold = false ∧ ((run (.gclkReturn 1) sf4).dieOf 1).gclk = true) ∧
    (((run (.mclkLost 1) base).dieOf 1).timed = false ∧ (((run (.mclkLost 1) base).dieOf 1).store.map (·.code)) = [0x4A]) ∧
    (sf4.dieOn 1 = true ∧ (sf4.dieOf 1).timed = true ∧ (sf4.dieOf 1).gclk = false ∧ ((run (.mclkLost 1) sf4).ch 9).sw = false) ∧
    ((sf2.dieOf 1).powered = true ∧ (sf2.dieOf 1).hold = false ∧ (sf2.dieOf 1).timed = false ∧ (sf2.dieOf 1).gotTime = true ∧
      ((run (.mclkLock 1) sf2).dieOf 1).timed = true) ∧
    (sf1.dieOn 1 = true ∧ sf1.don (F.GRP_LIMP_CTRL_ENABLE 1) = true ∧ sf1.don (F.GRP_LOCK 1) = true ∧
      sf1.limpHeld 1 (!sf1.don (F.GRP_LIMP_CTRL_ACTIVE_LOW 1)) = true ∧ ((run (.limpHomeBegin ⟨1, false⟩) sf5).dieOf 1).limpPin.1 = false ∧
      ((run (.limpHomeBegin ⟨1, false⟩) sf5).dieOf 1).limp = false ∧ ((run (.limpHomeBegin ⟨1, true⟩) sf1).dieOf 1).limp = true) ∧
    (sf1.limpHeld 1 (sf1.don (F.GRP_LIMP_CTRL_ACTIVE_LOW 1)) = true ∧ ((run (.limpHomeEnd ⟨1, true⟩) sf1).dieOf 1).limp = false ∧
      sf5.dieOn 1 = true ∧ ((run (.limpHomeEnd ⟨1, false⟩) sf5).dieOf 1).limpPin.1 = true) := by decide +kernel
def fdEntry : Entry := [0x20, 1, 2, 0] ++ leBytes 8 9000 ++ leBytes 4 0x0101 ++ leBytes 4 0 ++ List.replicate 44 0
def fdCancel : Entry := [0x21, 0, 2, 0] ++ leBytes 4 2 ++ leBytes 8 0 ++ leBytes 8 (2 ^ 64 - 1) ++ List.replicate 40 0
def fd1 (e : Entry) : State := { rg rf2 [(F.RING_CFG_ENABLE 2, 1)] with host := { base.host with head2 := some e } }
def fdDue : Slot := { rfSlot with r := 900 }
def fd2 : State := { (rg pres [(F.FOLD_CTRL_ENABLE, 1)]).updCh 1 (fun k => { k with dref := (some 100, some 100) }) with fold := { slots := [fdDue] } }
def fd4 : State := { fd2 with fold := { slots := [{ fdDue with due := true }] } }
def fdW : EdgeWait := { t := 0, target := 0, action := 129, g := 0, on := true, order := 0, uncomp := false, late := false, adj := false }
def fd3 : State := { rg (base.updCh 0 fun k => { k with waits := [fdW] }) [(F.RING_CFG_ENABLE 3, 1)] with
  hub := { base.hub with time := 60000 * 2 ^ 32 } }
theorem test_FoldCommands :
    ((fd1 fdEntry).hubOn = true ∧ (fd1 fdEntry).host.head2 = some fdEntry ∧ (fd1 fdEntry).feeds = true ∧ bytesAt fdEntry 0 1 = 0x20 ∧
      refuseReason fdEntry = 0 ∧ (fd1 fdEntry).occupancy + entryCount fdEntry ≤ 192 ∧ (fd1 fdEntry).on F.FOLD_CTRL_ENABLE = false ∧
      entryCount fdEntry = 1 ∧ (run .schedule (fd1 fdEntry)).occupancy = 2) ∧
    ((fd1 fdCancel).feeds = true ∧ bytesAt fdCancel 0 1 = 0x21 ∧ refuseReason fdCancel = 0 ∧ (run .cancelEntry (fd1 fdCancel)).fold.slots = []) ∧
    (fd2.hubOn = true ∧ firstSlot fd2.dueSlots = some fdDue ∧ fd2.roomFor fdDue = true ∧ (run .slotDue fd2).fold.slots = [] ∧
      fd2.absent 0 = false ∧ ((run .slotDue fd2).link 0).tx.length = 1) ∧
    (fd3.hubOn = true ∧ (fd3.ch 0).waits = [fdW] ∧ fdW.g + 50000 ≤ fd3.now ∧ 128 ≤ fdW.action ∧ fd3.on (F.RING_CFG_ENABLE 3) = true ∧
      fd3.host.notif.length < 128 ∧
      (run (.edgeDoneTimeout 0) fd3).host.notif.length = 1) := by decide +kernel
theorem test_QueueRoomDrains : fd4.hubOn = true ∧ fd4.fold.slots.length ≤ 192 ∧ (run (.queueRoom 0) fd4).fold.slots = [] := by decide +kernel

/-! ### Outputs, protections, diagnostics, analogue loops, inputs: channel 2 of group 0 -/

/-- Channel 2 in a state of its own, with fields put in at its die. -/
def at2 (k : Chan) (l : List (Fld × Nat) := []) : State := dg { base with chans := base.chans.set 2 k } l
/-- Channel 2 after a command. -/
def ch2 (i : Instr) (s : State) : Chan := (run i s).ch 2
/-- The die's fields of an output with permit and a limit of 1 A. -/
def outF : List (Fld × Nat) := [(F.CH_PERMIT 2, 1), (F.OUT_LIMIT_CUR_LIMIT 2, 20)]
def le1 : State := at2 { mode := 1, cmdOn := true, work := .on, sw := true } outF
def le2 : State := at2 { mode := 1, cmdOn := true, work := .limiting, from_ := .on, sw := true, dwellAt := some 0 } outF
def le3 : State := at2 { mode := 1, cmdOn := true, work := .inrush, sw := true, inrush := true, edge := some (true, true), lpE := 240 } outF
def le4 : State := at2 { mode := 1, cmdOn := true, work := .on, sw := true, olAt := some 0 } outF
theorem test_LimitAndEdgeCommands :
    (le1.dieOn (grpOf 2) = true ∧ (le1.ch 2).sw = true ∧ (le1.ch 2).work = .on ∧ (le1.ch 2).member = false ∧ le1.legLimit 2 = 1000 ∧
      atLimit 910 1000 = true ∧ (ch2 (.limitReached ⟨2, 910⟩) le1).work = .limiting ∧
      le1.headOf 2 = 2 ∧ atLimit 909 1000 = false ∧ (ch2 (.limitReached ⟨2, 909⟩) le1).work = .on) ∧
    ((le2.ch 2).work = .limiting ∧ 10000 * 1035 ≤ 95 * (107 * le2.legLimit 2 + 2000) ∧ le2.passed (grpOf 2) (le2.ch 2).limAt 10000 = true ∧
      (ch2 (.limitingLeft ⟨2, 1035⟩) le2).work = .on) ∧
    ((le2.ch 2).dwellAt = some 0 ∧ le2.working 2 = .limiting ∧ le2.passed (grpOf 2) 0 (le2.dwellNs 2) = true ∧ (le2.ch 2).latFuse = false ∧
      le2.switchable 2 = true ∧ (ch2 (.limitDwellExpiry 2) le2).latFuse = true ∧ (ch2 (.limitDwellExpiry 2) le2).work = .off) ∧
    ((le3.ch 2).inrush = true ∧
      le3.passed (grpOf 2) (le3.ch 2).inrushAt (inrushWindow (le3.dreg (F.OUT_LIMIT_INRUSH_WINDOW 2)) * 100000) = true ∧
      (ch2 (.inrushWindowEnd 2 100) le3).inrush = false ∧ (ch2 (.inrushWindowEnd 2 100) le3).work = .on) ∧
    ((le4.ch 2).olAt = some 0 ∧ le4.passed (grpOf 2) 0 (max 1 (le4.dreg (F.OUT_CFG_OL_WINDOW 2)) * 100000) = true ∧
      (ch2 (.olWindowExpiry 2) le4).olOn = true) ∧
    ((le3.ch 2).edge = some (true, true) ∧ (ch2 (.senseCrossing 2 50000) le3).edge = none ∧
      ((run (.senseCrossing 2 50000) le3).dieOf 0).delayQ.map (fun x => (x.dir, x.delay)) = [(true, 50000)]) ∧
    ((le3.ch 2).edge ≠ none ∧ le3.passed (grpOf 2) (le3.ch 2).edgeAt 50000 = true ∧ (ch2 (.crossingTimeout 2) le3).edge = none) := by decide +kernel
def pr1 : State :=
  at2 { mode := 2, cmdOn := true, work := .on, sw := true, latTherm := true, tj := 1200 } [(F.CH_PERMIT 2, 1), (F.CH_PERMIT 3, 1)]
def pr2 : State := at2 { mode := 1, level := 1 } []
/-- A pair whose legs carry 700 mA and 300 mA, for longer than 1 ms. -/
def pr3 : State := (pr1.updCh 2 fun k => { k with cur := 700, cur10 := 700, imbAt := some 0 }).updCh 3 fun k => { k with cur := 300, cur10 := 300 }
theorem test_ProtectionCommands :
    (pr1.dieOn (grpOf 2) = true ∧ pr1.pairHead 2 = true ∧ chSucc 2 ≠ 2 ∧ (ch2 (.mean100us 2 ⟨700, 690, false⟩ 1190 5 6) pr1).cur = 700 ∧
      (ch2 (.mean100us 2 ⟨700, 690, false⟩ 1190 5 6) pr1).cur10 = 690 ∧
      (run (.mean100us 2 ⟨700, 690, false⟩ 1190 70000 (-1)) pr1).dreg (F.AN_MEAS_VOLT 2) = 0 ∧
      (run (.mean100us 2 ⟨700, 690, false⟩ 1190 70000 (-1)) pr1).dreg (F.AN_MEAS_CURRENT 2) = 65535) ∧
    (pr2.pairHead 2 = false ∧ (ch2 (.mean100us 2 ⟨900, 900, false⟩ 0 0 0) pr2).theta = 30 / 40000 ∧
      (ch2 (.mean100us 2 ⟨900, 900, true⟩ 0 0 0) pr2).level = 1) ∧
    ((run (.thermWarn 2 1200) pr2).don (F.OUT_DIAG_THERM_WARN 2) = true ∧ (run (.thermWarn 2 1159) pr2).don (F.OUT_DIAG_THERM_WARN 2) = false) ∧
    (switchMode (le1.ch 2).mode = true ∧ (le1.ch 2).latTherm = false ∧ le1.switchable 2 = true ∧ (ch2 (.thermalOff 2 1360) le1).sw = false) ∧
    ((pr1.ch (pr1.headOf 2)).latTherm = true ∧ (pr1.ch 3).tj < 1240 ∧ (ch2 (.thermalReturn 2 1239) pr1).latTherm = false) ∧
    ((pr2.ch 2).clampOff = false ∧ (ch2 (.clampEventEnd 2 10) pr2).level = 0 ∧ (ch2 (.clampEventEnd 2 10) pr2).latClamp = true ∧
      (ch2 (.clampEventEnd 2 801) pr2).latFault ≠ 0 ∧ (ch2 (.clampEventEnd 2 800) pr2).latFault = 0) ∧
    ((pr3.ch 2).imbAt = some 0 ∧ pr3.imbalanced 2 = true ∧ pr3.passed (grpOf 2) 0 1000000 = true ∧
      (run (.pairImbalance 2) pr3).don (F.OUT_DIAG_PAIR_IMBAL 2) = true) ∧
    ((pr2.ch 2).sw = false ∧ switchMode (pr2.ch 2).mode = true ∧ pr2.passed (grpOf 2) (pr2.ch 2).edgeAt 20000 = true ∧ (pr2.ch 2).clamping = false ∧
      (ch2 (.stuckOn 2 ⟨51, true, false⟩) pr2).latFault = 2 ∧ (ch2 (.stuckOn 2 ⟨50, true, false⟩) pr2).latFault = 0 ∧
      (run (.stuckOn 2 ⟨51, true, false⟩) pr2).dreg (F.OUT_FAULT_CAUSE 2) = 2) := by decide +kernel
def dx1 : State := at2 { mode := 1, permitHeld := false } [(F.CH_PERMIT 2, 1), (F.OUT_CFG_OFFCHK 2, 1)]
def dx2 : State := at2 { mode := 1, offHigh := some true } [(F.CH_PERMIT 2, 1), (F.OUT_CFG_OFFCHK 2, 1)]
def dx5 : State := { dx1 with chans := dx1.chans.set 5 { mode := 1, onCross := some (2 * 10 ^ 9 - 20000) } }
def dx6 : State := { le1 with chans := le1.chans.set 5 { mode := 1, edgeAt := 2 * 10 ^ 9 - 19000 } }
def dx7 : State := dg le1 [(F.OUT_DIAG_WIRED 2, 1), (F.OUT_DIAG_SUSPECT 2, 5), (F.OUT_DIAG_WIRED 5, 1), (F.OUT_DIAG_SUSPECT 5, 2)]
def dxW (r : Bool) : Stroke := { t0 := some 0, residual := r, pair := false }
def dx3 (r : Bool) : State := { at2 { stroke := some (dxW r) } with hub := { base.hub with time := 200000000 * 2 ^ 32 } }
theorem test_DiagnosticCommands :
    (dx1.offChecks 2 = true ∧ (dx1.ch 2).offHigh = none ∧ (ch2 (.offCheckPhase 2 true none) dx1).offHigh = some true) ∧
    (dx2.offChecks 2 = true ∧ (dx2.ch 2).offHigh = some true ∧ (ch2 (.offCheckPhase 2 false none) dx2).offPrev = 2) ∧
    ((dx5.ch 2).edge = none ∧ dx5.offChecks 2 = true ∧ dx5.crossSuspect 2 = some 5 ∧
      (run (.senseCrossing 2 0) dx5).don (F.OUT_DIAG_CROSS_DRIVE 2) = true ∧ (run (.senseCrossing 2 0) dx5).dreg (F.OUT_DIAG_SUSPECT 2) = 5 ∧
      ({ dx5 with hub := { dx5.hub with clock := 2 * 10 ^ 9 + 1 } } : State).crossSuspect 2 = none) ∧
    (dx6.onLately (chOf 0 2) = true ∧ dx6.onLately (chOf 0 5) = true ∧ (dx6.ch (chOf 0 2)).sw = true ∧
      (run (.wiredDetect 0 2 5 (199, 249)) dx6).don (F.OUT_DIAG_WIRED 5) = true ∧
      (run (.wiredDetect 0 2 5 (199, 249)) dx6).dreg (F.OUT_DIAG_SUSPECT 2) = 5) ∧
    (dx7.wiredPair 2 5 = true ∧ (run (.wiredDetect 0 2 5 (200, 250)) dx7).don (F.OUT_DIAG_WIRED 2) = false ∧
      (run (.wiredDetect 0 2 5 (0, 49)) dx7).don (F.OUT_DIAG_WIRED 5) = false) ∧
    (le1.shedPick 0 [0, 0, 700] = some 2 ∧ (ch2 (.groupShed 0 [0, 0, 700] 6501) le1).cmdOn = false ∧
      (ch2 (.groupShed 0 [0, 0, 700] 6501) le1).sw = false ∧ (ch2 (.groupShed 0 [0, 0, 700] 6500) le1).sw = true) ∧
    ((dx3 true).hubOn = true ∧ ((dx3 true).ch 2).stroke = some (dxW true) ∧ 0 + strokeWindow ((dx3 true).reg (F.SK_CFG_WINDOW 2)) ≤ (dx3 true).now ∧
      (run (.strokeWindowExpiry 2) (dx3 true)).reg (F.SK_LAST_RESULT 2) = 4 ∧
      (run (.strokeWindowExpiry 2) (dx3 false)).reg (F.SK_LAST_RESULT 2) = 3) := by decide +kernel
def an1 : State := at2 { mode := 6, dacCmd := 4000 } [(F.CH_PERMIT 2, 1), (F.AN_STATUS_RAMPING 2, 1), (F.AN_CFG_RAMP 2, 5)]
def an2 : State := at2 { mode := 7, anOff := true, misAt := some 0 } [(F.CH_PERMIT 2, 1), (F.AN_CFG_MISMATCH 2, 9), (F.AN_CFG_MISMATCH_TIME 2, 3)]
def an3 : State := at2 { mode := 4, lowAt := some 0, highAt := some 0 }
  [(F.CH_PERMIT 2, 1), (F.AN_CFG_LOOP_SUPPLY 2, 1), (F.AN_LOOP_HIGH 2, 7), (F.AN_LOOP_LOW 2, 3)]
def an4 : State := at2 { mode := 4, loopOff := true, shuntOff := true } [(F.CH_PERMIT 2, 1)]
def an5 : State := at2 { mode := 4, loopOff := true } [(F.CH_PERMIT 2, 1), (F.AN_CFG_LOOP_SUPPLY 2, 1), (F.AN_STATUS_LOOP_SHORT 2, 1)]
theorem test_AnalogCommands :
    (an1.dieOn (grpOf 2) = true ∧ an1.don (F.AN_STATUS_RAMPING 2) = true ∧ an1.dacOn 2 = true ∧ an1.dreg (F.AN_CFG_RAMP 2) ≠ 0 ∧
      (run (.dacRampStep 2) an1).dreg (F.AN_STATUS_DAC_NOW 2) = 80) ∧
    ((an1.ch 2).mode = 6 ∧ (an1.dieOf (grpOf 2)).suspended = false ∧ an1.openNow 2 = true ∧
      (run (.compliance 2) an1).don (F.AN_STATUS_COMPLIANCE 2) = true ∧ (run (.compliance 2) an1).don (F.AN_STATUS_OPEN 2) = true) ∧
    ((run (.complianceClear 2) an1).don (F.AN_STATUS_COMPLIANCE 2) = false) ∧
    (an2.misRuns 2 = true ∧ an2.spanMs 2 (an2.ch 2).misAt (an2.dreg (F.AN_CFG_MISMATCH_TIME 2)) = true ∧
      (run (.mismatch 0 2) an2).don (F.AN_STATUS_MISMATCH 2) = true) ∧
    ((an2.ch 2).mode = 7 ∧ (run (.bufferOverload 2 true) an2).don (F.AN_STATUS_OVERLOAD 2) = true) ∧
    (analogMode (an1.ch 2).mode = true ∧ (ch2 (.analogHot 2) an1).anOff = true) ∧
    ((an2.ch 2).anOff = true ∧ (ch2 (.analogHotClear 2) an2).anOff = false) ∧
    (an3.loopOn 2 = true ∧ (ch2 (.loopShort 2) an3).loopOff = true) ∧
    ((an5.ch 2).loopOff = true ∧ an5.loopFree 2 = true ∧ (ch2 (.loopSupplyRetry 2 false) an5).loopOff = false) ∧
    (an4.loopIn 2 = true ∧ an4.don (F.AN_CFG_LOOP_SUPPLY 2) = false ∧ (ch2 (.inOverload 2) an4).shuntOff = true) ∧
    ((an4.ch 2).shuntOff = true ∧ (ch2 (.shuntRetry 2 false) an4).shuntOff = false) ∧
    (an3.loopRuns 2 true = true ∧ an3.loopRuns 2 false = true ∧ an3.spanMs 2 (an3.ch 2).highAt (an3.dreg (F.AN_LOOP_CHECK_TIME 2)) = true ∧
      an3.spanMs 2 (an3.ch 2).lowAt (an3.dreg (F.AN_LOOP_CHECK_TIME 2)) = true ∧
      (run (.loopCheck 0 2 true) an3).don (F.AN_STATUS_OVER 2) = true ∧ (run (.loopCheck 0 2 false) an3).don (F.AN_STATUS_UNDER 2) = true) := by
  decide +kernel
/-- A threshold of 10 V with a hysteresis of 2 V, and a filter of 3 us. -/
def inF : List (Fld × Nat) :=
  [(F.IN_CFG_TYPE 2, 1), (F.IN_WB_WB_THRESH 2, 10), (F.IN_CFG_THRESH 2, 100), (F.IN_CFG_HYST 2, 20), (F.IN_FILTER_RANGE 2, 1), (F.IN_FILTER_COUNT 2, 3)]
def in1 : State := at2 { mode := 3, valid := true, qual := true, wbAt := some 0, crossF := 3000, crossClk := 2000000000 } inF
def in2 : State := at2 { mode := 3, valid := true, comp := true, crossT := 2 ^ 34 + 8, crossF := 3000, crossClk := 1999997000, acc := 65534 }
  ((F.IN_CFG_TALLY_EDGE 2, 0) :: (F.IN_CFG_TS_EDGE 2, 3) :: inF)
def in3 : State := (rg (at2 { mode := 3, acc := 7, toggle := true }) [(F.IN_TALLY 2, 2 ^ 32 - 2), (F.GRP_STATUS_STATE 0, 3)]).updDie 0 fun d =>
  { d with firstAck := true, lane := 7 }
def in4 : State := dg in1 [(F.IN_STATUS_WIRE_BREAK 2, 1)]
/-- The same with IN_TALLY written in this very tick. -/
def in5 : State := run (.inTallyWrite .host 2 15 0) in3
theorem test_InputCommands :
    (in1.dieOn (grpOf 2) = true ∧ in1.inputOn 2 = true ∧ (in1.ch 2).comp ≠ in1.compAt 2 10001 ∧ in1.compAt 2 10000 = (in1.ch 2).comp ∧
      run (.comparatorChange 2 10000) in1 = in1 ∧ (ch2 (.comparatorChange 2 10001) in1).comp = true ∧
      (ch2 (.comparatorChange 2 10001) in1).crossT = 1000 ∧ (ch2 (.comparatorChange 2 10001) in1).crossF = 3000 ∧
      ((run (.comparatorChange 2 10001) in1).dieOf 0).evQ = [.event (.glitch 2)] ∧
      in2.compAt 2 8000 = true ∧ in2.compAt 2 7999 = false) ∧
    (in2.inputOn 2 = true ∧ in2.filterOver 2 = true ∧ (in2.ch 2).valid = true ∧ (in2.ch 2).comp ≠ (in2.ch 2).qual ∧
      tallySelected (in2.dreg (F.IN_CFG_TALLY_EDGE 2)) true = true ∧ tsSelected (in2.dreg (F.IN_CFG_TS_EDGE 2)) true = true ∧
      (in2.dieOf 0).timed = true ∧ (ch2 (.edgeQualified 2) in2).acc = 65535 ∧
      ((run (.edgeQualified 2) in2).dieOf 0).tsQ = [.timestamp 2 true false 8]) ∧
    (in3.hubOn = true ∧ in3.dieOn (grpOf 2) = true ∧ (in3.dieOf (grpOf 2)).firstAck = true ∧ in3.upOn (grpOf 2) = true ∧
      in3.laneFor (grpOf 2) 1 4 = true ∧ (in3.ch 2).acc ≠ 0 ∧ (in3.ch 2).tallyOk ≠ some true ∧ in3.written (F.IN_TALLY 2) = false ∧
      (run (.tally 2 true) in3).reg (F.IN_TALLY 2) = 5) ∧
    (in5.written (F.IN_TALLY 2) = true ∧ in5.laneFor (grpOf 2) 1 4 = true ∧ (in5.ch 2).tallyOk ≠ some true ∧
      (run (.tally 2 true) in5).reg (F.IN_TALLY 2) = 0 ∧ (run (.tally 2 true) in5).tk.later = [(2, 7)]) ∧
    (in1.wbRuns 2 = true ∧ in1.don (F.IN_STATUS_WIRE_BREAK 2) = false ∧ in1.spanMs 2 (in1.ch 2).wbAt (in1.dreg (F.IN_WB_WB_TIME 2)) = true ∧
      (run (.wireBreakSet 0 2) in1).don (F.IN_STATUS_WIRE_BREAK 2) = true) ∧
    (in4.wbRuns 2 = true ∧ in4.don (F.IN_STATUS_WIRE_BREAK 2) = true ∧ in4.spanMs 2 (in4.ch 2).wbAt 1 = true ∧
      (run (.wireBreakClear 0 2) in4).don (F.IN_STATUS_WIRE_BREAK 2) = false) := by decide +kernel

/-! ### Timed commands, reflex actions, supplies -/

/-- A command held at die 0 for channel 2, due at 900. -/
def held2 (x : DlCmd) : Held := { cmd := x, info := none, late := false, gate := 900, gateOff := 1296 }
def td (k : Chan) (x : DlCmd) : State := (at2 k [(F.CH_PERMIT 2, 1)]).updDie 0 fun d => { d with held := [held2 x] }
/-- The first command due for channel 2, alone. -/
def tdDue (s : State) (x : DlCmd) : Bool := decide ((s.dieOf (grpOf 2)).dueHeld (s.at 2) (chN 2) = [held2 x]) && s.switchable 2
def tdOn : State := td { mode := 1 } (.edge 2 true 900)
def tdOff : State := td { mode := 1, cmdOn := true, work := .on, sw := true } (.edge 2 false 900)
def tdPulse : State := td { mode := 1 } (.pulse 2 900 400 1300)
def tdPwm : State := td { mode := 1 } (.pwmStart 2 1 (some 9) 900 4 8)
def tdStop : State := td { mode := 1, cmdOn := true, cmdRun := some (1, none) } (.pwmStop 2 false 900 4)
def tdRun : Run := { preset := 1, own := none, period := 20000, origin := 0, duty := 32768, peak := none, next := (true, 900) }
def tdDuty : State := td { mode := 1, cmdOn := true, run := some tdRun, cmdRun := some (1, none) } (.pwmDuty 2 900 77 4 8)
def tdDac : State := td { mode := 6 } (.dac 2 900 1234)
theorem test_TimedCommands :
    (tdOn.dieOn (grpOf 2) = true ∧ (tdOn.dieOf (grpOf 2)).timed = true ∧ tdDue tdOn (.edge 2 true 900) = true ∧
      (tdOn.ch 2).rfxAt ≠ some (900 / 40) ∧ (ch2 (.timedOn 2) tdOn).cmdOn = true ∧ (ch2 (.timedOn 2) tdOn).sw = true ∧
      run (.timedOff 2) tdOn = tdOn) ∧
    (tdDue tdOff (.edge 2 false 900) = true ∧ (ch2 (.timedOff 2) tdOff).sw = false ∧ run (.timedOn 2) tdOff = tdOff) ∧
    (tdDue tdPulse (.pulse 2 900 400 1300) = true ∧ (ch2 (.timedPulse 2) tdPulse).pulses = [(1300, 1296)]) ∧
    (tdDue tdPwm (.pwmStart 2 1 (some 9) 900 4 8) = true ∧ (tdPwm.ch 2).mode ≠ 9 ∧
      (ch2 (.timedPwmStart 2) tdPwm).cmdRun = some (1, some 9)) ∧
    (tdDue tdStop (.pwmStop 2 false 900 4) = true ∧ (ch2 (.timedPwmStop 2) tdStop).cmdRun = none) ∧
    (tdDue tdDuty (.pwmDuty 2 900 77 4 8) = true ∧ (tdDuty.ch 2).run = some tdRun ∧ (tdDuty.ch 2).pulses = [] ∧
      tdDuty.free11 2 = true ∧ (ch2 (.timedPwmDuty 2) tdDuty).run = some { tdRun with pend := some (904, 77, none) }) ∧
    ((tdDac.dieOf 0).dueHeld (tdDac.at 2) 2 = [held2 (.dac 2 900 1234)] ∧ dacMode (tdDac.ch 2).mode = true ∧ (tdDac.ch 2).park = none ∧
      (run (.timedDac 2) tdDac).dreg (F.AN_DAC_CODE 2) = 1234) := by decide +kernel
def pe1 : State := at2 { mode := 1, cmdOn := true, work := .on, sw := true, pulses := [(2000, 2000), (900, 900)] } [(F.CH_PERMIT 2, 1)]
def pe2 (r : Run) : State :=
  at2 { mode := 1, cmdOn := true, work := .pwm, sw := true, run := some r, cmdRun := some (1, none) } [(F.CH_PERMIT 2, 1), (F.PWM_P1_SHAPE_DUTY 2, 9)]
def peOff : Run := { tdRun with next := (false, 900) }
def pePeak : Run := { peOff with peak := some (901, false) }
def peAct (code : Nat) : State := pe1.updDie 0 fun d => { d with acts := [{ n := 2, code := code, param := 41 }] }
theorem test_PulsePwmAndReflexActions :
    ((900, 900) ∈ (pe1.ch 2).pulses ∧ 900 ≤ pe1.at 2 ∧ pe1.switchable 2 = true ∧ (ch2 (.pulseEnd 2) pe1).pulses = [(2000, 2000)] ∧
      (ch2 (.pulseEnd 2) pe1).cmdOn = false) ∧
    (((pe2 peOff).ch 2).run = some peOff ∧ peOff.next = (false, 900) ∧ peOff.gate 0 0 (false, 900) ≤ (pe2 peOff).at 2 ∧ peOff.endsPeak 900 = true ∧
      (ch2 (.pwmEdge 2) (pe2 peOff)).sw = false) ∧
    (((pe2 pePeak).ch 2).run = some pePeak ∧ pePeak.endsPeak 900 = false ∧ (ch2 (.pwmEdge 2) (pe2 pePeak)).sw = true) ∧
    (((pe2 tdRun).ch 2).run = some tdRun ∧ tdRun.next = (true, 900) ∧ tdRun.gate 0 0 (true, 900) ≤ (pe2 tdRun).at 2 ∧
      (((pe2 tdRun).dutiesTo 2 900).ch 2).run = some tdRun ∧ (((pe2 tdRun).dutiesTo 2 900).adopt 2 tdRun 900).width ≠ 0 ∧ tdRun.peak = none ∧ (ch2 (.pwmEdge 2) (pe2 tdRun)).run.isSome = true) ∧
    (pe1.switchable 2 = true ∧
      (∀ k ∈ [1, 2, 3, 4], ((peAct k).dieOf 0).acts.find? (fun a => a.n == 2) = some { n := 2, code := k, param := 41 }) ∧
      (ch2 (.reflexOn 2) (peAct 1)).cmdOn = true ∧ run (.reflexOff 2) (peAct 1) = peAct 1 ∧
      (ch2 (.reflexOff 2) (peAct 2)).cmdOn = false ∧ (1040, 1040) ∈ (ch2 (.reflexPulse 2) (peAct 3)).pulses ∧
      ((peAct 4).ch 2).mode ≠ 9 ∧ (ch2 (.reflexPwm 2) (peAct 4)).cmdRun = some (1, none)) := by decide +kernel
/-- Die 0 with a condition of its supply, channel 2 on. -/
def su (k : Die → Die) (l : List (Fld × Nat) := []) : State := (dg le1 l).updDie 0 k
def su1 : State := su id [(F.GRP_SUP_STATUS_UV_WARN 0, 1)]
def su2 : State := su (fun d => { d with uv := true }) [(F.GRP_SUP_CFG_RESTORE 0, 0)]
def su3 : State := su (fun d => { d with uv := true }) [(F.GRP_SUP_CFG_RESTORE 0, 1)]
def su4 : State := su fun d => { d with ov := true }
def su5 : State := su fun d => { d with rev := true }
def su6 : State := su fun d => { d with rel := [(2, 0)] }
def su7 : State := at2 { mode := 1, park := some { mode := 3, member := false, load := false } }
theorem test_SupplyCommands :
    (le1.dieOn 0 = true ∧ le1.don (F.GRP_SUP_STATUS_UV_WARN 0) = false ∧ (run (.uvWarnSet 0 380 0) le1).don (F.GRP_SUP_STATUS_UV_WARN 0) = true) ∧
    (su1.don (F.GRP_SUP_STATUS_UV_WARN 0) = true ∧ (run (.uvWarnClear 0 400 0) su1).don (F.GRP_SUP_STATUS_UV_WARN 0) = false) ∧
    (le1.don (F.GRP_SUP_STATUS_LOCKOUT 0) = false ∧ le1.switchable 2 = true ∧ ((run (.uvLockout 0 250 0) le1).dieOf 0).uv = true ∧
      (ch2 (.uvLockout 0 250 0) le1).sw = false) ∧
    ((le1.dieOf 0).ov = false ∧ ((run (.ovLockout 0 670 0) le1).dieOf 0).ov = true) ∧
    ((le1.dieOf 0).rev = false ∧ ((run (.reverseLplus 0 (-50) 0) le1).dieOf 0).rev = true) ∧
    ((run (.holdupBegin 0 410 400) le1).don (F.GRP_SUP_STATUS_HOLDUP 0) = true ∧ (run (.holdupEnd 0 420 400) le1).don (F.GRP_SUP_STATUS_HOLDUP 0) = false) ∧
    ((le1.dieOf 0).detach = 0 ∧ ((run (.holdupExhausted 0 100 183) le1).dieOf 0).detach = 1) ∧
    ((run (.holdCapMeasured 0 190) le1).don (F.GRP_SUP_STATUS_HOLD_LOW 0) = true ∧ (run (.holdCapMeasured 0 200) le1).don (F.GRP_SUP_STATUS_HOLD_LOW 0) = false) ∧
    (((run (.gndfLoss 0) le1).dieOf 0).hold = true ∧ (ch2 (.gndfLoss 0) le1).sw = false) ∧
    ((su4.dieOf 0).ov = true ∧ (ch2 (.clampDisarm 2 (-19)) su4).clampOff = true ∧ (ch2 (.clampDisarm 2 (-19)) su4).clampEv = true) ∧
    ((su2.dieOf 0).uv = true ∧ (su2.dieOf 0).ov = false ∧ (su2.dieOf 0).rev = false ∧ su2.don (F.GRP_SUP_CFG_RESTORE 0) = false ∧
      ((run (.lockoutRelease 0 310 0) su2).dieOf 0).rel = (List.finRange 8).map fun n => (n, 2000000000)) ∧
    (su3.don (F.GRP_SUP_CFG_RESTORE 0) = true ∧ ((run (.lockoutRelease 0 310 0) su3).dieOf 0).await = true) ∧
    (((run (.ovClear 0 610 0) su4).dieOf 0).ov = false) ∧ ((su5.dieOf 0).rev = true ∧ ((run (.reverseClear 0 10 0) su5).dieOf 0).rev = false) ∧
    ((le1.dieOf 0).locked = false ∧ ((run (.checkResume 0) le1).dieOf 0).suspended = false) ∧
    ((chN 2, 0) ∈ (su6.dieOf (grpOf 2)).rel ∧ su6.passed (grpOf 2) 0 ((chN 2).val * 50000) = true ∧ ((run (.channelRelease 2) su6).dieOf 0).rel = []) ∧
    ((su7.ch 2).park = some { mode := 3, member := false, load := false } ∧ (su7.ch 2).member = false ∧ (su7.ch 2).clamping = false ∧
      su7.passed (grpOf 2) 0 100000 = true ∧ (ch2 (.parkEnd 2 false) su7).mode = 3) := by
  decide +kernel

/-! ### The Staed link -/

/-- Group 0 present, its link and its die in states of their own. -/
def lk (a : Link → Link) (b : Die → Die := id) (l : List (Fld × Nat) := []) : State := ((rg pres l).updLink 0 a).updDie 0 fun d => b { d with lane := 30 }
def prtA : Part :=
  { at_ := 0, time := 5, rate := 3, alive := 5, epoch := true, fed := true, safe := false, short := false, isB := false, ackT := 0, ackR := none
    cmds := [], bytes := [1, 2] }
/-- The check bits of a part. -/
def ckOf (p : Part) : Option (BitVec 16) := some (BitVec.ofNat 16 (crc16 p.bytes))
/-- A frame that starts late, where the frame before it ends, and one that starts at its grid instant. -/
def hl1 : State := lk fun x => { x with alive := 4, endT := 410 }
def hl0 : State := { lk (fun x => { x with alive := 15 }) with hub := { base.hub with grid := 378 } }
def hl2 : State := lk (fun x => { x with flight := [prtA] }) fun d => { d with urgUp := [.partAck 5 false true] }
def hl3 : State := lk (fun x => { x with urgOut := [(1, 7, 0, false)] }) fun d => { d with urgUp := [.actAck 1 7] }
def hl4 : State := lk fun x => { x with urgOut := [(1, 7, 4, true)] }
theorem test_HubLinkCommands :
    (pres.hubOn = true ∧ (pres.link 0).startsAt 0 (pres.tick + 10) = false ∧ run (.frameCompose 0) pres = pres) ∧
    (hl1.hubOn = true ∧ (hl1.link 0).startsAt 0 (hl1.tick + 10) = true ∧ hl1.dieOn 0 = true ∧ (hl1.dieOf 0).timed = true ∧
      ((run (.frameCompose 0) hl1).link 0).alive = 5 ∧
      ((run (.frameCompose 0) hl1).link 0).endT = 610 ∧ ((run (.frameCompose 0) hl1).link 0).wire.length = 2) ∧
    ((hl0.link 0).startsAt 0 (hl0.tick + 10) = true ∧ ((run (.frameCompose 0) hl0).link 0).endT = 638 ∧
      ((run (.frameCompose 0) hl0).link 0).alive = 0) := by decide +kernel
theorem test_HubLinkUrgent :
    hl2.hubOn = true ∧ hl2.dieOn 0 = true ∧
    (takeUrg UrgUp.isPart (hl2.dieOf 0).urgUp = (some (.partAck 5 false true), []) ∧ hl2.upOn 0 = true ∧ (hl2.dieOf 0).urgCnt < 3 ∧
      ((run (.partAck 0 true) hl2).link 0).flight = []) ∧
    (takeUrg UrgUp.isAct (hl3.dieOf 0).urgUp = (some (.actAck 1 7), []) ∧ hl3.upOn 0 = true ∧ (1, 7, 0, false) ∈ (hl3.link 0).urgOut ∧
      (hl3.link 0).urgQ = [] ∧ ((run (.actionAck 0 true) hl3).link 0).urgOut = []) ∧
    (leastSent (hl3.link 0).urgOut = some (1, 7, 0, false) ∧ hl3.grpState 0 ≠ 4 ∧
      ((run (.urgentRetry 0) hl3).link 0).urgOut = [(1, 7, 1, false)] ∧ ((run (.urgentRetry 0) hl3).link 0).endT = 428) ∧
    (leastSent (hl4.link 0).urgOut = some (1, 7, 4, true) ∧ (run (.urgentRetry 0) hl4).reg (F.GRP_LINK_B_LOST 0) = 1) := by decide +kernel
def tx (x : DlCmd) : TxCmd := { cmd := x, tag := .plain }
def ib (x : DlCmd) (b : Die → Die := id) : State := lk id fun d => b { d with inbox := [tx x] }
def dl1 : State := lk fun x => { x with wire := [prtA] }
def dl2 : State := lk fun x => { x with wire := [{ prtA with isB := true }] }
def dl3 : State := lk fun x => { x with urgWire := [(0, 7)] }
def dl4 : State := lk id fun d => { d with urgHeld := some (1, 7) }
def dl5 : State := ib (.step (-40) false) fun d => { d with hdr := true, time := 50 * 2 ^ 32 }
theorem test_DieLinkCommands :
    (dl1.dieOn 0 = true ∧ (dl1.dieOf 0).timed = true ∧ (dl1.link 0).wire = [prtA] ∧ prtA.isB = false ∧ prtA.due ≤ dl1.clock ∧
      ((run (.partATaken 0 (ckOf prtA)) dl1).dieOf 0).lastAlive = some 5 ∧ ((run (.partATaken 0 (ckOf prtA)) dl1).dieOf 0).hdr = true ∧
      ((run (.partATaken 0 none) dl1).dieOf 0).downErr = 1) ∧
    ((dl2.link 0).wire = [{ prtA with isB := true }] ∧ ({ prtA with isB := true } : Part).due ≤ dl2.clock ∧
      UrgUp.partAck 5 true true ∈ ((run (.partBTaken 0 (ckOf prtA)) dl2).dieOf 0).urgUp ∧
      ((run (.partBTaken 0 (ckOf prtA)) dl2).dieOf 0).firstAck = true ∧ ((run (.partBTaken 0 (ckOf prtA)) dl2).dieOf 0).rate = 6) ∧
    ((dl3.link 0).urgWire = [(0, 7)] ∧ (dl3.dieOf 0).urgExp = 0 ∧ UrgUp.actAck 0 7 ∈ ((run (.urgentAction 0 true) dl3).dieOf 0).urgUp) ∧
    (dl4.hubOn = true ∧ (dl4.dieOf 0).urgHeld = some (1, 7) ∧ ((run (.urgentSkip 0) dl4).dieOf 0).urgExp = 2) ∧
    (((ib (.rule 7 1 2 3)).dieOf 0).inbox = [tx (.rule 7 1 2 3)] ∧ ((run (.dlRule 0) (ib (.rule 7 1 2 3))).dieOf 0).table = [(7, 1, 2, 3)]) ∧
    (((run (.dlAction 0) (ib (.action 2 1 0 9))).dieOf 0).acts = [{ n := 2, code := 1, param := 9 }]) ∧
    ((run (.dlTime 0) (ib (.time 1000) fun d => { d with timeAt := 1999999000 })).dieNow 0 = 2000) ∧
    ((dl5.dieOf 0).inbox = [tx (.step (-40) false)] ∧ (dl5.dieOf 0).epoch ≠ (dl5.dieOf 0).hdr ∧ ((run (.dlStep 0) dl5).dieOf 0).time = 10 * 2 ^ 32 ∧
      ((run (.dlStep 0) dl5).dieOf 0).epoch = true) ∧
    (((run (.dlIol 0) (ib (.iol 2 0 [1, 2]))).ch (chOf 0 2)).port.odOut = [1, 2]) := by decide +kernel
/-- A WRITE of OUT_CFG of channel 2 stands next at die 0. -/
def ww : State := ib (.write (0x3044 / 4) 0x4D090009)
theorem test_WrittenWordStandsAtDie :
    ww.dieOn 0 = true ∧ (ww.dieOf 0).clearNext = false ∧ (ww.dieOf 0).inbox = [tx (.write (0x3044 / 4) 0x4D090009)] ∧
      grpUnit 0 (4 * (0x3044 / 4)) = (.ch 2, 0x44) ∧
      (layout (.ch 2)).any (fun r => r.off == 0x44 && r.lo == 24 && r.w == 8 && (r.acc == .rw || r.acc == .rwl)) = true ∧
      (run (.dlWrite 0) ww).dreg (F.OUT_CFG_OL_WINDOW 2) = 0x4D := by decide +kernel
def ct (code : Nat) (b : Die → Die := id) : State := ib (.control code 0) b
def ctS : State := ct 2 fun d => { d with safe := true, safeCause := 2, gclk := true }
theorem test_DieControlCommands :
    ((ct 1).dieOn 0 = true ∧ ((ct 1).dieOf 0).inbox = [tx (.control 1 0)] ∧ ((run (.endLoad 0) (ct 1)).dieOf 0).loadedOnce = true) ∧
    ((ctS.dieOf 0).safe = true ∧ (ctS.dieOf 0).causeHolds = false ∧ ((run (.controlRelease 0) ctS).dieOf 0).safe = false) ∧
    (((run (.controlRestart 0) (ct 3)).dieOf 0).intact = false ∧ (U.ch 2).grpOf = some 0 ∧
      (run (.controlRestart 0) (dg (ct 3) [(F.CH_PERMIT 2, 1)])).dreg (F.CH_PERMIT 2) = 0) ∧
    (((run (.controlHold 0) (ct 4)).ch 2).mode = 0) ∧
    ((∀ c, grpOf c = 0 → (le1.ch c).stroke = none) ∧ (run (.groupDiePor 0) le1).regs = le1.regs ∧
      ((run (.groupDiePor 0) (dg le1 [(F.CH_PERMIT 9, 1)])).dieOf 0).intact = false ∧ (U.ch 9).grpOf ≠ some 0 ∧
      (run (.groupDiePor 0) (dg le1 [(F.CH_PERMIT 9, 1)])).dreg (F.CH_PERMIT 2) = 0 ∧
      (run (.groupDiePor 0) (dg le1 [(F.CH_PERMIT 9, 1)])).dreg (F.CH_PERMIT 9) = 1) := by decide +kernel
def mi1 : State := dg (lk id) [(F.GRP_SUP_STATUS_LPX 0, 240)]
/-- The same after the word of L+ has been sent. -/
def mi3 : State := run (.mirror 0 0x22) mi1
def mi2 : State := rg pres [(staleFld 1, 0)]
theorem test_MirrorCommands :
    (mi1.hubOn = true ∧ mi1.dieOn 0 = true ∧ mi1.mirrorOn 0 = true ∧ mi1.laneFor 0 5 6 = true ∧
      F.GRP_SUP_STATUS_LPX 0 ∈ mirrorFlds (grpUnit 0 (4 * 0x22)).1 (grpUnit 0 (4 * 0x22)).2 ∧
      mi3.hid.get (F.GRP_SUP_STATUS_LPX 0) = 240 ∧ mi3.reg (F.GRP_SUP_STATUS_LPX 0) = 0 ∧ mi1.mirrorSent 0 = false) ∧
    (mi3.hubOn = true ∧ mi3.dieOn 0 = true ∧ mi3.mirrorOn 0 = true ∧ mi3.laneFor 0 5 1 = true ∧ mi3.mirrorSent 0 = true ∧
      (run (.refresh 0) mi3).reg (F.GRP_SUP_STATUS_LPX 0) = 240) ∧
    (mi2.on (staleFld 1) = false ∧ mi2.isStale 1 = true ∧ (run (.mirrorStale 1) mi2).reg (staleFld 1) = 1) := by decide +kernel
def up (b : Die → Die) (l : List (Fld × Nat) := []) : State := lk id (fun d => b { d with firstAck := true }) l
def up1 : State := up fun d => { d with tsQ := [.timestamp 2 true false 900] }
def up2 : State := up fun d => { d with evQ := [.event (.tallyOvf 2)] }
def up3 : State := up fun d => { d with iolQ := [.iol 2 [7]] }
def up4 : State := (up fun d => { d with sent := [(6, 0, .void)] }).updLink 0 fun x => { x with recSeq := some 5 }
def upD : DelayRec := { n := 2, dir := true, delay := 50, lp := 0, cross := 990, slot := none }
def up5 : State := (up fun d => { d with delayQ := [upD] }).updCh 2 fun k => { k with dref := (some 50, some 50) }
def up6 : State := up (fun d => { d with urgUp := [.cond 2 1 0] }) [(F.RFX_CTRL_ENABLE, 1)]
theorem test_UpLinkRecordCommands :
    (up1.hubOn = true ∧ up1.dieOn 0 = true ∧ up1.upOn 0 = true ∧ (up1.dieOf 0).firstAck = true ∧
      (up1.dieOf 0).tsQ = [.timestamp 2 true false 900] ∧ up1.laneFor 0 2 (RecData.timestamp 2 true false 900).size = true ∧ (up1.link 0).recSeq = none ∧ up1.stampInstant false 900 = some 900 ∧
      (run (.timestamp 0 true) up1).reg (F.IN_LAST_LO_INSTANT 2) = 225 ∧ (run (.timestamp 0 true) up1).reg (F.IN_LAST_LO_DIR 2) = 1) ∧
    ((up2.dieOf 0).evQ = [.event (.tallyOvf 2)] ∧ up2.laneFor 0 3 (RecData.event (.tallyOvf 2)).size = true ∧ (run (.event 0 true) up2).reg (F.IN_STATUS_TALLY_OVF 2) = 1) ∧
    ((up3.dieOf 0).iolQ = [.iol 2 [7]] ∧ up3.laneFor 0 4 (RecData.iol 2 [7]).size = true ∧ ((run (.iolRecord 0 true) up3).ch 2).port.odIn = [7]) ∧
    ((up4.dieOf 0).sent[0]? = some (6, 0, .void) ∧ (up4.link 0).recSeq = some ((6 + 255) % 256) ∧ up4.passed 0 0 2000 = true ∧ up4.laneFor 0 RecData.void.rank RecData.void.size = true ∧
      ((run (.recordResend 0 0 true) up4).link 0).recSeq = some 6) ∧
    ((up5.dieOf 0).delayQ = [upD] ∧ up5.laneFor 0 0 5 = true ∧ (run (.delay 0 true) up5).reg (F.TO_DELAY_ON_LAST 2) = 50) ∧
    (takeUrg UrgUp.isCond (up6.dieOf 0).urgUp = (some (.cond 2 1 0), []) ∧ (up6.dieOf 0).urgCnt < 3 ∧ up6.on F.RFX_CTRL_ENABLE = true ∧ up6.rfx.lanes[0].length < 32 ∧
      (run (.urgentCondition 0 true) up6).rfx.lanes[0] = [{ urgCond 2 1 with tick := up6.tick }]) := by decide +kernel
def at1 : State := lk id id [(F.GRP_STATUS_STATE 0, 4)]
def at0 : State := lk id id [(F.GRP_STATUS_STATE 0, 1)]
def atD : State := lk id fun d => { d with detach := 2 }
def bits16 : List (BitVec 20) := List.replicate 16 3#20
/-- The check bits of the frame of these streams with an empty lane. -/
def goodCk : Option (BitVec 16) := some (BitVec.ofNat 16 (crc16 (streamBytes bits16 ++ [])))
/-- An identity of 16 bytes that is wrong in its first byte. -/
def badId : List Byte := List.replicate 16 0
theorem test_AttachAndLossCommands :
    (pres.hubOn = true ∧ pres.grpState 0 = 3 ∧ (run (.uplinkLost 0) pres).grpState 0 = 4) ∧
    (at1.grpState 0 = 4 ∧ (run (.uplinkLostTimeout 0) at1).grpState 0 = 0) ∧
    (at1.dieOn 0 = true ∧ (run (.uplinkLock 0) at1).grpState 0 = 1) ∧
    (pres.upOn 0 = true ∧ pres.absent 0 = false ∧ (pres.dieOf 0).timed = true ∧
      ((run (.uplinkFrame 0 bits16 ⟨[], goodCk⟩) pres).chain ⟨5, by decide⟩).bits.length = 20) ∧
    ((pres.link 0).fails < 7 ∧ ((run (.uplinkFrame 0 bits16 ⟨[], none⟩) pres).link 0).fails = 1) ∧
    ((lk id).laneFor 0 5 5 = true ∧ (run (.linkstat 0 true) (lk id)).grpState 0 = 3 ∧ (atD.dieOf 0).detach ≠ 0 ∧
      ((run (.linkstat 0 true) atD).dieOf 0).powered = false ∧ (run (.linkstat 0 true) atD).grpState 0 = 0) ∧
    (at0.grpState 0 = 1 ∧ at0.laneFor 0 5 17 = true ∧ identReason badId = 1 ∧ (run (.ident 0 badId) at0).grpState 0 = 7) := by decide +kernel

/-! ### Sample chains, ports, ring 4 requests, the Drover -/

def x5 : Strm := ⟨5, by decide⟩
def xx (f : Chain → Chain) (l : List (Fld × Nat) := []) : State := (rg pres l).updChain x5 f
/-- A bit that reaches the decimator in a tick. -/
def mb (n : Nat) : MBit := { t := n, b := true, gap := false, lost := false, low := false }
def cc1 : State :=
  { xx fun k => { k with bits := [410, 420, 430, 440, 450, 460].map mb, sinc := List.replicate 13 (mb 0), capCnt := 7 } with
    hub := { base.hub with grid := 450 } }
theorem test_takeBits (phase : Nat) (lost low : Bool) :
    takeBits (cc1.chain x5).bits cc1.tick phase lost low = [410, 420, 430, 440, 450].map mb := rfl
def cc2 : State := xx fun k => { k with capTick := some 400, cap := List.replicate 8 { v := 100 }, capCnt := 8 }
def cc3 : State := xx (fun k => { k with capTick := some 400 }) [(F.SC_CFG_FIR_EN x5, 1), (F.SC_CFG_HB x5, 0)]
def cc4 : State := xx (fun k => { k with capTick := some 400, fade := some { j := 15, len := 16, old := 0, new := 1 } }) [(F.SC_CFG_HB x5, 0)]
def cc5 : State := { cc3 with hub := { cc3.hub with time := 2000000 * 2 ^ 32 } }
theorem test_ChainCommands :
    (cc1.hubOn = true ∧ cc1.tick % 50 = 0 ∧ (cc1.chain x5).capTick ≠ some cc1.tick ∧ ((run (.captureSample x5) cc1).chain x5).cap.length = 1 ∧
      7 ≤ (cc1.chain x5).capCnt ∧ ((run (.captureSample x5) cc1).chain x5).bits.length = 1 ∧
      ((run (.captureSample x5) cc1).chain x5).capTick = some 450 ∧ ((run (.captureSample x5) cc1).chain x5).capCnt = 8) ∧
    (cc2.tick % 400 = 0 ∧ (cc2.chain x5).capTick = some cc2.tick ∧ (run (.coarseSample x5) cc2).reg (F.SC_COARSE x5) / 2 ^ 8 = 100) ∧
    (cc3.tick % (50 * 2 ^ cc3.hOf x5) = 0 ∧ (cc3.chain x5).firTick ≠ some cc3.tick ∧ (cc3.chain x5).fade = none ∧ (cc3.chain x5).req = none ∧
      cc3.on (F.SC_CFG_FIR_EN x5) = true) ∧
    ((cc4.chain x5).fade = some { j := 15, len := 16, old := 0, new := 1 } ∧ cc4.tick % (50 * 2 ^ cc4.hOf x5) = 0) ∧
    (((cc5.fineInstant x5 : Nat) : Rat) / 2 ^ 24 + cc5.fineLag x5 + 8 * (tFir (cc5.hOf x5) : Rat) ≤ (cc5.now : Rat)) := by decide +kernel
def dv : IolDevice := { vendor := 1, device := 2, revision := 3, minCycle := 20, mseq := 0, pdIn := 1, pdOut := 1, fixedTypes := true }
/-- Channel 2 a port in a state of Table 12.3, firmware running. -/
def po (st : Nat) (f : Port → Port := id) (l : List (Fld × Nat) := []) : State :=
  (rg pres ([(F.FW_STATUS_STATE, 2), (F.IOL_CTRL_STATE 2, st), (F.IOL_CTRL_TARGET 2, 0), (F.CH_MODE_MODE 2, 8), (F.CH_MODE_STATUS_ACTIVE 2, 8),
    (F.RING_STATUS_ENABLED 5, 1), (F.RING_CFG_ENABLE 5, 1)] ++ l)).updPort 2 f
def pcy (f : Port → Port := id) : State :=
  (dg (po 7) [(F.CH_PERMIT 2, 1)]).updCh 2 fun k => { k with mode := 8, port := f { k.port with cycle := 400, dev := some dv } }
/-- Its supplier, channel 1, is off for a power cycle. -/
def poC : State :=
  (po 6 (fun p => { p with cycOff := some 10 }) [(F.CH_MODE_SUPPLY 2, 1), (F.GRP_STATUS_STATE 1, 3)]).updCh 2 fun k => { k with sup := 1 }
theorem test_IoLinkPortCommands :
    ((po 3).hubOn = true ∧ (po 3).fwRuns = true ∧ (po 3).portState 2 = 3 ∧ (po 3).feeder 2 = none ∧ (run (.poweringEnd 2) (po 3)).portState 2 = 4) ∧
    ((po 4).portState 2 = 4 ∧ ((run (.wakeUp 2) (po 4)).ch 2).port.pulses = 1 ∧ (run (.deviceAnswer 2 3) (po 4)).portState 2 = 5 ∧
      (run (.deviceAnswer 2 3) (po 4)).reg (F.IOL_CTRL_COM 2) = 3) ∧
    ((po 5).portState 2 = 5 ∧ incompatible dv = false ∧ incompatible { dv with fixedTypes := false } = true ∧ ((po 5).ch 2).port.ref = none ∧
      (run (.page1Inspected 2 dv) (po 5)).portState 2 = 6 ∧ (run (.page1Inspected 2 { dv with fixedTypes := false }) (po 5)).portState 2 = 8 ∧
      (run (.page1Inspected 2 dv) (po 5 fun p => { p with ref := some (1, 2, 3) })).portState 2 = 6 ∧
      (run (.page1Inspected 2 dv) (po 5 fun p => { p with ref := some (1, 2, 4) })).portState 2 = 8) ∧
    ((po 6).portState 2 = 6 ∧ (run (.preoperateDone 2) (po 6)).portState 2 = 7) ∧
    ((poC.ch 2).port.cycOff = some 10 ∧ 10 ≤ poC.tick ∧ poC.isPort 2 = true ∧ poC.feeder 2 = some 1 ∧
      ((run (.powerCycleEnd 2) poC).ch 2).port.cycOff = none ∧ (run (.powerCycleEnd 2) poC).reg (F.OUT_CMD_ON 1) = 1) ∧
    (pcy.dieOn (grpOf 2) = true ∧ (pcy.ch 2).mode = 8 ∧ (pcy.ch 2).park = none ∧ (pcy.dieOf (grpOf 2)).safe = false ∧
      (pcy.dieOf (grpOf 2)).limp = false ∧ pcy.permit 2 = true ∧ (pcy.ch 2).port.rxOnly = false ∧ pcy.portState 2 = 7 ∧
      (pcy.dieOf (grpOf 2)).timed = true ∧ (pcy.ch 2).port.gridStart (pcy.at 2) = some 800 ∧ (pcy.ch 2).port.lastStart = none ∧
      (run (.iolCycle 2 true 0xA5) pcy).reg (F.IOL_PD_PDIN 2) = 0xA5 ∧ ((run (.iolCycle 2 true 0xA5) pcy).ch 2).port.lastStart = some 800) ∧
    (2 ≤ ((pcy fun p => { p with missed := 2 }).ch 2).port.missed ∧ (run (.iolCycle 2 false 0) (pcy fun p => { p with missed := 2 })).portState 2 = 4) ∧
    (((run (.driverOverload 2) pcy).ch 2).port.rxOnly = true) ∧
    (((pcy fun p => { p with rxOnly := true }).ch 2).port.rxOnly = true ∧
      ((run (.driverRetry 2 false) (pcy fun p => { p with rxOnly := true })).ch 2).port.rxOnly = false) := by decide +kernel
/-- A request of 64 bytes that names channel 2. -/
def rq4 (op : Nat) (l : List Byte) : Entry := [BitVec.ofNat 8 op, 0, 0, 0, 0, 0, 2, 9] ++ l ++ List.replicate (56 - l.length) 0
def pq (st : Nat) (op : Nat) (l : List Byte) : State :=
  let s := (po st id [(F.CH_MODE_SUPPLY 2, 1), (F.GRP_STATUS_STATE 1, 3)]).updCh 2 fun k => { k with sup := 1 }
  { s with fw := { s.fw with reqs := [rq4 op l] } }
def eRd : List Byte := [0x10, 0, 0]
def eWr : List Byte := [0x10, 0, 0, 1, 3, 0, 0, 0, 7, 8, 9]
def ePd : List Byte := [2, 0, 0x34, 0x12, 0xFF]
def ePd2 : List Byte := [2, 0, 0x34, 0x12, 3, 0, 1, 0, 0xFF]
def isd : Isdu := { seq := 0, tag := 9, index := 16, sub := 0, write := none }
def pI : State := po 7 fun p => { p with isdu := some isd }
theorem test_IoLinkRequestCommands :
    ((pq 7 0x40 eRd).hubOn = true ∧ (pq 7 0x40 eRd).fw.reqs = [rq4 0x40 eRd] ∧ (pq 7 0x40 eRd).fwTakes = true ∧ (pq 7 0x40 eRd).room5 = true ∧
      entByte (rq4 0x40 eRd) 0 = 0x40 ∧ (pq 7 0x40 eRd).reqPort (rq4 0x40 eRd) = some 2 ∧ ((run .isduRead (pq 7 0x40 eRd)).ch 2).port.isdu = some isd ∧
      (run .isduRead (pq 7 0x40 eRd)).fw.reqs = []) ∧
    (entByte (rq4 0x41 eWr) 11 % 2 = 1 ∧ bytesAt (rq4 0x41 eWr) 14 2 = 0 ∧ bytesAt (rq4 0x41 eWr) 12 2 = 3 ∧
      ((run .isduWrite (pq 7 0x41 eWr)).ch 2).port.isdu = some { isd with write := some (3, [7, 8, 9]) }) ∧
    ((pq 7 0x42 [100, 0]).feeder 2 = some 1 ∧ (pq 7 0x42 [100, 0]).reqPort (rq4 0x42 [100, 0]) = some 2 ∧ bytesAt (rq4 0x42 [100, 0]) 8 2 = 100 ∧
      ((run .powerCycle (pq 7 0x42 [100, 0])).ch 2).port.cycOff = some (400 + 100 * 2500000) ∧
      (run .powerCycle (pq 7 0x42 [100, 0])).reg (F.OUT_CMD_ON 1) = 0) ∧
    (pdRecords (rq4 0x43 ePd) = [(2, 0x1234)] ∧ (pq 7 0x43 ePd).isPort 2 = true ∧ (run .pdOut (pq 7 0x43 ePd)).reg (F.IOL_PD_PDOUT 2) = 0x1234 ∧
      (pq 7 0x43 ePd2).isPort 3 = false ∧ (3, 1) ∈ pdRecords (rq4 0x43 ePd2) ∧ (run .pdOut (pq 7 0x43 ePd2)).reg (F.IOL_PD_PDOUT 2) = 0) ∧
    (entByte (rq4 0x44 []) 0 = 0x44 ∧ ((run .abort ({ pq 7 0x44 [] with chans := pI.chans })).ch 2).port.isdu = none) ∧
    ((pI.ch 2).port.isdu = some isd ∧ (pI.ch 2).port.queue = [] ∧ (pI.ch 2).port.resp = [] ∧ (pI.ch 2).port.frag = none ∧ pI.fwRuns = true ∧ ((run (.isduResponse 2 0 0 [1]) pI).ch 2).port.isdu = none ∧
      ((run (.isduTimeout 2) pI).ch 2).port.isdu = none) ∧
    (pI.portState 2 = 7 ∧ (rg pI [(F.RING_STATUS_ENABLED 5, 0), (F.RING_CFG_ENABLE 5, 0)]).room5 = false ∧
      ((run (.portEvent 2 [(1, 2)]) (rg pI [(F.RING_STATUS_ENABLED 5, 0), (F.RING_CFG_ENABLE 5, 0)])).ch 2).port.events.length = 1) := by decide +kernel
def k3 : DrvNo := ⟨3, by decide⟩
def dw (f : DrvCh → DrvCh) (l : List (Fld × Nat) := []) : State := (rg pres l).updDrv k3 f
/-- A descriptor of one element of 4 bytes, from the register space to the host at 0x1000, the last of its chain. -/
def dsB (ctrlTop : Nat) : List Byte := leBytes 4 (ctrlTop * 2 ^ 24) ++ leBytes 8 0x000100010001 ++ leBytes 4 1 |>.take 8 |>.append ([1, 0, 0, 0] ++ leBytes 4 0 ++ leBytes 8 0x1000 ++ List.replicate 24 0 ++ leBytes 8 0x4000 ++ List.replicate 8 0)
def dEnd : Desc := descOf 0x4000 (dsB 0x80)
def dGo : Desc := descOf 0x4000 (dsB 0)
def dIn : Desc := descOf 0x4000 (dsB 0x84)
def dHd : State := dw id [(F.DRV_CH_HEAD_LO k3, 0x4000)]
def dRun : State := dw (fun c => { c with fetch := some 0x4000 }) [(F.DRV_CH_STATUS_STATE k3, 1)]
def dStp : State := dw (fun c => { c with fetch := some 0x4000 }) [(F.DRV_CH_STATUS_STATE k3, 2)]
def dCur : State := dw (fun c => { c with cur := some dGo, fetch := some 0x4000 }) [(F.DRV_CH_STATUS_STATE k3, 1)]
def dRdy : State := dw (fun c => { c with cur := some dEnd }) [(F.DRV_CH_STATUS_STATE k3, 1)]
def dBsy (x : Desc) (st : Nat) : State := dw (fun c => { c with cur := some x, busy := true }) [(F.DRV_CH_STATUS_STATE k3, st)]
def dLast : State := dw (fun c => { c with last := some dEnd, rescanning := true }) [(F.DRV_CH_STATUS_STATE k3, 3)]
def dCk : State := (rg (dBsy dIn 1) [(F.CK_BIND_EN 2, 1), (F.CK_BIND_CHANNEL 2, 3), (F.CK_STATUS_IN_BLOCK 2, 1)]).updCk 2 fun u =>
  { u with dir := some true, test := some [] }
/-- The trailer that the unit computes for an empty block. -/
def dTr : List Byte := leBytes 4 (dCk.ckValue 2) ++ leBytes 12 0
theorem test_DroverCommands :
    (dHd.hubOn = true ∧ dHd.drvState k3 = 0 ∧ dHd.on F.DRV_STATUS_BUS_ERR = false ∧ dHd.drvHead k3 % 64 = 0 ∧
      (run (.drvStart k3) dHd).drvState k3 = 1 ∧ (rg dHd [(F.DRV_CH_HEAD_LO k3, 0x4004)]).drvHead k3 % 64 ≠ 0 ∧
      (run (.drvStart k3) (rg dHd [(F.DRV_CH_HEAD_LO k3, 0x4004)])).drvState k3 = 4) ∧
    (dRun.drvState k3 = 1 ∧ (run (.drvContinue k3) dRun).reg (F.DRV_CH_STATUS_RESCAN k3) = 1) ∧
    ((dw id [(F.DRV_CH_STATUS_STATE k3, 3)]).drvState k3 = 3 ∧ ((dw id [(F.DRV_CH_STATUS_STATE k3, 3)]).drvc k3).rescanning = false) ∧
    ((dRun.drvc k3).fetch = some 0x4000 ∧ (dRun.drvc k3).cur = none ∧ dEnd.check (isStream k3) = 0 ∧ dEnd.size = 4 ∧
      ((run (.descriptorFetch k3 (dsB 0x80)) dRun).drvc k3).cur = some dEnd ∧ (descOf 0x4000 (dsB 0x83)).check (isStream k3) = 2 ∧
      (run (.descriptorFetch k3 (dsB 0x83)) dRun).drvState k3 = 4) ∧
    ((dStp.drvc k3).fetch = some 0x4000 ∧ dStp.drvState k3 = 2 ∧ (dStp.drvc k3).busy = false ∧
      ((run (.descriptorFetch k3 (dsB 0x80)) dStp).drvc k3).fetch = none) ∧
    ((dCur.drvc k3).cur ≠ none ∧ ((run (.descriptorFetch k3 (dsB 0x80)) dCur).drvc k3).pre = some dEnd) := by decide +kernel
theorem test_DroverRun :
    (dRdy.hubOn = true ∧ dRdy.host.mayIssue = true ∧ dRdy.engineBusy false = false ∧ dRdy.drvChoose false = some k3 ∧ dRdy.readyDesc false k3 = some dEnd ∧
      ((run (.descriptorStart false) dRdy).drvc k3).busy = true) ∧
    (((dBsy dEnd 1).drvc k3).cur = some dEnd ∧ ((dBsy dEnd 1).drvc k3).busy = true ∧ (dBsy dEnd 1).unitOf k3 = none ∧ dEnd.size ≠ 0 ∧
      ((dBsy dEnd 1).drvc k3).badNext = 0 ∧ ((dBsy dEnd 1).drvc k3).pre = none ∧ dEnd.h2d = false ∧ dEnd.isEnd = true ∧
      (run (.descriptorComplete k3 []) (dBsy dEnd 1)).drvState k3 = 3 ∧ (run (.descriptorComplete k3 []) (dBsy dEnd 2)).drvState k3 = 0 ∧
      (run (.descriptorComplete k3 []) (dBsy dEnd 1)).reg (F.DRV_CH_DONE k3) = 1 ∧ dGo.isEnd = false ∧
      ((run (.descriptorComplete k3 []) (dBsy dGo 1)).drvc k3).fetch = some 0x4000) ∧
    ((dLast.drvc k3).last = some dEnd ∧ (dLast.drvc k3).rescanning = true ∧ (run (.rescanRead k3 (dsB 0)) dLast).drvState k3 = 1 ∧
      dLast.on (F.DRV_CH_STATUS_RESCAN k3) = false ∧ (run (.rescanRead k3 (dsB 0x80)) dLast).drvState k3 = 3) ∧
    ((dCk.ck[2]).test = some [] ∧ dCk.unitOf k3 = some 2 ∧ (∀ j, dCk.unitOf j = some 2 → j = k3) ∧ (dCk.drvc k3).cur = some dIn ∧
      (dCk.drvc k3).busy = true ∧ dCk.ckTest 2 dIn.h2d (leBytes 16 1) ≠ 0 ∧ dCk.host.mayIssue = true ∧ (run (.blockTest 2 (leBytes 16 1)) dCk).drvState k3 = 4) ∧
    (dCk.ckTest 2 dIn.h2d dTr = 0 ∧ dCk.on (F.CK_BIND_HOLD 2) = false ∧ (dCk.drvc k3).badNext = 0 ∧ (dCk.drvc k3).pre = none ∧
      (run (.blockTest 2 dTr) dCk).reg (F.CK_SEQ 2) = 1 ∧ (run (.blockTest 2 dTr) dCk).reg (F.DRV_CH_DONE k3) = 1) := by decide +kernel

/-! ### Health, housekeeping, the Ledger -/

def hk (k : HkSt → HkSt) (l : List (Fld × Nat) := []) : State := let s := rg pres l; { s with hk := k s.hk }
def hkRun : State := hk id [(F.FW_STATUS_STATE, 2), (F.HK_VID_CEIL, 6), (F.HK_VID_NOW, 2), (F.HK_VID_REQ, 2), (F.HK_AGE_CFG_SLACK_UP, 60),
  (F.HK_AGE_CFG_SLACK_HARD, 20), (F.HK_SLACK_B_S2, 10), (F.HK_SLACK_A_S0, 90)]
def hkCeil : State := rg hkRun [(F.HK_VID_CEIL, 2)]
def hkHour : State := hk fun k => { k with secs := [(0, 3599)] }
/-- The baseline run of the hub die has lasted its second; the monitors of group 0 are being taken; channel 2 has its 64 values. -/
def hkB0 : State :=
  let s := hk (fun k => { k with runAt := some 0 }) [(F.ROOT_RESET_STATUS_BASELINE_RUN, 1)]; { s with hub := { s.hub with grid := 250000000 } }
def hkB1 : State := hk fun k => { k with due := [0] }
def hkFirst : State := hk fun k => { k with firsts := [(2, (64, 64 * 12))] }
/-- 100 ms after CCLK has locked. -/
def hkL : State := { pres with hub := { pres.hub with grid := 25000000 } }
/-- A raise of the hardware is to be made as the tick ends. -/
def hkAsk : State := { hkRun with hk := { hkRun.hk with hwAsk := true } }
/-- The same, with a write of REQ in the tick. -/
def hkAskW : State := let s := hkAsk.setReg F.HK_VID_REQ 4; { s with tk := { s.tk with old := [(F.HK_VID_REQ, 2)] } }
theorem test_HealthCommands :
    (pres.hubOn = true ∧ 8 * (pres.reg F.HK_TEMP_CFG_WARN : Int) < (hottest [0, 1200, 3, -5]).2 ∧
      (run (.tempUpdate 0 1200 3 (-5)) pres).on F.HK_STATUS_TEMP_WARN = true ∧ (run (.tempUpdate 0 1200 3 (-5)) pres).reg F.HK_TEMP_B_T3 = 0xFFFB ∧
      (hottest [0, 200, 3, -5]).2 ≤ 8 * ((pres.reg F.HK_TEMP_CFG_WARN : Int) - 5)) ∧
    (pres.railOut 3 3466 = true ∧ pres.railOut 3 3465 = false ∧ ((run (.railUpdate 3 3466) pres).reg F.HK_STATUS_RAIL).testBit 3 = true) ∧
    (hkRun.fwRuns = true ∧ hkRun.written F.HK_VID_REQ = false ∧ hkRun.hubSlack < hkRun.reg F.HK_AGE_CFG_SLACK_UP ∧ hkRun.reg F.HK_VID_NOW ≠ vidCode (hkRun.reg F.HK_VID_CEIL) ∧
      (run .vidRaiseFw hkRun).reg F.HK_VID_REQ = 3 ∧ hkCeil.reg F.HK_VID_NOW = vidCode (hkCeil.reg F.HK_VID_CEIL) ∧
      (run .vidRaiseFw hkCeil).reg F.HK_STATUS_AT_CEILING = 1) ∧
    (hkRun.hubSlack < hkRun.reg F.HK_AGE_CFG_SLACK_HARD ∧ run .vidRaiseHw hkRun = hkAsk) ∧
    (hkAsk.hk.hwAsk = true ∧ hkAsk.written F.HK_VID_REQ = false ∧ hkAsk.reg F.HK_VID_NOW ≠ vidCode (hkAsk.reg F.HK_VID_CEIL) ∧
      hkAsk.vidTick.reg F.HK_VID_HW_RAISES = 1 ∧ hkAsk.vidTick.reg F.HK_VID_REQ = 3 ∧
      hkAskW.hk.hwAsk = true ∧ hkAskW.written F.HK_VID_REQ = true ∧ hkAskW.vidTick.reg F.HK_VID_REQ = 4) ∧
    ((rg hkRun [(F.HK_VID_REQ, 5)]).vidFree = true ∧ (rg hkRun [(F.HK_VID_REQ, 5)]).vidAim = 5 ∧
      (run .vidApply (rg hkRun [(F.HK_VID_REQ, 5)])).reg F.HK_VID_NOW = 5) ∧
    (tempBin (2 * sgn 16 (hkHour.reg F.HK_TEMP_B_T3)) 85 105 125 = 0 ∧ hkHour.hk.secs.lookup 0 = some 3599 ∧ hkHour.written (F.HK_HOURS 0 0) = false ∧
      (run .hoursTick hkHour).reg (F.HK_HOURS 0 0) = 1) ∧
    (hkB0.baseDue 0 = true ∧ hkB1.baseDue 1 = true ∧ hkFirst.baseDue 10 = true ∧ hkFirst.baseDue 11 = false ∧
      (run (.baselineWrite 10 5) hkFirst).reg (F.AGE_STAT_BASE_VALID 2) = 1) ∧
    (hkL.baseOk 0 = false ∧ hkL.on F.ROOT_RESET_STATUS_BASELINE_RUN = false ∧ hkL.hk.lockAt + 25000000 ≤ hkL.tick ∧ hkL.hk.lastVid = none ∧
      (run .baselineRunStart hkL).reg F.ROOT_RESET_STATUS_BASELINE_RUN = 1) ∧
    ((rg pres [(F.GRP_AGE_EYE_RETUNING 0, 1)]).on (F.GRP_AGE_EYE_RETUNING 0) = true ∧
      (run (.retuneDone 0 (9 :: 70 :: List.replicate 14 0) [8, 7, 12] 5 0) (rg pres [(F.GRP_AGE_EYE_RETUNING 0, 1)])).reg (F.GRP_AGE_EYE_UP_MARGIN 0) = 63) := by decide +kernel
def hd (f : Die → Die) (l : List (Fld × Nat) := []) : State := (dg pres l).updDie 0 f
def hSeq : State := hd id [(F.GRP_HK_SEQ_A_EN 0, 1), (F.GRP_HK_SEQ_A_MASK 0, 5)]
def hBsy : State := hSeq.updDie 0 fun d => { d with conv := .seq [7, 9] }
/-- The sequence B that runs began in this very tick. -/
def hBn : State := hSeq.updDie 0 fun d => { d with conv := .seq [1], convB := true, seqAt := some 2000000000 }
/-- Channel 2 conducts, in On. -/
def hOn : State := pres.updCh 2 fun k => { k with mode := 1, work := .on, sw := true }
def hB : State := hd (fun d => { d with hkToken := true }) [(F.GRP_HK_SEQ_B_MASK 0, 6)]
def hU : State := hd (fun d => { d with urgToken := true }) [(F.GRP_HK_URGENT_SLOT 0, 30)]
def hU2 : State := hd fun d => { d with conv := .urgent 23 [] }
theorem test_HousekeepingCommands :
    (hSeq.dieOn 0 = true ∧ hSeq.don (F.GRP_HK_SEQ_A_EN 0) = true ∧ hSeq.hkDue 0 = true ∧ (hSeq.dieOf 0).conv = .idle ∧ maskSlots (hSeq.dreg (F.GRP_HK_SEQ_A_MASK 0)) = [0, 2] ∧
      ((run (.sequenceA 0) hSeq).dieOf 0).conv = .seq [0, 2] ∧ (hBsy.dieOf 0).conv = .seq [7, 9] ∧ (hBsy.dieOf 0).convB = false ∧ hBsy.hkDue 0 = true ∧
      (run (.sequenceA 0) hBsy).dreg (F.GRP_HK_TALLY_OVERRUNS 0) = 1) ∧
    (hBn.hkDue 0 = true ∧ (hBn.dieOf 0).conv = .seq [1] ∧ (hBn.dieOf 0).convB = true ∧ hBn.seqNow 0 = true ∧
      ((run (.sequenceA 0) hBn).dieOf 0).conv = .seq [0, 2]) ∧
    ((hB.dieOf 0).hkToken = true ∧ (hB.dieOf 0).conv = .idle ∧ ((run (.sequenceB 0) hB).dieOf 0).conv = .seq [1, 2]) ∧
    ((hU.dieOf 0).urgToken = true ∧ (hU.dieOf 0).conv = .idle ∧ ((run (.urgentConversion 0) hU).dieOf 0).conv = .urgent 23 [] ∧
      (run (.urgentConversion 0) (hU.updDie 0 fun d => { d with conv := .seq [1] })).dreg (F.GRP_HK_TALLY_DROPPED 0) = 1) ∧
    ((run (.conversionDone 0 0x123) hBsy).dreg (F.GRP_HK_CODE 0 7) = 0x123 ∧ ((run (.conversionDone 0 0x123) hBsy).dieOf 0).conv = .seq [9]) ∧
    ((hU2.dieOf 0).conv = .urgent 23 [] ∧ (run (.conversionDone 0 0x123) hU2).dreg (F.GRP_HK_URGENT_RESULT 0) = 0x123) ∧
    (grpOf 2 = 0 ∧ hOn.hubOn = true ∧ hOn.dieOn 0 = true ∧ hOn.upOn 0 = true ∧ (hOn.ch (hOn.headOf 2)).work = .on ∧ (hOn.ohms 2).length = 0 ∧
      ((run (.resMeasurement 2 5000 200 50 4 true) hOn).ohms 2).length = 1 ∧ ((run (.resMeasurement 2 5000 199 50 4 true) hOn).ohms 2).length = 0) ∧
    ((run (.eyeSweep 0 64 20) pres).reg (F.GRP_AGE_EYE_UP_MARGIN 0) = 63) := by decide +kernel
def lg (r : LRec) (l : List (Fld × Nat) := []) : State := let s := rg pres l; { s with ldg := { s.ldg with queue := [r] } }
def lgS : State :=
  let s := lg { code := 0x0C, cls := 1 } [(F.LDG_CFG_SUPPRESS, 1)]; { s with ldg := { s.ldg with last := some (1999000001, 0x0C, 0, 0xFF) } }
def lgD : State :=
  let s := { pres with hub := { pres.hub with clock := 4000000000000 } }; s.updDie 0 fun d => { d with dirty := true, store := [⟨1, 2, true, 3, 4, 0, 6⟩] }
def lgR : State := lgD.updDie 0 fun d => { d with commit := true, recommit := true }
theorem test_LedgerCommands :
    ((lg { code := 0x0C, cls := 4 }).ldg.queue = [{ code := 0x0C, cls := 4 }] ∧ (lg { code := 0x0C, cls := 4 }).hub.vaux = true ∧
      (lg { code := 0x0C, cls := 4 }).suppressed { code := 0x0C, cls := 4 } = false ∧
      (run .ledgerWrite (lg { code := 0x0C, cls := 4 })).reg F.LDG_STATUS_FROZEN = 1 ∧ (run .ledgerWrite (lg { code := 0x0C, cls := 4 })).reg F.LDG_SEQ = 1) ∧
    (lgS.suppressed { code := 0x0C, cls := 1 } = true ∧ (run .ledgerWrite lgS).reg F.LDG_SEQ = 0) ∧
    (lgD.dieOn 0 = true ∧ lgD.passed 0 (lgD.dieOf 0).hourAt 3600000000000 = true ∧ (lgD.dieOf 0).dirty = true ∧ (lgD.dieOf 0).commit = false ∧ (lgD.dieOf 0).recommit = false ∧ ((run (.hourlyCommit 0) lgD).dieOf 0).cells.length = 1 ∧
      ((run (.localCommitEnd 0) lgD).dieOf 0).commit = false) ∧
    ((lgR.dieOf 0).commit = true ∧ (lgR.dieOf 0).recommit = true ∧ ((run (.localCommitEnd 0) lgR).dieOf 0).commit = true ∧
      ((run (.localCommitEnd 0) lgR).dieOf 0).cells.length = 1) := by decide +kernel

/-! ### The host link -/

/-- Rings enabled, with fields of the hub die and the host link put in. -/
def hl (l : List (Fld × Nat)) (h : HostIf → HostIf := id) : State :=
  let s := rg pres ((List.finRange 7).map (fun r => (F.RING_CFG_ENABLE ⟨r.val, by omega⟩, 1)) ++ l)
  { s with host := h s.host }
def ri0 : State := hl [(F.RING_PROD 0, 1), (F.RING_SEQ 0, 9)]
def ri2 : State := hl [(F.RING_PROD 2, 1), (F.FOLD_CTRL_ENABLE, 1)]
def ri4 : State := hl [(F.RING_PROD 4, 1), (F.FW_STATUS_STATE, 2)]
/-- An entry for the slot at a ring's consumer index, its CHECK right. -/
def en (s : State) (r : RingNo) (op : Nat) (l : List Byte) : Entry :=
  let b := [BitVec.ofNat 8 op, 0, BitVec.ofNat 8 r.val, 0] ++ l ++ List.replicate (52 - l.length) 0 ++ leBytes 4 (s.reg (F.RING_SEQ r))
  b ++ leBytes 4 (s.entryCheck r (s.ringAddr r (s.reg (F.RING_CONS r))) b)
def good (s : State) (r : RingNo) (op : Nat) : Bool :=
  let e := en s r op []
  s.mayFetch r && !(s.ring r).refetch && bytesAt e 60 4 == s.entryCheck r (s.ringAddr r (s.reg (F.RING_CONS r))) e && bytesAt e 56 4 == s.reg (F.RING_SEQ r) &&
    entByte e 2 == r.val && entByte e 3 == 0
def riF (n : Nat) (b : Bool) : State := ri0.updRing 0 fun x => { x with fails := n, refetch := b }
def rdb : State := hl [(F.RING_PROD 1, 3), (F.RING_CONS 1, 1)]
def rwb : State := (hl [(F.RING_WB_LO 2, 0x100)]).updRing 2 fun x => { x with wbDue := true }
def rou : State := (hl []).updRing 1 fun x => { x with out := [{ kind := 1, body := [] }] }
def rms : State := (hl [(F.RING_IRQ_EN 1, 1)] fun h => { h with cfg := [(4, 0x00100006), (0x50, 0x803F7011)], msixVec := [(3, 0), (0, 0x1000), (2, 77)] }).updRing 1
  fun x => { x with unsig := 2 }
theorem test_RingCommands :
    (ri0.hubOn = true ∧ good ri0 0 0 = true ∧ (run (.ringEntryFetch 0 (en ri0 0 0 [])) ri0).reg (F.RING_CONS 0) = 1 ∧
      (run (.ringEntryFetch 0 (en ri0 0 0 [])) ri0).reg (F.RING_SEQ 0) = 10) ∧
    (good ri2 2 0x20 = true ∧ (run (.ringEntryFetch 2 (en ri2 2 0x20 [])) ri2).host.head2 = some (en ri2 2 0x20 [])) ∧
    (good ri4 4 0x40 = true ∧ (run (.ringEntryFetch 4 (en ri4 4 0x40 [])) ri4).fw.reqs.length = 1) ∧
    (ri0.mayFetch 0 = true ∧ (ri0.ring 0).refetch = false ∧ (ri0.ring 0).fails < 3 ∧
      bytesAt (List.replicate 64 0) 60 4 ≠ ri0.entryCheck 0 (ri0.ringAddr 0 (ri0.reg (F.RING_CONS 0))) (List.replicate 64 0) ∧
      ((run (.ringEntryFetch 0 (List.replicate 64 0)) ri0).ring 0).refetch = true) ∧
    ((riF 3 true).mayFetch 0 = true ∧ ((riF 3 true).ring 0).refetch = true ∧ 3 ≤ ((riF 3 true).ring 0).fails ∧
      (run (.entryRefetch 0 (List.replicate 64 0)) (riF 3 true)).reg (F.RING_TALLY_CHECK_FAIL 0) = 1) ∧
    (rdb.host.dlUp = true ∧ rdb.host.mse = true ∧ rdb.host.held = none ∧ rdb.on (F.RING_CFG_ENABLE 1) = true ∧ (run (.doorbell 256 (leBytes 4 3)) rdb).reg (F.RING_CONS 1) = 3 ∧
      (run (.doorbell 256 (leBytes 4 4)) rdb).reg (F.RING_CONS 1) = 1 ∧ (run (.doorbell 0 (leBytes 4 16)) rdb).reg (F.RING_PROD 0) = 16 ∧
      (run (.doorbell 0 (leBytes 4 17)) rdb).reg (F.RING_PROD 0) = 0) ∧
    ((rwb.ring 2).wbDue = true ∧ (rwb.ring 2).wbFree 2 rwb.tick = true ∧ rwb.wbAddr 2 ≠ 0 ∧ rwb.host.mayIssue = true ∧ (run (.ringWbWrite 2) rwb).host.out.length = 1) ∧
    (outbound 1 = true ∧ rou.ringRuns 1 = true ∧ rou.host.mayIssue = true ∧ rou.ringPending 1 < rou.ringSize 1 ∧ (rou.nextOut 1).isSome = true ∧
      (run (.outboundEntry 1) rou).reg (F.RING_PROD 1) = 1) ∧
    (rms.on (F.RING_IRQ_EN 1) = true ∧ rms.ringSignals 1 = true ∧ (rms.ring 1).wbDue = false ∧ rms.host.cross = none ∧ rms.host.pclkLost = false ∧ rms.host.msixEn = true ∧
      rms.host.funcMask = false ∧ bit (rms.host.msixWord (rms.reg (F.RING_IRQ_VECTOR 1)) 3) 0 = false ∧ rms.host.mayIssue = true ∧
      (run (.ringMessage 1) rms).host.out = [.msix 0x1000 77]) := by decide +kernel
/-- A command entry of ring 0 with one item. -/
def ce (op : Nat) (l : List Byte) : Entry :=
  [BitVec.ofNat 8 op, 0, 0, 0] ++ l ++ List.replicate (52 - l.length) 0 ++ leBytes 4 0x55 ++ [0, 0, 0, 0]
def cq (op : Nat) (l : List Byte) : State := hl [] fun h => { h with queue := [ce op l] }
/-- ROOT_SCRATCH stands at 0x0010; an item names a word of the root unit. -/
def cW : List Byte := [1, 0, 0, 0] ++ leBytes 4 (0x14 * 4) ++ leBytes 4 0xAB ++ leBytes 4 0xCD
theorem test_CommandEngineCommands :
    ((cq 0 []).hubOn = true ∧ (cq 0 []).host.queue = [ce 0 []] ∧ (cq 0 []).fenceWaits = false ∧ (cq 0 []).sv.keeper = false ∧
      bytesAt (ce 0 []) 0 1 = 0 ∧ ((run .nop (cq 0 [])).ring 1).out.length = 1) ∧
    (bytesAt (ce 1 cW) 4 1 = 1 ∧ offsetOk (bytesAt (ce 1 cW) 8 4) = true ∧ bytesAt (ce 1 cW) 0 1 = 1 ∧ ((run .write (cq 1 cW)).ring 1).out.length = 1) ∧
    (bytesAt (ce 2 cW) 12 4 ≠ 0xFFFFFFFF ∧ ((run .writeMasked (cq 2 cW)).ring 1).out.length = 1) ∧
    (spotAt (bytesAt (ce 3 cW) 8 4 / 4 * 4) ≠ .unmapped ∧ ((run .read (cq 3 cW)).ring 1).out.length = 1 ∧
      ((run .readBlock (cq 4 cW)).ring 1).out.length = 1) ∧
    (bytesAt (ce 5 ([4, 0, 0, 0] ++ leBytes 4 0 ++ leBytes 4 64)) 12 2 = 64 ∧ (cq 5 []).on (F.RING_CFG_ENABLE 6) = true ∧
      (run .recordCopy (cq 5 ([4, 0, 0, 0] ++ leBytes 4 0 ++ leBytes 4 64))).host.cmds.length = 1) := by decide +kernel
def hc (f : HostIf → HostIf) : State := { pres with host := f { pres.host with cfg := [(4, 0x00100006), (0x50, 0x803F7011)], msixVec := [(11, 0), (8, 0x2000)] } }
def hcX : State := hc fun h => { h with cross := some (2, none), pclkLost := true }
/-- Correctable errors are reported. -/
def hcE : State := { pres with host := { pres.host with cfg := [(4, 0x00100006), (0x78, 0x2811)] } }
def hcDrv : State := dw id [(F.DRV_CH_STATUS_STATE k3, 1)]
theorem test_HostLinkCommands :
    (hcX.hubOn = true ∧ hcX.host.cross = some (2, none) ∧ hcX.host.held = none ∧ hcX.host.blocked = 0 ∧ hcX.host.msixEn = true ∧ hcX.host.funcMask = false ∧ bit (hcX.host.msixWord 2 3) 0 = false ∧
      hcX.host.mayIssue = true ∧ (run .crossingDelivery hcX).host.out = [.msix 0x2000 0] ∧ (run .crossingDelivery hcX).host.cross = none) ∧
    (pres.host.dlUp = true ∧ (0x10 / 4 * 4 : Nat) ∉ [0x44, 0x78, 0x104, 0x110, 0x118, 0x11C, 0x120, 0x124, 0x128] ∧
      (run (.configWrite 0x10 15 0x12345678) pres).host.cfgWord 0x10 = 0x12300004) ∧
    ((run (.pcieError (.correctable 6)) pres).host.aerCor = 64 ∧ bit (hcE.host.cfgWord 0x78) 0 = true ∧ bit (hcE.host.cfgWord 0x114) 6 = false ∧
      (run (.pcieError (.correctable 6)) hcE).host.out = [.err 0]) ∧
    ((run (.pcieError (.link 18 [1, 2, 3, 4])) pres).host.aerUnc = 2 ^ 18 ∧ pres.host.isFatal 18 = true ∧ pres.host.aerUnc = 0 ∧
      bit (pres.host.cfgWord 0x108) 18 = false ∧ hasHeader 18 = true ∧ (run (.pcieError (.link 18 [1, 2, 3, 4])) pres).host.fatal = true ∧
      (run (.pcieError (.link 18 [1, 2, 3, 4])) pres).host.cfgWord 0x120 = 2 ∧ (run (.configWrite 0x120 15 9) pres).host.cfgWord 0x120 = 0) ∧
    ((run (.powerStateChange true) pres).host.d3 = true) ∧
    ((run .functionLevelReset pres).reg F.ROOT_RESET_STATUS_SOFT_RESETS = 1) ∧
    (hcDrv.hubOn = true ∧ (∀ j, ((hcDrv.drvc j).busy) = false) ∧ hcDrv.drvState k3 = 1 ∧ (run (.busError 0x1000 ⟨14, 0, [], []⟩) hcDrv).drvState k3 = 4 ∧
      (run (.busError 0x1000 ⟨14, 0, [], []⟩) hcDrv).reg F.DRV_STATUS_BUS_ERR = 1) ∧
    (pres.host.perst = false ∧ pres.host.phyLow = false ∧ pres.hub.run ≠ .por ∧ (run (.linkEvent true 4 4) pres).host.speed = 4) ∧
    (pres.host.pclkLost = false ∧ (run .pclkMirrorRefresh pres).reg F.HL_LINK_STATUS_DL_UP = 1 ∧
      (run .pclkMirrorRefresh { pres with host := { pres.host with dlUp := false } }).reg F.HL_LINK_STATUS_BME = 0) ∧
    ((run .perstNRelease State.reset).host.perst = false) ∧ ((run .phyRailRise State.reset).host.phyLow = false) := by decide +kernel
def rs : State := hl [(F.RING_BASE_LO 0, 5), (F.RING_CONS 2, 7)] fun h => { h with cfg := [(4, 6)], queue := [ce 0 []] }
theorem test_HostSideResets :
    rs.hubOn = true ∧ hostFld (F.RING_CONS 2) = true ∧ rs.reg (F.RING_CONS 2) = 7 ∧
    [Instr.perstN, .hotReset, .linkDown, .phyRailLow, .pclkLost].all (fun i => (run i rs).reg (F.RING_CONS 2) == 0 && (run i rs).host.queue == [] &&
      !(run i rs).host.dlUp) = true ∧ (run .hotReset rs).host.cfg = [] ∧ (run .linkDown rs).host.cfg ≠ [] := by decide +kernel
def hs (f : Hub → Hub) : State := { pres with hub := f pres.hub }
theorem test_HubSupplyCommands :
    ((run .hubRailRise State.reset).hub.core = true) ∧
    ((run (.hubPowerOnReset true) (rg pres [(F.FOLD_CTRL_ENABLE, 1), (F.HK_HOURS 0 0, 7)])).hub.run = .por ∧ vauxFld F.FOLD_CTRL_ENABLE = false ∧
      vauxFld (F.HK_HOURS 0 0) = true ∧ (run (.hubPowerOnReset true) (rg pres [(F.FOLD_CTRL_ENABLE, 1), (F.HK_HOURS 0 0, 7)])).reg F.FOLD_CTRL_ENABLE = 0 ∧
      (run (.hubPowerOnReset true) (rg pres [(F.FOLD_CTRL_ENABLE, 1), (F.HK_HOURS 0 0, 7)])).reg (F.HK_HOURS 0 0) = 7 ∧
      pres.hub.core = true ∧ pres.ldg.queue.length < 16 ∧ (run (.hubPowerOnReset true) pres).ldg.queue.map (·.code) = [3] ∧
      vauxCleared (F.HK_HOURS 0 0) = true ∧ (run (.hubPowerOnReset false) (rg (hs fun h => { h with vaux := false }) [(F.HK_HOURS 0 0, 7)])).reg (F.HK_HOURS 0 0) = 0) ∧
    ((hs fun h => { h with run := .por }).hub.run = .por ∧ (hs fun h => { h with run := .por }).hub.core = true ∧
      (hs fun h => { h with run := .por }).hub.vddIo = true ∧ (hs fun h => { h with run := .por }).hub.vaux = true ∧
      (run .powerOnResetEnd (hs fun h => { h with run := .por })).hub.run = .pllWait ∧
      (run .powerOnResetEnd (hs fun h => { h with run := .por })).reg F.LDG_BOOT = 1) ∧
    ((hs fun h => { h with run := .pllWait }).hub.xin = true ∧ (run .cclkLock (hs fun h => { h with run := .pllWait })).hub.run = .running ∧
      (run .cclkLock (hs fun h => { h with run := .pllWait })).now = 0) ∧
    (pres.hubOn = true ∧ (run .xinLost pres).hub.run = .reset ∧ (run .xinReturn (hs fun h => { h with xin := false })).hub.xin = true ∧
      (run .pllLockLoss pres).hub.run = .frozen ∧ (run .vddIoFall pres).hub.run = .reset ∧ (run (.boundaryScanReset true) pres).hub.run = .reset) ∧
    (1000000 ≤ base.clock - base.hub.since ∧ base.hub.xin = true ∧ (hs fun h => { h with run := .reset }).hub.scan = false ∧ (run .hubResetEnd (hs fun h => { h with run := .reset })).hub.run = .running ∧
      (run .hubResetEnd (hs fun h => { h with run := .reset })).grpState 0 = 0) ∧
    ((hs fun h => { h with vaux := false }).hub.vaux = false ∧ (run .vauxApplied (hs fun h => { h with vaux := false })).hub.vaux = true ∧
      (run .vauxLost pres).faultN = true ∧ (run .vauxLost (rg pres [(F.HK_HOURS 0 0, 7)])).reg (F.HK_HOURS 0 0) = 0) := by decide +kernel
def fw (f : FwSt → FwSt) (st : Nat) : State := let s := rg pres [(F.FW_STATUS_STATE, st)]; { s with fw := f s.fw }
/-- A second after the last kick. -/
def fwK : State := { fw id 2 with hub := { pres.hub with grid := 400000400 } }
def fwOld : State := { fwK with fw := { fwK.fw with restarts := [400000390, 400000380] } }
/-- A slot that is idle, one that runs, and the running slot of a restart are under verification. -/
def fwS : State := fw (fun f => { f with jobs := [.stage 1 2] }) 2
def fwS0 : State := fw (fun f => { f with jobs := [.stage 0 2] }) 2
def fwR : State := fw (fun f => { f with jobs := [.restart true] }) 4
theorem test_FirmwareCommands :
    ((fw (fun f => { f with bootDue := true }) 0).hubOn = true ∧ (fw (fun f => { f with bootDue := true }) 0).fw.bootDue = true ∧
      (run (.bootSequence false [] []) (fw (fun f => { f with bootDue := true }) 0)).reg F.ROOT_RESET_STATUS_BOOT_DONE = 1) ∧
    (fwS.fw.jobs = [.stage 1 2] ∧ fwS.idleSlot = 1 ∧ fwS.verifySlot 1 = 1 ∧ (run .verifyDone fwS).fw.staged = 1 ∧
      (run .verifyDone fwS).reg F.FW_STATUS_STAGED = 0 ∧ (run .verifyDone fwS).reg F.FW_STATUS_FAIL = 1 ∧
      fwS0.fw.jobs = [.stage 0 2] ∧ fwS0.idleSlot ≠ 0 ∧ (run .verifyDone fwS0).fw.staged = 0) ∧
    (fwR.fw.jobs = [.restart true] ∧ fwR.fwState = 4 ∧ fwR.verifySlot (fwR.reg F.FW_STATUS_SLOT) = 1 ∧ (run .verifyDone fwR).fw.reload = some true) ∧
    ((fw id 3).fwState = 3 ∧ (fw id 3).fw.started = false ∧ (∀ c : Ch, ((fw id 3).ch c).port.isdu = none) ∧
      (run .handover (fw id 3)).fw.started = true ∧ (run .handoverTimeout (fw id 3)).fw.cold = true) ∧
    (fwK.hubOn = true ∧ fwK.fwState = 2 ∧ fwK.fwLate = true ∧ fwOld.fwLate = true ∧
      (fwK.fw.restarts.filter fun x => fwK.tick < x + 2500000000).length < 2 ∧ fwK.verifySlot (fwK.reg F.FW_STATUS_SLOT) ≠ 0 ∧
      (run (.fwWatchdogExpiry false [] []) fwK).fwState = 5 ∧ (run (.ramUncorrectable 0 false [] []) fwOld).reg F.FW_STATUS_FAIL = 8 ∧
      2 ≤ (fwOld.fw.restarts.filter fun x => fwOld.tick < x + 2500000000).length ∧
      (run (.fwWatchdogExpiry false [] []) fwOld).reg F.FW_STATUS_FAIL = 8 ∧ (run (.startTimeout false [] []) (fw id 7)).fwState = 5) ∧
    ((fw (fun f => { f with started := true }) 3).fw.started = true ∧
      (run (.startTimeout false [] []) (fw (fun f => { f with started := true }) 3)).reg F.FW_STATUS_FAIL = 7) := by decide +kernel
/-- An image of four bytes stands in slot 0; whether its signature is good stays open. -/
def goodFw : State := fw (fun f => { f with ram := f.ram.load 0 0x18000 (leBytes 4 0x57464B48 ++ [1, 0xB0, 0, 0] ++ leBytes 8 0 ++ leBytes 4 4) }) 4
theorem test_verifySlot (h : goodFw.signedOk 0 4 = true) : goodFw.verifySlot 0 = 0 := by
  have hl : goodFw.slotNum 0 16 4 = 4 := by decide +kernel
  unfold State.verifySlot
  simp only [hl]
  rw [if_neg (by decide +kernel), if_neg (by decide +kernel), if_neg, if_neg (by decide +kernel)]
  rw [h]
  decide +kernel

/-! ### Words written at the arbiter and at a die -/

/-- The arbiter serves an access: the test of `State.serves`. -/
def sv (s : State) (rq : Req) (o : Nat) : Bool := s.hubOn && s.reaches rq && s.host.held.isNone && !s.shutOut rq o
theorem serves_of (s : State) (rq : Req) (o : Nat) (h : sv s rq o = true) : s.serves rq o := by
  simp only [sv, Bool.and_eq_true, Bool.not_eq_true', Option.isNone_iff_eq_none] at h
  exact ⟨⟨h.1.1.1, h.1.1.2, fun _ => h.1.2⟩, h.2⟩
/-- Several accesses at once. -/
theorem serves_all (l : List (State × Req × Nat)) (h : l.all (fun p => sv p.1 p.2.1 p.2.2) = true) : ∀ p ∈ l, p.1.serves p.2.1 p.2.2 :=
  fun p hp => serves_of _ _ _ (List.all_eq_true.mp h p hp)
theorem test_RegisterAccessRows : pres.serves .host (U.at (.ch 2) 0x44) ∧ pres.serves .sv 0x40 ∧ pres.arrives .ring0 ∧ pres.arrives .host ∧
    (15 : Fin 16).val ≠ 0 ∧ (run (.registerWrite .host (U.at (.ch 2) 0x44) 15 0x4D090009) pres).reg (F.OUT_CFG_OL_WINDOW 2) = 0x4D ∧
    (run (.pairLowRead .host (U.at (.ch 2) 0x44)) pres).hub.rdata[0] = (pres.readWord .host (U.at (.ch 2) 0x44)).1 ∧
    (run (.pairLowRead .host 0x100100) (run (.doorbell 256 (leBytes 4 3)) rdb)).hub.rdata[0] = 3 :=
  ⟨serves_of _ _ _ (by decide +kernel), serves_of _ _ _ (by decide +kernel), (serves_of pres .ring0 0x40 (by decide +kernel)).1,
   (serves_of pres .host 0x40 (by decide +kernel)).1, by decide +kernel⟩
def wA (o v : Nat) : State := ib (.write (o / 4) v)
theorem test_DieSideWrites :
    ((wA 0x3028 1).dieOn (grpOf 2) = true ∧ ((wA 0x3028 1).dieOf (grpOf 2)).inbox = [tx (.write (0x3028 / 4) 1)] ∧ 4 * (0x3028 / 4) = inGroup (.ch 2) 0x28 ∧
      (run (.chPermitWrite .die .host 2 15 0) (wA 0x3028 1)).dreg (F.CH_PERMIT 2) = 1) ∧
    (4 * (0x306C / 4) = inGroup (.ch 2) 0x6C ∧ 2 / 4 % 2 = 0 ∧ 4 / 4 % 2 = 1 ∧ ((run (.clearClamp .die .host 2) (wA 0x306C 2)).dieOf 0).inbox = [] ∧
      ((run (.clearFault .die .host 2 0 false) (wA 0x306C 4)).dieOf 0).inbox = []) ∧
    (4 * (0x30D8 / 4) = inGroup (.ch 2) 0xD8 ∧ ((wA 0x30D8 7).dieOf (grpOf 2)).inbox = [tx (.write (0x30D8 / 4) 7)] ∧
      ((run (.anDacWrite .die .host 2 15 7) (wA 0x30D8 7)).dieOf 0).inbox = []) ∧
    (4 * (0x84 / 4) = 0x84 ∧ ((run (.supplyAck .die .host 0 15 0) (wA 0x84 1)).dieOf 0).inbox = []) := by decide +kernel
def irq : State :=
  { rg pres [(F.CAUSE .tb, 0x30), (F.ENABLE .tb, 0x11), (F.ROUTE_MSIX .tb, 1), (F.ROUTE_VECTOR .tb, 2)] with
    host := { pres.host with cfg := [(4, 0x00100006), (0x50, 0x803F7011)], msixVec := [(11, 0), (8, 0x2000)] } }
/-- Two messages wait, one of them the unit's own. -/
def irqP : State := { irq with host := { irq.host with pba := [(2, some .tb), (3, none)] } }
theorem test_InterruptWords : irq.serves .host (U.at .tb 0x10) ∧ irq.serves .host (U.at .tb 0x14) ∧ irqP.serves .host (U.at .tb 0x10) ∧
    U.isUnit .tb = true ∧ linkUnit .tb = false ∧
    (run (.irqCauseWrite .host (U.at .tb 0x10) 15 0x20) irq).reg (F.CAUSE .tb) = 0x10 ∧ irq.on (F.ROUTE_MSIX .tb) = true ∧
    irq.reg (F.CAUSE .tb) &&& (2 ^ 32 - 1 - 0x20) &&& irq.reg (F.ENABLE .tb) ≠ 0 ∧ irq.host.cross = none ∧ irq.host.pclkLost = false ∧ irq.host.msixEn = true ∧
    irq.host.funcMask = false ∧ bit (irq.host.msixWord (irq.reg (F.ROUTE_VECTOR .tb)) 3) 0 = false ∧ irq.host.mayIssue = true ∧
    (run (.irqCauseWrite .host (U.at .tb 0x10) 15 0x20) irq).host.out = [.msix 0x2000 0] ∧
    (run (.irqCauseWrite .host (U.at .tb 0x10) 15 0x30) irqP).host.pba = [(3, none)] ∧
    (run (.irqEnableWrite .host (U.at .tb 0x14) 15 0xF) irq).reg (F.ENABLE .tb) = 0xF :=
  ⟨serves_of _ _ _ (by decide +kernel), serves_of _ _ _ (by decide +kernel), serves_of _ _ _ (by decide +kernel), by decide +kernel⟩
def lock : State := rg pres [(F.CH_LOCK 2, 1)]
theorem lock_canon : lock.Canon := ⟨by decide +kernel, by decide +kernel, by decide +kernel, by decide +kernel⟩
theorem test_LockedFieldsHold : lock.Canon ∧ lockFld (.ch 2) = some (F.CH_LOCK 2) ∧ lock.on (F.CH_LOCK 2) = true ∧
    (layout (.ch 2)).any (fun r => r.acc == .rwl && r.off == 0x28) = true ∧
    (run (.registerWrite .host (U.at (.ch 2) 0x28) 15 1) lock).reg (F.CH_PERMIT 2) = 0 ∧
    (run (.registerWrite .host (U.at (.ch 2) 0x28) 15 1) pres).reg (F.CH_PERMIT 2) = 1 :=
  ⟨lock_canon, by decide +kernel⟩
/-- Every channel a switch, and the model above a ceiling of 0. -/
def gov : State := rg pres ((List.finRange 32).map (fun c => (F.CH_MODE_MODE c, 1)) ++ [(F.CH_MODE_MODE 2, 0), (F.OUT_LIMIT_CUR_LIMIT 3, 2), (F.ROOT_GOV_CEILING, 0)])
theorem gov_canon : gov.Canon := ⟨by decide +kernel, by decide +kernel, by decide +kernel, by decide +kernel⟩
theorem test_GovernorWrites : gov.Canon ∧ gov.serves .host 0x40 ∧ gov.serves .host 0x44 ∧ gov.serves .host (U.at (.ch 2) 0x20) ∧
    gov.serves .host (U.at (.ch 3) 0x48) ∧ gov.ceiling < govModel gov.regs ∧
    govModel gov.regs < govModel (modeImage gov.regs 2 (1 % 16) (1 / 16 % 4)) ∧
    govModel gov.regs < govModel (gov.rowsWrite .host (.ch 3) 0x48 15 12) ∧
    (run (.chModeWrite .host 2 15 1) gov).reg (F.CH_MODE_MODE 2) = 0 ∧ (run (.govCeilingWrite .host 15 9000) gov).reg F.ROOT_GOV_CEILING = 9000 ∧
    (run (.govVdeclWrite .host 15 0x10005A95) gov).reg (vdeclFld 0) = 0x95 ∧ (run (.govVdeclWrite .host 15 0x10005A95) gov).reg (vdeclFld 2) = 90 :=
  ⟨gov_canon, serves_of _ _ _ (by decide +kernel), serves_of _ _ _ (by decide +kernel), serves_of _ _ _ (by decide +kernel),
   serves_of _ _ _ (by decide +kernel), by decide +kernel⟩
theorem test_FieldsTakeWrittenValue : pres.serves .host (U.at .tb 0x2C) ∧ pres.serves .host (U.at (.rule 7) 0) ∧ pres.regOld (F.RFX_ARM_PHASE 7) = 0 ∧
    (rowsAt .tb 0x2C).any (fun y => y.acc == .rw) = true ∧ (rowsAt (.rule 7) 0).any (fun y => y.acc == .rw) = true ∧
    (run (.ruleWrite .host 7 2 15 0x1234) pres).reg (F.RFX_PARAM 7) = 0x1234 :=
  ⟨serves_of _ _ _ (by decide +kernel), serves_of _ _ _ (by decide +kernel), by decide +kernel⟩
def cw : State := rg pres [(F.CH_MODE_MODE 2, 1)]
def cwP (st : Nat) (f : Port → Port := id) (l : List (Fld × Nat) := []) : State := po st f l
theorem test_ChannelWords : cw.serves .host (U.at (.ch 2) 0x20) ∧ cw.serves .host (U.at (.ch 2) 0x40) ∧ (po 8).serves .host (U.at (.ch 2) 0xE8) ∧
    cw.imgMode 2 = 1 ∧ run (.chModeWrite .host 2 15 1) cw = cw ∧ cw.refusal 2 12 0 = 1 ∧ (run (.chModeWrite .host 2 15 12) cw).reg (F.CH_REFUSE_CODE 2) = 1 ∧
    cw.refusal 2 0 0 = 0 ∧ cw.govRefuses (modeImage cw.regs 2 0 0) = false ∧ (run (.chModeWrite .host 2 15 0) cw).imgMode 2 = 0 ∧
    cw.on (F.CH_LOCK 2) = false ∧ cw.isMember 2 = false ∧ cw.absent (grpOf 2) = false ∧ (run (.outCmdWrite .hub .host 2 15 1) cw).reg (F.OUT_CMD_ON 2) = 1 ∧
    ((run (.clearFuse .hub .host 2) cw).link 0).write.length = 1 ∧
    (run (.relearn .host 2 15 (BitVec.ofNat 32 (2 ^ 29))) (rg cw [(F.SK_BASE_COUNT 2, 9)])).reg (F.SK_BASE_COUNT 2) = 0 ∧
    (po 8).isPort 2 = true ∧ (po 8).fwRuns = true ∧ (run (.portStart .host 2 15 (BitVec.ofNat 32 (2 ^ 31))) (po 0)).reg (F.IOL_CTRL_START 2) = 1 ∧
    (run (.portStop .host 2 15 0) (po 8)).portState 2 = 0 ∧
    (cwP 8 (fun p => { p with dev := some dv, ref := some (9, 9, 9) }) [(F.IOL_CTRL_REASON 2, 8), (F.IOL_CTRL_START 2, 1), (F.CH_PERMIT 2, 1)]).noSupply 2 = 0 ∧
    (run (.admitDevice .host 2 15 0x90000000)
      (cwP 8 (fun p => { p with dev := some dv, ref := some (9, 9, 9) }) [(F.IOL_CTRL_REASON 2, 8), (F.IOL_CTRL_START 2, 1), (F.CH_PERMIT 2, 1)])).portState 2 = 6 ∧
    (run (.iolPdWrite .hub .host 2 15 0xBEEF) (po 7)).reg (F.IOL_PD_PDOUT 2) = 0xBEEF ∧
    (run (.iolPdWrite .hub .host 2 15 0xBEEF) (po 7 fun p => { p with dev := some dv })).reg (F.IOL_PD_PDOUT 2) = 0xEF :=
  ⟨serves_of _ _ _ (by decide +kernel), serves_of _ _ _ (by decide +kernel), serves_of _ _ _ (by decide +kernel), by decide +kernel⟩

/-! ### Words of the time base, the chains, the Fold, the groups, the rings, the Drover, the controller and the Ledger -/

def rgH : State := rg pres [(F.RING_CFG_ENABLE 0, 1), (F.RING_STATUS_HALTED 0, 1), (F.RING_STATUS_CAUSE 0, 1), (F.RING_SEQ 0, 5), (F.RING_PROD 0, 4)]
def pw : State := run (.pairLowWrite .host (U.at .tb 0x30) 15 0xFFFFFFF8) pres
theorem test_PairsCommitTogether : (0x30 ∈ writePairs .tb ∧ spotAt (U.at .tb 0x30) = .word .tb 0x30) ∧ linkUnit .tb = false ∧
    pres.serves .host (U.at .tb 0x30) ∧ pw.serves .host (U.at .tb 0x34) ∧ pw.stageOf .host = some (U.at .tb 0x30, 0xFFFFFFF8) ∧
    pw.aligned = true ∧ pw.hub.step = none ∧ pw.hub.wait = none ∧ (run (.stepCommit .host 15 0xFFFFFFFF) pw).hub.step = some (-8, 0, 1, 400) ∧
    (0xC ∈ writePairs (.drvCh k3) ∧ pres.pairHeld (.drvCh k3) 0xC = none ∧ pres.pairHeld (.ring 0) 0x10 = none ∧ pres.pairHeld (.ckU 2) 8 = none ∧
      (rgH.pairHeld (.ring 0) 0x10).isSome = true ∧
      (run (.pairLowWrite .host (U.at (.ring 0) 0x10) 15 7) rgH).hub.stage[0] = none ∧ pres.drvActive k3 = false) ∧ (8 ∈ writePairs (.ckU 2) ∧ pres.ckBusy 2 = false) ∧
    (0x10 ∈ writePairs (.ring 0) ∧ pres.pairHeld .tb 0x30 = none ∧ pres.on (F.RING_CFG_ENABLE 0) = false) ∧
    (run (.pairHighWrite .host (U.at (.drvCh k3) 0x10) 15 7) (run (.pairLowWrite .host (U.at (.drvCh k3) 0xC) 15 0x4000) pres)).drvHead k3 =
      7 * 2 ^ 32 + 0x4000 :=
  ⟨by decide +kernel, rfl, serves_of _ _ _ (by decide +kernel), serves_of _ _ _ (by decide +kernel), by decide +kernel⟩
def chR : State := xx (fun k => { k with req := some (1, 0, 300), capCnt := 9 }) [(F.SC_SWAP_BANK x5, 0)]
def chF : State := chR.updChain x5 fun k => { k with fade := some { j := 3, len := 16, old := 0, new := 1 } }
theorem test_ChainWords : pres.serves .host (U.at (.chain x5) 0x20) ∧ chR.serves .host (U.at (.chain x5) 0x2C) ∧ pres.serves .host (U.at (.chain x5) 0x30) ∧
    pres.serves .host (0x20000 + 0x204) ∧ ((run (.chainSync .host x5 15 0x80000000) chR).chain x5).capCnt = 0 ∧ ((run (.chainSync .host x5 15 0x80000000) chR).chain x5).req = some (1, 0, 300) ∧
    (chF.chain x5).fade ≠ none ∧ ((run (.chainSync .host x5 15 0x80000000) chF).chain x5).req = none ∧
    wordOf (run (.scCfgWrite .host x5 15 0x01000001) chR).regs (.chain x5) 0x20 ≠ wordOf chR.regs (.chain x5) 0x20 ∧
    (chR.chain x5).fade = none ∧ (chR.chain x5).req.isSome = true ∧ ((run (.swapRequest .host x5 15 0xC010) chR).chain x5).req = some (1, 16, 400) ∧
    ((run (.swapRequest .host x5 15 0x8010) chR).chain x5).req = none ∧ run (.swapRequest .host x5 15 0x4010) chR = chR ∧
    (run (.dcClear .host x5 15 0x40000000) (xx fun k => { k with est := 7 })).reg (F.SC_DC_EST x5) = 0 ∧
    coefWord 0x204 = true ∧ 0x204 % 0x400 ≠ 0x3F0 ∧ pres.bankUsed (0x204 / 0x400) (0x204 % 0x400 / 0x200) = false ∧
    coefWord 4 = true ∧ pres.bankUsed 0 0 = true ∧
    (run (.coefWrite .host 4 15 3) pres).coef = [] :=
  ⟨serves_of _ _ _ (by decide +kernel), serves_of _ _ _ (by decide +kernel), serves_of _ _ _ (by decide +kernel), serves_of _ _ _ (by decide +kernel),
   by decide +kernel⟩
def fcs : State := { pres with fold := { slots := [rfSlot9] } }
  where rfSlot9 : Slot := { idx := 0, t := 5000, target := 2, action := 1, param := 0, policy := 1, order := 0, r := 5000 }
theorem test_TimeFoldRuleWords : pres.serves .host (U.at .tb 0x38) ∧ fcs.serves .host (U.at .fold 0x2C) ∧ pres.serves .host (U.at (.rule 7) 4) ∧
    pres.serves .host (U.at (.rule 7) 0xC) ∧ (run (.slewWrite .host 15 0xFFFFFFFE) pres).hub.slew = -2 * 2 ^ 32 ∧
    (run (.foldCancelWrite .host 15 4) fcs).fold.slots = [] ∧ (run (.foldCancelWrite .host 15 3) fcs).fold.slots.length = 1 ∧
    (run (.rfxArmWrite .host 7 15 0x40000009) pres).reg (F.RFX_ARM_PHASE 7) = 2 ∧
    (run (.rfxArmWrite .host 7 15 0x40000009) (rg pres [(F.RFX_ARM_AT_LO 7, 5000)])).reg (F.RFX_ARM_PHASE 7) = 1 ∧
    (run (.ruleWrite .host 7 2 15 9) (rg pres [(F.RFX_ARM_PHASE 7, 2)])).reg F.RFX_LAST_BUSY_WRITE = 1 ∧
    pres.regOld (F.RFX_ARM_PHASE 7) = 0 ∧ pres.absent (grpOf (pres.ruleTarget 7)) = false ∧ 7 ∈ ((run (.ruleWrite .host 7 2 15 9) pres).link 0).unR :=
  ⟨serves_of _ _ _ (by decide +kernel), serves_of _ _ _ (by decide +kernel), serves_of _ _ _ (by decide +kernel), serves_of _ _ _ (by decide +kernel),
   by decide +kernel⟩
def gw : State := rg pres [(F.GRP_SUP_STATUS_AWAIT_ACK 0, 1), (F.GRP_STATUS_SAFE 0, 1), (F.GRP_STATUS_GCLK_RUN 0, 1), (F.GRP_WD_SV 0, 1), (F.GRP_WD_HOST 0, 1)]
theorem test_GroupWords : gw.serves .host (U.at (.grp 0) 0x2C) ∧ gw.serves .host (U.at (.grp 0) 0x24) ∧ gw.serves .host (U.at (.grp 0) 0x84) ∧
    gw.serves .host (U.at (.grp 0) 0x15C) ∧ gw.on (F.GRP_SUP_STATUS_AWAIT_ACK 0) = true ∧ gw.on (F.GRP_WD_HOST 0) = true ∧ ((run (.grpFeed .host 0 15 0x5AC3) gw).link 0).fedPend = true ∧
    ((run (.grpFeed .host 0 15 0x5AC4) gw).link 0).fedPend = false ∧ (run (.forceSafe .host 0 15 1) gw).reg (F.GRP_STATUS_FORCED 0) = 1 ∧
    (run (.unforce .host 0 15 2) (rg gw [(F.GRP_STATUS_FORCED 0, 1)])).reg (F.GRP_STATUS_FORCED 0) = 0 ∧ gw.absent 0 = false ∧
    gw.on (F.GRP_STATUS_SAFE 0) = true ∧ gw.on (F.GRP_STATUS_FORCED 0) = false ∧ gw.on (F.GRP_STATUS_GCLK_RUN 0) = true ∧
    ((run (.release .host 0 15 4) gw).link 0).ctrl.length = 1 ∧ gw.grpState 0 = 3 ∧ (run (.restart .host 0 15 8) gw).grpState 0 = 6 ∧
    ((run (.supplyAck .hub .host 0 15 1) gw).link 0).write.length = 1 ∧ (run (.retune .host 0 15 0x80000000) gw).reg (F.GRP_AGE_EYE_RETUNING 0) = 1 :=
  ⟨serves_of _ _ _ (by decide +kernel), serves_of _ _ _ (by decide +kernel), serves_of _ _ _ (by decide +kernel), serves_of _ _ _ (by decide +kernel),
   by decide +kernel⟩
def rgQ : State :=
  { rg pres [(F.RING_CFG_ENABLE 2, 1), (F.RING_CFG_ENABLE 3, 1)] with
    host := { pres.host with head2 := some [1], notif := [{ kind := 4, body := [] }] } }
theorem test_RingAndResetWords : pres.serves .host (U.at (.ring 0) 8) ∧ rgH.serves .host (U.at (.ring 0) 8) ∧ pres.serves .host 0x24 ∧
    pres.serves .host (U.at .sv 0x30) ∧ pres.host.dlUp = true ∧ pres.on (F.RING_CFG_ENABLE 0) = false ∧
    (run (.ringEnable .host 0 15 0x00060101) pres).reg (F.RING_CFG_LOG2 0) = 6 ∧ (run (.ringEnable .host 0 15 0x00060101) pres).reg (F.RING_CFG_ENABLE 0) = 1 ∧
    rgH.on (F.RING_CFG_ENABLE 0) = true ∧ (run (.ringDisable .host 0 15 0) rgH).reg (F.RING_SEQ 0) = 5 ∧
    rgQ.on (F.RING_CFG_ENABLE 2) = true ∧ (run (.ringDisable .host 2 15 0) rgQ).host.head2 = none ∧ rgQ.host.head2.isSome = true ∧
    rgQ.on (F.RING_CFG_ENABLE 3) = true ∧ (run (.ringDisable .host 3 15 0) rgQ).host.notif = [] ∧ rgQ.host.notif.length = 1 ∧ rgH.on (F.RING_STATUS_HALTED 0) = true ∧
    (run (.ringResume .host 0 15 3) rgH).reg (F.RING_STATUS_HALTED 0) = 0 ∧ (run (.rootSoftReset .host 15 0x3A5C0001) pres).hub.run = .running ∧
    (run (.hubDieResetRequest .host 15 0x3A5C0002) pres).hub.run = .reset ∧ (run (.rootSoftReset .host 15 0x3A5D0001) pres).host = pres.host ∧
    (run (.handbackRequest .host 15 1) pres).reg F.SV_KEEP_HOST_REQ = 1 :=
  ⟨serves_of _ _ _ (by decide +kernel), serves_of _ _ _ (by decide +kernel), serves_of _ _ _ (by decide +kernel), serves_of _ _ _ (by decide +kernel),
   by decide +kernel⟩
def drE : State := dw id [(F.DRV_CH_STATUS_STATE k3, 4), (F.DRV_CH_STATUS_CAUSE k3, 4), (F.DRV_STATUS_BUS_ERR, 1), (F.DRV_CH_CUR_LO k3, 0x40)]
theorem test_DroverRecovery : drE.host.dlUp = true ∧ drE.serves .host (U.at .drv 0x20) ∧ drE.drvState k3 = 4 ∧
    drE.reg (F.DRV_CH_STATUS_CAUSE k3) = 4 ∧ (run (.recover .host) drE).drvState k3 = 0 ∧ (run (.recover .host) drE).reg F.DRV_STATUS_BUS_ERR = 0 ∧
    (run (.recover .host) drE).reg (F.DRV_CH_CUR_LO k3) = 0x40 :=
  ⟨by decide +kernel, serves_of _ _ _ (by decide +kernel), by decide +kernel⟩
def drA : State := dw id [(F.DRV_CH_STATUS_STATE k3, 1), (F.CK_BIND_CHANNEL 2, 3), (F.CK_BIND_EN 2, 1)]
/-- Unit 2 bound to the idle channel, in a block. -/
def drB : State := rg pres [(F.CK_BIND_CHANNEL 2, 3), (F.CK_BIND_EN 2, 1), (F.CK_STATUS_IN_BLOCK 2, 1)]
def drH : State := dw id [(F.DRV_CH_STATUS_STATE k3, 4), (F.DRV_CH_STATUS_CAUSE k3, 5)]
theorem test_DroverAndCheckWords : (∀ p ∈ [(drA, Req.host, U.at (.drvCh k3) 0), (drA, .host, U.at (.drvCh k3) 4), (drA, .host, U.at (.drvCh k3) 8), (drA, .host, U.at (.drvCh k3) 0x3C),
      (drA, .host, U.at (.ckU 2) 0), (drA, .host, U.at (.ckU 2) 0x10), (drA, .host, U.at (.ckU 2) 0x18), (pres, .host, U.at (.drvCh k3) 4),
      (drB, .host, U.at (.ckU 2) 0)], p.1.serves p.2.1 p.2.2) ∧ drA.host.dlUp = true ∧ drA.drvActive k3 = true ∧ pres.drvActive k3 = false ∧
    (run (.drvCfgWrite .host k3 0 15 0x80000000) drA).reg (F.DRV_CH_COUNTS_BUSY_WRITE k3) = 1 ∧
    (run (.drvCfgWrite .host k3 0 15 0x80000000) pres).reg (F.DRV_CH_CFG_HDR k3) = 1 ∧
    (run (.drvCfgWrite .host k3 2 15 5) drA).reg (F.DRV_CH_COUNTS_BUSY_WRITE k3) = 1 ∧
    (run (.drvCfgWrite .host k3 1 15 5) drA).reg (F.DRV_CH_COUNTS_BUSY_WRITE k3) = 1 ∧
    (run (.drvCfgWrite .host k3 1 15 5) drA).stageOf .host = none ∧ drA.stageOf .host = none ∧
    (run (.drvCfgWrite .host k3 1 15 5) pres).stageOf .host = some (U.at (.drvCh k3) 4, 5) ∧
    (run (.drvStop k3 (some .host)) drA).drvState k3 = 2 ∧ drH.drvState k3 = 4 ∧ drH.reg (F.DRV_CH_STATUS_CAUSE k3) = 5 ∧
    (run (.drvClear .host k3) drH).drvState k3 = 0 ∧ drA.bindRefused 2 0x80000003 = true ∧ pres.bindRefused 2 0x80000003 = false ∧
    (run (.ckBindWrite .host 2 15 0x80000003) drA).reg (F.CK_BLOCK_TALLY_BUSY_WRITE 2) = 1 ∧
    (run (.ckBindWrite .host 2 15 0x80000003) pres).reg (F.CK_BIND_CHANNEL 2) = 3 ∧ drB.bindRefused 2 3 = false ∧ drB.on (F.CK_BIND_EN 2) = true ∧
    (run (.ckBindWrite .host 2 15 3) drB).reg (F.CK_STATUS_IN_BLOCK 2) = 0 ∧ drA.ckBusy 2 = true ∧ pres.ckBusy 2 = false ∧
    (run (.ckRunWrite .host 2 15 9) pres).reg (F.CK_RUN 2) = 9 ∧ (run (.abandon .host 2) (rg pres [(F.CK_STATUS_IN_BLOCK 2, 1)])).reg (F.CK_STATUS_IN_BLOCK 2) = 0 :=
  ⟨serves_all _ (by decide +kernel), by decide +kernel⟩
def cto (st : Nat) (l : List (Fld × Nat) := []) : State := rg pres ((F.FW_STATUS_STATE, st) :: l)
/-- An image was run before, now stopped; and the same with two restarts in the last 10 s. -/
def ctR : State := let s := cto 6; { s with fw := { s.fw with ran := some 2 } }
def ctRR : State := { ctR with fw := { ctR.fw with restarts := [395, 390] } }
theorem test_ControllerWords : (∀ p ∈ [(ctR, Req.host, U.at .fw 0x24), (ctRR, .host, U.at .fw 0x24), (cto 2, .host, U.at .fw 0x24), (cto 7, .fw, U.at .fw 0x2C),
      (cto 0, .host, U.at .fw 0x3C)], p.1.serves p.2.1 p.2.2) ∧
    (cto 2).fw.jobs = [] ∧ (run (.verify .host 15 1) (cto 2)).fw.jobs = [.stage 1 2] ∧
    (cto 2 [(F.FW_STATUS_STAGED, 1)]).on F.FW_STATUS_STAGED = true ∧ (run (.activate .host 15 2) (cto 2 [(F.FW_STATUS_STAGED, 1)])).fwState = 3 ∧
    (cto 6).imageRuns = false ∧ (run (.activate .host 15 2) (cto 6 [(F.FW_STATUS_STAGED, 1)])).fwState = 7 ∧
    ctR.fw.ran ≠ none ∧ ctR.fwState ≠ 4 ∧ ctR.fw.restarts = [] ∧ (run (.fwRestart .host 15 4) ctR).fwState = 4 ∧ (run (.fwRestart .host 15 4) ctR).fw.jobs = [.restart true] ∧
    ctRR.fw.restarts = [395, 390] ∧ (run (.fwRestart .host 15 4) ctRR).fwState = 5 ∧
    (run (.fwStop .host 15 8) (cto 2)).fwState = 6 ∧ (cto 7).fwState = 7 ∧ (run (.fwKick .fw 15 0x6C39) (cto 7)).fwState = 2 ∧
    (cto 0).ramOpen (4 * (cto 0).reg F.FW_RAM_ADDR) = true ∧ (run (.ramDataAccess .host (some (15, 77))) (cto 0)).ramWord 0 = 77 ∧
    (cto 2).ramOpen (4 * (cto 2).reg F.FW_RAM_ADDR) = false ∧ (run (.ramDataAccess .host (some (15, 77))) (cto 2)).reg F.FW_TALLY_RAM_DISCARD = 1 :=
  ⟨serves_all _ (by decide +kernel), by decide +kernel⟩
def ldA : State := rg pres [(F.LDG_FW_DATA_A, 5), (F.LDG_FW_DATA_B, 6)]
def ldFull : State := { ldA with ldg := { ldA.ldg with queue := List.replicate 14 { code := 1, cls := 0 } } }
theorem test_LedgerPosts : ldA.serves .host (U.at .ldg 0x48) ∧ ldFull.serves .host (U.at .ldg 0x48) ∧
    (run (.ledgerPost .host 15 0x000307FE) ldA).ldg.queue = [{ code := 0xFE, cls := 2, src := 0, ch := 3, detail := 0, data := 5 + 2 ^ 32 * 6, raised := 400, held := 1000 }] ∧
    (run (.ledgerPost .host 15 0x000307F0) ldFull).reg F.LDG_TALLY_LOST = 1 ∧ bit ((run (.ledgerPost .host 15 0x000307FF) ldA).reg (F.CAUSE .ldg)) 4 = true ∧
    bit ((run (.ledgerPost .host 15 0x000307EF) ldA).reg (F.CAUSE .ldg)) 4 = true ∧ ldFull.ldg.queue.head? = some { code := 1, cls := 0 } :=
  ⟨serves_of _ _ _ (by decide +kernel), serves_of _ _ _ (by decide +kernel), by decide +kernel⟩
def ldF : State := rg pres [(F.LDG_STATUS_FAULT, 1), (F.LDG_STATUS_FROZEN, 1)]
def ldS : State := rg ldF [(F.OUT_STATE_STATE 2, 9), (F.OUT_FAULT_CAUSE 2, 2)]
theorem test_LedgerControlWords : ldF.serves .host (U.at .ldg 0x20) ∧ ldF.on F.LDG_STATUS_FAULT = true ∧ ldF.stuckLatch = false ∧
    (run (.faultAck .host 15 1) ldF).reg F.LDG_STATUS_FAULT = 0 ∧ (run (.faultAck .host 15 1) ldF).ldg.queue.length = 1 ∧ ldS.stuckLatch = true ∧
    (run (.faultAck .host 15 1) ldS).reg F.LDG_STATUS_FAULT = 1 ∧
    ldF.on F.LDG_STATUS_FROZEN = true ∧ (run (.unfreeze .host 15 2) ldF).reg F.LDG_STATUS_FROZEN = 0 :=
  ⟨serves_of _ _ _ (by decide +kernel), by decide +kernel⟩

/-! ### The supervisor port and the whole machine -/

/-- A frame whose tests pass: ALIVE 5, its CRC right, the bit count of its dummy width. -/
def sf (op addr : Nat) (data : List Nat) (bits : Nat) : SvFrame :=
  let f : SvFrame := { cmd := BitVec.ofNat 8 (5 * 16 + op), addr := BitVec.ofNat 24 addr, data := data.map (BitVec.ofNat 32), crc := 0, bits := bits, sck := 100 }
  { f with crc := BitVec.ofNat 16 (SvFrame.crcM f) }
def svF (k : Bool) (l : List (Fld × Nat) := []) : State := let s := rg gw l; { s with sv := { s.sv with inFrame := true, keeper := k, keepEn := true } }
def fRd : SvFrame := sf 1 0x10 [] (8 + 24 + 4 + 32 + 16)
def fWr : SvFrame := sf 2 (0x102C / 4) [0x12345] (8 + 24 + 32 + 16)
def fFd : SvFrame := sf 3 0 [0x5AC30001] (8 + 24 + 32 + 16)
def fGr : SvFrame := sf 4 0 [0xC35A0101] (8 + 24 + 32 + 16)
def fAk : SvFrame := sf 4 0 [0xC35A0108] (8 + 24 + 32 + 16)
def fKe (on : Nat) : SvFrame := sf 5 0 [0x3C960000 + on] (8 + 24 + 32 + 16)
def fOu : SvFrame := sf 6 0x40000 [4, 4] (8 + 24 + 64 + 16)
def fDa : SvFrame := sf 7 0 [0x00021234] (8 + 24 + 32 + 16)
def svB : State := let s := svF false; { s with sv := { s.sv with busy := true } }
/-- The frame was begun before CCLK had locked. -/
def svM : State := let s := svF false; { s with sv := { s.sv with mute := true } }
def svK : State := svF true [(F.CH_MODE_MODE 2, 1)]
def svD : State := svF true [(F.CH_MODE_MODE 2, 6)]
theorem test_SupervisorFrames :
    (gw.hubOn = true ∧ gw.sv.inFrame = false ∧ (run (.svFrameStart true) gw).sv.inFrame = true ∧ (run (.svFrameStart true) gw).sv.busy = false) ∧
    (svM.sv.inFrame = true ∧ svM.sv.mute = true ∧ (run (.svRead fRd) svM).sv.lastAlive = none ∧ (run (.svFrameRejected fRd) svM).regs = svM.regs) ∧
    (svB.sv.inFrame = true ∧ svB.sv.mute = false ∧ svB.sv.busy = true ∧ (run (.svRead fRd) svB).sv.lastAlive = none) ∧
    ((svF false).sv.inFrame = true ∧ (svF false).sv.mute = false ∧ (svF false).sv.busy = false ∧ (svF false).svJudge fRd = 0 ∧ SvFrame.op fRd = 1 ∧ (svF false).svLate fRd = false ∧
      (run (.svRead fRd) (svF false)).sv.miso.length = 2 ∧ (run (.svRead fRd) (svF false)).sv.lastAlive = some 5 ∧
      (run (.svRead fRd) (svF false)).reg F.SV_TALLY_A_GOOD = 1) ∧
    ((svF false).svJudge fWr = 0 ∧ SvFrame.count fWr = 1 ∧ 4 * SvFrame.word fWr = U.at .tb 0x2C ∧ (run (.svWrite fWr) (svF false)).reg F.TB_RATE = 0x12345) ∧
    ((svF false).svJudge fFd = 0 ∧ (SvFrame.at fFd 0).testBit 0 = true ∧ (svF false).on (F.GRP_WD_SV 0) = true ∧
      ((run (.feed fFd) (svF false)).link 0).fedPend = true ∧ (run (.feed fFd) (svF false)).sv.commit = 406) ∧
    ((svF false).svJudge fGr = 0 ∧ (SvFrame.at fGr 0 / 2 ^ 8).testBit 0 = true ∧ SvFrame.at fGr 0 % 2 = 1 ∧
      (run (.group fGr) (svF false)).reg (F.GRP_STATUS_FORCED 0) = 1) ∧
    ((svF false).svJudge fAk = 0 ∧ SvFrame.at fAk 0 / 8 % 2 = 1 ∧ (svF false).absent 0 = false ∧
      ((run (.group fAk) (svF false)).link 0).write.length = 1) ∧
    ((svF false).svJudge (fKe 1) = 0 ∧ SvFrame.op (fKe 1) = 5 ∧ (run (.keepEnter (fKe 1)) (svF false)).sv.keeper = true) ∧
    (svK.svJudge (fKe 0) = 0 ∧ svK.sv.keeper = true ∧ (run (.keepExit (fKe 0)) svK).sv.keeper = false) ∧
    (svK.svJudge fOu = 0 ∧ (SvFrame.at fOu 0).testBit 2 = true ∧ svK.imgMode 2 = 1 ∧ svK.isMember 2 = false ∧
      (run (.output fOu) svK).reg (F.OUT_CMD_ON 2) = 1) ∧
    (svD.svJudge fDa = 0 ∧ SvFrame.count fDa = 1 ∧ SvFrame.at fDa 0 / 2 ^ 16 % 32 = 2 ∧ svD.imgMode 2 = 6 ∧
      (run (.svDac fDa) svD).reg (F.AN_DAC_CODE 2) = 0x1234) := by decide +kernel
theorem test_SupervisorRejects : (svF true).arrives .host ∧
    (svF false).svJudge { fFd with bits := 81 } = 1 ∧ (svF false).svJudge { fFd with crc := fFd.crc + 1 } = 2 ∧
    ({ svF false with sv := { (svF false).sv with lastAlive := some 5 } } : State).svJudge fFd = 3 ∧ (svF false).svJudge (sf 3 0 [0x5AC40001] 80) = 4 ∧
    (svF true).svJudge fWr = 5 ∧ bit (run (.svFrameRejected { fFd with bits := 81 }) (svF false)).sv.flags 26 = true ∧
    (run (.svFrameRejected fWr) (svF true)).reg F.SV_LAST_REASON = 4 ∧ (run (.registerWrite .host 0x40 15 1) (svF true)).reg F.SV_TALLY_C_HOST_DISCARD = 1 :=
  ⟨⟨by decide +kernel, by decide +kernel, fun _ => by decide +kernel⟩, by decide +kernel⟩
theorem test_StepRunsFront : ({ gw with pending := [.slewDone, .pllLockLoss] } : State).pending = .slewDone :: [.pllLockLoss] := rfl
theorem test_StepKeepsCanon : lock.Canon ∧ ∃ t, step { lock with pending := [.registerWrite .host 0x40 15 9000] } = .next t ∧ t.reg F.ROOT_GOV_CEILING = 9000 :=
  ⟨lock_canon, _, rfl, by decide +kernel⟩
theorem test_HostResetsKeepLocks : (0x3A5C0001#32).toNat / 2 % 2 = 0 ∧ (run .perstN lock).on (F.CH_LOCK 2) = true ∧
    (run (.rootSoftReset .host 15 0x3A5C0001) lock).on (F.CH_LOCK 2) = true := by decide +kernel
theorem test_GovernorResets : F.ROOT_GOV_CEILING.unit = .root ∧ 0x40 ≤ F.ROOT_GOV_CEILING.off ∧ F.ROOT_GOV_CEILING.off ≤ 0x4C ∧
    (run .hubResetEnd (rg (hs fun h => { h with run := .reset }) [(F.ROOT_GOV_CEILING, 9)])).reg F.ROOT_GOV_CEILING = 9 := by decide +kernel
theorem test_UnmappedAccesses : pres.serves .host 0xEFFFC ∧ 0xEFFFC < 0x100000 ∧ spotAt (0xEFFFC / 4 * 4) = .unmapped ∧
    (run (.registerWrite .host 0xEFFFC 15 1) pres).reg F.ROOT_ACCESS_TALLY_A_UNMAPPED = 1 ∧
    pres.serves .host (U.at .tb 0xFC) ∧ spotAt (U.at .tb 0xFC / 4 * 4) = .word .tb 0xFC ∧ rowsAt .tb 0xFC = [] ∧ pres.formed .tb 0xFC = none ∧
    pres.unitWord .tb 0xFC = 0 :=
  ⟨serves_of _ _ _ (by decide +kernel), by decide +kernel, by decide +kernel, by decide +kernel, serves_of _ _ _ (by decide +kernel), by decide +kernel⟩
theorem test_CommandsStayOnTheirSide : (∃ t, exec (.gndfLoss 0) pres = .next t) ∧ (∃ t, exec (.tally 2 true) in3 = .next t) ∧
    (∃ t, exec (.thermWarn 2 1200) pres = .next t) ∧ (∃ t, exec (.slotDue) pres = .next t) ∧
    ∃ t, exec (.ruleLive 7) pres = .next t :=
  ⟨⟨_, rfl⟩, ⟨_, rfl⟩, ⟨_, rfl⟩, ⟨_, rfl⟩, _, rfl⟩

/-! ### Ill-formed commands are refused by the check, one for each of its tests -/

theorem test_wf_refuses : [Instr.registerWrite .host 2 15 0, .pairLowRead .sv 0x100000, .pairLowRead .host 0x102000, .coefWrite .host 0x10000 15 0, .ringEntryFetch 0 [],
    .entryRefetch 0 (List.replicate 65 0), .descriptorFetch 3 [], .rescanRead 3 [], .blockTest 2 [], .ident 0 [], .descriptorComplete 3 (List.replicate 16385 0),
    .busError 0 ⟨32, 0, [], []⟩, .busError 0 ⟨0, 0, [], [1]⟩, .registerWrite .sv 0x44 7 0, .pcieError (.request 32 false []), .pcieError (.link 4 [1]), .configWrite 2 15 0, .configWrite 4096 15 0, .doorbell 0x1FFD (leBytes 4 0), .processUpdate []].all (fun i => !i.wf) = true := by decide +kernel
theorem test_wf_refuses_more : [Instr.retuneDone 0 (List.replicate 15 0) [0, 0, 0] 0 0, .retuneDone 0 (List.replicate 16 0) [] 0 0,
    .retuneDone 0 (List.replicate 16 0) [0, 0, 0] 16 0, .retuneDone 0 (List.replicate 16 0) [0, 0, 0] 0 3,
    .driftUpdate [] (List.replicate 8 0), .driftUpdate (List.replicate 8 0) [], .mirror 0 0x4000, .conversionDone 0 4096, .isduResponse 2 0 0 (List.replicate 233 0), .uplinkFrame 0 [] ⟨List.replicate 7 0, none⟩, .uplinkFrame 0 bits16 ⟨[], none⟩, .groupShed 0 [] 0,
    .ramUncorrectable 0x40000 false [] [], .feed { fFd with data := List.replicate 65 0 }, .feed { fFd with sck := 19 }].all (fun i => !i.wf) = true := by decide +kernel
theorem test_wf_copies : copiesOk (List.replicate 0x18001 0) [] = false := by
  simp only [copiesOk, List.length_replicate]; decide
theorem test_wf_admits : [Instr.registerWrite .host 0x44 15 0, .ringEntryFetch 0 (List.replicate 64 0), .feed fFd, .bootSequence false [] [], .slewDone,
    .mirror 0 0x3FFF, .doorbell 0x1FFC (leBytes 4 0)].all Instr.wf = true := by decide +kernel
/-- The opcode table gives no row any bits: no word spells a command. -/
theorem test_no_word : decodeTableWord 32 0x5AC3 = none := rfl
/-- An empty queue with the hub die running: a tick of 4 ns (log entry 2). -/
theorem test_tick : (match step base with | .next t => t.now == 1004 && t.tick == 401 | _ => false) = true := by decide +kernel
/-- In the power-on reset of the hub die 4 ns pass, and machine time stands. -/
theorem test_reset_idle :
    (match step State.reset with | .next t => t.clock == 4 && t.now == 0 && t.tick == 0 && t.regs == [] | _ => false) = true := by decide +kernel

end Sys2Proof.Tests
end

/-! ### Fields under a lock: what no operation of the model writes (R10, R39)

`Fld.guarded` picks out the RWL fields and the lock bits (`Row.guarded_iff` below ties it to the table of rows). One lemma per
operation then says that the operation leaves every guarded field as it was; only a word's write by its access codes can change one. -/

namespace Sys2Proof.Machine

/-- Where the RWL fields and the lock bit of a unit stand: by the unit, the word's offset and the field's lowest bit. -/
@[simp] def guardedAt : U → Nat → Nat → Bool
  | .sv, o, l => o == 0x28 || (o == 0x20 && l == 31)
  | .hk, o, l => o == 0x64 || (o == 0x3C && l == 8) || (o == 0x60 && (l == 8 || l == 16))
  | .ldg, o, _ => o == 0x24 || o == 0x28
  | .fw, o, _ => o == 0x28 || o == 0x34 || o == 0x44
  | .grp _, o, l => o == 0x28 || o == 0x30 || (decide (0x48 ≤ o) && decide (o ≤ 0x50)) || (decide (0x60 ≤ o) && decide (o ≤ 0x7C)) ||
    (o == 0x80 && l == 0)
  | .ch _, o, _ => o == 0x28 || o == 0x2C || o == 0x48 || o == 0x4C || o == 0x50 || o == 0xDC
  | _, _, _ => false
/-- An RWL field, or a unit's lock bit. -/
def Fld.guarded (f : Fld) : Bool := guardedAt f.unit f.off f.lo
@[simp] theorem Fld.guarded_mk (u : U) (o l w d : Nat) : (Fld.mk u o l w d).guarded = guardedAt u o l := rfl

theorem Fld.ne_of_guarded {f g : Fld} (hf : f.guarded = true) (hg : g.guarded = false) : g ≠ f := by
  rintro rfl
  simp [hf] at hg
@[simp high] theorem Store.get_set_guarded {st : Store} {f g : Fld} (v : Nat) (hf : f.guarded = true) (hg : g.guarded = false) :
    (st.set g v).get f = st.get f := Store.get_set_ne st v (Fld.ne_of_guarded hf hg)
theorem Store.get_foldl_guarded {α : Type} {k : Store → α → Store} {f : Fld} (h : ∀ st x, (k st x).get f = st.get f) (l : List α)
    (st : Store) : (l.foldl k st).get f = st.get f := by
  induction l generalizing st with
  | nil => rfl
  | cons x t ih => rw [List.foldl_cons, ih, h]
@[simp] theorem Store.ite_get {c : Prop} [Decidable c] {a b : Store} {f : Fld} :
    (if c then a else b).get f = if c then a.get f else b.get f := by
  split <;> rfl
@[simp] theorem State.foldl_get {α : Type} {k : State → α → State} {f : Fld} {s : State}
    (h : ∀ s x, (k s x).regs.get f = s.regs.get f) (l : List α) :
    (l.foldl k s).regs.get f = s.regs.get f := State.foldl_keep (fun s => s.regs.get f) h l s
theorem Store.get_filter {st : Store} {p : Fld → Bool} {f : Fld} (h : p f = false) :
    Store.get (st.filter fun e => !p e.1) f = st.get f := by
  induction st with
  | nil => rfl
  | cons e t ih =>
    obtain ⟨k, v⟩ := e
    by_cases hk : k = f
    · subst hk; simp [h, Store.get]
    · rw [List.filter_cons]; split <;> simp [Store.get, hk, ih]
@[simp] theorem State.clearRegs_guarded {s : State} {p : Fld → Bool} {f : Fld} (h : p f = false) :
    (s.clearRegs p).regs.get f = s.regs.get f :=
  Store.get_filter h
theorem hostFld_guarded {f : Fld} (h : f.guarded = true) : hostFld f = false := by
  unfold Fld.guarded at h
  unfold hostFld
  cases hu : f.unit <;> simp_all

@[simp] theorem winState_guarded (x : Strm) (fine : Bool) : (winState x fine).guarded = false := by cases fine <;> rfl
@[simp high] theorem ldgLocalFrozen_guarded (g : Grp) : (F.LDG_LOCAL_FROZEN g).guarded = false := by revert g; decide

section
variable {s : State} {fld : Fld} (hg : fld.guarded = true)
include hg

/-! The shared operations, the Fold, machine time and the reflex engine -/

@[simp] theorem State.tally_guarded {f : Fld} {k : Nat} (hf : f.guarded = false) : (s.tally f k).regs.get fld = s.regs.get fld := by
  unfold State.tally
  simp -implicitDefEqProofs [hg, hf]
@[simp] theorem State.wrapTally_guarded {f : Fld} {k : Nat} (hf : f.guarded = false) :
    (s.wrapTally f k).regs.get fld = s.regs.get fld := by
  unfold State.wrapTally
  simp -implicitDefEqProofs [hg, hf]
@[simp] theorem State.stick_guarded {f : Fld} {v : Nat} (hf : f.guarded = false) : (s.stick f v).regs.get fld = s.regs.get fld := by
  unfold State.stick
  simp -implicitDefEqProofs [hg, hf]
@[simp] theorem State.orCause_guarded {u : U} {k : Nat} : (s.orCause u k).regs.get fld = s.regs.get fld := by
  unfold State.orCause
  exact State.stick_guarded hg (by cases u <;> rfl)
@[simp] theorem State.hwSet_guarded {f : Fld} {v : Nat} (hf : f.guarded = false) : (s.hwSet f v).regs.get fld = s.regs.get fld := by
  unfold State.hwSet
  simp -implicitDefEqProofs [hg, hf]
@[simp] theorem State.crossBlocked_guarded : s.crossBlocked.regs.get fld = s.regs.get fld := by
  unfold State.crossBlocked
  simp -implicitDefEqProofs [hg]
@[simp] theorem State.requestMsix_guarded {k : Nat} {u : Option U} : (s.requestMsix k u).regs.get fld = s.regs.get fld := by
  unfold State.requestMsix
  simp -implicitDefEqProofs [hg]
@[simp] theorem State.unitMessage_guarded {u : U} : (s.unitMessage u).regs.get fld = s.regs.get fld := by
  unfold State.unitMessage
  simp -implicitDefEqProofs [hg]
@[simp] theorem State.unitAsked_guarded {u : U} : (s.unitAsked u).regs.get fld = s.regs.get fld := by
  unfold State.unitAsked
  simp -implicitDefEqProofs [hg]
@[simp] theorem State.cause_guarded {u : U} {k : Nat} : (s.cause u k).regs.get fld = s.regs.get fld := by
  unfold State.cause
  simp -implicitDefEqProofs [hg]
@[simp] theorem State.loseNote_guarded {kind : Nat} : (s.loseNote kind).regs.get fld = s.regs.get fld := by
  unfold State.loseNote
  simp -implicitDefEqProofs [hg]
@[simp] theorem State.raise_guarded {kind : Nat} {time : Nat} {body : List Place} :
    (s.raise kind time body).regs.get fld = s.regs.get fld := by
  unfold State.raise
  simp -implicitDefEqProofs [hg]
@[simp] theorem State.notify_guarded {kind : Nat} {body : List Place} : (s.notify kind body).regs.get fld = s.regs.get fld := by
  unfold State.notify
  simp -implicitDefEqProofs [hg]
@[simp] theorem State.post_guarded {r : LRec} : (s.post r).regs.get fld = s.regs.get fld := by
  unfold State.post
  simp -implicitDefEqProofs [hg]
@[simp] theorem State.imageWrite_guarded {g : Grp} {off : Nat} {data : Nat} :
    (s.imageWrite g off data).2.regs.get fld = s.regs.get fld := by
  unfold State.imageWrite
  split <;> simp -implicitDefEqProofs [hg]
@[simp] theorem State.sendWord_guarded {u : U} {off : Nat} : (s.sendWord u off).2.regs.get fld = s.regs.get fld := by
  unfold State.sendWord
  split <;> simp -implicitDefEqProofs [hg]
@[simp] theorem State.edgeMasks_guarded : s.edgeMasks.regs.get fld = s.regs.get fld := by
  unfold State.edgeMasks
  simp -implicitDefEqProofs [hg]
@[simp] theorem State.halt_guarded {r : RingNo} {cause : Nat} : (s.halt r cause).regs.get fld = s.regs.get fld := by
  unfold State.halt
  simp -implicitDefEqProofs [hg]
@[simp] theorem State.lowWater_guarded : s.lowWater.regs.get fld = s.regs.get fld := by
  unfold State.lowWater
  simp -implicitDefEqProofs [hg]
@[simp] theorem State.setCmd_guarded {c : Ch} {on : Bool} {run : Bool} : (s.setCmd c on run).regs.get fld = s.regs.get fld := by
  unfold State.setCmd
  simp -implicitDefEqProofs [hg]
@[simp] theorem State.cmdAt_guarded {t : Nat} {c : Ch} {on : Bool} {run : Bool} : (s.cmdAt t c on run).regs.get fld = s.regs.get fld := by
  unfold State.cmdAt
  simp -implicitDefEqProofs [hg]
@[simp] theorem State.actionCmd_guarded {g : Nat} {target : Nat} {action : Nat} {param : Nat} :
    (s.actionCmd g target action param).regs.get fld = s.regs.get fld := by
  unfold State.actionCmd
  split <;> simp -implicitDefEqProofs [hg]
@[simp] theorem State.slotLate_guarded {target : Nat} {action : Nat} {t : Nat} {outcome : Nat} {where_ : Nat} {lateness : Nat} :
    (s.slotLate target action t outcome where_ lateness).regs.get fld = s.regs.get fld := by
  unfold State.slotLate
  simp -implicitDefEqProofs [hg]
@[simp] theorem State.cancelNote_guarded {l : List Slot} {chByte : Nat} {cause : Nat} {rule : Nat} :
    (s.cancelNote l chByte cause rule).regs.get fld = s.regs.get fld := by
  unfold State.cancelNote
  split <;> simp -implicitDefEqProofs [hg]
@[simp] theorem State.cancelSlots_guarded {p : Slot → Bool} {cause : Nat} {rule : Nat} :
    (s.cancelSlots p cause rule).regs.get fld = s.regs.get fld := by
  unfold State.cancelSlots
  simp -implicitDefEqProofs [hg]
@[simp] theorem State.markNote_guarded {t : Nat} {param : Nat} : (s.markNote t param).regs.get fld = s.regs.get fld := by
  unfold State.markNote
  simp -implicitDefEqProofs [hg]
@[simp] theorem State.releaseSlot_guarded {x : Slot} : (s.releaseSlot x).regs.get fld = s.regs.get fld := by
  unfold State.releaseSlot
  simp -implicitDefEqProofs [hg]
@[simp] theorem State.releaseOrWait_guarded {x : Slot} : (s.releaseOrWait x).regs.get fld = s.regs.get fld := by
  unfold State.releaseOrWait
  simp -implicitDefEqProofs [hg]
@[simp] theorem State.cancelAbsent_guarded : s.cancelAbsent.regs.get fld = s.regs.get fld := by
  unfold State.cancelAbsent
  simp -implicitDefEqProofs [hg]
@[simp] theorem State.lateSlot_guarded {x : Slot} {where_ : Nat} : (s.lateSlot x where_).regs.get fld = s.regs.get fld := by
  unfold State.lateSlot
  simp -implicitDefEqProofs [hg]
@[simp] theorem State.foldEnabled_guarded : s.foldEnabled.regs.get fld = s.regs.get fld := by
  unfold State.foldEnabled
  simp -implicitDefEqProofs [hg]
@[simp] theorem State.foldCancel_guarded {mask : Nat} : (s.foldCancel mask).regs.get fld = s.regs.get fld := by
  unfold State.foldCancel
  simp -implicitDefEqProofs [hg]
@[simp] theorem State.setPair_guarded {lo : Fld} {hi : Fld} {v : Nat} (hlo : lo.guarded = false) (hhi : hi.guarded = false) :
    (s.setPair lo hi v).regs.get fld = s.regs.get fld := by
  unfold State.setPair
  simp -implicitDefEqProofs [hg, hlo, hhi]
@[simp] theorem State.slewWritten_guarded {v : Nat} : (s.slewWritten v).regs.get fld = s.regs.get fld := by
  unfold State.slewWritten
  simp -implicitDefEqProofs [hg]
@[simp] theorem State.stepRelease_guarded : s.stepRelease.regs.get fld = s.regs.get fld := by
  unfold State.stepRelease
  split <;> simp -implicitDefEqProofs [hg]
@[simp] theorem State.stepAsked_guarded {delta : Int} {cause : Nat} : (s.stepAsked delta cause).regs.get fld = s.regs.get fld := by
  unfold State.stepAsked
  split <;> simp -implicitDefEqProofs [hg]
@[simp] theorem State.condition_guarded {lane : Grp} {x : Cond} : (s.condition lane x).regs.get fld = s.regs.get fld := by
  unfold State.condition
  simp -implicitDefEqProofs [hg]
@[simp] theorem State.cmpUnset_guarded {x : Strm} {fine : Bool} : (s.cmpUnset x fine).regs.get fld = s.regs.get fld := by
  unfold State.cmpUnset
  simp -implicitDefEqProofs [hg]
@[simp] theorem State.armWritten_guarded {r : RuleNo} : (s.armWritten r).regs.get fld = s.regs.get fld := by
  unfold State.armWritten
  simp -implicitDefEqProofs [hg]
@[simp] theorem State.busyRule_guarded : s.busyRule.regs.get fld = s.regs.get fld := by
  unfold State.busyRule
  simp -implicitDefEqProofs [hg]

/-! Channels and modes -/

@[simp] theorem State.learn_guarded {c : Ch} {x : Rat} {d : Rat} : (s.learn c x d).regs.get fld = s.regs.get fld := by
  unfold State.learn
  simp -implicitDefEqProofs [hg]
@[simp] theorem State.trend_guarded {c : Ch} {x : Rat} : (s.trend c x).regs.get fld = s.regs.get fld := by
  unfold State.trend
  simp -implicitDefEqProofs [hg]
@[simp] theorem State.strokeDecide_guarded {c : Ch} {w : Stroke} {kind : Nat} {reason : Nat} :
    (s.strokeDecide c w kind reason).regs.get fld = s.regs.get fld := by
  unfold State.strokeDecide
  simp -implicitDefEqProofs [hg]
@[simp] theorem State.strokeAbort_guarded {c : Ch} : (s.strokeAbort c).regs.get fld = s.regs.get fld := by
  unfold State.strokeAbort
  split <;> simp -implicitDefEqProofs [hg]
@[simp] theorem State.tallyBase_guarded {c : Ch} : (s.tallyBase c).regs.get fld = s.regs.get fld := by
  unfold State.tallyBase
  simp -implicitDefEqProofs [hg]
@[simp] theorem State.tickEnd_guarded : s.tickEnd.regs.get fld = s.regs.get fld := by
  unfold State.tickEnd
  simp -implicitDefEqProofs [hg]
@[simp] theorem State.govUpdate_guarded : s.govUpdate.regs.get fld = s.regs.get fld := by
  unfold State.govUpdate
  simp -implicitDefEqProofs [hg]
@[simp] theorem State.govRefused_guarded {rq : Req} {c : Ch} {new : Nat} : (s.govRefused rq c new).regs.get fld = s.regs.get fld := by
  unfold State.govRefused
  simp -implicitDefEqProofs [hg]
@[simp] theorem State.modeRefuse_guarded {c : Ch} {code : Nat} {m : Nat} : (s.modeRefuse c code m).regs.get fld = s.regs.get fld := by
  unfold State.modeRefuse
  simp -implicitDefEqProofs [hg]
@[simp] theorem State.servedUpdate_guarded {g : Grp} : (s.servedUpdate g).regs.get fld = s.regs.get fld := by
  unfold State.servedUpdate
  simp -implicitDefEqProofs [hg]
@[simp] theorem State.modeBegin_guarded {c : Ch} : (s.modeBegin c).regs.get fld = s.regs.get fld := by
  unfold State.modeBegin
  simp -implicitDefEqProofs [hg]
@[simp] theorem modeImage_guarded {st : Store} {c : Ch} {m p : Nat} : (modeImage st c m p).get fld = st.get fld := by
  unfold modeImage
  simp -implicitDefEqProofs [hg]
@[simp] theorem State.modeWrite_guarded {rq : Req} {c : Ch} {m : Nat} {p : Nat} :
    (s.modeWrite rq c m p).1.regs.get fld = s.regs.get fld := by
  unfold State.modeWrite
  simp -implicitDefEqProofs [hg]

/-! The Drover, sample chains, ports, the Ledger and health -/

@[simp] theorem State.drvTo_guarded {k : DrvNo} {st : Nat} : (s.drvTo k st).regs.get fld = s.regs.get fld := by
  unfold State.drvTo
  simp -implicitDefEqProofs [hg]
@[simp] theorem State.drvEvent_guarded {k : DrvNo} {i : Nat} : (s.drvEvent k i).regs.get fld = s.regs.get fld := by
  unfold State.drvEvent
  simp -implicitDefEqProofs [hg]
@[simp] theorem State.setCur_guarded {k : DrvNo} {a : Nat} : (s.setCur k a).regs.get fld = s.regs.get fld := by
  unfold State.setCur
  simp -implicitDefEqProofs [hg]
@[simp] theorem State.preFlag_guarded {k : DrvNo} : (s.preFlag k).regs.get fld = s.regs.get fld := by
  unfold State.preFlag
  simp -implicitDefEqProofs [hg]
@[simp] theorem State.levelShow_guarded {k : DrvNo} : (s.levelShow k).regs.get fld = s.regs.get fld := by
  unfold State.levelShow
  simp -implicitDefEqProofs [hg]
@[simp] theorem State.queueEmpty_guarded {k : DrvNo} : (s.queueEmpty k).regs.get fld = s.regs.get fld := by
  unfold State.queueEmpty
  simp -implicitDefEqProofs [hg]
@[simp] theorem State.drvDrop_guarded {k : DrvNo} : (s.drvDrop k).regs.get fld = s.regs.get fld := by
  unfold State.drvDrop
  simp -implicitDefEqProofs [hg]
@[simp] theorem State.drvHalt_guarded {k : DrvNo} {cause : Nat} {a : Nat} : (s.drvHalt k cause a).regs.get fld = s.regs.get fld := by
  unfold State.drvHalt
  simp -implicitDefEqProofs [hg]
@[simp] theorem State.drvIdle_guarded {k : DrvNo} : (s.drvIdle k).regs.get fld = s.regs.get fld := by
  unfold State.drvIdle
  simp -implicitDefEqProofs [hg]
@[simp] theorem State.drvStop_guarded {k : DrvNo} : (s.drvStop k).regs.get fld = s.regs.get fld := by
  unfold State.drvStop
  simp -implicitDefEqProofs [hg]
@[simp] theorem State.drvClear_guarded {k : DrvNo} : (s.drvClear k).regs.get fld = s.regs.get fld := by
  unfold State.drvClear
  simp -implicitDefEqProofs [hg]
@[simp] theorem State.drvRecover_guarded : s.drvRecover.regs.get fld = s.regs.get fld := by
  unfold State.drvRecover
  simp -implicitDefEqProofs [hg]
@[simp] theorem State.coefWrite_guarded {off : Nat} {v : Nat} : (s.coefWrite off v).2.regs.get fld = s.regs.get fld := by
  unfold State.coefWrite
  simp -implicitDefEqProofs [hg]
@[simp] theorem State.swapDone_guarded {x : Strm} {bank : Nat} : (s.swapDone x bank).regs.get fld = s.regs.get fld := by
  unfold State.swapDone
  simp -implicitDefEqProofs [hg]
@[simp] theorem State.dcCleared_guarded {x : Strm} : (s.dcCleared x).regs.get fld = s.regs.get fld := by
  unfold State.dcCleared
  simp -implicitDefEqProofs [hg]
@[simp] theorem State.swapAsk_guarded {x : Strm} {bank : Nat} {len : Nat} : (s.swapAsk x bank len).regs.get fld = s.regs.get fld := by
  unfold State.swapAsk
  simp -implicitDefEqProofs [hg]
@[simp] theorem State.syncReset_guarded {x : Strm} : (s.syncReset x).regs.get fld = s.regs.get fld := by
  unfold State.syncReset
  dsimp only
  (repeat' split) <;> simp -implicitDefEqProofs [hg]
@[simp] theorem State.drainPort_guarded {c : Ch} : (s.drainPort c).regs.get fld = s.regs.get fld := by
  unfold State.drainPort
  dsimp only
  (repeat' split) <;> simp -implicitDefEqProofs [hg]
@[simp] theorem State.drain5_guarded : s.drain5.regs.get fld = s.regs.get fld := by
  unfold State.drain5
  simp -implicitDefEqProofs [hg]
@[simp] theorem State.portSet_guarded {c : Ch} {st : Nat} {rs : Nat} : (s.portSet c st rs).regs.get fld = s.regs.get fld := by
  unfold State.portSet
  simp -implicitDefEqProofs [hg]
@[simp] theorem State.supplierCmd_guarded {c : Ch} {on : Bool} : (s.supplierCmd c on).regs.get fld = s.regs.get fld := by
  unfold State.supplierCmd
  split <;> simp -implicitDefEqProofs [hg]
@[simp] theorem State.portGo_guarded {c : Ch} : (s.portGo c).regs.get fld = s.regs.get fld := by
  unfold State.portGo
  split <;> simp -implicitDefEqProofs [hg]
@[simp] theorem State.powering_guarded {c : Ch} : (s.powering c).regs.get fld = s.regs.get fld := by
  unfold State.powering
  simp -implicitDefEqProofs [hg]
@[simp] theorem State.portCheck_guarded {c : Ch} : (s.portCheck c).regs.get fld = s.regs.get fld := by
  unfold State.portCheck
  simp -implicitDefEqProofs [hg]
@[simp] theorem State.portChecks_guarded {g : Grp} : (s.portChecks g).regs.get fld = s.regs.get fld := by
  unfold State.portChecks
  simp -implicitDefEqProofs [hg]
@[simp] theorem State.targetCheck_guarded {c : Ch} : (s.targetCheck c).regs.get fld = s.regs.get fld := by
  unfold State.targetCheck
  simp -implicitDefEqProofs [hg]
@[simp] theorem State.supplierOn_guarded {c : Ch} : (s.supplierOn c).regs.get fld = s.regs.get fld := by
  unfold State.supplierOn
  simp -implicitDefEqProofs [hg]
@[simp] theorem State.portBegin_guarded {c : Ch} : (s.portBegin c).regs.get fld = s.regs.get fld := by
  unfold State.portBegin
  simp -implicitDefEqProofs [hg]
@[simp] theorem State.portActive_guarded {c : Ch} : (s.portActive c).regs.get fld = s.regs.get fld := by
  unfold State.portActive
  simp -implicitDefEqProofs [hg]
@[simp] theorem State.portsPower_guarded {g : Grp} : (s.portsPower g).regs.get fld = s.regs.get fld := by
  unfold State.portsPower
  simp -implicitDefEqProofs [hg]
@[simp] theorem State.portEnd_guarded {c : Ch} : (s.portEnd c).regs.get fld = s.regs.get fld := by
  unfold State.portEnd
  simp -implicitDefEqProofs [hg]
@[simp] theorem State.takeDevice_guarded {c : Ch} : (s.takeDevice c).regs.get fld = s.regs.get fld := by
  unfold State.takeDevice
  simp -implicitDefEqProofs [hg]
@[simp] theorem State.iolCtrlWritten_guarded {c : Ch} {start : Bool} {ask : Bool} :
    (s.iolCtrlWritten c start ask).regs.get fld = s.regs.get fld := by
  unfold State.iolCtrlWritten
  simp -implicitDefEqProofs [hg]
@[simp] theorem State.pdOutMask_guarded {c : Ch} : (s.pdOutMask c).regs.get fld = s.regs.get fld := by
  unfold State.pdOutMask
  split <;> simp -implicitDefEqProofs [hg]
@[simp] theorem State.pdOutWritten_guarded {c : Ch} : (s.pdOutWritten c).regs.get fld = s.regs.get fld := by
  unfold State.pdOutWritten
  simp -implicitDefEqProofs [hg]
@[simp] theorem State.supplierWritten_guarded {d : Ch} : (s.supplierWritten d).regs.get fld = s.regs.get fld := by
  unfold State.supplierWritten
  simp -implicitDefEqProofs [hg]
@[simp] theorem State.portResumed_guarded {c : Ch} : (s.portResumed c).regs.get fld = s.regs.get fld := by
  unfold State.portResumed
  simp -implicitDefEqProofs [hg]
@[simp] theorem State.fwResumed_guarded : s.fwResumed.regs.get fld = s.regs.get fld := by
  unfold State.fwResumed
  simp -implicitDefEqProofs [hg]
@[simp] theorem State.fwHanded_guarded : s.fwHanded.regs.get fld = s.regs.get fld := by
  unfold State.fwHanded
  simp -implicitDefEqProofs [hg]
@[simp] theorem State.ldgNote_guarded {event : Nat} {code : Nat} {src : Nat} {cls : Nat} {seq : Nat} :
    (s.ldgNote event code src cls seq).regs.get fld = s.regs.get fld := by
  unfold State.ldgNote
  simp -implicitDefEqProofs [hg]
@[simp] theorem State.ldgPosted_guarded {v : Nat} : (s.ldgPosted v).regs.get fld = s.regs.get fld := by
  unfold State.ldgPosted
  simp -implicitDefEqProofs [hg]
@[simp] theorem State.unfreeze_guarded : s.unfreeze.regs.get fld = s.regs.get fld := by
  unfold State.unfreeze
  simp -implicitDefEqProofs [hg]
@[simp] theorem State.faultAck_guarded : s.faultAck.regs.get fld = s.regs.get fld := by
  unfold State.faultAck
  simp -implicitDefEqProofs [hg]
@[simp] theorem State.replan_guarded {kind : Nat} {item : Nat} {before : Nat} {after : Nat} {measure : Nat} :
    (s.replan kind item before after measure).regs.get fld = s.regs.get fld := by
  unfold State.replan
  simp -implicitDefEqProofs [hg]
@[simp] theorem State.vidCeiling_guarded : s.vidCeiling.regs.get fld = s.regs.get fld := by
  unfold State.vidCeiling
  simp -implicitDefEqProofs [hg]
@[simp] theorem State.runEnd_guarded : s.runEnd.regs.get fld = s.regs.get fld := by
  unfold State.runEnd
  simp -implicitDefEqProofs [hg]
@[simp] theorem State.vidNow_guarded : s.vidNow.regs.get fld = s.regs.get fld := by
  unfold State.vidNow
  (repeat' split) <;> simp -implicitDefEqProofs [hg]
@[simp] theorem State.vidRaise_guarded {hw : Bool} : (s.vidRaise hw).regs.get fld = s.regs.get fld := by
  unfold State.vidRaise
  simp -implicitDefEqProofs [hg]
@[simp] theorem State.vidTick_guarded : s.vidTick.regs.get fld = s.regs.get fld := by
  unfold State.vidTick
  simp -implicitDefEqProofs [hg]
@[simp] theorem State.retuneStart_guarded {g : Grp} : (s.retuneStart g).regs.get fld = s.regs.get fld := by
  unfold State.retuneStart
  simp -implicitDefEqProofs [hg]
@[simp] theorem State.reduceWritten_guarded {rq : Req} {g : Grp} {hi : Bool} {be : Fin 16} {old : List Nat} :
    (s.reduceWritten rq g hi be old).regs.get fld = s.regs.get fld := by
  unfold State.reduceWritten
  simp -implicitDefEqProofs [hg]
@[simp] theorem State.cmdsShow_guarded : s.cmdsShow.regs.get fld = s.regs.get fld := by
  unfold State.cmdsShow
  simp -implicitDefEqProofs [hg]
@[simp] theorem State.cmdsFinish_guarded : s.cmdsFinish.regs.get fld = s.regs.get fld := by
  unfold State.cmdsFinish
  simp -implicitDefEqProofs [hg]
@[simp] theorem State.itemsSet_guarded {p : Item → Bool} {status : Nat} : (s.itemsSet p status).regs.get fld = s.regs.get fld := by
  unfold State.itemsSet
  simp -implicitDefEqProofs [hg]

/-! The Staed links -/

@[simp] theorem State.grpReport_guarded {g : Grp} {old : Nat} {cls : Nat} : (s.grpReport g old cls).regs.get fld = s.regs.get fld := by
  unfold State.grpReport
  simp -implicitDefEqProofs [hg]
@[simp] theorem State.slotLost_guarded {x : TxCmd} : (s.slotLost x).regs.get fld = s.regs.get fld := by
  unfold State.slotLost
  split <;> simp -implicitDefEqProofs [hg]
@[simp] theorem State.txLost_guarded {x : TxCmd} : (s.txLost x).regs.get fld = s.regs.get fld := by
  unfold State.txLost
  split <;> simp -implicitDefEqProofs [hg]
@[simp] theorem State.dropTx_guarded {g : Grp} : (s.dropTx g).regs.get fld = s.regs.get fld := by
  unfold State.dropTx
  simp -implicitDefEqProofs [hg]
@[simp] theorem State.setGrpState_guarded {g : Grp} {st : Nat} : (s.setGrpState g st).regs.get fld = s.regs.get fld := by
  unfold State.setGrpState
  simp -implicitDefEqProofs [hg]
@[simp] theorem State.drefClear_guarded {c : Ch} : (s.drefClear c).regs.get fld = s.regs.get fld := by
  unfold State.drefClear
  simp -implicitDefEqProofs [hg]
@[simp] theorem State.grpCtrl_guarded {g : Grp} {v : Nat} : (s.grpCtrl g v).regs.get fld = s.regs.get fld := by
  unfold State.grpCtrl
  simp -implicitDefEqProofs [hg]

/-! Rings, the controller, resets and the arbiter -/

@[simp] theorem State.ringUp_guarded {r : RingNo} : (s.ringUp r).regs.get fld = s.regs.get fld := by
  unfold State.ringUp
  simp -implicitDefEqProofs [hg]
@[simp] theorem State.ringDown_guarded {r : RingNo} : (s.ringDown r).regs.get fld = s.regs.get fld := by
  unfold State.ringDown
  simp -implicitDefEqProofs [hg]
@[simp] theorem State.ringResume_guarded {r : RingNo} : (s.ringResume r).regs.get fld = s.regs.get fld := by
  unfold State.ringResume
  simp -implicitDefEqProofs [hg]
@[simp] theorem State.ramWrite_guarded {a : Nat} {v : Nat} : (s.ramWrite a v).2.regs.get fld = s.regs.get fld := by
  unfold State.ramWrite
  simp -implicitDefEqProofs [hg]
@[simp] theorem State.ramStep_guarded : s.ramStep.regs.get fld = s.regs.get fld := by
  unfold State.ramStep
  simp -implicitDefEqProofs [hg]
@[simp] theorem State.fwTo_guarded {st : Nat} : (s.fwTo st).regs.get fld = s.regs.get fld := by
  unfold State.fwTo
  simp -implicitDefEqProofs [hg]
@[simp] theorem State.fwStart_guarded {slot : Nat} {src : Nat} : (s.fwStart slot src).regs.get fld = s.regs.get fld := by
  unfold State.fwStart
  simp -implicitDefEqProofs [hg]
@[simp] theorem State.fwVerify_guarded : s.fwVerify.regs.get fld = s.regs.get fld := by
  unfold State.fwVerify
  simp -implicitDefEqProofs [hg]
@[simp] theorem State.fwActivate_guarded : s.fwActivate.regs.get fld = s.regs.get fld := by
  unfold State.fwActivate
  simp -implicitDefEqProofs [hg]
@[simp] theorem State.fwHold_guarded : s.fwHold.2.regs.get fld = s.regs.get fld := by
  unfold State.fwHold
  simp -implicitDefEqProofs [hg]
@[simp] theorem State.fwRestart_guarded : s.fwRestart.regs.get fld = s.regs.get fld := by
  unfold State.fwRestart
  simp -implicitDefEqProofs [hg]
@[simp] theorem State.fwStop_guarded : s.fwStop.regs.get fld = s.regs.get fld := by
  unfold State.fwStop
  simp -implicitDefEqProofs [hg]
@[simp] theorem State.fwCtrl_guarded {v : Nat} : (s.fwCtrl v).regs.get fld = s.regs.get fld := by
  unfold State.fwCtrl
  simp -implicitDefEqProofs [hg]
@[simp] theorem State.hostReset_guarded : s.hostReset.regs.get fld = s.regs.get fld := by
  unfold State.hostReset
  simp -implicitDefEqProofs [hg, hostFld_guarded]
@[simp] theorem State.linkLost_guarded : s.linkLost.regs.get fld = s.regs.get fld := by
  unfold State.linkLost
  simp -implicitDefEqProofs [hg]
@[simp] theorem State.softReset_guarded : s.softReset.regs.get fld = s.regs.get fld := by
  unfold State.softReset
  simp -implicitDefEqProofs [hg]
@[simp] theorem State.logError_guarded {unc : Bool} {fatal : Bool} {adv : Bool} {k : Nat} {hdr : List Nat} :
    (s.logError unc fatal adv k hdr).regs.get fld = s.regs.get fld := by
  have herr : (if unc = true then F.HL_ERR_TALLY_A_UNCORRECTABLE else F.HL_ERR_TALLY_A_CORRECTABLE).guarded = false := by cases unc <;> rfl
  unfold State.logError
  simp -implicitDefEqProofs [hg, herr]
@[simp] theorem State.ckBack_guarded {k : DrvNo} : (s.ckBack k).regs.get fld = s.regs.get fld := by
  unfold State.ckBack
  (repeat' split) <;> simp -implicitDefEqProofs [hg]
@[simp] theorem State.drvFatalOne_guarded {k : DrvNo} : (s.drvFatalOne k).regs.get fld = s.regs.get fld := by
  unfold State.drvFatalOne
  simp -implicitDefEqProofs [hg]
@[simp] theorem State.drvFatal_guarded : s.drvFatal.regs.get fld = s.regs.get fld := by
  unfold State.drvFatal
  refine (State.foldl_keep (fun s => s.regs.get fld) (fun s k => ?_) _ _).trans ?_
  · exact State.drvFatalOne_guarded hg
  · rfl
@[simp] theorem State.fatalError_guarded : s.fatalError.regs.get fld = s.regs.get fld := by
  unfold State.fatalError
  simp -implicitDefEqProofs [hg]
@[simp] theorem State.uncError_guarded {k : Nat} {adv : Bool} {hdr : List Nat} :
    (s.uncError k adv hdr).regs.get fld = s.regs.get fld := by
  unfold State.uncError
  simp -implicitDefEqProofs [hg]
@[simp] theorem State.unsupported_guarded {nonPosted : Bool} : (s.unsupported nonPosted).regs.get fld = s.regs.get fld := by
  unfold State.unsupported
  dsimp only
  rw [State.uncError_guarded hg]
  exact State.foldl_snd_keep (fun s => s.regs.get fld) (fun _ _ => by simp) _ _
@[simp] theorem State.reqBlocked_guarded : s.reqBlocked.regs.get fld = s.regs.get fld := by
  unfold State.reqBlocked
  simp -implicitDefEqProofs [hg]
@[simp] theorem State.restartsLost_guarded {g : Grp} : (s.restartsLost g).regs.get fld = s.regs.get fld := by
  unfold State.restartsLost
  simp -implicitDefEqProofs [hg]
@[simp] theorem State.hubResetBegin_guarded {cause : Nat} {r : LRec} : (s.hubResetBegin cause r).regs.get fld = s.regs.get fld := by
  unfold State.hubResetBegin
  simp -implicitDefEqProofs [hg]
@[simp] theorem State.rootReset_guarded {v : Nat} : (s.rootReset v).regs.get fld = s.regs.get fld := by
  unfold State.rootReset
  simp -implicitDefEqProofs [hg]
@[simp] theorem State.unmapped_guarded : s.unmapped.regs.get fld = s.regs.get fld := by
  unfold State.unmapped
  simp -implicitDefEqProofs [hg]
@[simp] theorem State.lockedWrite_guarded : s.lockedWrite.regs.get fld = s.regs.get fld := by
  unfold State.lockedWrite
  simp -implicitDefEqProofs [hg]
@[simp] theorem State.hoDiscard_guarded {addr : Nat} : (s.hoDiscard addr).regs.get fld = s.regs.get fld := by
  unfold State.hoDiscard
  simp -implicitDefEqProofs [hg]
@[simp] theorem State.filtered_guarded : s.filtered.regs.get fld = s.regs.get fld := by
  unfold State.filtered
  simp -implicitDefEqProofs [hg]
@[simp] theorem State.fwRefuse_guarded {u : U} {off : Nat} {addr : Nat} {be : Fin 16} :
    (s.fwRefuse u off addr be).regs.get fld = s.regs.get fld := by
  unfold State.fwRefuse
  simp -implicitDefEqProofs [hg]
@[simp] theorem State.drvBusyWrite_guarded {k : DrvNo} : (s.drvBusyWrite k).regs.get fld = s.regs.get fld := by
  unfold State.drvBusyWrite
  simp -implicitDefEqProofs [hg]
@[simp] theorem State.ckBusyWrite_guarded {u : CkNo} : (s.ckBusyWrite u).regs.get fld = s.regs.get fld := by
  unfold State.ckBusyWrite
  simp -implicitDefEqProofs [hg]
@[simp] theorem State.ckAbandon_guarded {u : CkNo} : (s.ckAbandon u).regs.get fld = s.regs.get fld := by
  unfold State.ckAbandon
  simp -implicitDefEqProofs [hg]
@[simp] theorem State.imageSent_guarded {u : U} {off : Nat} : (s.imageSent u off).1.regs.get fld = s.regs.get fld := by
  unfold State.imageSent
  split <;> simp -implicitDefEqProofs [hg]
@[simp] theorem State.bitsSent_guarded {g : Grp} {off : Nat} {x : Nat} : (s.bitsSent g off x).1.regs.get fld = s.regs.get fld := by
  unfold State.bitsSent
  simp -implicitDefEqProofs [hg]
@[simp] theorem State.chDone_guarded {s0 : State} {rq : Req} {c : Ch} {off : Nat} {be : Fin 16} {x : Nat} :
    (s.chDone s0 rq c off be x).1.regs.get fld = s.regs.get fld := by
  unfold State.chDone
  simp -implicitDefEqProofs [hg]
@[simp] theorem State.grpDone_guarded {s0 : State} {rq : Req} {g : Grp} {off : Nat} {be : Fin 16} {x : Nat} :
    (s.grpDone s0 rq g off be x).1.regs.get fld = s.regs.get fld := by
  unfold State.grpDone
  simp -implicitDefEqProofs [hg]
@[simp] theorem State.chainDone_guarded {s0 : State} {k : Strm} {off : Nat} {x : Nat} :
    (s.chainDone s0 k off x).regs.get fld = s.regs.get fld := by
  unfold State.chainDone
  simp -implicitDefEqProofs [hg]
@[simp] theorem State.ringCfg_guarded {r : RingNo} {m : Nat} {x : Nat} : (s.ringCfg r m x).regs.get fld = s.regs.get fld := by
  unfold State.ringCfg
  simp -implicitDefEqProofs [hg]
@[simp] theorem State.fwKick_guarded : s.fwKick.regs.get fld = s.regs.get fld := by
  unfold State.fwKick
  simp -implicitDefEqProofs [hg]
@[simp] theorem State.wordDone_guarded {s0 : State} {rq : Req} {u : U} {off : Nat} {be : Fin 16} {x : Nat} :
    (s.wordDone s0 rq u off be x).1.regs.get fld = s.regs.get fld := by
  unfold State.wordDone
  (repeat' split) <;> simp -implicitDefEqProofs [hg]
@[simp] theorem State.hostDiscard_guarded : s.hostDiscard.regs.get fld = s.regs.get fld := by
  unfold State.hostDiscard
  simp -implicitDefEqProofs [hg]
end

end Sys2Proof.Machine

/-! ### Writes to a locked unit (R10, R39) -/

namespace Sys2Proof.Machine

/-- The row of a unit's lock bit (R39). -/
def U.lockRow : U → Option Row
  | .sv | .ldg => some ⟨0x28, 0, 1, 0, .rw, true⟩
  | .hk => some ⟨0x64, 0, 1, 0, .rw, true⟩
  | .fw => some ⟨0x44, 0, 1, 0, .rw, true⟩
  | .grp _ => some ⟨0x30, 0, 1, 0, .rw, true⟩
  | .ch _ => some ⟨0x2C, 0, 1, 0, .rw, true⟩
  | _ => none
theorem lockFld_eq (u : U) : lockFld u = u.lockRow.map (·.fld u) := by cases u <;> rfl

theorem lockRow_acc {u : U} {r : Row} (h : u.lockRow = some r) : r.acc = .rw ∧ r.w = 1 := by
  cases u <;> simp only [U.lockRow, Option.some.injEq, reduceCtorEq] at h <;> subst h <;> exact ⟨rfl, rfl⟩

set_option maxRecDepth 4000 in
/-- The table of rows and `guardedAt` agree: the guarded fields are the RWL fields and the lock bits. -/
theorem layout_guarded (u : U) :
    ((layout u).all fun r => guardedAt u r.off r.lo == (r.acc == .rwl || u.lockRow == some r)) = true := by
  cases u with
  | ckU u => simp only [layout]; split <;> rfl
  | _ => rfl

theorem Row.guarded_iff {u : U} {r : Row} (h : r ∈ layout u) : (r.fld u).guarded = true ↔ r.acc = .rwl ∨ u.lockRow = some r := by
  have := List.all_eq_true.mp (layout_guarded u) r h
  rw [show (r.fld u).guarded = guardedAt u r.off r.lo from rfl, beq_iff_eq.mp this]
  simp

theorem lockFld_guarded {u : U} {f : Fld} (h : lockFld u = some f) : f.guarded = true := by
  cases u <;> simp only [lockFld, Option.some.injEq, reduceCtorEq] at h <;> subst h <;> rfl
theorem lockFld_unit {u : U} {f : Fld} (h : lockFld u = some f) : f.unit = u := by
  cases u <;> simp only [lockFld, Option.some.injEq, reduceCtorEq] at h <;> subst h <;> rfl
theorem lockFld_width {u : U} {f : Fld} (h : lockFld u = some f) : f.w = 1 := by
  cases u <;> simp only [lockFld, Option.some.injEq, reduceCtorEq] at h <;> subst h <;> rfl

/-- What a write keeps of a field: its unit is locked, and it holds a value within its width. -/
def State.frozen (s : State) (f : Fld) : Prop := s.unitLocked f.unit = true ∧ s.reg f < 2 ^ f.w

theorem Store.wf_get_lt {st : Store} (h : st.wf = true) (f : Fld) : st.get f < 2 ^ f.w ∨ st.get f = f.dflt := by
  induction st with
  | nil => exact .inr rfl
  | cons e t ih =>
    obtain ⟨k, v⟩ := e
    simp only [Store.wf, Bool.and_eq_true, decide_eq_true_eq] at h
    by_cases hk : k = f
    · subst hk; exact .inl (by simpa [Store.get] using h.1.1.1)
    · simpa [Store.get, hk] using ih h.2

set_option maxRecDepth 4000 in
/-- Every field's default fits its width. -/
theorem layout_dflt (u : U) : ((layout u).all fun r => decide (r.dflt < 2 ^ r.w)) = true := by
  cases u with
  | ckU u => simp only [layout]; split <;> rfl
  | _ => rfl
/-- A row of a canonical state holds a value within its width. -/
theorem State.Canon.reg_lt {s : State} (hs : s.Canon) {u : U} {r : Row} (hr : r ∈ layout u) : s.reg (r.fld u) < 2 ^ r.w := by
  obtain h | h := Store.wf_get_lt hs.regs (r.fld u)
  · exact h
  · rw [State.reg, h]
    exact of_decide_eq_true (List.all_eq_true.mp (layout_dflt u) r hr)

theorem State.unitLocked_congr {s t : State} (h : ∀ g : Fld, g.guarded = true → t.regs.get g = s.regs.get g) (u : U) :
    t.unitLocked u = s.unitLocked u := by
  unfold State.unitLocked
  cases hl : lockFld u with
  | none => rfl
  | some l => simp only [State.on, State.reg, h l (lockFld_guarded hl)]

theorem State.frozen_congr {s t : State} {f : Fld} (hg : f.guarded = true)
    (h : ∀ g : Fld, g.guarded = true → t.regs.get g = s.regs.get g) :
    s.frozen f → t.frozen f := fun ⟨hl, hw⟩ => ⟨(State.unitLocked_congr h _).trans hl, by rw [State.reg, h f hg]; exact hw⟩

/-- A lock bit that is set is stored as 1, whatever is written (R39). -/
theorem storedAs_lock {u : U} {r : Row} (h : u.lockRow = some r) {v : Nat} (hv : v < 2) : storedAs u r 1 v = 1 := by
  have hf : lockFld u = some (r.fld u) := by rw [lockFld_eq, h]; rfl
  have hroot : u ≠ .root := by rintro rfl; simp [U.lockRow] at h
  have hcnt : r.fld u ≠ F.SK_BASE_COUNT ⟨u.idx % 32, by omega⟩ := (Fld.ne_of_guarded (lockFld_guarded hf) rfl).symm
  simp only [storedAs, hroot, hcnt, hf, false_and, if_false, if_true]
  omega

/-- A write leaves a guarded field of a locked unit at its value: an RWL field is not written, and a lock bit stays 1. -/
theorem State.rowWrite_locked {s : State} {rq : Req} {u : U} {r : Row} {be : Fin 16} {v : Nat} (hr : r ∈ layout u)
    (hg : (r.fld u).guarded = true) (hl : s.unitLocked u = true) : (s.rowWrite rq u r be v).1 = s.reg (r.fld u) := by
  unfold State.rowWrite
  obtain hacc | hlock := (Row.guarded_iff hr).mp hg
  · simp only [hacc, hl, if_true]
    (repeat' split) <;> rfl
  · have hf : lockFld u = some (r.fld u) := by rw [lockFld_eq, hlock]; rfl
    have hone : s.reg (r.fld u) = 1 := by simpa [State.unitLocked, hf, State.on] using hl
    obtain ⟨hacc, hw⟩ : r.acc = .rw ∧ r.w = 1 := lockRow_acc hlock
    have hm : storedAs u r 1 (merge be (1 * 2 ^ r.lo) v / 2 ^ r.lo % 2 ^ r.w) = 1 :=
      storedAs_lock hlock (by rw [hw]; exact Nat.mod_lt _ (by norm_num))
    simp only [hone, hacc, hm]
    (repeat' split) <;> rfl

/-- A word's write by its access codes leaves a guarded field as it was, when the field's unit is locked or is another one. -/
theorem State.rowsWrite_guarded {s : State} {rq : Req} {u : U} {off : Nat} {be : Fin 16} {v : Nat} {f : Fld} (hg : f.guarded = true)
    (h : f.unit = u → s.frozen f) : (s.rowsWrite rq u off be v).get f = s.regs.get f := by
  have key : ∀ l : List Row, (∀ r ∈ l, r ∈ layout u) → ∀ st : Store, st.get f = s.regs.get f →
      (l.foldl (fun st r => st.set (r.fld u) (s.rowWrite rq u r be v).1) st).get f = s.regs.get f := by
    intro l
    induction l with
    | nil => exact fun _ _ h => h
    | cons r t ih =>
      intro hl st hst
      refine ih (fun r hr => hl r (List.mem_cons_of_mem _ hr)) _ ?_
      by_cases hf : r.fld u = f
      · subst hf
        obtain ⟨hlock, hw⟩ := h rfl
        rw [Store.get_set_same, State.rowWrite_locked (hl r (List.mem_cons_self ..)) hg hlock, Nat.mod_eq_of_lt hw]; rfl
      · rw [Store.get_set_ne _ _ hf, hst]
  exact key _ (fun r hr => (List.mem_filter.mp hr).1) _ rfl

section
variable {s : State} {f : Fld} (hg : f.guarded = true)
include hg

theorem State.wordHeld_guarded {u : U} {off new : Nat} {p : State × WRes} (h : s.wordHeld u off new = some p) :
    p.1.regs.get f = s.regs.get f := by
  unfold State.wordHeld at h
  (repeat' split at h) <;> simp at h <;> subst h <;> simp [hg]
theorem State.wordOwn_guarded {rq : Req} {u : U} {off : Nat} {be : Fin 16} {v : Nat} {p : State × WRes}
    (h : s.wordOwn rq u off be v = some p) : p.1.regs.get f = s.regs.get f := by
  unfold State.wordOwn at h
  dsimp only at h
  (repeat' split at h) <;> simp at h <;> subst h <;> simp [hg]
theorem State.pairHeld_guarded {u : U} {lo : Nat} {p : State × WRes} (h : s.pairHeld u lo = some p) :
    p.1.regs.get f = s.regs.get f := by
  unfold State.pairHeld at h
  (repeat' split at h) <;> simp at h <;> subst h <;> simp [hg]
omit hg in
theorem storeWord_other {st : Store} {u : U} {off v : Nat} (h : f.unit ≠ u) : (storeWord st u off v).get f = st.get f :=
  Store.get_foldl_guarded (fun st r => Store.get_set_ne st _ (by rintro rfl; exact h rfl)) _ _
theorem State.pairWrite_guarded {u : U} {lo high : Nat} {low : Option Nat} (h : f.unit ≠ u) :
    (s.pairWrite u lo low high).1.regs.get f = s.regs.get f := by
  unfold State.pairWrite
  split
  · next p hp => exact State.pairHeld_guarded hg hp
  · dsimp only
    (repeat' split) <;> simp [hg, storeWord_other h]
omit hg in
theorem writePairs_of_guarded (hg : f.guarded = true) : writePairs f.unit = [] := by
  unfold Fld.guarded at hg
  cases hu : f.unit <;> simp_all [writePairs]

theorem State.oneWrite_guarded {rq : Req} {u : U} {off addr : Nat} {be : Fin 16} {v : Nat} (h : f.unit = u → s.frozen f) :
    (s.oneWrite rq u off addr be v).1.regs.get f = s.regs.get f := by
  unfold State.oneWrite
  split
  · next p hp => exact State.wordHeld_guarded hg hp
  · split
    · next p hp => exact State.wordOwn_guarded hg hp
    · extract_lets rows ho lock s1 s2 st over_ p
      have hs2 (g : Fld) (hg : g.guarded = true) : s2.regs.get g = s.regs.get g := by
        simp -implicitDefEqProofs only [s2, s1]
        (repeat' split) <;> simp -implicitDefEqProofs [hg]
      have hst : st.get f = s.regs.get f :=
        (State.rowsWrite_guarded hg fun hu => State.frozen_congr hg hs2 (h hu)).trans (hs2 f hg)
      split
      · exact hs2 f hg
      · split
        · exact hs2 f hg
        · split
          · exact (State.govRefused_guarded hg).trans (hs2 f hg)
          · exact (State.wordDone_guarded hg).trans hst
theorem State.unitWrite_guarded {rq : Req} {u : U} {off addr : Nat} {be : Fin 16} {v : Nat} (h : f.unit = u → s.frozen f) :
    (s.unitWrite rq u off addr be v).1.regs.get f = s.regs.get f := by
  unfold State.unitWrite
  dsimp only
  split
  · simp [hg]
  split
  · split
    · next p hp => exact State.pairHeld_guarded hg hp
    · simp
  split
  · next hp =>
    have hu : f.unit ≠ u := by rintro rfl; simp [writePairs_of_guarded hg] at hp
    (repeat' split) <;> simp [State.pairWrite_guarded hg hu]
  split
  · next c =>
    split
    · refine (State.oneWrite_guarded hg fun hu => State.frozen_congr hg (fun g hg => State.tallyBase_guarded hg) (h hu)).trans ?_
      exact State.tallyBase_guarded hg
    · exact State.oneWrite_guarded hg h
  · exact State.oneWrite_guarded hg h
/-- A write leaves a guarded field as it was, when the field's unit is locked or the word written is one of another unit. -/
theorem State.writeWord_guarded {rq : Req} {addr : Nat} {be : Fin 16} {v : Nat}
    (h : ∀ o, spotAt (addr / 4 * 4) = .word f.unit o → s.frozen f) : (s.writeWord rq addr be v).1.regs.get f = s.regs.get f := by
  unfold State.writeWord
  dsimp only
  split
  · (repeat' split) <;> simp [hg]
  · (repeat' split) <;> simp [hg]
  · (repeat' split) <;> simp [hg]
  · (repeat' split) <;> simp [hg]
  · next u o hspot =>
    split
    · rfl
    · exact State.unitWrite_guarded hg fun hu => h o (hu ▸ hspot)
theorem State.writeBy_guarded {rq : Req} {addr : Nat} {be : Fin 16} {v : Nat}
    (h : ∀ o, spotAt (addr / 4 * 4) = .word f.unit o → s.frozen f) : (s.writeBy rq addr be v).regs.get f = s.regs.get f := by
  unfold State.writeBy
  (repeat' split)
  · rfl
  · simp [hg]
  · exact State.writeWord_guarded hg h
theorem State.hostAccess_guarded {q : HostReq} {k : State → State} (h : (k s).regs.get f = s.regs.get f) :
    (s.hostAccess q k).regs.get f = s.regs.get f := by
  unfold State.hostAccess
  (repeat' split) <;> simp [hg, h]
theorem onBus_guarded {rq : Req} {q : HostReq} {k : State → State} {t : State} (h : (k s).regs.get f = s.regs.get f)
    (ht : onBus rq q k s = .next t) : t.reg f = s.reg f := by
  simp only [onBus, Host.Outcome.next.injEq] at ht
  subst ht
  (repeat' split)
  · exact State.hostAccess_guarded hg h
  · exact h
  · rfl
end

end Sys2Proof.Machine

namespace Sys2Proof
open Machine
/-- Settles O38: every write passes through `State.writeBy`, which keeps a guarded field of a locked unit at its value. The state is
canonical, so the value fits the field and storing it again changes nothing. -/
theorem lockedFieldsHold : Obligations.LockedFieldsHold := by
  unfold Obligations.LockedFieldsHold
  intro s rq o be v u l hs hl hon
  obtain ⟨t, ht⟩ : ∃ t, exec (.registerWrite rq o be v) s = .next t := ⟨_, rfl⟩
  have keep (f : Fld) (hu : f.unit = u) (hg : f.guarded = true) (hw : s.reg f < 2 ^ f.w) : t.reg f = s.reg f :=
    onBus_guarded hg (State.writeBy_guarded hg fun _ _ => ⟨by simp [hu, State.unitLocked, hl, hon], hw⟩) ht
  have hlock : s.reg l = 1 := by simpa [State.on] using hon
  refine ⟨t, ht, ?_, fun r hr hacc => keep _ rfl ((Row.guarded_iff hr).mpr (.inl hacc)) (hs.reg_lt hr)⟩
  · rw [State.on, keep l (lockFld_unit hl) (lockFld_guarded hl) (by rw [hlock, lockFld_width hl]; norm_num), hlock]; rfl

/-- Settles O57: both resets are chains of operations that write no guarded field (the soft reset is itself a write of the root's
unit, which has neither a lock bit nor an RWL field), and neither touches a group die. -/
theorem hostResetsKeepLocks : Obligations.HostResetsKeepLocks := by
  unfold Obligations.HostResetsKeepLocks
  intro s rq be v _ i hi
  have locks (t : State) (h : ∀ f : Fld, f.guarded = true → t.reg f = s.reg f) (u : U) :
      (∀ f, lockFld u = some f → t.reg f = s.reg f) ∧ ∀ r ∈ layout u, r.acc = .rwl → t.reg (r.fld u) = s.reg (r.fld u) :=
    ⟨fun f hf => h f (lockFld_guarded hf), fun r hr hacc => h _ ((Row.guarded_iff hr).mpr (.inl hacc))⟩
  simp only [List.mem_cons, List.not_mem_nil, or_false] at hi
  obtain rfl | rfl := hi
  · refine ⟨_, rfl, by simp, locks _ fun f hg => ?_⟩
    simp only [State.reg, State.cfgClear_frame]
    exact State.linkLost_guarded hg
  · refine ⟨_, rfl, ?_, locks _ fun f hg => onBus_guarded hg (State.writeBy_guarded hg fun o ho => ?_) rfl⟩
    · rw [State.ite_die, State.ite_die, State.hostAccess_die fun _ => State.writeBy_frame.2.1, State.writeBy_frame.2.1, ite_self, ite_self]
    · have hu : U.root = f.unit := (Spot.word.inj ho).1
      exact absurd hg (by simp [Fld.guarded, ← hu])
end Sys2Proof

/-! ### What a command of one side of the Staed links leaves of the other (R15, R17, R43) -/

namespace Sys2Proof.Machine

/-- A command leaves a state in a relation to the one it met. -/
def Keeps (R : State → State → Prop) (i : Instr) : Prop := ∀ s t, exec i s = .next t → R s t

section
variable {R : State → State → Prop} {i : Instr} {g : Grp} {k : State → State}

theorem keeps_next (hi : ∀ s, exec i s = .next (k s)) (h : ∀ s, R s (k s)) : Keeps R i := by
  intro s t ht
  rw [hi, Host.Outcome.next.injEq] at ht
  exact ht ▸ h s
theorem ite_keeps (hR : ∀ s, R s s) {c : Prop} [Decidable c] {s t : State} (h : R s t) :
    R s (if c then t else s) := by
  split
  · exact h
  · exact hR s
theorem keeps_onDie (hR : ∀ s, R s s) (hi : ∀ s, exec i s = onDie g k s) (h : ∀ s, R s (k s)) : Keeps R i :=
  keeps_next hi fun s => ite_keeps hR (h s)
theorem keeps_onHub (hR : ∀ s, R s s) (hi : ∀ s, exec i s = onHub k s) (h : ∀ s, R s (k s)) : Keeps R i :=
  keeps_next hi fun s => ite_keeps hR (h s)
end

/-- Everything that the hub die holds is the same in two states. -/
def State.sameHub (s t : State) : Prop :=
  t.regs = s.regs ∧ t.hid = s.hid ∧ t.hub = s.hub ∧ t.host = s.host ∧ t.links = s.links ∧ t.chains = s.chains ∧ t.coef = s.coef ∧
  t.fold = s.fold ∧ t.rfx = s.rfx ∧ t.drv = s.drv ∧ t.ck = s.ck ∧ t.sv = s.sv ∧ t.fw = s.fw ∧ t.hk = s.hk ∧ t.ldg = s.ldg
/-- What the hub die holds beside its registers, the host interface and the reflex engine is the same in two states. -/
def State.sameCore (s t : State) : Prop :=
  t.hid = s.hid ∧ t.hub = s.hub ∧ t.links = s.links ∧ t.chains = s.chains ∧ t.coef = s.coef ∧ t.fold = s.fold ∧ t.drv = s.drv ∧
  t.ck = s.ck ∧ t.sv = s.sv ∧ t.fw = s.fw ∧ t.hk = s.hk ∧ t.ldg = s.ldg
/-- What the group dies hold and the hidden mirrors are the same in two states. -/
def State.sameDies (s t : State) : Prop := t.die = s.die ∧ t.hid = s.hid ∧ t.dies = s.dies

theorem State.sameHub.refl (s : State) : s.sameHub s := by simp [State.sameHub]
theorem State.sameHub.trans {s t u : State} (h : s.sameHub t) (h2 : t.sameHub u) : s.sameHub u := by
  simp only [State.sameHub] at *
  simp [*]
theorem State.sameDies.refl (s : State) : s.sameDies s := by simp [State.sameDies]
theorem State.sameDies.trans {s t u : State} (h : s.sameDies t) (h2 : t.sameDies u) : s.sameDies u := by
  simp only [State.sameDies] at *
  simp [*]
theorem State.foldl_sameDies {α : Type} {k : State → α → State} (h : ∀ (s : State) x, s.sameDies (k s x))
    (l : List α) (s : State) :
    s.sameDies (l.foldl k s) := by
  induction l generalizing s with
  | nil => exact State.sameDies.refl s
  | cons x l ih => exact (h s x).trans (ih _)

/-! Commands of a group die that branch on what the die or a channel holds -/

theorem keepsHub_conversionDone (g : Grp) (n : Nat) : Keeps State.sameHub (.conversionDone g n) :=
  keeps_onDie State.sameHub.refl (fun _ => rfl) fun s => by dsimp only; (repeat' split) <;> simp [State.sameHub]
theorem keepsHub_offCheckPhase (c : Ch) (b : Bool) (o : Option CrossSeen) : Keeps State.sameHub (.offCheckPhase c b o) :=
  keeps_onDie State.sameHub.refl (fun _ => rfl) fun s => by (repeat' split) <;> simp [State.sameHub]
theorem keepsHub_olWindowExpiry (c : Ch) : Keeps State.sameHub (.olWindowExpiry c) :=
  keeps_onDie State.sameHub.refl (fun _ => rfl) fun s => by split <;> simp [State.sameHub]
theorem keepsHub_pairImbalance (c : Ch) : Keeps State.sameHub (.pairImbalance c) :=
  keeps_onDie State.sameHub.refl (fun _ => rfl) fun s => by split <;> simp [State.sameHub]
theorem keepsDies_crossingTimeout (c : Ch) : Keeps State.sameDies (.crossingTimeout c) :=
  keeps_onDie State.sameDies.refl (fun _ => rfl) fun s => by split <;> simp [State.sameDies]

/-! Commands taken from a die's inbox -/

/-- The head of what has come to a die is taken without a change at the hub die, when its effect makes none. -/
theorem State.dlHead_sameHub {s : State} {g : Grp} {kind : Nat} {k : State → TxCmd → State} (h : ∀ (s : State) x, s.sameHub (k s x)) :
    s.sameHub (s.dlHead g kind k) := by
  have hupd (s : State) (k : Die → Die) : s.sameHub (s.updDie g k) := by simp [State.sameHub]
  have hheads (s : State) : s.sameHub (s.takeHeads g) := by simp [State.sameHub]
  unfold State.dlHead
  split
  · exact State.sameHub.refl s
  · exact ite_keeps State.sameHub.refl (((hupd _ _).trans (h _ _)).trans (hheads _))
theorem keepsHub_dlAction (g : Grp) : Keeps State.sameHub (.dlAction g) :=
  keeps_onDie State.sameHub.refl (fun _ => rfl) fun _ => State.dlHead_sameHub fun s x => by split <;> simp [State.sameHub]
theorem keepsHub_dlIol (g : Grp) : Keeps State.sameHub (.dlIol g) :=
  keeps_onDie State.sameHub.refl (fun _ => rfl) fun _ => State.dlHead_sameHub fun s x => by split <;> simp [State.sameHub]
theorem keepsHub_dlRule (g : Grp) : Keeps State.sameHub (.dlRule g) :=
  keeps_onDie State.sameHub.refl (fun _ => rfl) fun _ => State.dlHead_sameHub fun s x => by split <;> simp [State.sameHub]
theorem keepsHub_dlStep (g : Grp) : Keeps State.sameHub (.dlStep g) :=
  keeps_onDie State.sameHub.refl (fun _ => rfl) fun _ => State.dlHead_sameHub fun s x => by split <;> simp [State.sameHub]

/-! Commands of the hub die that branch on what it holds -/

theorem keepsDies_conditionEvaluate (g : Grp) : Keeps State.sameDies (.conditionEvaluate g) :=
  keeps_onHub State.sameDies.refl (fun _ => rfl) fun s => by split <;> simp [State.sameDies]
theorem keepsDies_isduTimeout (c : Ch) : Keeps State.sameDies (.isduTimeout c) :=
  keeps_onHub State.sameDies.refl (fun _ => rfl) fun s => by split <;> simp [State.sameDies]
theorem keepsDies_ledgerWrite : Keeps State.sameDies .ledgerWrite :=
  keeps_next (fun _ => rfl) fun s => by split <;> simp [State.sameDies]
theorem keepsDies_outboundEntry (n : RingNo) : Keeps State.sameDies (.outboundEntry n) :=
  keeps_onHub State.sameDies.refl (fun _ => rfl) fun s => by (repeat' split) <;> simp [State.sameDies]
theorem keepsDies_pcieError (er : PcieErr) : Keeps State.sameDies (.pcieError er) :=
  keeps_next (fun _ => rfl) fun s => by (repeat' split) <;> simp [State.sameDies]
theorem keepsDies_strokeWindowExpiry (c : Ch) : Keeps State.sameDies (.strokeWindowExpiry c) :=
  keeps_onHub State.sameDies.refl (fun _ => rfl) fun s => by (repeat' split) <;> simp [State.sameDies]
theorem keepsDies_svFrameStart (b : Bool) : Keeps State.sameDies (.svFrameStart b) := by
  intro s t h
  simp only [exec, execSvFrameStart] at h
  split at h
  · cases h
    exact State.sameDies.refl s
  · simp only [onHub, Host.Outcome.next.injEq] at h
    subst h
    simp [State.sameDies]
theorem keepsDies_syncOutEnd : Keeps State.sameDies .syncOutEnd :=
  keeps_onHub State.sameDies.refl (fun _ => rfl) fun s => by split <;> simp [State.sameDies]
theorem keepsDies_syncOutPulse : Keeps State.sameDies .syncOutPulse :=
  keeps_onHub State.sameDies.refl (fun _ => rfl) fun s => by split <;> simp [State.sameDies]

/-! Requests of ring 4 -/

theorem State.takeReq_sameDies {s : State} {op : Nat} {k : State → Entry → State} (h : ∀ (s : State) e, s.sameDies (k s e)) :
    s.sameDies (s.takeReq op k) := by
  unfold State.takeReq
  split
  · exact State.sameDies.refl s
  · exact ite_keeps State.sameDies.refl (h _ _)
theorem keepsDies_isduRead : Keeps State.sameDies .isduRead :=
  keeps_onHub State.sameDies.refl (fun _ => rfl) fun _ => State.takeReq_sameDies fun s e => by split <;> simp [State.sameDies]
theorem keepsDies_isduWrite : Keeps State.sameDies .isduWrite :=
  keeps_onHub State.sameDies.refl (fun _ => rfl) fun _ => State.takeReq_sameDies fun s e => by dsimp only; split <;> simp [State.sameDies]
theorem keepsDies_powerCycle : Keeps State.sameDies .powerCycle :=
  keeps_onHub State.sameDies.refl (fun _ => rfl) fun _ => State.takeReq_sameDies fun s e => by split <;> simp [State.sameDies]
theorem keepsDies_pdOut : Keeps State.sameDies .pdOut :=
  keeps_onHub State.sameDies.refl (fun _ => rfl) fun _ => State.takeReq_sameDies fun s e => by
    dsimp only
    split
    · refine State.sameDies.trans (State.foldl_sameDies (fun s p => ?_) _ s) ⟨rfl, rfl, rfl⟩
      split <;> simp [State.sameDies]
    · simp [State.sameDies]

/-! Fields that a second in the bins leaves alone (R419, R427) -/

theorem State.reg_second {s : State} {d : Fin 5} {b : Fin 4} {f : Fld} (h : f.unit ≠ .hours d) : (s.second d b).reg f = s.reg f := by
  have hne : F.HK_HOURS d b ≠ f := by rintro rfl; exact h rfl
  simp [State.second, State.hwTally, State.hwSet, State.reg, hne]
theorem State.reg_hours {s : State} {f : Fld} (h : ∀ d, f.unit ≠ .hours d) : s.hours.reg f = s.reg f := by
  refine (State.foldl_keep (·.reg f) (fun s g => ?_) _ _).trans (State.reg_second (h 0))
  split
  · rfl
  · exact State.reg_second (h _)
theorem State.reg_retuneStart {s : State} {g : Grp} {f : Fld} (h : f ≠ F.GRP_AGE_EYE_RETUNING g) : (s.retuneStart g).reg f = s.reg f := by
  unfold State.retuneStart
  split
  · rfl
  · simp [h.symm]

end Sys2Proof.Machine

namespace Sys2Proof
open Machine

/-- Settles O60: each listed command's effect is a chain of the model's operations, each of which leaves the other side's fields as they
were; the last clause holds because the only fields those four commands write are the ones that it excludes. -/
theorem commandsStayOnTheirSide : Obligations.CommandsStayOnTheirSide := by
  unfold Obligations.CommandsStayOnTheirSide
  refine ⟨?_, ?_, ?_, ?_, ?_⟩
  · intro s c g b j k n z z' o
    suffices h : ∀ i ∈ _, Keeps State.sameHub i from fun i hi t => h i hi s t
    simp only [List.forall_mem_cons, List.not_mem_nil, false_imp_iff, implies_true, and_true, true_and, keepsHub_conversionDone,
      keepsHub_offCheckPhase, keepsHub_olWindowExpiry, keepsHub_pairImbalance, keepsHub_dlAction, keepsHub_dlIol, keepsHub_dlRule,
      keepsHub_dlStep]
    and_intros
    all_goals exact keeps_next (fun _ => rfl) fun s => by simp -implicitDefEqProofs [State.sameHub]
  · intro s c g n z
    suffices h : ∀ i ∈ _, Keeps State.sameCore i from fun i hi t => h i hi s t
    simp only [List.forall_mem_cons, List.not_mem_nil, false_imp_iff, implies_true, and_true]
    and_intros
    all_goals exact keeps_next (fun _ => rfl) fun s => by simp [State.sameCore]
  · intro s c g x r n k b a a' be v e e' er m z z' z2 z3
    suffices h : ∀ i ∈ _, Keeps State.sameDies i from fun i hi t => h i hi s t
    simp only [List.forall_mem_cons, List.not_mem_nil, false_imp_iff, implies_true, and_true, true_and, keepsDies_crossingTimeout,
      keepsDies_conditionEvaluate, keepsDies_isduTimeout, keepsDies_ledgerWrite, keepsDies_outboundEntry, keepsDies_pcieError,
      keepsDies_strokeWindowExpiry, keepsDies_svFrameStart, keepsDies_syncOutEnd, keepsDies_syncOutPulse, keepsDies_isduRead,
      keepsDies_isduWrite, keepsDies_powerCycle, keepsDies_pdOut]
    and_intros
    all_goals exact keeps_next (fun _ => rfl) fun s => by simp [State.sameDies]
  · intro s t c k
    exact keeps_next (R := fun s t => t.die = s.die ∧ t.hid = s.hid) (fun _ => rfl) (fun s => by simp) s t
  · intro s t x r f
    refine ⟨?_, ?_, ?_, ?_⟩
    · exact fun h hf => keeps_onHub (R := fun s t => t.reg f = s.reg f) (fun _ => rfl) (fun _ => rfl)
        (fun s => by simp [State.coarse, apply_ite (State.reg · f), hf.symm]) s t h
    · rintro (h | h) hf
      · exact keeps_onHub (R := fun s t => t.reg f = s.reg f) (fun _ => rfl) (fun _ => rfl)
          (fun s => by simp [apply_ite (State.reg · f), hf.symm]) s t h
      · exact keeps_onHub (R := fun s t => t.reg f = s.reg f) (fun _ => rfl) (fun _ => rfl)
          (fun s => by simp [apply_ite (State.reg · f), hf.symm]) s t h
    · intro h hd hg
      refine keeps_onHub (R := fun s t => t.reg f = s.reg f) (fun _ => rfl) (fun _ => rfl) (fun s => ?_) s t h
      refine (State.foldl_keep (·.reg f) (fun s g => ?_) _ _).trans (State.reg_hours hd)
      split
      · exact State.reg_retuneStart (hg g)
      · rfl
    · intro h hf
      refine keeps_onHub (R := fun s t => t.reg f = s.reg f) (fun _ => rfl) (fun _ => rfl) (fun s => ?_) s t h
      dsimp only
      split
      · rfl
      · exact (State.reg_setReg ..).trans (if_neg hf.symm)
end Sys2Proof

/-! ### Accesses that are served at the arbiter (R20, R36 to R41) -/

namespace Sys2Proof.Machine

section
variable {s : State} {rq : Req}

/-- An access that arrives is carried out. -/
theorem onBus_arrives (h : s.arrives rq) (q : HostReq) (k : State → State) : onBus rq q k s = .next (k s) := by
  obtain ⟨hon, hreach, hheld⟩ := h
  unfold onBus
  split
  · next hr =>
    subst hr
    obtain ⟨hup, hmse⟩ : s.host.dlUp = true ∧ s.host.mse = true := by simpa [State.reaches] using hreach
    simp [State.hostAccess, hup, hmse, hon, hheld rfl]
  · rfl

/-- A write that is served is the write of its word at the arbiter. -/
theorem writeCmd_serves {o v : Nat} {be : Fin 16} (h : s.serves rq o) (hbe : (enables rq be).val ≠ 0) :
    writeCmd rq o be v s = .next (s.writeWord rq o (enables rq be) v).1 := by
  obtain ⟨harr, hshut⟩ := h
  rw [writeCmd, onBus_arrives harr]
  simp [State.writeBy, harr.2.1, hbe, hshut]

theorem enables_full (rq : Req) : enables rq 15 = 15 := ite_self 15

/-- A read that arrives leaves in the requester's data register the word read. -/
theorem rdata_readBy (h : s.reaches rq = true) (a : Nat) :
    (s.readBy rq a).hub.rdata[(reqSlot rq).val] =
      if rq = .host ∧ 0x100000 ≤ a ∧ a < 0x102000 then s.bar2Word (a - 0x100000) else (s.readWord rq a).1 := by
  unfold State.readBy
  rw [h, Bool.not_true, if_neg Bool.false_ne_true]
  dsimp only
  rw [Vector.getElem_set_self]
  split <;> rfl

/-- A read of the host beyond BAR0, in BAR2, changes no register (R329). -/
theorem regs_readBy_bar2 {a : Nat} (h1 : 0x100000 ≤ a) (h2 : a < 0x102000) : (s.readBy .host a).regs = s.regs := by
  unfold State.readBy
  split
  · rfl
  · simp [h1, h2]

end

end Sys2Proof.Machine

namespace Sys2Proof
open Machine

/-- Settles O35: every write row is `writeCmd` of its word and every read row is `readBy`, each carried out once it arrives. -/
theorem registerAccessRows : Obligations.RegisterAccessRows := by
  unfold Obligations.RegisterAccessRows
  intro s rq be v o c x r n g k u d b w j hi i m
  refine ⟨?_, ?_, ?_⟩
  · suffices h : ∀ p : Instr × Nat, p ∈ _ → exec p.1 s = writeCmd rq p.2 be v.toNat s from
      fun p hp hs hbe => (h p hp).trans (writeCmd_serves hs hbe)
    simp only [List.forall_mem_cons, List.not_mem_nil, false_imp_iff, implies_true, and_true]
    and_intros
    all_goals rfl
  · suffices h : ∀ p : Instr × Nat × Nat, p ∈ _ → exec p.1 s = writeCmd rq p.2.1 15 p.2.2 s from
      fun p hp hs => by rw [h p hp, writeCmd_serves hs (by simp [enables_full]), enables_full]
    simp only [List.forall_mem_cons, List.not_mem_nil, false_imp_iff, implies_true, and_true]
    and_intros
    all_goals rfl
  · suffices h : ∀ p : Instr × Nat, p ∈ _ → exec p.1 s = onBus rq (.read p.2) (fun s => s.readBy rq p.2) s by
      intro p hp harr
      refine ⟨_, (h p hp).trans (onBus_arrives harr _ _), by simp, by simp, fun hout => ?_, ?_⟩
      · rw [rdata_readBy harr.2.1, if_neg]
        rintro ⟨rfl, h1, h2⟩
        simp at hout
        omega
      · rintro rfl h1 h2
        exact ⟨(rdata_readBy harr.2.1 _).trans (if_pos ⟨rfl, h1, h2⟩), regs_readBy_bar2 h1 h2⟩
    simp only [List.forall_mem_cons, List.not_mem_nil, false_imp_iff, implies_true, and_true]
    and_intros
    all_goals rfl

/-- Settles O55: each clause is read off the state written out; the governor's model is its fixed share, as no channel has a mode. -/
theorem resetState : Obligations.ResetState := by
  unfold Obligations.ResetState
  refine ⟨⟨rfl, rfl, rfl, rfl⟩, rfl, rfl, rfl, rfl, fun f => ⟨rfl, rfl⟩, rfl, rfl, rfl, fun g => ⟨rfl, rfl, rfl, ?_, ?_⟩, fun c => ?_, fun r => rfl,
    rfl, rfl, fun r => rfl, fun k => rfl, rfl⟩
  · revert g; decide
  · revert g; decide
  · refine ⟨rfl, ?_, ?_, ?_⟩ <;> revert c <;> decide
end Sys2Proof

/-! ### A word's write taken at a group die (R15) -/

namespace Sys2Proof.Machine

theorem bit_two (a : Nat) : bit a 2 = decide (a / 4 % 2 = 1) := Nat.testBit_eq_decide_div_mod_eq

/-- The place of a channel's word among its group's words (R35). -/
theorem grpUnit_inGroup (c : Ch) {off : Nat} (h : off < 0x1000) : grpUnit (grpOf c) (inGroup (.ch c) off) = (.ch c, off) := by
  have hdiv : (0x1000 + c.val % 8 * 0x1000 + off) / 0x1000 = c.val % 8 + 1 := by omega
  have hch : chOf (grpOf c) ⟨c.val % 8, by omega⟩ = c := chOf_grpOf_chN c
  have hmod : (0x1000 + c.val % 8 * 0x1000 + off) % 0x1000 = off := by omega
  simp only [grpUnit, inGroup, hdiv, hmod, Nat.add_sub_cancel]
  rw [if_neg (by omega), dif_pos (by omega), hch]

section
variable {s : State} {g : Grp} {y : TxCmd} {l : List TxCmd} {w a : Nat} (hin : (s.dieOf g).inbox = y :: l) (hy : y.cmd = .write w a)
include hin hy

theorem Die.clearNext_write : (s.dieOf g).clearNext = (decide (0x1000 ≤ 4 * w) && 4 * w % 0x1000 == 0x6C && bit a 2) := by
  obtain ⟨cmd, tag, sent, epoch⟩ := y
  obtain rfl : cmd = .write w a := hy
  simp only [Die.clearNext, hin]

/-- The write that stands first is carried out as a command of its kind. -/
theorem State.dlHead_write (k : State → TxCmd → State) :
    s.dlHead g 9 k = (k (s.updDie g fun d => { d with inbox := l }) y).takeHeads g := by
  simp only [State.dlHead, hin, hy, DlCmd.kind, if_true]

/-- DL_WRITE takes the write that stands first, unless that waits for what the die measures. -/
theorem exec_dlWrite (hon : s.dieOn g = true) (hclr : (s.dieOf g).clearNext = false) :
    exec (.dlWrite g) s = .next (((s.updDie g fun d => { d with inbox := l }).takeWrite g y).takeHeads g) := by
  rw [show exec (.dlWrite g) s = execDlWrite g s from rfl, execDlWrite, onDie_on hon]
  simp only [hclr, Bool.false_eq_true, if_false, State.dlHead_write hin hy]

/-- A row of a word takes the write that stands first as DL_WRITE does, when it is one of that word. -/
theorem onDie_dlWriteAt (hon : s.dieOn g = true) (hclr : (s.dieOf g).clearNext = false) :
    onDie g (fun s => s.dlWriteAt g (4 * w)) s = exec (.dlWrite g) s := by
  rw [onDie_on hon, exec_dlWrite hin hy hon hclr, ← State.dlHead_write hin hy (k := fun s x => s.takeWrite g x)]
  obtain ⟨cmd, tag, sent, epoch⟩ := y
  obtain rfl : cmd = .write w a := hy
  simp [State.dlWriteAt, hin, hclr]

omit hin in
/-- The write taken is its word's at the die; of AN_DAC its place is kept first. -/
theorem State.takeWrite_ch {c : Ch} {off : Nat} (ho : off < 0x1000) (hw : 4 * w = inGroup (.ch c) off) :
    s.takeWrite (grpOf c) y = State.dieWord (if off = 0xD8 then s.updCh c fun k => { k with dacW := y.tag.dacMark } else s) (grpOf c)
      (inGroup (.ch c) off) a := by
  simp only [State.takeWrite, hy, hw, grpUnit_inGroup c ho]
omit hin in
theorem State.takeWrite_grp {off : Nat} (ho : off < 0x1000) (hw : 4 * w = off) : s.takeWrite g y = s.dieWord g off a := by
  have hu : grpUnit g off = (.grp g, off) := by simp [grpUnit, ho]
  simp only [State.takeWrite, hy, hw, hu]

/-- CLEAR_FAULT takes a write of OUT_CLEAR with FAULT set with what the die measures. -/
theorem State.clearAt_write {c : Ch} (hg : grpOf c = g) (hw : 4 * w = inGroup (.ch c) 0x6C) (ha : a / 4 % 2 = 1) (i : Int) (clamp : Bool) :
    s.clearAt c i clamp = ((s.updDie g fun d => { d with inbox := l }).clearWord c (a % 8) i clamp).takeHeads g := by
  rw [← State.dlHead_write hin hy (k := fun s _ => s.clearWord c (a % 8) i clamp)]
  obtain ⟨cmd, tag, sent, epoch⟩ := y
  obtain rfl : cmd = .write w a := hy
  simp [State.clearAt, hg, hin, hw, bit_two, ha]
end

end Sys2Proof.Machine

namespace Sys2Proof
open Machine

/-- Settles O36: each row at the die is `dlWriteAt` of its word (`onDie_dlWriteAt`), and the write taken is the word's (`State.takeWrite_ch`). -/
theorem dieSideWrites : Obligations.DieSideWrites := by
  unfold Obligations.DieSideWrites
  intro s rq be v c y l w a hon hin hy
  have hclr (off : Nat) (ho : off < 0x1000) (hw : 4 * w = inGroup (.ch c) off) (h : off ≠ 0x6C ∨ a / 4 % 2 = 0) :
      (s.dieOf (grpOf c)).clearNext = false := by
    rw [Die.clearNext_write hin hy, bit_two]
    simp only [inGroup] at hw
    simp only [Bool.and_eq_false_iff, beq_eq_false_iff_ne, decide_eq_false_iff_not]
    omega
  refine ⟨?_, ?_, ?_, fun hw => ?_⟩
  · suffices h : ∀ p : Instr × Nat, p ∈ _ → exec p.1 s = onDie (grpOf c) (fun s => s.dlWriteAt (grpOf c) (inGroup (.ch c) p.2)) s ∧ p.2 < 0x1000 ∧ p.2 ≠ 0x6C by
      intro p hp hw
      obtain ⟨he, ho, hne⟩ := h p hp
      have hc := hclr p.2 ho hw (.inl hne)
      have hdl : exec p.1 s = exec (.dlWrite (grpOf c)) s := by rw [he, ← hw, onDie_dlWriteAt hin hy hon hc]
      refine ⟨hdl, _, hdl.trans (exec_dlWrite hin hy hon hc), fun hd => ?_, fun hd => ?_⟩
      · rw [State.takeWrite_ch hy ho hw, if_neg hd]
      · rw [State.takeWrite_ch hy ho hw, if_pos hd]
    simp only [List.forall_mem_cons, List.not_mem_nil, false_imp_iff, implies_true, and_true, Nat.reduceLT, ne_eq, Nat.reduceEqDiff,
      not_false_eq_true]
    and_intros
    all_goals rfl
  · intro i hi hw ha
    have he : exec i s = onDie (grpOf c) (fun s => s.dlWriteAt (grpOf c) (inGroup (.ch c) 0x6C)) s := by
      simp only [List.mem_cons, List.not_mem_nil, or_false] at hi
      obtain rfl | rfl := hi <;> rfl
    have hc := hclr 0x6C (by decide) hw (.inr ha)
    have hdl : exec i s = exec (.dlWrite (grpOf c)) s := by rw [he, ← hw, onDie_dlWriteAt hin hy hon hc]
    exact ⟨hdl, _, hdl.trans (exec_dlWrite hin hy hon hc), by rw [State.takeWrite_ch hy (by decide) hw, if_neg (by decide)]⟩
  · intro ki clamp hw ha
    rw [show exec (.clearFault .die rq c ki clamp) s = onDie (grpOf c) (fun s => s.clearAt c ki clamp) s from rfl, onDie_on hon, State.clearAt_write hin hy rfl hw ha]
  · have hc : (s.dieOf (grpOf c)).clearNext = false := by
      rw [Die.clearNext_write hin hy, hw]
      rfl
    have hdl : exec (.supplyAck .die rq (grpOf c) be v) s = exec (.dlWrite (grpOf c)) s := by
      rw [← onDie_dlWriteAt hin hy hon hc, hw]
      rfl
    exact ⟨hdl, _, hdl.trans (exec_dlWrite hin hy hon hc), by rw [State.takeWrite_grp hy (by decide) hw]⟩
end Sys2Proof

/-! ### What the die's own operations leave of the words written to it (R15)

`Fld.shown` picks out the fields that a word's own effect at the die can set: what it shows of faults, of analogue blocks, of a wire
break, of the housekeeping windows and of the supply. `layout_shown` ties it to the table of rows: no RW or RWL field is one. -/

namespace Sys2Proof.Machine

/-- Where the fields stand that a word's effect at the die can set. -/
@[simp] def shownAt : U → Nat → Bool
  | .grp _, o => (decide (0xC0 ≤ o) && decide (o < 0xF0)) || o == 0x88
  | .ch _, o => o == 0x70 || o == 0xBC || o == 0xE0
  | _, _ => false
/-- A field that a word's effect at the die can set. -/
def Fld.shown (f : Fld) : Bool := shownAt f.unit f.off
@[simp] theorem Fld.shown_mk (u : U) (o l w d : Nat) : (Fld.mk u o l w d).shown = shownAt u o := rfl

set_option maxRecDepth 4000 in
/-- No field that a requester may write is one that a word's effect sets. -/
theorem layout_shown (u : U) : ((layout u).all fun r => !shownAt u r.off || !(r.acc == .rw || r.acc == .rwl)) = true := by
  cases u with
  | ckU u => simp only [layout]; split <;> rfl
  | _ => rfl
theorem Row.not_shown {u : U} {r : Row} (h : r ∈ layout u) (hacc : r.acc = .rw ∨ r.acc = .rwl) : (r.fld u).shown = false := by
  have hr := List.all_eq_true.mp (layout_shown u) r h
  rw [show (r.fld u).shown = shownAt u r.off from rfl]
  obtain h | h := hacc <;> simpa [h] using hr

theorem Fld.ne_of_shown {f k : Fld} (hf : f.shown = false) (hk : k.shown = true) : k ≠ f := by
  rintro rfl
  simp [hf] at hk
@[simp high] theorem Store.get_set_shown {st : Store} {f k : Fld} (v : Nat) (hf : f.shown = false) (hk : k.shown = true) :
    (st.set k v).get f = st.get f := Store.get_set_ne st v (Fld.ne_of_shown hf hk)
@[simp] theorem anFld_shown (c : Ch) (k : Nat) : (anFld c k).shown = true := rfl
theorem hkState_shown (g : Grp) (k : Fin 24) : (F.GRP_HK_STATE g k).shown = true := by
  simp only [Fld.shown_mk, shownAt, Bool.or_eq_true, Bool.and_eq_true, decide_eq_true_eq]
  omega

section
variable {s : State} {f : Fld} (hf : f.shown = false)
include hf

@[simp] theorem State.anFlags_shown {c : Ch} {l : List (Nat × Bool)} : (s.anFlags c l).die.get f = s.die.get f := by
  unfold State.anFlags
  dsimp only
  split
  · rfl
  · have hset (l : List (Nat × Bool)) : (l.foldl (fun s p => s.setDie (anFld c p.1) (b2n p.2)) s).die.get f = s.die.get f :=
      State.foldl_keep (fun s => s.die.get f) (fun s p => Store.get_set_shown _ hf (anFld_shown c p.1)) l s
    simp [hset]
@[simp] theorem State.showClamped_shown {c : Ch} : (s.showClamped c).die.get f = s.die.get f := by
  unfold State.showClamped
  simp [hf]
@[simp] theorem State.dacStep_shown {c : Ch} {v : Nat} : (s.dacStep c v).die.get f = s.die.get f := by
  unfold State.dacStep
  simp [hf]
@[simp] theorem State.dacTarget_shown {c : Ch} {v : Nat} : (s.dacTarget c v).die.get f = s.die.get f := by
  unfold State.dacTarget
  split <;> simp [hf]
@[simp] theorem State.clampWritten_shown {c : Ch} : (s.clampWritten c).die.get f = s.die.get f := by
  unfold State.clampWritten
  dsimp only
  split <;> simp [hf]
@[simp] theorem State.loopWritten_shown {c : Ch} {was : Bool} : (s.loopWritten c was).die.get f = s.die.get f := by
  unfold State.loopWritten
  dsimp only
  (repeat' split) <;> simp [hf]
@[simp] theorem State.inCfgWritten_shown {c : Ch} : (s.inCfgWritten c).die.get f = s.die.get f := by
  unfold State.inCfgWritten
  dsimp only
  split <;> simp [hf]
@[simp] theorem State.parkStart_shown {c : Ch} {m : Nat} {member load : Bool} : (s.parkStart c m member load).die.get f = s.die.get f := by
  unfold State.parkStart
  dsimp only
  (repeat' split) <;> simp [hf]
@[simp] theorem State.modeWord_shown {c : Ch} {v : Nat} : (s.modeWord c v).die.get f = s.die.get f := by
  unfold State.modeWord State.parkBoth
  dsimp only
  (repeat' split) <;> simp [hf]
omit hf in
/-- A clear of a latch sets no more than what the latch shows. -/
theorem State.clearLatch_shown {c : Ch} {has : Chan → Bool} {ok : Ch → Bool} {k : State → Ch → State}
    (hk : ∀ s x, (k s x).die.get f = s.die.get f) : (s.clearLatch c has ok k).die.get f = s.die.get f := by
  unfold State.clearLatch
  dsimp only
  (repeat' split)
  · rfl
  · simp [State.cmdOff, State.foldl_keep (fun s => s.die.get f) hk]
  · simp [State.clearRefused]
@[simp] theorem State.clearWord_shown {c : Ch} {v : Nat} {i : Int} {clamp : Bool} : (s.clearWord c v i clamp).die.get f = s.die.get f := by
  have hfault (s : State) : (s.clearFaultDie c i clamp).die.get f = s.die.get f := State.clearLatch_shown fun s x => by simp [hf]
  unfold State.clearWord
  dsimp only
  (repeat' split) <;> simp [hfault]
@[simp] theorem State.supplyAckDie_shown {g : Grp} : (s.supplyAckDie g).die.get f = s.die.get f := by
  unfold State.supplyAckDie
  split <;> simp [hf]

/-- What a group word does at the die beside being stored sets no field that a requester may write. -/
theorem State.grpWritten_shown {g : Grp} {off v : Nat} {old : State} : (s.grpWritten g off v old).die.get f = s.die.get f := by
  have hstate (k : Fin 24) (x : Nat) : (s.die.set (F.GRP_HK_STATE g k) x).get f = s.die.get f :=
    Store.get_set_shown x hf (hkState_shown g k)
  unfold State.grpWritten
  dsimp only
  (repeat' split) <;> simp [hf, -Store.get_set, hstate]
/-- What a channel word but AN_DAC and IOL_PD does at the die beside being stored sets no field that a requester may write. -/
theorem State.chWritten_shown {c : Ch} {off v : Nat} {old : State} (hdac : off ≠ 0xD8) (hpd : off ≠ 0xEC) :
    (s.chWritten c off v old).die.get f = s.die.get f := by
  simp only [State.chWritten, if_neg hdac, if_neg hpd]
  (repeat' split) <;> simp [hf]
end

/-- A word stored at the die: each of its RW and RWL fields holds the bits written. -/
theorem storeWord_get {st : Store} {u : U} {r : Row} (hr : r ∈ layout u) (hacc : r.acc = .rw ∨ r.acc = .rwl) (v : Nat) :
    (storeWord st u r.off v).get (r.fld u) = v / 2 ^ r.lo % 2 ^ r.w := by
  have key : ∀ (l : List Row) (st : Store), r ∈ l ∨ st.get (r.fld u) = v / 2 ^ r.lo % 2 ^ r.w →
      (l.foldl (fun st r' => st.set ⟨u, r.off, r'.lo, r'.w, r'.dflt⟩ (v / 2 ^ r'.lo)) st).get (r.fld u) = v / 2 ^ r.lo % 2 ^ r.w := by
    intro l
    induction l with
    | nil => exact fun st h => h.resolve_left (List.not_mem_nil)
    | cons x t ih =>
      intro st h
      refine ih _ ?_
      by_cases hx : (⟨u, r.off, x.lo, x.w, x.dflt⟩ : Fld) = r.fld u
      · right
        dsimp only
        rw [hx, Store.get_set_same]
        obtain ⟨-, -, hlo, -, -⟩ := Fld.mk.inj hx
        rw [hlo]
        rfl
      · obtain h | h := h
        · obtain rfl | h := List.mem_cons.mp h
          · exact absurd rfl hx
          · exact .inl h
        · exact .inr ((Store.get_set_ne _ _ hx).trans h)
  refine key _ st (.inl (List.mem_filter.mpr ⟨hr, ?_⟩))
  obtain h | h := hacc <;> simp [h]

/-- A word of a group die, but for a permit, an analogue code and output data, holds the bits written in its RW and RWL fields. -/
theorem State.dieWord_get {s : State} {g : Grp} {off v : Nat} {r : Row} (hr : r ∈ layout (grpUnit g off).1) (hoff : r.off = (grpUnit g off).2)
    (hacc : r.acc = .rw ∨ r.acc = .rwl) (hout : (∃ c, (grpUnit g off).1 = .ch c) → r.off ≠ 0x28 ∧ r.off ≠ 0xD8 ∧ r.off ≠ 0xEC) :
    (s.dieWord g off v).dreg (r.fld (grpUnit g off).1) = v / 2 ^ r.lo % 2 ^ r.w := by
  have hf := Row.not_shown hr hacc
  have hst := storeWord_get (st := s.die) hr hacc v
  unfold State.dieWord State.dreg
  rw [hoff] at hst hout
  generalize hu : grpUnit g off = p at hr hf hst hout ⊢
  obtain ⟨u, o⟩ := p
  dsimp only at hst hout ⊢
  split
  · next c =>
    obtain ⟨hperm, hdac, hpd⟩ := hout ⟨c, rfl⟩
    rw [if_neg hperm, if_neg (by simp [hdac, hpd]), State.chWritten_shown hf hdac hpd]
    exact hst
  · rw [State.grpWritten_shown hf]
    exact hst

end Sys2Proof.Machine

namespace Sys2Proof
open Machine

/-- Settles O17: the write taken stores its word (`State.dieWord_get`), and the timed commands behind it set no field at the die. -/
theorem writtenWordStandsAtDie : Obligations.WrittenWordStandsAtDie := by
  unfold Obligations.WrittenWordStandsAtDie
  intro s g y l w v hon hclr hin hy
  refine ⟨_, exec_dlWrite hin hy hon hclr, fun r hr hoff hacc hout => ?_⟩
  rw [State.dreg, State.takeHeads_frame.2.2.1, State.takeWrite, hy]
  exact State.dieWord_get hr hoff hacc hout
end Sys2Proof

/-! ### What a die is while its channels are brought to their states (R290 to R294)

`Die.ctl` is a die without its reports and its local Ledger. The operations by which a channel is brought to its state keep it: one
lemma per operation. `Chan.drive` is what pulls a terminal up, which no stroke window's end touches. -/

namespace Sys2Proof.Machine

/-- A die but for the reports that it sends and the local Ledger that it writes. -/
def Die.ctl (d : Die) : Die :=
  { d with evQ := [], urgUp := [], store := [], cells := [], lseq := 0, commit := false, recommit := false, dirty := false }
/-- The switch of a channel and its run. -/
def Chan.drive (k : Chan) : Bool × Option Run := (k.sw, k.run)

section
variable {s : State} {g : Grp} {c : Ch}

theorem State.updDie_ctl {k : Die → Die} (h : ∀ d, (k d).ctl = d.ctl) : (s.updDie g k).dies.map Die.ctl = s.dies.map Die.ctl := by
  ext1 i hi
  simp only [State.updDie, Vector.getElem_map, Vector.getElem_set]
  split
  · next e =>
    subst e
    exact h _
  · rfl
theorem State.updCh_drive {k : Chan → Chan} (h : ∀ x, (k x).drive = x.drive) : (s.updCh c k).chans.map Chan.drive = s.chans.map Chan.drive := by
  ext1 i hi
  simp only [State.updCh, Vector.getElem_map, Vector.getElem_set]
  split
  · next e =>
    subst e
    exact h _
  · rfl
/-- Dies that agree but for reports and Ledgers agree for each group. -/
theorem State.dieOf_ctl {t : State} (h : t.dies.map Die.ctl = s.dies.map Die.ctl) (g : Grp) : (t.dieOf g).ctl = (s.dieOf g).ctl := by
  simpa [State.dieOf] using congrArg (fun v => v[g.val]) h
theorem State.ch_drive {t : State} (h : t.chans.map Chan.drive = s.chans.map Chan.drive) (c : Ch) : (t.ch c).drive = (s.ch c).drive := by
  simpa [State.ch] using congrArg (fun v => v[c.val]) h

/-! Reports and records -/

@[simp] theorem State.evt_ctl {e : EvData} : (s.evt g e).dies.map Die.ctl = s.dies.map Die.ctl := State.updDie_ctl fun _ => rfl
@[simp] theorem State.beginCommit_ctl : (s.beginCommit g).dies.map Die.ctl = s.dies.map Die.ctl :=
  State.updDie_ctl fun d => by split <;> rfl
@[simp] theorem State.local_ctl {code chan cls data : Nat} : (s.local g code chan cls data).dies.map Die.ctl = s.dies.map Die.ctl := by
  unfold State.local
  dsimp only
  split
  · rw [State.beginCommit_ctl, State.evt_ctl]
    exact Eq.trans (State.updDie_ctl fun _ => rfl) (by simp)
  · rw [State.evt_ctl]
    exact Eq.trans (State.updDie_ctl fun _ => rfl) (by simp)

/-! A channel brought to its state -/

@[simp] theorem State.gateOn1_ctl : (s.gateOn1 c).dies.map Die.ctl = s.dies.map Die.ctl := by
  unfold State.gateOn1
  simp
@[simp] theorem State.gateStart_ctl {t : Nat} {meas : Bool} : (s.gateStart c t meas).dies.map Die.ctl = s.dies.map Die.ctl := by
  unfold State.gateStart State.gateOn State.residual
  dsimp only
  (repeat' split) <;> simp
@[simp] theorem State.turnOn_ctl {t : Nat} : (s.turnOn c t).dies.map Die.ctl = s.dies.map Die.ctl := by
  unfold State.turnOn
  simp
@[simp] theorem State.startRun_ctl {p start t : Nat} {own : Option Nat} {act : Bool} :
    (s.startRun c p own start t act).dies.map Die.ctl = s.dies.map Die.ctl := by
  unfold State.startRun
  dsimp only
  (repeat' split) <;> simp
@[simp] theorem State.bringOn_ctl {t : Nat} {act : Bool} : (s.bringOn c t act).dies.map Die.ctl = s.dies.map Die.ctl := by
  unfold State.bringOn
  dsimp only
  (repeat' split) <;> simp
@[simp] theorem State.settle_ctl : (s.settle c).dies.map Die.ctl = s.dies.map Die.ctl := by
  unfold State.settle
  (repeat' split) <;> simp
@[simp] theorem State.cmdOff_ctl : (s.cmdOff c).dies.map Die.ctl = s.dies.map Die.ctl := by
  unfold State.cmdOff
  simp
@[simp] theorem State.settleAll_ctl : (s.settleAll g).dies.map Die.ctl = s.dies.map Die.ctl :=
  State.foldl_keep (fun s => s.dies.map Die.ctl) (fun s c => by simp) _ s

/-! The stroke window of a channel ends -/

@[simp] theorem State.learn_drive {x d : Rat} : (s.learn c x d).chans.map Chan.drive = s.chans.map Chan.drive := by
  have hfrac {s : State} : (s.updCh c fun k => { k with trendFrac := 0 }).chans.map Chan.drive = s.chans.map Chan.drive :=
    State.updCh_drive fun _ => rfl
  unfold State.learn
  dsimp only
  split <;> simp [hfrac]
@[simp] theorem State.trend_drive {x : Rat} : (s.trend c x).chans.map Chan.drive = s.chans.map Chan.drive := by
  have hfrac {s : State} {n : Nat} : (s.updCh c fun k => { k with trendFrac := n }).chans.map Chan.drive = s.chans.map Chan.drive :=
    State.updCh_drive fun _ => rfl
  unfold State.trend
  dsimp only
  split <;> simp [hfrac]
@[simp] theorem State.strokeDecide_drive {w : Stroke} {kind reason : Nat} :
    (s.strokeDecide c w kind reason).chans.map Chan.drive = s.chans.map Chan.drive := by
  have hclose {s : State} : (s.updCh c fun k => { k with stroke := none }).chans.map Chan.drive = s.chans.map Chan.drive :=
    State.updCh_drive fun _ => rfl
  unfold State.strokeDecide
  simp [apply_ite (Vector.map Chan.drive), hclose]
@[simp] theorem State.strokeAbort_drive : (s.strokeAbort c).chans.map Chan.drive = s.chans.map Chan.drive := by
  unfold State.strokeAbort
  split <;> simp

theorem mem_chansOf (c : Ch) : c ∈ chansOf (grpOf c) := List.mem_map.mpr ⟨chN c, List.mem_finRange _, chOf_grpOf_chN c⟩
/-- Every switch of a group that is pulled down is off, and no run stands (R311, R445). -/
theorem State.pullDown_drive (s : State) (c : Ch) : ((s.pullDown (grpOf c)).ch c).drive = (false, none) := by
  have key : ∀ (l : List Ch) (s : State), c ∈ l ∨ (s.ch c).drive = (false, none) →
      ((l.foldl (fun s c => (s.strokeAbort c).updCh c fun k =>
        { k with sw := false, run := none, work := .off, from_ := .off, edge := none, pulses := [], inrush := false, olOn := false, olAt := none })
        s).ch c).drive = (false, none) := by
    intro l
    induction l with
    | nil => exact fun s h => h.resolve_left List.not_mem_nil
    | cons x t ih =>
      intro s h
      refine ih _ ?_
      rw [State.ch_updCh]
      split
      · exact .inr rfl
      · next hx =>
        refine h.imp (fun h => (List.mem_cons.mp h).resolve_left (Ne.symm hx)) fun h => ?_
        rw [State.ch_drive State.strokeAbort_drive, h]
  exact key _ s (.inl (mem_chansOf c))

/-! The safe state and limp-home -/

/-- Entry into the safe state: the die holds its first cause (R290, log entry 105). -/
theorem State.safeEnter_ctl (s : State) (g : Grp) (cause : Nat) :
    ((s.safeEnter g cause).dieOf g).ctl = if (s.dieOf g).safe then (s.dieOf g).ctl
      else { (s.dieOf g).ctl with safe := true, safeCause := cause, safeAt := s.dieNow g } := by
  unfold State.safeEnter
  split
  · rfl
  · rw [State.dieOf_ctl (State.beginCommit_ctl.trans (by simp only [State.safeReport, State.local_ctl, State.evt_ctl, State.settleAll_ctl]; rfl)),
      State.dieOf_updDie, if_pos rfl]
    rfl
/-- Limp-home begins where its three conditions hold (R293). -/
theorem State.limpCheck_ctl (s : State) (g : Grp) :
    ((s.limpCheck g).dieOf g).ctl = { (s.dieOf g).ctl with limp := (s.dieOf g).limp || s.limpDue g } := by
  have hfold (l : List Ch) (s : State) : (l.foldl (fun s c =>
      if s.follows c then (s.updCh c fun k => { k with permitHeld := k.permitHeld && !s.permit c }).settle c else s) s).dies.map Die.ctl =
      s.dies.map Die.ctl := State.foldl_keep (fun s => s.dies.map Die.ctl) (fun s c => by split <;> simp) l s
  unfold State.limpCheck
  split
  · next h =>
    have hl : ((s.dieOf g).limp || s.limpDue g) = (s.dieOf g).limp := by
      cases hl : (s.dieOf g).limp <;> simp_all
    rw [hl]
    rfl
  · next h =>
    obtain ⟨-, hdue⟩ : (s.dieOf g).limp = false ∧ s.limpDue g = true := by simpa using h
    rw [State.dieOf_ctl (by simp only [State.limpReport, State.local_ctl, State.evt_ctl, hfold]; rfl), State.dieOf_updDie, if_pos rfl, hdue, Bool.or_true]
    rfl
/-- Limp-home ends (R294). -/
theorem State.limpEnd_ctl (s : State) (g : Grp) : ((s.limpEnd g).dieOf g).ctl = { (s.dieOf g).ctl with limp := false } := by
  have hfold (l : List Ch) (s : State) : (l.foldl (fun s c => (if (s.dieOf g).safe then s else s.cmdOff c).settle c) s).dies.map Die.ctl =
      s.dies.map Die.ctl := State.foldl_keep (fun s => s.dies.map Die.ctl) (fun s c => by rw [State.settle_ctl]; split <;> simp) l s
  unfold State.limpEnd
  split
  · next h =>
    have hl : (s.dieOf g).limp = false := by simpa using h
    rw [← hl]
    rfl
  · rw [State.dieOf_ctl (by simp only [State.limpReport, State.local_ctl, State.evt_ctl, hfold]; rfl), State.dieOf_updDie, if_pos rfl]
    rfl
/-- LIMPx stands at the level that it has gone to. -/
theorem State.limpPinTo_pin (s : State) (g : Grp) (high : Bool) : ((s.limpPinTo g high).dieOf g).limpPin.1 = high := by
  simp only [State.limpPinTo, State.dieOf_updDie, if_true]
  split
  · assumption
  · rfl
/-- A change of LIMPx alone changes nothing else of its die. -/
theorem State.limpPinTo_limp (s : State) (g : Grp) (high : Bool) : ((s.limpPinTo g high).dieOf g).limp = (s.dieOf g).limp := by
  simp [State.limpPinTo]

/-! The rows -/

/-- A channel of a group of which every switch has been pulled down. -/
theorem State.pullDown_off (s : State) {c : Ch} (h : grpOf c = g) : ((s.pullDown g).ch c).sw = false ∧ ((s.pullDown g).ch c).run = none := by
  subst h
  exact Prod.mk.inj (s.pullDown_drive c)
/-- What a group in the safe state shows of it, by whatever cause it comes (R290). -/
theorem State.safeEnter_shows (s : State) (g : Grp) (cause : Nat) :
    ((s.safeEnter g cause).dieOf g).safe = true ∧
      ((s.safeEnter g cause).dieOf g).safeCause = (if (s.dieOf g).safe then (s.dieOf g).safeCause else cause) ∧
      ((s.safeEnter g cause).dieOf g).expired = (s.dieOf g).expired ∧ ((s.safeEnter g cause).dieOf g).gclk = (s.dieOf g).gclk := by
  have h := s.safeEnter_ctl g cause
  have hs : ((s.safeEnter g cause).dieOf g).ctl.safe = true ∧
      ((s.safeEnter g cause).dieOf g).ctl.safeCause = (if (s.dieOf g).safe then (s.dieOf g).safeCause else cause) ∧
      ((s.safeEnter g cause).dieOf g).ctl.expired = (s.dieOf g).expired ∧ ((s.safeEnter g cause).dieOf g).ctl.gclk = (s.dieOf g).gclk := by
    rw [h]
    split
    · next hsafe => exact ⟨hsafe, rfl, rfl, rfl⟩
    · exact ⟨rfl, rfl, rfl, rfl⟩
  exact hs
/-- Outside the safe state no run goes on a grid of its own (R289). -/
theorem State.regridAll_unsafe (h : (s.dieOf g).safe = false) : s.regridAll g = s := by
  rw [State.regridAll, h]
  rfl
/-- A record of a group die that is not of class 4 stands in its store. -/
theorem State.local_store {code chan cls data : Nat} (h : cls ≠ 4) :
    ∃ r ∈ ((s.local g code chan cls data).dieOf g).store, r.code = code ∧ r.time = (s.localTime g).1 := by
  simp only [State.local, if_neg h, State.evt, State.dieOf_updDie, if_true]
  exact ⟨_, List.mem_append_right _ List.mem_cons_self, rfl, rfl⟩

/-- WATCHDOG_EXPIRY (R282, R290). -/
theorem exec_watchdogExpiry (hon : s.dieOn g = true) (hint : (s.dieOf g).intact = true) (hwd : s.wdPassed g = true) :
    ∃ t, exec (.watchdogExpiry g) s = .next t ∧ (t.dieOf g).expired = true ∧ (t.dieOf g).safe = true ∧
      (t.dieOf g).safeCause = if (s.dieOf g).safe then (s.dieOf g).safeCause else 1 := by
  change ∃ t, execWatchdogExpiry g s = .next t ∧ _
  rw [execWatchdogExpiry, onDie_on hon, if_pos (by rw [hint, hwd]; rfl)]
  refine ⟨_, rfl, ?_⟩
  obtain ⟨hsafe, hcause, hexp, -⟩ := (s.updDie g fun d => { d with expired := true }).safeEnter_shows g 1
  refine ⟨hexp.trans ?_, hsafe, hcause.trans ?_⟩ <;> simp
/-- GCLK_LOST (R290, R445). -/
theorem exec_gclkLost (hon : s.dieOn g = true) (hg : (s.dieOf g).gclk = true) :
    ∃ t, exec (.gclkLost g) s = .next t ∧ (t.dieOf g).gclk = false ∧
      ((s.dieOf g).timed = true → (t.dieOf g).safe = true ∧
        (t.dieOf g).safeCause = if (s.dieOf g).safe then (s.dieOf g).safeCause else 3) ∧
      ((s.dieOf g).timed = false → ∀ c, grpOf c = g → (t.ch c).sw = false ∧ (t.ch c).run = none) := by
  change ∃ t, execGclkLost g s = .next t ∧ _
  rw [execGclkLost, onDie_on hon, if_neg (by simp [hg])]
  refine ⟨_, rfl, ?_⟩
  cases ht : (s.dieOf g).timed with
  | true =>
    obtain ⟨hsafe, hcause, -, hclk⟩ := (s.updDie g fun d => { d with gclk := false }).safeEnter_shows g 3
    refine ⟨hclk.trans ?_, fun _ => ⟨hsafe, hcause.trans ?_⟩, nofun⟩ <;> simp
  | false => exact ⟨by simp [State.dieOf, State.updDie], nofun, fun _ c hc => State.pullDown_off _ hc⟩
/-- MCLK_LOST (R249, R445). -/
theorem exec_mclkLost (hon : s.dieOn g = true) (ht : (s.dieOf g).timed = true) :
    ∃ t, exec (.mclkLost g) s = .next t ∧ (t.dieOf g).timed = false ∧ t.die = s.die ∧
      ((s.dieOf g).gclk = true → (∃ r ∈ (t.dieOf g).store, r.code = 0x4A ∧ r.time = s.dieNow g / 2 ^ 10 % 2 ^ 40) ∧
        ((s.dieOf g).safe = false → t.chans = s.chans)) ∧
      ((s.dieOf g).gclk = false → ∀ c, grpOf c = g → (t.ch c).sw = false) := by
  change ∃ t, execMclkLost g s = .next t ∧ _
  rw [execMclkLost, onDie_on hon, if_neg (by simp [ht])]
  refine ⟨_, rfl, ?_⟩
  cases hg : (s.dieOf g).gclk with
  | true =>
    have hrec := State.local_store (s := s) (g := g) (code := 0x4A) (chan := 0xF) (cls := 2) (data := 0) (by decide)
    rw [State.localTime, if_pos ht] at hrec
    refine ⟨by simp [State.dieOf, State.updDie], by simp, fun _ => ⟨by simpa [State.dieOf, State.updDie] using hrec, fun hsafe => ?_⟩, nofun⟩
    have hkept : ((s.local g 0x4A 0xF 2 0).dieOf g).safe = false :=
      (congrArg Die.safe (State.dieOf_ctl State.local_ctl g)).trans hsafe
    simp [State.regridAll_unsafe, hkept]
  | false => exact ⟨by simp [State.dieOf, State.updDie], by simp, nofun, fun _ c hc => (State.pullDown_off _ hc).1⟩
/-- MCLK_LOCK (R21, R249). -/
theorem exec_mclkLock (hp : (s.dieOf g).powered = true) (hh : (s.dieOf g).hold = false) (ht : (s.dieOf g).timed = false) :
    ∃ t, exec (.mclkLock g) s = .next t ∧ (t.dieOf g).timed = true ∧ (t.dieOf g).rate = 0 ∧ (t.dieOf g).gotTime = (s.dieOf g).gotTime ∧
      (t.link g).wire = [] ∧ t.die = s.die ∧ ((s.dieOf g).safe = false → t.chans = s.chans) := by
  change ∃ t, execMclkLock g s = .next t ∧ _
  rw [execMclkLock, if_pos (by simp [hp, hh]), State.mclkLock, if_neg (by simp [ht])]
  refine ⟨_, rfl, ?_⟩
  refine ⟨?_, ?_, ?_, ?_, ?_, fun hsafe => ?_⟩
  · simp [State.dieOf, State.updDie]
  · simp [State.dieOf, State.updDie]
  · simp [State.dieOf, State.updDie, State.openValue, State.updLink]
  · simp [State.link, State.updLink, State.openValue]
  · simp [State.openValue]
  · rw [State.regridAll_unsafe (by simpa [State.openValue, State.dieOf, State.updDie, State.updLink] using hsafe)]
    rfl

/-! Limp-home -/

/-- A change of LIMPx (R293). -/
theorem limpPinTo_shows (s : State) (g : Grp) (high : Bool) :
    ((s.limpPinTo g high).dieOf g).limpPin.1 = high ∧ ((s.limpPinTo g high).dieOf g).limp = (s.dieOf g).limp ∧
      (s.limpPinTo g high).chans = s.chans := ⟨s.limpPinTo_pin g high, s.limpPinTo_limp g high, rfl⟩
/-- The state in which a level of LIMPx is taken (R293). -/
def State.limpLevel (s : State) (g : Grp) (high : Bool) : State := (s.limpPinTo g high).updDie g fun d => { d with limpLvl := high }
theorem State.limpTake_held {high : Bool} {k : State → State} (h : s.limpHeld g high = true) : s.limpTake g high k = k (s.limpLevel g high) :=
  if_pos h
theorem State.limpLevel_shows (s : State) (g : Grp) (high : Bool) :
    ((s.limpLevel g high).dieOf g).limpPin.1 = high ∧ ((s.limpLevel g high).dieOf g).limpLvl = high := by
  have hpin := s.limpPinTo_pin g high
  exact ⟨by simpa [State.limpLevel] using hpin, by simp [State.limpLevel]⟩
theorem exec_limpHomeBegin_change (hon : s.dieOn g = true) :
    exec (.limpHomeBegin ⟨g, false⟩) s = .next (s.limpPinTo g (!s.don (F.GRP_LIMP_CTRL_ACTIVE_LOW g))) := by
  change execLimpHomeBegin ⟨g, false⟩ s = _
  rw [execLimpHomeBegin, onDie_on hon]
  rfl
theorem exec_limpHomeEnd_change (hon : s.dieOn g = true) :
    exec (.limpHomeEnd ⟨g, false⟩) s = .next (s.limpPinTo g (s.don (F.GRP_LIMP_CTRL_ACTIVE_LOW g))) := by
  change execLimpHomeEnd ⟨g, false⟩ s = _
  rw [execLimpHomeEnd, onDie_on hon]
  rfl
/-- LIMP_HOME_BEGIN once the level has been held (R293). -/
theorem exec_limpHomeBegin_held (hon : s.dieOn g = true) (hen : s.don (F.GRP_LIMP_CTRL_ENABLE g) = true) (hlock : s.don (F.GRP_LOCK g) = true)
    (hheld : s.limpHeld g (!s.don (F.GRP_LIMP_CTRL_ACTIVE_LOW g)) = true) :
    ∃ t, exec (.limpHomeBegin ⟨g, true⟩) s = .next t ∧ (t.dieOf g).limpPin.1 = (!s.don (F.GRP_LIMP_CTRL_ACTIVE_LOW g)) ∧
      (t.dieOf g).limpLvl = (!s.don (F.GRP_LIMP_CTRL_ACTIVE_LOW g)) ∧ (t.dieOf g).limp = true := by
  change ∃ t, execLimpHomeBegin ⟨g, true⟩ s = .next t ∧ _
  rw [execLimpHomeBegin, onDie_on hon, if_pos rfl, State.limpTake_held hheld]
  refine ⟨_, rfl, ?_⟩
  obtain ⟨hpin, hlvl⟩ := s.limpLevel_shows g (!s.don (F.GRP_LIMP_CTRL_ACTIVE_LOW g))
  have hdue : (s.limpLevel g (!s.don (F.GRP_LIMP_CTRL_ACTIVE_LOW g))).limpDue g = true := by
    have hdon (f : Fld) : (s.limpLevel g (!s.don (F.GRP_LIMP_CTRL_ACTIVE_LOW g))).don f = s.don f := rfl
    rw [State.limpDue, State.limpOn, hlvl, hdon, hdon, hdon, hen, hlock]
    cases s.don (F.GRP_LIMP_CTRL_ACTIVE_LOW g) <;> rfl
  have h := State.limpCheck_ctl (s.limpLevel g (!s.don (F.GRP_LIMP_CTRL_ACTIVE_LOW g))) g
  exact ⟨(congrArg (fun d => d.limpPin.1) h).trans hpin, (congrArg Die.limpLvl h).trans hlvl,
    (congrArg Die.limp h).trans (by simp [hdue])⟩
/-- LIMP_HOME_END once the level has been held (R294). -/
theorem exec_limpHomeEnd_held (hon : s.dieOn g = true) (hheld : s.limpHeld g (s.don (F.GRP_LIMP_CTRL_ACTIVE_LOW g)) = true) :
    ∃ t, exec (.limpHomeEnd ⟨g, true⟩) s = .next t ∧ (t.dieOf g).limpPin.1 = s.don (F.GRP_LIMP_CTRL_ACTIVE_LOW g) ∧
      (t.dieOf g).limpLvl = s.don (F.GRP_LIMP_CTRL_ACTIVE_LOW g) ∧ (t.dieOf g).limp = false := by
  change ∃ t, execLimpHomeEnd ⟨g, true⟩ s = .next t ∧ _
  rw [execLimpHomeEnd, onDie_on hon, if_pos rfl, State.limpTake_held hheld]
  refine ⟨_, rfl, ?_⟩
  obtain ⟨hpin, hlvl⟩ := s.limpLevel_shows g (s.don (F.GRP_LIMP_CTRL_ACTIVE_LOW g))
  have h := State.limpEnd_ctl (s.limpLevel g (s.don (F.GRP_LIMP_CTRL_ACTIVE_LOW g))) g
  exact ⟨(congrArg (fun d => d.limpPin.1) h).trans hpin, (congrArg Die.limpLvl h).trans hlvl, congrArg Die.limp h⟩
end
end Sys2Proof.Machine

namespace Sys2Proof
open Machine

/-- Settles O4: of a die only its reports and its local Ledger change while its channels take their states. -/
theorem safeStateCommands : Obligations.SafeStateCommands := by
  unfold Obligations.SafeStateCommands
  exact ⟨fun _ _ => exec_watchdogExpiry, fun _ _ => exec_gclkLost, fun _ _ hp hh => congrArg _ (if_pos (by simp [hp, hh])),
    fun _ _ => exec_mclkLost, fun _ _ => exec_mclkLock, fun s g h => ⟨_, exec_limpHomeBegin_change h, limpPinTo_shows s g _⟩,
    fun _ _ => exec_limpHomeBegin_held, fun s g h => ⟨_, exec_limpHomeEnd_change h, limpPinTo_shows s g _⟩, fun _ _ => exec_limpHomeEnd_held⟩

end Sys2Proof

/-! ### What the governor reads, and the writes that reach it (R24 to R28) -/

namespace Sys2Proof.Machine

/-- A word that the model of dissipation reads: a channel's mode or current limit, or the declared supplies. -/
def Fld.modelled (f : Fld) : Bool :=
  match f.unit with
  | .ch _ => f.off == 0x20 || f.off == 0x48
  | .root => f.off == 0x44
  | _ => false

theorem Fld.plain_of_modelled {f : Fld} (h : f.modelled = true) : f.plain = true := by
  refine Fld.plain_iff.mpr ⟨fun e => ?_, ?_, ?_, ?_⟩
  · unfold Fld.modelled at h
    split at h <;> simp [e] at h
  all_goals
    rintro rfl
    cases h
theorem govModel_congr {st st' : Store} (h : ∀ f, f.modelled = true → st'.get f = st.get f) : govModel st' = govModel st := by
  have hmode (c : Ch) : st'.get (F.CH_MODE_MODE c) = st.get (F.CH_MODE_MODE c) := h _ rfl
  have hdecl (g : Grp) : st'.get (vdeclFld g) = st.get (vdeclFld g) := h _ rfl
  have hlimit (c : Ch) : st'.get (F.OUT_LIMIT_CUR_LIMIT c) = st.get (F.OUT_LIMIT_CUR_LIMIT c) := h _ rfl
  simp only [govModel, chTerm, hmode, hdecl, hlimit]

theorem merge_full (old : Nat) {v : Nat} (h : v < 2 ^ 32) : merge 15 old v = v := by
  have hmask : beMask 15 = 2 ^ 32 - 1 := rfl
  rw [merge, hmask, Nat.and_two_pow_sub_one_eq_mod, Nat.mod_eq_of_lt h]
  exact (congrArg (· ||| v) (Nat.and_zero old)).trans (Nat.zero_or v)

section
variable {s t : State} {rq : Req} {c : Ch} {f : Fld}

theorem State.reg_modeRefuse {code m : Nat} (h : f.plain = true) (ho : f.off ≠ (F.CH_REFUSE_CODE c).off) : (s.modeRefuse c code m).reg f = s.reg f := by
  have hc : F.CH_REFUSE_CODE c ≠ f := fun e => ho (e ▸ rfl)
  have hm : F.CH_REFUSE_REQ_MODE c ≠ f := fun e => ho (e ▸ rfl)
  have ht : F.CH_REFUSE_TALLY c ≠ f := fun e => ho (e ▸ rfl)
  rw [State.modeRefuse, State.reg_cause_plain _ _ h, State.reg_tally, if_neg ht, State.reg_setReg, if_neg hm, State.reg_setReg, if_neg hc]
theorem State.reg_govRefused {new : Nat} (h : f.plain = true) (hu : f.unit ≠ .root) : (s.govRefused rq c new).reg f = s.reg f := by
  have hs : F.ROOT_GOV_STATUS_REFUSED ≠ f := fun e => hu (e ▸ rfl)
  have ht : F.ROOT_GOV_STATUS_REFUSED_TALLY ≠ f := fun e => hu (e ▸ rfl)
  have hl : F.ROOT_GOV_STATUS_LAST_CHANNEL ≠ f := fun e => hu (e ▸ rfl)
  rw [State.govRefused, State.reg_post _ h, State.reg_notify _ _ h, State.reg_cause_plain _ _ h, State.reg_setReg, if_neg hl, State.reg_tally,
    if_neg ht, State.reg_stick, if_neg hs]
theorem State.reg_lockedWrite (h : f.plain = true) (ho : f ≠ F.ROOT_ACCESS_TALLY_A_LOCKED) : s.lockedWrite.reg f = s.reg f := by
  rw [State.lockedWrite, State.reg_cause_plain _ _ h, State.reg_tally, if_neg (Ne.symm ho)]
/-- MODEL and OVER are the only fields that the governor's update changes. -/
theorem State.reg_govUpdate (hm : f ≠ F.ROOT_GOV_MODEL) (ho : f ≠ F.ROOT_GOV_STATUS_OVER) : s.govUpdate.reg f = s.reg f := by
  rw [State.govUpdate, State.reg_setReg, if_neg (Ne.symm ho), State.reg_setReg, if_neg (Ne.symm hm)]
/-- MODEL and OVER after the governor's update are those of the state that stands then (R27). -/
theorem State.govUpdate_shows (s : State) : s.govUpdate.reg F.ROOT_GOV_STATUS_OVER = b2n (decide (s.govUpdate.ceiling < govModel s.govUpdate.regs)) ∧
    s.govUpdate.reg F.ROOT_GOV_MODEL = govModel s.govUpdate.regs % 2 ^ 14 := by
  have hceil : s.govUpdate.ceiling = s.ceiling := by rw [State.ceiling, State.reg_govUpdate (by decide) (by decide), State.ceiling]
  have hmodel : govModel s.govUpdate.regs = govModel s.regs :=
    govModel_congr fun f hf => State.reg_govUpdate (by rintro rfl; cases hf) (by rintro rfl; cases hf)
  rw [hceil, hmodel]
  refine ⟨?_, by simp [State.govUpdate]⟩
  rw [State.govUpdate, State.reg_setReg, if_pos rfl]
  cases decide (s.ceiling < govModel s.regs) <;> rfl

/-! Writes of whole words -/

/-- A full write of an RW row by any requester but the controller stores the bits written (R37). -/
theorem State.rowWrite_full {u : U} {r : Row} {v : Nat} (hrq : rq ≠ .fw) (hacc : r.acc = .rw) (hcov : r.covered 15 = true) (hv : v < 2 ^ 32) :
    s.rowWrite rq u r 15 v = (storedAs u r (s.reg (r.fld u)) (v / 2 ^ r.lo % 2 ^ r.w), false, false) := by
  simp [State.rowWrite, hrq, hacc, hcov, merge_full _ hv]
/-- Two stores written with the same values agree in every field in which they agreed. -/
theorem Store.get_foldl_set_congr {k : Row → Fld} {a b : Row → Nat} {l : List Row} {x y : Store} (h : ∀ r ∈ l, a r = b r) (hf : x.get f = y.get f) :
    (l.foldl (fun st r => st.set (k r) (a r)) x).get f = (l.foldl (fun st r => st.set (k r) (b r)) y).get f := by
  induction l generalizing x y with
  | nil => exact hf
  | cons r l ih =>
    refine ih (fun r hr => h r (List.mem_cons_of_mem _ hr)) ?_
    simp only [h r List.mem_cons_self, Store.get_set, hf]

/-- A write of an RW or RWL row depends only on the row and on its unit's lock. -/
theorem State.rowWrite_congr {u : U} {r : Row} {be : Fin 16} {v : Nat} (hreg : t.reg (r.fld u) = s.reg (r.fld u))
    (hl : t.unitLocked u = s.unitLocked u) (hacc : r.acc ≠ .w1c) : t.rowWrite rq u r be v = s.rowWrite rq u r be v := by
  simp only [State.rowWrite, hreg, hl]
  cases h : r.acc with
  | w1c => exact absurd h hacc
  | _ => rfl
theorem State.rowsWrite_congr {u : U} {off : Nat} {be : Fin 16} {v : Nat} (hrow : ∀ r ∈ rowsAt u off, t.rowWrite rq u r be v = s.rowWrite rq u r be v)
    (hf : t.regs.get f = s.regs.get f) : (t.rowsWrite rq u off be v).get f = (s.rowsWrite rq u off be v).get f :=
  Store.get_foldl_set_congr (fun r hr => congrArg Prod.fst (hrow r hr)) hf

theorem spotAt_ch (c : Ch) : spotAt (U.at (.ch c) 0x20 / 4 * 4) = .word (.ch c) 0x20 ∧ spotAt (U.at (.ch c) 0x48 / 4 * 4) = .word (.ch c) 0x48 := by
  revert c
  decide

/-! The governor's own words -/

/-- A write of the governor's ceiling or of the declared supplies is always taken, and the governor's update follows (R27). -/
theorem State.writeWord_gov {off v : Nat} (hoff : off = 0x40 ∨ off = 0x44) (hrq : rq ≠ .fw) (hv : v < 2 ^ 32) :
    (s.writeWord rq off 15 v).1 = ({ s.noteWord .root off 15 with regs := s.rowsWrite rq .root off 15 v } : State).govUpdate := by
  have hrow (r : Row) (hr : r ∈ rowsAt .root off) : (s.rowWrite rq .root r 15 v).2 = (false, false) := by
    have h : r.acc = .rw ∧ r.covered 15 = true := by obtain rfl | rfl := hoff <;> revert r <;> decide
    rw [State.rowWrite_full hrq h.1 h.2 hv]
  have hho : ((rowsAt .root off).any fun r => (s.rowWrite rq .root r 15 v).2.2) = false :=
    List.any_eq_false.mpr fun r hr => by simp [hrow r hr]
  have hlock : ((rowsAt .root off).any fun r => (s.rowWrite rq .root r 15 v).2.1) = false :=
    List.any_eq_false.mpr fun r hr => by simp [hrow r hr]
  have hro : ((rowsAt .root off).all fun r => r.acc == .ro) = false := by obtain rfl | rfl := hoff <;> rfl
  have hspot : spotAt (off / 4 * 4) = .word .root off := by obtain rfl | rfl := hoff <;> rfl
  have hdone (t : State) : t.wordDone s rq .root off 15 (v &&& beMask 15) = (t.govUpdate, .ok) := by
    obtain rfl | rfl := hoff <;> rfl
  simp only [State.writeWord, hspot, State.unitWrite, hrq]
  simp [linkUnit, State.oneWrite, State.wordHeld, State.wordOwn, hho, hlock, hro, hdone, writePairs]
/-- CEILING after a full write of its word (Table 1.11). -/
theorem State.rowsWrite_ceiling {v : Nat} (hrq : rq ≠ .fw) (hv : v < 2 ^ 32) :
    (s.rowsWrite rq .root 0x40 15 v).get F.ROOT_GOV_CEILING = v % 2 ^ 14 := by
  change Store.get (Store.set s.regs F.ROOT_GOV_CEILING (s.rowWrite rq .root ⟨0x40, 0, 14, 8630, .rw, true⟩ 15 v).1) _ = _
  rw [State.rowWrite_full hrq rfl rfl hv, Store.get_set_same]
  simp [storedAs, Row.fld, lockFld]
/-- The declared supplies after a full write of their word, each bounded (Table 1.11). -/
theorem State.rowsWrite_vdecl {v : Nat} (g : Grp) (hrq : rq ≠ .fw) (hv : v < 2 ^ 32) :
    (s.rowsWrite rq .root 0x44 15 v).get (vdeclFld g) = clampN 90 150 (v / 2 ^ (8 * g.val) % 2 ^ 8) := by
  have hclamp (x : Nat) : clampN 90 150 x < 256 := by
    unfold clampN
    (repeat' split) <;> omega
  have hrow (lo : Nat) (hlo : (Row.mk 0x44 lo 8 150 .rw true).covered 15 = true) :
      (s.rowWrite rq .root ⟨0x44, lo, 8, 150, .rw, true⟩ 15 v).1 = clampN 90 150 (v / 2 ^ lo % 2 ^ 8) := by
    rw [State.rowWrite_full hrq rfl hlo hv]
    rfl
  change Store.get ((((Store.set s.regs _ (s.rowWrite rq .root ⟨0x44, 24, 8, 150, .rw, true⟩ 15 v).1).set _
    (s.rowWrite rq .root ⟨0x44, 16, 8, 150, .rw, true⟩ 15 v).1).set _ (s.rowWrite rq .root ⟨0x44, 8, 8, 150, .rw, true⟩ 15 v).1).set _
    (s.rowWrite rq .root ⟨0x44, 0, 8, 150, .rw, true⟩ 15 v).1) (vdeclFld g) = _
  rw [hrow 0 rfl, hrow 8 rfl, hrow 16 rfl, hrow 24 rfl]
  fin_cases g <;> simp [vdeclFld, Row.fld, hclamp]

/-! The words of a channel -/

/-- While the model lies above the effective ceiling a write of CH_MODE that would raise it is refused, by the governor or for a reason of
its own, and changes no mode (R27, R58). -/
theorem State.modeWrite_refused {m p : Nat} (hover : s.ceiling < govModel s.regs) (hraise : govModel s.regs < govModel (modeImage s.regs c m p)) :
    (∀ d, (s.modeWrite rq c m p).1.reg (F.CH_MODE_MODE d) = s.reg (F.CH_MODE_MODE d)) ∧
      (s.modeWrite rq c m p).1.reg (F.CH_MODE_SUPPLY c) = s.reg (F.CH_MODE_SUPPLY c) ∧ (s.modeWrite rq c m p).1.die = s.die ∧
      ∀ d l, (s.modeWrite rq c m p).2 ≠ .modeChange d l := by
  have hrefused : s.govRefuses (modeImage s.regs c m p) = true := by simp [State.govRefuses, hraise, Nat.lt_trans hover hraise]
  unfold State.modeWrite
  dsimp only
  split
  · exact ⟨fun _ => rfl, rfl, rfl, nofun⟩
  · split
    · exact ⟨fun d => State.reg_modeRefuse rfl (by simp), State.reg_modeRefuse rfl (by simp), by simp, nofun⟩
    · have hkept {f : Fld} (h : f.plain = true) (ho : f.off ≠ (F.CH_REFUSE_CODE c).off) (hu : f.unit ≠ .root) :
          ((s.govRefused rq c (govModel (modeImage s.regs c m p))).modeRefuse c 9 m).reg f = s.reg f :=
        (State.reg_modeRefuse h ho).trans (State.reg_govRefused h hu)
      exact ⟨fun d => hkept rfl (by simp) nofun, hkept rfl (by simp) nofun, by simp, nofun⟩
/-- A full write of CH_MODE is the change of mode that it asks for (R57); where none begins (`hno`) no port leaves its device. -/
theorem State.writeWord_mode {v : Nat} (hrq : rq ≠ .fw) (hv : v < 2 ^ 32)
    (hno : ∀ d l, (s.modeWrite rq c (v % 16) (v / 16 % 4)).2 ≠ .modeChange d l) :
    (s.writeWord rq (U.at (.ch c) 0x20) 15 v).1 = (s.modeWrite rq c (v % 16) (v / 16 % 4)).1 := by
  simp only [State.writeWord, (spotAt_ch c).1, State.unitWrite, hrq]
  simp [linkUnit, writePairs, State.oneWrite, State.wordHeld, State.wordOwn, merge_full _ hv]
theorem rowsAt_limit (c : Ch) : rowsAt (.ch c) 0x48 =
    [⟨0x48, 16, 10, 0, .rwl, true⟩, ⟨0x48, 8, 5, 0, .rwl, true⟩, ⟨0x48, 0, 5, 12, .rwl, true⟩] := rfl
theorem mem_rowsAt_limit {r : Row} (h : r ∈ rowsAt (.ch c) 0x48) : r.off = 0x48 ∧ r.acc = .rwl := by
  rw [rowsAt_limit] at h
  simp only [List.mem_cons, List.not_mem_nil, or_false] at h
  obtain rfl | rfl | rfl := h <;> exact ⟨rfl, rfl⟩
/-- A locked write of OUT_LIMIT is counted, and every row of the word is written as if it had not been (R39). -/
theorem State.rowWrite_limit_locked {r : Row} {v : Nat} (hr : r ∈ rowsAt (.ch c) 0x48) :
    s.lockedWrite.rowWrite rq (.ch c) r 15 v = s.rowWrite rq (.ch c) r 15 v := by
  obtain ⟨hoff, hacc⟩ := mem_rowsAt_limit hr
  have hkeeps {f : Fld} (h : f.plain = true) (hu : f.unit ≠ .root) : s.lockedWrite.reg f = s.reg f :=
    State.reg_lockedWrite h fun e => hu (e ▸ rfl)
  have hplain : (r.fld (.ch c)).plain = true := by
    rw [Fld.plain_iff]
    exact ⟨by simp [Row.fld, hoff], by simp [Row.fld], by simp [Row.fld], by simp [Row.fld]⟩
  exact State.rowWrite_congr (hkeeps hplain nofun) (congrArg (· == 1) (hkeeps rfl nofun)) (by simp [hacc])
/-- A state that a write of OUT_LIMIT has counted in, or not: what the write and the governor read there is as it was. -/
theorem State.counted_limit {v : Nat} {lock : Bool} :
    (∀ f, f.plain = true → f.unit ≠ .root → (if lock then s.lockedWrite else s).reg f = s.reg f) ∧
    (if lock then s.lockedWrite else s).ceiling = s.ceiling ∧
    govModel (if lock then s.lockedWrite else s).regs = govModel s.regs ∧
    govModel ((if lock then s.lockedWrite else s).rowsWrite rq (.ch c) 0x48 15 v) = govModel (s.rowsWrite rq (.ch c) 0x48 15 v) := by
  have hmodelled {f : Fld} (h : f.modelled = true) : s.lockedWrite.regs.get f = s.regs.get f := by
    exact State.reg_lockedWrite (Fld.plain_of_modelled h) (by rintro rfl; cases h)
  cases lock with
  | false => exact ⟨fun _ _ _ => rfl, rfl, rfl, rfl⟩
  | true =>
    exact ⟨fun f h hu => State.reg_lockedWrite h fun e => hu (e ▸ rfl), congrArg (min · 8630) (State.reg_lockedWrite rfl (by decide)),
      govModel_congr fun _ => hmodelled,
      govModel_congr fun _ h => State.rowsWrite_congr (fun _ hr => State.rowWrite_limit_locked hr) (hmodelled h)⟩
theorem State.oneWrite_limit {v addr : Nat} (hrq : rq ≠ .fw) (hover : s.ceiling < govModel s.regs)
    (hraise : govModel s.regs < govModel (s.rowsWrite rq (.ch c) 0x48 15 v)) (d : Ch) :
    (s.oneWrite rq (.ch c) 0x48 addr 15 v).1.reg (F.OUT_LIMIT_CUR_LIMIT d) = s.reg (F.OUT_LIMIT_CUR_LIMIT d) := by
  have hho : ((rowsAt (.ch c) 0x48).any fun r => (s.rowWrite rq (.ch c) r 15 v).2.2) = false := by
    refine List.any_eq_false.mpr fun r hr => ?_
    simp only [State.rowWrite, (mem_rowsAt_limit hr).2, hrq, false_and, if_false]
    (repeat' split) <;> simp
  unfold State.oneWrite
  split
  · next q hq =>
    obtain ⟨-, rfl⟩ : s.isMember c = true ∧ (s, .dropped) = q := by simpa [State.wordHeld] using hq
    rfl
  · split
    · next q hq => cases hq
    · simp only [hho, Bool.false_eq_true, if_false]
      generalize ((rowsAt (.ch c) 0x48).any fun r => (s.rowWrite rq (.ch c) r 15 v).2.1) = lock
      obtain ⟨hreg, hceil, hmodel, hwritten⟩ := State.counted_limit (s := s) (rq := rq) (c := c) (v := v) (lock := lock)
      have hlimit := hreg (F.OUT_LIMIT_CUR_LIMIT d) rfl nofun
      generalize (if lock then s.lockedWrite else s) = t at *
      have hrefused : t.govRefuses (t.rowsWrite rq (.ch c) 0x48 15 v) = true := by
        simp [State.govRefuses, hmodel, hwritten, hceil, hraise, Nat.lt_trans hover hraise]
      simp only [hrefused, beq_self_eq_true, Bool.true_and, if_true]
      split
      · exact hlimit
      · split
        · exact hlimit
        · exact (State.reg_govRefused rfl (by simp)).trans hlimit
/-- While the model lies above the effective ceiling a write of OUT_LIMIT that would raise it changes no current limit (R27). -/
theorem State.writeWord_limit {v : Nat} (hrq : rq ≠ .fw) (hover : s.ceiling < govModel s.regs)
    (hraise : govModel s.regs < govModel (s.rowsWrite rq (.ch c) 0x48 15 v)) :
    (∀ d, (s.writeWord rq (U.at (.ch c) 0x48) 15 v).1.reg (F.OUT_LIMIT_CUR_LIMIT d) = s.reg (F.OUT_LIMIT_CUR_LIMIT d)) ∧
      (s.writeWord rq (U.at (.ch c) 0x48) 15 v).1.die = s.die := by
  simp only [State.writeWord, (spotAt_ch c).2, State.unitWrite, hrq]
  simp only [linkUnit, writePairs, Bool.false_and, List.contains_nil, Bool.false_eq_true, if_false, and_false, false_and]
  exact ⟨State.oneWrite_limit hrq hover hraise, by simp⟩
end

end Sys2Proof.Machine

namespace Sys2Proof
open Machine

/-- Settles O39: the governor's update follows its words, and a raising change of mode or limit ends in its refusal. -/
theorem governorWrites : Obligations.GovernorWrites := by
  unfold Obligations.GovernorWrites
  have hfull (rq : Req) : (enables rq 15).val ≠ 0 := by simp [enables_full]
  refine ⟨fun s rq v hrq => ⟨fun hs => ?_, fun hs => ?_⟩, fun s rq c v hrq _ hover => ⟨fun hs hraise => ?_, fun hs hraise => ?_⟩⟩
  · refine ⟨_, writeCmd_serves hs (hfull rq), ?_⟩
    rw [enables_full, State.writeWord_gov (.inl rfl) hrq v.isLt]
    obtain ⟨hover, hmodel⟩ := State.govUpdate_shows { s.noteWord .root 0x40 15 with regs := s.rowsWrite rq .root 0x40 15 v.toNat }
    refine ⟨?_, hover, hmodel, by simp, by simp, by simp, by simp⟩
    rw [State.reg_govUpdate (by decide) (by decide)]
    exact State.rowsWrite_ceiling hrq v.isLt
  · refine ⟨_, writeCmd_serves hs (hfull rq), ?_⟩
    rw [enables_full, State.writeWord_gov (.inr rfl) hrq v.isLt]
    obtain ⟨hover, -⟩ := State.govUpdate_shows { s.noteWord .root 0x44 15 with regs := s.rowsWrite rq .root 0x44 15 v.toNat }
    refine ⟨fun g => ?_, hover, by simp, by simp, by simp, by simp⟩
    rw [State.reg_govUpdate (by simp [vdeclFld]) (by simp [vdeclFld])]
    exact State.rowsWrite_vdecl g hrq v.isLt
  · refine ⟨_, writeCmd_serves hs (hfull rq), ?_⟩
    obtain ⟨hmodes, hsupply, hdie, hno⟩ := State.modeWrite_refused (rq := rq) hover hraise
    rw [enables_full, State.writeWord_mode hrq v.isLt hno]
    exact ⟨hmodes, hsupply, hdie⟩
  · refine ⟨_, writeCmd_serves hs (hfull rq), ?_⟩
    rw [enables_full]
    exact State.writeWord_limit hrq hover hraise

end Sys2Proof

/-! ### What lasts through resets (R29, R458)

`Fld.lasting` picks out the governor's words, FOLD_CTRL and the STATE of a group: of what the resets and the supplies of the hub die set
off, only its power-on reset, the end of a hub die reset (FOLD_CTRL) and a change of STATE itself write one of them. One lemma per operation
says so. -/

namespace Sys2Proof.Machine

/-- Where the fields stand that last: by the unit, the word's offset and the field's lowest bit. -/
@[simp] def lastingAt : U → Nat → Nat → Bool
  | .root, o, _ => decide (0x40 ≤ o) && decide (o ≤ 0x4C)
  | .fold, o, _ => o == 0x20
  | .grp _, o, l => o == 0x20 && l == 28
  | _, _, _ => false
/-- A field of the governor, a field of FOLD_CTRL, or the STATE of a group. -/
def Fld.lasting (f : Fld) : Bool := lastingAt f.unit f.off f.lo
@[simp] theorem Fld.lasting_mk (u : U) (o l w d : Nat) : (Fld.mk u o l w d).lasting = lastingAt u o l := rfl

theorem Fld.ne_of_lasting {f k : Fld} (hk : k.lasting = true) (hf : f.lasting = false) : f ≠ k := by
  rintro rfl
  simp [hk] at hf
@[simp high] theorem Store.get_set_lasting {st : Store} {f k : Fld} (v : Nat) (hk : k.lasting = true) (hf : f.lasting = false) :
    (st.set f v).get k = st.get k := Store.get_set_ne st v (Fld.ne_of_lasting hk hf)
theorem hostFld_lasting {k : Fld} (h : k.lasting = true) : hostFld k = false := by
  unfold Fld.lasting at h
  unfold hostFld
  cases hu : k.unit <;> simp_all
@[simp] theorem winState_lasting (x : Strm) (fine : Bool) : (winState x fine).lasting = false := by cases fine <;> rfl

section
variable {s : State} {fld : Fld} (hk : fld.lasting = true)
include hk

/-! Counts, causes, notifications and records -/

@[simp] theorem State.tally_lasting {f : Fld} {k : Nat} (hf : f.lasting = false) : (s.tally f k).regs.get fld = s.regs.get fld := by
  unfold State.tally
  simp -implicitDefEqProofs [hk, hf]
@[simp] theorem State.wrapTally_lasting {f : Fld} {k : Nat} (hf : f.lasting = false) :
    (s.wrapTally f k).regs.get fld = s.regs.get fld := by
  unfold State.wrapTally
  simp -implicitDefEqProofs [hk, hf]
@[simp] theorem State.stick_lasting {f : Fld} {v : Nat} (hf : f.lasting = false) : (s.stick f v).regs.get fld = s.regs.get fld := by
  unfold State.stick
  simp -implicitDefEqProofs [hk, hf]
@[simp] theorem State.orCause_lasting {u : U} {k : Nat} : (s.orCause u k).regs.get fld = s.regs.get fld := by
  unfold State.orCause
  exact State.stick_lasting hk (by cases u <;> rfl)
@[simp] theorem State.hwSet_lasting {f : Fld} {v : Nat} (hf : f.lasting = false) : (s.hwSet f v).regs.get fld = s.regs.get fld := by
  unfold State.hwSet
  simp -implicitDefEqProofs [hk, hf]
@[simp] theorem State.crossBlocked_lasting : s.crossBlocked.regs.get fld = s.regs.get fld := by
  unfold State.crossBlocked
  simp -implicitDefEqProofs [hk]
@[simp] theorem State.requestMsix_lasting {k : Nat} {u : Option U} : (s.requestMsix k u).regs.get fld = s.regs.get fld := by
  unfold State.requestMsix
  simp -implicitDefEqProofs [hk]
@[simp] theorem State.unitMessage_lasting {u : U} : (s.unitMessage u).regs.get fld = s.regs.get fld := by
  unfold State.unitMessage
  simp -implicitDefEqProofs [hk]
@[simp] theorem State.cause_lasting {u : U} {k : Nat} : (s.cause u k).regs.get fld = s.regs.get fld := by
  unfold State.cause
  simp -implicitDefEqProofs [hk]
@[simp] theorem State.loseNote_lasting {kind : Nat} : (s.loseNote kind).regs.get fld = s.regs.get fld := by
  unfold State.loseNote
  simp -implicitDefEqProofs [hk]
@[simp] theorem State.raise_lasting {kind : Nat} {time : Nat} {body : List Place} :
    (s.raise kind time body).regs.get fld = s.regs.get fld := by
  unfold State.raise
  simp -implicitDefEqProofs [hk]
@[simp] theorem State.notify_lasting {kind : Nat} {body : List Place} : (s.notify kind body).regs.get fld = s.regs.get fld := by
  unfold State.notify
  simp -implicitDefEqProofs [hk]
@[simp] theorem State.post_lasting {r : LRec} : (s.post r).regs.get fld = s.regs.get fld := by
  unfold State.post
  simp -implicitDefEqProofs [hk]

/-! Words sent to the groups, the Fold, machine time and the reflex engine -/

@[simp] theorem State.imageWrite_lasting {g : Grp} {off : Nat} {data : Nat} :
    (s.imageWrite g off data).2.regs.get fld = s.regs.get fld := by
  unfold State.imageWrite
  split <;> simp -implicitDefEqProofs [hk]
@[simp] theorem State.sendWord_lasting {u : U} {off : Nat} : (s.sendWord u off).2.regs.get fld = s.regs.get fld := by
  unfold State.sendWord
  split <;> simp -implicitDefEqProofs [hk]
@[simp] theorem State.edgeMasks_lasting : s.edgeMasks.regs.get fld = s.regs.get fld := by
  unfold State.edgeMasks
  simp -implicitDefEqProofs [hk]
@[simp] theorem State.halt_lasting {r : RingNo} {cause : Nat} : (s.halt r cause).regs.get fld = s.regs.get fld := by
  unfold State.halt
  simp -implicitDefEqProofs [hk]
@[simp] theorem State.lowWater_lasting : s.lowWater.regs.get fld = s.regs.get fld := by
  unfold State.lowWater
  simp -implicitDefEqProofs [hk]
@[simp] theorem State.slotLate_lasting {target : Nat} {action : Nat} {t : Nat} {outcome : Nat} {where_ : Nat} {lateness : Nat} :
    (s.slotLate target action t outcome where_ lateness).regs.get fld = s.regs.get fld := by
  unfold State.slotLate
  simp -implicitDefEqProofs [hk]
@[simp] theorem State.setPair_lasting {lo : Fld} {hi : Fld} {v : Nat} (hlo : lo.lasting = false) (hhi : hi.lasting = false) :
    (s.setPair lo hi v).regs.get fld = s.regs.get fld := by
  unfold State.setPair
  simp -implicitDefEqProofs [hk, hlo, hhi]
@[simp] theorem State.stepRelease_lasting : s.stepRelease.regs.get fld = s.regs.get fld := by
  unfold State.stepRelease
  split <;> simp -implicitDefEqProofs [hk]
@[simp] theorem State.condition_lasting {lane : Grp} {x : Cond} : (s.condition lane x).regs.get fld = s.regs.get fld := by
  unfold State.condition
  simp -implicitDefEqProofs [hk]
@[simp] theorem State.cmpUnset_lasting {x : Strm} {fine : Bool} : (s.cmpUnset x fine).regs.get fld = s.regs.get fld := by
  unfold State.cmpUnset
  simp -implicitDefEqProofs [hk]
@[simp] theorem State.learn_lasting {c : Ch} {x : Rat} {d : Rat} : (s.learn c x d).regs.get fld = s.regs.get fld := by
  unfold State.learn
  simp -implicitDefEqProofs [hk]
@[simp] theorem State.trend_lasting {c : Ch} {x : Rat} : (s.trend c x).regs.get fld = s.regs.get fld := by
  unfold State.trend
  simp -implicitDefEqProofs [hk]
@[simp] theorem State.strokeDecide_lasting {c : Ch} {w : Stroke} {kind : Nat} {reason : Nat} :
    (s.strokeDecide c w kind reason).regs.get fld = s.regs.get fld := by
  unfold State.strokeDecide
  simp -implicitDefEqProofs [hk]
@[simp] theorem State.strokeAbort_lasting {c : Ch} : (s.strokeAbort c).regs.get fld = s.regs.get fld := by
  unfold State.strokeAbort
  split <;> simp -implicitDefEqProofs [hk]

/-! The end of a tick -/

@[simp] theorem State.tickEnd_lasting : s.tickEnd.regs.get fld = s.regs.get fld := by
  unfold State.tickEnd
  simp -implicitDefEqProofs [hk]

/-! The Drover, the chains and the ports -/

@[simp] theorem State.drvTo_lasting {k : DrvNo} {st : Nat} : (s.drvTo k st).regs.get fld = s.regs.get fld := by
  unfold State.drvTo
  simp -implicitDefEqProofs [hk]
@[simp] theorem State.drvEvent_lasting {k : DrvNo} {i : Nat} : (s.drvEvent k i).regs.get fld = s.regs.get fld := by
  unfold State.drvEvent
  simp -implicitDefEqProofs [hk]
@[simp] theorem State.setCur_lasting {k : DrvNo} {a : Nat} : (s.setCur k a).regs.get fld = s.regs.get fld := by
  unfold State.setCur
  simp -implicitDefEqProofs [hk]
@[simp] theorem State.preFlag_lasting {k : DrvNo} : (s.preFlag k).regs.get fld = s.regs.get fld := by
  unfold State.preFlag
  simp -implicitDefEqProofs [hk]
@[simp] theorem State.levelShow_lasting {k : DrvNo} : (s.levelShow k).regs.get fld = s.regs.get fld := by
  unfold State.levelShow
  simp -implicitDefEqProofs [hk]
@[simp] theorem State.queueEmpty_lasting {k : DrvNo} : (s.queueEmpty k).regs.get fld = s.regs.get fld := by
  unfold State.queueEmpty
  simp -implicitDefEqProofs [hk]
@[simp] theorem State.drvDrop_lasting {k : DrvNo} : (s.drvDrop k).regs.get fld = s.regs.get fld := by
  unfold State.drvDrop
  simp -implicitDefEqProofs [hk]
@[simp] theorem State.drvHalt_lasting {k : DrvNo} {cause : Nat} {a : Nat} : (s.drvHalt k cause a).regs.get fld = s.regs.get fld := by
  unfold State.drvHalt
  simp -implicitDefEqProofs [hk]
@[simp] theorem State.swapDone_lasting {x : Strm} {bank : Nat} : (s.swapDone x bank).regs.get fld = s.regs.get fld := by
  unfold State.swapDone
  simp -implicitDefEqProofs [hk]
@[simp] theorem State.syncReset_lasting {x : Strm} : (s.syncReset x).regs.get fld = s.regs.get fld := by
  unfold State.syncReset
  dsimp only
  (repeat' split) <;> simp -implicitDefEqProofs [hk]
@[simp] theorem State.portSet_lasting {c : Ch} {st : Nat} {rs : Nat} : (s.portSet c st rs).regs.get fld = s.regs.get fld := by
  unfold State.portSet
  simp -implicitDefEqProofs [hk]
@[simp] theorem State.portGo_lasting {c : Ch} : (s.portGo c).regs.get fld = s.regs.get fld := by
  unfold State.portGo
  split <;> simp -implicitDefEqProofs [hk]
@[simp] theorem State.powering_lasting {c : Ch} : (s.powering c).regs.get fld = s.regs.get fld := by
  unfold State.powering
  simp -implicitDefEqProofs [hk]
@[simp] theorem State.portCheck_lasting {c : Ch} : (s.portCheck c).regs.get fld = s.regs.get fld := by
  unfold State.portCheck
  simp -implicitDefEqProofs [hk]
@[simp] theorem State.portChecks_lasting {g : Grp} : (s.portChecks g).regs.get fld = s.regs.get fld := by
  unfold State.portChecks
  simp -implicitDefEqProofs [hk]
@[simp] theorem State.portBegin_lasting {c : Ch} : (s.portBegin c).regs.get fld = s.regs.get fld := by
  unfold State.portBegin
  simp -implicitDefEqProofs [hk]
@[simp] theorem State.portActive_lasting {c : Ch} : (s.portActive c).regs.get fld = s.regs.get fld := by
  unfold State.portActive
  simp -implicitDefEqProofs [hk]
@[simp] theorem State.portsPower_lasting {g : Grp} : (s.portsPower g).regs.get fld = s.regs.get fld := by
  unfold State.portsPower
  simp -implicitDefEqProofs [hk]

/-! The core voltage and the commands of the host -/

@[simp] theorem State.replan_lasting {kind : Nat} {item : Nat} {before : Nat} {after : Nat} {measure : Nat} :
    (s.replan kind item before after measure).regs.get fld = s.regs.get fld := by
  unfold State.replan
  simp -implicitDefEqProofs [hk]
@[simp] theorem State.vidCeiling_lasting : s.vidCeiling.regs.get fld = s.regs.get fld := by
  unfold State.vidCeiling
  simp -implicitDefEqProofs [hk]
@[simp] theorem State.runEnd_lasting : s.runEnd.regs.get fld = s.regs.get fld := by
  unfold State.runEnd
  simp -implicitDefEqProofs [hk]
@[simp] theorem State.vidNow_lasting : s.vidNow.regs.get fld = s.regs.get fld := by
  unfold State.vidNow
  (repeat' split) <;> simp -implicitDefEqProofs [hk]
@[simp] theorem State.vidRaise_lasting {hw : Bool} : (s.vidRaise hw).regs.get fld = s.regs.get fld := by
  unfold State.vidRaise
  simp -implicitDefEqProofs [hk]
@[simp] theorem State.vidTick_lasting : s.vidTick.regs.get fld = s.regs.get fld := by
  unfold State.vidTick
  simp -implicitDefEqProofs [hk]
@[simp] theorem State.cmdsShow_lasting : s.cmdsShow.regs.get fld = s.regs.get fld := by
  unfold State.cmdsShow
  simp -implicitDefEqProofs [hk]
@[simp] theorem State.cmdsFinish_lasting : s.cmdsFinish.regs.get fld = s.regs.get fld := by
  unfold State.cmdsFinish
  simp -implicitDefEqProofs [hk]
@[simp] theorem State.itemsSet_lasting {p : Item → Bool} {status : Nat} : (s.itemsSet p status).regs.get fld = s.regs.get fld := by
  unfold State.itemsSet
  simp -implicitDefEqProofs [hk]

/-! A group's state -/

@[simp] theorem State.grpReport_lasting {g : Grp} {old : Nat} {cls : Nat} : (s.grpReport g old cls).regs.get fld = s.regs.get fld := by
  unfold State.grpReport
  simp -implicitDefEqProofs [hk]
@[simp] theorem State.slotLost_lasting {x : TxCmd} : (s.slotLost x).regs.get fld = s.regs.get fld := by
  unfold State.slotLost
  split <;> simp -implicitDefEqProofs [hk]
@[simp] theorem State.txLost_lasting {x : TxCmd} : (s.txLost x).regs.get fld = s.regs.get fld := by
  unfold State.txLost
  split <;> simp -implicitDefEqProofs [hk]
@[simp] theorem State.dropTx_lasting {g : Grp} : (s.dropTx g).regs.get fld = s.regs.get fld := by
  unfold State.dropTx
  simp -implicitDefEqProofs [hk]
/-- A change of a group's STATE writes no other field that lasts. -/
theorem State.setGrpState_lasting {g : Grp} {st : Nat} (hne : F.GRP_STATUS_STATE g ≠ fld) :
    (s.setGrpState g st).regs.get fld = s.regs.get fld := by
  unfold State.setGrpState
  simp -implicitDefEqProofs [hk, hne]
omit hk in
theorem State.setGrpState_grpState (s : State) (g : Grp) (st : Nat) (h : st < 16) : (s.setGrpState g st).grpState g = st := by
  have hlasting : (F.GRP_STATUS_STATE g).lasting = true := rfl
  unfold State.setGrpState
  dsimp only
  split
  · assumption
  · simp only [State.grpState, State.reg]
    simp -implicitDefEqProofs [hlasting]
    by_cases h3 : s.regs.get (F.GRP_STATUS_STATE g) = 3 <;> simp [h3, Nat.mod_eq_of_lt h]

/-! The controller, the host side and the resets -/

@[simp] theorem State.fwTo_lasting {st : Nat} : (s.fwTo st).regs.get fld = s.regs.get fld := by
  unfold State.fwTo
  simp -implicitDefEqProofs [hk]
@[simp] theorem State.hostReset_lasting : s.hostReset.regs.get fld = s.regs.get fld := by
  unfold State.hostReset
  simp -implicitDefEqProofs [hk, hostFld_lasting]
@[simp] theorem State.linkLost_lasting : s.linkLost.regs.get fld = s.regs.get fld := by
  unfold State.linkLost
  simp -implicitDefEqProofs [hk]
@[simp] theorem State.softReset_lasting : s.softReset.regs.get fld = s.regs.get fld := by
  unfold State.softReset
  simp -implicitDefEqProofs [hk]
@[simp] theorem State.logError_lasting {unc : Bool} {fatal : Bool} {adv : Bool} {k : Nat} {hdr : List Nat} :
    (s.logError unc fatal adv k hdr).regs.get fld = s.regs.get fld := by
  have herr : (if unc = true then F.HL_ERR_TALLY_A_UNCORRECTABLE else F.HL_ERR_TALLY_A_CORRECTABLE).lasting = false := by cases unc <;> rfl
  unfold State.logError
  simp -implicitDefEqProofs [hk, herr]
@[simp] theorem State.ckBack_lasting {k : DrvNo} : (s.ckBack k).regs.get fld = s.regs.get fld := by
  unfold State.ckBack
  (repeat' split) <;> simp -implicitDefEqProofs [hk]
@[simp] theorem State.drvFatalOne_lasting {k : DrvNo} : (s.drvFatalOne k).regs.get fld = s.regs.get fld := by
  unfold State.drvFatalOne
  simp -implicitDefEqProofs [hk]
@[simp] theorem State.drvFatal_lasting : s.drvFatal.regs.get fld = s.regs.get fld := by
  unfold State.drvFatal
  refine (State.foldl_keep (fun s => s.regs.get fld) (fun s k => ?_) _ _).trans ?_
  · exact State.drvFatalOne_lasting hk
  · rfl
@[simp] theorem State.fatalError_lasting : s.fatalError.regs.get fld = s.regs.get fld := by
  unfold State.fatalError
  simp -implicitDefEqProofs [hk]
@[simp] theorem State.uncError_lasting {k : Nat} {adv : Bool} {hdr : List Nat} :
    (s.uncError k adv hdr).regs.get fld = s.regs.get fld := by
  unfold State.uncError
  simp -implicitDefEqProofs [hk]
@[simp] theorem State.unsupported_lasting {nonPosted : Bool} : (s.unsupported nonPosted).regs.get fld = s.regs.get fld := by
  unfold State.unsupported
  dsimp only
  rw [State.uncError_lasting hk]
  exact State.foldl_snd_keep (fun s => s.regs.get fld) (fun _ _ => by simp) _ _
@[simp] theorem State.reqBlocked_lasting : s.reqBlocked.regs.get fld = s.regs.get fld := by
  unfold State.reqBlocked
  simp -implicitDefEqProofs [hk]
@[simp] theorem State.restartsLost_lasting {g : Grp} : (s.restartsLost g).regs.get fld = s.regs.get fld := by
  unfold State.restartsLost
  simp -implicitDefEqProofs [hk]
@[simp] theorem State.hubResetBegin_lasting {cause : Nat} {r : LRec} : (s.hubResetBegin cause r).regs.get fld = s.regs.get fld := by
  unfold State.hubResetBegin
  simp -implicitDefEqProofs [hk]
@[simp] theorem State.rootReset_lasting {v : Nat} : (s.rootReset v).regs.get fld = s.regs.get fld := by
  unfold State.rootReset
  simp -implicitDefEqProofs [hk]

/-! Writes that take no effect -/

@[simp] theorem State.lockedWrite_lasting : s.lockedWrite.regs.get fld = s.regs.get fld := by
  unfold State.lockedWrite
  simp -implicitDefEqProofs [hk]
@[simp] theorem State.hoDiscard_lasting {addr : Nat} : (s.hoDiscard addr).regs.get fld = s.regs.get fld := by
  unfold State.hoDiscard
  simp -implicitDefEqProofs [hk]
@[simp] theorem State.filtered_lasting : s.filtered.regs.get fld = s.regs.get fld := by
  unfold State.filtered
  simp -implicitDefEqProofs [hk]
@[simp] theorem State.fwRefuse_lasting {u : U} {off : Nat} {addr : Nat} {be : Fin 16} :
    (s.fwRefuse u off addr be).regs.get fld = s.regs.get fld := by
  unfold State.fwRefuse
  simp -implicitDefEqProofs [hk]
@[simp] theorem State.hostDiscard_lasting : s.hostDiscard.regs.get fld = s.regs.get fld := by
  unfold State.hostDiscard
  simp -implicitDefEqProofs [hk]
@[simp] theorem State.keeperEnd_lasting : s.keeperEnd.regs.get fld = s.regs.get fld := by
  unfold State.keeperEnd
  simp -implicitDefEqProofs [hk]
@[simp] theorem State.rulesAgain_lasting : s.rulesAgain.regs.get fld = s.regs.get fld := by
  unfold State.rulesAgain
  simp -implicitDefEqProofs [hk]
@[simp] theorem State.fwAfterReset_lasting : s.fwAfterReset.regs.get fld = s.regs.get fld := by
  unfold State.fwAfterReset
  (repeat' split) <;> simp -implicitDefEqProofs [hk]
end

end Sys2Proof.Machine

/-! ### The resets and supplies of the hub die leave the governor's words (R29) -/

namespace Sys2Proof.Machine

/-- A store from which the fields that a test picks have been cleared gives them their reset values. -/
theorem Store.get_filter_cleared {st : Store} {p : Fld → Bool} {f : Fld} (h : p f = true) : Store.get (st.filter fun e => !p e.1) f = f.dflt := by
  induction st with
  | nil => rfl
  | cons e t ih =>
    obtain ⟨k, v⟩ := e
    rw [List.filter_cons]
    split
    · next hp =>
      have hne : k ≠ f := by
        rintro rfl
        simp [h] at hp
      simpa [Store.get, hne] using ih
    · exact ih
/-- A write of a word stores nothing in the fields of another word. -/
theorem State.rowsWrite_off {s : State} {rq : Req} {u : U} {off : Nat} {be : Fin 16} {v : Nat} {f : Fld} (h : f.off ≠ off) :
    (s.rowsWrite rq u off be v).get f = s.regs.get f := by
  refine List.foldlRecOn (motive := fun st => Store.get st f = s.regs.get f) _ _ rfl fun st hst r hr => ?_
  have hr : r.off = off := by simpa using (List.mem_filter.mp hr).2
  exact (Store.get_set_ne st _ fun e => h ((congrArg Fld.off e).symm.trans hr)).trans hst

section
variable {s : State} {fld : Fld} (hk : fld.lasting = true)
include hk

theorem State.writeWord_rootReset_lasting {rq : Req} {be : Fin 16} {v : Nat} (hoff : fld.off ≠ 0x24) :
    (s.writeWord rq 0x24 be v).1.regs.get fld = s.regs.get fld := by
  have hone {a : Nat} : (s.oneWrite rq .root 0x24 a be v).1.regs.get fld = s.regs.get fld := by
    simp only [State.oneWrite, State.wordHeld, State.wordOwn, Bool.false_eq_true, if_false]
    (repeat' split) <;> simp [hk, State.wordDone, State.rowsWrite_off hoff]
  have hunit : (s.unitWrite rq .root 0x24 0x24 be v).1.regs.get fld = s.regs.get fld := by
    unfold State.unitWrite
    dsimp only
    split
    · exact State.fwRefuse_lasting hk
    · exact hone
  exact hunit
/-- A write of ROOT_RESET, by whichever requester, leaves what lasts (R457, R458). -/
theorem onBus_rootReset_lasting {rq : Req} {be : Fin 16} {v : Nat} (hoff : fld.off ≠ 0x24) :
    ∃ t, writeCmd rq 0x24 be v s = .next t ∧ t.reg fld = s.reg fld := by
  have hwrite : (s.writeBy rq 0x24 be v).regs.get fld = s.regs.get fld := by
    unfold State.writeBy
    (repeat' split)
    · rfl
    · exact State.hostDiscard_lasting hk
    · exact State.writeWord_rootReset_lasting hk hoff
  refine ⟨_, rfl, ?_⟩
  simp only [State.reg, State.hostAccess]
  (repeat' split) <;> simp [hk, hwrite]
/-- The end of a hub die reset leaves what lasts but FOLD_CTRL.ENABLE and the groups' STATE (R458). -/
theorem State.hubResetDone_lasting (hen : F.FOLD_CTRL_ENABLE ≠ fld) (hst : ∀ g, F.GRP_STATUS_STATE g ≠ fld) :
    s.hubResetDone.regs.get fld = s.regs.get fld := by
  have hgrp (l : List Grp) (s : State) : (l.foldl (fun s g => s.setGrpState g 0) s).regs.get fld = s.regs.get fld :=
    State.foldl_keep (fun s => s.regs.get fld) (fun s g => State.setGrpState_lasting hk (hst g)) l s
  have hslew : F.TB_STATUS_SLEWING ≠ fld := Fld.ne_of_lasting hk rfl
  have hstep : F.TB_STATUS_STEP_PENDING ≠ fld := Fld.ne_of_lasting hk rfl
  unfold State.hubResetDone
  simp [hk, hen, hslew, hstep, hgrp, State.timeZero]
theorem State.flr_lasting : s.flr.regs.get fld = s.regs.get fld := by
  unfold State.flr
  dsimp only
  split
  · exact State.softReset_lasting hk
  · rfl
end
/-- The power-on reset of the hub die gives every register outside VAUX its reset value (R453). -/
theorem State.reg_hubPor (s : State) {f : Fld} (h : vauxFld f = false) : s.hubPor.reg f = f.dflt := by
  rw [State.reg]
  exact Store.get_filter_cleared (p := fun f => !vauxFld f) (by simp [h])

end Sys2Proof.Machine

namespace Sys2Proof
open Machine

/-- Settles O58: the governor's words last (`Fld.lasting`) through every operation of the rows listed, and lie outside what VAUX keeps. -/
theorem governorResets : Obligations.GovernorResets := by
  unfold Obligations.GovernorResets
  intro s f rq be b hu hlo hhi
  have hk : f.lasting = true := by simp [Fld.lasting, hu, hlo, hhi]
  have hvaux : vauxFld f = false := by simp [vauxFld, hu]
  have hen : F.FOLD_CTRL_ENABLE ≠ f := by rintro rfl; cases hu
  have hst (g : Grp) : F.GRP_STATUS_STATE g ≠ f := by rintro rfl; cases hu
  have hgone (t : State) : t.accumGone.regs.get f = t.regs.get f := by
    have hne : f ≠ F.HK_STATUS_ACCUM_VALID := by rintro rfl; cases hu
    exact Store.get_filter (p := fun f => f == F.HK_STATUS_ACCUM_VALID || (vauxCleared f && f.unit != .ldg)) (by simp [vauxCleared, hvaux, hne])
  have happlied : (s.accumGone.clearRegs vauxCleared).regs.get f = s.regs.get f :=
    (Store.get_filter (by simp [vauxCleared, hvaux])).trans (hgone s)
  refine ⟨⟨_, rfl, State.reg_hubPor _ hvaux⟩, ?_⟩
  simp only [List.forall_mem_cons, List.not_mem_nil, false_implies, implies_true, and_true]
  refine ⟨⟨_, rfl, ?_⟩, onBus_rootReset_lasting hk (by omega), ⟨_, rfl, rfl⟩, ⟨_, rfl, ?_⟩, ⟨_, rfl, ?_⟩, ⟨_, rfl, ?_⟩, ⟨_, rfl, ?_⟩, ⟨_, rfl, ?_⟩,
    ⟨_, rfl, rfl⟩, ⟨_, rfl, ?_⟩, ⟨_, rfl, rfl⟩, ⟨_, rfl, ?_⟩, ⟨_, rfl, ?_⟩, onBus_rootReset_lasting hk (by omega), ⟨_, rfl, ?_⟩, ⟨_, rfl, ?_⟩,
    ⟨_, rfl, ?_⟩, ⟨_, rfl, ?_⟩, ⟨_, rfl, ?_⟩, ⟨_, rfl, ?_⟩, ⟨_, rfl, rfl⟩⟩
  · exact State.linkLost_lasting hk
  · exact State.linkLost_lasting hk
  · exact State.linkLost_lasting hk
  · simp [State.reg, State.flr_lasting hk]
  · exact State.linkLost_lasting hk
  · exact State.linkLost_lasting hk
  · simp [State.reg, hk]
  · exact State.hubResetBegin_lasting hk
  · simp [State.reg, hk]
  · simp [State.reg, State.hubResetDone_lasting hk hen hst]
  · simp [State.reg, State.wrapTally_lasting (f := F.LDG_BOOT) hk rfl]
  · simp [State.reg, hk, State.timeZero]
  · simp [State.reg]
  · simp [State.reg, State.vauxApplied, happlied]
  · exact hgone s

end Sys2Proof

/-! ### The run, the crystal and the time of the hub die through its resets (R241, R458) -/

namespace Sys2Proof.Machine

/-- The state of the hub die's run, whether XIN is present, and machine time. -/
def Hub.clocks (h : Hub) : HubRun × Bool × Nat := (h.run, h.xin, h.time)

section
variable {s : State} {g : Grp}

@[simp] theorem State.soAim_clocks {t : Nat} : (s.soAim t).hub.clocks = s.hub.clocks := rfl
@[simp] theorem State.stepRelease_clocks : s.stepRelease.hub.clocks = s.hub.clocks := by
  unfold State.stepRelease
  (repeat' split) <;> rfl
@[simp] theorem State.hostReset_clocks : s.hostReset.hub.clocks = s.hub.clocks := by
  unfold State.hostReset
  simp [Hub.clocks]
@[simp] theorem State.setGrpState_clocks {st : Nat} : (s.setGrpState g st).hub.clocks = s.hub.clocks := by
  have hfold (l : List Ch) (s : State) : (l.foldl State.strokeAbort s).hub = s.hub :=
    State.foldl_keep State.hub (fun s c => by simp) l s
  unfold State.setGrpState
  dsimp only
  split
  · rfl
  · simp [hfold]
/-- A hub die reset begins where the hub die runs or is frozen (R458). -/
theorem State.hubResetBegin_clocks {cause : Nat} {r : LRec} : (s.hubResetBegin cause r).hub.clocks =
    (if s.hub.run = .running ∨ s.hub.run = .frozen then .reset else s.hub.run, s.hub.xin, s.hub.time) := by
  have hlost (l : List Grp) (s : State) : (l.foldl State.restartsLost s).hub = s.hub :=
    State.foldl_keep State.hub (fun s g => by simp) l s
  have hkept (s : State) : s.hostReset.hub.run = s.hub.run ∧ s.hostReset.hub.xin = s.hub.xin ∧ s.hostReset.hub.time = s.hub.time := by
    simpa only [Hub.clocks, Prod.mk.injEq] using State.hostReset_clocks (s := s)
  unfold State.hubResetBegin
  split
  · next h =>
    rw [if_pos (by simpa using h)]
    dsimp only [Hub.clocks]
    rw [(hkept _).2.1, (hkept _).2.2]
    simp [hlost]
  · next h =>
    rw [if_neg (by simpa using h)]
    rfl
/-- A hub die reset ends with machine time at 0 (R241, R458). -/
theorem State.hubResetDone_clocks : s.hubResetDone.hub.clocks = (.running, s.hub.xin, 0) := by
  have hsync (l : List Strm) (s : State) : (l.foldl (fun s x => s.syncReset x) s).hub = s.hub :=
    State.foldl_keep State.hub (fun s x => by simp) l s
  have hso (c : Prop) [Decidable c] (s : State) : (if c then s.soAim 0 else s).hub.clocks = s.hub.clocks := by
    split
    · exact State.soAim_clocks
    · rfl
  have hgrp (l : List Grp) (s : State) : (l.foldl (fun s g => s.setGrpState g 0) s).hub.clocks = s.hub.clocks :=
    State.foldl_keep (fun s => s.hub.clocks) (fun s g => State.setGrpState_clocks) l s
  have hrules (s : State) : s.rulesAgain.edgeMasks.hub = s.hub := by simp
  have hkeeper (s : State) : s.keeperEnd.hub = s.hub := by simp
  have hfw (s : State) : s.fwAfterReset.hub = s.hub := by simp
  unfold State.hubResetDone
  dsimp only
  rw [hfw, hgrp, hkeeper, State.hostReset_clocks, hsync, hso, hrules]
  rfl

theorem State.hubResetBegin_run {cause : Nat} {r : LRec} (h : s.hubOn = true) : (s.hubResetBegin cause r).hub.run = .reset := by
  have hrun : s.hub.run = .running := by simpa [State.hubOn] using h
  have hclocks := State.hubResetBegin_clocks (s := s) (cause := cause) (r := r)
  rw [if_pos (.inl hrun)] at hclocks
  simp only [Hub.clocks, Prod.mk.injEq] at hclocks
  exact hclocks.1
theorem State.hubResetDone_fold (s : State) : s.hubResetDone.reg F.FOLD_CTRL_ENABLE = 0 := by
  have hk : F.FOLD_CTRL_ENABLE.lasting = true := rfl
  have hgrp (l : List Grp) (s : State) : (l.foldl (fun s g => s.setGrpState g 0) s).regs.get F.FOLD_CTRL_ENABLE = s.regs.get F.FOLD_CTRL_ENABLE :=
    State.foldl_keep (fun s => s.regs.get F.FOLD_CTRL_ENABLE) (fun s g => State.setGrpState_lasting hk (by simp)) l s
  have hsync (l : List Strm) (s : State) : (l.foldl (fun s x => s.syncReset x) s).regs.get F.FOLD_CTRL_ENABLE = s.regs.get F.FOLD_CTRL_ENABLE :=
    State.foldl_keep (fun s => s.regs.get F.FOLD_CTRL_ENABLE) (fun s x => State.syncReset_lasting hk) l s
  have hso (c : Prop) [Decidable c] (s : State) : (if c then s.soAim 0 else s).regs = s.regs := by simp
  have hset (s : State) : (s.setReg F.FOLD_CTRL_ENABLE 0).regs.get F.FOLD_CTRL_ENABLE = 0 := by simp
  rw [State.reg, State.hubResetDone]
  dsimp only
  rw [State.fwAfterReset_lasting hk, hgrp, State.keeperEnd_lasting hk, State.hostReset_lasting hk, hsync, hso, State.edgeMasks_lasting hk,
    State.rulesAgain_lasting hk]
  exact hset _
theorem State.keeperEnd_keeper (s : State) : s.keeperEnd.sv.keeper = false := by
  unfold State.keeperEnd
  split
  · next h => simpa using h
  · simp
theorem State.hubResetDone_keeper (s : State) : s.hubResetDone.sv.keeper = false := by
  have hgrp (l : List Grp) (s : State) : (l.foldl (fun s g => s.setGrpState g 0) s).sv = s.sv :=
    State.foldl_keep State.sv (fun s g => by simp) l s
  have hfw (s : State) : s.fwAfterReset.sv = s.sv := by simp
  rw [State.hubResetDone]
  dsimp only
  rw [hfw, hgrp]
  exact State.keeperEnd_keeper _
/-- Every group of a list is made absent. -/
theorem State.foldl_setGrpState_zero {g : Grp} {l : List Grp} (h : g ∈ l ∨ s.grpState g = 0) :
    (l.foldl (fun s g => s.setGrpState g 0) s).grpState g = 0 := by
  induction l generalizing s with
  | nil => exact h.resolve_left List.not_mem_nil
  | cons x l ih =>
    refine ih ?_
    by_cases hx : x = g
    · exact .inr (hx ▸ State.setGrpState_grpState s x 0 (by decide))
    · refine h.imp (fun h => (List.mem_cons.mp h).resolve_left (Ne.symm hx)) fun h => ?_
      exact (State.setGrpState_lasting rfl (by simpa using hx)).trans h
theorem State.hubResetDone_grpState (s : State) (g : Grp) : s.hubResetDone.grpState g = 0 := by
  have hfw (s : State) : s.fwAfterReset.grpState g = s.grpState g := State.fwAfterReset_lasting rfl
  rw [State.hubResetDone]
  dsimp only
  rw [hfw]
  exact State.foldl_setGrpState_zero (.inl (List.mem_finRange g))
end

/-! ### What a reset leaves of the words that VAUX keeps (R440, R452) -/

section
variable {s : State} {f : Fld}

theorem Fld.ne_of_vaux {k : Fld} (hf : vauxFld f = true) (hk : vauxFld k = false) : k ≠ f := by
  rintro rfl
  simp [hf] at hk
theorem vauxFld_of_cleared (h : vauxCleared f = true) : vauxFld f = true := (Bool.and_eq_true_iff.mp h).1
/-- A record posted changes no word of VAUX but the count of lost records. -/
theorem State.post_vaux {r : LRec} (hf : vauxFld f = true) (hne : f ≠ F.LDG_TALLY_LOST) : (s.post r).reg f = s.reg f := by
  unfold State.post
  generalize (if r.cls = 4 then 16 else 14) = n
  split
  · rfl
  · rw [State.reg_cause .ldg 3 (Fld.ne_of_vaux hf rfl) (Fld.ne_of_vaux hf rfl) (Fld.ne_of_vaux hf rfl), State.reg_tally, if_neg hne.symm]
/-- Whatever of a housekeeping interval a power-on reset cuts short, the registers filtered are those it found, without VAUX with the
accumulators cleared (R421, R453). -/
theorem State.hubPor_regs (s : State) : ∃ t : State, t.regs = s.regs ∧
    s.hubPor.regs = (if s.hub.vaux then t else t.accumGone).regs.filter fun e => !!vauxFld e.1 :=
  ⟨if s.hub.run == .running || s.hub.run == .frozen then s.baseCut else s, by simp, rfl⟩
theorem State.accumGone_cleared (hf : vauxCleared f = true) (hu : f.unit ≠ .ldg) : s.accumGone.reg f = f.dflt :=
  Store.get_filter_cleared (p := fun f => f == F.HK_STATUS_ACCUM_VALID || (vauxCleared f && f.unit != .ldg)) (by simp [hf, hu])
/-- With VAUX the power-on reset of the hub die keeps its words. -/
theorem State.hubPor_vaux (hv : s.hub.vaux = true) (hf : vauxFld f = true) : s.hubPor.reg f = s.reg f := by
  obtain ⟨t, ht, hregs⟩ := s.hubPor_regs
  rw [State.reg, hregs, if_pos hv, ht]
  exact Store.get_filter (p := fun f => !vauxFld f) (by simp [hf])
/-- Without VAUX it clears the accumulators. -/
theorem State.hubPor_cleared (hv : s.hub.vaux = false) (hf : vauxCleared f = true) (hu : f.unit ≠ .ldg) : s.hubPor.reg f = f.dflt := by
  obtain ⟨t, -, hregs⟩ := s.hubPor_regs
  rw [State.reg, hregs, if_neg (by simp [hv])]
  exact (Store.get_filter (p := fun f => !vauxFld f) (by simp [vauxFld_of_cleared hf])).trans (State.accumGone_cleared hf hu)
/-- What else the power-on reset of the hub die leaves, and what it empties (R431, R453). -/
theorem State.hubPor_shows (s : State) : s.hubPor.hub.run = .por ∧ s.hubPor.die = s.die.filter (fun p => !hkKept p.1) ∧ s.hubPor.ldg = s.ldg ∧
    s.hubPor.hub.time = s.hub.time ∧ s.hubPor.hid = [] ∧ s.hubPor.fold = {} ∧ s.hubPor.fw = {} := by
  refine ⟨rfl, ?_, ?_, ?_, rfl, rfl, rfl⟩ <;> simp [State.hubPor]

/-! The rows -/

/-- The rail that has fallen below its threshold: VDD_CORE, or VDD_IO. -/
def State.railFell (s : State) (core : Bool) : State :=
  if core then { s with hub := { s.hub with core := false } } else { s with hub := { s.hub with vddIo := false } }
theorem State.railFell_keeps (s : State) (core : Bool) : (s.railFell core).regs = s.regs ∧ (s.railFell core).die = s.die ∧
    (s.railFell core).ldg = s.ldg ∧ (s.railFell core).hub.vaux = s.hub.vaux ∧ (s.railFell core).hub.time = s.hub.time := by
  cases core <;> exact ⟨rfl, rfl, rfl, rfl, rfl⟩
/-- The record of a fall of VDD_CORE (R433). -/
def State.railRec (s : State) : LRec := { code := 3, cls := 4, data := s.reg F.HK_RAIL_A_VDD_CORE, stopped := true }
theorem exec_hubPowerOnReset_eq (core : Bool) : exec (.hubPowerOnReset core) s =
    .next (if core && s.hub.core then (s.railFell core).post s.railRec else s.railFell core).hubPor := rfl
/-- HUB_POWER_ON_RESET (R433, R453). -/
theorem exec_hubPowerOnReset (core : Bool) : ∃ t, exec (.hubPowerOnReset core) s = .next t ∧ t.hub.run = .por ∧
      (∀ f, vauxFld f = false → t.reg f = f.dflt) ∧
      (s.hub.vaux = true → ∀ f, vauxFld f = true → f ≠ F.LDG_TALLY_LOST → t.reg f = s.reg f) ∧
      (s.hub.vaux = false → ∀ f, vauxCleared f = true → f.unit ≠ .ldg → t.reg f = f.dflt) ∧
      t.die = s.die.filter (fun p => !hkKept p.1) ∧ (core = false ∨ s.hub.core = false → t.ldg = s.ldg) ∧
      (core = true → s.hub.core = true → s.ldg.queue.length < 16 → ∃ r : LRec, t.ldg.queue = queueRec r s.ldg.queue ∧ r.code = 3 ∧
        r.data = s.reg F.HK_RAIL_A_VDD_CORE ∧ r.stopped = true) ∧
      t.hub.time = s.hub.time ∧ t.hid = [] ∧ t.fold = {} ∧ t.fw = {} := by
  obtain ⟨hregs, hdie, hldg, hvaux, htime⟩ := s.railFell_keeps core
  refine ⟨_, exec_hubPowerOnReset_eq core, ?_⟩
  generalize htold : (if core && s.hub.core then (s.railFell core).post s.railRec else s.railFell core) = told
  have hkept : told.die = s.die ∧ told.hub.vaux = s.hub.vaux ∧ told.hub.time = s.hub.time := by
    subst htold
    split <;> simp [hdie, hvaux, htime]
  have hreg (f : Fld) (hf : vauxFld f = true) (hne : f ≠ F.LDG_TALLY_LOST) : told.reg f = s.reg f := by
    subst htold
    split
    · exact (State.post_vaux hf hne).trans (congrArg (Store.get · f) hregs)
    · exact congrArg (Store.get · f) hregs
  obtain ⟨hrun, hpdie, hpldg, hptime, hhid, hfold, hfw⟩ := told.hubPor_shows
  refine ⟨hrun, fun f hf => State.reg_hubPor _ hf, fun hv f hf hne => ?_, fun hv f hf hu => ?_, ?_, fun hcore => ?_, fun hc hcore hroom => ?_,
    hptime.trans hkept.2.2, hhid, hfold, hfw⟩
  · rw [State.hubPor_vaux (hkept.2.1.trans hv) hf, hreg f hf hne]
  · exact State.hubPor_cleared (hkept.2.1.trans hv) hf hu
  · rw [hpdie, hkept.1]
  · rw [hpldg, ← htold, if_neg (by simpa [Decidable.or_iff_not_imp_left] using hcore), hldg]
  · refine ⟨{ s.railRec with raised := (s.railFell core).tick, held := (s.railFell core).now }, ?_, rfl, rfl, rfl⟩
    rw [hpldg, ← htold, if_pos (by simp [hc, hcore]), State.post_queued s.railRec (hldg ▸ hroom), hldg]
/-- POWER_ON_RESET_END (R440, R453). -/
theorem exec_powerOnResetEnd (hrun : s.hub.run = .por) (hcore : s.hub.core = true) (hio : s.hub.vddIo = true) (hwait : 1000000 ≤ s.clock - s.hub.since) :
    ∃ t, exec .powerOnResetEnd s = .next t ∧ t.hub.run = .pllWait ∧
      (s.hub.vaux = true → t.reg F.LDG_BOOT = (s.reg F.LDG_BOOT + 1) % 2 ^ 16) := by
  change ∃ t, execPowerOnResetEnd s = .next t ∧ _
  rw [execPowerOnResetEnd, if_pos (by simp [hrun, hcore, hio, hwait])]
  refine ⟨_, rfl, by simp, fun hv => ?_⟩
  rw [if_pos hv, State.reg_wrapTally, if_pos rfl]
  rfl
/-- CCLK_LOCK (R453). -/
theorem exec_cclkLock (hrun : s.hub.run = .pllWait) (hxin : s.hub.xin = true) : ∃ t, exec .cclkLock s = .next t ∧ t.hub.run = .running ∧ t.now = 0 ∧
      t.reg F.ROOT_RESET_STATUS_CCLK_LOCK = 1 ∧ t.fw.bootDue = true ∧ ∀ g : Grp, t.dieNow g = s.dieNow g := by
  change ∃ t, execCclkLock s = .next t ∧ _
  rw [execCclkLock, if_pos (by simp [hrun, hxin])]
  refine ⟨_, rfl, by simp [State.timeZero], by simp [State.now, State.timeZero], ?_, by simp [State.timeZero], fun g => ?_⟩
  · rw [State.reg_post _ rfl, State.reg_setReg, if_pos rfl]
    rfl
  · simp [State.dieNow, State.dieOf, State.timeZero]
/-- XIN_LOST (R494). -/
theorem exec_xinLost : ∃ t, exec .xinLost s = .next t ∧ t.hub.xin = (s.hub.run == .frozen && s.hub.xin) ∧
      (s.hubOn = true ∨ s.hub.run = .frozen → t.hub.run = .reset) := by
  change ∃ t, execXinLost s = .next t ∧ _
  rw [execXinLost]
  refine ⟨_, rfl, ?_⟩
  generalize hs : (if s.hub.run == .frozen then s else { s with hub := { s.hub with xin := false } }) = s0
  have hrun : s0.hub.run = s.hub.run := by
    subst hs
    split <;> rfl
  have hxin : s0.hub.xin = (s.hub.run == .frozen && s.hub.xin) := by
    subst hs
    cases hf : s.hub.run == .frozen <;> rfl
  have hclocks := State.hubResetBegin_clocks (s := s0) (cause := 2) (r := { code := 2, cls := 4, stopped := true })
  simp only [Hub.clocks, Prod.mk.injEq, hrun, hxin] at hclocks
  obtain ⟨hreset, hgone, -⟩ := hclocks
  simp only [State.runEnd_frame]
  refine ⟨hgone, fun h => hreset.trans (if_pos ?_)⟩
  simpa [State.hubOn] using h
/-- VDD_IO_FALL (R458). -/
theorem exec_vddIoFall : ∃ t, exec .vddIoFall s = .next t ∧ t.hub.vddIo = false ∧ (s.hubOn = true → t.hub.run = .reset) :=
  ⟨_, rfl, rfl, State.hubResetBegin_run⟩
/-- BOUNDARY_SCAN_RESET (R458). -/
theorem exec_boundaryScanReset (take : Bool) :
    ∃ t, exec (.boundaryScanReset take) s = .next t ∧ t.hub.scan = take ∧ (s.hubOn = true → take = true → t.hub.run = .reset) := by
  refine ⟨_, rfl, rfl, fun hon htake => ?_⟩
  subst htake
  exact State.hubResetBegin_run hon
/-- HUB_RESET_END (R458). -/
theorem exec_hubResetEnd (hrun : s.hub.run = .reset) (hxin : s.hub.xin = true) (hscan : s.hub.scan = false) (hcore : s.hub.core = true)
    (hio : s.hub.vddIo = true) (hwait : 1000000 ≤ s.clock - s.hub.since) :
    ∃ t, exec .hubResetEnd s = .next t ∧ t.hub.run = .running ∧ t.now = 0 ∧ t.reg F.FOLD_CTRL_ENABLE = 0 ∧ t.sv.keeper = false ∧
      ∀ g : Grp, t.grpState g = 0 := by
  change ∃ t, execHubResetEnd s = .next t ∧ _
  rw [execHubResetEnd, if_pos (by simp [hrun, hxin, hscan, hcore, hio, hwait])]
  have hclocks := s.hubResetDone_clocks
  simp only [Hub.clocks, Prod.mk.injEq] at hclocks
  obtain ⟨hrun, -, htime⟩ := hclocks
  exact ⟨_, rfl, hrun, by simp [State.now, htime], s.hubResetDone_fold, s.hubResetDone_keeper, s.hubResetDone_grpState⟩
/-- VAUX_APPLIED (R454). -/
theorem exec_vauxApplied (hv : s.hub.vaux = false) : ∃ t, exec .vauxApplied s = .next t ∧ t.hub.vaux = true ∧ t.ldg = {} ∧
      (∀ f, vauxCleared f = true → t.reg f = f.dflt) ∧ ∀ g : Grp, (t.link g).cache = [] := by
  change ∃ t, execVauxApplied s = .next t ∧ _
  rw [execVauxApplied, if_neg (by simp [hv])]
  exact ⟨_, rfl, rfl, rfl, fun f hf => Store.get_filter_cleared hf, fun g => by simp [State.link, State.vauxApplied]⟩
/-- VAUX_LOST (R421, R452). -/
theorem exec_vauxLost : ∃ t, exec .vauxLost s = .next t ∧ t.hub.vaux = false ∧ t.faultN = true ∧ t.reg F.HK_STATUS_ACCUM_VALID = 0 ∧
      (∀ f, vauxCleared f = true → f.unit ≠ .ldg → t.reg f = f.dflt) ∧ t.ldg = s.ldg :=
  ⟨_, rfl, rfl, by simp [State.faultN], Store.get_filter_cleared
    (p := fun f => f == F.HK_STATUS_ACCUM_VALID || (vauxCleared f && f.unit != .ldg)) rfl, fun f hf hu => State.accumGone_cleared hf hu, by simp⟩
end

end Sys2Proof.Machine

namespace Sys2Proof
open Machine

/-- Settles O33: the clocks of the hub die through its resets, and its registers through the power-on reset and through VAUX. -/
theorem hubSupplyCommands : Obligations.HubSupplyCommands := by
  unfold Obligations.HubSupplyCommands
  exact fun s => ⟨⟨_, rfl, rfl, rfl, rfl⟩, exec_hubPowerOnReset, exec_powerOnResetEnd, exec_cclkLock, exec_xinLost, ⟨_, rfl, rfl, rfl⟩,
    fun hon => ⟨_, rfl, by simp [hon], by simp [hon]⟩, exec_vddIoFall, exec_boundaryScanReset, exec_hubResetEnd, exec_vauxApplied, exec_vauxLost⟩

end Sys2Proof

/-! ### What a message request changes of the host interface (R46, R50) -/

namespace Sys2Proof.Machine

/-- The host interface without what a message request changes: the messages sent, those pending, and the one in the crossing. -/
def HostIf.apart (h : HostIf) : HostIf := { h with out := [], pba := [], cross := none }

section
variable {s : State} {p : Nat × Option U}

theorem State.deliverMsix_apart (k : Nat) (u : Option U) : (s.deliverMsix k u).host.apart = s.host.apart := by
  unfold State.deliverMsix
  (repeat' split) <;> rfl
theorem State.requestMsix_apart (k : Nat) (u : Option U) : (s.requestMsix k u).host.apart = s.host.apart := by
  unfold State.requestMsix
  split
  · simp
  · split
    · exact State.deliverMsix_apart k u
    · rfl
theorem State.unitMessage_apart (u : U) : (s.unitMessage u).host.apart = s.host.apart := by
  unfold State.unitMessage
  split
  · exact State.requestMsix_apart _ _
  · rfl
theorem State.cause_apart (u : U) (k : Nat) : (s.cause u k).host.apart = s.host.apart := by
  unfold State.cause
  split
  · exact (State.unitMessage_apart u).trans (congrArg HostIf.apart (by simp))
  · simp
/-- A record posted joins the Ledger's queue, or is counted as lost. -/
theorem State.post_cases (s : State) (r : LRec) :
    (∃ l, s.post r = { s with ldg := l }) ∨ s.post r = (s.tally F.LDG_TALLY_LOST).cause .ldg 3 := by
  unfold State.post
  generalize (if r.cls = 4 then 16 else 14) = n
  split
  · exact .inl ⟨_, rfl⟩
  · exact .inr rfl
theorem State.post_apart (s : State) (r : LRec) : (s.post r).host.apart = s.host.apart := by
  obtain ⟨l, h⟩ | h := s.post_cases r
  · rw [h]
  · rw [h, State.cause_apart, State.tally_frame.2.2.2.2.1]
theorem State.post_dlUp (r : LRec) : (s.post r).host.dlUp = s.host.dlUp := by
  have h := congrArg HostIf.dlUp (s.post_apart r)
  exact h

/-- The host interface without what messages and notifications change. -/
def HostIf.quiet (h : HostIf) : HostIf := { h.apart with notif := [], lost := none }
theorem State.cause_quiet (u : U) (k : Nat) : (s.cause u k).host.quiet = s.host.quiet :=
  congrArg (fun h : HostIf => { h with notif := [], lost := none }) (State.cause_apart u k)
theorem State.loseNote_quiet (kind : Nat) : (s.loseNote kind).host.quiet = s.host.quiet := by
  unfold State.loseNote
  dsimp only
  split
  · exact (State.cause_quiet .hl 3).trans (by simp [HostIf.quiet, HostIf.apart])
  · simp [HostIf.quiet, HostIf.apart]
theorem State.notify_quiet (kind : Nat) (body : List Place) : (s.notify kind body).host.quiet = s.host.quiet := by
  unfold State.notify State.raise
  split
  · rfl
  · exact State.loseNote_quiet kind

/-- A vector pending after a message request was pending before, or is the request's own. -/
theorem State.deliverMsix_pba {k : Nat} {u : Option U} (h : p ∈ (s.deliverMsix k u).host.pba) : p ∈ s.host.pba ∨ p.2 = u := by
  unfold State.deliverMsix at h
  split at h
  · exact .inl h
  split at h
  · dsimp only at h
    split at h
    · exact .inl h
    · exact (List.mem_append.mp h).imp_right fun h => by rw [List.mem_singleton.mp h]
  · exact .inl h
theorem State.requestMsix_pba {k : Nat} {u : Option U} (h : p ∈ (s.requestMsix k u).host.pba) : p ∈ s.host.pba ∨ p.2 = u := by
  unfold State.requestMsix at h
  split at h
  · exact .inl (by simpa using h)
  split at h
  · exact State.deliverMsix_pba h
  · exact .inl h
theorem State.cause_pba {u : U} {k : Nat} (h : p ∈ (s.cause u k).host.pba) : p ∈ s.host.pba ∨ p.2 = some u := by
  have hmessage (t : State) (h : p ∈ (t.unitMessage u).host.pba) : p ∈ t.host.pba ∨ p.2 = some u := by
    unfold State.unitMessage at h
    split at h
    · exact State.requestMsix_pba h
    · exact .inl h
  unfold State.cause at h
  split at h
  · simpa using hmessage _ h
  · exact .inl (by simpa using h)
/-- A record posted leaves pending what was so before; where it is lost, the Ledger unit's vector may join. -/
theorem State.post_pba {r : LRec} (h : p ∈ (s.post r).host.pba) : p ∈ s.host.pba ∨ p.2 = some .ldg := by
  obtain ⟨l, hl⟩ | hl := s.post_cases r
  · exact .inl (by simpa [hl] using h)
  · rw [hl] at h
    simpa using State.cause_pba h
/-- A record posted changes fields of the root and of the Ledger alone. -/
theorem State.reg_post_unit (r : LRec) {f : Fld} (hroot : f.unit ≠ .root) (hldg : f.unit ≠ .ldg) : (s.post r).reg f = s.reg f := by
  have hne {k : Fld} (h : f.unit ≠ k.unit) : k ≠ f := fun e => h (e ▸ rfl)
  obtain ⟨l, h⟩ | h := s.post_cases r
  · rw [h]
    rfl
  · rw [h, State.reg_cause _ _ (hne hldg) (hne hroot) (hne hroot), State.reg_tally, if_neg (hne hldg)]
end

end Sys2Proof.Machine

/-! ### The resets of the host side (R342, R456) -/

namespace Sys2Proof.Machine

/-- What the events of R342 leave of the host side: the fields and the parts that they reset, and no vector of theirs pending (R50). -/
structure State.HostFresh (t : State) : Prop where
  regs : ∀ f, hostFld f = true → t.reg f = f.dflt
  queue : t.host.queue = []
  cmds : t.host.cmds = []
  notif : t.host.notif = []
  drv : t.drv = {}
  ck : ∀ k ∈ t.ck.toList, k = {}
  pba : ∀ p ∈ t.host.pba, ∃ u, p.2 = some u ∧ hostUnit u = false

theorem hostFld_unit {f : Fld} (h : hostFld f = true) : f.unit ≠ .root ∧ f.unit ≠ .ldg ∧ f.unit ≠ .fold := by
  unfold hostFld at h
  split at h <;> simp_all

section
variable {s t : State}

theorem State.hostReset_fresh (s : State) : s.hostReset.HostFresh := by
  unfold State.hostReset
  extract_lets s0 s1 s2 h
  refine ⟨fun f hf => ?_, rfl, rfl, rfl, rfl, fun k hk => by simpa using hk, fun p hp => ?_⟩
  · have hne : F.FOLD_STATUS_FULL_WAIT ≠ f := by
      rintro rfl
      cases hf
    clear_value s1
    change s2.reg f = _
    rw [State.reg_setReg, if_neg hne]
    exact Store.get_filter_cleared hf
  · clear_value h
    have hany := (List.mem_filter.mp hp).2
    cases hu : p.2 with
    | none => simp [hu] at hany
    | some u => exact ⟨u, rfl, by simpa [hu] using hany⟩
/-- A record posted leaves the host side reset. -/
theorem State.HostFresh.post (h : t.HostFresh) (r : LRec) : (t.post r).HostFresh where
  regs f hf := by
    obtain ⟨hroot, hldg, -⟩ := hostFld_unit hf
    exact (State.reg_post_unit r hroot hldg).trans (h.regs f hf)
  queue := (congrArg HostIf.queue (State.post_apart _ r)).trans h.queue
  cmds := (congrArg HostIf.cmds (State.post_apart _ r)).trans h.cmds
  notif := (congrArg HostIf.notif (State.post_apart _ r)).trans h.notif
  drv := by simpa using h.drv
  ck := by simpa using h.ck
  pba p hp := by
    obtain hp | hp := State.post_pba hp
    · exact h.pba p hp
    · exact ⟨.ldg, hp, rfl⟩

/-- The host side stays reset where the host interface changes beside its queues and shows no further vector. -/
theorem State.HostFresh.withHost (ht : t.HostFresh) {h : HostIf} (hq : h.queue = t.host.queue) (hc : h.cmds = t.host.cmds)
    (hn : h.notif = t.host.notif) (hp : h.pba ⊆ t.host.pba) : ({ t with host := h } : State).HostFresh :=
  ⟨ht.regs, hq.trans ht.queue, hc.trans ht.cmds, hn.trans ht.notif, ht.drv, ht.ck, fun p h => ht.pba p (hp h)⟩

/-- The link after an event of R342 is down, with no fatal error, as the state stands in which the reset begins. -/
def State.linkDown (s : State) : State := { s with host := { s.host with dlUp := false, fatal := false, speed := 0, width := 0 } }
theorem State.linkLost_eq (s : State) : s.linkLost =
    if s.hubOn then
      if s.host.dlUp then s.linkDown.hostReset.post { code := 7, cls := 2, detail := 1 } else s.linkDown.hostReset
    else s.linkDown := rfl

theorem State.linkLost_fresh (h : s.hubOn = true) : s.linkLost.HostFresh := by
  rw [State.linkLost_eq, if_pos h]
  split
  · exact (State.hostReset_fresh _).post _
  · exact State.hostReset_fresh _
theorem State.lowWater_fold (s : State) : ∃ b, s.lowWater.fold = { s.fold with armed := b } := by
  unfold State.lowWater
  dsimp only
  split
  · exact ⟨_, rfl⟩
  split
  · exact ⟨true, rfl⟩
  split
  · exact ⟨false, by simp⟩
  · exact ⟨_, rfl⟩
theorem State.hostReset_fold (s : State) : ∃ b, s.hostReset.fold = { s.fold with armed := b } := by
  unfold State.hostReset
  obtain ⟨b, hb⟩ := State.lowWater_fold ((s.setReg (F.RING_PROD 2) 0).setReg (F.RING_CONS 2) 0)
  exact ⟨b, by simp [hb]⟩
theorem State.lowWater_quiet (s : State) : s.lowWater.host.quiet = s.host.quiet := by
  unfold State.lowWater
  dsimp only
  split
  · rfl
  split
  · rfl
  split
  · exact (State.cause_quiet _ _).trans (State.notify_quiet _ _)
  · rfl
theorem State.hostReset_dlUp (s : State) : s.hostReset.host.dlUp = s.host.dlUp := by
  have hlow (t : State) : t.lowWater.host.dlUp = t.host.dlUp := by
    have h := congrArg HostIf.dlUp t.lowWater_quiet
    exact h
  unfold State.hostReset
  simp [hlow]
theorem State.linkLost_keeps (s : State) : (∃ b, s.linkLost.fold = { s.fold with armed := b }) ∧ s.linkLost.host.dlUp = false := by
  obtain ⟨b, hb⟩ := s.linkDown.hostReset_fold
  have hdl := s.linkDown.hostReset_dlUp
  rw [State.linkLost_eq]
  split
  · split
    · rw [State.post_frame.2.2.2.2.2.2.2.2.2.1, State.post_dlUp]
      exact ⟨⟨b, hb⟩, hdl⟩
    · exact ⟨⟨b, hb⟩, hdl⟩
  · exact ⟨⟨_, rfl⟩, rfl⟩
end
end Sys2Proof.Machine

namespace Sys2Proof
open Machine

/-- Settles O32: each of the five events is the loss of the link (`State.linkLost`) with, at the host interface alone, what the event
adds to it. -/
theorem hostSideResets : Obligations.HostSideResets := by
  unfold Obligations.HostSideResets
  intro s i hi
  obtain ⟨⟨b, hfold⟩, hdown⟩ := s.linkLost_keeps
  obtain ⟨h, hexec, hdl, hq, hc, hn, hp, hperst, hhot⟩ : ∃ h : HostIf, exec i s = .next { s.linkLost with host := h } ∧
      h.dlUp = s.linkLost.host.dlUp ∧ h.queue = s.linkLost.host.queue ∧ h.cmds = s.linkLost.host.cmds ∧ h.notif = s.linkLost.host.notif ∧
      h.pba ⊆ s.linkLost.host.pba ∧ (i = .perstN → h.perst = true ∧ h.cfg = []) ∧ (i = .hotReset → h.cfg = []) := by
    simp only [List.mem_cons, List.not_mem_nil, or_false] at hi
    obtain rfl | rfl | rfl | rfl | rfl := hi
    · exact ⟨_, rfl, rfl, rfl, rfl, rfl, List.nil_subset _, fun _ => ⟨rfl, rfl⟩, nofun⟩
    · exact ⟨_, rfl, rfl, rfl, rfl, rfl, List.nil_subset _, nofun, fun _ => rfl⟩
    · exact ⟨_, rfl, rfl, rfl, rfl, rfl, List.Subset.refl _, nofun, nofun⟩
    · exact ⟨_, rfl, rfl, rfl, rfl, rfl, List.Subset.refl _, nofun, nofun⟩
    · exact ⟨_, rfl, rfl, rfl, rfl, rfl, List.Subset.refl _, nofun, nofun⟩
  refine ⟨_, hexec, hdl.trans hdown, fun hon => ?_, by simp [hfold], by simp, by simp, by simp, by simp, by simp, by simp, by simp, hperst, hhot⟩
  obtain ⟨hregs, hqueue, hcmds, hnotif, hdrv, hck, hpba⟩ := (State.linkLost_fresh hon).withHost hq hc hn hp
  exact ⟨hregs, hqueue, hcmds, hnotif, hdrv, hck, hpba⟩

end Sys2Proof

/-! ### Words of the table of rows (R7, R37) -/

namespace Sys2Proof.Machine

/-- The place of a row among its unit's rows: by the word, and in it from the highest bits down. -/
def Row.place (r : Row) : Nat := r.off * 32 + (31 - r.lo)

set_option maxRecDepth 4000 in
/-- Every unit's rows stand in the order of their places. -/
theorem layout_ordered (u : U) : ((layout u).map Row.place).IsChain (· < ·) := by
  cases u with
  | ckU u => simp only [layout]; split <;> decide +kernel
  | _ => simp only [layout]; decide +kernel
/-- Two rows of a unit that name the same field are one. -/
theorem Row.fld_inj {u : U} {r x : Row} (hr : r ∈ layout u) (hx : x ∈ layout u) (h : r.fld u = x.fld u) : r = x := by
  have hnodup := (List.isChain_iff_pairwise.mp (layout_ordered u)).imp Nat.ne_of_lt
  refine List.inj_on_of_nodup_map hnodup hr hx ?_
  obtain ⟨-, hoff, hlo, -, -⟩ := Fld.mk.inj h
  rw [Row.place, Row.place, hoff, hlo]

set_option maxRecDepth 4000 in
/-- Every row lies in its word of 32 bits, and the full byte enables reach it. -/
theorem layout_covered (u : U) : ((layout u).all fun r => r.covered 15 && decide (r.lo + r.w ≤ 32)) = true := by
  cases u with
  | ckU u => simp only [layout]; split <;> rfl
  | _ => rfl
theorem Row.mem_rowsAt {u : U} {off : Nat} {r : Row} : r ∈ rowsAt u off ↔ r ∈ layout u ∧ r.off = off := by
  simp [rowsAt]
theorem Row.covered_full {u : U} {r : Row} (hr : r ∈ layout u) : r.covered 15 = true := by
  have h := List.all_eq_true.mp (layout_covered u) r hr
  exact ((Bool.and_eq_true _ _).mp h).1

section
variable {s : State} {rq : Req} {u : U} {off : Nat} {be : Fin 16} {v : Nat} {r : Row}

/-- A word's write gives each of its fields what its row makes of the write (R37). -/
theorem State.rowsWrite_get (hr : r ∈ rowsAt u off) :
    (s.rowsWrite rq u off be v).get (r.fld u) = (s.rowWrite rq u r be v).1 % 2 ^ r.w := by
  have key : ∀ (l : List Row) (st : Store), (∀ x ∈ l, x ∈ layout u) → r ∈ l ∨ st.get (r.fld u) = (s.rowWrite rq u r be v).1 % 2 ^ r.w →
      (l.foldl (fun st x => st.set (x.fld u) (s.rowWrite rq u x be v).1) st).get (r.fld u) = (s.rowWrite rq u r be v).1 % 2 ^ r.w := by
    intro l
    induction l with
    | nil => exact fun st _ h => h.resolve_left List.not_mem_nil
    | cons x t ih =>
      intro st hl h
      refine ih _ (fun y hy => hl y (List.mem_cons_of_mem _ hy)) ?_
      by_cases hx : x.fld u = r.fld u
      · obtain rfl := Row.fld_inj (hl x List.mem_cons_self) (Row.mem_rowsAt.mp hr).1 hx
        exact .inr (Store.get_set_same _ _ _)
      · obtain h | h := h
        · exact .inl ((List.mem_cons.mp h).resolve_left fun e => hx (e ▸ rfl))
        · exact .inr ((Store.get_set_ne _ _ hx).trans h)
  exact key _ _ (fun x hx => (Row.mem_rowsAt.mp hx).1) (.inl hr)
/-- A field that is stored as it is written. -/
def Row.asWritten (u : U) (r : Row) : Prop := ∀ cur x, storedAs u r cur x = x
theorem Row.asWritten_of {u : U} {r : Row} (hroot : u ≠ .root) (hcount : ∀ c, r.fld u ≠ F.SK_BASE_COUNT c) (hlock : lockFld u ≠ some (r.fld u)) :
    r.asWritten u := by
  intro cur x
  rw [storedAs, if_neg fun h => hroot h.1, if_neg (hcount _), if_neg hlock]
/-- A full write of a word gives an RW field of it the bits written, whatever requester but the controller makes it (R37). -/
theorem State.rowsWrite_full (hrq : rq ≠ .fw) (hr : r ∈ rowsAt u off) (hacc : r.acc = .rw) (has : r.asWritten u) (hv : v < 2 ^ 32) :
    (s.rowsWrite rq u off 15 v).get (r.fld u) = v / 2 ^ r.lo % 2 ^ r.w := by
  rw [State.rowsWrite_get hr, State.rowWrite_full hrq hacc (Row.covered_full (Row.mem_rowsAt.mp hr).1) hv, has, Nat.mod_mod]

/-! ### A word that is written by its access codes -/

/-- No field of a word is kept from a requester but the controller (R8, R39). -/
theorem State.rowWrite_notHo (hrq : rq ≠ .fw) : (s.rowWrite rq u r be v).2.2 = false := by
  simp only [State.rowWrite, hrq, false_and, if_false]
  (repeat' split) <;> rfl
theorem State.rowWrite_notLocked (hacc : r.acc ≠ .rwl) : (s.rowWrite rq u r be v).2.1 = false := by
  unfold State.rowWrite
  dsimp only
  (repeat' split) <;> first | rfl | contradiction

/-- A word that nothing holds and that has no way of its own is stored by its access codes, and then does what it does beside. A
word without an RWL field, with some field that is not RO. -/
theorem State.oneWrite_codes {addr : Nat} (hrq : rq ≠ .fw) (hheld : s.wordHeld u off (merge be (s.unitWord u off) v) = none)
    (hown : s.wordOwn rq u off be v = none) (hrwl : ∀ r ∈ rowsAt u off, r.acc ≠ .rwl) (hro : ∃ r ∈ rowsAt u off, r.acc ≠ .ro) :
    (s.oneWrite rq u off addr be v).1 =
      (({ s.noteWord u off be with regs := s.rowsWrite rq u off be v } : State).wordDone s rq u off be (v &&& beMask be)).1 := by
  have hho : ((rowsAt u off).any fun r => (s.rowWrite rq u r be v).2.2) = false :=
    List.any_eq_false.mpr fun r hr => by simp [State.rowWrite_notHo hrq]
  have hlock : ((rowsAt u off).any fun r => (s.rowWrite rq u r be v).2.1) = false :=
    List.any_eq_false.mpr fun r hr => by simp [State.rowWrite_notLocked (hrwl r hr)]
  have hall : ((rowsAt u off).all fun r => r.acc == .ro) = false := by simpa using hro
  have hlimit (c : Ch) (hu : u = .ch c) : off ≠ 0x48 := by
    rintro rfl
    subst hu
    exact hrwl _ (List.mem_cons_self (l := [_, _])) rfl
  simp only [State.oneWrite, hheld, hown, hho, hlock, hall, Bool.or_self, Bool.false_and, Bool.false_eq_true, if_false]
  split
  · next c => rw [if_neg (by simp [hlimit c rfl])]
  · rfl
/-- A full write of such a word, be it with RWL fields as well, leaves an RW field with the bits written (R37). -/
theorem State.oneWrite_full {addr : Nat} (hrq : rq ≠ .fw) (hv : v < 2 ^ 32) (hheld : s.wordHeld u off (merge 15 (s.unitWord u off) v) = none)
    (hown : s.wordOwn rq u off 15 v = none) (hlimit : ∀ c, u = .ch c → off ≠ 0x48) (hr : r ∈ rowsAt u off) (hacc : r.acc = .rw)
    (has : r.asWritten u) (hdone : ∀ (t s0 : State) x, (t.wordDone s0 rq u off 15 x).1.reg (r.fld u) = t.reg (r.fld u)) :
    (s.oneWrite rq u off addr 15 v).1.reg (r.fld u) = v / 2 ^ r.lo % 2 ^ r.w := by
  have hstored (t : State) : (t.rowsWrite rq u off 15 v).get (r.fld u) = v / 2 ^ r.lo % 2 ^ r.w := State.rowsWrite_full hrq hr hacc has hv
  unfold State.oneWrite
  rw [hheld]
  dsimp -zeta only
  rw [hown]
  dsimp -zeta only
  extract_lets rows ho lock s1 s2 st over_ p
  have hover : over_ = false := by
    cases u with
    | ch c => simp [over_, hlimit c rfl]
    | _ => rfl
  rw [hover, if_neg Bool.false_ne_true]
  split
  · next hall => simpa [hacc] using List.all_eq_true.mp hall r hr
  split
  · next heq =>
    have heq := eq_of_beq ((Bool.and_eq_true _ _).mp heq).2
    exact (congrArg (Store.get · (r.fld u)) heq).symm.trans (hstored s2)
  · exact (hdone _ _ _).trans (hstored s2)
end

end Sys2Proof.Machine

/-! ### What a write sets off leaves of the word written -/

namespace Sys2Proof.Machine

/-! Setting FOLD_CTRL.ENABLE leaves what lasts. -/

section
variable {s : State} {fld : Fld} (hk : fld.lasting = true)
include hk

@[simp] theorem State.setCmd_lasting {c : Ch} {on run : Bool} : (s.setCmd c on run).regs.get fld = s.regs.get fld := by
  unfold State.setCmd
  simp -implicitDefEqProofs [hk]
@[simp] theorem State.cmdAt_lasting {t : Nat} {c : Ch} {on run : Bool} : (s.cmdAt t c on run).regs.get fld = s.regs.get fld := by
  unfold State.cmdAt
  simp -implicitDefEqProofs [hk]
@[simp] theorem State.actionCmd_lasting {g target action param : Nat} :
    (s.actionCmd g target action param).regs.get fld = s.regs.get fld := by
  unfold State.actionCmd
  split <;> simp -implicitDefEqProofs [hk]
@[simp] theorem State.cancelNote_lasting {l : List Slot} {chByte cause rule : Nat} :
    (s.cancelNote l chByte cause rule).regs.get fld = s.regs.get fld := by
  unfold State.cancelNote
  split <;> simp -implicitDefEqProofs [hk]
@[simp] theorem State.cancelSlots_lasting {p : Slot → Bool} {cause rule : Nat} :
    (s.cancelSlots p cause rule).regs.get fld = s.regs.get fld := by
  unfold State.cancelSlots
  simp -implicitDefEqProofs [hk]
@[simp] theorem State.releaseSlot_lasting {x : Slot} : (s.releaseSlot x).regs.get fld = s.regs.get fld := by
  unfold State.releaseSlot State.markNote
  simp -implicitDefEqProofs [hk]
@[simp] theorem State.releaseOrWait_lasting {x : Slot} : (s.releaseOrWait x).regs.get fld = s.regs.get fld := by
  unfold State.releaseOrWait
  simp -implicitDefEqProofs [hk]
@[simp] theorem State.lateSlot_lasting {x : Slot} {where_ : Nat} : (s.lateSlot x where_).regs.get fld = s.regs.get fld := by
  unfold State.lateSlot
  simp -implicitDefEqProofs [hk]
@[simp] theorem State.foldEnabled_lasting : s.foldEnabled.regs.get fld = s.regs.get fld := by
  unfold State.foldEnabled State.cancelAbsent
  simp -implicitDefEqProofs [hk]
end

/-! Words that go to the groups, and the core voltage -/

section
variable {s : State} {f : Fld}

theorem State.reg_imageWrite {g : Grp} {off data : Nat} (h : F.GRP_IMAGE_WRITTEN g ≠ f) : (s.imageWrite g off data).2.reg f = s.reg f := by
  have hw (t : State) : (t.wrapTally (F.GRP_IMAGE_WRITTEN g)).reg f = t.reg f := by rw [State.reg_wrapTally, if_neg h]
  unfold State.imageWrite
  dsimp only
  (repeat' split) <;> simp [hw]
theorem State.reg_sendWord {u : U} {off : Nat} (h : ∀ g, F.GRP_IMAGE_WRITTEN g ≠ f) : (s.sendWord u off).2.reg f = s.reg f := by
  unfold State.sendWord
  split
  · rfl
  · exact State.reg_imageWrite (h _)
theorem State.reg_imageSent {u : U} {off : Nat} (h : ∀ g, F.GRP_IMAGE_WRITTEN g ≠ f) : (s.imageSent u off).1.reg f = s.reg f := by
  unfold State.imageSent
  split
  · split
    · exact State.reg_sendWord h
    · rfl
  · rfl
theorem State.reg_edgeMasks (h : ∀ g, F.GRP_IMAGE_WRITTEN g ≠ f) (hm : ∀ g, F.GRP_EDGE_URGENT_MASK g ≠ f) : s.edgeMasks.reg f = s.reg f := by
  refine State.foldl_keep (·.reg f) (fun s g => ?_) _ _
  dsimp only
  split
  · rfl
  · rw [State.reg_sendWord h, State.reg_setReg, if_neg (hm g)]
theorem State.reg_replan {kind item before after measure : Nat} (h : f.plain = true) :
    (s.replan kind item before after measure).reg f = s.reg f :=
  (State.reg_post _ h).trans (State.reg_notify _ _ h)
theorem State.reg_reduceWritten {rq : Req} {g : Grp} {hi : Bool} {be : Fin 16} {old : List Nat} (h : f.plain = true) :
    (s.reduceWritten rq g hi be old).reg f = s.reg f := by
  refine State.foldl_keep (·.reg f) (fun s j => ?_) _ _
  dsimp only
  (repeat' split) <;> simp only [State.reg_replan h, State.reg_cause_plain _ _ h]
theorem State.reg_vidCeiling (h : f.plain = true) (hc : F.HK_STATUS_AT_CEILING ≠ f) : s.vidCeiling.reg f = s.reg f := by
  have hset : (s.setReg F.HK_STATUS_AT_CEILING 1).reg f = s.reg f := by rw [State.reg_setReg, if_neg hc]
  unfold State.vidCeiling
  dsimp only
  split
  · exact hset
  · exact (State.reg_replan h).trans ((State.reg_cause_plain _ _ h).trans hset)
/-- What a write of HK_VID sets off changes NOW, AT_CEILING and BASELINE_RUN, and what causes, notifications and records change (R422 to R424). -/
theorem State.reg_vidNow (h : f.plain = true) (hn : F.HK_VID_NOW ≠ f) (hc : F.HK_STATUS_AT_CEILING ≠ f) (hb : F.ROOT_RESET_STATUS_BASELINE_RUN ≠ f) :
    s.vidNow.reg f = s.reg f := by
  have hkept (t : State) (a : Nat) : (((t.setReg F.HK_VID_NOW a).setReg F.HK_STATUS_AT_CEILING 0).cause .hk 3).runEnd.reg f = t.reg f := by
    refine (State.reg_setReg ..).trans ((if_neg hb).trans ((State.reg_cause_plain _ _ h).trans ?_))
    rw [State.reg_setReg, if_neg hc, State.reg_setReg, if_neg hn]
  unfold State.vidNow
  dsimp only
  split
  · rfl
  split
  · split
    · exact State.reg_vidCeiling h hc
    · rfl
  split
  · split
    · exact (State.reg_replan h).trans (hkept _ _)
    · exact hkept _ _
  · exact hkept _ _
end

end Sys2Proof.Machine

/-! ### Full writes of plain words (R37, Table 0.3) -/

namespace Sys2Proof.Machine

/-- A word that a write serves as one word, stored by its access codes: outside the host link's units and the pairs, with no way of its
own, no lock bit in it, and no current limit. -/
structure PlainWord (u : U) (off : Nat) : Prop where
  spot : spotAt (U.at u off / 4 * 4) = .word u off
  link : linkUnit u = false
  low : off ∉ writePairs u
  high : 4 ≤ off → off - 4 ∉ writePairs u
  own : ∀ (t : State) rq be v, t.wordOwn rq u off be v = none
  limit : ∀ c, u = .ch c → off ≠ 0x48
  lock : ∀ f, lockFld u = some f → f.off ≠ off
  root : u ≠ .root

/-- The state in which a word's write is served: of IN_TALLY, once what came in the same tick has been taken back (R164). -/
def State.based (s : State) (u : U) (off : Nat) : State :=
  match u with
  | .ch c => if off = 0xC0 then s.tallyBase c else s
  | _ => s

section
variable {s : State} {rq : Req} {u : U} {off : Nat} {be : Fin 16} {v : Nat}

/-- A write, by any requester but the controller, of a word of a unit that is reached and that is no word of a pair is that of one word. -/
theorem State.writeWord_one (hrq : rq ≠ .fw) (hspot : spotAt (U.at u off / 4 * 4) = .word u off) (hlink : linkUnit u = false ∨ s.host.dlUp = true)
    (hlow : off ∉ writePairs u) (hhigh : 4 ≤ off → off - 4 ∉ writePairs u) :
    s.writeWord rq (U.at u off) be v = (s.based u off).oneWrite rq u off (U.at u off / 4 * 4) be v := by
  have hreach : (linkUnit u && !s.host.dlUp && (rq != .fw || s.fwMayWrite u off)) = false := by obtain h | h := hlink <;> simp [h]
  have hpair : ¬(4 ≤ off ∧ (writePairs u).contains (off - 4) = true) := fun h => hhigh h.1 (by simpa using h.2)
  simp only [State.writeWord, hspot, hreach, State.unitWrite, hrq, false_and, if_false, Bool.false_eq_true]
  rw [if_neg (by simpa using hlow), if_neg hpair]
  cases u <;> rfl
/-- A full write of a plain word that nothing holds leaves its RW fields with the bits written. -/
theorem PlainWord.stores (hw : PlainWord u off) {v : Word} {c : Ch} (hrq : rq ≠ .fw) (hs : s.serves rq (U.at u off))
    (hheld : ∀ n, (s.based u off).wordHeld u off n = none) (hch : ∀ d, u = .ch d → d = c)
    (hdone : ∀ y ∈ rowsAt u off, y.acc = .rw → ∀ (t s0 : State) x, (t.wordDone s0 rq u off 15 x).1.reg (y.fld u) = t.reg (y.fld u)) :
    ∃ t, writeCmd rq (U.at u off) 15 v.toNat s = .next t ∧
      ∀ y ∈ rowsAt u off, y.acc = .rw → y.fld u ≠ F.SK_BASE_COUNT c → t.reg (y.fld u) = v.toNat / 2 ^ y.lo % 2 ^ y.w := by
  refine ⟨_, writeCmd_serves hs (by simp [enables_full]), fun y hy hacc hcount => ?_⟩
  have hcounts (d : Ch) : y.fld u ≠ F.SK_BASE_COUNT d := fun e => hcount (hch d (congrArg Fld.unit e) ▸ e)
  have hlock : lockFld u ≠ some (y.fld u) := fun e => hw.lock _ e (Row.mem_rowsAt.mp hy).2
  rw [enables_full, State.writeWord_one hrq hw.spot (.inl hw.link) hw.low hw.high]
  exact State.oneWrite_full hrq v.isLt (hheld _) (hw.own _ _ _ _) hw.limit hy hacc (Row.asWritten_of hw.root hcounts hlock) (hdone y hy hacc)
end

end Sys2Proof.Machine

/-! ### The words whose RW fields take the bits written -/

namespace Sys2Proof.Machine

theorem plainWord_rate : PlainWord .tb 0x2C := ⟨rfl, rfl, by decide, fun _ => by decide, fun _ _ _ _ => rfl, nofun, nofun, nofun⟩
theorem plainWord_fold : PlainWord .fold 0x20 := ⟨rfl, rfl, by decide, fun _ => by decide, fun _ _ _ _ => rfl, nofun, nofun, nofun⟩
theorem plainWord_vid : PlainWord .hk 0x3C :=
  ⟨rfl, rfl, by decide, fun _ => by decide, fun _ _ _ _ => rfl, nofun, by simp [lockFld], nofun⟩
theorem plainWord_win (x : Strm) (j : Fin 4) : PlainWord (.chain x) (0x40 + 4 * j.val) where
  spot := by revert x j; decide
  link := rfl
  low := by
    simp [writePairs]
    omega
  high _ := by
    simp [writePairs]
    omega
  own _ _ _ _ := if_neg (by omega)
  limit := nofun
  lock := nofun
  root := nofun
theorem plainWord_rule (r : RuleNo) (w : Fin 3) : PlainWord (.rule r) (if w = 0 then 0 else 4 + 4 * w.val) where
  spot := by revert r w; decide
  link := rfl
  low := by revert w; simp only [writePairs]; decide
  high := by revert w; simp only [writePairs]; decide
  own _ _ _ _ := rfl
  limit := nofun
  lock := nofun
  root := nofun
theorem plainWord_ch (c : Ch) {off : Nat} (h : off = 0xA4 ∨ off = 0xAC ∨ off = 0xC0) : PlainWord (.ch c) off where
  spot := by obtain rfl | rfl | rfl := h <;> revert c <;> decide
  link := rfl
  low := List.not_mem_nil
  high _ := List.not_mem_nil
  own _ _ _ _ := if_neg (by omega)
  limit _ _ := by omega
  lock f hf := by
    obtain rfl : F.CH_LOCK c = f := by simpa [lockFld] using hf
    dsimp only
    omega
  root := nofun
theorem plainWord_derate (g : Grp) (hi : Bool) : PlainWord (.grp g) (if hi then 0x154 else 0x150) where
  spot := by revert g hi; decide
  link := rfl
  low := List.not_mem_nil
  high _ := List.not_mem_nil
  own _ _ _ _ := rfl
  limit := nofun
  lock f hf := by
    obtain rfl : F.GRP_LOCK g = f := by simpa [lockFld] using hf
    cases hi <;> simp
  root := nofun
theorem plainWord_hours (d : Fin 5) (b : Fin 4) : PlainWord (.hours d) (4 * b.val) where
  spot := by revert d b; decide
  link := rfl
  low := List.not_mem_nil
  high _ := List.not_mem_nil
  own _ _ _ _ := rfl
  limit := nofun
  lock := nofun
  root := nofun

section
variable {s s0 : State} {rq : Req} {be : Fin 16} {x : Nat} {y : Row}

theorem wordDone_win (k : Strm) (j : Fin 4) : (s.wordDone s0 rq (.chain k) (0x40 + 4 * j.val) be x).1.regs = s.regs := by
  have hwin (t : State) : (t.chainDone s0 k (0x40 + 4 * j.val) x).regs = t.regs := by
    rw [State.chainDone, if_neg (by omega), if_neg (by omega)]
    (repeat' split) <;> simp
  rw [State.wordDone, if_neg (by simp; omega)]
  exact hwin s
theorem wordDone_fold {f : Fld} (hk : f.lasting = true) : (s.wordDone s0 rq .fold 0x20 be x).1.reg f = s.reg f := by
  simp only [State.wordDone]
  simp [State.reg, hk]
theorem wordDone_rule {f : Fld} (r : RuleNo) {off : Nat} (ho : off ∈ [0, 8, 0xC]) (hf : f.unit = .rule r) :
    (s.wordDone s0 rq (.rule r) off be x).1.reg f = s.reg f := by
  have hmasks : s.edgeMasks.reg f = s.reg f := State.reg_edgeMasks (fun g e => by simp [← e] at hf) fun g e => by simp [← e] at hf
  have hsent : (s.sendRule r).reg f = s.reg f := by simp [State.reg]
  simp only [List.mem_cons, List.not_mem_nil, or_false] at ho
  obtain rfl | rfl | rfl := ho <;> simp [State.wordDone, U.isUnit, hmasks, hsent]
theorem wordDone_ch {f : Fld} (c : Ch) {off : Nat} (h : off = 0xA4 ∨ off = 0xAC ∨ off = 0xC0) (hf : f.unit = .ch c) :
    (s.wordDone s0 rq (.ch c) off be x).1.reg f = s.reg f := by
  have himage : (s.imageSent (.ch c) off).1.reg f = s.reg f := State.reg_imageSent fun g e => by simp [← e] at hf
  obtain rfl | rfl | rfl := h <;> simp [State.wordDone, State.chDone, himage]
theorem wordDone_derate {f : Fld} (g : Grp) (hi : Bool) (hf : f.plain = true) (hw : ∀ g, F.GRP_IMAGE_WRITTEN g ≠ f) :
    (s.wordDone s0 rq (.grp g) (if hi then 0x154 else 0x150) be x).1.reg f = s.reg f := by
  cases hi <;> simp [State.wordDone, State.grpDone, State.reg_reduceWritten hf, State.reg_imageSent hw]
theorem rowsAt_vid (hy : y ∈ rowsAt .hk 0x3C) (hacc : y.acc = .rw) : y.fld .hk = F.HK_VID_REQ := by
  revert y
  decide
end

end Sys2Proof.Machine

namespace Sys2Proof
open Machine

/-- Settles O40: each word named is a `PlainWord`, stored by its access codes, and what it does beside being stored leaves its RW fields. A rule
that is disarmed is held by nothing (R236). -/
theorem fieldsTakeWrittenValue : Obligations.FieldsTakeWrittenValue := by
  unfold Obligations.FieldsTakeWrittenValue
  intro s rq v c x r g d b w j hi hrq
  have hch (off : Nat) (h : off = 0xA4 ∨ off = 0xAC ∨ off = 0xC0) (hs : s.serves rq (U.at (.ch c) off)) :=
    (plainWord_ch c h).stores (v := v) hrq hs (fun _ => by obtain rfl | rfl | rfl := h <;> rfl) (fun _ h => (U.ch.inj h).symm)
      fun y _ _ _ _ _ => wordDone_ch c h rfl
  have hrule : ∀ w : Fin 3, (if w = 0 then 0 else 4 + 4 * w.val) ∈ [0, 8, 0xC] := by decide
  simp only [List.forall_mem_cons, List.not_mem_nil, false_imp_iff, implies_true, and_true]
  refine ⟨fun hs _ => ?_, fun hs _ => ?_, fun hs _ => ?_, fun hs hold => ?_, fun hs _ => ?_, fun hs _ => ?_, fun hs _ => ?_, fun hs _ => ?_,
    fun hs _ => ?_, fun hs _ => ?_⟩
  · exact plainWord_rate.stores hrq hs (fun _ => rfl) nofun fun _ _ _ _ _ _ => rfl
  · exact (plainWord_win x j).stores hrq hs (fun _ => rfl) nofun fun y _ _ _ _ _ => congrArg (Store.get · _) (wordDone_win x j)
  · refine plainWord_fold.stores hrq hs (fun _ => rfl) nofun fun y hy _ _ _ _ => wordDone_fold ?_
    exact beq_iff_eq.mpr (Row.mem_rowsAt.mp hy).2
  · refine (plainWord_rule r w).stores hrq hs (fun _ => ?_) nofun fun y hy _ _ _ _ => wordDone_rule r (hrule w) rfl
    exact if_neg (by simp [hold, State.based])
  · exact hch _ (.inl rfl) hs
  · exact hch _ (.inr (.inl rfl)) hs
  · exact hch _ (.inr (.inr rfl)) hs
  · refine (plainWord_derate g hi).stores hrq hs (fun _ => rfl) nofun fun y hy _ _ _ _ => wordDone_derate g hi ?_ fun g' e => ?_
    · have ho : y.off ≠ 0x10 := by
        rw [(Row.mem_rowsAt.mp hy).2]
        cases hi <;> decide
      exact Fld.plain_iff.mpr ⟨ho, nofun, nofun, nofun⟩
    · have ho := (congrArg Fld.off e).trans (Row.mem_rowsAt.mp hy).2
      cases hi <;> cases ho
  · refine plainWord_vid.stores hrq hs (fun _ => rfl) nofun fun y hy hacc _ _ _ => ?_
    rw [rowsAt_vid hy hacc]
    exact State.reg_vidNow rfl (by simp) (by simp) (by simp)
  · exact (plainWord_hours d b).stores hrq hs (fun _ => rfl) nofun fun y _ _ _ _ _ => rfl

end Sys2Proof

/-! ### The words of a writable pair (R40, R41) -/

namespace Sys2Proof.Machine

theorem U.base_aligned (u : U) : u.base % 4 = 0 := by
  cases u <;> simp only [U.base] <;> omega
theorem U.at_aligned (u : U) {off : Nat} (h : off % 4 = 0) : U.at u off / 4 * 4 = U.at u off := by
  have := u.base_aligned
  simp only [U.at]
  omega
theorem writePairs_aligned {u : U} {o : Nat} (h : o ∈ writePairs u) : o % 4 = 0 := by
  cases u <;> simp [writePairs] at h <;> omega
/-- The high word of a pair is no low word. -/
theorem writePairs_high {u : U} {o : Nat} (h : o ∈ writePairs u) : o + 4 ∉ writePairs u := by
  cases u <;> simp [writePairs] at h ⊢ <;> omega
/-- TB_STATUS stands in no pair. -/
theorem writePairs_status {o : Nat} (h : o ∈ writePairs .tb) : o ≠ 0x64 ∧ o + 4 ≠ 0x64 := by
  revert o
  decide
/-- The high word of a pair stands behind the low one. -/
theorem spotAt_high {u : U} {o : Nat} (ho : o ∈ writePairs u) (h : spotAt (U.at u o) = .word u o) : spotAt (U.at u (o + 4)) = .word u (o + 4) := by
  cases u with
  | tb => revert o; decide
  | ring r => revert o; revert r; decide
  | drvCh k => revert o; revert k; decide
  | ckU k => revert o; revert k; decide
  | rule r => revert o; revert r; decide
  | chain x => revert o; revert x; decide
  | _ => cases ho

section
variable {s t : State} {rq : Req} {u : U} {o : Nat} {be : Fin 16} {v : Nat} {f : Fld}

theorem State.stageOf_setStage (x : Option (Nat × Nat)) : (s.setStage rq x).stageOf rq = x := by
  cases rq <;> simp [State.setStage, State.stageOf]
theorem State.setStage_clocks {x : Option (Nat × Nat)} : (s.setStage rq x).hub.step = s.hub.step ∧ (s.setStage rq x).hub.wait = s.hub.wait ∧
    (s.setStage rq x).tick = s.tick := by
  cases rq <;> exact ⟨rfl, rfl, rfl⟩
theorem State.stageOf_congr (h : t.hub.stage = s.hub.stage) (hd : t.drv = s.drv) : t.stageOf rq = s.stageOf rq := by
  simp only [State.stageOf, State.drvc, h, hd]

/-! A pair that its ring, channel or unit holds -/

/-- Whether a pair is held depends on the registers alone. -/
theorem State.pairHeld_congr (h : t.regs = s.regs) : t.pairHeld u o = none ↔ s.pairHeld u o = none := by
  have hreg (f : Fld) : t.reg f = s.reg f := congrArg (Store.get · f) h
  simp only [State.pairHeld, State.ckBusy, State.chanActive, State.drvActive, State.drvState, State.on, hreg]
  split <;> simp
/-- A write of a pair that is held leaves the pair as it was (R340, R366, R370). -/
theorem State.pairHeld_keeps {p : State × WRes} (hp : s.pairHeld u o = some p) (ho : o ∈ writePairs u) (hu : f.unit = u)
    (hf : f.off = o ∨ f.off = o + 4) : p.1.reg f = s.reg f := by
  unfold State.pairHeld at hp
  split at hp
  · next r => 
    obtain ⟨-, rfl⟩ : s.on (F.RING_CFG_ENABLE r) = true ∧ (s, .dropped) = p := by simpa using hp
    rfl
  · next k =>
    obtain ⟨⟨hlo, -⟩, rfl⟩ : (o = 4 ∧ s.drvActive k = true) ∧ (s.drvBusyWrite k, .dropped) = p := by simpa using hp
    exact (State.reg_tally ..).trans (if_neg fun e => by simp [← e, hlo] at hf)
  · next k =>
    obtain ⟨-, rfl⟩ : s.ckBusy k = true ∧ (s.ckBusyWrite k, .dropped) = p := by simpa using hp
    obtain rfl : o = 8 := by simpa [writePairs] using ho
    have hplain : f.plain = true := Fld.plain_iff.mpr ⟨by omega, fun e => by simp [e] at hu, fun e => by simp [e] at hu, fun e => by simp [e] at hu⟩
    exact (State.reg_cause_plain _ _ hplain).trans ((State.reg_tally ..).trans (if_neg fun e => by simp [← e] at hf))
  · cases hp

/-! A pair's commit -/

/-- A pair stored: its low word, where one is staged, and its high word. -/
def State.pairStored (s : State) (u : U) (lo : Nat) (low : Option Nat) (high : Nat) : State :=
  { (s.noteWord u lo 15).noteWord u (lo + 4) 15 with
    regs := storeWord (match low with | some w => storeWord s.regs u lo w | none => s.regs) u (lo + 4) high }
/-- What a pair does beside being stored: the time base's step and its SYNC_OUT start (R245, R251). -/
def State.pairDone (s : State) (u : U) (lo : Nat) : State :=
  match u with
  | .tb =>
    if lo = 0x30 then s.stepAsked (sgn 64 (s.pair F.TB_STEP_LO F.TB_STEP_HI)) 0
    else if lo = 0x54 then s.soWritten else s
  | _ => s
theorem State.pairWrite_free {low : Option Nat} (h : s.pairHeld u o = none) :
    (s.pairWrite u o low v).1 = (s.pairStored u o low v).pairDone u o := by
  simp only [State.pairWrite, h]
  cases u <;> rfl
theorem storeWord_off {st : Store} (h : f.off ≠ o) : (storeWord st u o v).get f = st.get f :=
  Store.get_foldl_guarded (fun st r => Store.get_set_ne st _ (by rintro rfl; exact h rfl)) _ _
theorem State.reg_stepAsked {delta : Int} {cause : Nat} (hs : F.TB_STATUS_STEPS ≠ f) (hp : F.TB_STATUS_STEP_PENDING ≠ f) :
    (s.stepAsked delta cause).reg f = s.reg f := by
  have htally (t : State) : (t.tally F.TB_STATUS_STEPS).reg f = t.reg f := (State.reg_tally ..).trans (if_neg hs)
  have hpending (t : State) : (t.setReg F.TB_STATUS_STEP_PENDING 1).reg f = t.reg f := (State.reg_setReg ..).trans (if_neg hp)
  unfold State.stepAsked
  split
  · rfl
  · exact htally _
  · split
    · rfl
    · exact (htally _).trans (hpending _)
/-- It changes no field but those of TB_STATUS. -/
theorem State.reg_pairDone (h : u = .tb → f.off ≠ 0x64) : (s.pairDone u o).reg f = s.reg f := by
  unfold State.pairDone
  split
  · have hoff := h rfl
    split
    · exact State.reg_stepAsked (fun e => hoff (e ▸ rfl)) fun e => hoff (e ▸ rfl)
    · split <;> simp [State.reg]
  · rfl
theorem State.stepAsked_stage {delta : Int} {cause : Nat} : (s.stepAsked delta cause).hub.stage = s.hub.stage := by
  unfold State.stepAsked
  (repeat' split) <;> simp
theorem State.soWritten_stage : s.soWritten.hub.stage = s.hub.stage := by
  have haim (t : Nat) : (s.soAim t).hub.stage = s.hub.stage := rfl
  rw [State.soWritten, State.ite_hub, apply_ite Hub.stage, haim]
  exact ite_self _
theorem State.pairDone_stage : (s.pairDone u o).hub.stage = s.hub.stage := by
  unfold State.pairDone
  split
  · split
    · exact State.stepAsked_stage
    · split
      · exact State.soWritten_stage
      · rfl
  · rfl
theorem State.pairDone_drv : (s.pairDone u o).drv = s.drv := by
  unfold State.pairDone
  split
  · split
    · simp
    · split <;> simp
  · rfl
theorem State.stageOf_pairDone : (s.pairDone u o).stageOf rq = s.stageOf rq := State.stageOf_congr State.pairDone_stage State.pairDone_drv

/-- A word written last keeps its fields against the writes of another word. -/
theorem State.pairStored_high {low : Option Nat} {r : Row} (hr : r ∈ rowsAt u (o + 4)) (hacc : r.acc = .rw) :
    (s.pairStored u o low v).reg (r.fld u) = v / 2 ^ r.lo % 2 ^ r.w := by
  obtain ⟨hmem, hoff⟩ := Row.mem_rowsAt.mp hr
  have h := storeWord_get (st := match low with | some w => storeWord s.regs u o w | none => s.regs) hmem (.inl hacc) v
  rw [hoff] at h
  exact h
theorem State.pairStored_low {w : Nat} {r : Row} (hr : r ∈ rowsAt u o) (hacc : r.acc = .rw) :
    (s.pairStored u o (some w) v).reg (r.fld u) = w / 2 ^ r.lo % 2 ^ r.w := by
  obtain ⟨hmem, hoff⟩ := Row.mem_rowsAt.mp hr
  have h := storeWord_get (st := s.regs) hmem (.inl hacc) w
  rw [hoff] at h
  exact (storeWord_off (by simp [Row.fld, hoff])).trans h
theorem State.pairStored_alone (hf : f.off ≠ o + 4) : (s.pairStored u o none v).reg f = s.reg f := storeWord_off hf
theorem State.stageOf_pairStored {low : Option Nat} : (s.pairStored u o low v).stageOf rq = s.stageOf rq :=
  State.stageOf_congr (by simp [State.pairStored]) (by simp [State.pairStored])

/-! Writes of the words of a pair -/

/-- A write of a word of a unit that is reached is the unit's (R20). -/
theorem State.writeWord_unit {off : Nat} (halign : off % 4 = 0) (hspot : spotAt (U.at u off) = .word u off)
    (hlink : linkUnit u = false ∨ s.host.dlUp = true) : s.writeWord rq (U.at u off) be v = s.unitWrite rq u off (U.at u off) be v := by
  have hreach : (linkUnit u && !s.host.dlUp && (rq != .fw || s.fwMayWrite u off)) = false := by obtain h | h := hlink <;> simp [h]
  simp only [State.writeWord, u.at_aligned halign, hspot, hreach, Bool.false_eq_true, if_false]

section
variable (hrq : rq ≠ .fw) (ho : o ∈ writePairs u)
include hrq ho

theorem State.unitWrite_low_held {a : Nat} {p : State × WRes} (h : s.pairHeld u o = some p) : s.unitWrite rq u o a be v = p := by
  simp only [State.unitWrite, hrq, false_and, if_false]
  rw [if_pos (by simpa using ho), h]
/-- A low word is staged (R41). -/
theorem State.unitWrite_low {a : Nat} (h : s.pairHeld u o = none) :
    (s.unitWrite rq u o a be v).1 = s.setStage rq (some (a, merge be (s.unitWord u o) v)) := by
  simp only [State.unitWrite, hrq, false_and, if_false]
  rw [if_pos (by simpa using ho), h]
/-- A high word commits the pair whose low word the requester has staged (R41). -/
theorem State.unitWrite_high_staged {a w : Nat} (h : s.stageOf rq = some (a, w)) :
    s.unitWrite rq u (o + 4) (a + 4) be v = (s.setStage rq none).pairWrite u o (some w) (merge be (s.unitWord u (o + 4)) v) := by
  simp only [State.unitWrite, hrq, false_and, if_false]
  rw [if_neg (by simpa using writePairs_high ho), if_pos (by simpa using ho), Nat.add_sub_cancel, h]
  exact if_pos rfl
/-- With nothing of the pair staged it commits itself alone (R41). -/
theorem State.unitWrite_high_alone {a : Nat} (h : ∀ w, s.stageOf rq ≠ some (a, w)) :
    s.unitWrite rq u (o + 4) (a + 4) be v = s.pairWrite u o none (merge be (s.unitWord u (o + 4)) v) := by
  simp only [State.unitWrite, hrq, false_and, if_false]
  rw [if_neg (by simpa using writePairs_high ho), if_pos (by simpa using ho), Nat.add_sub_cancel]
  split
  · next b w hb => exact if_neg fun e => h w (by rw [hb, Nat.add_right_cancel e])
  · rfl
/-- Neither word of a held pair changes what stands in it. -/
theorem State.unitWrite_held {a : Nat} (hheld : s.pairHeld u o ≠ none) (hu : f.unit = u) (hf : f.off = o ∨ f.off = o + 4) :
    (s.unitWrite rq u o a be v).1.reg f = s.reg f ∧ (s.unitWrite rq u (o + 4) (a + 4) be v).1.reg f = s.reg f := by
  have hpair {t : State} (ht : t.regs = s.regs) {low : Option Nat} {x : Nat} : (t.pairWrite u o low x).1.reg f = s.reg f := by
    obtain ⟨p, hp⟩ := Option.ne_none_iff_exists'.mp fun e => hheld ((State.pairHeld_congr ht).mp e)
    simp only [State.pairWrite, hp]
    exact (State.pairHeld_keeps hp ho hu hf).trans (congrArg (Store.get · f) ht)
  obtain ⟨p, hp⟩ := Option.ne_none_iff_exists'.mp hheld
  refine ⟨?_, ?_⟩
  · rw [State.unitWrite_low_held hrq ho hp]
    exact State.pairHeld_keeps hp ho hu hf
  · by_cases hst : ∃ w, s.stageOf rq = some (a, w)
    · obtain ⟨w, hw⟩ := hst
      rw [State.unitWrite_high_staged hrq ho hw]
      exact hpair (by simp)
    · rw [State.unitWrite_high_alone hrq ho fun w hw => hst ⟨w, hw⟩]
      exact hpair rfl

/-- What a high word commits, from a state with the same registers: the staged low word, which is staged no more, or none. -/
theorem State.unitWrite_high_commits {a : Nat} (hv : v < 2 ^ 32) (hfree : s.pairHeld u o = none) :
    ∃ (t : State) (low : Option Nat), (s.unitWrite rq u (o + 4) (a + 4) 15 v).1 = (t.pairStored u o low v).pairDone u o ∧
      ((∃ w, s.stageOf rq = some (a, w) ∧ low = some w ∧ t = s.setStage rq none) ∨ (∀ w, s.stageOf rq ≠ some (a, w)) ∧ low = none ∧ t = s) := by
  by_cases hst : ∃ w, s.stageOf rq = some (a, w)
  · obtain ⟨w, hw⟩ := hst
    refine ⟨s.setStage rq none, some w, ?_, .inl ⟨w, hw, rfl, rfl⟩⟩
    rw [State.unitWrite_high_staged hrq ho hw, merge_full _ hv, State.pairWrite_free ((State.pairHeld_congr (by simp)).mpr hfree)]
  · have hst : ∀ w, s.stageOf rq ≠ some (a, w) := fun w hw => hst ⟨w, hw⟩
    refine ⟨s, none, ?_, .inr ⟨hst, rfl, rfl⟩⟩
    rw [State.unitWrite_high_alone hrq ho hst, merge_full _ hv, State.pairWrite_free hfree]
end
/-- The commit of STEP asks for a step of its amount, applied in a later tick (R245). -/
theorem State.pairDone_step {w : Nat} (ha : s.aligned = true) (hstep : s.hub.step = none) (hwait : s.hub.wait = none) :
    ((s.pairStored .tb 0x30 (some w) v).pairDone .tb 0x30).hub.step = some (sgn 64 (v % 2 ^ 32 * 2 ^ 32 + w % 2 ^ 32), 0, 1, s.tick) := by
  have hoff (f : Fld) (h0 : f.off ≠ 0x30) (h4 : f.off ≠ 0x34) : (s.pairStored .tb 0x30 (some w) v).reg f = s.reg f :=
    (storeWord_off h4).trans (storeWord_off h0)
  have hlo : (s.pairStored .tb 0x30 (some w) v).reg F.TB_STEP_LO = w % 2 ^ 32 := by
    exact (State.pairStored_low (r := ⟨0x30, 0, 32, 0, .rw, false⟩) (by decide) rfl).trans (by simp)
  have hhi : (s.pairStored .tb 0x30 (some w) v).reg F.TB_STEP_HI = v % 2 ^ 32 := by
    exact (State.pairStored_high (r := ⟨0x34, 0, 32, 0, .rw, false⟩) (by decide) rfl).trans (by simp)
  have hhub : (s.pairStored .tb 0x30 (some w) v).hub = s.hub := by simp [State.pairStored]
  have haligned : (s.pairStored .tb 0x30 (some w) v).aligned = true := by
    rw [← ha]
    simp only [State.aligned, State.absent, State.grpState]
    simp only [hoff F.TB_STATUS_ALIGNED (by decide) (by decide), hoff (F.GRP_STATUS_STATE _) (by simp) (by simp)]
  simp only [State.pairDone, if_true, State.stepAsked, hhub, hstep, hwait, haligned, State.pair, hlo, hhi, State.tick]
end
end Sys2Proof.Machine

namespace Sys2Proof
open Machine

/-- Settles O42: a low word is staged, or discarded with its pair held; a high word is the commit `State.pairStored`, and what
`State.pairDone` adds to it changes no word of the pair. -/
theorem pairsCommitTogether : Obligations.PairsCommitTogether := by
  unfold Obligations.PairsCommitTogether
  intro s rq v u o hrq ho hspot hlink
  have hlow := writePairs_aligned ho
  have hwlow := s.writeWord_unit (rq := rq) (be := 15) (v := v.toNat) hlow hspot hlink
  have hwhigh := s.writeWord_unit (rq := rq) (be := 15) (v := v.toNat) (by omega) (spotAt_high ho hspot) hlink
  have hexec {a : Nat} (hs : s.serves rq a) : writeCmd rq a 15 v.toNat s = .next (s.writeWord rq a 15 v.toNat).1 := by
    rw [writeCmd_serves hs (by simp [enables_full]), enables_full]
  refine ⟨fun hs hfree => ⟨_, hexec hs, ?_⟩, fun i hi hs hs4 hheld => ?_, fun hs hfree => ?_⟩
  · rw [hwlow, State.unitWrite_low hrq ho hfree, merge_full _ v.isLt]
    exact ⟨State.stageOf_setStage _, by simp⟩
  · have hkeep (y : Row) (hy : y ∈ rowsAt u o ++ rowsAt u (o + 4)) :=
      State.unitWrite_held (be := 15) (v := v.toNat) (a := U.at u o) (f := y.fld u) hrq ho hheld rfl
        ((List.mem_append.mp hy).imp (fun h => (Row.mem_rowsAt.mp h).2) fun h => (Row.mem_rowsAt.mp h).2)
    simp only [List.mem_cons, List.not_mem_nil, or_false] at hi
    obtain rfl | rfl := hi
    · exact ⟨_, hexec hs, fun y hy => by rw [hwlow]; exact (hkeep y hy).1⟩
    · exact ⟨_, hexec hs4, fun y hy => by rw [hwhigh]; exact (hkeep y hy).2⟩
  · obtain ⟨t, low, ht, hcase⟩ := State.unitWrite_high_commits (a := U.at u o) hrq ho v.isLt hfree
    have hat : U.at u (o + 4) = U.at u o + 4 := rfl
    have hdone {t : State} (y : Row) (hy : y.off = o ∨ y.off = o + 4) : (t.pairDone u o).reg (y.fld u) = t.reg (y.fld u) :=
      State.reg_pairDone fun hu => by
        subst hu
        have := writePairs_status ho
        simp only [Row.fld]
        omega
    have hhigh (y : Row) (hy : y ∈ rowsAt u (o + 4)) := (Row.mem_rowsAt.mp hy).2
    have hlow (y : Row) (hy : y ∈ rowsAt u o) := (Row.mem_rowsAt.mp hy).2
    have hcommit : writeCmd rq (U.at u (o + 4)) 15 v.toNat s = .next ((t.pairStored u o low v.toNat).pairDone u o) := by
      rw [hexec hs, hwhigh, hat, ht]
    refine ⟨_, hcommit, fun y hy hacc => ?_, fun w hw => ?_, fun hno y hy => ?_, ?_, ?_⟩
    · rw [hdone y (.inr (hhigh y hy)), State.pairStored_high hy hacc]
    · obtain ⟨w', hw', rfl, rfl⟩ | ⟨hno, -⟩ := hcase
      · obtain rfl : w' = w := by simpa [hw'] using hw
        refine ⟨by rw [State.stageOf_pairDone, State.stageOf_pairStored, State.stageOf_setStage], fun y hy hacc => ?_⟩
        rw [hdone y (.inl (hlow y hy)), State.pairStored_low hy hacc]
      · exact absurd hw (hno w)
    · obtain ⟨w', hw', -⟩ | ⟨-, rfl, rfl⟩ := hcase
      · exact absurd hw' (hno w')
      · rw [hdone y (.inl (hlow y hy)), State.pairStored_alone (by simp [Row.fld, hlow y hy])]
    · rintro w rfl rfl hw ha hstep hwait
      obtain ⟨w', hw', rfl, rfl⟩ | ⟨hno, -⟩ := hcase
      · obtain rfl : w' = w := by simpa [hw'] using hw
        refine ⟨hcommit, ?_⟩
        obtain ⟨h1, h2, h3⟩ := s.setStage_clocks (rq := rq) (x := none)
        rw [State.pairDone_step (by simpa [State.aligned, State.absent, State.grpState, State.reg] using ha) (h1.trans hstep) (h2.trans hwait),
          h3, Nat.mod_eq_of_lt v.isLt]
      · exact absurd hw (hno w)
    · rintro r rfl
      obtain rfl : o = 0x10 := by simpa [writePairs] using ho
      exact hcommit
end Sys2Proof

/-! ### Interrupt words (R49, R50) -/

namespace Sys2Proof.Machine

theorem spotAt_irq {u : U} (hu : u.isUnit = true) : spotAt (U.at u 0x10) = .word u 0x10 ∧ spotAt (U.at u 0x14) = .word u 0x14 := by
  cases u with
  | chain x => revert x; decide
  | grp g => revert g; decide
  | ch c => revert c; decide
  | ring _ | drvCh _ | ckE _ | ckU _ | rule _ | hours _ | age _ => cases hu
  | _ => exact ⟨rfl, rfl⟩
set_option maxRecDepth 4000 in
theorem rowsAt_irq {u : U} (hu : u.isUnit = true) :
    rowsAt u 0x10 = [⟨0x10, 0, 32, 0, .w1c, false⟩] ∧ rowsAt u 0x14 = [⟨0x14, 0, 32, 0, .rw, false⟩] := by
  cases u with
  | ring _ | drvCh _ | ckE _ | ckU _ | rule _ | hours _ | age _ => cases hu
  | _ => exact ⟨rfl, rfl⟩
theorem writePairs_irq {u : U} {off : Nat} (hu : u.isUnit = true) (h : off < 0x20) : off ∉ writePairs u := by
  cases u <;> simp [writePairs, U.isUnit] at hu ⊢ <;> omega

section
variable {s : State} {rq : Req} {u : U} {off v : Nat}

theorem State.wordHeld_irq {n : Nat} (hu : u.isUnit = true) (h : off < 0x20) : s.wordHeld u off n = none := by
  cases u with
  | ring _ | drvCh _ | ckE _ | ckU _ | rule _ | hours _ | age _ => cases hu
  | ch c => exact if_neg (by omega)
  | _ => rfl
theorem State.wordOwn_irq {be : Fin 16} (hu : u.isUnit = true) (h : off < 0x20) : s.wordOwn rq u off be v = none := by
  cases u with
  | ring _ | drvCh _ | ckE _ | ckU _ | rule _ | hours _ | age _ => cases hu
  | ch c | chain c => exact if_neg (by omega)
  | tb | fw => exact if_neg (by omega)
  | _ => rfl
theorem State.based_irq (h : off < 0x20) : s.based u off = s := by
  cases u with
  | ch c => exact if_neg (by omega)
  | _ => rfl
/-- A full write of IRQ_CAUSE or IRQ_ENABLE stores the word and asks for the unit's message again (R49, R50). -/
theorem State.writeWord_irq (hrq : rq ≠ .fw) (hu : u.isUnit = true) (hlink : linkUnit u = false ∨ s.host.dlUp = true) (ho : off = 0x10 ∨ off = 0x14) :
    (s.writeWord rq (U.at u off) 15 v).1 = ({ s.noteWord u off 15 with regs := s.rowsWrite rq u off 15 v } : State).unitAsked u := by
  have hlt : off < 0x20 := by omega
  have hspot : spotAt (U.at u off / 4 * 4) = .word u off := by
    rw [u.at_aligned (by omega)]
    obtain rfl | rfl := ho
    · exact (spotAt_irq hu).1
    · exact (spotAt_irq hu).2
  obtain ⟨r, hr, hrwl, hro⟩ : ∃ r, rowsAt u off = [r] ∧ r.acc ≠ .rwl ∧ r.acc ≠ .ro := by
    obtain rfl | rfl := ho
    · exact ⟨_, (rowsAt_irq hu).1, nofun, nofun⟩
    · exact ⟨_, (rowsAt_irq hu).2, nofun, nofun⟩
  have hdone (t : State) : t.wordDone s rq u off 15 (v &&& beMask 15) = (t.unitAsked u, .ok) := by
    unfold State.wordDone
    exact if_pos (by obtain rfl | rfl := ho <;> simp [hu])
  rw [State.writeWord_one hrq hspot hlink (writePairs_irq hu hlt) (fun _ => writePairs_irq hu (by omega)), State.based_irq hlt,
    State.oneWrite_codes hrq (State.wordHeld_irq hu hlt) (State.wordOwn_irq hu hlt) (by simpa [hr] using hrwl) (by simpa [hr] using hro), hdone]

/-- What a write of IRQ_CAUSE leaves of a unit's causes: those not written 1, and those that events have set in the same tick (R42, R49). -/
def State.causesLeft (s : State) (u : U) (v : Nat) : Nat := ((s.reg (F.CAUSE u) &&& (2 ^ 32 - 1 - v)) ||| s.stuck (F.CAUSE u)) % 2 ^ 32
theorem State.rowsWrite_cause (hrq : rq ≠ .fw) (hu : u.isUnit = true) (hv : v < 2 ^ 32) :
    (s.rowsWrite rq u 0x10 15 v).get (F.CAUSE u) = s.causesLeft u v := by
  have hrow : (⟨0x10, 0, 32, 0, .w1c, false⟩ : Row) ∈ rowsAt u 0x10 := by simp [(rowsAt_irq hu).1]
  have hmask : v &&& beMask 15 = v := (Nat.and_two_pow_sub_one_eq_mod v 32).trans (Nat.mod_eq_of_lt hv)
  have hcov : (⟨0x10, 0, 32, 0, .w1c, false⟩ : Row).covered 15 = true := rfl
  refine (State.rowsWrite_get hrow).trans ?_
  simp only [State.rowWrite, hcov, hrq, hmask, State.causesLeft, Row.fld, Bool.not_true, Bool.false_eq_true, if_false, false_and, Nat.pow_zero, Nat.div_one,
    Nat.mod_eq_of_lt hv]
theorem State.rowsWrite_enable (hrq : rq ≠ .fw) (hu : u.isUnit = true) (hv : v < 2 ^ 32) : (s.rowsWrite rq u 0x14 15 v).get (F.ENABLE u) = v := by
  have hrow : (⟨0x14, 0, 32, 0, .rw, false⟩ : Row) ∈ rowsAt u 0x14 := by simp [(rowsAt_irq hu).2]
  have has : (⟨0x14, 0, 32, 0, .rw, false⟩ : Row).asWritten u := by
    intro cur x
    rw [storedAs, if_neg (by simp), if_neg (by simp [Row.fld]), if_neg]
    cases u <;> simp [lockFld, Row.fld]
  refine (State.rowsWrite_full hrq hrow rfl has hv).trans ?_
  simpa using hv

/-! The message of what stays pending -/

theorem State.reg_unitAsked {f : Fld} (h1 : F.ROOT_ACCESS_TALLY_B_CROSS_BLOCKED ≠ f) (h2 : F.CAUSE .root ≠ f) :
    (s.unitAsked u).reg f = s.reg f := by
  unfold State.unitAsked
  split
  · rfl
  · exact State.reg_unitMessage u h1 h2
/-- With nothing pending in the unit, its vector is pending no more (R50). -/
theorem State.unitAsked_none (h : s.pendingSet u = 0) : (s.unitAsked u).host.pba = s.host.pba.filter fun p => p.2 != some u := by
  rw [State.unitAsked, if_pos h]
/-- A message requested while the link takes it goes out at once (R50). -/
theorem State.unitAsked_message (s : State) (hroute : s.on (F.ROUTE_MSIX u) = true) (hpend : s.pendingSet u ≠ 0) (hcross : s.host.cross = none)
    (hclk : s.host.pclkLost = false) (hen : s.host.msixEn = true) (hmask : s.host.funcMask = false)
    (hvec : bit (s.host.msixWord (s.reg (F.ROUTE_VECTOR u)) 3) 0 = false) (hissue : s.host.mayIssue = true) :
    (s.unitAsked u).host.out = s.host.out ++ [s.host.message (s.reg (F.ROUTE_VECTOR u))] := by
  simp [State.unitAsked, State.unitMessage, State.requestMsix, State.deliverMsix, hroute, hpend, hcross, hclk, hen, hmask, hvec, hissue]
end
end Sys2Proof.Machine

namespace Sys2Proof
open Machine

/-- Settles O37: each of the two writes is the word stored by its access code, after which the unit's message is asked for anew. -/
theorem interruptWords : Obligations.InterruptWords := by
  unfold Obligations.InterruptWords
  intro s rq u v hu hrq hlink
  have hexec {a : Nat} (hs : s.serves rq a) : writeCmd rq a 15 v.toNat s = .next (s.writeWord rq a 15 v.toNat).1 := by
    rw [writeCmd_serves hs (by simp [enables_full]), enables_full]
  refine ⟨fun hs => ⟨_, hexec hs, ?_⟩, fun hs => ⟨_, hexec hs, ?_⟩⟩
  · rw [State.writeWord_irq hrq hu hlink (.inl rfl)]
    generalize ht : ({ s.noteWord u 0x10 15 with regs := s.rowsWrite rq u 0x10 15 v.toNat } : State) = t
    have hhost : t.host = s.host := by simp [← ht]
    have hkept (f : Fld) (h : f.off ≠ 0x10) : t.reg f = s.reg f := by
      rw [← ht]
      exact State.rowsWrite_off h
    have hcause : t.reg (F.CAUSE u) = s.causesLeft u v.toNat := by
      rw [← ht]
      exact State.rowsWrite_cause hrq hu v.isLt
    have hpend : t.pendingSet u = s.causesLeft u v.toNat &&& s.reg (F.ENABLE u) := by rw [State.pendingSet, hcause, hkept _ (by simp)]
    refine ⟨fun hroot => ?_, ?_, fun hnone => ?_, fun hroute hsome hcross hclk hen hmask hvec hissue => ?_⟩
    · rw [State.reg_unitAsked (by simp) (by simpa using Ne.symm hroot), hcause, State.causesLeft]
    · rw [State.reg_unitAsked (by simp) (by simp), hkept _ (by simp)]
    · rw [State.unitAsked_none (hpend.trans hnone), hhost]
    · have hvector := hkept (F.ROUTE_VECTOR u) (by simp)
      have h := t.unitAsked_message (u := u) (by simpa [State.on, hkept] using hroute) (hpend ▸ hsome) (by simpa [hhost] using hcross)
        (by simpa [hhost] using hclk) (by simpa [hhost] using hen) (by simpa [hhost] using hmask) (by simpa [hhost, hvector] using hvec)
        (by simpa [hhost] using hissue)
      rw [h, hhost, hvector]
  · rw [State.writeWord_irq hrq hu hlink (.inr rfl), State.reg_unitAsked (by simp) (by simp)]
    exact State.rowsWrite_enable hrq hu v.isLt
end Sys2Proof

/-! ### Accesses to unmapped offsets and to reserved words (R36) -/

namespace Sys2Proof.Machine

/-! An unmapped access -/

section
variable {s t : State} {rq : Req} {u : U}

theorem bit_or_two_pow {x j k : Nat} (hk : k < 32) (h : bit x k = true ∨ j = k) : bit ((x ||| 2 ^ j) % 2 ^ 32) k = true := by
  rw [bit, Nat.testBit_mod_two_pow, Nat.testBit_or, Nat.testBit_two_pow]
  simpa [hk, bit] using h
theorem State.orCause_keeps {j k : Nat} (hk : k < 32) (h : bit (s.reg (F.CAUSE .root)) k = true ∨ u = .root ∧ j = k) :
    bit ((s.orCause u j).reg (F.CAUSE .root)) k = true := by
  rw [State.reg_orCause]
  split
  · next hu =>
    obtain rfl : u = .root := congrArg Fld.unit hu
    exact bit_or_two_pow hk (h.imp_right And.right)
  · next hu => exact h.resolve_right fun e => hu (by rw [e.1])
/-- A message request clears no cause of the root. -/
theorem State.unitMessage_keeps {k : Nat} (hk : k < 32) (h : bit (s.reg (F.CAUSE .root)) k = true) :
    bit ((s.unitMessage u).reg (F.CAUSE .root)) k = true := by
  have htally (t : State) : (t.tally F.ROOT_ACCESS_TALLY_B_CROSS_BLOCKED).reg (F.CAUSE .root) = t.reg (F.CAUSE .root) :=
    (State.reg_tally ..).trans (if_neg (by simp))
  have hblocked : bit (s.crossBlocked.reg (F.CAUSE .root)) k = true := by
    have h' := State.orCause_keeps (s := s.tally F.ROOT_ACCESS_TALLY_B_CROSS_BLOCKED) (u := .root) (j := 3) hk (.inl (by rwa [htally]))
    simp only [State.crossBlocked]
    split
    · rwa [htally]
    · exact h'
  unfold State.unitMessage State.requestMsix
  split
  · split
    · exact hblocked
    · split
      · rwa [State.reg_deliverMsix]
      · exact h
  · exact h
/-- A cause set leaves those of the root set, and sets its own (R49). -/
theorem State.cause_keeps {j k : Nat} (hk : k < 32) (h : bit (s.reg (F.CAUSE .root)) k = true ∨ u = .root ∧ j = k) :
    bit ((s.cause u j).reg (F.CAUSE .root)) k = true := by
  unfold State.cause
  split
  · exact State.unitMessage_keeps hk (State.orCause_keeps hk h)
  · exact State.orCause_keeps hk h

/-- What R36 says of a state after an unmapped access of a requester. -/
structure State.CountsUnmapped (s t : State) (rq : Req) : Prop where
  count : t.reg F.ROOT_ACCESS_TALLY_A_UNMAPPED =
    min (s.reg F.ROOT_ACCESS_TALLY_A_UNMAPPED + 1) (2 ^ F.ROOT_ACCESS_TALLY_A_UNMAPPED.w - 1) % 2 ^ F.ROOT_ACCESS_TALLY_A_UNMAPPED.w
  cause : bit (t.reg (F.CAUSE .root)) 0 = true
  kept : ∀ f, f ≠ F.ROOT_ACCESS_TALLY_A_UNMAPPED → f ≠ F.CAUSE .root → f ≠ F.ROOT_ACCESS_TALLY_B_CROSS_BLOCKED → (rq = .fw → f.unit ≠ .fw) →
    t.reg f = s.reg f
  parts : t.die = s.die ∧ t.links = s.links ∧ t.coef = s.coef ∧ t.fw = s.fw
  link : t.host.apart = s.host.apart

theorem State.unmapped_counts (s : State) (rq : Req) : s.CountsUnmapped s.unmapped rq where
  count := (State.reg_cause _ _ (by simp) (by simp) (by simp)).trans ((State.reg_tally ..).trans (if_pos rfl))
  cause := State.cause_keeps (by omega) (.inr ⟨rfl, rfl⟩)
  kept f h1 h2 h3 _ := (State.reg_cause _ _ h2.symm h3.symm h2.symm).trans ((State.reg_tally ..).trans (if_neg h1.symm))
  parts := by simp
  link := (State.cause_apart _ _).trans (by simp)
/-- A write of the controller to an unmapped offset is counted as filtered as well (R406). -/
theorem State.CountsUnmapped.filtered (h : s.CountsUnmapped t .fw) : s.CountsUnmapped t.filtered .fw where
  count := by
    rw [← h.count]
    exact (State.reg_cause _ _ (by simp) (by simp) (by simp)).trans ((State.reg_tally ..).trans (if_neg (by simp)))
  cause := State.cause_keeps (by omega) (.inl ((congrArg (bit · 0) ((State.reg_tally ..).trans (if_neg (by simp)))).trans h.cause))
  kept f h1 h2 h3 h4 := by
    have hfw (k : Fld) (hk : k.unit = .fw) : k ≠ f := fun e => h4 rfl (e ▸ hk)
    refine (State.reg_cause _ _ (hfw _ rfl) h3.symm h2.symm).trans (((State.reg_tally ..).trans (if_neg (hfw _ rfl))).trans ?_)
    exact h.kept f h1 h2 h3 h4
  parts := by simpa using h.parts
  link := by rw [← h.link]; exact (State.cause_apart _ _).trans (by simp)
theorem State.writeWord_unmapped {a v : Nat} {be : Fin 16} (h : spotAt (a / 4 * 4) = .unmapped) : s.CountsUnmapped (s.writeWord rq a be v).1 rq := by
  simp only [State.writeWord, h]
  split
  · next hrq =>
    subst hrq
    exact (s.unmapped_counts .fw).filtered
  · exact s.unmapped_counts rq
theorem State.readBy_unmapped {a : Nat} (hreach : s.reaches rq = true) (hbar : rq = .host → a < 0x100000) (h : spotAt (a / 4 * 4) = .unmapped) :
    s.CountsUnmapped (s.readBy rq a) rq ∧ (s.readBy rq a).hub.rdata[(reqSlot rq).val] = 0 := by
  have hnot : ¬(rq = .host ∧ 0x100000 ≤ a ∧ a < 0x102000) := fun ⟨hr, hle, _⟩ => absurd (hbar hr) (by omega)
  have hword : s.readWord rq a = (0, s.unmapped) := by simp only [State.readWord, h]
  refine ⟨?_, by rw [rdata_readBy hreach, if_neg hnot, hword]⟩
  obtain ⟨count, cause, kept, parts, link⟩ := s.unmapped_counts rq
  simp only [State.readBy, hreach, Bool.not_true, Bool.false_eq_true, if_false, if_neg hnot, hword]
  exact ⟨count, cause, kept, parts, link⟩
end

theorem enables_ne {be : Fin 16} {rq : Req} (h : be.val ≠ 0) : (enables rq be).val ≠ 0 := by
  unfold enables
  split
  · decide
  · exact h

/-! A reserved word -/

/-- The words of a unit that are held, paired or written in a way of their own. -/
def wordsApart : U → List Nat
  | .tb => [0x30, 0x34, 0x38, 0x40, 0x44, 0x54, 0x58] | .ring _ => [0, 4, 8, 0xC, 0x10, 0x14] | .drvCh _ => [0, 4, 8, 0xC, 0x10]
  | .ckU _ => [0, 4, 8, 0xC, 0x10, 0x14] | .rule _ => [0, 8, 0xC, 0x10, 0x14] | .fw => [0x3C] | .chain _ => [0x24, 0x28, 0x2C] | .ch _ => [0x20, 0xC0]
  | _ => []
/-- The first two check units have no block of the shape of the other six (Table 16.13). -/
theorem spotAt_ckU {a o : Nat} {k : CkNo} (h : spotAt a = .word (.ckU k) o) : 2 ≤ k.val := by
  simp [spotAt, blockAt, ite_eq_iff, dite_eq_iff] at h
  obtain ⟨-, -, -, -, -, hfirst, ⟨-, rfl⟩, -⟩ := h
  exact (Nat.le_div_iff_mul_le (by omega)).mpr (by omega)
set_option maxRecDepth 4000 in
theorem wordsApart_rows {u : U} (hck : ∀ k, u = .ckU k → 2 ≤ k.val) : ∀ o ∈ wordsApart u, rowsAt u o ≠ [] := by
  cases u with
  | ckU k =>
    have hlayout : layout (.ckU k) = layout_ckU := if_neg (by have := hck k rfl; omega)
    simp only [wordsApart, List.forall_mem_cons, List.not_mem_nil, false_imp_iff, implies_true, and_true, rowsAt, hlayout]
    decide
  | tb | ring _ | drvCh _ | rule _ | fw | chain _ | ch _ =>
    simp only [wordsApart, List.forall_mem_cons, List.not_mem_nil, false_imp_iff, implies_true, and_true]
    and_intros <;> exact List.cons_ne_nil _ _
  | _ => exact fun o ho => absurd ho List.not_mem_nil
theorem wordsApart_pair {u : U} {lo : Nat} (h : lo ∈ writePairs u) : lo ∈ wordsApart u ∧ lo + 4 ∈ wordsApart u := by
  cases u <;> simp [writePairs] at h <;> simp [wordsApart] <;> omega

section
variable {s : State} {rq : Req} {u : U} {o v : Nat} {be : Fin 16}

/-- A reserved word reads 0 (R36). -/
theorem State.unitWord_reserved (hrows : rowsAt u o = []) (hhead : u.isUnit = true → 0x10 ≤ o ∧ o ≠ 0x1C) (hformed : s.formed u o = none) :
    s.unitWord u o = 0 := by
  have hlow : (u.isUnit && decide (o < 0x10)) = false := by
    have := fun h => (hhead h).1
    cases hu : u.isUnit <;> simp_all
  have hsum : (u.isUnit && o == 0x1C) = false := by
    have := fun h => (hhead h).2
    cases hu : u.isUnit <;> simp_all
  have hword : wordOf s.regs u o = 0 := (congrArg (List.foldl _ 0) hrows :)
  simp [State.unitWord, hlow, hsum, hformed, hword]
theorem State.wordHeld_apart {n : Nat} (h : o ∉ wordsApart u) : s.wordHeld u o n = none ∨ s.wordHeld u o n = some (s, .dropped) := by
  cases u with
  | ch c =>
    simp only [State.wordHeld]
    split
    · exact .inr rfl
    · exact .inl rfl
  | rule _ | ring _ | drvCh _ | ckU _ =>
    simp [wordsApart] at h
    simp [State.wordHeld, h]
  | _ => exact .inl rfl
theorem State.wordOwn_apart (h : o ∉ wordsApart u) : s.wordOwn rq u o be v = none := by
  cases u <;> simp [wordsApart] at h <;> simp [State.wordOwn, h]
/-- A write of a reserved word is ignored (R36). -/
theorem State.writeWord_reserved {a : Nat} (hrq : rq ≠ .fw) (hspot : spotAt (a / 4 * 4) = .word u o) (hrows : rowsAt u o = []) :
    (s.writeWord rq a be v).1 = s := by
  have hapart : o ∉ wordsApart u := fun h => wordsApart_rows (fun k hk => spotAt_ckU (hk ▸ hspot)) o h hrows
  have hlow : o ∉ writePairs u := fun h => hapart (wordsApart_pair h).1
  have hhigh : ¬(4 ≤ o ∧ o - 4 ∈ writePairs u) := fun ⟨h4, h⟩ => hapart (by simpa [Nat.sub_add_cancel h4] using (wordsApart_pair h).2)
  have hone (n : Nat) : (s.oneWrite rq u o n be v).1 = s := by
    obtain h | h := s.wordHeld_apart (n := merge be (s.unitWord u o) v) hapart
    · simp [State.oneWrite, h, State.wordOwn_apart hapart, hrows]
    · simp [State.oneWrite, h]
  simp only [State.writeWord, hspot]
  split
  · rfl
  · simp only [State.unitWrite, hrq, false_and, if_false, List.contains_iff_mem, hlow, hhigh]
    split
    · next c =>
      rw [if_neg fun e => hapart (by simp [wordsApart, e])]
      exact hone _
    · exact hone _
end
end Sys2Proof.Machine

namespace Sys2Proof
open Machine

/-- Settles O59: an unmapped access ends in `State.CountsUnmapped`; a reserved word has no rows, so a write of it stores nothing. -/
theorem unmappedAccesses : Obligations.UnmappedAccesses := by
  unfold Obligations.UnmappedAccesses
  intro s rq a be v hs
  obtain ⟨harr, hshut⟩ := hs
  have hreach : s.reaches rq = true := harr.2.1
  refine ⟨fun hbar hspot i hi hbe => ?_, fun u o hspot hrows hhead hformed hrq => ⟨State.unitWord_reserved hrows hhead hformed, ?_⟩⟩
  · have hsame {t : State} (h : s.CountsUnmapped t rq) :
        t.host.aerUnc = s.host.aerUnc ∧ t.host.aerCor = s.host.aerCor ∧ t.host.fatal = s.host.fatal :=
      ⟨(congrArg HostIf.aerUnc h.link :), (congrArg HostIf.aerCor h.link :), (congrArg HostIf.fatal h.link :)⟩
    simp only [List.mem_cons, List.not_mem_nil, or_false] at hi
    obtain rfl | rfl := hi
    · obtain ⟨h, hzero⟩ := State.readBy_unmapped hreach hbar hspot
      obtain ⟨hdie, hlinks, hcoef, hfw⟩ := h.parts
      exact ⟨_, onBus_arrives harr _ _, fun _ => hzero, h.count, h.cause, h.kept, hdie, hlinks, hcoef, hfw, hsame h⟩
    · have h := s.writeWord_unmapped (rq := rq) (be := enables rq be) (v := v.toNat) hspot
      obtain ⟨hdie, hlinks, hcoef, hfw⟩ := h.parts
      exact ⟨_, writeCmd_serves ⟨harr, hshut⟩ (enables_ne (hbe rfl)), nofun, h.count, h.cause, h.kept, hdie, hlinks, hcoef, hfw, hsame h⟩
  · have hwrite : s.writeBy rq a be v.toNat = s := by
      unfold State.writeBy
      split
      · rfl
      · rw [hshut]
        exact State.writeWord_reserved hrq hspot hrows
    have hexec : exec (.registerWrite rq a be v) s = .next s := (onBus_arrives harr _ _).trans (congrArg _ hwrite)
    exact ⟨s, hexec, rfl, fun _ _ => .inl rfl⟩
end Sys2Proof

/-! ### What bringing a channel to its state leaves of a digital input (R293)

`Chan.input` is what the digital input of a channel has of its edges. A qualified edge switches the channels that follow it, by operations that
keep it: one lemma per operation. -/

namespace Sys2Proof.Machine

/-- What a channel holds of its qualified state and of the edges counted. -/
@[simp] def Chan.input (k : Chan) : Bool × Bool × Nat := (k.valid, k.qual, k.acc)

section
variable {s : State} {g : Grp} {c : Ch}

@[simp] theorem State.updCh_input {k : Chan → Chan} (h : ∀ x, (k x).valid = x.valid ∧ (k x).qual = x.qual ∧ (k x).acc = x.acc) :
    (s.updCh c k).chans.map Chan.input = s.chans.map Chan.input := by
  ext1 i hi
  simp only [State.updCh, Vector.getElem_map, Vector.getElem_set]
  split
  · next e =>
    subst e
    simp [h]
  · rfl
theorem State.ch_input {t : State} (h : t.chans.map Chan.input = s.chans.map Chan.input) (c : Ch) : (t.ch c).input = (s.ch c).input := by
  simpa [State.ch] using congrArg (fun v => v[c.val]) h

/-! The stroke window -/

@[simp] theorem State.strokeOpen_input {residual : Bool} {lp : Nat} : (s.strokeOpen c residual lp).chans.map Chan.input = s.chans.map Chan.input := by
  unfold State.strokeOpen
  split <;> simp
@[simp] theorem State.learn_input {x d : Rat} : (s.learn c x d).chans.map Chan.input = s.chans.map Chan.input := by
  unfold State.learn
  dsimp only
  split <;> simp
@[simp] theorem State.trend_input {x : Rat} : (s.trend c x).chans.map Chan.input = s.chans.map Chan.input := by
  unfold State.trend
  dsimp only
  split <;> simp
@[simp] theorem State.strokeDecide_input {w : Stroke} {kind reason : Nat} :
    (s.strokeDecide c w kind reason).chans.map Chan.input = s.chans.map Chan.input := by
  unfold State.strokeDecide
  simp [apply_ite (Vector.map Chan.input)]
@[simp] theorem State.strokeAbort_input : (s.strokeAbort c).chans.map Chan.input = s.chans.map Chan.input := by
  unfold State.strokeAbort
  split <;> simp
@[simp] theorem State.strokeGateOff_input : (s.strokeGateOff c).chans.map Chan.input = s.chans.map Chan.input := by
  unfold State.strokeGateOff
  (repeat' split) <;> simp

/-! The switch and its runs -/

@[simp] theorem State.gateOn1_input : (s.gateOn1 c).chans.map Chan.input = s.chans.map Chan.input := by
  unfold State.gateOn1
  simp
@[simp] theorem State.gateStart_input {t : Nat} {meas : Bool} : (s.gateStart c t meas).chans.map Chan.input = s.chans.map Chan.input := by
  unfold State.gateStart State.gateOn State.residual
  dsimp only
  (repeat' split) <;> simp
@[simp] theorem State.gateOff_input {t : Nat} {meas : Bool} : (s.gateOff c t meas).chans.map Chan.input = s.chans.map Chan.input := by
  unfold State.gateOff
  dsimp only
  split <;> simp
@[simp] theorem State.turnOn_input {t : Nat} : (s.turnOn c t).chans.map Chan.input = s.chans.map Chan.input := by
  unfold State.turnOn
  simp
@[simp] theorem State.turnOff_input {t : Nat} {act : Bool} : (s.turnOff c t act).chans.map Chan.input = s.chans.map Chan.input := by
  unfold State.turnOff
  dsimp only
  split <;> simp
@[simp] theorem State.startRun_input {p start t : Nat} {own : Option Nat} {act : Bool} :
    (s.startRun c p own start t act).chans.map Chan.input = s.chans.map Chan.input := by
  unfold State.startRun
  dsimp only
  (repeat' split) <;> simp
@[simp] theorem State.bringOn_input {t : Nat} {act : Bool} : (s.bringOn c t act).chans.map Chan.input = s.chans.map Chan.input := by
  unfold State.bringOn
  dsimp only
  (repeat' split) <;> simp [Chan.endRunOn]
@[simp] theorem State.settle_input : (s.settle c).chans.map Chan.input = s.chans.map Chan.input := by
  unfold State.settle State.regrid
  dsimp only
  (repeat' split) <;> simp
/-- The channels that follow an input are switched without touching an input, nor their die but for its reports (R293). -/
@[simp] theorem State.followSource_input : (s.followSource c).chans.map Chan.input = s.chans.map Chan.input := by
  refine State.foldl_keep (fun s => s.chans.map Chan.input) (fun s o => ?_) _ s
  unfold State.resume
  (repeat' split) <;> simp
@[simp] theorem State.followSource_ctl : (s.followSource c).dies.map Die.ctl = s.dies.map Die.ctl := by
  refine State.foldl_keep (fun s => s.dies.map Die.ctl) (fun s o => ?_) _ s
  unfold State.resume
  (repeat' split) <;> simp
end
end Sys2Proof.Machine

/-! ### The commands of the digital inputs (R48, R150 to R167) -/

namespace Sys2Proof.Machine

section
variable {s : State} {g : Grp} {c : Ch} {up : Bool}

/-- What is no report and no part of the local Ledger is the same at dies that agree but for these. -/
theorem State.dieOf_part {t : State} {α : Type} {p : Die → α} (hp : ∀ d, p d.ctl = p d) (h : t.dies.map Die.ctl = s.dies.map Die.ctl) (g : Grp) :
    p (t.dieOf g) = p (s.dieOf g) := by
  rw [← hp, State.dieOf_ctl h, hp]

/-! A qualified edge -/

/-- Whether the filter has run out depends on the machine's clock and the wait, so a wait that ran out lets the edge be qualified (R151). -/
theorem State.qualify_first (hin : s.inputOn c = true) (hover : s.filterOver c = true) (hvalid : (s.ch c).valid = false) :
    s.qualify c = (s.updCh c fun k => { k with valid := true, qual := k.comp }).followSource c := by
  simp [State.qualify, hin, hover, hvalid]
theorem State.qualify_edge (hin : s.inputOn c = true) (hover : s.filterOver c = true) (hvalid : (s.ch c).valid = true)
    (hedge : (s.ch c).comp ≠ (s.ch c).qual) :
    s.qualify c = (((((s.updCh c fun k => { k with qual := k.comp }).stampEdge c (s.ch c).comp).tallyEdge c (s.ch c).comp).urgentEdge c
      (s.ch c).comp).followSource c) := by
  simp [State.qualify, hin, hover, hvalid, hedge]
theorem State.qualify_still (h : s.inputOn c = false ∨ s.filterOver c = false) : s.qualify c = s := by
  obtain h | h := h <;> simp [State.qualify, h]

@[simp] theorem State.stampEdge_ch (d : Ch) : (s.stampEdge c up).ch d = s.ch d := by simp [State.ch]
@[simp] theorem State.urgentEdge_ch (d : Ch) : (s.urgentEdge c up).ch d = s.ch d := by simp [State.ch]
theorem State.tallyEdge_qual : ((s.tallyEdge c up).ch c).valid = (s.ch c).valid ∧ ((s.tallyEdge c up).ch c).qual = (s.ch c).qual := by
  unfold State.tallyEdge
  split
  · exact ⟨rfl, rfl⟩
  split
  · exact ⟨rfl, rfl⟩
  · simp
/-- An edge that TALLY_EDGE selects is counted, to 65,535 (R165). -/
theorem State.tallyEdge_acc (h : tallySelected (s.dreg (F.IN_CFG_TALLY_EDGE c)) up = true) :
    ((s.tallyEdge c up).ch c).acc = if (s.ch c).acc = 65535 then 65535 else (s.ch c).acc + 1 := by
  simp only [State.tallyEdge, h, Bool.not_true, Bool.false_eq_true, if_false]
  split
  · simpa [State.ch] using ‹(s.ch c).acc = 65535›
  · simp
@[simp] theorem State.tallyEdge_ctl : (s.tallyEdge c up).dies.map Die.ctl = s.dies.map Die.ctl := by
  unfold State.tallyEdge
  (repeat' split) <;> simp
@[simp] theorem State.urgentEdge_ctl : (s.urgentEdge c up).dies.map Die.ctl = s.dies.map Die.ctl := by
  unfold State.urgentEdge
  split
  · exact State.updDie_ctl fun _ => rfl
  · rfl
/-- An edge that TS_EDGE selects is stamped while MCLKx is locked and the queue has room (R157 to R159). -/
theorem State.stampEdge_tsQ (hsel : tsSelected (s.dreg (F.IN_CFG_TS_EDGE c)) up = true) (htimed : (s.dieOf (grpOf c)).timed = true)
    (hok : (s.ch c).crossOk = true) (hroom : (s.dieOf (grpOf c)).tsQ.length < 64) :
    ((s.stampEdge c up).dieOf (grpOf c)).tsQ =
      (s.dieOf (grpOf c)).tsQ ++ [.timestamp (chN c) up (s.ch c).crossE ((s.ch c).crossT % 2 ^ 34)] := by
  simp [State.stampEdge, hsel, htimed, hok, tsDepth, Nat.not_le.mpr hroom]
theorem State.stampEdge_time (g : Grp) : ((s.stampEdge c up).dieOf g).time = (s.dieOf g).time := by
  unfold State.stampEdge State.evt
  dsimp only
  (repeat' split) <;> simp [apply_ite Die.time]

theorem State.followSource_holds (d : Ch) : ((s.followSource c).ch d).valid = (s.ch d).valid ∧ ((s.followSource c).ch d).qual = (s.ch d).qual ∧
    ((s.followSource c).ch d).acc = (s.ch d).acc := by
  have h := State.ch_input (s.followSource_input (c := c)) d
  simpa only [Chan.input, Prod.mk.injEq] using h
/-- A state that has lasted its F is the qualified state (R151, R153). -/
theorem State.qualify_qual (hin : s.inputOn c = true) (hover : s.filterOver c = true) :
    ((s.qualify c).ch c).valid = true ∧ ((s.qualify c).ch c).qual = (s.ch c).comp := by
  have hfollow (t : State) : ((t.followSource c).ch c).valid = (t.ch c).valid ∧ ((t.followSource c).ch c).qual = (t.ch c).qual := by
    obtain ⟨hvalid, hqual, -⟩ := t.followSource_holds (c := c) c
    exact ⟨hvalid, hqual⟩
  by_cases hvalid : (s.ch c).valid = true
  · by_cases hedge : (s.ch c).comp = (s.ch c).qual
    · simp [State.qualify, hin, hover, hvalid, hedge]
    · rw [State.qualify_edge hin hover hvalid hedge, (hfollow _).1, (hfollow _).2]
      simp [State.tallyEdge_qual, hvalid]
  · rw [State.qualify_first hin hover (by simpa using hvalid), (hfollow _).1, (hfollow _).2]
    simp
theorem State.qualify_acc (hin : s.inputOn c = true) (hover : s.filterOver c = true) (hvalid : (s.ch c).valid = true)
    (hedge : (s.ch c).comp ≠ (s.ch c).qual) (hsel : tallySelected (s.dreg (F.IN_CFG_TALLY_EDGE c)) (s.ch c).comp = true) :
    ((s.qualify c).ch c).acc = if (s.ch c).acc = 65535 then 65535 else (s.ch c).acc + 1 := by
  obtain ⟨-, -, hacc⟩ := State.followSource_holds (s := (((s.updCh c fun k => { k with qual := k.comp }).stampEdge c (s.ch c).comp).tallyEdge c
    (s.ch c).comp).urgentEdge c (s.ch c).comp) (c := c) c
  rw [State.qualify_edge hin hover hvalid hedge, hacc, State.urgentEdge_ch, State.tallyEdge_acc (by simpa [State.dreg] using hsel)]
  simp
theorem State.qualify_tsQ (hin : s.inputOn c = true) (hover : s.filterOver c = true) (hvalid : (s.ch c).valid = true)
    (hedge : (s.ch c).comp ≠ (s.ch c).qual) (hsel : tsSelected (s.dreg (F.IN_CFG_TS_EDGE c)) (s.ch c).comp = true)
    (htimed : (s.dieOf (grpOf c)).timed = true) (hok : (s.ch c).crossOk = true) (hroom : (s.dieOf (grpOf c)).tsQ.length < 64) :
    ((s.qualify c).dieOf (grpOf c)).tsQ =
      (s.dieOf (grpOf c)).tsQ ++ [.timestamp (chN c) (s.ch c).comp (s.ch c).crossE ((s.ch c).crossT % 2 ^ 34)] := by
  rw [State.qualify_edge hin hover hvalid hedge]
  have hkeep {t u : State} (h : t.dies.map Die.ctl = u.dies.map Die.ctl) : (t.dieOf (grpOf c)).tsQ = (u.dieOf (grpOf c)).tsQ :=
    State.dieOf_part (fun _ => rfl) h _
  rw [hkeep State.followSource_ctl, hkeep State.urgentEdge_ctl, hkeep State.tallyEdge_ctl]
  exact (State.stampEdge_tsQ (by simpa using hsel) (by simpa using htimed) (by simpa using hok) (by simpa using hroom)).trans (by simp)
/-- The die's own time stands while an edge is qualified. -/
theorem State.qualify_time (g : Grp) : ((s.qualify c).dieOf g).time = (s.dieOf g).time := by
  have hkeep {t u : State} (h : t.dies.map Die.ctl = u.dies.map Die.ctl) : (t.dieOf g).time = (u.dieOf g).time := State.dieOf_part (fun _ => rfl) h g
  unfold State.qualify
  dsimp only
  split
  · rfl
  split
  · exact hkeep State.followSource_ctl
  split
  · rfl
  · rw [hkeep State.followSource_ctl, hkeep State.urgentEdge_ctl, hkeep State.tallyEdge_ctl, State.stampEdge_time]
    rfl

/-! A change of the comparator -/

theorem State.compTo_ch : (s.compTo c up).ch c = { s.ch c with
    comp := up, crossT := s.at c / 4 * 4, crossE := (s.dieOf (grpOf c)).epoch, crossOk := (s.dieOf (grpOf c)).timed, crossClk := s.clock,
    crossF := filterNs (s.dreg (F.IN_FILTER_RANGE c)) (s.dreg (F.IN_FILTER_COUNT c)) } := by
  simp [State.compTo, State.filterStart, State.clock]
/-- A digital input is no port. -/
theorem State.sioIn_input (h : s.inputOn c = true) : s.sioIn c = false := by
  have hmode : (s.ch c).mode = 3 := by simpa using (Bool.and_eq_true_iff.mp h).1
  simp [State.sioIn, hmode]
/-- A change of the comparator that is looked at: what had lasted its F is qualified, and the wait of F begins anew (R151). -/
theorem State.compare1_changes {mv : Int} (hon : (s.inputOn c || s.sioIn c) = true) (hne : (s.ch c).comp ≠ s.compAt c mv) :
    s.compare1 c mv =
      if (s.qualify c).inputOn c && ((s.qualify c).ch c).valid && ((s.qualify c).ch c).qual == s.compAt c mv then
        ((s.qualify c).compTo c (s.compAt c mv)).evt (grpOf c) (.glitch (chN c))
      else (s.qualify c).compTo c (s.compAt c mv) := by
  simp [State.compare1, hon, hne]
theorem State.compare1_ch {mv : Int} (hon : (s.inputOn c || s.sioIn c) = true) (hne : (s.ch c).comp ≠ s.compAt c mv) :
    (s.compare1 c mv).ch c = { (s.qualify c).ch c with
      comp := s.compAt c mv, crossT := s.at c / 4 * 4, crossE := ((s.qualify c).dieOf (grpOf c)).epoch,
      crossOk := ((s.qualify c).dieOf (grpOf c)).timed, crossClk := s.clock,
      crossF := filterNs (s.dreg (F.IN_FILTER_RANGE c)) (s.dreg (F.IN_FILTER_COUNT c)) } := by
  have hat : (s.qualify c).at c = s.at c := by simp only [State.at, State.dieNow, State.qualify_time]
  have hclock : (s.qualify c).clock = s.clock := by simp [State.clock]
  have hdreg (f : Fld) : (s.qualify c).dreg f = s.dreg f := by simp [State.dreg]
  have hevt (t : State) (g : Grp) (e : EvData) : (t.evt g e).ch c = t.ch c := by simp [State.evt]
  rw [State.compare1_changes hon hne, apply_ite (State.ch · c), hevt, ite_self, State.compTo_ch, hat, hclock, hdreg, hdreg]

theorem exec_comparatorChange (hon : s.dieOn (grpOf c) = true) (mv : Int) : exec (.comparatorChange c mv) s = .next (s.compare1 c mv) := by
  rw [show exec (.comparatorChange c mv) s = execComparatorChange c mv s from rfl, execComparatorChange, onDie_on hon]

/-! A transfer of a count -/

@[simp] theorem State.tallyAdd_ch {a : Nat} (d : Ch) : (s.tallyAdd c a).ch d = s.ch d := by simp [State.ch]
@[simp] theorem State.laneTake_ch {n : Nat} (d : Ch) : (s.laneTake g n).ch d = s.ch d := by simp [State.ch]
theorem State.tallyTransfer_new (hack : (s.dieOf (grpOf c)).firstAck = true) (hup : s.upOn (grpOf c) = true) (hlane : s.laneFor (grpOf c) 1 4 = true)
    (hsome : (s.ch c).acc ≠ 0 ∨ (s.ch c).sentA ≠ none) (hnew : (s.ch c).tallyOk ≠ some (s.ch c).toggle) :
    s.tallyTransfer c true =
      (((s.laneTake (grpOf c) 4).updCh c fun k => { k with sentA := some ((s.ch c).sentA.getD (s.ch c).acc) }).tallyAdd c
        ((s.ch c).sentA.getD (s.ch c).acc)).updCh c fun x => { x with tallyOk := some (s.ch c).toggle } := by
  have hany : ¬((s.ch c).acc = 0 ∧ (s.ch c).sentA = none) := fun h => hsome.elim (· h.1) (· h.2)
  have hup' (k : Chan → Chan) : ((s.laneTake (grpOf c) 4).updCh c k).upOn (grpOf c) = true := by simpa [State.upOn, State.grpState, State.reg] using hup
  simp [State.tallyTransfer, hack, hlane, hany, hnew, hup']
/-! Wire break -/

theorem State.wireBreak_die {on : Bool} {ua : Nat} : (s.wireBreak c on ua).die = s.die.set (F.IN_STATUS_WIRE_BREAK c) (b2n on) := by
  unfold State.wireBreak
  dsimp only
  split <;> simp
@[simp] theorem State.wireBreak_ch {on : Bool} {ua : Nat} (d : Ch) : (s.wireBreak c on ua).ch d = s.ch d := by simp [State.ch]
theorem exec_wireBreakSet (hon : s.dieOn (grpOf c) = true) (hruns : s.wbRuns c = true) (hoff : s.don (F.IN_STATUS_WIRE_BREAK c) = false)
    (hspan : s.spanMs c (s.ch c).wbAt (s.dreg (F.IN_WB_WB_TIME c)) = true) :
    exec (.wireBreakSet (grpOf c) (chN c)) s =
      .next ((s.updCh c fun k => { k with wbAt := none }).wireBreak c true (s.dreg (F.AN_MEAS_CURRENT c))) := by
  rw [show exec (.wireBreakSet (grpOf c) (chN c)) s = execWireBreakSet (grpOf c) (chN c) s from rfl, execWireBreakSet, onDie_on hon]
  simp [hruns, hoff, hspan]
theorem exec_wireBreakClear (hon : s.dieOn (grpOf c) = true) (hruns : s.wbRuns c = true) (hset : s.don (F.IN_STATUS_WIRE_BREAK c) = true)
    (hspan : s.spanMs c (s.ch c).wbAt 1 = true) :
    exec (.wireBreakClear (grpOf c) (chN c)) s =
      .next ((s.updCh c fun k => { k with wbAt := none }).wireBreak c false (s.dreg (F.AN_MEAS_CURRENT c))) := by
  rw [show exec (.wireBreakClear (grpOf c) (chN c)) s = execWireBreakClear (grpOf c) (chN c) s from rfl, execWireBreakClear, onDie_on hon]
  simp [hruns, hset, hspan]
end
end Sys2Proof.Machine

namespace Sys2Proof
open Machine

/-- Settles O11: each row is its operation, of which the lemmas above say what becomes of the channel and its die. -/
theorem inputCommands : Obligations.InputCommands := by
  unfold Obligations.InputCommands
  refine ⟨fun s c mv hon hin hne => ?_, fun s c mv heq => ?_, fun s c hon hin hover => ?_, fun s c hhub hon hack hup hlane hsome hnew => ?_,
    fun s c hon hruns hoff hspan => ?_, fun s c hon hruns hset hspan => ?_⟩
  · refine ⟨_, exec_comparatorChange hon mv, ?_⟩
    rw [State.compare1_ch hin hne]
    refine ⟨rfl, rfl, rfl, rfl, fun hinput hover => State.qualify_qual hinput hover, fun hstill => ⟨by rw [State.qualify_still hstill], ?_⟩⟩
    rw [State.compare1_changes hin hne, State.qualify_still hstill]
    have hdie : (s.compTo c (s.compAt c mv)).dieOf (grpOf c) = s.dieOf (grpOf c) := by simp [State.dieOf]
    split <;> simp [State.evt, hdie]
  · have hsame : s.compare1 c mv = s := by simp [State.compare1, heq]
    rw [show exec (.comparatorChange c mv) s = execComparatorChange c mv s from rfl, execComparatorChange, onDie, hsame, ite_self]
  · have hexec : exec (.edgeQualified c) s = .next (s.qualify c) := by
      rw [show exec (.edgeQualified c) s = execEdgeQualified c s from rfl, execEdgeQualified, onDie_on hon,
        if_neg (by simp [State.sioIn_input hin])]
    exact ⟨_, hexec, (State.qualify_qual hin hover).1, (State.qualify_qual hin hover).2, State.qualify_acc hin hover,
      fun hvalid hedge hsel htimed hok hroom => State.qualify_tsQ hin hover hvalid hedge hsel htimed hok hroom⟩
  · have hexec : exec (.tally c true) s = .next (s.tallyTransfer c true) := by
      rw [show exec (.tally c true) s = execTally c true s from rfl, execTally, onBoth_on hhub hon]
    refine ⟨_, hexec, ?_⟩
    rw [State.tallyTransfer_new hack hup hlane hsome hnew]
    generalize (s.ch c).sentA.getD (s.ch c).acc = a
    refine ⟨by simp, by simp, by simp, fun hw => ?_, fun hw => ?_⟩
    · have hw' : ((s.laneTake (grpOf c) 4).updCh c fun k => { k with sentA := some a }).written (F.IN_TALLY c) = false := by
        simpa [State.written] using hw
      simp [State.tallyAdd, hw', State.reg, State.wrapTally]
    · have hw' : ((s.laneTake (grpOf c) 4).updCh c fun k => { k with sentA := some a }).written (F.IN_TALLY c) = true := by
        simpa [State.written] using hw
      simp [State.tallyAdd, hw']
  · refine ⟨_, exec_wireBreakSet hon hruns hoff hspan, ?_⟩
    exact ⟨by simp [State.don, State.dreg, State.wireBreak_die, b2n], by simp⟩
  · refine ⟨_, exec_wireBreakClear hon hruns hset hspan, ?_⟩
    exact ⟨by simp [State.don, State.dreg, State.wireBreak_die, b2n], by simp⟩
end Sys2Proof

/-! ### The mirrors of the group dies (R44, R276) -/

namespace Sys2Proof.Machine

/-- Fields that take each its own value hold it, in whatever order they are set. -/
theorem Store.get_foldl_set {v : Fld → Nat} {f : Fld} {l : List Fld} {st : Store} :
    (l.foldl (fun st f => st.set f (v f)) st).get f = if f ∈ l then v f % 2 ^ f.w else st.get f := by
  induction l generalizing st with
  | nil => rfl
  | cons x l ih =>
    rw [List.foldl_cons, ih, Store.get_set]
    by_cases hx : x = f
    · subst hx
      simp
    · simp [hx, Ne.symm hx]

/-! What a mirror holds -/

theorem mirrorFlds_place {u : U} {o : Nat} {f : Fld} (h : f ∈ mirrorFlds u o) : f.unit = u ∧ f.off = o := by
  have hrows {l : List Row} (h : f ∈ l.map fun r => (⟨u, o, r.lo, r.w, r.dflt⟩ : Fld)) : f.unit = u ∧ f.off = o := by
    obtain ⟨r, -, rfl⟩ := List.mem_map.mp h
    exact ⟨rfl, rfl⟩
  have hlist {l : List Fld} (hl : l.all (fun k => k.unit == u && k.off == o) = true) (h : f ∈ l) : f.unit = u ∧ f.off = o := by
    simpa using List.all_eq_true.mp hl f h
  unfold mirrorFlds at h
  split at h
  · (repeat' split at h)
    · next e => exact hlist (by simp [e]) h
    · next e => exact hlist (by simp [e]) h
    · next e => exact hlist (by simp [e]) h
    · exact hrows h
    · cases h
  · (repeat' split at h)
    · next e => exact hlist (by simp [e]) h
    · next e => exact hlist (by simp [e]) h
    · next e => exact hlist (by simp [e]) h
    · exact hrows h
    · cases h
  · cases h
/-- A mirror holds no IRQ_CAUSE and no IOL_CTRL, and nothing of another unit than its group's. -/
theorem mirrorAll_plain {g : Grp} {f : Fld} (h : f ∈ mirrorAll g) : f.plain = true ∧ (∀ d, f.unit = .ch d → f.off ≠ 0xE8) ∧ f.unit ≠ .root := by
  obtain ⟨u, hu, o, ho, hf⟩ : ∃ u ∈ [U.grp g] ++ (chansOf g).map U.ch, ∃ o ∈ mirrorOffs u, f ∈ mirrorFlds u o := by
    simpa [mirrorAll] using h
  obtain ⟨hfu, hfo⟩ := mirrorFlds_place hf
  have hcause : o ≠ 0x10 := by
    rintro rfl
    cases u <;> simp [mirrorOffs] at ho
    omega
  have hport (d : Ch) (hd : f.unit = .ch d) : f.off ≠ 0xE8 := by
    rw [hfo]
    rintro rfl
    obtain rfl := hfu.symm.trans hd
    simp [mirrorOffs] at ho
  have hunit : u ≠ .root ∧ u ≠ .ring 3 ∧ u ≠ .ldg := by
    refine ⟨?_, ?_, ?_⟩ <;> rintro rfl <;> cases ho
  have hne {k : Fld} (h : u ≠ k.unit) : f ≠ k := fun e => h (by rw [← hfu, e])
  exact ⟨Fld.plain_iff.mpr ⟨by rw [hfo]; exact hcause, hne hunit.1, hne hunit.2.1, hne hunit.2.2⟩, hport, by rw [hfu]; exact hunit.1⟩

section
variable {s : State} {g : Grp} {c : Ch} {f : Fld}

/-! The ports of a group look at their suppliers -/

theorem State.reg_portSet (hf : f.plain = true) (ho : ∀ d, f.unit = .ch d → f.off ≠ 0xE8) (st rs : Nat) : (s.portSet c st rs).reg f = s.reg f := by
  have hset (t : State) {k : Fld} (hu : k.unit = .ch c) (hk : k.off = 0xE8) (v : Nat) : (t.setReg k v).reg f = t.reg f :=
    (State.reg_setReg ..).trans (if_neg (by rintro rfl; exact ho c hu hk))
  have hcall (t : State) : (t.updCh c fun k => { k with valid := false, qual := false, comp := false }).reg f = t.reg f := rfl
  unfold State.portSet
  dsimp only
  split
  · rfl
  · rw [State.reg, State.putState_frame.2.1, ← State.reg, State.reg_cause_plain _ _ hf]
    simp only [apply_ite (State.reg · f), hcall, hset, ite_self]
theorem State.reg_portGo (hf : f.plain = true) (ho : ∀ d, f.unit = .ch d → f.off ≠ 0xE8) : (s.portGo c).reg f = s.reg f := by
  unfold State.portGo
  split <;> exact State.reg_portSet hf ho _ _
theorem State.reg_powering (hf : f.plain = true) (ho : ∀ d, f.unit = .ch d → f.off ≠ 0xE8) : (s.powering c).reg f = s.reg f := by
  unfold State.powering
  dsimp only
  split
  · exact (State.reg_portGo hf ho).trans (State.reg_portSet hf ho _ _)
  · exact State.reg_portSet hf ho _ _
theorem State.reg_portCheck (hf : f.plain = true) (ho : ∀ d, f.unit = .ch d → f.off ≠ 0xE8) : (s.portCheck c).reg f = s.reg f := by
  unfold State.portCheck
  dsimp only
  split
  · rfl
  split
  · refine (State.reg_portSet hf ho _ _).trans ?_
    split
    · rfl
    · simp [State.reg]
  split
  · exact State.reg_powering hf ho
  · rfl
theorem State.reg_portChecks (hf : f.plain = true) (ho : ∀ d, f.unit = .ch d → f.off ≠ 0xE8) : (s.portChecks g).reg f = s.reg f :=
  State.foldl_keep (·.reg f) (fun _ _ => State.reg_portCheck hf ho) _ s
/-! The rows -/

/-- A word mirrored stands in the hidden copy as it stands at the die (R44). -/
theorem State.mirrorWord_get {w : Nat} (hf : f ∈ mirrorFlds (grpUnit g (4 * w)).1 (grpUnit g (4 * w)).2) :
    (s.mirrorWord g w).hid.get f = (s.mirrorWord g w).dreg f % 2 ^ f.w :=
  Store.get_foldl_set.trans (if_pos hf)
/-- The visible copy is replaced whole (R44). -/
theorem State.refreshGrp_get (hf : f ∈ mirrorAll g) : (s.refreshGrp g).reg f = s.hid.get f % 2 ^ f.w := by
  obtain ⟨hplain, hport, hroot⟩ := mirrorAll_plain hf
  have hne {k : Fld} (hk : k.unit = .root) : k ≠ f := fun e => hroot (e ▸ hk)
  unfold State.refreshGrp
  rw [State.reg_portChecks hplain hport, State.refreshed, State.reg_setReg, if_neg (hne rfl), State.reg_wrapTally, if_neg (hne rfl)]
  rw [State.reg, Store.get_foldl_set, if_pos hf]
theorem State.refreshed_fresh (m : Fin 5) : (s.refreshed m).hub.fresh[m.val] = some s.tick := by
  simp [State.refreshed, State.wrapTally]
theorem State.refreshGrp_fresh : (s.refreshGrp g).hub.fresh[(mirrorOf g).val] = some s.tick := by
  unfold State.refreshGrp
  rw [State.portChecks_frame.2.2.2.1, State.refreshed_fresh]
  rfl
end
end Sys2Proof.Machine

namespace Sys2Proof
open Machine

/-- Settles O19: each row is its operation, whose fields `Store.get_foldl_set` reads. -/
theorem mirrorCommands : Obligations.MirrorCommands := by
  unfold Obligations.MirrorCommands
  refine ⟨fun s g w hhub hdie hmir hlane => ?_, fun s g hhub hdie hmir hlane hsent => ?_, fun s m hhub hoff hstale => ?_⟩
  · have hexec : exec (.mirror g w) s =
        .next (((s.laneTake g 6).updDie g fun d => { d with mirSent := d.mirSent ++ [w] }).mirrorWord g w) := by
      rw [show exec (.mirror g w) s = execMirror g w s from rfl, execMirror, onBoth_on hhub hdie]
      simp [hmir, hlane]
    exact ⟨_, hexec, by simp, fun f hf => State.mirrorWord_get hf⟩
  · have hexec : exec (.refresh g) s = .next (((s.laneTake g 1).updDie g fun d => { d with mirSent := [] }).refreshGrp g) := by
      rw [show exec (.refresh g) s = execRefresh g s from rfl, execRefresh, onBoth_on hhub hdie]
      simp [hmir, hlane, hsent]
    refine ⟨_, hexec, by simp, by simp, State.refreshGrp_fresh, fun f hf => (State.refreshGrp_get hf).trans (by simp)⟩
  · have hexec : exec (.mirrorStale m) s = .next ((s.setReg (staleFld m) 1).cause .root 5) := by
      rw [show exec (.mirrorStale m) s = execMirrorStale m s from rfl, execMirrorStale, onHub_on hhub]
      simp [hoff, hstale]
    have hkept : ((s.setReg (staleFld m) 1).cause .root 5).reg (staleFld m) = (s.setReg (staleFld m) 1).reg (staleFld m) :=
      State.reg_cause _ _ (by simp [staleFld]) (by simp [staleFld]) (by simp [staleFld])
    exact ⟨_, hexec, hkept.trans ((State.reg_setReg ..).trans (if_pos rfl))⟩
end Sys2Proof

/-! ### What an access at the arbiter leaves of the endpoint (R46, R317)

`HostIf.steady` is the host interface but for the rings, the notifications, the commands, the messages and the MSI-X structures, and for
what a stopped PCLK holds back: the configuration space, the error registers, the state of the link, the crossings. No operation of the
arbiter, of the rings or of the Drover changes it: one lemma per operation whose frame leaves the host interface out. -/

namespace Sys2Proof.Machine

/-- What of the host interface only the link's own events change. -/
def HostIf.steady (h : HostIf) : HostIf :=
  { h with rings := Vector.replicate 8 {}, notif := [], lost := none, queue := [], cmds := [], head2 := none, out := [], msixVec := [], pba := [],
           cross := if h.pclkLost then none else h.cross }
@[simp] theorem HostIf.steady_with {h : HostIf} {rings : Vector RingSt 8} {notif : List OutEntry} {lost : Option (Nat × Nat × Nat × List Nat)}
    {queue : List Entry} {cmds : List Cmd} {head2 : Option Entry} {out : List HostOut} {msixVec : List (Nat × Nat)} {pba : List (Nat × Option U)} :
    ({ h with rings := rings, notif := notif, lost := lost, queue := queue, cmds := cmds, head2 := head2, out := out, msixVec := msixVec,
              pba := pba } : HostIf).steady = h.steady := rfl
@[simp] theorem HostIf.ite_steady {c : Prop} [Decidable c] {a b : HostIf} : (if c then a else b).steady = if c then a.steady else b.steady :=
  apply_ite ..
@[simp] theorem State.foldl_steady {α : Type} {k : State → α → State} {s : State} (h : ∀ s x, (k s x).host.steady = s.host.steady) (l : List α) :
    (l.foldl k s).host.steady = s.host.steady := State.foldl_keep (fun s => s.host.steady) h l s

section
variable {s : State}

@[simp] theorem State.updRing_steady {r : RingNo} {k : RingSt → RingSt} : (s.updRing r k).host.steady = s.host.steady := rfl
@[simp] theorem State.ringOut_steady {r : RingNo} {e : OutEntry} : (s.ringOut r e).host.steady = s.host.steady := rfl
@[simp] theorem State.deliverMsix_steady {k : Nat} {u : Option U} : (s.deliverMsix k u).host.steady = s.host.steady := by
  unfold State.deliverMsix
  (repeat' split) <;> rfl

/-! The shared operations, the Fold, machine time and the reflex engine -/

@[simp] theorem State.requestMsix_steady {k : Nat} {u : Option U} : (s.requestMsix k u).host.steady = s.host.steady := by
  unfold State.requestMsix
  split
  · simp -implicitDefEqProofs
  split
  · exact State.deliverMsix_steady
  · next h => simp -implicitDefEqProofs [HostIf.steady, eq_true_of_ne_false (by simpa using h)]
@[simp] theorem State.unitMessage_steady {u : U} : (s.unitMessage u).host.steady = s.host.steady := by
  unfold State.unitMessage
  simp -implicitDefEqProofs
@[simp] theorem State.unitAsked_steady {u : U} : (s.unitAsked u).host.steady = s.host.steady := by
  unfold State.unitAsked
  simp -implicitDefEqProofs
@[simp] theorem State.cause_steady {u : U} {k : Nat} : (s.cause u k).host.steady = s.host.steady := by
  unfold State.cause
  simp -implicitDefEqProofs
@[simp] theorem State.loseNote_steady {kind : Nat} : (s.loseNote kind).host.steady = s.host.steady := by
  unfold State.loseNote
  simp -implicitDefEqProofs
@[simp] theorem State.raise_steady {kind : Nat} {time : Nat} {body : List Place} :
    (s.raise kind time body).host.steady = s.host.steady := by
  unfold State.raise
  simp -implicitDefEqProofs
@[simp] theorem State.notify_steady {kind : Nat} {body : List Place} : (s.notify kind body).host.steady = s.host.steady := by
  unfold State.notify
  simp -implicitDefEqProofs
@[simp] theorem State.post_steady {r : LRec} : (s.post r).host.steady = s.host.steady := by
  unfold State.post
  simp -implicitDefEqProofs
@[simp] theorem State.halt_steady {r : RingNo} {cause : Nat} : (s.halt r cause).host.steady = s.host.steady := by
  unfold State.halt
  simp -implicitDefEqProofs
@[simp] theorem State.lowWater_steady : s.lowWater.host.steady = s.host.steady := by
  unfold State.lowWater
  simp -implicitDefEqProofs
@[simp] theorem State.slotLate_steady {target : Nat} {action : Nat} {t : Nat} {outcome : Nat} {where_ : Nat} {lateness : Nat} :
    (s.slotLate target action t outcome where_ lateness).host.steady = s.host.steady := by
  unfold State.slotLate
  simp -implicitDefEqProofs
@[simp] theorem State.cancelNote_steady {l : List Slot} {chByte : Nat} {cause : Nat} {rule : Nat} :
    (s.cancelNote l chByte cause rule).host.steady = s.host.steady := by
  unfold State.cancelNote
  split <;> simp -implicitDefEqProofs
@[simp] theorem State.cancelSlots_steady {p : Slot → Bool} {cause : Nat} {rule : Nat} :
    (s.cancelSlots p cause rule).host.steady = s.host.steady := by
  unfold State.cancelSlots
  simp -implicitDefEqProofs
@[simp] theorem State.markNote_steady {t : Nat} {param : Nat} : (s.markNote t param).host.steady = s.host.steady := by
  unfold State.markNote
  simp -implicitDefEqProofs
@[simp] theorem State.releaseSlot_steady {x : Slot} : (s.releaseSlot x).host.steady = s.host.steady := by
  unfold State.releaseSlot
  simp -implicitDefEqProofs
@[simp] theorem State.releaseOrWait_steady {x : Slot} : (s.releaseOrWait x).host.steady = s.host.steady := by
  unfold State.releaseOrWait
  simp -implicitDefEqProofs
@[simp] theorem State.cancelAbsent_steady : s.cancelAbsent.host.steady = s.host.steady := by
  unfold State.cancelAbsent
  simp -implicitDefEqProofs
@[simp] theorem State.lateSlot_steady {x : Slot} {where_ : Nat} : (s.lateSlot x where_).host.steady = s.host.steady := by
  unfold State.lateSlot
  simp -implicitDefEqProofs
@[simp] theorem State.foldEnabled_steady : s.foldEnabled.host.steady = s.host.steady := by
  unfold State.foldEnabled
  simp -implicitDefEqProofs
@[simp] theorem State.foldCancel_steady {mask : Nat} : (s.foldCancel mask).host.steady = s.host.steady := by
  unfold State.foldCancel
  simp -implicitDefEqProofs
@[simp] theorem State.condition_steady {lane : Grp} {x : Cond} : (s.condition lane x).host.steady = s.host.steady := by
  unfold State.condition
  simp -implicitDefEqProofs
@[simp] theorem State.busyRule_steady : s.busyRule.host.steady = s.host.steady := by
  unfold State.busyRule
  simp -implicitDefEqProofs

/-! Channels and modes -/

@[simp] theorem State.learn_steady {c : Ch} {x : Rat} {d : Rat} : (s.learn c x d).host.steady = s.host.steady := by
  unfold State.learn
  simp -implicitDefEqProofs
@[simp] theorem State.strokeDecide_steady {c : Ch} {w : Stroke} {kind : Nat} {reason : Nat} :
    (s.strokeDecide c w kind reason).host.steady = s.host.steady := by
  unfold State.strokeDecide
  simp -implicitDefEqProofs
@[simp] theorem State.strokeAbort_steady {c : Ch} : (s.strokeAbort c).host.steady = s.host.steady := by
  unfold State.strokeAbort
  split <;> simp -implicitDefEqProofs
@[simp] theorem State.govRefused_steady {rq : Req} {c : Ch} {new : Nat} : (s.govRefused rq c new).host.steady = s.host.steady := by
  unfold State.govRefused
  simp -implicitDefEqProofs
@[simp] theorem State.modeRefuse_steady {c : Ch} {code : Nat} {m : Nat} : (s.modeRefuse c code m).host.steady = s.host.steady := by
  unfold State.modeRefuse
  simp -implicitDefEqProofs
@[simp] theorem State.modeBegin_steady {c : Ch} : (s.modeBegin c).host.steady = s.host.steady := by
  unfold State.modeBegin
  simp -implicitDefEqProofs
@[simp] theorem State.modeWrite_steady {rq : Req} {c : Ch} {m : Nat} {p : Nat} :
    (s.modeWrite rq c m p).1.host.steady = s.host.steady := by
  unfold State.modeWrite
  simp -implicitDefEqProofs

/-! The Drover, sample chains, ports, the Ledger and health -/

@[simp] theorem State.drvEvent_steady {k : DrvNo} {i : Nat} : (s.drvEvent k i).host.steady = s.host.steady := by
  unfold State.drvEvent
  simp -implicitDefEqProofs
@[simp] theorem State.drvHalt_steady {k : DrvNo} {cause : Nat} {a : Nat} : (s.drvHalt k cause a).host.steady = s.host.steady := by
  unfold State.drvHalt
  simp -implicitDefEqProofs
@[simp] theorem State.coefWrite_steady {off : Nat} {v : Nat} : (s.coefWrite off v).2.host.steady = s.host.steady := by
  unfold State.coefWrite
  simp -implicitDefEqProofs
@[simp] theorem State.swapDone_steady {x : Strm} {bank : Nat} : (s.swapDone x bank).host.steady = s.host.steady := by
  unfold State.swapDone
  simp -implicitDefEqProofs
@[simp] theorem State.swapAsk_steady {x : Strm} {bank : Nat} {len : Nat} : (s.swapAsk x bank len).host.steady = s.host.steady := by
  unfold State.swapAsk
  simp -implicitDefEqProofs
@[simp] theorem State.syncReset_steady {x : Strm} : (s.syncReset x).host.steady = s.host.steady := by
  unfold State.syncReset
  dsimp only
  (repeat' split) <;> simp -implicitDefEqProofs
@[simp] theorem State.drainPort_steady {c : Ch} : (s.drainPort c).host.steady = s.host.steady := by
  unfold State.drainPort
  dsimp only
  (repeat' split) <;> simp -implicitDefEqProofs
@[simp] theorem State.drain5_steady : s.drain5.host.steady = s.host.steady := by
  unfold State.drain5
  simp -implicitDefEqProofs
@[simp] theorem State.putState_steady {c : Ch} {e : OutEntry} : (s.putState c e).host.steady = s.host.steady := by
  unfold State.putState
  simp -implicitDefEqProofs
@[simp] theorem State.putResp_steady {c : Ch} {e : OutEntry} : (s.putResp c e).host.steady = s.host.steady := by
  unfold State.putResp
  simp -implicitDefEqProofs
@[simp] theorem State.endIsdu_steady {c : Ch} {q : Isdu} {status : Nat} : (s.endIsdu c q status).host.steady = s.host.steady := by
  unfold State.endIsdu
  simp -implicitDefEqProofs
@[simp] theorem State.endFrag_steady {c : Ch} {status : Nat} : (s.endFrag c status).host.steady = s.host.steady := by
  unfold State.endFrag
  split <;> simp -implicitDefEqProofs
@[simp] theorem State.endIsdus_steady {c : Ch} : (s.endIsdus c).host.steady = s.host.steady := by
  unfold State.endIsdus
  exact State.endFrag_steady.trans (State.foldl_steady (fun _ _ => State.endIsdu_steady) _)
@[simp] theorem State.portSet_steady {c : Ch} {st : Nat} {rs : Nat} : (s.portSet c st rs).host.steady = s.host.steady := by
  unfold State.portSet
  simp -implicitDefEqProofs
@[simp] theorem State.portGo_steady {c : Ch} : (s.portGo c).host.steady = s.host.steady := by
  unfold State.portGo
  split <;> simp -implicitDefEqProofs
@[simp] theorem State.powering_steady {c : Ch} : (s.powering c).host.steady = s.host.steady := by
  unfold State.powering
  simp -implicitDefEqProofs
@[simp] theorem State.portCheck_steady {c : Ch} : (s.portCheck c).host.steady = s.host.steady := by
  unfold State.portCheck
  simp -implicitDefEqProofs
@[simp] theorem State.portChecks_steady {g : Grp} : (s.portChecks g).host.steady = s.host.steady := by
  unfold State.portChecks
  simp -implicitDefEqProofs
@[simp] theorem State.targetCheck_steady {c : Ch} : (s.targetCheck c).host.steady = s.host.steady := by
  unfold State.targetCheck
  simp -implicitDefEqProofs
@[simp] theorem State.portBegin_steady {c : Ch} : (s.portBegin c).host.steady = s.host.steady := by
  unfold State.portBegin
  simp -implicitDefEqProofs
@[simp] theorem State.portActive_steady {c : Ch} : (s.portActive c).host.steady = s.host.steady := by
  unfold State.portActive
  simp -implicitDefEqProofs
@[simp] theorem State.portsPower_steady {g : Grp} : (s.portsPower g).host.steady = s.host.steady := by
  unfold State.portsPower
  simp -implicitDefEqProofs
@[simp] theorem State.portEnd_steady {c : Ch} : (s.portEnd c).host.steady = s.host.steady := by
  unfold State.portEnd
  simp -implicitDefEqProofs
@[simp] theorem State.takeDevice_steady {c : Ch} : (s.takeDevice c).host.steady = s.host.steady := by
  unfold State.takeDevice
  simp -implicitDefEqProofs
@[simp] theorem State.iolCtrlWritten_steady {c : Ch} {start : Bool} {ask : Bool} :
    (s.iolCtrlWritten c start ask).host.steady = s.host.steady := by
  unfold State.iolCtrlWritten
  simp -implicitDefEqProofs
@[simp] theorem State.supplierWritten_steady {d : Ch} : (s.supplierWritten d).host.steady = s.host.steady := by
  unfold State.supplierWritten
  simp -implicitDefEqProofs
@[simp] theorem State.portResumed_steady {c : Ch} : (s.portResumed c).host.steady = s.host.steady := by
  unfold State.portResumed
  simp -implicitDefEqProofs
@[simp] theorem State.fwResumed_steady : s.fwResumed.host.steady = s.host.steady := by
  unfold State.fwResumed
  simp -implicitDefEqProofs
@[simp] theorem State.fwHanded_steady : s.fwHanded.host.steady = s.host.steady := by
  unfold State.fwHanded
  simp -implicitDefEqProofs
@[simp] theorem State.ldgNote_steady {event : Nat} {code : Nat} {src : Nat} {cls : Nat} {seq : Nat} :
    (s.ldgNote event code src cls seq).host.steady = s.host.steady := by
  unfold State.ldgNote
  simp -implicitDefEqProofs
@[simp] theorem State.ldgPosted_steady {v : Nat} : (s.ldgPosted v).host.steady = s.host.steady := by
  unfold State.ldgPosted
  simp -implicitDefEqProofs
@[simp] theorem State.unfreeze_steady : s.unfreeze.host.steady = s.host.steady := by
  unfold State.unfreeze
  simp -implicitDefEqProofs
@[simp] theorem State.faultAck_steady : s.faultAck.host.steady = s.host.steady := by
  unfold State.faultAck
  simp -implicitDefEqProofs
@[simp] theorem State.replan_steady {kind : Nat} {item : Nat} {before : Nat} {after : Nat} {measure : Nat} :
    (s.replan kind item before after measure).host.steady = s.host.steady := by
  unfold State.replan
  simp -implicitDefEqProofs
@[simp] theorem State.vidCeiling_steady : s.vidCeiling.host.steady = s.host.steady := by
  unfold State.vidCeiling
  simp -implicitDefEqProofs
@[simp] theorem State.vidNow_steady : s.vidNow.host.steady = s.host.steady := by
  unfold State.vidNow
  (repeat' split) <;> simp -implicitDefEqProofs
@[simp] theorem State.vidRaise_steady {hw : Bool} : (s.vidRaise hw).host.steady = s.host.steady := by
  unfold State.vidRaise
  simp -implicitDefEqProofs
@[simp] theorem State.vidTick_steady : s.vidTick.host.steady = s.host.steady := by
  unfold State.vidTick
  simp -implicitDefEqProofs
@[simp] theorem State.reduceWritten_steady {rq : Req} {g : Grp} {hi : Bool} {be : Fin 16} {old : List Nat} :
    (s.reduceWritten rq g hi be old).host.steady = s.host.steady := by
  unfold State.reduceWritten
  simp -implicitDefEqProofs
@[simp] theorem State.complete_steady {seq status op ring item : Nat} {extra : List Place} :
    (s.complete seq status op ring item extra).host.steady = s.host.steady := rfl
@[simp] theorem State.dropBad_steady : s.dropBad.host.steady = s.host.steady := by
  unfold State.dropBad
  refine State.foldl_steady (fun s _ => ?_) _
  (repeat' split) <;> simp -implicitDefEqProofs
@[simp] theorem State.cmdsFinish_steady : s.cmdsFinish.host.steady = s.host.steady := by
  unfold State.cmdsFinish
  simp -implicitDefEqProofs
@[simp] theorem State.itemsSet_steady {p : Item → Bool} {status : Nat} : (s.itemsSet p status).host.steady = s.host.steady := by
  unfold State.itemsSet
  simp -implicitDefEqProofs

/-! The Staed links -/

@[simp] theorem State.grpReport_steady {g : Grp} {old : Nat} {cls : Nat} : (s.grpReport g old cls).host.steady = s.host.steady := by
  unfold State.grpReport
  simp -implicitDefEqProofs
@[simp] theorem State.slotLost_steady {x : TxCmd} : (s.slotLost x).host.steady = s.host.steady := by
  unfold State.slotLost
  split <;> simp -implicitDefEqProofs
@[simp] theorem State.txLost_steady {x : TxCmd} : (s.txLost x).host.steady = s.host.steady := by
  unfold State.txLost
  split <;> simp -implicitDefEqProofs
@[simp] theorem State.dropTx_steady {g : Grp} : (s.dropTx g).host.steady = s.host.steady := by
  unfold State.dropTx
  simp -implicitDefEqProofs
@[simp] theorem State.setGrpState_steady {g : Grp} {st : Nat} : (s.setGrpState g st).host.steady = s.host.steady := by
  unfold State.setGrpState
  simp -implicitDefEqProofs
@[simp] theorem State.grpCtrl_steady {g : Grp} {v : Nat} : (s.grpCtrl g v).host.steady = s.host.steady := by
  unfold State.grpCtrl
  simp -implicitDefEqProofs

/-! Rings, the controller, resets and the arbiter -/

@[simp] theorem State.ringUp_steady {r : RingNo} : (s.ringUp r).host.steady = s.host.steady := by
  unfold State.ringUp
  simp -implicitDefEqProofs
@[simp] theorem State.ringDown_steady {r : RingNo} : (s.ringDown r).host.steady = s.host.steady := by
  unfold State.ringDown
  simp -implicitDefEqProofs
@[simp] theorem State.ringResume_steady {r : RingNo} : (s.ringResume r).host.steady = s.host.steady := by
  unfold State.ringResume
  simp -implicitDefEqProofs
@[simp] theorem State.fwTo_steady {st : Nat} : (s.fwTo st).host.steady = s.host.steady := by
  unfold State.fwTo
  simp -implicitDefEqProofs
@[simp] theorem State.fwStart_steady {slot : Nat} {src : Nat} : (s.fwStart slot src).host.steady = s.host.steady := by
  unfold State.fwStart
  simp -implicitDefEqProofs
@[simp] theorem State.fwVerify_steady : s.fwVerify.host.steady = s.host.steady := by
  unfold State.fwVerify
  simp -implicitDefEqProofs
@[simp] theorem State.fwActivate_steady : s.fwActivate.host.steady = s.host.steady := by
  unfold State.fwActivate
  simp -implicitDefEqProofs
@[simp] theorem State.fwHold_steady : s.fwHold.2.host.steady = s.host.steady := by
  unfold State.fwHold
  simp -implicitDefEqProofs
@[simp] theorem State.fwRestart_steady : s.fwRestart.host.steady = s.host.steady := by
  unfold State.fwRestart
  simp -implicitDefEqProofs
@[simp] theorem State.fwStop_steady : s.fwStop.host.steady = s.host.steady := by
  unfold State.fwStop
  simp -implicitDefEqProofs
@[simp] theorem State.fwCtrl_steady {v : Nat} : (s.fwCtrl v).host.steady = s.host.steady := by
  unfold State.fwCtrl
  simp -implicitDefEqProofs
@[simp] theorem State.hostReset_steady : s.hostReset.host.steady = s.host.steady := by
  unfold State.hostReset
  simp -implicitDefEqProofs
@[simp] theorem State.softReset_steady : s.softReset.host.steady = s.host.steady := by
  unfold State.softReset
  simp -implicitDefEqProofs
@[simp] theorem State.drvFatalOne_steady {k : DrvNo} : (s.drvFatalOne k).host.steady = s.host.steady := by
  unfold State.drvFatalOne
  simp -implicitDefEqProofs
@[simp] theorem State.drvFatal_steady : s.drvFatal.host.steady = s.host.steady := by
  unfold State.drvFatal
  refine (State.foldl_keep (fun s => s.host.steady) (fun s k => ?_) _ _).trans ?_
  · exact State.drvFatalOne_steady
  · rfl
@[simp] theorem State.hubResetBegin_steady {cause : Nat} {r : LRec} : (s.hubResetBegin cause r).host.steady = s.host.steady := by
  unfold State.hubResetBegin
  simp -implicitDefEqProofs
@[simp] theorem State.rootReset_steady {v : Nat} : (s.rootReset v).host.steady = s.host.steady := by
  unfold State.rootReset
  simp -implicitDefEqProofs
@[simp] theorem State.unmapped_steady : s.unmapped.host.steady = s.host.steady := by
  unfold State.unmapped
  simp -implicitDefEqProofs
@[simp] theorem State.lockedWrite_steady : s.lockedWrite.host.steady = s.host.steady := by
  unfold State.lockedWrite
  simp -implicitDefEqProofs
@[simp] theorem State.hoDiscard_steady {addr : Nat} : (s.hoDiscard addr).host.steady = s.host.steady := by
  unfold State.hoDiscard
  simp -implicitDefEqProofs
@[simp] theorem State.filtered_steady : s.filtered.host.steady = s.host.steady := by
  unfold State.filtered
  simp -implicitDefEqProofs
@[simp] theorem State.fwRefuse_steady {u : U} {off : Nat} {addr : Nat} {be : Fin 16} :
    (s.fwRefuse u off addr be).host.steady = s.host.steady := by
  unfold State.fwRefuse
  simp -implicitDefEqProofs
@[simp] theorem State.ckBusyWrite_steady {u : CkNo} : (s.ckBusyWrite u).host.steady = s.host.steady := by
  unfold State.ckBusyWrite
  simp -implicitDefEqProofs
@[simp] theorem State.chDone_steady {s0 : State} {rq : Req} {c : Ch} {off : Nat} {be : Fin 16} {x : Nat} :
    (s.chDone s0 rq c off be x).1.host.steady = s.host.steady := by
  unfold State.chDone
  simp -implicitDefEqProofs
@[simp] theorem State.grpDone_steady {s0 : State} {rq : Req} {g : Grp} {off : Nat} {be : Fin 16} {x : Nat} :
    (s.grpDone s0 rq g off be x).1.host.steady = s.host.steady := by
  unfold State.grpDone
  simp -implicitDefEqProofs
@[simp] theorem State.chainDone_steady {s0 : State} {k : Strm} {off : Nat} {x : Nat} :
    (s.chainDone s0 k off x).host.steady = s.host.steady := by
  unfold State.chainDone
  simp -implicitDefEqProofs
@[simp] theorem State.ringCfg_steady {r : RingNo} {m : Nat} {x : Nat} : (s.ringCfg r m x).host.steady = s.host.steady := by
  unfold State.ringCfg
  simp -implicitDefEqProofs
@[simp] theorem State.fwKick_steady : s.fwKick.host.steady = s.host.steady := by
  unfold State.fwKick
  simp -implicitDefEqProofs
@[simp] theorem State.wordDone_steady {s0 : State} {rq : Req} {u : U} {off : Nat} {be : Fin 16} {x : Nat} :
    (s.wordDone s0 rq u off be x).1.host.steady = s.host.steady := by
  unfold State.wordDone
  (repeat' split) <;> simp -implicitDefEqProofs
@[simp] theorem State.hostDiscard_steady : s.hostDiscard.host.steady = s.host.steady := by
  unfold State.hostDiscard
  simp -implicitDefEqProofs
/-! Reads and writes at the arbiter -/

@[simp] theorem State.portLeaves_steady {c : Ch} : (s.portLeaves c).host.steady = s.host.steady := by
  unfold State.portLeaves
  simp

theorem State.wordHeld_steady {u : U} {off new : Nat} {p : State × WRes} (h : s.wordHeld u off new = some p) :
    p.1.host.steady = s.host.steady := by
  unfold State.wordHeld at h
  (repeat' split at h) <;> simp at h <;> subst h <;> simp
theorem State.wordOwn_steady {rq : Req} {u : U} {off : Nat} {be : Fin 16} {v : Nat} {p : State × WRes} (h : s.wordOwn rq u off be v = some p) :
    p.1.host.steady = s.host.steady := by
  unfold State.wordOwn at h
  dsimp only at h
  (repeat' split at h) <;> simp at h <;> subst h <;> simp
theorem State.pairHeld_steady {u : U} {lo : Nat} {p : State × WRes} (h : s.pairHeld u lo = some p) : p.1.host.steady = s.host.steady := by
  unfold State.pairHeld at h
  (repeat' split at h) <;> simp at h <;> subst h <;> simp
@[simp] theorem State.pairWrite_steady {u : U} {lo high : Nat} {low : Option Nat} : (s.pairWrite u lo low high).1.host.steady = s.host.steady := by
  unfold State.pairWrite
  split
  · next p hp => exact State.pairHeld_steady hp
  · dsimp only
    (repeat' split) <;> simp
@[simp] theorem State.oneWrite_steady {rq : Req} {u : U} {off addr : Nat} {be : Fin 16} {v : Nat} :
    (s.oneWrite rq u off addr be v).1.host.steady = s.host.steady := by
  unfold State.oneWrite
  split
  · next p hp => exact State.wordHeld_steady hp
  split
  · next p hp => exact State.wordOwn_steady hp
  · extract_lets rows ho lock s1 s2 st over_ p
    have hs2 : s2.host.steady = s.host.steady := by
      simp -implicitDefEqProofs only [s2, s1]
      (repeat' split) <;> simp
    split
    · exact hs2
    split
    · exact hs2
    split
    · exact State.govRefused_steady.trans hs2
    · exact State.wordDone_steady.trans ((congrArg HostIf.steady (by simp [p])).trans hs2)
@[simp] theorem State.unitWrite_steady {rq : Req} {u : U} {off addr : Nat} {be : Fin 16} {v : Nat} :
    (s.unitWrite rq u off addr be v).1.host.steady = s.host.steady := by
  unfold State.unitWrite
  dsimp only
  split
  · simp
  split
  · split
    · next p hp => exact State.pairHeld_steady hp
    · simp
  split
  · (repeat' split) <;> simp
  · split <;> simp
@[simp] theorem State.msixFlush_steady : s.msixFlush.host.steady = s.host.steady :=
  State.foldl_steady (fun _ _ => State.deliverMsix_steady) _
@[simp] theorem State.writeWord_steady {rq : Req} {addr : Nat} {be : Fin 16} {v : Nat} : (s.writeWord rq addr be v).1.host.steady = s.host.steady := by
  unfold State.writeWord State.tableWrite
  dsimp only
  (repeat' split) <;> simp
@[simp] theorem State.writeBy_steady {rq : Req} {addr : Nat} {be : Fin 16} {v : Nat} : (s.writeBy rq addr be v).host.steady = s.host.steady := by
  unfold State.writeBy
  (repeat' split) <;> simp
@[simp] theorem State.readWord_steady {rq : Req} {addr : Nat} : (s.readWord rq addr).2.host.steady = s.host.steady := by
  unfold State.readWord
  dsimp only
  (repeat' split) <;> simp
@[simp] theorem State.readBy_steady {rq : Req} {addr : Nat} : (s.readBy rq addr).host.steady = s.host.steady := by
  unfold State.readBy
  (repeat' split) <;> simp

/-! Doorbells -/

@[simp] theorem State.badDoorbell_steady {r : RingNo} {why v : Nat} : (s.badDoorbell r why v).host.steady = s.host.steady := by
  unfold State.badDoorbell
  simp
@[simp] theorem State.ringDoorbell_steady {r : RingNo} {v : Nat} : (s.ringDoorbell r v).host.steady = s.host.steady := by
  unfold State.ringDoorbell
  dsimp only
  (repeat' split) <;> simp
@[simp] theorem State.drvIgnored_steady {k : DrvNo} : (s.drvIgnored k).host.steady = s.host.steady := by
  unfold State.drvIgnored
  simp
@[simp] theorem State.drvStart_steady {k : DrvNo} : (s.drvStart k).host.steady = s.host.steady := by
  unfold State.drvStart
  dsimp only
  (repeat' split) <;> simp
@[simp] theorem State.drvContinue_steady {k : DrvNo} : (s.drvContinue k).host.steady = s.host.steady := by
  unfold State.drvContinue
  (repeat' split) <;> simp
@[simp] theorem State.drvDoorbell_steady {k : DrvNo} {v : Nat} : (s.drvDoorbell k v).host.steady = s.host.steady := by
  unfold State.drvDoorbell
  (repeat' split) <;> simp
@[simp] theorem State.doorbellWrite_steady {off : Nat} {data : List Byte} : (s.doorbellWrite off data).host.steady = s.host.steady := by
  refine State.foldl_steady (fun s p => ?_) _
  unfold State.pageDoorbell
  dsimp only
  (repeat' split) <;> simp
end
end Sys2Proof.Machine

/-! ### The fields that halted rings and channels leave (R330, R363, R364) -/

namespace Sys2Proof.Machine

section
variable {s : State} {f : Fld} {k d : DrvNo}

/-- A field of another unit is another field. -/
theorem Fld.ne_of_unit {g : Fld} (h : f.unit ≠ g.unit) : g ≠ f := fun e => h (e ▸ rfl)

theorem State.reg_halt (hf : f.plain = true) {r : RingNo} (hu : f.unit ≠ .ring r) (cause : Nat) : (s.halt r cause).reg f = s.reg f := by
  have hset (t : State) : (((t.setReg (F.RING_STATUS_HALTED r) 1).setReg (F.RING_STATUS_CAUSE r) cause).cause .hl 1).reg f = t.reg f := by
    rw [State.reg_cause_plain _ _ hf, State.reg_setReg, if_neg (Fld.ne_of_unit hu), State.reg_setReg, if_neg (Fld.ne_of_unit hu)]
  unfold State.halt
  dsimp only
  split
  · exact (State.reg_notify _ _ hf).trans (hset s)
  · exact hset s
theorem State.reg_ckBack (hu : ∀ u, f.unit ≠ .ckU u) : (s.ckBack k).reg f = s.reg f := by
  have hset (t : State) {u : CkNo} {g : Fld} (hg : g.unit = .ckU u) (v : Nat) : (t.setReg g v).reg f = t.reg f :=
    (State.reg_setReg ..).trans (if_neg (Fld.ne_of_unit (by rw [hg]; exact hu u)))
  have hck (t : State) (u : CkNo) (c : CkSt → CkSt) : (t.updCk u c).reg f = t.reg f := rfl
  unfold State.ckBack
  split
  · rfl
  split
  · rfl
  split
  · dsimp only
    split
    · rw [hck, hset _ rfl, hset _ rfl]
    · rw [hck, hset _ rfl, hset _ rfl, hck, hset _ rfl, hset _ rfl]
  · rfl
theorem State.reg_queueEmpty (hu : f.unit ≠ .drvCh k) : (s.queueEmpty k).reg f = s.reg f := by
  have hset (t : State) {g : Fld} (hg : g.unit = .drvCh k) (v : Nat) : (t.setReg g v).reg f = t.reg f :=
    (State.reg_setReg ..).trans (if_neg (Fld.ne_of_unit (by rwa [hg])))
  have htally (t : State) (n : Nat) : (t.tally (F.DRV_CH_DROP_DISCARDED k) n).reg f = t.reg f := hset t rfl _
  have hhw (t : State) (v : Nat) : (t.hwSet (F.DRV_CH_QUEUE_PEAK k) v).reg f = t.reg f := by
    unfold State.hwSet
    split
    · rfl
    · exact hset t rfl _
  unfold State.queueEmpty State.levelShow
  dsimp only
  rw [hset _ rfl, hhw, hset _ rfl]
  split
  · rfl
  · exact htally _ _
theorem State.reg_drvEvent (hf : f.plain = true) {i : Nat} (hi : ⟨.drvCh k, 0x20, i, 1, 0⟩ ≠ f) : (s.drvEvent k i).reg f = s.reg f := by
  have hstick : (s.stick ⟨.drvCh k, 0x20, i, 1, 0⟩ 1).reg f = s.reg f := (State.reg_stick ..).trans (if_neg hi)
  unfold State.drvEvent
  dsimp only
  split
  · exact hstick
  split
  · exact (State.reg_cause_plain _ _ hf).trans hstick
  · exact hstick
theorem State.reg_drvDrop (hu : f.unit ≠ .drvCh k) : (s.drvDrop k).reg f = s.reg f := by
  unfold State.drvDrop State.preFlag
  rw [State.reg_queueEmpty hu, State.reg_setReg, if_neg (Fld.ne_of_unit hu)]
  rfl
theorem State.reg_drvTo (hu : f.unit ≠ .drvCh k) (hr : f ≠ F.DRV_STATUS_RUNNING) (st : Nat) : (s.drvTo k st).reg f = s.reg f := by
  unfold State.drvTo
  rw [State.reg_setReg, if_neg hr.symm, State.reg_setReg, if_neg (Fld.ne_of_unit hu)]
/-- A channel that halts changes no field of another unit but DRV_STATUS.RUNNING and what an event changes. -/
theorem State.reg_drvHalt (hf : f.plain = true) (hu : f.unit ≠ .drvCh k) (hr : f ≠ F.DRV_STATUS_RUNNING) (cause a : Nat) :
    (s.drvHalt k cause a).reg f = s.reg f := by
  unfold State.drvHalt State.setCur State.setPair
  rw [State.reg_drvEvent hf (Fld.ne_of_unit hu), State.reg_drvTo hu hr, State.reg_setReg, if_neg (Fld.ne_of_unit hu), State.reg_setReg, if_neg (Fld.ne_of_unit hu),
    State.reg_setReg, if_neg (Fld.ne_of_unit hu), State.reg_drvDrop hu]
/-- The channel itself is HALTED (Table 16.10). -/
theorem State.drvHalt_state (cause a : Nat) : (s.drvHalt k cause a).drvState k = 4 := by
  unfold State.drvHalt State.drvState
  rw [State.reg_drvEvent rfl (by simp), State.drvTo, State.reg_setReg, if_neg (by simp), State.reg_setReg, if_pos rfl]
  rfl
theorem State.drvHalt_other (h : k ≠ d) (cause a : Nat) : (s.drvHalt k cause a).drvState d = s.drvState d :=
  State.reg_drvHalt rfl (by simpa using h.symm) (by simp) _ _
end
end Sys2Proof.Machine

/-! ### What comes from the PCI Express link (R46, R317 to R321, R339, R363) -/

namespace Sys2Proof.Machine

/-! The configuration space -/

theorem HostIf.steady_fatal {h : HostIf} {b : Bool} : ({ h with fatal := b } : HostIf).steady = { h.steady with fatal := b } := rfl
/-- The words of the configuration space stand where only rings, messages and notifications change. -/
theorem HostIf.cfgWord_congr {h k : HostIf} (e : h.steady = k.steady) (o : Nat) : h.cfgWord o = k.cfgWord o :=
  (congrArg (·.cfgWord o) e :)

theorem lookup_insSorted {k v : Nat} {l : List (Nat × Nat)} (hl : ∀ p ∈ l, p.1 ≠ k) :
    (insSorted (fun a b => a.1 ≤ b.1) (k, v) l).lookup k = some v := by
  induction l with
  | nil => simp [insSorted]
  | cons p l ih =>
    obtain ⟨hp, hl⟩ := List.forall_mem_cons.mp hl
    unfold insSorted
    split
    · rw [List.lookup_cons, beq_false_of_ne (Ne.symm hp)]
      exact ih hl
    · simp
/-- A word put into a table is read back, whether it is listed or stands at its reset. -/
theorem tabSet_lookup (l : List (Nat × Nat)) (k v d : Nat) : ((tabSet l k v d).lookup k).getD d = v := by
  have hl : ∀ p ∈ l.filter (fun p => p.1 != k), p.1 ≠ k := fun p hp => by simpa using (List.mem_filter.mp hp).2
  unfold tabSet
  dsimp only
  split
  · next hv =>
    have hnone : (l.filter fun p => p.1 != k).lookup k = none :=
      List.lookup_eq_none_iff.mpr fun p hp => by simpa using (hl p hp).symm
    rw [hnone, hv]
    rfl
  · rw [lookup_insSorted hl]
    rfl

/-- The configuration space with a word in it. -/
def HostIf.cfgPut (h : HostIf) (off w : Nat) : HostIf := { h with cfg := tabSet h.cfg off w (cfgReset off) }
theorem HostIf.cfgWord_plain {h : HostIf} {o : Nat} (ho : o ∉ [0x78, 0x104, 0x110, 0x118, 0x11C, 0x120, 0x124, 0x128]) (h4 : o % 4 = 0) :
    h.cfgWord o = (h.cfg.lookup o).getD (cfgReset o) := by
  simp only [List.mem_cons, List.not_mem_nil, or_false, not_or] at ho
  unfold HostIf.cfgWord
  rw [if_neg (by omega), if_neg (by omega), if_neg (by omega)]
  simp only [if_neg (show ¬o = 0x78 by omega), if_neg (show ¬o = 0x118 by omega)]

section
variable {s : State} {off v : Nat} {be : Fin 16}

/-- A word of the configuration space that no row of its own serves is stored under its mask (R317). -/
theorem State.cfgWrite_plain (h : off ∉ [0x44, 0x78, 0x104, 0x110]) :
    s.cfgWrite off be v = ({ s with host := s.host.cfgPut off ((((s.host.cfg.lookup off).getD (cfgReset off)) &&& (0xFFFFFFFF - cfgMask off)) |||
      (merge be (s.host.cfgWord off) v &&& cfgMask off)) } : State).msixFlush := by
  obtain ⟨h44, h78, h104, h110⟩ : off ≠ 0x44 ∧ off ≠ 0x78 ∧ off ≠ 0x104 ∧ off ≠ 0x110 := by simpa using h
  simp [State.cfgWrite, HostIf.cfgPut, h44, h78, h104, h110]
theorem State.cfgWrite_word (h : off ∉ [0x44, 0x78, 0x104, 0x110, 0x118, 0x11C, 0x120, 0x124, 0x128]) (h4 : off % 4 = 0) :
    (s.cfgWrite off be v).host.cfgWord off =
      (s.host.cfgWord off &&& (0xFFFFFFFF - cfgMask off)) ||| (merge be (s.host.cfgWord off) v &&& cfgMask off) := by
  have hplain : off ∉ [0x78, 0x104, 0x110, 0x118, 0x11C, 0x120, 0x124, 0x128] := fun hm => h (List.mem_cons_of_mem _ hm)
  rw [State.cfgWrite_plain (by simp at h ⊢; omega), HostIf.cfgWord_congr State.msixFlush_steady, HostIf.cfgWord_plain hplain h4]
  exact (tabSet_lookup ..).trans (by rw [HostIf.cfgWord_plain hplain h4])
/-- The header log is not written (R318). -/
theorem State.cfgWrite_hdrLog (h : off ∈ [0x11C, 0x120, 0x124, 0x128]) : (s.cfgWrite off be v).host.cfgWord off = s.host.cfgWord off := by
  simp only [List.mem_cons, List.not_mem_nil, or_false] at h
  have hlog (h : HostIf) : h.cfgWord off = h.hdrLog.getD ((off - 0x11C) / 4) 0 := by
    unfold HostIf.cfgWord
    rw [if_neg (by omega), if_neg (by omega), if_pos (by omega)]
  rw [State.cfgWrite_plain (by simp; omega), HostIf.cfgWord_congr State.msixFlush_steady, hlog, hlog]
  rfl
end

/-! Errors -/

section
variable {s : State} {k : Nat} {adv unc fatal : Bool} {hdr : List Nat}

/-- What an error leaves of the endpoint beside its messages, by what it logs (R320). -/
theorem State.logError_steady : (s.logError unc fatal adv k hdr).host.steady = (s.host.errLogged unc fatal adv k hdr).steady := by
  have hlog (t : State) (f : Fld) : ((t.tally f).cause .hl 4).host.steady = t.host.steady := by
    rw [State.cause_steady, State.tally_frame.2.2.2.2.1]
  unfold State.logError
  extract_lets h s1 s2
  have h1 : s1.host.steady = h.steady := HostIf.steady_with
  have h2 : s2.host.steady = h.steady := (hlog ..).trans h1
  by_cases hon : (!s1.hubOn) = true
  · rw [if_pos hon, h1]
  rw [if_neg hon]
  by_cases hf : fatal = true
  · rw [if_pos hf, h2]
  · rw [if_neg hf, State.notify_steady, h2]
theorem State.fatalError_steady : s.fatalError.host.steady = { s.host.steady with fatal := true } := by
  unfold State.fatalError
  extract_lets h s0 s1 s2
  have h0 : s0.host.steady = { s.host.steady with fatal := true } := HostIf.steady_fatal
  have h1 : s1.host.steady = s0.host.steady := by
    refine State.foldl_steady (fun s r => ?_) _
    split
    · rfl
    · exact State.halt_steady
  have h2 : s2.host.steady = s1.host.steady := by
    rw [State.tally_frame.2.2.2.2.1, State.setReg_host, State.drvFatal_steady]
  by_cases hon : (!s0.hubOn) = true
  · rw [if_pos hon, h0]
  · rw [if_neg hon, State.post_steady, State.cause_steady, h2, h1, h0]
/-- What an uncorrectable error leaves: its log, and the fatal state where its severity makes it fatal (R320, R321). -/
theorem State.uncError_steady : (s.uncError k adv hdr).host.steady =
    { (s.host.errLogged true (s.host.isFatal k) (adv && !s.host.isFatal k) k hdr).steady with fatal := s.host.fatal || s.host.isFatal k } := by
  have hfatal (h : HostIf) (f a : Bool) : (h.errLogged true f a k hdr).fatal = h.fatal := by
    unfold HostIf.errLogged
    dsimp only
    (repeat' split) <;> rfl
  unfold State.uncError
  dsimp only
  split
  · next hf => rw [State.fatalError_steady, State.logError_steady, hf, Bool.or_true]
  · next hf =>
    rw [State.logError_steady, eq_false_of_ne_true hf, Bool.or_false, ← hfatal s.host false (adv && !false)]
    rfl
theorem HostIf.errLogged_aerUnc (h : HostIf) : (h.errLogged true fatal adv k hdr).aerUnc = h.aerUnc ||| 2 ^ k := by
  simp only [HostIf.errLogged, Bool.not_true, Bool.false_eq_true, if_false]
  split <;> rfl
/-- The first uncorrectable error that is not masked keeps its bit and the header of its TLP (R318). -/
theorem HostIf.errLogged_first {h : HostIf} (hnone : h.aerUnc = 0) (hopen : bit (h.cfgWord 0x108) k = false) (hheader : hasHeader k = true) :
    (h.errLogged true fatal adv k hdr).hdrLog = hdr ∧ (h.errLogged true fatal adv k hdr).firstErr = k := by
  simp [HostIf.errLogged, hnone, hopen, hheader]
end
end Sys2Proof.Machine

/-! ### What the link's own events do (R46, R317 to R321, R339) -/

namespace Sys2Proof.Machine

/-- What both crossings hold, and what PCLK does, of the endpoint whose `steady` part is known. -/
theorem HostIf.crossings_of_steady {h k : HostIf} (e : h.steady = k.steady) (hp : k.pclkLost = false) :
    h.pclkLost = false ∧ h.cross = k.cross ∧ h.held = k.held := by
  have hlost : h.pclkLost = false := (congrArg HostIf.pclkLost e).trans hp
  have hcross : (if h.pclkLost then none else h.cross) = if k.pclkLost then none else k.cross := congrArg HostIf.cross e
  rw [hlost, hp] at hcross
  exact ⟨hlost, hcross, (congrArg HostIf.held e :)⟩

/-- The state of the link, of the endpoint whose `steady` part is known. -/
theorem HostIf.link_of_steady {h k : HostIf} (e : h.steady = k.steady) :
    h.dlUp = k.dlUp ∧ h.fatal = k.fatal ∧ h.speed = k.speed ∧ h.width = k.width ∧ h.d3 = k.d3 :=
  ⟨(congrArg HostIf.dlUp e :), (congrArg HostIf.fatal e :), (congrArg HostIf.speed e :), (congrArg HostIf.width e :), (congrArg HostIf.d3 e :)⟩

section
variable {s : State} {k : Nat} {u : Option U}

/-! Crossings -/

theorem State.serveHeld_steady (q : HostReq) : (s.serveHeld q).host.steady = s.host.steady := by
  cases q with
  | write addr be v => exact State.writeBy_steady
  | read addr => exact State.readBy_steady
  | doorbell off data =>
    unfold State.serveHeld
    dsimp only
    split
    · exact State.doorbellWrite_steady
    · rfl
theorem State.countBlocked_crossings (h : s.host.pclkLost = false) :
    s.countBlocked.host.pclkLost = false ∧ s.countBlocked.host.cross = s.host.cross ∧ s.countBlocked.host.held = s.host.held := by
  unfold State.countBlocked
  split
  · exact ⟨h, rfl, rfl⟩
  · exact HostIf.crossings_of_steady (k := { s.host with blocked := 0 }) (by rw [State.cause_steady, State.tally_frame.2.2.2.2.1]) h
/-- A delivery leaves both crossings empty and PCLK running (R46). -/
theorem State.crossingDelivery_empty (s : State) : s.crossingDelivery.host.pclkLost = false ∧ s.crossingDelivery.host.cross = none ∧
    s.crossingDelivery.host.held = none := by
  unfold State.crossingDelivery
  extract_lets h s1 s2
  have h2 : s2.host.steady = s1.host.steady := by
    unfold s2
    split
    · rfl
    · exact State.deliverMsix_steady
  have hend (t : State) (ht : t.host.steady = s1.host.steady) :
      t.countBlocked.host.pclkLost = false ∧ t.countBlocked.host.cross = none ∧ t.countBlocked.host.held = none := by
    obtain ⟨hp, hc, hh⟩ := HostIf.crossings_of_steady ht rfl
    obtain ⟨hp', hc', hh'⟩ := State.countBlocked_crossings hp
    exact ⟨hp', hc'.trans hc, hh'.trans hh⟩
  cases s.host.held with
  | none => exact hend _ h2
  | some q => exact hend _ ((State.serveHeld_steady q).trans h2)
theorem State.deliverMsix_sent (hen : s.host.msixEn = true) (hmask : s.host.funcMask = false) (hvec : bit (s.host.msixWord k 3) 0 = false)
    (hmay : s.host.mayIssue = true) : (s.deliverMsix k u).host = { s.host with out := s.host.out ++ [s.host.message k] } := by
  simp [State.deliverMsix, hen, hmask, hvec, hmay]
/-- The message that a crossing held goes out once, where nothing holds it back (R46, R50). -/
theorem State.crossingDelivery_message (hc : s.host.cross = some (k, u)) (hh : s.host.held = none) (hb : s.host.blocked = 0)
    (hen : s.host.msixEn = true) (hmask : s.host.funcMask = false) (hvec : bit (s.host.msixWord k 3) 0 = false)
    (hmay : s.host.mayIssue = true) : s.crossingDelivery.host.out = s.host.out ++ [s.host.message k] := by
  have hsent := State.deliverMsix_sent (u := u)
    (s := { s with host := { s.host with pclkLost := false, cross := none, held := none } }) hen hmask hvec hmay
  unfold State.crossingDelivery
  simp only [hc, hh]
  unfold State.countBlocked
  rw [if_pos (by rw [hsent]; exact hb), hsent]
  rfl

/-! Messages only join those sent -/

theorem State.deliverMsix_out : s.host.out <+: (s.deliverMsix k u).host.out := by
  unfold State.deliverMsix
  split
  · exact List.prefix_rfl
  split
  · exact List.prefix_rfl
  · exact List.prefix_append _ _
theorem State.requestMsix_out : s.host.out <+: (s.requestMsix k u).host.out := by
  unfold State.requestMsix
  split
  · rw [State.crossBlocked_frame.2.2.2.2.1]
  split
  · exact State.deliverMsix_out
  · exact List.prefix_rfl
theorem State.cause_out {u : U} {k : Nat} : s.host.out <+: (s.cause u k).host.out := by
  have hor : (s.orCause u k).host = s.host := by simp
  unfold State.cause State.unitMessage
  split
  · split
    · exact hor ▸ State.requestMsix_out
    · rw [hor]
  · rw [hor]
theorem State.notify_out {kind : Nat} {body : List Place} : s.host.out <+: (s.notify kind body).host.out := by
  unfold State.notify State.raise
  split
  · exact List.prefix_rfl
  unfold State.loseNote
  dsimp only
  split
  · exact List.IsPrefix.trans (by simp) State.cause_out
  · simp

/-! Errors -/

theorem State.logError_correctable : (s.logError false false false k []).host.aerCor = s.host.aerCor ||| 2 ^ k :=
  congrArg HostIf.aerCor State.logError_steady
/-- The message of an error goes out first of what its report sends (R320). -/
theorem State.logError_out {unc fatal adv : Bool} {hdr : List Nat} :
    s.host.out ++ s.host.errMessage unc fatal adv k <+: (s.logError unc fatal adv k hdr).host.out := by
  have hout : (s.host.errLogged unc fatal adv k hdr).out = s.host.out := by
    unfold HostIf.errLogged
    dsimp only
    (repeat' split) <;> rfl
  unfold State.logError
  extract_lets h s1 s2
  have h1 : s.host.out ++ s.host.errMessage unc fatal adv k <+: s1.host.out := by rw [← hout]
  have h2 : s.host.out ++ s.host.errMessage unc fatal adv k <+: s2.host.out :=
    (h1.trans (by rw [State.tally_frame.2.2.2.2.1])).trans State.cause_out
  by_cases hon : (!s1.hubOn) = true
  · rwa [if_pos hon]
  rw [if_neg hon]
  by_cases hf : fatal = true
  · rwa [if_pos hf]
  · rw [if_neg hf]
    exact h2.trans State.notify_out
theorem HostIf.errMessage_correctable {h : HostIf} (hon : bit (h.cfgWord 0x78) 0 = true) (hopen : bit (h.cfgWord 0x114) k = false) :
    h.errMessage false false false k = [.err 0] := by
  simp [HostIf.errMessage, hon, hopen]
/-- What an uncorrectable error leaves at the endpoint, reached from a state whose endpoint stands as it did (R318, R320, R321). -/
theorem State.uncError_endpoint {s0 : State} (h : s.host.steady = s0.host.steady) (k : Nat) (adv : Bool) (hdr : List Nat) :
    (s.uncError k adv hdr).host.aerUnc = s0.host.aerUnc ||| 2 ^ k ∧ (s0.host.isFatal k = true → (s.uncError k adv hdr).host.fatal = true) ∧
      (s0.host.aerUnc = 0 → bit (s0.host.cfgWord 0x108) k = false → hasHeader k = true →
        (s.uncError k adv hdr).host.hdrLog = hdr ∧ (s.uncError k adv hdr).host.firstErr = k) := by
  have hlog := State.uncError_steady (s := s) (k := k) (adv := adv) (hdr := hdr)
  have haer : s.host.aerUnc = s0.host.aerUnc := (congrArg HostIf.aerUnc h :)
  have hfatal : s.host.isFatal k = s0.host.isFatal k := congrArg (bit · k) (HostIf.cfgWord_congr h 0x10C)
  refine ⟨?_, fun hf => ?_, fun hnone hopen hheader => ?_⟩
  · exact (congrArg HostIf.aerUnc hlog).trans ((HostIf.errLogged_aerUnc _).trans (by rw [haer]))
  · exact (congrArg HostIf.fatal hlog).trans (by simp [hfatal, hf])
  · obtain ⟨hh, hfirst⟩ := HostIf.errLogged_first (h := s.host) (fatal := s.host.isFatal k) (adv := adv && !s.host.isFatal k) (hdr := hdr)
      (haer.trans hnone) (by rwa [HostIf.cfgWord_congr h]) hheader
    exact ⟨(congrArg HostIf.hdrLog hlog).trans hh, (congrArg HostIf.firstErr hlog).trans hfirst⟩

/-! Power state and Function Level Reset -/

theorem State.powerState_d3 (d3 : Bool) : (s.powerState d3).host.d3 = d3 := congrArg HostIf.d3 State.msixFlush_steady
theorem State.reg_lowWater {f : Fld} (hf : f.plain = true) : s.lowWater.reg f = s.reg f := by
  unfold State.lowWater
  dsimp only
  split
  · rfl
  split
  · rfl
  split
  · rw [State.reg_cause_plain _ _ hf, State.reg_notify _ _ hf]
    rfl
  · rfl
/-- A reset of the host side leaves the fields of the root (R342). -/
theorem State.reg_hostReset {f : Fld} (hf : f.plain = true) (hu : f.unit = .root) : s.hostReset.reg f = s.reg f := by
  have hset (t : State) {g : Fld} (hg : g.unit ≠ .root) (v : Nat) : (t.setReg g v).reg f = t.reg f :=
    (State.reg_setReg ..).trans (if_neg (Fld.ne_of_unit (hu ▸ hg.symm)))
  have hclear (t : State) : (t.clearRegs hostFld).reg f = t.reg f := Store.get_filter (by simp [hostFld, hu])
  unfold State.hostReset
  extract_lets s0 s1 s2 h
  have h0 : s0.reg f = s.reg f := by rw [State.reg_lowWater hf, hset _ (by simp), hset _ (by simp)]
  have h1 : s1.reg f = s0.reg f := State.foldl_keep (fun t => t.reg f) (fun t k => State.reg_queueEmpty (by simp [hu])) _ _
  have h2 : s2.reg f = s1.reg f := by rw [hset _ (by simp), hclear]
  clear_value s1
  change s2.reg f = _
  exact h2.trans (h1.trans h0)
/-- A Function Level Reset keeps the link up, ends a fatal state, and is counted (R321, R457). -/
theorem State.flr_on (hon : s.hubOn = true) : s.flr.host.dlUp = s.host.dlUp ∧ s.flr.host.fatal = false ∧
    s.flr.reg F.ROOT_RESET_STATUS_SOFT_RESETS = min (s.reg F.ROOT_RESET_STATUS_SOFT_RESETS + 1) 255 := by
  unfold State.flr
  extract_lets h mps s1
  rw [if_pos (show s1.hubOn = true from hon)]
  obtain ⟨hdl, hfatal, -⟩ := HostIf.link_of_steady (State.softReset_steady (s := s1))
  refine ⟨hdl, hfatal, ?_⟩
  unfold State.softReset
  rw [State.reg_tally, if_pos rfl, State.reg_hostReset rfl rfl]
  exact Nat.mod_eq_of_lt (by simp)

/-! The state of the link -/

theorem State.linkEvent_up {up : Bool} {speed width : Nat} (hperst : s.host.perst = false) (hphy : s.host.phyLow = false)
    (hrun : s.hub.run ≠ .por) (hup : up = true ∨ s.host.dlUp = true) : (s.linkEvent up speed width).host.dlUp = true ∧
      (s.linkEvent up speed width).host.speed = speed ∧ (s.linkEvent up speed width).host.width = width := by
  have hgo : ¬((s.host.perst || s.host.phyLow || s.hub.run == .por || (!up && !s.host.dlUp)) = true) := by
    obtain rfl | hdl := hup
    · simp [hperst, hphy, hrun]
    · simp [hperst, hphy, hrun, hdl]
  unfold State.linkEvent
  rw [if_neg hgo]
  extract_lets h s1 s2
  suffices h : (if (!s1.hubOn) = true then s1 else (s2.cause .hl 5).notify 4 [(12, 1, 3), (13, 1, speed), (14, 1, width)]).host.steady =
      s1.host.steady by
    obtain ⟨hdl, -, hspeed, hwidth, -⟩ := HostIf.link_of_steady h
    exact ⟨hdl, hspeed, hwidth⟩
  split
  · rfl
  · rw [State.notify_steady, State.cause_steady]
    unfold s2
    split
    · rfl
    · exact State.post_steady
theorem State.reg_refreshed {m : Fin 5} {f : Fld} (hu : f.unit ≠ .root) : (s.refreshed m).reg f = s.reg f := by
  unfold State.refreshed
  rw [State.reg_setReg, if_neg (Fld.ne_of_unit hu), State.reg_wrapTally, if_neg (Fld.ne_of_unit hu)]
  rfl
/-- The status shown is the endpoint's while the link is up, and is left while it is down (R43, R342). -/
theorem State.pclkRefresh_status (s : State) :
    (s.host.dlUp = true → s.pclkRefresh.reg F.HL_LINK_STATUS_DL_UP = 1 ∧ s.pclkRefresh.reg F.HL_LINK_STATUS_BME = b2n s.host.bme) ∧
    (s.host.dlUp = false → s.pclkRefresh.reg F.HL_LINK_STATUS_DL_UP = s.reg F.HL_LINK_STATUS_DL_UP ∧
      s.pclkRefresh.reg F.HL_LINK_STATUS_BME = s.reg F.HL_LINK_STATUS_BME) := by
  have hb (b : Bool) : b2n b ≤ 1 := by cases b <;> decide
  unfold State.pclkRefresh
  dsimp only
  rw [State.reg_refreshed (by simp), State.reg_refreshed (by simp)]
  refine ⟨fun h => ?_, fun h => ?_⟩
  · simp [h, hb, show b2n true = 1 from rfl]
  · simp [h]
theorem State.pclkRefresh_fresh (s : State) : s.pclkRefresh.hub.fresh[0] = some s.tick := by
  unfold State.pclkRefresh
  refine (State.refreshed_fresh 0).trans (congrArg some ?_)
  split
  · rfl
  · exact State.foldl_keep (f := fun (s : State) (p : Fld × Nat) => s.setReg p.1 p.2) State.tick (fun _ _ => rfl) _ s
end
end Sys2Proof.Machine

/-! ### A failed read of the Drover (R363, R364) -/

namespace Sys2Proof.Machine

/-- What halts and aborts of the Drover's channels turn on: the states of the channels and the descriptors in progress. -/
def State.tasks (s : State) (k : DrvNo) : Option Desc × Bool × Nat := ((s.drvc k).cur, (s.drvc k).busy, s.drvState k)
theorem State.tasks_eq {s t : State} (hd : t.drv = s.drv) (hr : ∀ k, t.drvState k = s.drvState k) : t.tasks = s.tasks := by
  funext k
  simp only [State.tasks, State.drvc, hd, hr]
theorem State.drvState_of_tasks {s t : State} (h : t.tasks = s.tasks) (k : DrvNo) : t.drvState k = s.drvState k :=
  congrArg (fun f => (f k).2.2) h

section
variable {s : State} {k d : DrvNo}

/-! What was moved before the failure -/

theorem State.unmapped_tasks : s.unmapped.tasks = s.tasks :=
  State.tasks_eq State.unmapped_frame.2.2.2.2.2.2.2.2.2.2.2.1 fun k => by
    unfold State.unmapped State.drvState
    rw [State.reg_cause_plain _ _ rfl, State.reg_tally, if_neg (by simp)]
theorem State.setSnap_tasks {rq : Req} {v : Nat × Nat} : (s.setSnap rq v).tasks = s.tasks := by
  cases rq with
  | bulk d =>
    funext k
    simp only [State.tasks, State.setSnap, State.drvc_updDrv, State.drvState, State.reg_updDrv]
    split <;> rfl
  | _ => rfl
/-- A read changes no state of a channel and no descriptor in progress. -/
theorem State.readWord_tasks {rq : Req} {a : Nat} : (s.readWord rq a).2.tasks = s.tasks := by
  have hram : s.ramStep.tasks = s.tasks := State.tasks_eq rfl fun k => by
    unfold State.ramStep State.drvState
    rw [State.reg_setReg, if_neg (by simp)]
  unfold State.readWord
  dsimp only
  split
  · exact State.unmapped_tasks
  · rfl
  · rfl
  · rfl
  · split
    · exact State.setSnap_tasks
    split
    · rfl
    split
    · exact hram
    · rfl
theorem State.spaceRead_tasks {sp a : Nat} : (s.spaceRead k sp a).2.tasks = s.tasks := by
  unfold State.spaceRead
  split
  · exact State.readWord_tasks
  · split <;> rfl
/-- What no read of a word of the device side changes, the gathering of a descriptor's elements leaves. -/
theorem State.gatherElems_keep {β : Type} (p : State → β) (h : ∀ (t : State) sp a, p (t.spaceRead k sp a).2 = p t) {e : Desc} {l : List (Nat × Nat)} :
    p (s.gatherElems k e l).2 = p s := by
  have helem (t : State) (sp a n : Nat) : p (t.elemRead k sp a n).2 = p t := by
    unfold State.elemRead
    refine (State.foldl_snd_keep p (fun q i => ?_) _ _).trans rfl
    exact h ..
  unfold State.gatherElems
  split
  · rfl
  · refine (State.foldl_snd_keep p (fun q x => ?_) _ _).trans rfl
    exact helem ..
/-- What a channel that reads the device has moved changes no state of a channel (R363). -/
theorem State.movedSoFar_tasks {n : Nat} {data : List Byte} (h : ∀ e, (s.drvc k).cur = some e → (s.drvc k).busy = true → e.h2d = false) :
    (s.movedSoFar n data k).tasks = s.tasks := by
  unfold State.movedSoFar
  split
  · rfl
  · next e he =>
    split
    · rfl
    · next hb =>
      rw [h e he (by simpa using hb)]
      exact (State.tasks_eq (State.dataWrites_frame.2.2.2.2.2.2.2.2.2.2.2.2.1) fun _ => by
        unfold State.drvState State.reg
        rw [State.dataWrites_frame.2.1]).trans
        (State.gatherElems_keep State.tasks fun _ _ _ => State.spaceRead_tasks)
theorem State.moved_tasks {n : Nat} {data : List Byte} (h : ∀ j e, (s.drvc j).cur = some e → (s.drvc j).busy = true → e.h2d = false)
    (l : List DrvNo) : (l.foldl (fun s k => s.movedSoFar n data k) s).tasks = s.tasks := by
  induction l generalizing s with
  | nil => rfl
  | cons k l ih =>
    have hk : (s.movedSoFar n data k).tasks = s.tasks := State.movedSoFar_tasks (h k)
    refine (ih fun j e hc hb => h j e ?_ ?_).trans hk
    · rwa [← show ((s.movedSoFar n data k).drvc j).cur = (s.drvc j).cur from congrArg (fun f => (f j).1) hk]
    · rwa [← show ((s.movedSoFar n data k).drvc j).busy = (s.drvc j).busy from congrArg (fun f => (f j).2.1) hk]
theorem State.spaceWrite_steady {sp a v : Nat} : (s.spaceWrite k sp a v).host.steady = s.host.steady := by
  unfold State.spaceWrite
  dsimp only
  (repeat' split) <;> simp
/-- What was moved leaves the endpoint but for the writes sent (R363). -/
theorem State.movedSoFar_steady {n : Nat} {data : List Byte} : (s.movedSoFar n data k).host.steady = s.host.steady := by
  have hread (t : State) (sp a : Nat) : (t.spaceRead k sp a).2.host.steady = t.host.steady := by
    unfold State.spaceRead
    split
    · exact State.readWord_steady
    · split <;> rfl
  have hdeliver (e : Desc) (l : List (Nat × Nat)) : (s.deliverElems k e l data).host.steady = s.host.steady := by
    unfold State.deliverElems
    refine State.foldl_steady (fun _ _ => State.foldl_steady (fun _ _ => ?_) _) _
    split
    · exact State.spaceWrite_steady
    · rfl
  unfold State.movedSoFar
  split
  · rfl
  split
  · rfl
  split
  · split
    · rfl
    · exact hdeliver ..
  · exact State.gatherElems_keep (fun s => s.host.steady) hread

/-! The channels halt -/

theorem State.drvAbort_steady {cause : Nat} : ((s.ckBack k).drvAbort k cause).host.steady = s.host.steady := by
  unfold State.drvAbort
  dsimp only
  split
  · rw [State.drvHalt_steady, State.ckBack_frame.2.2.2.2.1]
  · rw [State.ckBack_frame.2.2.2.2.1]
theorem State.drvAbort_state {cause : Nat} : ((s.ckBack k).drvAbort k cause).drvState d =
    if k = d ∧ s.drvState d ∈ [1, 2, 3] then 4 else s.drvState d := by
  have hback (d : DrvNo) : (s.ckBack k).drvState d = s.drvState d := State.reg_ckBack (by simp)
  unfold State.drvAbort
  dsimp only
  rw [hback]
  by_cases hk : k = d
  · subst hk
    split
    · next h => rw [State.drvHalt_state, if_pos ⟨rfl, by simpa using h⟩]
    · next h => rw [hback, if_neg fun hm => h (by simpa using hm.2)]
  · rw [if_neg fun hm : k = d ∧ _ => hk hm.1]
    split
    · rw [State.drvHalt_other hk, hback]
    · exact hback d
/-- A RUNNING channel is HALTED by the abort of all, and a HALTED one stays so (R363). -/
theorem State.aborted_halted {cause : Nat} {l : List DrvNo} (h : s.drvState d = 4 ∨ s.drvState d = 1 ∧ d ∈ l) :
    (l.foldl (fun s k => (s.ckBack k).drvAbort k cause) s).drvState d = 4 := by
  induction l generalizing s with
  | nil => simpa using h
  | cons k l ih =>
    refine ih ?_
    rw [State.drvAbort_state]
    obtain h | ⟨h, hm⟩ := h
    · simp [h]
    · obtain rfl | hm := List.mem_cons.mp hm
      · simp [h]
      · by_cases hk : k = d
        · simp [h, hk]
        · simp [h, hk, hm]

/-! A fatal error -/

theorem State.reg_logError {f : Fld} (hf : f.plain = true) (hu : f.unit ≠ .hl) {unc fatal adv : Bool} {n : Nat} {hdr : List Nat} :
    (s.logError unc fatal adv n hdr).reg f = s.reg f := by
  unfold State.logError
  extract_lets h s1 s2
  have h2 : s2.reg f = s.reg f := by
    unfold s2
    rw [State.reg_cause_plain _ _ hf, State.reg_tally, if_neg (by split <;> exact Fld.ne_of_unit hu)]
    rfl
  by_cases hon : (!s1.hubOn) = true
  · rw [if_pos hon]
    rfl
  rw [if_neg hon]
  by_cases hfatal : fatal = true
  · rw [if_pos hfatal, h2]
  · rw [if_neg hfatal, State.reg_notify _ _ hf, h2]
/-- A fatal error leaves of a field what the halt of every channel leaves, but for the rings' and the Drover's own (R321, R364). -/
theorem State.reg_fatalError {f : Fld} (hf : f.plain = true) (hr : ∀ r, f.unit ≠ .ring r) (hfatal : f ≠ F.DRV_STATUS_FATAL)
    (hstops : f ≠ F.DRV_TALLY_FATAL_STOPS) : ∃ t : State, t.reg f = s.reg f ∧ s.fatalError.reg f ∈ [s.reg f, t.drvFatal.reg f] := by
  unfold State.fatalError
  extract_lets h s0 s1 s2
  have h1 : s1.reg f = s.reg f := State.foldl_keep (fun t => t.reg f) (fun t r => by
    split
    · rfl
    · exact State.reg_halt hf (hr r) _) _ _
  refine ⟨s1, h1, ?_⟩
  by_cases hon : (!s0.hubOn) = true
  · rw [if_pos hon]
    exact List.mem_cons_self
  · rw [if_neg hon, State.reg_post _ hf, State.reg_cause_plain _ _ hf, State.reg_tally, if_neg hstops.symm, State.reg_setReg,
      if_neg hfatal.symm]
    simp
theorem State.drvFatal_halted (h : s.drvState d = 4) : s.drvFatal.drvState d = 4 := by
  unfold State.drvFatal
  refine List.foldlRecOn (motive := fun t : State => t.drvState d = 4) _ _ h fun t ht k _ => ?_
  unfold State.drvFatalOne
  by_cases hk : k = d
  · exact hk ▸ State.drvHalt_state ..
  · rw [State.drvHalt_other hk]
    exact (State.reg_ckBack (by simp)).trans ht
theorem State.uncError_halted {n : Nat} {adv : Bool} {hdr : List Nat} (h : s.drvState d = 4) : (s.uncError n adv hdr).drvState d = 4 := by
  unfold State.uncError
  dsimp only
  have hlog (f a : Bool) : (s.logError true f a n hdr).drvState d = 4 := (State.reg_logError rfl (by simp)).trans h
  split
  · obtain ⟨t, ht, hm⟩ := State.reg_fatalError (s := s.logError true (s.host.isFatal n) (adv && !s.host.isFatal n) n hdr)
      (f := F.DRV_CH_STATUS_STATE d) rfl (by simp) (by simp) (by simp)
    have h4 : t.drvState d = 4 := ht.trans (hlog _ _)
    simp only [List.mem_cons, List.not_mem_nil, or_false] at hm
    obtain hm | hm := hm
    · exact hm.trans (hlog _ _)
    · exact hm.trans (State.drvFatal_halted h4)
  · exact hlog _ _
theorem State.uncError_busErr {n : Nat} {adv : Bool} {hdr : List Nat} :
    (s.uncError n adv hdr).reg F.DRV_STATUS_BUS_ERR = s.reg F.DRV_STATUS_BUS_ERR := by
  have hlog (f a : Bool) : (s.logError true f a n hdr).reg F.DRV_STATUS_BUS_ERR = s.reg F.DRV_STATUS_BUS_ERR :=
    State.reg_logError rfl (by simp)
  have hdrv (t : State) : t.drvFatal.reg F.DRV_STATUS_BUS_ERR = t.reg F.DRV_STATUS_BUS_ERR :=
    State.foldl_keep (fun t => t.reg F.DRV_STATUS_BUS_ERR) (fun t k => by
      unfold State.drvFatalOne
      rw [State.reg_drvHalt rfl (by simp) (by simp), State.reg_ckBack (by simp)]) _ t
  unfold State.uncError
  dsimp only
  split
  · obtain ⟨t, ht, hm⟩ := State.reg_fatalError (s := s.logError true (s.host.isFatal n) (adv && !s.host.isFatal n) n hdr)
      (f := F.DRV_STATUS_BUS_ERR) rfl (by simp) (by simp) (by simp)
    rw [hdrv, ht, hlog] at hm
    simpa using hm
  · exact hlog _ _

/-! The failed read -/

section
variable {addr n : Nat} {hdr : List Nat}

/-- A failed read of the Drover before its error is logged: the channels abandoned, BUS_ERR set and the address kept. -/
def State.readFailed (s : State) (addr : Nat) : State :=
  (((((s.drvAbortAll 4).setReg F.DRV_STATUS_BUS_ERR 1).setPair F.DRV_BUS_ERR_ADDR_LO F.DRV_BUS_ERR_ADDR_HI addr).tally F.DRV_TALLY_BUS_ERRS).cause .drv 24)
theorem State.busError_eq : s.busError addr n hdr = (s.readFailed addr).uncError n false hdr := rfl
theorem State.readFailed_steady : (s.readFailed addr).host.steady = s.host.steady := by
  unfold State.readFailed
  rw [State.cause_steady, State.tally_frame.2.2.2.2.1, State.setPair_frame.2.2.2.2.1, State.setReg_host]
  exact State.foldl_steady (fun _ _ => State.drvAbort_steady) _
theorem State.reg_readFailed {f : Fld} (hf : f.plain = true) (hlo : f ≠ F.DRV_BUS_ERR_ADDR_LO) (hhi : f ≠ F.DRV_BUS_ERR_ADDR_HI)
    (htally : f ≠ F.DRV_TALLY_BUS_ERRS) : (s.readFailed addr).reg f = ((s.drvAbortAll 4).setReg F.DRV_STATUS_BUS_ERR 1).reg f := by
  unfold State.readFailed State.setPair
  rw [State.reg_cause_plain _ _ hf, State.reg_tally, if_neg htally.symm, State.reg_setReg, if_neg hhi.symm, State.reg_setReg, if_neg hlo.symm]
theorem State.busError_busErr : (s.busError addr n hdr).reg F.DRV_STATUS_BUS_ERR = 1 := by
  rw [State.busError_eq, State.uncError_busErr, State.reg_readFailed rfl (by simp) (by simp) (by simp), State.reg_setReg, if_pos rfl]
  rfl
theorem State.busError_halted (h : s.drvState d = 1) : (s.busError addr n hdr).drvState d = 4 := by
  rw [State.busError_eq]
  refine State.uncError_halted ?_
  unfold State.drvState
  rw [State.reg_readFailed rfl (by simp) (by simp) (by simp), State.reg_setReg, if_neg (by simp)]
  exact State.aborted_halted (.inr ⟨h, List.mem_finRange d⟩)
end
end
end Sys2Proof.Machine

/-! ### The commands of the link, one by one (R46, R317 to R321, R363) -/

namespace Sys2Proof.Machine

section
variable {s : State}

theorem State.fetchFailed_steady {r : RingNo} : (s.fetchFailed r).host.steady = s.host.steady := by
  unfold State.fetchFailed
  split
  · exact State.halt_steady.trans State.updRing_steady
  · rfl
theorem exec_configWrite (hdl : s.host.dlUp = true) (off : Nat) (be : Fin 16) (v : Word) :
    exec (.configWrite off be v) s = .next (s.cfgWrite (off / 4 * 4) be v.toNat) := by
  rw [show exec (.configWrite off be v) s = execConfigWrite off be v s from rfl, execConfigWrite, if_pos hdl]
theorem exec_correctable (hdl : s.host.dlUp = true) (k : Nat) :
    exec (.pcieError (.correctable k)) s = .next (s.logError false false false k []) := by
  rw [show exec (.pcieError (.correctable k)) s = execPcieError (.correctable k) s from rfl, execPcieError, if_neg (by simp [hdl])]
/-- An uncorrectable error is logged at an endpoint that stands as it did: a failed fetch has only halted its ring (R320, R334). -/
theorem exec_uncorrectable (hdl : s.host.dlUp = true) {k : Nat} {e : PcieErr} {hdr : List Word}
    (he : (∃ adv, e = .request k adv hdr) ∨ e = .link k hdr ∨ (∃ r, e = .ringFetch r k hdr)) :
    ∃ (s1 : State) (adv : Bool), s1.host.steady = s.host.steady ∧ exec (.pcieError e) s = .next (s1.uncError k adv (hdrWords hdr)) := by
  rw [show exec (.pcieError e) s = execPcieError e s from rfl, execPcieError.eq_def, if_neg (by simp [hdl])]
  obtain ⟨adv, rfl⟩ | rfl | ⟨r, rfl⟩ := he
  · exact ⟨s, adv, rfl, rfl⟩
  · exact ⟨s, false, rfl, rfl⟩
  · refine ⟨if s.hubOn then s.fetchFailed r else s, false, ?_, rfl⟩
    split
    · exact State.fetchFailed_steady
    · rfl
theorem State.busError_aerUnc {s0 : State} (h : s.host.steady = s0.host.steady) {addr n : Nat} {hdr : List Nat} :
    (s.busError addr n hdr).host.aerUnc = s0.host.aerUnc ||| 2 ^ n := by
  rw [State.busError_eq]
  obtain ⟨haer, -⟩ := State.uncError_endpoint (State.readFailed_steady.trans h) n false hdr
  exact haer
/-- A failed read of the Drover logs its error, sets BUS_ERR, and halts each channel that ran, where those in progress read the device (R363). -/
theorem exec_busError (hon : s.hubOn = true) (hdl : s.host.dlUp = true) (addr : Nat) (e : ReadFail) :
    ∃ t, exec (.busError addr e) s = .next t ∧ t.host.aerUnc = s.host.aerUnc ||| 2 ^ e.bit ∧ t.reg F.DRV_STATUS_BUS_ERR = 1 ∧
      ((∀ j d, (s.drvc j).cur = some d → (s.drvc j).busy = true → d.h2d = false) → ∀ d : DrvNo, s.drvState d = 1 → t.drvState d = 4) := by
  rw [show exec (.busError addr e) s = execBusError addr e s from rfl, execBusError, onHub_on hon, if_pos hdl]
  have hmoved : ((List.finRange 24).foldl (fun s k => s.movedSoFar e.moved e.data k) s).host.steady = s.host.steady :=
    State.foldl_steady (fun _ _ => State.movedSoFar_steady) _
  have haer := State.busError_aerUnc hmoved (addr := addr) (n := e.bit) (hdr := hdrWords e.hdr)
  refine ⟨_, rfl, haer, State.busError_busErr, fun hread d hd => State.busError_halted ?_⟩
  exact (State.drvState_of_tasks (State.moved_tasks hread _) d).trans hd
end
end Sys2Proof.Machine

namespace Sys2Proof
open Machine

/-- Settles O31, from what each command leaves of the endpoint: the rings, the Drover and the arbiter touch its messages, queues and
MSI-X structures alone (`HostIf.steady`), and reads before a failed one halt no channel (`State.moved_tasks`). -/
theorem hostLinkCommands : Obligations.HostLinkCommands := by
  unfold Obligations.HostLinkCommands
  intro s
  refine ⟨fun hon => ?_, fun hdl => ⟨fun off be v hoff => ?_, fun off be v hoff => ?_, fun k => ?_, fun k e hdr he => ?_, fun d3 => ?_, fun hon => ?_,
    fun hon addr k n data hdr => exec_busError hon hdl addr ⟨k, n, data, hdr⟩⟩, fun up speed width hperst hphy hrun hup => ?_, fun hon hp => ?_,
    ⟨_, rfl, rfl, rfl⟩, ⟨_, rfl, rfl, rfl⟩⟩
  · obtain ⟨hp, hc, hh⟩ := s.crossingDelivery_empty
    refine ⟨s.crossingDelivery, ?_, hp, hc, hh, fun k u hcross hheld hblocked hen hmask hvec hmay =>
      State.crossingDelivery_message hcross hheld hblocked hen hmask hvec hmay⟩
    rw [show exec .crossingDelivery s = execCrossingDelivery s from rfl, execCrossingDelivery, onHub_on hon]
  · exact ⟨_, exec_configWrite hdl off be v, State.cfgWrite_word hoff (by omega)⟩
  · exact ⟨_, exec_configWrite hdl off be v, State.cfgWrite_hdrLog hoff⟩
  · refine ⟨_, exec_correctable hdl k, State.logError_correctable, fun hreport hopen => ?_⟩
    obtain ⟨l, hl⟩ := State.logError_out (s := s) (k := k) (unc := false) (fatal := false) (adv := false) (hdr := [])
    rw [HostIf.errMessage_correctable hreport hopen, List.append_assoc] at hl
    exact ⟨l, hl.symm⟩
  · obtain ⟨s1, adv, hs1, hexec⟩ := exec_uncorrectable hdl he
    exact ⟨_, hexec, State.uncError_endpoint hs1 k adv (hdrWords hdr)⟩
  · refine ⟨s.powerState d3, ?_, State.powerState_d3 d3, State.msixFlush_frame.2.1⟩
    rw [show exec (.powerStateChange d3) s = execPowerStateChange d3 s from rfl, execPowerStateChange, if_pos hdl]
  · obtain ⟨hup, hfatal, hcount⟩ := State.flr_on hon
    refine ⟨s.flr, ?_, hup.trans hdl, hfatal, hcount⟩
    rw [show exec .functionLevelReset s = execFunctionLevelReset s from rfl, execFunctionLevelReset, if_pos hdl]
  · exact ⟨s.linkEvent up speed width, rfl, State.linkEvent_up hperst hphy hrun hup⟩
  · obtain ⟨hshown, hleft⟩ := s.pclkRefresh_status
    refine ⟨s.pclkRefresh, ?_, State.pclkRefresh_frame.2.2.2.1, s.pclkRefresh_fresh, hshown, hleft⟩
    rw [show exec .pclkMirrorRefresh s = execPclkMirrorRefresh s from rfl, execPclkMirrorRefresh, onHub_on hon, if_neg (by simp [hp])]

end Sys2Proof

/-! ### The words of a channel (R57 to R63, R94, R142, R177, R257, R262, R266) -/

namespace Sys2Proof.Machine

section
variable {s t : State} {rq : Req} {c d : Ch} {m p : Nat} {f : Fld}

/-! A change of mode -/

/-- Slots cancelled leave the Fold, and no other does (R121). -/
theorem State.cancelSlots_slots {q : Slot → Bool} {cause rule : Nat} :
    (s.cancelSlots q cause rule).fold.slots = s.fold.slots.filter fun x => !q x := by
  have hlow (t : State) : t.lowWater.fold.slots = t.fold.slots := by
    obtain ⟨b, hb⟩ := t.lowWater_fold
    rw [hb]
  simp [State.cancelSlots, hlow]
theorem State.reg_cancelNote {l : List Slot} {chByte cause rule : Nat} (hf : f.plain = true) (hu : f.unit ≠ .fold) :
    (s.cancelNote l chByte cause rule).reg f = s.reg f := by
  unfold State.cancelNote
  split
  · rfl
  · exact (State.reg_cause_plain _ _ hf).trans ((State.reg_tally ..).trans ((if_neg (Fld.ne_of_unit hu)).trans (State.reg_notify _ _ hf)))
theorem State.reg_cancelSlots {q : Slot → Bool} {cause rule : Nat} (hf : f.plain = true) (hu : f.unit ≠ .fold) :
    (s.cancelSlots q cause rule).reg f = s.reg f := by
  refine (State.reg_lowWater hf).trans ((State.reg_cancelNote hf hu).trans ?_)
  refine (State.foldl_keep (·.reg f) (fun t x => ?_) _ _).trans rfl
  dsimp only
  split
  · rfl
  · exact (State.reg_cause_plain _ _ hf).trans (State.reg_cancelNote hf hu)
/-- Where a change of mode begins, CHANGING is set; the slots cancelled touch no other field of a channel (R61, R63). -/
theorem State.reg_modeBegin (hf : f.plain = true) (hu : f.unit = .ch d) :
    (s.modeBegin c).reg f = if F.CH_MODE_STATUS_CHANGING c = f then 1 else s.reg f := by
  rw [State.modeBegin, State.reg_cancelSlots hf (by simp [hu]), State.reg_setReg, Nat.mod_eq_of_lt (by decide : 1 < 2 ^ 1)]
theorem State.reg_servedUpdate {g : Grp} (h : ∀ d, F.CH_MODE_STATUS_SERVED d ≠ f) : (s.servedUpdate g).reg f = s.reg f :=
  State.foldl_keep (·.reg f) (fun _ d => (State.reg_setReg ..).trans (if_neg (h d))) _ _

/-- A change of a channel's MODE to m with SUPPLY p stands in the image and is in progress, and no slot of the Fold is the channel's
(R61, R63). -/
structure State.ModeBegun (s : State) (c : Ch) (m p : Nat) : Prop where
  mode : s.imgMode c = m
  supply : s.reg (F.CH_MODE_SUPPLY c) = p
  changing : s.reg (F.CH_MODE_STATUS_CHANGING c) = 1
  slots : ∀ y ∈ s.fold.slots, slotOf c y = false

theorem State.modeBegun_of (hm : s.imgMode c = m) (hp : s.reg (F.CH_MODE_SUPPLY c) = p) : (s.modeBegin c).ModeBegun c m p where
  mode := (State.reg_modeBegin rfl rfl).trans ((if_neg (by simp)).trans hm)
  supply := (State.reg_modeBegin rfl rfl).trans ((if_neg (by simp)).trans hp)
  changing := (State.reg_modeBegin rfl rfl).trans (if_pos rfl)
  slots y hy := by
    rw [State.modeBegin, State.cancelSlots_slots] at hy
    simpa using (List.mem_filter.mp hy).2
namespace State.ModeBegun
variable (h : s.ModeBegun c m p)
include h

theorem congr (hreg : ∀ f, f.unit = .ch c → t.reg f = s.reg f) (hfold : t.fold = s.fold) : t.ModeBegun c m p :=
  ⟨(hreg _ rfl).trans h.mode, (hreg _ rfl).trans h.supply, (hreg _ rfl).trans h.changing, hfold ▸ h.slots⟩
theorem sendWord (u : U) (off : Nat) : (s.sendWord u off).2.ModeBegun c m p :=
  h.congr (fun _ hf => State.reg_sendWord fun _ e => by simp [← e] at hf) (by simp)
theorem portLeaves (d : Ch) : (s.portLeaves d).ModeBegun c m p :=
  h.congr (fun _ _ => by simp [State.reg]) (by simp)
/-- The change begins on the other channel of a pair as well (R62). -/
theorem modeBegin (d : Ch) : (s.modeBegin d).ModeBegun c m p where
  mode := (State.reg_modeBegin rfl rfl).trans ((if_neg (by simp)).trans h.mode)
  supply := (State.reg_modeBegin rfl rfl).trans ((if_neg (by simp)).trans h.supply)
  changing := by
    rw [State.reg_modeBegin rfl rfl, h.changing, ite_self]
  slots y hy := by
    rw [State.modeBegin, State.cancelSlots_slots] at hy
    exact h.slots y (List.mem_filter.mp hy).1
end State.ModeBegun

/-- A pair begins and ends on its even channel: its odd one is refused (Table 3.3, codes 4 and 5). -/
theorem State.refusal_even (h : s.refusal c m p = 0) (hpair : m = 2 ∨ s.imgMode c = 2) : c.val % 2 = 0 := by
  unfold State.refusal at h
  dsimp only at h
  by_contra hodd
  have hodd : c.val % 2 = 1 := by omega
  obtain rfl | hold := hpair
  · simp only [hodd, true_and, true_or, if_true] at h
    (repeat' split at h) <;> cases h
  · simp only [State.isMember, hodd, hold, beq_self_eq_true, Bool.and_self, if_true] at h
    (repeat' split at h) <;> cases h
theorem State.refusal_lt (s : State) (c : Ch) (m p : Nat) : s.refusal c m p < 16 := by
  unfold State.refusal
  dsimp only
  (repeat' split) <;> omega
theorem chSucc_ne (h : c.val % 2 = 0) : chSucc c ≠ c := by
  revert c
  decide
/-- The image takes the mode and the supply written; where a pair is involved its other channel is another one. -/
theorem modeImage_get {st : Store} (hm : m < 16) (hp : p < 4) (hpair : m = 2 ∨ st.get (F.CH_MODE_MODE c) = 2 → chSucc c ≠ c) :
    (modeImage st c m p).get (F.CH_MODE_MODE c) = m ∧ (modeImage st c m p).get (F.CH_MODE_SUPPLY c) = p := by
  unfold modeImage
  dsimp only
  split
  · next h => simp [hpair (.inl h.1), hm, hp]
  split
  · next h => simp [hpair (.inr h.1), hm, hp]
  · simp [hm, hp]
/-- Where a mode is taken into the image, the governor's update and SERVED touch no other field of a channel (R27, R61). -/
theorem State.reg_modeTaken {st : Store} {g : Grp} (hu : f.unit = .ch d) (hs : ∀ d, F.CH_MODE_STATUS_SERVED d ≠ f) :
    ((({ s with regs := st } : State).govUpdate).servedUpdate g).reg f = st.get f :=
  (State.reg_servedUpdate hs).trans (State.reg_govUpdate (by rintro rfl; cases hu) (by rintro rfl; cases hu))
theorem State.modeTaken_begins {st : Store} {g : Grp} (hm : st.get (F.CH_MODE_MODE c) = m) (hp : st.get (F.CH_MODE_SUPPLY c) = p) :
    (((({ s with regs := st } : State).govUpdate).servedUpdate g).modeBegin c).ModeBegun c m p :=
  State.modeBegun_of ((State.reg_modeTaken rfl (by simp)).trans hm) ((State.reg_modeTaken rfl (by simp)).trans hp)
/-- A change of MODE that nothing refuses begins (R57, R61). -/
theorem State.modeWrite_begins (hne : m ≠ s.imgMode c) (href : s.refusal c m p = 0) (hgov : s.govRefuses (modeImage s.regs c m p) = false)
    (hm : m < 16) (hp : p < 4) : (s.modeWrite rq c m p).1.ModeBegun c m p := by
  obtain ⟨hmode, hsupply⟩ := modeImage_get (st := s.regs) hm hp fun h => chSucc_ne (State.refusal_even href h)
  have hbegun := State.modeTaken_begins (s := s) (g := grpOf c) hmode hsupply
  unfold State.modeWrite
  dsimp only
  rw [if_neg fun h => hne h.1, if_neg (by simp [href]), if_neg (by simp [hgov]), if_neg hne]
  generalize ({ s with regs := modeImage s.regs c m p } : State).govUpdate.servedUpdate (grpOf c) = t at hbegun ⊢
  cases m == 2 || s.imgMode c == 2 with
  | true =>
    simp only [if_true]
    exact ((hbegun.modeBegin _).sendWord _ _).sendWord _ _
  | false =>
    simp only [Bool.false_eq_true, if_false]
    exact hbegun.sendWord _ _
/-- A refusal is shown with its code and the mode asked for, and changes neither the mode nor what goes to the groups (R58). -/
theorem State.modeRefuse_shows {code : Nat} (hcode : code < 16) (hm : m < 16) :
    (s.modeRefuse c code m).reg (F.CH_REFUSE_CODE c) = code ∧ (s.modeRefuse c code m).reg (F.CH_REFUSE_REQ_MODE c) = m ∧
      (s.modeRefuse c code m).imgMode c = s.imgMode c ∧ (s.modeRefuse c code m).links = s.links := by
  have hkept {f : Fld} (hf : f.plain = true) (ht : F.CH_REFUSE_TALLY c ≠ f) :
      (s.modeRefuse c code m).reg f = ((s.setReg (F.CH_REFUSE_CODE c) code).setReg (F.CH_REFUSE_REQ_MODE c) m).reg f :=
    (State.reg_cause_plain _ _ hf).trans ((State.reg_tally ..).trans (if_neg ht))
  refine ⟨(hkept rfl (by simp)).trans ?_, (hkept rfl (by simp)).trans ?_, State.reg_modeRefuse rfl (by simp), by simp⟩
  · simp [Nat.mod_eq_of_lt hcode]
  · simp [Nat.mod_eq_of_lt hm]
/-- A full write of CH_MODE is the change of mode it asks for; a port that changes leaves its device beside (R57, R270). -/
theorem State.writeWord_mode_or {v : Nat} (hrq : rq ≠ .fw) (hv : v < 2 ^ 32) :
    (s.writeWord rq (U.at (.ch c) 0x20) 15 v).1 = (s.modeWrite rq c (v % 16) (v / 16 % 4)).1 ∨
      (s.writeWord rq (U.at (.ch c) 0x20) 15 v).1 = (s.modeWrite rq c (v % 16) (v / 16 % 4)).1.portLeaves c := by
  simp only [State.writeWord, (spotAt_ch c).1, State.unitWrite, hrq]
  simp only [linkUnit, writePairs, State.oneWrite, State.wordHeld, State.wordOwn, merge_full _ hv]
  by_cases h : s.imgMode c = 8 <;> simp [h]
  split <;> simp
/-- What a full write of CH_MODE does (R57 to R63): a write of the mode that stands changes nothing, a change is refused with its code, or
it begins. -/
theorem exec_chModeWrite {v : Word} (hrq : rq ≠ .fw) (hs : s.serves rq (U.at (.ch c) 0x20)) :
    (v.toNat % 16 = s.imgMode c → v.toNat / 16 % 4 = s.reg (F.CH_MODE_SUPPLY c) → exec (.chModeWrite rq c 15 v) s = .next s) ∧
      (¬(v.toNat % 16 = s.imgMode c ∧ v.toNat / 16 % 4 = s.reg (F.CH_MODE_SUPPLY c)) →
        s.refusal c (v.toNat % 16) (v.toNat / 16 % 4) ≠ 0 →
          exec (.chModeWrite rq c 15 v) s = .next (s.modeRefuse c (s.refusal c (v.toNat % 16) (v.toNat / 16 % 4)) (v.toNat % 16))) ∧
      (v.toNat % 16 ≠ s.imgMode c → s.refusal c (v.toNat % 16) (v.toNat / 16 % 4) = 0 →
        s.govRefuses (modeImage s.regs c (v.toNat % 16) (v.toNat / 16 % 4)) = false →
          ∃ t, exec (.chModeWrite rq c 15 v) s = .next t ∧ t.ModeBegun c (v.toNat % 16) (v.toNat / 16 % 4)) := by
  have hexec : exec (.chModeWrite rq c 15 v) s = .next (s.writeWord rq (U.at (.ch c) 0x20) 15 v.toNat).1 :=
    (writeCmd_serves hs (by simp [enables_full])).trans (by rw [enables_full])
  rw [hexec]
  refine ⟨fun hmode hsupply => ?_, fun hchange href => ?_, fun hne href hgov => ⟨_, rfl, ?_⟩⟩
  · have hsame : s.modeWrite rq c (v.toNat % 16) (v.toNat / 16 % 4) = (s, .ok) := if_pos ⟨hmode, hsupply⟩
    rw [State.writeWord_mode hrq v.isLt (by simp [hsame]), hsame]
  · have hrefused : s.modeWrite rq c (v.toNat % 16) (v.toNat / 16 % 4) =
        (s.modeRefuse c (s.refusal c (v.toNat % 16) (v.toNat / 16 % 4)) (v.toNat % 16),
          .modeRefused (s.refusal c (v.toNat % 16) (v.toNat / 16 % 4)) (v.toNat % 16)) := (if_neg hchange).trans (if_pos href)
    rw [State.writeWord_mode hrq v.isLt (by simp [hrefused]), hrefused]
  · have hbegins := State.modeWrite_begins (rq := rq) hne href hgov (Nat.mod_lt _ (by decide)) (Nat.mod_lt _ (by decide))
    obtain h | h := State.writeWord_mode_or (s := s) (c := c) hrq v.isLt
    · exact h ▸ hbegins
    · exact h ▸ hbegins.portLeaves c
end
end Sys2Proof.Machine

/-! ### A channel's word stored, and what it does beside (R15, R37) -/

namespace Sys2Proof.Machine

/-- The state in which a word has been stored by its access codes and has not acted yet. -/
def State.stored (s : State) (rq : Req) (u : U) (off v : Nat) : State :=
  { s.noteWord u off 15 with regs := s.rowsWrite rq u off 15 v }
/-- The words of a channel that are stored by their access codes and then act (`State.chDone`). -/
def actingWords : List Nat := [0x28, 0x40, 0x6C, 0x80, 0xA0, 0xD8, 0xDC, 0xE8, 0xEC]

section
variable {s t : State} {rq : Req} {u : U} {c : Ch} {off v x : Nat} {be : Fin 16} {r : Row} {f : Fld}

theorem beMask_full : beMask 15 = 2 ^ 32 - 1 := rfl
theorem State.stored_frame : (s.stored rq u off v).chans = s.chans ∧ (s.stored rq u off v).links = s.links := by
  simp [State.stored]
theorem State.reg_stored_off (h : f.off ≠ off) : (s.stored rq u off v).reg f = s.reg f := State.rowsWrite_off h
/-- A full write gives a field that may be written the bits written, an RWL field while its unit is not locked (R37, R39). -/
theorem State.reg_stored (hrq : rq ≠ .fw) (hv : v < 2 ^ 32) (hr : r ∈ rowsAt u off) (hacc : r.acc = .rw ∨ r.acc = .rwl)
    (hlock : r.acc = .rwl → s.unitLocked u = false) (has : r.asWritten u) :
    (s.stored rq u off v).reg (r.fld u) = v / 2 ^ r.lo % 2 ^ r.w := by
  have hcov := Row.covered_full (Row.mem_rowsAt.mp hr).1
  obtain hacc | hacc := hacc
  · exact State.rowsWrite_full hrq hr hacc has hv
  · refine (State.rowsWrite_get hr).trans ?_
    simp [State.rowWrite, hrq, hacc, hcov, hlock hacc, merge_full _ hv, has _ _]
/-- A field that only the hardware changes stands as it stood (R37). -/
theorem State.reg_stored_ro (hrq : rq ≠ .fw) (hr : r ∈ rowsAt u off) (hacc : r.acc = .ro) :
    (s.stored rq u off v).reg (r.fld u) = s.reg (r.fld u) % 2 ^ r.w := by
  refine (State.rowsWrite_get hr).trans ?_
  simp [State.rowWrite, hrq, hacc]
theorem Row.asWritten_ch (hr : r ∈ rowsAt (.ch c) off) (hcount : off ≠ 0xA4) (hlock : off ≠ 0x2C) : r.asWritten (.ch c) := by
  have hoff := (Row.mem_rowsAt.mp hr).2
  refine Row.asWritten_of nofun (fun d e => hcount ?_) fun e => hlock ?_
  · exact hoff.symm.trans (congrArg Fld.off e)
  · exact hoff.symm.trans (congrArg Fld.off (Option.some.inj e)).symm

/-- A word of which nothing is held and no written field is locked is stored by its access codes, and then does what it does beside. -/
theorem State.oneWrite_open {addr : Nat} (hrq : rq ≠ .fw) (hheld : s.wordHeld u off (merge 15 (s.unitWord u off) v) = none)
    (hown : s.wordOwn rq u off 15 v = none) (hlock : ∀ r ∈ rowsAt u off, r.acc = .rwl → s.unitLocked u = false)
    (hro : ∃ r ∈ rowsAt u off, r.acc ≠ .ro) (hlimit : ∀ d, u = .ch d → off ≠ 0x48) :
    (s.oneWrite rq u off addr 15 v).1 = ((s.stored rq u off v).wordDone s rq u off 15 (v &&& beMask 15)).1 := by
  have hho : ((rowsAt u off).any fun r => (s.rowWrite rq u r 15 v).2.2) = false :=
    List.any_eq_false.mpr fun r hr => by simp [State.rowWrite_notHo hrq]
  have hopen (r : Row) (hr : r ∈ rowsAt u off) : (s.rowWrite rq u r 15 v).2.1 = false := by
    by_cases hacc : r.acc = .rwl
    · simp only [State.rowWrite, hrq, false_and, if_false, hacc, hlock r hr hacc, Bool.false_eq_true]
      split <;> rfl
    · exact State.rowWrite_notLocked hacc
  have hlocked : ((rowsAt u off).any fun r => (s.rowWrite rq u r 15 v).2.1) = false :=
    List.any_eq_false.mpr fun r hr => by simp [hopen r hr]
  have hall : ((rowsAt u off).all fun r => r.acc == .ro) = false := by simpa using hro
  simp only [State.oneWrite, hheld, hown, hho, hlocked, hall, Bool.or_self, Bool.false_and, Bool.false_eq_true, if_false]
  split
  · next d =>
    rw [if_neg (by simp [hlimit d rfl])]
    rfl
  · rfl

theorem actingWords_spot (ho : off ∈ actingWords) (c : Ch) : spotAt (U.at (.ch c) off / 4 * 4) = .word (.ch c) off := by
  simp only [actingWords, List.mem_cons, List.not_mem_nil, or_false] at ho
  obtain rfl | rfl | rfl | rfl | rfl | rfl | rfl | rfl | rfl := ho <;> revert c <;> decide
/-- Each of these words has a field that is written, and only CH_PERMIT and AN_CLAMP have locked ones (Tables 3.9, 8.10). -/
theorem actingWords_rows (ho : off ∈ actingWords) (c : Ch) : (∃ r ∈ rowsAt (.ch c) off, r.acc ≠ .ro) ∧
    ∀ r ∈ rowsAt (.ch c) off, r.acc = .rwl → off = 0x28 ∨ off = 0xDC := by
  have h : (((rowsAt (.ch c) off).any fun r => r.acc != .ro) &&
      (rowsAt (.ch c) off).all fun r => r.acc != .rwl || off == 0x28 || off == 0xDC) = true := by
    simp only [actingWords, List.mem_cons, List.not_mem_nil, or_false] at ho
    obtain rfl | rfl | rfl | rfl | rfl | rfl | rfl | rfl | rfl := ho <;> rfl
  obtain ⟨hro, hrwl⟩ := (Bool.and_eq_true _ _).mp h
  refine ⟨by simpa using hro, fun r hr hacc => ?_⟩
  simpa [hacc] using List.all_eq_true.mp hrwl r hr
theorem State.wordHeld_ch {n : Nat} (h : off = 0x40 ∨ off = 0x6C → s.isMember c = false) (ho : off ∈ actingWords) :
    s.wordHeld (.ch c) off n = none := by
  simp only [actingWords, List.mem_cons, List.not_mem_nil, or_false] at ho
  refine if_neg fun hheld => ?_
  obtain ⟨hlo, hhi, hmember⟩ := hheld
  rw [h (by omega)] at hmember
  cases hmember
/-- A full write of such a word: it is stored, and acts (R37, R39, R55). -/
theorem State.writeWord_acts (hrq : rq ≠ .fw) (hv : v < 2 ^ 32) (ho : off ∈ actingWords) (hheld : off = 0x40 ∨ off = 0x6C → s.isMember c = false)
    (hlock : off = 0x28 ∨ off = 0xDC → s.on (F.CH_LOCK c) = false) :
    (s.writeWord rq (U.at (.ch c) off) 15 v).1 = ((s.stored rq (.ch c) off v).chDone s rq c off 15 v).1 := by
  obtain ⟨hro, hrwl⟩ := actingWords_rows ho c
  have hmask : v &&& beMask 15 = v := (Nat.and_two_pow_sub_one_eq_mod v 32).trans (Nat.mod_eq_of_lt hv)
  rw [State.writeWord_one hrq (actingWords_spot ho c) (.inl rfl) List.not_mem_nil fun _ => List.not_mem_nil]
  have hne : off ≠ 0x20 ∧ off ≠ 0x48 ∧ off ≠ 0xC0 ∧ off ≠ 0x10 ∧ off ≠ 0x14 := by
    simp only [actingWords, List.mem_cons, List.not_mem_nil, or_false] at ho
    omega
  obtain ⟨hmode, hlimit, htally, hcause, henable⟩ := hne
  have hbased : s.based (.ch c) off = s := if_neg htally
  have hopen : ∀ r ∈ rowsAt (.ch c) off, r.acc = .rwl → s.unitLocked (.ch c) = false := fun r hr hacc => hlock (hrwl r hr hacc)
  rw [hbased, State.oneWrite_open hrq (State.wordHeld_ch hheld ho) (if_neg hmode) hopen hro fun _ _ => hlimit, hmask]
  simp [State.wordDone, hcause, henable, htally]
theorem writeCmd_acts {v : Word} (hrq : rq ≠ .fw) (hs : s.serves rq (U.at (.ch c) off)) (ho : off ∈ actingWords)
    (hheld : off = 0x40 ∨ off = 0x6C → s.isMember c = false) (hlock : off = 0x28 ∨ off = 0xDC → s.on (F.CH_LOCK c) = false) :
    writeCmd rq (U.at (.ch c) off) 15 v.toNat s = .next ((s.stored rq (.ch c) off v.toNat).chDone s rq c off 15 v.toNat).1 := by
  rw [writeCmd_serves hs (by simp [enables_full]), enables_full, State.writeWord_acts hrq v.isLt ho hheld hlock]

/-! Words that go to the group die -/

/-- A WRITE of a word of a channel is queued for the channel's group. -/
def State.queued (s : State) (c : Ch) (off data : Nat) : Prop :=
  ∃ y ∈ (s.link (grpOf c)).write, y.cmd = .write (inGroup (.ch c) off / 4) data

/-- A write to the image of a group that is present is queued for it (R15). -/
theorem State.imageWrite_queued {g : Grp} {o data : Nat} (h : s.absent g = false) :
    ∃ y ∈ ((s.imageWrite g o data).2.link g).write, y.cmd = .write (o / 4) data := by
  refine ⟨{ cmd := .write (o / 4) data, tag := .image (s.link g).wid o }, ?_, rfl⟩
  simp [State.imageWrite, h, Link.enqWrite]
theorem wordOf_congr {st st' : Store} (h : ∀ f, f.unit = u → f.off = off → st'.get f = st.get f) : wordOf st' u off = wordOf st u off := by
  have hget (lo w d : Nat) : st'.get ⟨u, off, lo, w, d⟩ = st.get ⟨u, off, lo, w, d⟩ := h _ rfl rfl
  simp only [wordOf, hget]
theorem State.absent_congr {g : Grp} (h : t.reg (F.GRP_STATUS_STATE g) = s.reg (F.GRP_STATUS_STATE g)) : t.absent g = s.absent g :=
  congrArg absentState h

/-- The word of a channel goes to its group as it stands in t, which has it as s has it. -/
structure State.Sends (t s : State) (c : Ch) (off : Nat) : Prop where
  queued : t.queued c off (wordOf t.regs (.ch c) off)
  reg : ∀ f, f.unit = .ch c → f.off = off → t.reg f = s.reg f

theorem State.Sends.congr {t' s' : State} (h : t.Sends s c off) (hlink : t'.links = t.links)
    (hreg : ∀ f, f.unit = .ch c → f.off = off → t'.reg f = t.reg f) (hreg' : ∀ f, f.unit = .ch c → f.off = off → s.reg f = s'.reg f) :
    t'.Sends s' c off where
  queued := by
    have hqueued := h.queued
    rw [State.queued, State.link, ← hlink, ← wordOf_congr (st' := t'.regs) hreg] at hqueued
    exact hqueued
  reg f hu ho := (hreg f hu ho).trans ((h.reg f hu ho).trans (hreg' f hu ho))
theorem State.imageSent_sends (h : s.absent (grpOf c) = false) (ho : inGroup (.ch c) off ∈ imageOffs) :
    (s.imageSent (.ch c) off).1.Sends s c off := by
  have hreg (f : Fld) (hu : f.unit = .ch c) : (s.imageSent (.ch c) off).1.reg f = s.reg f :=
    State.reg_imageSent fun g e => by simp [← e] at hu
  refine ⟨?_, fun f hu _ => hreg f hu⟩
  have hsent : (s.imageSent (.ch c) off).1 = (s.imageWrite (grpOf c) (inGroup (.ch c) off) (wordOf s.regs (.ch c) off)).2 := by
    simp [State.imageSent, U.grpOf, ho, State.sendWord]
  rw [wordOf_congr fun f hu _ => hreg f hu, hsent]
  exact State.imageWrite_queued h

/-- The words of a channel's image that these commands write. -/
def sentWords : List Nat := [0x28, 0x40, 0x80, 0xD8, 0xDC]
theorem sentWords_image (ho : off ∈ sentWords) (c : Ch) : inGroup (.ch c) off ∈ imageOffs := by
  simp only [sentWords, List.mem_cons, List.not_mem_nil, or_false] at ho
  obtain rfl | rfl | rfl | rfl | rfl := ho <;> revert c <;> decide
theorem sentWords_act : ∀ off ∈ sentWords, off ∈ actingWords ∧ off ≠ 0xA4 ∧ off ≠ 0x2C ∧ 0x20 ≠ off := by
  decide
/-- The host's command of a supplier changes the ports that it feeds, and no field but IRQ_CAUSE and IOL_CTRL (R257). -/
theorem State.reg_supplierWritten (hf : f.plain = true) (ho : f.off ≠ 0xE8) : (s.supplierWritten c).reg f = s.reg f := by
  refine State.foldl_keep (·.reg f) (fun s d => ?_) _ _
  split
  · exact State.reg_portCheck hf fun _ _ => ho
  · rfl

/-! What each of these words does beside being stored (R57 to R70, R94, R129, R142, R177, R257, R266) -/

section
variable {s0 : State}

theorem State.chDone_permit : (s.chDone s0 rq c 0x28 be x).1 = (s.imageSent (.ch c) 0x28).1.portChecks (grpOf c) := by
  simp [State.chDone]
theorem State.chDone_cmd (hrq : rq ≠ .fw) :
    (s.chDone s0 rq c 0x40 be x).1 = (((s.setReg (F.TO_CFG_PWM_RUN c) 0).supplierWritten c).imageSent (.ch c) 0x40).1 := by
  simp [State.chDone, hrq]
theorem State.chDone_run : (s.chDone s0 rq c 0x80 be x).1 = ((if s0.on (F.TO_CFG_PWM_RUN c) = s.on (F.TO_CFG_PWM_RUN c) then s
    else s.setReg (F.OUT_CMD_ON c) (b2n (s.on (F.TO_CFG_PWM_RUN c)))).imageSent (.ch c) 0x80).1 := by
  simp [State.chDone]
theorem State.chDone_analog (h : off = 0xD8 ∨ off = 0xDC) : (s.chDone s0 rq c off be x).1 = (s.imageSent (.ch c) off).1 := by
  obtain rfl | rfl := h <;> simp [State.chDone]
theorem State.chDone_clear : (s.chDone s0 rq c 0x6C be x).1 = (s.bitsSent (grpOf c) (inGroup (.ch c) 0x6C) (x % 8)).1 := by
  simp [State.chDone]
theorem State.chDone_stroke : (s.chDone s0 rq c 0xA0 be x).1 = if bit x 29 then s.setReg (F.SK_BASE_COUNT c) 0 else s := by
  simp [State.chDone]
theorem State.chDone_port : (s.chDone s0 rq c 0xE8 15 x).1 = s.iolCtrlWritten c true (bit x 28) := by
  simp [State.chDone, beMask_full]
theorem State.chDone_output : (s.chDone s0 rq c 0xEC be x).1 = s.pdOutWritten c := by
  simp [State.chDone]
end

/-- What such a word does beside being stored sends it, and leaves it as it stands. -/
theorem State.chDone_sends {s0 : State} (hrq : rq ≠ .fw) (ho : off ∈ sentWords) (h : s.absent (grpOf c) = false) :
    (s.chDone s0 rq c off be x).1.Sends s c off := by
  have himage := sentWords_image ho c
  have hplain {f : Fld} (hu : f.unit = .ch c) (hf : f.off ≠ 0x10) : f.plain = true :=
    Fld.plain_iff.mpr ⟨hf, fun e => by simp [e] at hu, fun e => by simp [e] at hu, fun e => by simp [e] at hu⟩
  simp only [sentWords, List.mem_cons, List.not_mem_nil, or_false] at ho
  obtain rfl | rfl | rfl | rfl | rfl := ho
  · rw [State.chDone_permit]
    refine (State.imageSent_sends h himage).congr (by simp) (fun f hu hoff => ?_) fun _ _ _ => rfl
    exact State.reg_portChecks (hplain hu (by omega)) fun _ _ => by omega
  · have hkept {f : Fld} (hf : f.plain = true) (hrun : F.TO_CFG_PWM_RUN c ≠ f) (hport : f.off ≠ 0xE8) :
        ((s.setReg (F.TO_CFG_PWM_RUN c) 0).supplierWritten c).reg f = s.reg f :=
      (State.reg_supplierWritten hf hport).trans ((State.reg_setReg ..).trans (if_neg hrun))
    have habsent := State.absent_congr (hkept (f := F.GRP_STATUS_STATE (grpOf c)) rfl nofun (by simp))
    rw [State.chDone_cmd hrq]
    refine (State.imageSent_sends (habsent.trans h) himage).congr rfl (fun _ _ _ => rfl) fun f hu hoff => ?_
    exact hkept (hplain hu (by omega)) (by rintro rfl; cases hoff) (by omega)
  · rw [State.chDone_run]
    split
    · exact State.imageSent_sends h himage
    · refine (State.imageSent_sends ?_ himage).congr rfl (fun _ _ _ => rfl) fun f hu hoff => ?_
      · exact (State.absent_congr ((State.reg_setReg ..).trans (if_neg nofun))).trans h
      · exact (State.reg_setReg ..).trans (if_neg (by rintro rfl; cases hoff))
  · rw [State.chDone_analog (.inl rfl)]
    exact State.imageSent_sends h himage
  · rw [State.chDone_analog (.inr rfl)]
    exact State.imageSent_sends h himage
/-- The words of a channel's image: a full write of one of them, not locked, takes the bits written and sends it to a group that is
present (R15, R37). -/
theorem writeCmd_sends {v : Word} (hrq : rq ≠ .fw) (ho : off ∈ sentWords) (hs : s.serves rq (U.at (.ch c) off)) (hlock : s.on (F.CH_LOCK c) = false)
    (hmember : s.isMember c = false) (h : s.absent (grpOf c) = false) :
    ∃ t, writeCmd rq (U.at (.ch c) off) 15 v.toNat s = .next t ∧ t.queued c off (wordOf t.regs (.ch c) off) ∧
      ∀ y ∈ rowsAt (.ch c) off, y.acc = .rw ∨ y.acc = .rwl → t.reg (y.fld (.ch c)) = v.toNat / 2 ^ y.lo % 2 ^ y.w := by
  obtain ⟨hacts, hcount, hown, hstatus⟩ := sentWords_act off ho
  have habsent : (s.stored rq (.ch c) off v.toNat).absent (grpOf c) = false :=
    (State.absent_congr (State.reg_stored_off hstatus)).trans h
  have hsends := State.chDone_sends (s0 := s) (be := 15) (x := v.toNat) hrq ho habsent
  refine ⟨_, writeCmd_acts hrq hs hacts (fun _ => hmember) (fun _ => hlock), hsends.queued, fun y hy hacc => ?_⟩
  refine (hsends.reg _ rfl (Row.mem_rowsAt.mp hy).2).trans ?_
  exact State.reg_stored hrq v.isLt hy hacc (fun _ => hlock) (Row.asWritten_ch hy hcount hown)

/-- The bits of OUT_CLEAR go to a group that is present as they are written (R95). -/
theorem writeCmd_clears {v : Word} (hrq : rq ≠ .fw) (hs : s.serves rq (U.at (.ch c) 0x6C)) (hmember : s.isMember c = false)
    (h : s.absent (grpOf c) = false) (hv : v.toNat % 8 ≠ 0) :
    ∃ t, writeCmd rq (U.at (.ch c) 0x6C) 15 v.toNat s = .next t ∧ t.queued c 0x6C (v.toNat % 8) := by
  have habsent : (s.stored rq (.ch c) 0x6C v.toNat).absent (grpOf c) = false :=
    (State.absent_congr (State.reg_stored_off (by simp))).trans h
  refine ⟨_, writeCmd_acts hrq hs (by decide) (fun _ => hmember) (by simp), ?_⟩
  obtain ⟨y, hy, hcmd⟩ := State.imageWrite_queued habsent (o := inGroup (.ch c) 0x6C) (data := v.toNat % 8)
  refine ⟨y, ?_, hcmd⟩
  rw [State.chDone_clear, State.bitsSent, if_neg hv]
  simpa using hy
/-- RELEARN clears the learned count (R142). -/
theorem exec_relearn {v : Word} (hrq : rq ≠ .fw) (hs : s.serves rq (U.at (.ch c) 0xA0)) (hv : v.toNat / 2 ^ 29 % 2 = 1) :
    ∃ t, exec (.relearn rq c 15 v) s = .next t ∧ t.reg (F.SK_BASE_COUNT c) = 0 := by
  refine ⟨_, writeCmd_acts hrq hs (by decide) (by simp) (by simp), ?_⟩
  have hbit : bit v.toNat 29 = true := (Nat.testBit_eq_decide_div_mod_eq ..).trans (decide_eq_true hv)
  rw [State.chDone_stroke, if_pos hbit]
  simp
end
end Sys2Proof.Machine

/-! ### IOL_CTRL and IOL_PD (R257 to R266) -/

namespace Sys2Proof.Machine

section
variable {s t : State} {rq : Req} {c : Ch} {f : Fld}

/-! The state of a port -/

theorem State.ch_of_chans (h : t.chans = s.chans) : t.ch c = s.ch c := congrArg (·[c.val]) h

/-- A change of a port's state leaves every field but COM and PD_VALID as if STATE and REASON alone were set (R259). -/
theorem State.reg_portSet_entered (hf : f.plain = true) (hcom : F.IOL_CTRL_COM c ≠ f) (hvalid : F.IOL_CTRL_PD_VALID c ≠ f) (st rs : Nat) :
    (s.portSet c st rs).reg f = if s.portState c = st ∧ s.reg (F.IOL_CTRL_REASON c) = rs then s.reg f
      else ((s.setReg (F.IOL_CTRL_STATE c) st).setReg (F.IOL_CTRL_REASON c) rs).reg f := by
  have hcall (t : State) : (t.updCh c fun k => { k with valid := false, qual := false, comp := false }).reg f = t.reg f := rfl
  have hset (t : State) {k : Fld} (hk : k ≠ f) : (t.setReg k 0).reg f = t.reg f := (State.reg_setReg ..).trans (if_neg hk)
  unfold State.portSet
  dsimp only
  split
  · rfl
  · rw [State.reg, State.putState_frame.2.1, ← State.reg, State.reg_cause_plain _ _ hf]
    simp only [apply_ite (State.reg · f), hcall, hset _ hcom, hset _ hvalid, ite_self]
theorem State.portState_portSet {st : Nat} (rs : Nat) (h : st < 16) : (s.portSet c st rs).portState c = st := by
  rw [State.portState, State.reg_portSet_entered rfl (by simp) (by simp)]
  split
  · next hsame => exact hsame.1
  · simp [Nat.mod_eq_of_lt h]
theorem State.started_portSet (st rs : Nat) : (s.portSet c st rs).reg (F.IOL_CTRL_START c) = s.reg (F.IOL_CTRL_START c) := by
  rw [State.reg_portSet_entered rfl (by simp) (by simp)]
  simp
theorem State.portSet_ref (st rs : Nat) : ((s.portSet c st rs).ch c).port.ref = (s.ch c).port.ref := by
  have hput (t : State) (e : OutEntry) : ((t.putState c e).ch c).port.ref = (t.ch c).port.ref := by
    unfold State.putState
    dsimp only
    split
    · simp [State.ch_of_chans State.ringOut_frame.2.2.2.2.2.2.2.1]
    · simp
  have hcause (t : State) (u : U) (k : Nat) : (t.cause u k).ch c = t.ch c := State.ch_of_chans (by simp)
  unfold State.portSet
  dsimp only
  split
  · rfl
  · rw [hput, hcause]
    (repeat' split) <;> simp

/-- A port is started and is in some state but INACTIVE. -/
structure State.PortRuns (s : State) (c : Ch) : Prop where
  started : s.reg (F.IOL_CTRL_START c) = 1
  state : s.portState c ≠ 0

theorem State.portSet_runs (h : s.reg (F.IOL_CTRL_START c) = 1) {st : Nat} (hst : st ≠ 0) (hlt : st < 16) (rs : Nat) :
    (s.portSet c st rs).PortRuns c :=
  ⟨(State.started_portSet st rs).trans h, by rwa [State.portState_portSet rs hlt]⟩
theorem State.portGo_runs (h : s.reg (F.IOL_CTRL_START c) = 1) : (s.portGo c).PortRuns c := by
  unfold State.portGo
  split <;> exact State.portSet_runs h (by decide) (by decide) _
theorem State.powering_runs (h : s.reg (F.IOL_CTRL_START c) = 1) : (s.powering c).PortRuns c := by
  have hentered := State.portSet_runs h (st := 3) (by decide) (by decide) 0
  unfold State.powering
  dsimp only
  split
  · exact State.portGo_runs hentered.started
  · exact hentered
namespace State.PortRuns

theorem congr (h : s.PortRuns c) (hregs : t.regs = s.regs) : t.PortRuns c := by
  have hreg (f : Fld) : t.reg f = s.reg f := congrArg (Store.get · f) hregs
  exact ⟨(hreg _).trans h.started, fun e => h.state ((hreg _).symm.trans e)⟩
theorem portCheck (h : s.PortRuns c) : (s.portCheck c).PortRuns c := by
  unfold State.portCheck
  dsimp only
  split
  · exact h
  split
  · refine State.portSet_runs ?_ (by decide) (by decide) _
    split
    · exact h.started
    · exact (congrArg (Store.get · _) State.endIsdus_frame.2.1).trans h.started
  split
  · exact State.powering_runs h.started
  · exact h.congr rfl
theorem targetCheck (h : s.PortRuns c) : (s.targetCheck c).PortRuns c := by
  unfold State.targetCheck
  dsimp only
  split
  · split
    · exact State.powering_runs h.started
    · exact State.portGo_runs h.started
  · exact h
theorem takeDevice (h : s.PortRuns c) : (s.takeDevice c).PortRuns c := by
  unfold State.takeDevice
  split
  · refine State.portSet_runs ?_ (by decide) (by decide) _
    exact h.started
  · exact h
end State.PortRuns
theorem State.portBegin_runs (h : s.reg (F.IOL_CTRL_START c) = 1) : (s.portBegin c).PortRuns c := by
  unfold State.portBegin
  refine PortRuns.portCheck ?_
  split
  · next hstate => exact ⟨h, hstate⟩
  split
  · exact State.powering_runs h
  · exact State.portGo_runs h

/-! What a write of IOL_CTRL finds -/

/-- The port and its supply stand in t as in s, beside IOL_CTRL, commanded states and the counts of what was written to the image; only the
host's switching-off of the supplier may be over (R257, R261). -/
structure State.PortAs (t s : State) (c : Ch) : Prop where
  reg : ∀ f, f.off ≠ 0xE8 → f.off ≠ 0x40 → f.off ≠ 0x34 → t.reg f = s.reg f
  sup : (t.ch c).sup = (s.ch c).sup
  down : (t.ch c).port.down = (s.ch c).port.down
  rxOnly : (t.ch c).port.rxOnly = (s.ch c).port.rxOnly
  dev : (t.ch c).port.dev = (s.ch c).port.dev
  hostOff : (t.ch c).port.hostOff = true → (s.ch c).port.hostOff = true

namespace State.PortAs

theorem of_reg (hreg : ∀ f, f.off ≠ 0xE8 → f.off ≠ 0x40 → f.off ≠ 0x34 → t.reg f = s.reg f) (hch : t.ch c = s.ch c) : t.PortAs s c :=
  ⟨hreg, by rw [hch], by rw [hch], by rw [hch], by rw [hch], by rw [hch]; exact id⟩
theorem trans {r : State} (h : t.PortAs s c) (h' : s.PortAs r c) : t.PortAs r c :=
  ⟨fun f h1 h2 h3 => (h.reg f h1 h2 h3).trans (h'.reg f h1 h2 h3), h.sup.trans h'.sup, h.down.trans h'.down, h.rxOnly.trans h'.rxOnly,
    h.dev.trans h'.dev, h'.hostOff ∘ h.hostOff⟩
theorem fwRuns (h : t.PortAs s c) : t.fwRuns = s.fwRuns := by
  rw [State.fwRuns, h.reg _ (by simp) (by simp) (by simp), State.fwRuns]
theorem isPort (h : t.PortAs s c) : t.isPort c = s.isPort c := by
  simp only [State.isPort, State.changing, State.on, h.reg (F.CH_MODE_STATUS_ACTIVE c) (by simp) (by simp) (by simp),
    h.reg (F.CH_MODE_STATUS_CHANGING c) (by simp) (by simp) (by simp)]
/-- A port that has its supply has it still (R261). -/
theorem noSupply (h : t.PortAs s c) (hs : s.noSupply c = 0) : t.noSupply c = 0 := by
  have hreg {f : Fld} (h1 : f.off ≠ 0xE8) (h2 : f.off ≠ 0x40) (h3 : f.off ≠ 0x34) : t.regs.get f = s.regs.get f := h.reg f h1 h2 h3
  have hdown (d : Ch) : t.feedDown c d = s.feedDown c d := by
    simp [State.feedDown, State.supplierDown, State.on, State.reg, hreg, h.down]
  have hfeeder : t.feeder c = s.feeder c := by
    have himg : t.imgMode c = s.imgMode c := hreg (by simp) (by simp) (by simp)
    rw [State.feeder, himg, h.sup, State.feeder]
  have habsent : t.absent (grpOf c) = s.absent (grpOf c) := State.absent_congr (hreg (by simp) (by simp) (by simp))
  have hgroup : (t.on (F.GRP_STATUS_SAFE (grpOf c)) || t.on (F.GRP_STATUS_LIMP (grpOf c))) =
      (s.on (F.GRP_STATUS_SAFE (grpOf c)) || s.on (F.GRP_STATUS_LIMP (grpOf c))) := by simp [State.on, State.reg, hreg]
  have hpermit : t.on (F.CH_PERMIT c) = s.on (F.CH_PERMIT c) := by simp [State.on, State.reg, hreg]
  simp only [State.noSupply, hfeeder, hdown, habsent, hgroup, hpermit, h.rxOnly] at hs ⊢
  cases hfed : s.feeder c with
  | none => simpa only [hfed] using hs
  | some d =>
    simp only [hfed] at hs ⊢
    by_cases hoff : (s.ch c).port.hostOff = true
    · rw [hoff, if_pos rfl] at hs
      (repeat' split at hs) <;> cases hs
    · have hoff' : (t.ch c).port.hostOff = false := Bool.eq_false_iff.mpr (hoff ∘ h.hostOff)
      simpa [hoff, hoff'] using hs
theorem updPort {k : Port → Port}
    (hk : ∀ p, (k p).down = p.down ∧ (k p).rxOnly = p.rxOnly ∧ (k p).dev = p.dev ∧ ((k p).hostOff = true → p.hostOff = true)) :
    (s.updPort c k).PortAs s c := by
  obtain ⟨hdown, hrx, hdev, hoff⟩ := hk (s.ch c).port
  exact ⟨fun _ _ _ _ => rfl, by simp, by simpa using hdown, by simpa using hrx, by simpa using hdev, by simpa using hoff⟩
theorem stored {v : Nat} : (s.stored rq (.ch c) 0xE8 v).PortAs s c :=
  of_reg (fun _ h _ _ => State.reg_stored_off h) (State.ch_of_chans State.stored_frame.1)
/-- A word sent changes of a channel only what tells whose AN_DAC is the newer (R181). -/
theorem imageWrite {g : Grp} {o data : Nat} : (s.imageWrite g o data).2.PortAs s c := by
  have hreg (f : Fld) (hf : f.off ≠ 0x34) : (s.imageWrite g o data).2.reg f = s.reg f := State.reg_imageWrite fun e => hf (e ▸ rfl)
  obtain ⟨hsup, hport⟩ : ((s.imageWrite g o data).2.ch c).sup = (s.ch c).sup ∧ ((s.imageWrite g o data).2.ch c).port = (s.ch c).port := by
    unfold State.imageWrite
    dsimp only
    (repeat' split) <;> simp [State.wrapTally]
    all_goals split <;> simp
  exact ⟨fun f _ _ hf => hreg f hf, hsup, by rw [hport], by rw [hport], by rw [hport], by rw [hport]; exact id⟩
theorem supplierCmd {on : Bool} : (s.supplierCmd c on).PortAs s c := by
  unfold State.supplierCmd
  split
  · exact of_reg (fun _ _ _ _ => rfl) rfl
  · exact imageWrite.trans (of_reg (fun _ _ hf _ => (State.reg_setReg ..).trans (if_neg fun e => hf (congrArg Fld.off e).symm)) rfl)
theorem supplierOn : (s.supplierOn c).PortAs s c :=
  supplierCmd.trans (updPort fun _ => ⟨rfl, rfl, rfl, nofun⟩)
end State.PortAs

/-! A write of IOL_CTRL -/

/-- A written START begins the port where it stands, with its supplier on (R257, R260); where ADMIT is written too, the device that is
present is taken (R262). -/
theorem State.iolCtrlWritten_started {ask : Bool} (hon : s.on (F.IOL_CTRL_START c) = true) (hrun : s.fwRuns = true) (hport : s.isPort c = true) :
    ∃ s1 : State, s1.PortAs s c ∧ (∀ f, f.unit = .ch c → f.off = 0xE8 → s1.reg f = s.reg f) ∧
      s.iolCtrlWritten c true ask = if ask then ((s1.portBegin c).targetCheck c).takeDevice c else (s1.portBegin c).targetCheck c := by
  have hctrl (t : State) (on : Bool) (f : Fld) (hu : f.unit = .ch c) (ho : f.off = 0xE8) : (t.supplierCmd c on).reg f = t.reg f := by
    unfold State.supplierCmd
    split
    · rfl
    · rw [State.reg_sendWord fun g e => by simp [← e] at hu, State.reg_setReg, if_neg fun e => by simp [← e] at ho]
  unfold State.iolCtrlWritten
  extract_lets on stopped s0 s0' s1 s2
  have hnoted : s0.PortAs s c := by
    unfold s0
    rw [if_pos rfl]
    exact PortAs.updPort fun _ => ⟨rfl, rfl, rfl, id⟩
  have has0 : s0'.PortAs s c := by
    refine PortAs.trans (s := s0) (PortAs.updPort ?_) hnoted
    exact fun _ => ⟨rfl, rfl, rfl, id⟩
  have has : s1.PortAs s c := by
    unfold s1
    split
    · exact PortAs.supplierOn.trans has0
    · exact has0
  refine ⟨s1, has, fun f hu ho => ?_, ?_⟩
  · unfold s1
    split
    · exact hctrl _ _ f hu ho
    · rfl
  · have hon : on = true := hon
    rw [has.isPort, has.fwRuns, hport, hrun, hon]
    rfl
theorem State.portEnd_ends : (s.portEnd c).portState c = 0 ∧ ((s.portEnd c).ch c).port.ref = none := by
  unfold State.portEnd
  refine ⟨?_, by simp⟩
  rw [State.portState, State.reg_updPort]
  exact State.portState_portSet 0 (by decide)
/-- START written 0 leaves the port INACTIVE and without a reference (R262). -/
theorem State.iolCtrlWritten_stopped {ask : Bool} (hon : s.on (F.IOL_CTRL_START c) = false) (hrun : s.fwRuns = true) (hport : s.isPort c = true) :
    (s.iolCtrlWritten c true ask).portState c = 0 ∧ ((s.iolCtrlWritten c true ask).ch c).port.ref = none := by
  unfold State.iolCtrlWritten
  extract_lets on stopped s0 s0' s1 s2
  have hoff : on = false := hon
  have hs1 : s1 = s0' := if_neg (by simp [hoff])
  have hregs : s1.regs = s.regs := by rw [hs1]; rfl
  have href : (s1.ch c).port.ref = none := by
    rw [hs1]
    simp [s0', s0, hoff]
  have hport1 : s1.isPort c = true := by
    rw [← hport]
    simp only [State.isPort, State.changing, State.on, State.reg, hregs]
  have hrun1 : s1.fwRuns = true := by
    rw [← hrun]
    simp only [State.fwRuns, State.reg, hregs]
  simp only [hport1, hrun1, hoff, Bool.not_true, Bool.or_self, Bool.false_eq_true, if_false, Bool.not_false, if_true]
  split
  · next hstate => exact ⟨hstate, href⟩
  · exact State.portEnd_ends
/-- The check of a port that has its supply, and is not in NO_SUPPLY, changes nothing but what it notes of the supplier (R261). -/
theorem State.portCheck_supplied (hstate : s.portState c ≠ 9) (hsupply : s.noSupply c = 0) :
    (s.portCheck c).regs = s.regs ∧ ((s.portCheck c).ch c).port.dev = (s.ch c).port.dev := by
  have hnoted (k : Port → Port) : (s.updPort c k).portState c = s.portState c := rfl
  unfold State.portCheck
  dsimp only
  split
  · exact ⟨rfl, rfl⟩
  · rw [hsupply, if_neg (by simp), hnoted, if_neg hstate]
    simp
/-- The present device of a port HELD for another device becomes its reference (R262). -/
theorem State.takeDevice_takes {d : IolDevice} (hstate : s.portState c = 8) (hreason : s.reg (F.IOL_CTRL_REASON c) = 8)
    (hdev : (s.ch c).port.dev = some d) :
    (s.takeDevice c).portState c = 6 ∧ ((s.takeDevice c).ch c).port.ref = some (d.vendor, d.device, d.revision) := by
  unfold State.takeDevice
  rw [if_pos (by simp [hstate, hreason])]
  refine ⟨State.portState_portSet 0 (by decide), (State.portSet_ref 6 0).trans ?_⟩
  simp [hdev]
/-- A HELD port that has its supply stays where it is when START 1 is written again, with the same device present (R260). -/
theorem State.portBegin_held (hstate : s.portState c = 8) (hsupply : s.noSupply c = 0) :
    ((s.portBegin c).targetCheck c).regs = s.regs ∧ (((s.portBegin c).targetCheck c).ch c).port.dev = (s.ch c).port.dev := by
  unfold State.portBegin
  extract_lets s1
  have hstate1 : s1.portState c = 8 := hstate
  have hsupply1 : s1.noSupply c = 0 := by
    refine PortAs.noSupply (PortAs.updPort ?_) hsupply
    exact fun _ => ⟨rfl, rfl, rfl, id⟩
  obtain ⟨hregs, hdev⟩ := State.portCheck_supplied (by omega) hsupply1
  have hstate2 : (s1.portCheck c).portState c = 8 := (congrArg (Store.get · (F.IOL_CTRL_STATE c)) hregs).trans hstate
  have htarget : (s1.portCheck c).targetCheck c = s1.portCheck c := by
    unfold State.targetCheck
    exact if_neg (by simp [hstate2])
  rw [if_pos (by omega), htarget]
  exact ⟨hregs, hdev.trans (by simp [s1])⟩

/-! The commands of a port -/

theorem rowsAt_iolCtrl (c : Ch) : rowsAt (.ch c) 0xE8 =
    [⟨0xE8, 31, 1, 0, .rw, false⟩, ⟨0xE8, 29, 2, 0, .rw, false⟩, ⟨0xE8, 28, 1, 0, .wo, false⟩, ⟨0xE8, 24, 4, 0, .ro, false⟩,
      ⟨0xE8, 20, 4, 0, .ro, false⟩, ⟨0xE8, 18, 2, 0, .ro, false⟩, ⟨0xE8, 17, 1, 0, .ro, false⟩, ⟨0xE8, 16, 1, 0, .rw, false⟩,
      ⟨0xE8, 8, 8, 0, .rw, false⟩, ⟨0xE8, 0, 8, 0, .rw, false⟩] := rfl
theorem rowsAt_iolPd (c : Ch) : rowsAt (.ch c) 0xEC = [⟨0xEC, 16, 16, 0, .ro, false⟩, ⟨0xEC, 0, 16, 0, .rw, false⟩] := rfl

section
variable {v : Word} (hrq : rq ≠ .fw)
include hrq

theorem State.stored_start : (s.stored rq (.ch c) 0xE8 v.toNat).reg (F.IOL_CTRL_START c) = v.toNat / 2 ^ 31 % 2 :=
  State.reg_stored (r := ⟨0xE8, 31, 1, 0, .rw, false⟩) hrq v.isLt (by simp [rowsAt_iolCtrl]) (.inl rfl) nofun
    (Row.asWritten_ch (off := 0xE8) (by simp [rowsAt_iolCtrl]) (by decide) (by decide))
theorem State.stored_state : (s.stored rq (.ch c) 0xE8 v.toNat).portState c = s.portState c % 16 :=
  State.reg_stored_ro (r := ⟨0xE8, 20, 4, 0, .ro, false⟩) hrq (by simp [rowsAt_iolCtrl]) rfl
theorem State.stored_reason : (s.stored rq (.ch c) 0xE8 v.toNat).reg (F.IOL_CTRL_REASON c) = s.reg (F.IOL_CTRL_REASON c) % 16 :=
  State.reg_stored_ro (r := ⟨0xE8, 24, 4, 0, .ro, false⟩) hrq (by simp [rowsAt_iolCtrl]) rfl
theorem State.stored_output : (s.stored rq (.ch c) 0xEC v.toNat).reg (F.IOL_PD_PDOUT c) = v.toNat % 2 ^ 16 := by
  have h := State.reg_stored (s := s) (r := ⟨0xEC, 0, 16, 0, .rw, false⟩) (u := .ch c) (off := 0xEC) hrq v.isLt (by simp [rowsAt_iolPd])
    (.inl rfl) nofun (Row.asWritten_ch (off := 0xEC) (by simp [rowsAt_iolPd]) (by decide) (by decide))
  rwa [pow_zero, Nat.div_one] at h
/-- A full write of IOL_CTRL is stored, and its START and ADMIT act (R257 to R262). -/
theorem writeCmd_iolCtrl (hs : s.serves rq (U.at (.ch c) 0xE8)) : writeCmd rq (U.at (.ch c) 0xE8) 15 v.toNat s =
    .next ((s.stored rq (.ch c) 0xE8 v.toNat).iolCtrlWritten c true (bit v.toNat 28)) := by
  rw [writeCmd_acts hrq hs (by decide) (by simp) (by simp), State.chDone_port]

variable (hs : s.serves rq (U.at (.ch c) 0xE8)) (hport : s.isPort c = true) (hrun : s.fwRuns = true)
include hs hport hrun

/-- PORT_START leaves the port started and in some state but INACTIVE (R257, R260). -/
theorem exec_portStart (hv : v.toNat / 2 ^ 31 % 2 = 1) : ∃ t, exec (.portStart rq c 15 v) s = .next t ∧ t.PortRuns c := by
  refine ⟨_, writeCmd_iolCtrl hrq hs, ?_⟩
  have hstored : (s.stored rq (.ch c) 0xE8 v.toNat).PortAs s c := State.PortAs.stored
  have hstart := (State.stored_start (s := s) (c := c) (v := v) hrq).trans hv
  obtain ⟨s1, -, hctrl, heq⟩ := State.iolCtrlWritten_started (ask := bit v.toNat 28) (beq_iff_eq.mpr hstart) (hstored.fwRuns.trans hrun)
    (hstored.isPort.trans hport)
  have hbegun := (State.portBegin_runs ((hctrl _ rfl rfl).trans hstart)).targetCheck
  rw [heq]
  split
  · exact hbegun.takeDevice
  · exact hbegun
/-- PORT_STOP leaves the port INACTIVE and without a reference (R262). -/
theorem exec_portStop (hv : v.toNat / 2 ^ 31 % 2 = 0) :
    ∃ t, exec (.portStop rq c 15 v) s = .next t ∧ t.portState c = 0 ∧ (t.ch c).port.ref = none := by
  refine ⟨_, writeCmd_iolCtrl hrq hs, ?_⟩
  have hstored : (s.stored rq (.ch c) 0xE8 v.toNat).PortAs s c := State.PortAs.stored
  have hstart := (State.stored_start (s := s) (c := c) (v := v) hrq).trans hv
  exact State.iolCtrlWritten_stopped (by simp [State.on, hstart]) (hstored.fwRuns.trans hrun) (hstored.isPort.trans hport)
/-- ADMIT takes the present device of a port HELD for another one, where the port has its supply (R262). -/
theorem exec_admitDevice {d : IolDevice} (hv : v.toNat / 2 ^ 31 % 2 = 1) (hask : v.toNat / 2 ^ 28 % 2 = 1) (hstate : s.portState c = 8)
    (hreason : s.reg (F.IOL_CTRL_REASON c) = 8) (hsupply : s.noSupply c = 0) (hdev : (s.ch c).port.dev = some d) :
    ∃ t, exec (.admitDevice rq c 15 v) s = .next t ∧ t.portState c = 6 ∧ (t.ch c).port.ref = some (d.vendor, d.device, d.revision) := by
  refine ⟨_, writeCmd_iolCtrl hrq hs, ?_⟩
  have hstored : (s.stored rq (.ch c) 0xE8 v.toNat).PortAs s c := State.PortAs.stored
  have hstart := (State.stored_start (s := s) (c := c) (v := v) hrq).trans hv
  have hbit : bit v.toNat 28 = true := (Nat.testBit_eq_decide_div_mod_eq ..).trans (decide_eq_true hask)
  obtain ⟨s1, has, hctrl, heq⟩ := State.iolCtrlWritten_started (ask := bit v.toNat 28) (beq_iff_eq.mpr hstart) (hstored.fwRuns.trans hrun)
    (hstored.isPort.trans hport)
  have hstate1 : s1.portState c = 8 := (hctrl _ rfl rfl).trans ((State.stored_state hrq).trans (by rw [hstate]))
  have hreason1 : s1.reg (F.IOL_CTRL_REASON c) = 8 := (hctrl _ rfl rfl).trans ((State.stored_reason hrq).trans (by rw [hreason]))
  obtain ⟨hregs, hkept⟩ := State.portBegin_held hstate1 ((has.trans hstored).noSupply hsupply)
  have hreg (f : Fld) : ((s1.portBegin c).targetCheck c).reg f = s1.reg f := congrArg (Store.get · f) hregs
  rw [heq, hbit, if_pos rfl]
  exact State.takeDevice_takes ((hreg _).trans hstate1) ((hreg _).trans hreason1) (hkept.trans ((has.trans hstored).dev.trans hdev))
end

theorem pdMask_lt (n v : Nat) : pdMask n v < 2 ^ 16 := by
  unfold pdMask
  (repeat' split) <;> omega
theorem State.pdOutMask_unmasked (h : (s.ch c).port.dev = none ∨ s.portState c < 6 ∨ 8 < s.portState c) : s.pdOutMask c = s := by
  unfold State.pdOutMask
  split
  · next d hd => exact if_neg (by simp [hd] at h; omega)
  · rfl
theorem State.pdOutMask_masked {d : IolDevice} (hd : (s.ch c).port.dev = some d) (h6 : 6 ≤ s.portState c) (h8 : s.portState c ≤ 8) :
    s.pdOutMask c = s.setReg (F.IOL_PD_PDOUT c) (pdMask d.pdOut (s.reg (F.IOL_PD_PDOUT c))) := by
  simp [State.pdOutMask, hd, h6, h8]
/-- Beside being masked, a write of PDOUT tells the device of a port in OPERATE that outputs are valid, and sends the word (R266). -/
theorem State.pdOutWritten_noted : ∃ s1 : State, s1.regs = s.regs ∧ (s1.ch c).port.dev = (s.ch c).port.dev ∧
    (s.pdOutWritten c).regs = (s1.pdOutMask c).regs := by
  refine ⟨if s.portState c = 7 then s.updPort c fun p => { p with outOk := true } else s, ?_, ?_, by simp [State.pdOutWritten]⟩ <;>
    split <;> simp
/-- A write of PDOUT keeps the bits that the device present has, and every bit while no device takes data (R266). -/
theorem exec_iolPdWrite {v : Word} (hrq : rq ≠ .fw) (hs : s.serves rq (U.at (.ch c) 0xEC)) : ∃ t, exec (.iolPdWrite .hub rq c 15 v) s = .next t ∧
    ((s.ch c).port.dev = none ∨ s.portState c < 6 ∨ 8 < s.portState c → t.reg (F.IOL_PD_PDOUT c) = v.toNat % 2 ^ 16) ∧
    (∀ d, (s.ch c).port.dev = some d → 6 ≤ s.portState c → s.portState c ≤ 8 → t.reg (F.IOL_PD_PDOUT c) = pdMask d.pdOut (v.toNat % 2 ^ 16)) := by
  have hexec : exec (.iolPdWrite .hub rq c 15 v) s = .next ((s.stored rq (.ch c) 0xEC v.toNat).pdOutWritten c) :=
    (writeCmd_acts hrq hs (by decide) (by simp) (by simp)).trans (by rw [State.chDone_output])
  obtain ⟨s1, hregs, hdev, hwritten⟩ := State.pdOutWritten_noted (s := s.stored rq (.ch c) 0xEC v.toNat) (c := c)
  have hreg (f : Fld) : s1.reg f = (s.stored rq (.ch c) 0xEC v.toNat).reg f := congrArg (Store.get · f) hregs
  have hout : s1.reg (F.IOL_PD_PDOUT c) = v.toNat % 2 ^ 16 := (hreg _).trans (State.stored_output hrq)
  have hstate : s1.portState c = s.portState c := (hreg _).trans (State.reg_stored_off (by simp))
  have hdev : (s1.ch c).port.dev = (s.ch c).port.dev := hdev.trans (by rw [State.ch_of_chans State.stored_frame.1])
  have hmasked : ((s.stored rq (.ch c) 0xEC v.toNat).pdOutWritten c).reg (F.IOL_PD_PDOUT c) = (s1.pdOutMask c).reg (F.IOL_PD_PDOUT c) :=
    congrArg (Store.get · _) hwritten
  rw [← hstate, ← hdev]
  refine ⟨_, hexec, fun h => ?_, fun d hd h6 h8 => ?_⟩
  · rw [hmasked, State.pdOutMask_unmasked h, hout]
  · rw [hmasked, State.pdOutMask_masked hd h6 h8, hout, State.reg_setReg, if_pos rfl, Nat.mod_eq_of_lt (pdMask_lt _ _)]
end
end Sys2Proof.Machine

namespace Sys2Proof
open Machine

/-- Settles O41: CH_MODE is `modeWrite`, which answers, refuses or begins the change (`exec_chModeWrite`); every other word is stored and acts
(`writeCmd_acts`), those of the image by going to their group as they stand (`State.Sends`). -/
theorem channelWords : Obligations.ChannelWords := by
  unfold Obligations.ChannelWords
  intro s rq c v hrq
  refine ⟨fun hs => ?_, fun p hp => ?_, ?_, fun hs hask => exec_relearn hrq hs hask, fun hs hport hrun => ?_,
    fun hs => exec_iolPdWrite hrq hs⟩
  · obtain ⟨hsame, hrefused, hbegins⟩ := exec_chModeWrite (v := v) hrq hs
    refine ⟨hsame, fun hchange href => ⟨_, hrefused hchange href, State.modeRefuse_shows (s.refusal_lt c _ _) (Nat.mod_lt _ (by decide))⟩,
      fun hne href hgov => ?_⟩
    obtain ⟨t, hexec, hbegun⟩ := hbegins hne href hgov
    exact ⟨t, hexec, hbegun.mode, hbegun.supply, hbegun.changing, hbegun.slots⟩
  · obtain ⟨ho, hexec⟩ : p.2 ∈ sentWords ∧ exec p.1 s = writeCmd rq (U.at (.ch c) p.2) 15 v.toNat s := by
      revert p
      simp only [List.forall_mem_cons, List.not_mem_nil, false_imp_iff, implies_true, and_true]
      exact ⟨⟨by decide, rfl⟩, ⟨by decide, rfl⟩, ⟨by decide, rfl⟩, ⟨by decide, rfl⟩, ⟨by decide, rfl⟩, ⟨by decide, rfl⟩⟩
    intro hs hlock hmember habsent
    obtain ⟨t, ht, hqueued, hfields⟩ := writeCmd_sends (v := v) hrq ho hs hlock hmember habsent
    refine ⟨t, hexec.trans ht, hqueued, fun _ _ => hfields, fun h40 => ?_, fun h80 => ?_⟩
    · have hrow : (⟨0x40, 0, 1, 0, .rw, false⟩ : Row) ∈ rowsAt (.ch c) 0x40 := List.mem_singleton.mpr rfl
      rw [h40] at hfields
      exact (hfields _ hrow (.inl rfl)).trans (by simp)
    · have hrow : (⟨0x80, 4, 1, 0, .rw, false⟩ : Row) ∈ rowsAt (.ch c) 0x80 := List.mem_cons_of_mem _ List.mem_cons_self
      rw [h80] at hfields
      exact hfields _ hrow (.inl rfl)
  · simp only [List.forall_mem_cons, List.not_mem_nil, false_imp_iff, implies_true, and_true]
    refine ⟨fun hs hmember habsent => ?_, fun hs hmember habsent => ?_, fun hs hmember habsent => ?_⟩
    · exact writeCmd_clears (v := 4) hrq hs hmember habsent (by decide)
    · exact writeCmd_clears (v := 2) hrq hs hmember habsent (by decide)
    · exact writeCmd_clears (v := 1) hrq hs hmember habsent (by decide)
  · refine ⟨fun hv => ?_, exec_portStop hrq hs hport hrun,
      fun d hv hask hstate hreason hsupply hdev => exec_admitDevice hrq hs hport hrun hv hask hstate hreason hsupply hdev⟩
    obtain ⟨t, hexec, hruns⟩ := exec_portStart hrq hs hport hrun hv
    exact ⟨t, hexec, hruns.started, hruns.state⟩
end Sys2Proof

/-! ### What the stroke detector leaves of a channel (R135 to R147)

`Chan.unstroked` is a channel without what the stroke detector keeps of it. The operations of the detector keep it: one lemma per
operation. -/

namespace Sys2Proof.Machine

/-- A channel but for its stroke window and the fraction of its trend. -/
def Chan.unstroked (k : Chan) : Chan := { k with stroke := none, trendFrac := 0 }

section
variable {s : State} {c : Ch}

/-- What a change of a channel keeps of it, it keeps of every channel. -/
theorem State.updCh_keeps {α : Type} {p : Chan → α} {k : Chan → Chan} (h : ∀ x, p (k x) = p x) : (s.updCh c k).chans.map p = s.chans.map p := by
  ext1 i hi
  simp only [State.updCh, Vector.getElem_map, Vector.getElem_set]
  split
  · next e =>
    subst e
    exact h _
  · rfl
/-- Channels that agree in a part of each agree in it one by one. -/
theorem State.ch_keeps {α : Type} {p : Chan → α} {t : State} (h : t.chans.map p = s.chans.map p) (d : Ch) : p (t.ch d) = p (s.ch d) := by
  simpa [State.ch] using congrArg (fun v => v[d.val]) h

@[simp] theorem State.strokeOpen_unstroked {residual : Bool} {lp : Nat} :
    (s.strokeOpen c residual lp).chans.map Chan.unstroked = s.chans.map Chan.unstroked := by
  unfold State.strokeOpen
  split
  · exact State.updCh_keeps fun _ => rfl
  · rfl
@[simp] theorem State.learn_unstroked {x d : Rat} : (s.learn c x d).chans.map Chan.unstroked = s.chans.map Chan.unstroked := by
  have hfrac {s : State} : (s.updCh c fun k => { k with trendFrac := 0 }).chans.map Chan.unstroked = s.chans.map Chan.unstroked :=
    State.updCh_keeps fun _ => rfl
  unfold State.learn
  dsimp only
  split <;> simp [hfrac]
@[simp] theorem State.trend_unstroked {x : Rat} : (s.trend c x).chans.map Chan.unstroked = s.chans.map Chan.unstroked := by
  have hfrac {s : State} {n : Nat} : (s.updCh c fun k => { k with trendFrac := n }).chans.map Chan.unstroked = s.chans.map Chan.unstroked :=
    State.updCh_keeps fun _ => rfl
  unfold State.trend
  dsimp only
  split <;> simp [hfrac]
@[simp] theorem State.strokeDecide_unstroked {w : Stroke} {kind reason : Nat} :
    (s.strokeDecide c w kind reason).chans.map Chan.unstroked = s.chans.map Chan.unstroked := by
  have hclose {s : State} : (s.updCh c fun k => { k with stroke := none }).chans.map Chan.unstroked = s.chans.map Chan.unstroked :=
    State.updCh_keeps fun _ => rfl
  unfold State.strokeDecide
  simp [apply_ite (Vector.map Chan.unstroked), hclose]
@[simp] theorem State.updWindow_unstroked {f : Stroke → Stroke} : (s.updWindow c f).chans.map Chan.unstroked = s.chans.map Chan.unstroked := by
  unfold State.updWindow
  split
  · rfl
  · exact State.updCh_keeps fun _ => rfl
@[simp] theorem State.strokeCross_unstroked {t : Nat} : (s.strokeCross c t).chans.map Chan.unstroked = s.chans.map Chan.unstroked :=
  State.updWindow_unstroked
@[simp] theorem State.strokeLimited_unstroked : (s.strokeLimited c).chans.map Chan.unstroked = s.chans.map Chan.unstroked :=
  State.updWindow_unstroked
@[simp] theorem State.strokeNoCross_unstroked : (s.strokeNoCross c).chans.map Chan.unstroked = s.chans.map Chan.unstroked := by
  unfold State.strokeNoCross
  (repeat' split) <;> simp
@[simp] theorem State.strokeGateOff_unstroked : (s.strokeGateOff c).chans.map Chan.unstroked = s.chans.map Chan.unstroked := by
  unfold State.strokeGateOff
  (repeat' split) <;> simp
@[simp] theorem State.strokeAbort_unstroked : (s.strokeAbort c).chans.map Chan.unstroked = s.chans.map Chan.unstroked := by
  unfold State.strokeAbort
  split <;> simp
end
end Sys2Proof.Machine

/-! ### What bringing a channel to its state leaves of its protections (R73 to R105)

`Chan.prot` is what the protections of a channel keep: its latches, the fuse model, the clamp bucket and the readings they act on. The
operations by which a channel is brought to its state keep it: one lemma per operation. -/

namespace Sys2Proof.Machine

/-- The latches of a channel, its fuse model and clamp bucket, and its readings. -/
structure Prot where
  latFault : Nat
  faults : Nat
  latTherm : Bool
  latClamp : Bool
  latFuse : Bool
  dwell : Bool
  theta : Rat
  level : Rat
  tj : Int
  cur : Int
  cur10 : Int
/-- What the protections of a channel keep. -/
@[simp] def Chan.prot (k : Chan) : Prot :=
  ⟨k.latFault, k.faults, k.latTherm, k.latClamp, k.latFuse, k.dwell, k.theta, k.level, k.tj, k.cur, k.cur10⟩

section
variable {s : State} {c : Ch}

/-- The stroke detector touches no protection. -/
theorem State.prot_of_unstroked {t : State} (h : t.chans.map Chan.unstroked = s.chans.map Chan.unstroked) :
    t.chans.map Chan.prot = s.chans.map Chan.prot := by
  have hsame : Chan.prot ∘ Chan.unstroked = Chan.prot := rfl
  simpa [Vector.map_map, hsame] using congrArg (Vector.map Chan.prot) h

@[simp] theorem State.strokeOpen_prot {residual : Bool} {lp : Nat} : (s.strokeOpen c residual lp).chans.map Chan.prot = s.chans.map Chan.prot :=
  State.prot_of_unstroked State.strokeOpen_unstroked
@[simp] theorem State.strokeGateOff_prot : (s.strokeGateOff c).chans.map Chan.prot = s.chans.map Chan.prot :=
  State.prot_of_unstroked State.strokeGateOff_unstroked
@[simp] theorem State.strokeAbort_prot : (s.strokeAbort c).chans.map Chan.prot = s.chans.map Chan.prot :=
  State.prot_of_unstroked State.strokeAbort_unstroked
/-- A change of what `Chan.prot` leaves out of a channel. -/
@[simp] theorem State.updCh_prot {k : Chan → Chan} (h : ∀ x, (k x).latFault = x.latFault ∧ (k x).faults = x.faults ∧
    (k x).latTherm = x.latTherm ∧ (k x).latClamp = x.latClamp ∧ (k x).latFuse = x.latFuse ∧ (k x).dwell = x.dwell ∧ (k x).theta = x.theta ∧
    (k x).level = x.level ∧ (k x).tj = x.tj ∧ (k x).cur = x.cur ∧ (k x).cur10 = x.cur10) : (s.updCh c k).chans.map Chan.prot = s.chans.map Chan.prot :=
  State.updCh_keeps fun x => by simp [h]

@[simp] theorem State.gateOn1_prot : (s.gateOn1 c).chans.map Chan.prot = s.chans.map Chan.prot := by
  unfold State.gateOn1
  simp
@[simp] theorem State.gateStart_prot {t : Nat} {meas : Bool} : (s.gateStart c t meas).chans.map Chan.prot = s.chans.map Chan.prot := by
  unfold State.gateStart State.gateOn
  dsimp only
  split <;> simp
@[simp] theorem State.gateOff_prot {t : Nat} {meas : Bool} : (s.gateOff c t meas).chans.map Chan.prot = s.chans.map Chan.prot := by
  unfold State.gateOff
  dsimp only
  split <;> simp
@[simp] theorem State.turnOn_prot {t : Nat} : (s.turnOn c t).chans.map Chan.prot = s.chans.map Chan.prot := by
  unfold State.turnOn
  simp
@[simp] theorem State.turnOff_prot {t : Nat} {act : Bool} : (s.turnOff c t act).chans.map Chan.prot = s.chans.map Chan.prot := by
  unfold State.turnOff
  dsimp only
  split <;> simp
@[simp] theorem State.startRun_prot {p start t : Nat} {own : Option Nat} {act : Bool} :
    (s.startRun c p own start t act).chans.map Chan.prot = s.chans.map Chan.prot := by
  unfold State.startRun
  dsimp only
  (repeat' split) <;> simp
@[simp] theorem State.bringOn_prot {t : Nat} {act : Bool} : (s.bringOn c t act).chans.map Chan.prot = s.chans.map Chan.prot := by
  unfold State.bringOn
  dsimp only
  (repeat' split) <;> simp [Chan.endRunOn]
@[simp] theorem State.settle_prot : (s.settle c).chans.map Chan.prot = s.chans.map Chan.prot := by
  unfold State.settle State.regrid
  (repeat' split) <;> simp
@[simp] theorem State.resume_prot : (s.resume c).chans.map Chan.prot = s.chans.map Chan.prot := by
  unfold State.resume
  split <;> simp
@[simp] theorem State.forceOff_prot : (s.forceOff c).chans.map Chan.prot = s.chans.map Chan.prot := by
  unfold State.forceOff
  split <;> simp

/-! A cause turns a channel off (R69, R92) -/

theorem State.strokeGateOff_sw (d : Ch) : ((s.strokeGateOff c).ch d).sw = (s.ch d).sw :=
  (congrArg Chan.sw (State.ch_keeps State.strokeGateOff_unstroked d)).trans rfl
theorem State.strokeAbort_sw (d : Ch) : ((s.strokeAbort c).ch d).sw = (s.ch d).sw :=
  (congrArg Chan.sw (State.ch_keeps State.strokeAbort_unstroked d)).trans rfl
/-- After a turn-off gate edge of a channel no switch conducts but those of other channels that did before. -/
theorem State.sw_of_gateOff {t : Nat} {meas : Bool} {d : Ch} (h : ((s.gateOff c t meas).ch d).sw = true) : d ≠ c ∧ (s.ch d).sw = true := by
  rw [State.gateOff, State.strokeGateOff_sw] at h
  by_cases hd : c = d
  · subst hd
    split at h <;> simp at h
  · refine ⟨Ne.symm hd, ?_⟩
    split at h
    · by_cases he : chSucc c = d
      · simp [he] at h
      · simpa [hd, he] using h
    · simpa [hd] using h
/-- A channel turned off conducts no more, and no other channel begins to. -/
theorem State.sw_of_turnOff {t : Nat} {act : Bool} {d : Ch} (h : ((s.turnOff c t act).ch d).sw = true) : d ≠ c ∧ (s.ch d).sw = true := by
  rw [State.turnOff, State.ch_updCh, apply_ite Chan.sw, ite_self] at h
  split at h
  · exact State.sw_of_gateOff h
  · next hsw => exact ⟨fun hd => hsw (hd ▸ h), h⟩
theorem State.turnOff_work {t : Nat} {act : Bool} : ((s.turnOff c t act).ch c).work = .off := by
  simp [State.turnOff]
/-- No cause makes a channel conduct. -/
theorem State.sw_of_forceOff {d : Ch} (h : ((s.forceOff c).ch d).sw = true) : (s.ch d).sw = true := by
  unfold State.forceOff at h
  split at h
  · have hsw := (State.sw_of_turnOff h).2
    rwa [State.strokeAbort_sw, State.ch_updCh, apply_ite Chan.sw, ite_self] at hsw
  · exact h
/-- A channel with a switch of its own to command is off under a cause. -/
theorem State.forceOff_off (h : s.switchable c = true) : ((s.forceOff c).ch c).sw = false ∧ ((s.forceOff c).ch c).work = .off := by
  rw [State.forceOff, if_pos h]
  exact ⟨Bool.eq_false_iff.mpr fun hsw => (State.sw_of_turnOff hsw).1 rfl, State.turnOff_work⟩
/-- A channel forced off keeps its latches. -/
theorem State.forceOff_keeps (d : Ch) : ((s.forceOff c).ch d).prot = (s.ch d).prot := State.ch_keeps State.forceOff_prot d
@[simp] theorem State.forceOff_latFault (d : Ch) : ((s.forceOff c).ch d).latFault = (s.ch d).latFault :=
  (congrArg Prot.latFault (State.forceOff_keeps d)).trans rfl
@[simp] theorem State.forceOff_faults (d : Ch) : ((s.forceOff c).ch d).faults = (s.ch d).faults :=
  (congrArg Prot.faults (State.forceOff_keeps d)).trans rfl
@[simp] theorem State.forceOff_latTherm (d : Ch) : ((s.forceOff c).ch d).latTherm = (s.ch d).latTherm :=
  (congrArg Prot.latTherm (State.forceOff_keeps d)).trans rfl
@[simp] theorem State.forceOff_latClamp (d : Ch) : ((s.forceOff c).ch d).latClamp = (s.ch d).latClamp :=
  (congrArg Prot.latClamp (State.forceOff_keeps d)).trans rfl
@[simp] theorem State.forceOff_latFuse (d : Ch) : ((s.forceOff c).ch d).latFuse = (s.ch d).latFuse :=
  (congrArg Prot.latFuse (State.forceOff_keeps d)).trans rfl
@[simp] theorem State.forceOff_dwell (d : Ch) : ((s.forceOff c).ch d).dwell = (s.ch d).dwell :=
  (congrArg Prot.dwell (State.forceOff_keeps d)).trans rfl
end

/-! ### The protective states (R69, R82 to R87, R92, R100) -/

section
variable {s : State} {c : Ch}

@[simp] theorem State.protMarks_ch {cause urg code cls last : Nat} (d : Ch) : (s.protMarks c cause urg code cls last).ch d = s.ch d := by
  simp [State.ch]
/-- The mode, the membership of a pair and a parked entry alone say whether a channel has a switch to command. -/
theorem State.switchable_congr {t : State} (hm : (t.ch c).mode = (s.ch c).mode) (hb : (t.ch c).member = (s.ch c).member)
    (hp : (t.ch c).park = (s.ch c).park) : t.switchable c = s.switchable c := by
  rw [State.switchable, State.switchable, hm, hb, hp]

/-! Fuse-tripped -/

theorem State.enterFuse_latched (b : Bool) : ((s.enterFuse c b).ch c).latFuse = true := by
  unfold State.enterFuse
  split
  · assumption
  · simp
/-- Fuse-tripped touches no latch but its own. -/
theorem State.enterFuse_keeps (b : Bool) (d : Ch) : ∃ l w, ((s.enterFuse c b).ch d).prot = { (s.ch d).prot with latFuse := l, dwell := w } := by
  unfold State.enterFuse
  split
  · exact ⟨_, _, rfl⟩
  · rw [State.protMarks_ch, State.forceOff_keeps, State.ch_updCh]
    split <;> exact ⟨_, _, rfl⟩
theorem State.enterFuse_dwell {b : Bool} (hl : (s.ch c).latFuse = false) : ((s.enterFuse c b).ch c).dwell = b := by
  simp [State.enterFuse, hl]
theorem State.enterFuse_off {b : Bool} (hl : (s.ch c).latFuse = false) (h : s.switchable c = true) :
    ((s.enterFuse c b).ch c).sw = false ∧ ((s.enterFuse c b).ch c).work = .off := by
  rw [State.enterFuse, if_neg (by simp [hl]), State.protMarks_ch]
  refine State.forceOff_off (Eq.trans ?_ h)
  exact State.switchable_congr (by simp) (by simp) (by simp)

/-! Clamp-locked -/

theorem State.enterClamp_latched : ((s.enterClamp c).ch c).latClamp = true := by
  unfold State.enterClamp
  split
  · assumption
  · simp
theorem State.enterClamp_keeps (d : Ch) : ∃ l, ((s.enterClamp c).ch d).prot = { (s.ch d).prot with latClamp := l } := by
  unfold State.enterClamp
  split
  · exact ⟨_, rfl⟩
  · rw [State.protMarks_ch, State.forceOff_keeps, State.ch_updCh]
    split <;> exact ⟨_, rfl⟩

/-! Fault-latched -/

theorem bit_add_two_pow {x k : Nat} (h : bit x k = false) : bit (x + 2 ^ k) k = true := by
  rw [bit, Nat.add_comm, Nat.testBit_two_pow_add_eq]
  simpa [bit] using h
/-- A fault cause that comes is recorded (R92). -/
theorem State.enterFault_records (n : Nat) : bit ((s.enterFault c n).ch c).faults n = true := by
  unfold State.enterFault
  dsimp only
  split
  · assumption
  · next h =>
    simpa using bit_add_two_pow (Bool.eq_false_iff.mpr h)
/-- The first fault cause is the one shown, but a stuck-on switch shows over the others (R92, R100). -/
theorem State.enterFault_shows {n : Nat} (hnew : bit (s.ch c).faults n = false) (h : (s.ch c).latFault = 0 ∨ n = 2) :
    ((s.enterFault c n).ch c).latFault = n ∧ (s.enterFault c n).dreg (F.OUT_FAULT_CAUSE c) = n % 16 := by
  rw [State.enterFault]
  dsimp only
  rw [if_neg (by simp [hnew]), if_pos h]
  exact ⟨by simp, by simp [State.dreg]⟩
/-- A fault cause that comes leaves the channel Fault-latched (R92). -/
theorem State.enterFault_latched {n : Nat} (hnew : bit (s.ch c).faults n = false) (hn : n ≠ 0) : ((s.enterFault c n).ch c).latFault ≠ 0 := by
  rw [State.enterFault]
  dsimp only
  rw [if_neg (by simp [hnew])]
  by_cases h : (s.ch c).latFault = 0 ∨ n = 2
  · simp [h, hn]
  · simpa [h] using (not_or.mp h).1
theorem State.enterFault_keeps (n : Nat) (d : Ch) :
    ∃ a b, ((s.enterFault c n).ch d).prot = { (s.ch d).prot with latFault := a, faults := b } := by
  unfold State.enterFault
  dsimp only
  split
  · exact ⟨_, _, rfl⟩
  · rw [State.protMarks_ch, State.forceOff_keeps, State.ch_setDie, State.ch_updCh]
    split <;> exact ⟨_, _, rfl⟩
@[simp] theorem State.enterFault_latTherm {n : Nat} (d : Ch) : ((s.enterFault c n).ch d).latTherm = (s.ch d).latTherm := by
  obtain ⟨a, b, h⟩ := s.enterFault_keeps (c := c) n d
  exact (congrArg Prot.latTherm h).trans rfl
@[simp] theorem State.enterFault_latClamp {n : Nat} (d : Ch) : ((s.enterFault c n).ch d).latClamp = (s.ch d).latClamp := by
  obtain ⟨a, b, h⟩ := s.enterFault_keeps (c := c) n d
  exact (congrArg Prot.latClamp h).trans rfl
@[simp] theorem State.enterFault_level {n : Nat} (d : Ch) : ((s.enterFault c n).ch d).level = (s.ch d).level := by
  obtain ⟨a, b, h⟩ := s.enterFault_keeps (c := c) n d
  exact (congrArg Prot.level h).trans rfl
theorem State.sw_of_enterFault {n : Nat} {d : Ch} (h : ((s.enterFault c n).ch d).sw = true) : (s.ch d).sw = true := by
  unfold State.enterFault at h
  dsimp only at h
  split at h
  · exact h
  · rw [State.protMarks_ch] at h
    have hsw := State.sw_of_forceOff h
    rwa [State.ch_setDie, State.ch_updCh, apply_ite Chan.sw, ite_self] at hsw
theorem State.dreg_enterFault {n : Nat} {f : Fld} (hf : F.OUT_FAULT_CAUSE c ≠ f) : (s.enterFault c n).dreg f = s.dreg f := by
  unfold State.enterFault
  dsimp only
  split
  · rfl
  · simp [State.dreg, hf]

/-! Thermal-off -/

theorem State.enterThermal_latched : ((s.enterThermal c).ch c).latTherm = true := by
  unfold State.enterThermal
  dsimp only
  split
  · assumption
  split <;> simp
theorem State.enterThermal_off (hl : (s.ch c).latTherm = false) (h : s.switchable c = true) : ((s.enterThermal c).ch c).sw = false := by
  rw [State.enterThermal, if_neg (by simp [hl])]
  dsimp only
  refine Bool.eq_false_iff.mpr fun hsw => ?_
  have hoff : ∀ l, ((((s.updCh c fun k => { k with latTherm := true, therms := l }).forceOff c).protMarks c 5 4 0x40 2 7).ch c).sw = false := by
    intro l
    rw [State.protMarks_ch]
    exact (State.forceOff_off ((State.switchable_congr (by simp) (by simp) (by simp)).trans h)).1
  split at hsw
  · exact absurd (State.sw_of_enterFault hsw) (by rw [hoff]; simp)
  · exact absurd hsw (by rw [hoff]; simp)

/-! ### The bits of OUT_DIAG (Table 4.11) -/

/-- A diagnostic bit set stands. -/
theorem State.diagSet_don {f : Fld} (hf : f.w = 1) : (s.diagSet c f).don f = true := by
  unfold State.diagSet
  split
  · assumption
  · simp [State.don, State.dreg, hf]
/-- Setting a diagnostic bit changes no other field of the die. -/
theorem State.dreg_diagSet {f k : Fld} (h : f ≠ k) : (s.diagSet c f).dreg k = s.dreg k := by
  unfold State.diagSet
  split
  · rfl
  · simp [State.dreg, h]
end
end Sys2Proof.Machine

/-! ### Current limit, inrush window and gate edges (R76 to R78, R91, R96, R123) -/

namespace Sys2Proof.Machine

section
variable {s : State} {c : Ch}

theorem State.headOf_single (h : (s.ch c).member = false) : s.headOf c = c := by simp [State.headOf, h]
theorem State.working_on (hsw : (s.ch c).sw = true) (hw : (s.ch c).work ≠ .off) : s.working c = (s.ch c).work := by
  simp [State.working, hsw, hw]
@[simp] theorem State.chEvt_ch {k : Nat} (d : Ch) : (s.chEvt c k).ch d = s.ch d := by simp [State.ch]
@[simp] theorem State.urgent_ch {code k : Nat} (d : Ch) : (s.urgent c code k).ch d = s.ch d := by simp [State.ch]
/-- The stroke window learns of Limiting; the channel's own states stay. -/
@[simp] theorem State.strokeLimited_ch (d : Ch) : ((s.strokeLimited c).ch d).work = (s.ch d).work ∧
    ((s.strokeLimited c).ch d).from_ = (s.ch d).from_ ∧ ((s.strokeLimited c).ch d).sw = (s.ch d).sw ∧
    ((s.strokeLimited c).ch d).inrush = (s.ch d).inrush ∧ ((s.strokeLimited c).ch d).olAt = (s.ch d).olAt := by
  have h : ((s.strokeLimited c).ch d).unstroked = (s.ch d).unstroked := State.ch_keeps State.strokeLimited_unstroked d
  exact ⟨(congrArg Chan.work h).trans rfl, (congrArg Chan.from_ h).trans rfl, (congrArg Chan.sw h).trans rfl,
    (congrArg Chan.inrush h).trans rfl, (congrArg Chan.olAt h).trans rfl⟩

/-! Entering and leaving Limiting -/

/-- Limiting of a channel whose switch is on (R76, Table 4.6). -/
theorem State.limitIn_enters (hsw : (s.ch c).sw = true) (hoff : (s.ch c).work ≠ .off) (hlim : (s.ch c).work ≠ .limiting)
    (hmem : (s.ch c).member = false) : ((s.limitIn c).ch c).work = .limiting ∧ ((s.limitIn c).ch c).from_ = (s.ch c).work ∧
      ((s.limitIn c).ch c).sw = true := by
  simp [State.limitIn, State.working_on hsw hoff, hoff, hlim, hmem, hsw]
/-- Limiting opens and closes no inrush window, and starts no open-load delay. -/
theorem State.limitIn_window : ((s.limitIn c).ch c).inrush = (s.ch c).inrush ∧ ((s.limitIn c).ch c).olAt = (s.ch c).olAt := by
  unfold State.limitIn
  dsimp only
  split
  · exact ⟨rfl, rfl⟩
  split <;> simp
/-- LIMIT_REACHED (R76). -/
theorem exec_limitReached (hon : s.dieOn (grpOf c) = true) (i : Int) : exec (.limitReached ⟨c, i⟩) s =
    .next (if atLimit i (s.legLimit (s.headOf c)) then s.limitIn (s.headOf c) else s) := by
  rw [show exec (.limitReached ⟨c, i⟩) s = execLimitReached ⟨c, i⟩ s from rfl, execLimitReached, onDie_on hon]
/-- LIMITING_LEFT (R78). -/
theorem exec_limitingLeft (hon : s.dieOn (grpOf c) = true) {i : Int} (hi : 10000 * i ≤ 95 * (107 * (s.legLimit c : Int) + 2000))
    (hp : s.passed (grpOf c) (s.ch c).limAt 10000 = true) : exec (.limitingLeft ⟨c, i⟩) s = .next (s.limitOut c) := by
  rw [show exec (.limitingLeft ⟨c, i⟩) s = execLimitingLeft ⟨c, i⟩ s from rfl, execLimitingLeft, onDie_on hon, if_pos (by simp [hi, hp])]
theorem State.limitOut_work (hlim : (s.ch c).work = .limiting) : ((s.limitOut c).ch c).work =
    if (s.ch c).from_ = .inrush ∧ (s.ch c).inrush = false then .on else (s.ch c).from_ := by
  simp [State.limitOut, hlim]
/-- LIMIT_DWELL_EXPIRY (R78). -/
theorem exec_limitDwellExpiry (hon : s.dieOn (grpOf c) = true) {n : Nat} (hn : (s.ch c).dwellAt = some n) (hw : s.working c = .limiting)
    (hp : s.passed (grpOf c) n (s.dwellNs c) = true) : exec (.limitDwellExpiry c) s = .next (s.enterFuse c true) := by
  rw [show exec (.limitDwellExpiry c) s = execLimitDwellExpiry c s from rfl, execLimitDwellExpiry, onDie_on hon]
  simp [hn, State.limiting, hw, hp]

/-! The windows -/

/-- INRUSH_WINDOW_END (R77). -/
theorem exec_inrushWindowEnd (hon : s.dieOn (grpOf c) = true) (hin : (s.ch c).inrush = true)
    (hp : s.passed (grpOf c) (s.ch c).inrushAt (inrushWindow (s.dreg (F.OUT_LIMIT_INRUSH_WINDOW c)) * 100000) = true) (i : Int) :
    exec (.inrushWindowEnd c i) s = .next (s.inrushEnd c i) := by
  rw [show exec (.inrushWindowEnd c i) s = execInrushWindowEnd c i s from rfl, execInrushWindowEnd, onDie_on hon, if_pos (by simp [hin, hp])]
theorem State.inrushEnd_window (i : Int) : ((s.inrushEnd c i).ch c).inrush = false ∧ ((s.inrushEnd c i).ch c).olAt = some s.clock := by
  unfold State.inrushEnd
  dsimp only
  split
  · exact ⟨State.limitIn_window.1.trans (by simp), State.limitIn_window.2.trans (by simp)⟩
  · simp
/-- OL_WINDOW_EXPIRY (R96). -/
theorem exec_olWindowExpiry (hon : s.dieOn (grpOf c) = true) {n : Nat} (hn : (s.ch c).olAt = some n)
    (hp : s.passed (grpOf c) n (max 1 (s.dreg (F.OUT_CFG_OL_WINDOW c)) * 100000) = true) :
    exec (.olWindowExpiry c) s = .next (s.updCh c fun k => { k with olOn := true, olAt := none }) := by
  rw [show exec (.olWindowExpiry c) s = execOlWindowExpiry c s from rfl, execOlWindowExpiry, onDie_on hon]
  simp [hn, hp]

/-! The end of a gate edge -/

/-- SENSE_CROSSING (R91, R123). -/
theorem exec_senseCrossing (hon : s.dieOn (grpOf c) = true) {d : Nat} (hd : d ≤ 50000) : exec (.senseCrossing c d) s = .next (s.crossing c d) := by
  rw [show exec (.senseCrossing c d) s = execSenseCrossing c d s from rfl, execSenseCrossing, onDie_on hon, if_pos hd]
/-- No stroke window ends or begins an edge. -/
theorem State.strokeCross_edge {t : Nat} (d : Ch) : ((s.strokeCross c t).ch d).edge = (s.ch d).edge :=
  (congrArg Chan.edge (State.ch_keeps State.strokeCross_unstroked d)).trans rfl
theorem State.strokeNoCross_edge (d : Ch) : ((s.strokeNoCross c).ch d).edge = (s.ch d).edge :=
  (congrArg Chan.edge (State.ch_keeps State.strokeNoCross_unstroked d)).trans rfl
/-- A crossing ends its edge. -/
theorem State.crossing_edge {d : Nat} {dir meas : Bool} (he : (s.ch c).edge = some (dir, meas)) : ((s.crossing c d).ch c).edge = none := by
  rw [State.crossing, he]
  cases dir <;> cases meas <;> simp [State.strokeCross_edge]
/-- The delay of an edge to be measured is reported (R123). -/
theorem State.crossing_delayQ {d : Nat} {dir meas : Bool} (he : (s.ch c).edge = some (dir, meas)) :
    ((s.crossing c d).dieOf (grpOf c)).delayQ = (s.dieOf (grpOf c)).delayQ ++
      if meas then [{ n := chN c, dir := dir, delay := d / 4 * 4, lp := (s.ch c).lpE, cross := s.crossAt c d, slot := (s.ch c).edgeOf }]
      else [] := by
  rw [State.crossing, he]
  cases dir <;> cases meas <;> simp [State.dieOf, State.updDie]
/-- CROSSING_TIMEOUT (Table 4.6). -/
theorem exec_crossingTimeout (hon : s.dieOn (grpOf c) = true) (he : (s.ch c).edge ≠ none)
    (hp : s.passed (grpOf c) (s.ch c).edgeAt 50000 = true) :
    ∃ t, exec (.crossingTimeout c) s = .next t ∧ (t.ch c).edge = none ∧ t.dies = s.dies := by
  obtain ⟨⟨dir, meas⟩, he⟩ := Option.ne_none_iff_exists'.mp he
  rw [show exec (.crossingTimeout c) s = execCrossingTimeout c s from rfl, execCrossingTimeout, onDie_on hon]
  refine ⟨_, rfl, ?_⟩
  rw [he]
  cases dir <;> simp [hp, State.strokeNoCross_edge]
end
end Sys2Proof.Machine

namespace Sys2Proof
open Machine

/-- Settles O7: each row is its operation, of which the lemmas above say what becomes of the channel. -/
theorem limitAndEdgeCommands : Obligations.LimitAndEdgeCommands := by
  unfold Obligations.LimitAndEdgeCommands
  intro s c hon
  refine ⟨fun i hsw hoff hlim hmem hat => ?_, fun i hat => ?_, fun i hlim hi hp => ?_, fun n hn hw hp => ?_, fun i hin hp => ?_,
    fun n hn hp => exec_olWindowExpiry hon hn hp, fun d dir meas hd he => ?_, exec_crossingTimeout hon⟩
  · obtain ⟨hwork, hfrom, hon'⟩ := State.limitIn_enters hsw hoff hlim hmem
    refine ⟨s.limitIn c, ?_, hwork, hfrom, hon', by simp⟩
    rw [exec_limitReached hon, State.headOf_single hmem, if_pos hat]
  · rw [exec_limitReached hon, if_neg (by simp [hat])]
  · exact ⟨_, exec_limitingLeft hon hi hp, by simp, State.limitOut_work hlim⟩
  · refine ⟨_, exec_limitDwellExpiry hon hn hw hp, State.enterFuse_latched true, fun hnew => ⟨State.enterFuse_dwell hnew, fun hown => ?_⟩⟩
    exact State.enterFuse_off hnew hown
  · obtain ⟨hend, hol⟩ := State.inrushEnd_window (s := s) (c := c) i
    exact ⟨_, exec_inrushWindowEnd hon hin hp i, hend, by simp, hol⟩
  · exact ⟨_, exec_senseCrossing hon hd, State.crossing_edge he, State.crossing_delayQ he⟩
end Sys2Proof

/-! ### Means, temperature and clamp (R75, R79, R82 to R89, R100) -/

namespace Sys2Proof.Machine

section
variable {s : State} {c : Ch}

/-! The 100 us means -/

@[simp] theorem State.loopNote_prot {old : Nat} : (s.loopNote c old).chans.map Chan.prot = s.chans.map Chan.prot := by
  unfold State.loopNote
  dsimp only
  (repeat' split) <;> simp
@[simp] theorem State.anFlags_prot {l : List (Nat × Bool)} : (s.anFlags c l).chans.map Chan.prot = s.chans.map Chan.prot := by
  unfold State.anFlags
  dsimp only
  split <;> simp -implicitDefEqProofs
@[simp] theorem State.openFollow_prot : (s.openFollow c).chans.map Chan.prot = s.chans.map Chan.prot := by
  unfold State.openFollow
  (repeat' split) <;> simp
@[simp] theorem State.checkMeans_prot : (s.checkMeans c).chans.map Chan.prot = s.chans.map Chan.prot := by
  unfold State.checkMeans
  simp
@[simp] theorem State.imbMean_prot : (s.imbMean c).chans.map Chan.prot = s.chans.map Chan.prot := by
  unfold State.imbMean
  simp
/-- The checks that a mean ends with, after the fuse model has taken it. -/
def State.meanChecks (s : State) (c : Ch) (sum : Int) : State := (((s.openLoadOn c sum).openFollow c).checkMeans c).imbMean c
theorem State.meanChecks_keeps {sum : Int} : ((s.meanChecks c sum).ch c).prot = (s.ch c).prot :=
  State.ch_keeps (p := Chan.prot) (by simp [State.meanChecks]) c
theorem State.dreg_openLoadOn {sum : Int} {f : Fld} (h : F.OUT_DIAG_OL_ON c ≠ f) : (s.openLoadOn c sum).dreg f = s.dreg f := by
  unfold State.openLoadOn
  dsimp only
  (repeat' split)
  · rfl
  · exact State.dreg_diagSet h
  · exact (State.dreg_setDie ..).trans (if_neg h)
  · rfl
theorem State.dreg_openFollow {f : Fld} (hf : f.shown = false) : (s.openFollow c).dreg f = s.dreg f := by
  unfold State.openFollow
  (repeat' split)
  · exact State.anFlags_shown hf
  · exact State.anFlags_shown hf
  · rfl
  · rfl
theorem State.dreg_meanChecks {sum : Int} {f : Fld} (hol : F.OUT_DIAG_OL_ON c ≠ f) (hf : f.shown = false) :
    (s.meanChecks c sum).dreg f = s.dreg f :=
  calc (s.meanChecks c sum).dreg f = ((s.openLoadOn c sum).openFollow c).dreg f := by simp [State.meanChecks, State.dreg]
    _ = (s.openLoadOn c sum).dreg f := State.dreg_openFollow hf
    _ = s.dreg f := State.dreg_openLoadOn hol

/-- A channel that has taken its readings (R75, R190). -/
def State.meanTaken (s : State) (c : Ch) (i i10 tj ua mv : Int) (clamp : Bool) : State :=
  ((s.updCh c fun k => { k with cur := i, cur10 := i10, cur10At := s.clock, tj := tj, clamping := clamp }).setDie (F.AN_MEAS_CURRENT c)
    (min 65535 ua.toNat)).setDie (F.AN_MEAS_VOLT c) (min 30000 mv.toNat)
/-- The current that the fuse model of a channel takes: of both switches for a pair (R88). -/
def State.fuseCurrent (s : State) (c : Ch) (i : Int) : Int := if s.pairHead c then i + (s.ch (chSucc c)).cur else i
/-- A channel whose fuse model and clamp bucket have taken their next value (R79, R85). -/
def State.meanModels (s : State) (c : Ch) (sum : Int) : State :=
  s.updCh c fun k => { k with theta := s.thetaNext c sum, level := s.levelNext c }
section
variable {i i10 tj ua mv : Int} {clamp : Bool}

theorem State.meanTaken_pairHead (d : Ch) : (s.meanTaken c i i10 tj ua mv clamp).pairHead d = s.pairHead d := by
  by_cases h : c = d <;> simp [State.meanTaken, State.pairHead, h]
theorem State.meanTaken_thetaNext {sum : Int} : (s.meanTaken c i i10 tj ua mv clamp).thetaNext c sum = s.thetaNext c sum := by
  simp [State.meanTaken, State.thetaNext, State.ip]
theorem State.meanTaken_levelNext :
    (s.meanTaken c i i10 tj ua mv clamp).levelNext c = (s.updCh c fun k => { k with clamping := clamp }).levelNext c := by
  have hhead : (s.updCh c fun k => { k with clamping := clamp }).pairHead c = s.pairHead c := by simp [State.pairHead]
  unfold State.levelNext State.legs
  rw [State.meanTaken_pairHead, hhead]
  cases s.pairHead c <;> simp [State.meanTaken, apply_ite Chan.clamping]
theorem State.mean_eq : s.mean c i i10 tj ua mv clamp = (
    let s1 := s.meanTaken c i i10 tj ua mv clamp
    let sum := s1.fuseCurrent c i
    let s2 := s1.meanModels c sum
    State.meanChecks (if !(s2.ch c).member && decide (2 * (wireDt (s2.dreg (F.OUT_FUSE_WIRE_CLASS c)) : Rat) ≤ s1.thetaNext c sum)
      then s2.enterFuse c false else s2) c sum) := rfl
theorem State.meanModels_prot {sum : Int} : (((s.meanTaken c i i10 tj ua mv clamp).meanModels c sum).ch c).prot = { (s.ch c).prot with
    cur := i, cur10 := i10, tj := tj, theta := s.thetaNext c sum, level := (s.updCh c fun k => { k with clamping := clamp }).levelNext c } := by
  rw [State.meanModels, State.ch_updCh, if_pos rfl, State.meanTaken_thetaNext, State.meanTaken_levelNext]
  simp [State.meanTaken]
/-- Every mean is taken into the fuse model and the clamp bucket; the trip that may follow changes neither (R79, R80, R85). -/
theorem State.mean_keeps : ∃ l w, ((s.mean c i i10 tj ua mv clamp).ch c).prot = { (s.ch c).prot with
    cur := i, cur10 := i10, tj := tj, latFuse := l, dwell := w
    theta := s.thetaNext c ((s.meanTaken c i i10 tj ua mv clamp).fuseCurrent c i)
    level := (s.updCh c fun k => { k with clamping := clamp }).levelNext c } := by
  rw [State.mean_eq]
  dsimp only
  rw [State.meanChecks_keeps]
  split
  · obtain ⟨l, w, h⟩ := ((s.meanTaken c i i10 tj ua mv clamp).meanModels c
      ((s.meanTaken c i i10 tj ua mv clamp).fuseCurrent c i)).enterFuse_keeps (c := c) false c
    exact ⟨l, w, h.trans (by rw [State.meanModels_prot])⟩
  · exact ⟨(s.ch c).latFuse, (s.ch c).dwell, State.meanModels_prot⟩
theorem State.mean_takes : ((s.mean c i i10 tj ua mv clamp).ch c).cur = i ∧ ((s.mean c i i10 tj ua mv clamp).ch c).cur10 = i10 ∧
    ((s.mean c i i10 tj ua mv clamp).ch c).tj = tj ∧
    ((s.mean c i i10 tj ua mv clamp).ch c).level = (s.updCh c fun k => { k with clamping := clamp }).levelNext c ∧
    ((s.mean c i i10 tj ua mv clamp).ch c).theta = s.thetaNext c ((s.meanTaken c i i10 tj ua mv clamp).fuseCurrent c i) := by
  obtain ⟨l, w, h⟩ := s.mean_keeps (c := c) (i := i) (i10 := i10) (tj := tj) (ua := ua) (mv := mv) (clamp := clamp)
  simp only [Chan.prot, Prot.mk.injEq] at h
  obtain ⟨-, -, -, -, -, -, htheta, hlevel, htj, hcur, hcur10⟩ := h
  exact ⟨hcur, hcur10, htj, hlevel, htheta⟩
theorem State.dreg_mean {f : Fld} (hol : F.OUT_DIAG_OL_ON c ≠ f) (hf : f.shown = false) :
    (s.mean c i i10 tj ua mv clamp).dreg f = (s.meanTaken c i i10 tj ua mv clamp).dreg f := by
  rw [State.mean_eq]
  dsimp only
  rw [State.dreg_meanChecks hol hf]
  simp [State.dreg, State.meanModels]
theorem State.mean_current : (s.mean c i i10 tj ua mv clamp).dreg (F.AN_MEAS_CURRENT c) = min 65535 ua.toNat := by
  rw [State.dreg_mean (by simp) rfl]
  simp [State.meanTaken]
theorem State.mean_volt : (s.mean c i i10 tj ua mv clamp).dreg (F.AN_MEAS_VOLT c) = min 30000 mv.toNat := by
  rw [State.dreg_mean (by simp) rfl]
  simp [State.meanTaken]
theorem State.fuseCurrent_single (h : s.pairHead c = false) : (s.meanTaken c i i10 tj ua mv clamp).fuseCurrent c i = i := by
  rw [State.fuseCurrent, State.meanTaken_pairHead, h]
  rfl
theorem State.fuseCurrent_pair (h : s.pairHead c = true) (hne : chSucc c ≠ c) :
    (s.meanTaken c i i10 tj ua mv clamp).fuseCurrent c i = i + (s.ch (chSucc c)).cur := by
  rw [State.fuseCurrent, State.meanTaken_pairHead, if_pos h]
  simp [State.meanTaken, Ne.symm hne]
/-- MEAN_100US (R75, R79, R85, R190). -/
theorem exec_mean100us (hon : s.dieOn (grpOf c) = true) :
    exec (.mean100us c ⟨i, i10, clamp⟩ tj ua mv) s = .next (s.mean c i i10 tj ua mv clamp) := by
  rw [show exec (.mean100us c ⟨i, i10, clamp⟩ tj ua mv) s = execMean100us c ⟨i, i10, clamp⟩ tj ua mv s from rfl, execMean100us, onDie_on hon]
end

/-! Temperature -/

/-- A channel whose Tj has been read. -/
def State.tjRead (s : State) (c : Ch) (tj : Int) : State := s.updCh c fun k => { k with tj := tj }
theorem State.tjRead_tj (tj : Int) (x : Ch) : ((s.tjRead c tj).ch x).tj = if x = c then tj else (s.ch x).tj := by
  rw [State.tjRead, State.ch_updCh, apply_ite Chan.tj]
  simp only [eq_comm]
theorem State.tjRead_same (tj : Int) (x : Ch) : ((s.tjRead c tj).ch x).mode = (s.ch x).mode ∧ ((s.tjRead c tj).ch x).member = (s.ch x).member ∧
    ((s.tjRead c tj).ch x).park = (s.ch x).park ∧ ((s.tjRead c tj).ch x).latTherm = (s.ch x).latTherm := by
  by_cases h : c = x <;> simp [State.tjRead, h]
theorem State.tjRead_headOf (tj : Int) (x : Ch) : (s.tjRead c tj).headOf x = s.headOf x := by
  simp only [State.headOf, State.tjRead_same]
theorem State.tjRead_legs (tj : Int) (x : Ch) : (s.tjRead c tj).legs x = s.legs x := by
  have hhead : (s.tjRead c tj).pairHead x = s.pairHead x := by simp only [State.pairHead, State.tjRead_same]
  rw [State.legs, hhead, State.legs]
theorem State.tjRead_switchable (tj : Int) (x : Ch) : (s.tjRead c tj).switchable x = s.switchable x := by
  simp only [State.switchable, State.tjRead_same]
theorem State.tjRead_latTherm (tj : Int) (x : Ch) : ((s.tjRead c tj).ch x).latTherm = (s.ch x).latTherm := by
  simp only [State.tjRead_same]
/-- All switches of an output are below a temperature, one of them by its new reading (R82, R88). -/
theorem State.tjRead_allBelow {tj t : Int} {h : Ch} (hb : ∀ x ∈ s.legs h, (if x = c then tj else (s.ch x).tj) < t) :
    (s.tjRead c tj).allBelow h t = true := by
  rw [State.allBelow, State.tjRead_legs]
  exact List.all_eq_true.mpr fun x hx => decide_eq_true (by rw [State.tjRead_tj]; exact hb x hx)
theorem State.mem_legs (h : Ch) : h ∈ s.legs h := by
  unfold State.legs
  split <;> simp
/-- THERM_WARN (R82). -/
theorem exec_thermWarn (hon : s.dieOn (grpOf c) = true) (tj : Int) : exec (.thermWarn c tj) s =
    .next (if 1200 ≤ tj then (s.tjRead c tj).diagSet (s.headOf c) (F.OUT_DIAG_THERM_WARN (s.headOf c))
      else if (s.tjRead c tj).allBelow (s.headOf c) 1160 then (s.tjRead c tj).diagClear (F.OUT_DIAG_THERM_WARN (s.headOf c))
      else s.tjRead c tj) := by
  rw [show exec (.thermWarn c tj) s = execThermWarn c tj s from rfl, execThermWarn, onDie_on hon, ← State.tjRead_headOf tj c]
  rfl
/-- THERMAL_OFF (R82). -/
theorem exec_thermalOff (hon : s.dieOn (grpOf c) = true) {tj : Int} (htj : 1360 ≤ tj) (hm : switchMode (s.ch c).mode = true) :
    exec (.thermalOff c tj) s = .next ((s.tjRead c tj).enterThermal (s.headOf c)) := by
  rw [show exec (.thermalOff c tj) s = execThermalOff c tj s from rfl, execThermalOff, onDie_on hon, if_pos ⟨htj, hm⟩]
  rfl
/-- The latches of Thermal-off of an output are gone, of both legs for a pair (R82, R88). -/
def State.thermalGone (s : State) (c : Ch) : State := (s.legs c).foldl (fun s x => s.updCh x fun k => { k with latTherm := false }) s
theorem State.thermalGone_latTherm : ((s.thermalGone c).ch c).latTherm = false := by
  unfold State.thermalGone State.legs
  split <;> simp
/-- THERMAL_RETURN (R82). -/
theorem exec_thermalReturn (hon : s.dieOn (grpOf c) = true) {tj : Int} (hl : (s.ch (s.headOf c)).latTherm = true)
    (hb : ∀ x ∈ s.legs (s.headOf c), (if x = c then tj else (s.ch x).tj) < 1240) :
    exec (.thermalReturn c tj) s = .next (((s.tjRead c tj).thermalGone (s.headOf c)).resume (s.headOf c)) := by
  have hlat : ((s.tjRead c tj).latches (s.headOf c)).2.1 = true := by
    refine List.any_eq_true.mpr ⟨_, List.mem_map_of_mem (State.mem_legs _), ?_⟩
    rw [State.tjRead_latTherm, hl]
  rw [show exec (.thermalReturn c tj) s = execThermalReturn c tj s from rfl, execThermalReturn, onDie_on hon]
  refine congrArg Host.Outcome.next (Eq.trans (if_pos ?_) ?_) <;> rw [← State.tjRead, State.tjRead_headOf]
  · rw [hlat, State.tjRead_allBelow hb]
    rfl
  · rfl
theorem State.resume_latTherm (d : Ch) : ((s.resume c).ch d).latTherm = (s.ch d).latTherm :=
  (congrArg Prot.latTherm (State.ch_keeps (p := Chan.prot) State.resume_prot d)).trans rfl

/-! The clamp -/

@[simp] theorem State.enterClamp_level (d : Ch) : ((s.enterClamp c).ch d).level = (s.ch d).level := by
  obtain ⟨l, h⟩ := s.enterClamp_keeps (c := c) d
  exact (congrArg Prot.level h).trans rfl
@[simp] theorem State.enterClamp_faults (d : Ch) : ((s.enterClamp c).ch d).faults = (s.ch d).faults := by
  obtain ⟨l, h⟩ := s.enterClamp_keeps (c := c) d
  exact (congrArg Prot.faults h).trans rfl
/-- The level of the bucket of a channel after a clamp event (R85). -/
def State.clampLevel (s : State) (c : Ch) (e : Nat) : Rat := max (-80) ((s.ch c).level - (e : Rat) / 10)
/-- The energy that a turn-off has put into the clamp of a channel, or into those of a pair (R87, R88). -/
def State.clampSum (s : State) (c : Ch) (e : Nat) : Nat := if s.pairHead c then (s.ch c).evE + e else e
/-- The most energy that one turn-off may put into it (R87). -/
def State.clampMax (s : State) (c : Ch) : Nat := if s.pairHead c then 1600 else 800
/-- A clamp event taken into the bucket of the output (R84, R85). -/
def State.clampTaken (s : State) (c : Ch) (e : Nat) : State :=
  (((s.updCh c fun k => { k with clamping := false, clampEv := false }).updCh (s.headOf c) fun k =>
    { k with level := s.clampLevel (s.headOf c) e, evE := s.clampSum (s.headOf c) e }).setDie (F.OUT_BUCKET_LAST_EVENT (s.headOf c))
    (min e 0xFFFF)).evt (grpOf c) (.clampE (chN c) e)
/-- A clamp event that has left its bucket empty has locked the clamp (R86). -/
def State.clampChecked (s : State) (c : Ch) (e : Nat) : State :=
  if s.clampLevel (s.headOf c) e ≤ 0 then (s.clampTaken c e).enterClamp (s.headOf c) else s.clampTaken c e
theorem State.clampEnd_eq (e : Nat) : s.clampEnd c e =
    if s.clampMax (s.headOf c) < s.clampSum (s.headOf c) e then (s.clampChecked c e).enterFault (s.headOf c) 1
    else s.clampChecked c e := rfl
theorem State.clampTaken_ch (e : Nat) : ((s.clampTaken c e).ch (s.headOf c)).level = s.clampLevel (s.headOf c) e ∧
    ((s.clampTaken c e).ch (s.headOf c)).faults = (s.ch (s.headOf c)).faults := by
  have hevt (t : State) (d : EvData) : (t.evt (grpOf c) d).ch (s.headOf c) = t.ch (s.headOf c) := rfl
  rw [State.clampTaken, hevt]
  simp [apply_ite Chan.faults]
theorem State.clampChecked_ch (e : Nat) : ((s.clampChecked c e).ch (s.headOf c)).level = s.clampLevel (s.headOf c) e ∧
    ((s.clampChecked c e).ch (s.headOf c)).faults = (s.ch (s.headOf c)).faults := by
  unfold State.clampChecked
  split <;> simp [s.clampTaken_ch e]
theorem State.clampEnd_level (e : Nat) : ((s.clampEnd c e).ch (s.headOf c)).level = s.clampLevel (s.headOf c) e := by
  rw [State.clampEnd_eq]
  split <;> simp [(s.clampChecked_ch e).1]
theorem State.clampEnd_lastEvent (e : Nat) : (s.clampEnd c e).dreg (F.OUT_BUCKET_LAST_EVENT (s.headOf c)) = min e 0xFFFF := by
  have hchecked : (s.clampChecked c e).dreg (F.OUT_BUCKET_LAST_EVENT (s.headOf c)) = min e 0xFFFF := by
    unfold State.clampChecked State.clampTaken
    split <;> simp [State.dreg]
  rw [State.clampEnd_eq]
  split
  · rw [State.dreg_enterFault (by simp), hchecked]
  · exact hchecked
/-- A bucket at or below zero locks the clamp (R86). -/
theorem State.clampEnd_locks {e : Nat} (h : (s.ch (s.headOf c)).level - (e : Rat) / 10 ≤ 0) :
    ((s.clampEnd c e).ch (s.headOf c)).latClamp = true := by
  have hempty : s.clampLevel (s.headOf c) e ≤ 0 := max_le (by norm_num) h
  have hchecked : ((s.clampChecked c e).ch (s.headOf c)).latClamp = true := by
    rw [State.clampChecked, if_pos hempty]
    exact State.enterClamp_latched
  rw [State.clampEnd_eq]
  split <;> simp [hchecked]
/-- A turn-off that puts too much into the clamp is a fault (R87). -/
theorem State.clampEnd_faults {e : Nat}
    (h : (if s.pairHead (s.headOf c) then 1600 else 800) < (if s.pairHead (s.headOf c) then (s.ch (s.headOf c)).evE else 0) + e) :
    bit ((s.clampEnd c e).ch (s.headOf c)).faults 1 = true ∧
      ((s.ch (s.headOf c)).faults = 0 → ((s.clampEnd c e).ch (s.headOf c)).latFault ≠ 0) := by
  have hsum : s.clampSum (s.headOf c) e = (if s.pairHead (s.headOf c) then (s.ch (s.headOf c)).evE else 0) + e := by
    unfold State.clampSum
    split <;> simp
  rw [State.clampEnd_eq, hsum, State.clampMax, if_pos h]
  exact ⟨State.enterFault_records 1, fun h0 => State.enterFault_latched (by rw [(s.clampChecked_ch e).2, h0]; rfl) (by decide)⟩
/-- CLAMP_EVENT_END (R84, R308). -/
theorem exec_clampEventEnd (hon : s.dieOn (grpOf c) = true) (e : Nat) (h : (s.ch c).clampOff = false ∨ (s.ch c).clampEv = true) :
    exec (.clampEventEnd c e) s = .next (s.clampEnd c e) := by
  rw [show exec (.clampEventEnd c e) s = execClampEventEnd c e s from rfl, execClampEventEnd, onDie_on hon, if_neg]
  obtain h | h := h <;> simp [h]

/-! The checks -/

/-- PAIR_IMBALANCE (R89). -/
theorem exec_pairImbalance (hon : s.dieOn (grpOf c) = true) {n : Nat} (hn : (s.ch c).imbAt = some n) (hi : s.imbalanced c = true)
    (hp : s.passed (grpOf c) n 1000000 = true) : exec (.pairImbalance c) s = .next (s.diagSet c (F.OUT_DIAG_PAIR_IMBAL c)) := by
  rw [show exec (.pairImbalance c) s = execPairImbalance c s from rfl, execPairImbalance, onDie_on hon]
  simp [hn, hi, hp]
/-- STUCK_ON (R100). -/
theorem exec_stuckOn (hon : s.dieOn (grpOf c) = true) {i : Int} (hi : 50 < i) (hclamp : (s.ch c).clamping = false) (hsw : (s.ch c).sw = false)
    (hm : switchMode (s.ch c).mode = true) (hp : s.passed (grpOf c) (s.ch c).edgeAt 20000 = true) :
    exec (.stuckOn c ⟨i, true, false⟩) s = .next (s.enterFault (s.headOf c) 2) := by
  rw [show exec (.stuckOn c ⟨i, true, false⟩) s = execStuckOn c ⟨i, true, false⟩ s from rfl, execStuckOn, onDie_on hon,
    if_pos (by simp [hi, hclamp, hsw, hm, hp])]
end
end Sys2Proof.Machine

namespace Sys2Proof
open Machine

/-- Settles O8: each row is its operation; what the latch of one protection leaves of the others is said by `Chan.prot`. -/
theorem protectionCommands : Obligations.ProtectionCommands := by
  unfold Obligations.ProtectionCommands
  intro s c hon
  refine ⟨fun i i10 tj ua mv clamp => ?_, fun tj => ?_, fun tj htj hm => ?_, fun tj hl hb => ?_, fun e he => ?_, fun n hn hi hp => ?_,
    fun i hi hclamp hsw hm hp => ?_⟩
  · obtain ⟨hcur, hcur10, htj, hlevel, htheta⟩ := s.mean_takes (c := c) (i := i) (i10 := i10) (tj := tj) (ua := ua) (mv := mv) (clamp := clamp)
    refine ⟨_, exec_mean100us hon, hcur, hcur10, htj, State.mean_current, State.mean_volt, hlevel, fun hs => ?_, fun hpair hne => ?_⟩
    · rw [htheta, State.fuseCurrent_single hs]
    · rw [htheta, State.fuseCurrent_pair hpair hne]
  · refine ⟨_, exec_thermWarn hon tj, ?_, fun hhot => ?_, fun hcool hb => ?_⟩
    · have hread : ((s.tjRead c tj).ch c).tj = tj := (s.tjRead_tj tj c).trans (if_pos rfl)
      (repeat' split) <;> simpa [State.ch] using hread
    · rw [if_pos hhot]
      exact State.diagSet_don rfl
    · rw [if_neg (by omega), if_pos (State.tjRead_allBelow hb)]
      simp [State.diagClear, State.don]
  · exact ⟨_, exec_thermalOff hon htj hm, State.enterThermal_latched, fun hnew hown =>
      State.enterThermal_off ((State.tjRead_latTherm tj _).trans hnew) ((State.tjRead_switchable tj _).trans hown)⟩
  · exact ⟨_, exec_thermalReturn hon hl hb, (State.resume_latTherm _).trans State.thermalGone_latTherm⟩
  · exact ⟨_, exec_clampEventEnd hon e he, State.clampEnd_level e, State.clampEnd_lastEvent e, State.clampEnd_locks, State.clampEnd_faults⟩
  · exact ⟨_, exec_pairImbalance hon hn hi hp, State.diagSet_don rfl, by simp⟩
  · exact ⟨_, exec_stuckOn hon hi hclamp hsw hm hp, State.enterFault_records 2, fun hnew => State.enterFault_shows hnew (.inr rfl)⟩
end Sys2Proof

/-! ### The checks of an output and of its group, and the end of a stroke window (R97 to R102, R138) -/

namespace Sys2Proof.Machine

section
variable {s : State} {c : Ch}

/-! Off-state checks and cross-drive -/

@[simp] theorem State.offConfirmed_ch {r : Nat} {k : Option CrossSeen} (d : Ch) : (s.offConfirmed c r k).ch d = s.ch d := by simp [State.ch]
/-- OFF_CHECK_PHASE while the checks run (R97). -/
theorem exec_offCheckPhase (hon : s.dieOn (grpOf c) = true) (hchk : s.offChecks c = true) (high : Bool) (k : Option CrossSeen) :
    ∃ t, exec (.offCheckPhase c high k) s = .next t ∧ ((s.ch c).offHigh = none → (t.ch c).offHigh = some high) ∧
      ∀ on, (s.ch c).offHigh = some on → (t.ch c).offHigh = none ∧ (t.ch c).offPrev = offResult on high := by
  rw [show exec (.offCheckPhase c high k) s = execOffCheckPhase c high k s from rfl, execOffCheckPhase, onDie_on hon,
    if_neg (by simp [hchk])]
  refine ⟨_, rfl, fun h => by simp [h], fun on h => ?_⟩
  rw [h]
  dsimp only
  split <;> simp
/-- The neighbour suspected is named (R99). -/
theorem State.crossDrive_names {k : Ch} (hchk : s.offChecks c = true) (hk : s.crossSuspect c = some k) :
    s.crossDrive c = (s.setDie (F.OUT_DIAG_SUSPECT c) k.val).diagSet c (F.OUT_DIAG_CROSS_DRIVE c) := by
  simp [State.crossDrive, hchk, hk]
theorem State.dreg_suspect (k : Ch) : (s.setDie (F.OUT_DIAG_SUSPECT c) k.val).dreg (F.OUT_DIAG_SUSPECT c) = k.val :=
  (State.dreg_setDie ..).trans ((if_pos rfl).trans (Nat.mod_eq_of_lt k.isLt))
theorem State.crossing_suspect {d : Nat} {k : Ch} (he : (s.ch c).edge = none) (hchk : s.offChecks c = true) (hk : s.crossSuspect c = some k) :
    (s.crossing c d).chans = s.chans ∧ (s.crossing c d).don (F.OUT_DIAG_CROSS_DRIVE c) = true ∧
      (s.crossing c d).dreg (F.OUT_DIAG_SUSPECT c) = k.val := by
  rw [State.crossing, he]
  dsimp only
  rw [State.crossDrive_names hchk hk]
  exact ⟨by simp, State.diagSet_don rfl, (State.dreg_diagSet (by simp)).trans (State.dreg_suspect k)⟩

/-! Outputs wired together -/

/-- A diagnostic bit of another channel stands while one is set. -/
theorem State.don_diagSet {f k : Fld} (h : f ≠ k) : (s.diagSet c f).don k = s.don k := congrArg (· == 1) (State.dreg_diagSet h)
theorem State.don_setDie {f k : Fld} {v : Nat} (h : f ≠ k) : (s.setDie f v).don k = s.don k :=
  congrArg (· == 1) ((State.dreg_setDie ..).trans (if_neg h))
/-- Two channels shown as wired together, each naming the other (R101). -/
def State.wiredShown (s : State) (a b : Ch) : State :=
  (((s.setDie (F.OUT_DIAG_SUSPECT a) b.val).diagSet a (F.OUT_DIAG_WIRED a)).setDie (F.OUT_DIAG_SUSPECT b) a.val).diagSet b (F.OUT_DIAG_WIRED b)
theorem State.wiredShown_shows {a b : Ch} (h : a ≠ b) : (s.wiredShown a b).don (F.OUT_DIAG_WIRED a) = true ∧
    (s.wiredShown a b).don (F.OUT_DIAG_WIRED b) = true ∧ (s.wiredShown a b).dreg (F.OUT_DIAG_SUSPECT a) = b.val ∧
    (s.wiredShown a b).dreg (F.OUT_DIAG_SUSPECT b) = a.val := by
  have hne := Ne.symm h
  refine ⟨?_, State.diagSet_don rfl, ?_, ?_⟩
  · rw [State.wiredShown, State.don_diagSet (by simp [hne]), State.don_setDie (by simp), State.diagSet_don rfl]
  · rw [State.wiredShown, State.dreg_diagSet (by simp), State.dreg_setDie, if_neg (by simp [hne]), State.dreg_diagSet (by simp), State.dreg_suspect]
  · rw [State.wiredShown, State.dreg_diagSet (by simp), State.dreg_suspect]
theorem chOf_inj {g : Grp} {j k : ChN} (h : j ≠ k) : chOf g j ≠ chOf g k := fun e => h (by simpa using congrArg chN e)
/-- WIRED_DETECT with the signature of R101. -/
theorem exec_wiredDetect_signature {g : Grp} {j k : ChN} {i0 i1 : Int} (hon : s.dieOn g = true) (hne : j ≠ k) (hstep : 50 ≤ (i1 - i0).natAbs)
    (hrel : i0.natAbs < 4 * (i1 - i0).natAbs) (hsw : (s.ch (chOf g j)).sw = true) (hj : s.onLately (chOf g j) = true)
    (hk : s.onLately (chOf g k) = true) : exec (.wiredDetect g j k (i0, i1)) s = .next (s.wiredShown (chOf g j) (chOf g k)) := by
  rw [show exec (.wiredDetect g j k (i0, i1)) s = execWiredDetect g j k (i0, i1) s from rfl, execWiredDetect, onDie_on hon]
  dsimp only
  rw [if_pos (by simp [hstep, hrel]), if_pos (by simp [hsw, hj, hk, chOf_inj hne])]
  rfl
/-- WIRED_DETECT without it, of two channels shown as wired together (R101). -/
theorem exec_wiredDetect_apart {g : Grp} {j k : ChN} {i0 i1 : Int} (hon : s.dieOn g = true)
    (hno : ¬(50 ≤ (i1 - i0).natAbs ∧ i0.natAbs < 4 * (i1 - i0).natAbs)) (hw : s.wiredPair (chOf g j) (chOf g k) = true) :
    exec (.wiredDetect g j k (i0, i1)) s =
      .next ((s.diagClear (F.OUT_DIAG_WIRED (chOf g j))).diagClear (F.OUT_DIAG_WIRED (chOf g k))) := by
  rw [show exec (.wiredDetect g j k (i0, i1)) s = execWiredDetect g j k (i0, i1) s from rfl, execWiredDetect, onDie_on hon]
  dsimp only
  rw [if_neg (by simpa using hno), if_pos hw]
theorem State.diagClear_don (f k : Fld) : (s.diagClear f).don k = if f = k then false else s.don k := by
  unfold State.diagClear State.don
  rw [State.dreg_setDie]
  split <;> simp

/-! The group sum -/

/-- The channels of a group with their 10 us means. -/
def State.meansRead (s : State) (g : Grp) (cur : List Nat) : State :=
  (List.finRange 8).foldl (fun s n => s.updCh (chOf g n) fun k => { k with cur10 := cur.getD n.val 0, cur10At := s.clock }) s
/-- A group with its 10 us means and their sum (R102). -/
def State.groupRead (s : State) (g : Grp) (cur : List Nat) (sum : Nat) : State :=
  (s.meansRead g cur).setDie (F.GRP_OUT_SUM g) (min sum 0xFFFF)
/-- A channel but for its 10 us mean. -/
def Chan.unread (k : Chan) : Chan := { k with cur10 := 0, cur10At := 0 }
variable {g : Grp} {cur : List Nat} {sum : Nat}

theorem State.meansRead_keeps : (s.meansRead g cur).chans.map Chan.unread = s.chans.map Chan.unread := by
  unfold State.meansRead
  refine State.foldl_keep (fun s => s.chans.map Chan.unread) (fun s n => ?_) _ s
  exact State.updCh_keeps fun _ => rfl
theorem State.meansRead_frame : (s.meansRead g cur).hub = s.hub ∧ (s.meansRead g cur).die = s.die := by
  unfold State.meansRead
  simp -implicitDefEqProofs
theorem State.groupRead_dreg {f : Fld} (h : F.GRP_OUT_SUM g ≠ f) : (s.groupRead g cur sum).dreg f = s.dreg f := by
  rw [State.groupRead, State.dreg_setDie, if_neg h, State.dreg, State.meansRead_frame.2, State.dreg]
theorem State.groupRead_sum : (s.groupRead g cur sum).dreg (F.GRP_OUT_SUM g) = min sum 0xFFFF := by
  simp [State.groupRead]
/-- What the 10 us means do not tell of a channel: whether it heads a pair, conducts, is the second of a pair, or has a switch to command. -/
theorem State.groupRead_same (d : Ch) : (s.groupRead g cur sum).pairHead d = s.pairHead d ∧
    (s.groupRead g cur sum).conducts d = s.conducts d ∧ ((s.groupRead g cur sum).ch d).member = (s.ch d).member ∧
    (s.groupRead g cur sum).switchable d = s.switchable d := by
  have h : ((s.meansRead g cur).ch d).unread = (s.ch d).unread := State.ch_keeps State.meansRead_keeps d
  have hclock : (s.groupRead g cur sum).clock = s.clock := by
    rw [State.clock, State.groupRead, State.setDie_hub, State.meansRead_frame.1, State.clock]
  rw [← State.ch_setDie (s := s.meansRead g cur) (F.GRP_OUT_SUM g) (min sum 0xFFFF), ← State.groupRead] at h
  simp only [Chan.unread, Chan.mk.injEq] at h
  simp only [State.pairHead, State.conducts, State.switchable, hclock, h, and_self]
theorem State.groupRead_shedPick : (s.groupRead g cur sum).shedPick g cur = s.shedPick g cur := by
  have hexc (d : Ch) : (s.groupRead g cur sum).shedExcess cur d = s.shedExcess cur d := by
    have hlim : (s.groupRead g cur sum).dreg (F.OUT_LIMIT_CUR_LIMIT d) = s.dreg (F.OUT_LIMIT_CUR_LIMIT d) := State.groupRead_dreg (by simp)
    simp only [State.shedExcess, State.groupRead_same, hlim]
  simp only [State.shedPick, State.groupRead_same, hexc]
/-- A channel shed is off, and commanded off (R102). -/
theorem State.shedCh_off : ((s.shedCh c).ch c).cmdOn = false ∧ ((s.shedCh c).ch c).run = none ∧
    (s.switchable c = true → ((s.shedCh c).ch c).sw = false) := by
  have hevt (t : State) (d : EvData) : (t.evt (grpOf c) d).ch c = t.ch c := rfl
  have hlocal (t : State) (data : Nat) : (t.local (grpOf c) 0x40 (chN c) 2 data).ch c = t.ch c := by simp [State.ch]
  rw [State.shedCh, hlocal, State.urgent_ch, hevt, State.ch_updCh, if_pos rfl]
  exact ⟨rfl, rfl, fun h => (State.forceOff_off h).1⟩
theorem State.shedCh_dreg {f : Fld} : (s.shedCh c).dreg f = s.dreg f := by simp [State.dreg]
/-- The channel picked is shed, if there is one (R102). -/
def State.shedTop (s : State) (g : Grp) (cur : List Nat) : State :=
  match s.shedPick g cur with
  | none => s
  | some c => s.shedCh c
theorem State.shedTop_some (h : s.shedPick g cur = some c) : s.shedTop g cur = s.shedCh c := by rw [State.shedTop, h]
theorem State.shedTop_dreg {f : Fld} : (s.shedTop g cur).dreg f = s.dreg f := by
  unfold State.shedTop
  split
  · rfl
  · exact State.shedCh_dreg
/-- GROUP_SHED (R102). -/
theorem exec_groupShed (hon : s.dieOn g = true) : exec (.groupShed g cur sum) s =
    .next (if 6500 < sum then (s.groupRead g cur sum).shedTop g cur else s.groupRead g cur sum) := by
  rw [show exec (.groupShed g cur sum) s = execGroupShed g cur sum s from rfl, execGroupShed, onDie_on hon]
  rfl

/-! The end of a stroke window -/

theorem State.reg_condition {lane : Grp} {x : Cond} {f : Fld} (hf : f.plain = true) (hl : F.RFX_TALLY_B_COND_LOST ≠ f) :
    (s.condition lane x).reg f = s.reg f := by
  unfold State.condition
  dsimp only
  split
  · rfl
  split
  · rw [State.reg_cause_plain _ _ hf, State.reg_tally, if_neg hl]
    rfl
  · rfl
/-- A window that closes without a stroke shows its result (Table 6.1). -/
theorem State.strokeDecide_result {w : Stroke} {kind reason : Nat} (hk : kind = 3 ∨ kind = 4) :
    (s.strokeDecide c w kind reason).reg (F.SK_LAST_RESULT c) = kind := by
  have hp : (F.SK_LAST_RESULT c).plain = true := by simp [Fld.plain]
  unfold State.strokeDecide
  dsimp only
  rw [apply_ite (State.reg · (F.SK_LAST_RESULT c)), State.reg_notify _ _ hp, ite_self, State.reg_condition hp (by simp)]
  obtain rfl | rfl := hk <;> simp [State.reg_cause_plain _ _ hp, State.reg_tally]
theorem State.strokeDecide_closes {w : Stroke} {kind reason : Nat} (hk : kind ≠ 1) :
    ((s.strokeDecide c w kind reason).ch c).stroke = none := by
  unfold State.strokeDecide
  simp [State.ch, hk, State.updCh]
/-- STROKE_WINDOW_EXPIRY (R138). -/
theorem exec_strokeWindowExpiry (hhub : s.hubOn = true) {w : Stroke} {t0 : Nat} (hw : (s.ch c).stroke = some w) (ht0 : w.t0 = some t0)
    (hend : t0 + strokeWindow (s.reg (F.SK_CFG_WINDOW c)) ≤ s.now) : exec (.strokeWindowExpiry c) s =
      .next (if w.residual then s.strokeDecide c w 4 6 else s.strokeDecide c w 3 (if w.limited then 3 else 1)) := by
  rw [show exec (.strokeWindowExpiry c) s = execStrokeWindowExpiry c s from rfl, execStrokeWindowExpiry, onHub_on hhub]
  simp [State.window, hhub, hw, ht0, hend]
end
end Sys2Proof.Machine

namespace Sys2Proof
open Machine

/-- Settles O9: each row is its operation, of which the lemmas above say what it shows. -/
theorem diagnosticCommands : Obligations.DiagnosticCommands := by
  unfold Obligations.DiagnosticCommands
  refine ⟨fun s c high k hon hchk => exec_offCheckPhase hon hchk high k, fun s c k d hon hd he hchk hk => ?_,
    fun s g j k i0 i1 hon hne hstep hrel hsw hj hk => ?_, fun s g j k i0 i1 hon hno hw => ?_, fun s g cur sum hon => ?_,
    fun s c w t0 hhub hw ht0 hend => ?_⟩
  · exact ⟨_, exec_senseCrossing hon hd, State.crossing_suspect he hchk hk⟩
  · exact ⟨_, exec_wiredDetect_signature hon hne hstep hrel hsw hj hk, State.wiredShown_shows (chOf_inj hne)⟩
  · exact ⟨_, exec_wiredDetect_apart hon hno hw, by rw [State.diagClear_don, State.diagClear_don, if_pos rfl, ite_self],
      by rw [State.diagClear_don, if_pos rfl]⟩
  · refine ⟨_, exec_groupShed hon, ?_, fun hsum c hc => ?_⟩
    · split
      · exact State.shedTop_dreg.trans State.groupRead_sum
      · exact State.groupRead_sum
    · rw [if_pos hsum, State.shedTop_some (State.groupRead_shedPick.trans hc)]
      obtain ⟨hcmd, hrun, hsw⟩ := State.shedCh_off (s := s.groupRead g cur sum) (c := c)
      obtain ⟨-, -, -, hswitch⟩ := State.groupRead_same (s := s) (g := g) (cur := cur) (sum := sum) c
      exact ⟨hcmd, hrun, fun hown => hsw (hswitch.trans hown)⟩
  · refine ⟨_, exec_strokeWindowExpiry hhub hw ht0 hend, ?_, ?_, ?_⟩
    · split <;> exact State.strokeDecide_closes (by decide)
    · split <;> simp
    · split
      · exact State.strokeDecide_result (.inr rfl)
      · exact State.strokeDecide_result (.inl rfl)
end Sys2Proof

/-! ### The Fold: what its operations leave of the slots and of the ring's head (R106 to R122, R131) -/
namespace Sys2Proof.Machine

/-- The entry at the head of ring 2, and whether it waits for slots. -/
def State.head (s : State) : Option Entry × Nat := (s.host.head2, s.reg F.FOLD_STATUS_FULL_WAIT)

section
variable {s : State} {g : Grp} {x : Slot}

/-! The slots -/

@[simp] theorem State.lowWater_slots : s.lowWater.fold.slots = s.fold.slots := by
  unfold State.lowWater
  dsimp only
  (repeat' split) <;> simp
@[simp] theorem State.actionCmd_slots {t target action param : Nat} : (s.actionCmd t target action param).fold.slots = s.fold.slots := by
  have hat (s : State) (t : Nat) (c : Ch) (on run : Bool) : (s.cmdAt t c on run).fold.slots = s.fold.slots := by
    unfold State.cmdAt
    split <;> simp
  unfold State.actionCmd
  split <;> simp [hat]
theorem State.cancelAbsent_slots : s.cancelAbsent.fold.slots = s.fold.slots.filter fun x => !(x.due && s.stranded x) := State.cancelSlots_slots
/-- A released slot is free (R111). -/
theorem State.releaseSlot_slots : (s.releaseSlot x).fold.slots = s.fold.slots.filter fun y => y.idx != x.idx := by
  unfold State.releaseSlot State.markNote
  dsimp only
  (repeat' split) <;> simp

/-! The head of ring 2 -/

theorem State.head_eq {t : State} (he : t.host.head2 = s.host.head2) (hw : t.reg F.FOLD_STATUS_FULL_WAIT = s.reg F.FOLD_STATUS_FULL_WAIT) :
    t.head = s.head := Prod.ext he hw
theorem State.head_iff {e : Option Entry} {n : Nat} : s.head = (e, n) ↔ s.host.head2 = e ∧ s.reg F.FOLD_STATUS_FULL_WAIT = n := Prod.ext_iff
@[simp] theorem State.ite_head {p : Prop} [Decidable p] {a b : State} : (if p then a else b).head = if p then a.head else b.head := apply_ite ..
@[simp] theorem State.updLink_head {k : Link → Link} : (s.updLink g k).head = s.head := rfl
@[simp] theorem State.updCh_head {c : Ch} {k : Chan → Chan} : (s.updCh c k).head = s.head := rfl
@[simp] theorem State.fold_head {k : FoldSt} : ({ s with fold := k } : State).head = s.head := rfl
@[simp] theorem State.tally_head {f : Fld} {k : Nat} (h : f ≠ F.FOLD_STATUS_FULL_WAIT) : (s.tally f k).head = s.head :=
  State.head_eq (by simp) (by rw [State.reg_tally, if_neg h])
@[simp] theorem State.wrapTally_head {f : Fld} {k : Nat} (h : f ≠ F.FOLD_STATUS_FULL_WAIT) : (s.wrapTally f k).head = s.head :=
  State.head_eq (by simp) (by rw [State.reg_wrapTally, if_neg h])
@[simp] theorem State.hwSet_head {f : Fld} {v : Nat} (h : f ≠ F.FOLD_STATUS_FULL_WAIT) : (s.hwSet f v).head = s.head := by
  unfold State.hwSet
  split
  · rfl
  · exact State.head_eq rfl (by rw [State.reg_setReg, if_neg h])
@[simp] theorem State.cause_head {u : U} {k : Nat} : (s.cause u k).head = s.head := by
  refine State.head_eq ?_ (State.reg_cause_plain _ _ rfl)
  unfold State.cause State.unitMessage State.requestMsix State.deliverMsix
  (repeat' split) <;> simp
@[simp] theorem State.notify_head {kind : Nat} {body : List Place} : (s.notify kind body).head = s.head := by
  refine State.head_eq ?_ (State.reg_notify _ _ rfl)
  have hcause (t : State) (u : U) (k : Nat) : (t.cause u k).host.head2 = t.host.head2 := congrArg Prod.fst State.cause_head
  unfold State.notify State.raise State.loseNote
  dsimp only
  (repeat' split) <;> simp [hcause]
@[simp] theorem State.lowWater_head : s.lowWater.head = s.head := by
  unfold State.lowWater
  simp
@[simp] theorem State.setCmd_head {c : Ch} {on run : Bool} : (s.setCmd c on run).head = s.head := by
  unfold State.setCmd
  simp
@[simp] theorem State.cmdAt_head {t : Nat} {c : Ch} {on run : Bool} : (s.cmdAt t c on run).head = s.head := by
  unfold State.cmdAt
  simp
@[simp] theorem State.actionCmd_head {t target action param : Nat} : (s.actionCmd t target action param).head = s.head := by
  unfold State.actionCmd
  split <;> simp
@[simp] theorem State.slotLate_head {target action t outcome where_ lateness : Nat} :
    (s.slotLate target action t outcome where_ lateness).head = s.head := by
  unfold State.slotLate
  simp
@[simp] theorem State.cancelNote_head {l : List Slot} {chByte cause rule : Nat} : (s.cancelNote l chByte cause rule).head = s.head := by
  unfold State.cancelNote
  split <;> simp
@[simp] theorem State.cancelSlots_head {p : Slot → Bool} {cause rule : Nat} : (s.cancelSlots p cause rule).head = s.head := by
  unfold State.cancelSlots
  dsimp only
  rw [State.lowWater_head, State.cancelNote_head]
  exact State.foldl_keep State.head (fun s c => by simp) _ _
@[simp] theorem State.releaseSlot_head : (s.releaseSlot x).head = s.head := by
  unfold State.releaseSlot State.markNote
  simp
@[simp] theorem State.releaseOrWait_head : (s.releaseOrWait x).head = s.head := by
  have hdue (t : State) : (t.markDue x).head = t.head := rfl
  unfold State.releaseOrWait
  simp [hdue]
@[simp] theorem State.lateSlot_head {where_ : Nat} : (s.lateSlot x where_).head = s.head := by
  unfold State.lateSlot
  dsimp only
  split
  · rw [State.releaseOrWait_head, State.fold_head, State.tally_head, State.slotLate_head]
    simp
  · rw [State.tally_head, State.slotLate_head, State.fold_head]
    simp
@[simp] theorem State.enterAction_head {policy t target action param : Nat} : (s.enterAction policy t target action param).head = s.head := by
  have hpeak (t : State) : t.peakOcc.head = t.head := by
    unfold State.peakOcc
    simp
  unfold State.enterAction
  dsimp only
  rw [hpeak]
  split
  · exact State.lateSlot_head
  · rfl

/-! An entry is taken -/

/-- A slot holds the j-th action of an entry. -/
def Slot.holds (x : Slot) (e : Entry) (j : Nat) : Prop :=
  x.t = bytesAt e (4 + 16 * j) 8 ∧ x.target = bytesAt e (12 + 16 * j) 1 ∧ x.action = bytesAt e (13 + 16 * j) 1 ∧
    x.param = bytesAt e (16 + 16 * j) 4
/-- The actions of an entry enter the Fold in their order (R107). -/
def State.enterAll (s : State) (e : Entry) (l : List Nat) : State :=
  l.foldl (fun s j => s.enterAction (bytesAt e 1 1 / 4 % 4) (bytesAt e (4 + 16 * j) 8) (bytesAt e (12 + 16 * j) 1) (bytesAt e (13 + 16 * j) 1)
    (bytesAt e (16 + 16 * j) 4)) s
/-- An entry at the head of ring 2 is consumed. -/
def State.headGone (s : State) : State := ({ s with host := { s.host with head2 := none } } : State).consume 2

@[simp] theorem State.enterAction_lasting {fld : Fld} (hk : fld.lasting = true) {policy t target action param : Nat} :
    (s.enterAction policy t target action param).regs.get fld = s.regs.get fld := by
  unfold State.enterAction State.peakOcc
  simp -implicitDefEqProofs [hk]
/-- While ENABLE is 0 an action takes a slot and nothing else becomes of it (R117). -/
theorem State.enterAction_slots (hoff : s.on F.FOLD_CTRL_ENABLE = false) (policy t target action param : Nat) :
    ∃ x : Slot, (s.enterAction policy t target action param).fold.slots = s.fold.slots ++ [x] ∧
      x.due = false ∧ x.t = t ∧ x.target = target ∧ x.action = action ∧ x.param = param := by
  unfold State.enterAction
  simp only [hoff, Bool.false_and, Bool.false_eq_true, if_false, State.peakOcc_frame]
  exact ⟨_, rfl, rfl, rfl, rfl, rfl, rfl⟩
/-- While ENABLE is 0 each action of an entry stands in a new slot, which waits for no room (R107, R117). -/
theorem State.enterAll_slots {e : Entry} {l : List Nat} (hoff : s.on F.FOLD_CTRL_ENABLE = false) :
    ∃ new, (s.enterAll e l).fold.slots = s.fold.slots ++ new ∧ new.length = l.length ∧ (∀ x ∈ new, x.due = false) ∧
      ∀ j ∈ l, ∃ x ∈ new, x.holds e j := by
  induction l generalizing s with
  | nil => exact ⟨[], (List.append_nil _).symm, rfl, nofun, nofun⟩
  | cons j t ih =>
    obtain ⟨x, hx, hdue, hholds⟩ := State.enterAction_slots hoff (bytesAt e 1 1 / 4 % 4) (bytesAt e (4 + 16 * j) 8) (bytesAt e (12 + 16 * j) 1)
      (bytesAt e (13 + 16 * j) 1) (bytesAt e (16 + 16 * j) 4)
    obtain ⟨new, hnew, hlen, hdues, hall⟩ := ih (s := s.enterAction _ _ _ _ _) (by simpa [State.on, State.reg] using hoff)
    refine ⟨x :: new, by rw [List.append_cons, ← hx]; exact hnew, congrArg (· + 1) hlen, List.forall_mem_cons.mpr ⟨hdue, hdues⟩, ?_⟩
    exact List.forall_mem_cons.mpr ⟨⟨x, List.mem_cons_self, hholds⟩,
      fun i hi => (hall i hi).imp fun _ => And.imp_left (List.mem_cons_of_mem x)⟩
theorem State.enterAll_head {e : Entry} {l : List Nat} : (s.enterAll e l).head = s.head := State.foldl_keep State.head (fun s j => by simp) l s
theorem State.enterAll_lasting {fld : Fld} (hk : fld.lasting = true) {e : Entry} {l : List Nat} :
    (s.enterAll e l).reg fld = s.reg fld := State.foldl_keep (State.reg · fld) (fun s j => by simp [State.reg, hk]) l s
theorem State.headGone_lasting {fld : Fld} (hk : fld.lasting = true) : s.headGone.reg fld = s.reg fld :=
  (State.wrapTally_lasting hk rfl).trans (State.wrapTally_lasting hk rfl)
theorem State.headGone_head2 : s.headGone.host.head2 = none := by
  unfold State.headGone State.consume
  simp [State.updRing]
/-- A group is absent or present by its STATE, which lasts. -/
theorem State.stranded_congr {t : State} (h : ∀ g, t.reg (F.GRP_STATUS_STATE g) = s.reg (F.GRP_STATUS_STATE g)) : t.stranded x = s.stranded x := by
  simp only [State.stranded, State.absent, State.grpState, h]
/-- A SCHEDULE entry that fits is taken whole (R107). -/
theorem exec_schedule {e : Entry} (hon : s.hubOn = true) (he : s.host.head2 = some e) (hf : s.feeds = true) (hop : bytesAt e 0 1 = 0x20)
    (hok : refuseReason e = 0) (hroom : s.occupancy + entryCount e ≤ 192) :
    exec .schedule s =
      .next ((s.headGone.setReg F.FOLD_STATUS_FULL_WAIT 0).enterAll e (List.range (entryCount e))).cancelAbsent.lowWater := by
  rw [show exec .schedule s = execSchedule s from rfl, execSchedule, onHub_on hon]
  simp [State.scheduleHead, he, hf, hop, hok, Nat.not_lt.mpr hroom, State.enterAll, State.headGone]
theorem State.schedule_head {e : Entry} {l : List Nat} :
    ((s.headGone.setReg F.FOLD_STATUS_FULL_WAIT 0).enterAll e l).cancelAbsent.lowWater.head = (none, 0) := by
  rw [State.lowWater_head, State.cancelAbsent, State.cancelSlots_head, State.enterAll_head, State.head_iff]
  exact ⟨State.headGone_head2, by simp⟩
/-- What an entry taken while ENABLE is 0 leaves in the Fold (R107, R117, R122). -/
theorem State.schedule_slots {e : Entry} {n : Nat} (hoff : s.on F.FOLD_CTRL_ENABLE = false) :
    ∃ new, ((s.headGone.setReg F.FOLD_STATUS_FULL_WAIT 0).enterAll e (List.range n)).cancelAbsent.lowWater.fold.slots =
      s.fold.slots.filter (fun x => !(x.due && s.stranded x)) ++ new ∧ new.length = n ∧ ∀ j < n, ∃ x ∈ new, x.holds e j := by
  have hlast {t : State} {fld : Fld} (hk : fld.lasting = true) (hne : F.FOLD_STATUS_FULL_WAIT ≠ fld) :
      (t.headGone.setReg F.FOLD_STATUS_FULL_WAIT 0).reg fld = t.reg fld := by
    rw [State.reg_setReg, if_neg hne, State.headGone_lasting hk]
  obtain ⟨new, hnew, hlen, hdues, hall⟩ := State.enterAll_slots (s := s.headGone.setReg F.FOLD_STATUS_FULL_WAIT 0) (e := e) (l := List.range n)
    (by simpa [State.on, hlast (t := s) (fld := F.FOLD_CTRL_ENABLE) rfl (by simp)] using hoff)
  have hslots : (s.headGone.setReg F.FOLD_STATUS_FULL_WAIT 0).fold.slots = s.fold.slots := by simp [State.headGone]
  refine ⟨new, ?_, hlen.trans List.length_range, fun j hj => hall j (List.mem_range.mpr hj)⟩
  have hstr (x : Slot) : ((s.headGone.setReg F.FOLD_STATUS_FULL_WAIT 0).enterAll e (List.range n)).stranded x = s.stranded x :=
    State.stranded_congr fun g => by rw [State.enterAll_lasting rfl, hlast rfl (by simp)]
  have hkept : new.filter (fun x => !(x.due && s.stranded x)) = new := List.filter_eq_self.mpr fun x hx => by simp [hdues x hx]
  rw [State.lowWater_slots, State.cancelAbsent_slots, hnew, hslots, List.filter_append]
  simp only [hstr, hkept]
/-- A CANCEL entry is applied at once (R118, R121). -/
theorem exec_cancelEntry {e : Entry} (hon : s.hubOn = true) (he : s.host.head2 = some e) (hf : s.feeds = true) (hop : bytesAt e 0 1 = 0x21)
    (hok : refuseReason e = 0) : exec .cancelEntry s = .next (s.headGone.cancelSlots (fun x =>
      (if x.isMark then bytesAt e 4 4 == 2 ^ 32 - 1 else (bytesAt e 4 4).testBit (tgt x.target).val) &&
        bytesAt e 8 8 ≤ x.t / 4 * 4 && x.t / 4 * 4 ≤ bytesAt e 16 8) 4 0).lowWater := by
  rw [show exec .cancelEntry s = execCancelEntry s from rfl, execCancelEntry, onHub_on hon]
  simp [State.cancelHead, he, hf, hop, hok, State.headGone]

/-! Slots that fall due -/

/-- The first of a list of slots is one of them. -/
theorem mem_of_firstSlot {l : List Slot} (h : firstSlot l = some x) : x ∈ l := by
  induction l generalizing x with
  | nil => simp [firstSlot] at h
  | cons y t ih =>
    unfold firstSlot at h
    split at h
    · simp_all
    · next z hz =>
      obtain rfl := Option.some.inj h
      split
      · exact List.mem_cons_self
      · exact List.mem_cons_of_mem _ (ih hz)
theorem firstSlot_eq_none {l : List Slot} : firstSlot l = none ↔ l = [] := by
  cases l with
  | nil => simp [firstSlot]
  | cons y t =>
    simp only [firstSlot, reduceCtorEq, iff_false]
    split <;> simp
/-- The waiting slots of a group that `State.drain` looks among. -/
def State.waiting (s : State) (g : Grp) : List Slot :=
  s.fold.slots.filter fun x => x.due && grpOf (tgt x.target) == g && s.roomFor x && !s.stranded x
/-- With one turn for each slot, the Fold is drained of what waits and has room (R111). -/
theorem State.drain_waiting {k : Nat} (h : s.fold.slots.length ≤ k) : (State.drain g k s).waiting g = [] := by
  induction k generalizing s with
  | zero =>
    have hnone : s.fold.slots = [] := List.eq_nil_of_length_eq_zero (Nat.le_zero.mp h)
    simp [State.drain, State.waiting, hnone]
  | succ n ih =>
    unfold State.drain
    split
    · next hnone => exact firstSlot_eq_none.mp hnone
    · next x hx =>
      have hmem : x ∈ s.fold.slots := List.mem_of_mem_filter (mem_of_firstSlot hx)
      have hless : (s.releaseSlot x).fold.slots.length < s.fold.slots.length := by
        rw [State.releaseSlot_slots]
        exact List.length_filter_lt_length_iff_exists.mpr ⟨x, hmem, by simp⟩
      exact ih (by omega)

/-! A list from which the elements of a test are taken one by one -/

theorem mem_foldl_erase {α : Type} [BEq α] [LawfulBEq α] {p : α → Bool} {l gone : List α} (hg : gone.Perm (l.filter p)) (a : α) :
    a ∈ gone.foldl List.erase l ↔ a ∈ l ∧ p a = false := by
  rw [← List.diff_eq_foldl, ← List.count_pos_iff, List.count_diff, hg.count_eq, ← List.count_pos_iff]
  cases hp : p a with
  | true => simp [List.count_filter hp]
  | false => simp [List.count_eq_zero_of_not_mem (l := l.filter p) (a := a) (by simp [hp])]
theorem insSorted_perm {α : Type} (le : α → α → Bool) (x : α) (l : List α) : (insSorted le x l).Perm (x :: l) := by
  induction l with
  | nil => exact .refl _
  | cons y t ih =>
    unfold insSorted
    split
    · exact (ih.cons y).trans (.swap x y t)
    · exact .refl _
theorem sortBy_perm {α : Type} (le : α → α → Bool) (l : List α) : (sortBy le l).Perm l := by
  have key (l acc : List α) : (l.foldl (fun a x => insSorted le x a) acc).Perm (acc ++ l) := by
    induction l generalizing acc with
    | nil => simp
    | cons x t ih =>
      refine (ih _).trans (((insSorted_perm le x acc).append_right t).trans ?_)
      exact List.perm_middle.symm
  exact key l []

/-! What waits for a measurement -/

theorem State.waitEnds_waits {c : Ch} {w : EdgeWait} {none_ : Bool} {cross d : Nat} :
    ((s.waitEnds c w none_ cross d).ch c).waits = (s.ch c).waits.erase w := by
  have hch (t : State) : (t.edgeDone w none_ cross d).ch c = t.ch c := by simp [State.ch]
  unfold State.waitEnds
  dsimp only
  (repeat' split) <;> simp [hch]
theorem State.foldl_waitEnds_waits {c : Ch} {none_ : Bool} {cross d : Nat} {l : List EdgeWait} :
    ((l.foldl (fun s w => s.waitEnds c w none_ cross d) s).ch c).waits = l.foldl List.erase (s.ch c).waits := by
  induction l generalizing s with
  | nil => rfl
  | cons w t ih => rw [List.foldl_cons, List.foldl_cons, ih, State.waitEnds_waits]
/-- EDGE_DONE is queued where a slot asks for it (R131). -/
theorem State.waitEnds_notif {c : Ch} {w : EdgeWait} {none_ : Bool} {cross d : Nat} (hask : 128 ≤ w.action)
    (hen : s.on (F.RING_CFG_ENABLE 3) = true) (hroom : s.host.notif.length < 128) :
    ∃ b, (s.waitEnds c w none_ cross d).host.notif = s.host.notif ++ [{ kind := 0x14, body := b }] := by
  have hnote := State.notify_queued (s := s.updCh c fun k => { k with waits := k.waits.erase w }) 0x14
    [(12, 1, w.target), (13, 1, w.action), (14, 1, b2n w.uncomp + 2 * b2n w.late + 4 * b2n w.adj + 8 * b2n none_),
      (16, 8, w.t), (24, 8, cross), (32, 4, d)] hen hroom
  refine ⟨_, Eq.trans ?_ hnote⟩
  unfold State.waitEnds
  dsimp only
  rw [if_pos hask]
  split <;> rfl

/-! The rows -/

/-- Room for a slot is a matter of its group's STATE and queue (R111). -/
theorem State.roomFor_congr {t : State} (hl : t.links = s.links) (h : ∀ g, t.reg (F.GRP_STATUS_STATE g) = s.reg (F.GRP_STATUS_STATE g)) :
    t.roomFor x = s.roomFor x := by
  rw [State.roomFor, State.roomFor, State.stranded_congr h, State.link, State.link, hl]
theorem State.cancelAbsent_lowWater_lasting {fld : Fld} (hk : fld.lasting = true) : s.cancelAbsent.lowWater.reg fld = s.reg fld := by
  simp [State.reg, State.cancelAbsent, hk]
theorem State.cancelAbsent_lowWater_roomFor : s.cancelAbsent.lowWater.roomFor x = s.roomFor x :=
  State.roomFor_congr (by simp) fun _ => State.cancelAbsent_lowWater_lasting rfl
/-- QUEUE_ROOM (R111, R114). -/
theorem exec_queueRoom (hon : s.hubOn = true) : exec (.queueRoom g) s = .next (State.drain g 192 s).cancelAbsent.lowWater := by
  rw [show exec (.queueRoom g) s = execQueueRoom g s from rfl, execQueueRoom, onHub_on hon]
/-- What waits after the cancel of the slots of absent groups has no room, when nothing waits that has (R111, R122). -/
theorem State.cancelAbsent_full (h : s.waiting g = []) (hx : x ∈ s.cancelAbsent.lowWater.fold.slots) (hdue : x.due = true)
    (hg : grpOf (tgt x.target) = g) : s.cancelAbsent.lowWater.roomFor x = false := by
  rw [State.lowWater_slots, State.cancelAbsent_slots, List.mem_filter] at hx
  obtain ⟨hx, hpresent⟩ := hx
  have hfull := List.filter_eq_nil_iff.mp h x hx
  rw [State.cancelAbsent_lowWater_roomFor]
  simp_all
/-- EDGE_DONE_TIMEOUT (R131). -/
theorem exec_edgeDoneTimeout {c : Ch} (hon : s.hubOn = true) : exec (.edgeDoneTimeout c) s =
    .next (((s.ch c).waits.filter fun w => w.g + 50000 ≤ s.now).foldl (fun s w => s.waitEnds c w true 0 0) s) := by
  rw [show exec (.edgeDoneTimeout c) s = execEdgeDoneTimeout c s from rfl, execEdgeDoneTimeout, onHub_on hon]
/-- SLOT_DUE of a slot with room: cancelled when its group is absent, else released (R110, R111, R122). -/
theorem exec_slotDue (hon : s.hubOn = true) (hx : firstSlot s.dueSlots = some x) (hroom : s.roomFor x = true) :
    exec .slotDue s = .next (if s.stranded x then (s.cancelSlots (fun y => s.stranded y && decide (y ∈ s.dueSlots)) 5 0).lowWater
      else (s.releaseSlot x).lowWater) := by
  rw [show exec .slotDue s = execSlotDue s from rfl, execSlotDue, onHub_on hon, State.slotDue]
  simp only [hx]
  split
  · rfl
  · next h => rw [State.releaseOrWait, if_neg h, if_pos hroom]
theorem State.cancelled_head2 {p : Slot → Bool} {cause rule : Nat} : (s.headGone.cancelSlots p cause rule).lowWater.host.head2 = none := by
  have h : (s.headGone.cancelSlots p cause rule).lowWater.head = s.headGone.head := State.lowWater_head.trans State.cancelSlots_head
  simp only [State.head, Prod.mk.injEq] at h
  exact h.1.trans State.headGone_head2
/-- The command of a released slot is the last in its group's queue (R110). -/
theorem State.releaseSlot_sends (hmark : x.isMark = false) :
    ∃ m, ((s.releaseSlot x).link (grpOf (tgt x.target))).tx = (s.link (grpOf (tgt x.target))).tx ++ [m] ∧
      m.cmd = s.timedCmd x.t x.target x.action x.param := by
  have hcmd (t : State) (n k a p : Nat) (g : Grp) : (t.actionCmd n k a p).link g = t.link g := by simp [State.link]
  have htally (t : State) (f : Fld) (k : Nat) (g : Grp) : (t.wrapTally f k).link g = t.link g := by simp [State.link]
  unfold State.releaseSlot
  simp only [hmark, Bool.false_eq_true, if_false]
  split <;> simp only [State.link_updCh, hcmd, htally, State.link_updLink, if_true] <;> exact ⟨_, rfl, rfl⟩
end
end Sys2Proof.Machine

namespace Sys2Proof
open Machine

/-- Settles O6: with one turn for each of at most 192 slots nothing that waits for the group is left that has room, but for the slots of an
absent group, which the cancel at the end takes. -/
theorem queueRoomDrains : Obligations.QueueRoomDrains := by
  unfold Obligations.QueueRoomDrains
  exact fun s g hon hlen => ⟨_, exec_queueRoom hon, fun x hx hdue hg => State.cancelAbsent_full (State.drain_waiting hlen) hx hdue hg⟩

/-- Settles O5: a taken entry's actions are slots appended (`State.enterAll_slots`), a cancel is a filter of the slots, a due slot's release
sends its command, and what waits for a measurement is taken from its list one by one. -/
theorem foldCommands : Obligations.FoldCommands := by
  unfold Obligations.FoldCommands
  refine ⟨fun s e hon he hf hop hok hroom => ?_, fun s e hon he hf hop hok => ?_, fun s x hon hx hroom => ?_, fun s c hon => ?_⟩
  · refine ⟨_, exec_schedule hon he hf hop hok hroom, ?_⟩
    obtain ⟨hgone, hwait⟩ := State.head_iff.mp (State.schedule_head (s := s) (e := e) (l := List.range (entryCount e)))
    refine ⟨hgone, hwait, fun hoff => ?_⟩
    obtain ⟨new, hnew, hlen, hall⟩ := State.schedule_slots (e := e) (n := entryCount e) hoff
    rw [State.occupancy, hnew]
    refine ⟨fun hold => ?_, fun j hj => ?_⟩
    · have hkept : s.fold.slots.filter (fun x => !(x.due && s.stranded x)) = s.fold.slots :=
        List.filter_eq_self.mpr fun x hx => by
          cases hd : x.due with
          | true => simp [hold x hx hd]
          | false => rfl
      rw [hkept, List.length_append, hlen, State.occupancy]
    · obtain ⟨x, hx, ht, htarget, haction, hparam⟩ := hall j hj
      exact ⟨x, List.mem_append_right _ hx, ht, htarget, haction, hparam⟩
  · refine ⟨_, exec_cancelEntry hon he hf hop hok, ?_, by simp [State.headGone], fun x hx hmark hmask hrange => ?_⟩
    · exact State.cancelled_head2
    · rw [State.lowWater_slots, State.cancelSlots_slots, List.mem_filter] at hx
      simp [hmark, hmask, hrange] at hx
  · refine ⟨_, exec_slotDue hon hx hroom, ?_, fun hmark habs => ?_⟩
    · have hmem := mem_of_firstSlot hx
      split
      · next hstr => simp [State.cancelSlots_slots, hstr, hmem]
      · simp [State.releaseSlot_slots]
    · have hstr : s.stranded x = false := by simp [State.stranded, habs]
      obtain ⟨m, htx, hcmd⟩ := State.releaseSlot_sends (s := s) hmark
      rw [if_neg (by simp [hstr])]
      exact ⟨m, by simpa [State.link] using htx, hcmd⟩
  · refine ⟨_, exec_edgeDoneTimeout hon, fun w => ?_, fun w hw hlate hask hen hnotif => ?_⟩
    · rw [State.foldl_waitEnds_waits, mem_foldl_erase (.refl _)]
      simp
    · rw [hw, List.filter_singleton, decide_eq_true hlate]
      exact State.waitEnds_notif hask hen hnotif
end Sys2Proof

/-! ### What commanding a channel's switch leaves of the channel and of its die (R94, R109, R123, R129)

`Chan.orders` is what the commands of a channel keep of it: which kind of channel it is and what it was last commanded. The operations by
which a switch follows its command keep it: one lemma per operation. -/

namespace Sys2Proof.Machine

/-- The kind of a channel, its commanded state and the off-edges of its pulses. -/
structure Orders where
  mode : Nat
  member : Bool
  park : Option Park
  cmdOn : Bool
  cmdRun : Option (Nat × Option Nat)
  pulses : List (Nat × Nat)
/-- What the commands of a channel keep. -/
@[simp] def Chan.orders (k : Chan) : Orders := ⟨k.mode, k.member, k.park, k.cmdOn, k.cmdRun, k.pulses⟩
/-- What no command of a channel changes: its kind. -/
@[simp] def Chan.role (k : Chan) : Nat × Bool × Option Park := (k.mode, k.member, k.park)

section
variable {s : State} {c : Ch}

/-- The stroke detector touches no command. -/
theorem State.orders_of_unstroked {t : State} (h : t.chans.map Chan.unstroked = s.chans.map Chan.unstroked) :
    t.chans.map Chan.orders = s.chans.map Chan.orders := by
  have hsame : Chan.orders ∘ Chan.unstroked = Chan.orders := rfl
  simpa [Vector.map_map, hsame] using congrArg (Vector.map Chan.orders) h
/-- Where the orders stay, so does the kind of a channel. -/
theorem State.role_of_orders {t : State} (h : t.chans.map Chan.orders = s.chans.map Chan.orders) :
    t.chans.map Chan.role = s.chans.map Chan.role := by
  have hsame : (fun o : Orders => (o.mode, o.member, o.park)) ∘ Chan.orders = Chan.role := rfl
  simpa [Vector.map_map, hsame] using congrArg (Vector.map fun o : Orders => (o.mode, o.member, o.park)) h
@[simp] theorem State.strokeOpen_orders {residual : Bool} {lp : Nat} :
    (s.strokeOpen c residual lp).chans.map Chan.orders = s.chans.map Chan.orders := State.orders_of_unstroked State.strokeOpen_unstroked
@[simp] theorem State.strokeGateOff_orders : (s.strokeGateOff c).chans.map Chan.orders = s.chans.map Chan.orders :=
  State.orders_of_unstroked State.strokeGateOff_unstroked
/-- A change of what `Chan.orders` leaves out of a channel. -/
@[simp] theorem State.updCh_orders {k : Chan → Chan} (h : ∀ x, (k x).mode = x.mode ∧ (k x).member = x.member ∧ (k x).park = x.park ∧
    (k x).cmdOn = x.cmdOn ∧ (k x).cmdRun = x.cmdRun ∧ (k x).pulses = x.pulses) :
    (s.updCh c k).chans.map Chan.orders = s.chans.map Chan.orders := State.updCh_keeps fun x => by simp [h]
/-- A change of what `Chan.role` leaves out of a channel. -/
@[simp] theorem State.updCh_role {k : Chan → Chan} (h : ∀ x, (k x).mode = x.mode ∧ (k x).member = x.member ∧ (k x).park = x.park) :
    (s.updCh c k).chans.map Chan.role = s.chans.map Chan.role := State.updCh_keeps fun x => by simp [h]

@[simp] theorem State.gateOn1_orders : (s.gateOn1 c).chans.map Chan.orders = s.chans.map Chan.orders := by
  unfold State.gateOn1
  simp
@[simp] theorem State.gateOn_orders {t : Nat} {meas : Bool} : (s.gateOn c t meas).chans.map Chan.orders = s.chans.map Chan.orders := by
  unfold State.gateOn
  dsimp only
  split <;> simp
@[simp] theorem State.residual_chans : (s.residual c).2.chans = s.chans := by
  unfold State.residual
  split <;> rfl
@[simp] theorem State.gateStart_orders {t : Nat} {meas : Bool} : (s.gateStart c t meas).chans.map Chan.orders = s.chans.map Chan.orders := by
  unfold State.gateStart
  simp
@[simp] theorem State.gateOff_orders {t : Nat} {meas : Bool} : (s.gateOff c t meas).chans.map Chan.orders = s.chans.map Chan.orders := by
  unfold State.gateOff
  dsimp only
  split <;> simp
@[simp] theorem State.turnOn_orders {t : Nat} : (s.turnOn c t).chans.map Chan.orders = s.chans.map Chan.orders := by
  unfold State.turnOn
  simp
@[simp] theorem State.turnOff_orders {t : Nat} {act : Bool} : (s.turnOff c t act).chans.map Chan.orders = s.chans.map Chan.orders := by
  unfold State.turnOff
  dsimp only
  split <;> simp
@[simp] theorem State.startRun_orders {p start t : Nat} {own : Option Nat} {act : Bool} :
    (s.startRun c p own start t act).chans.map Chan.orders = s.chans.map Chan.orders := by
  unfold State.startRun
  dsimp only
  (repeat' split) <;> simp
@[simp] theorem State.bringOn_orders {t : Nat} {act : Bool} : (s.bringOn c t act).chans.map Chan.orders = s.chans.map Chan.orders := by
  unfold State.bringOn
  dsimp only
  (repeat' split) <;> simp [Chan.endRunOn]

/-! A command -/

/-- What a command leaves of its channel: the commanded state is the command's (R94). -/
theorem State.commanded_orders {on : Bool} {run : Option (Nat × Option Nat)} :
    ((s.commanded c on run).ch c).orders = { (s.ch c).orders with cmdOn := on, cmdRun := run } := by
  simp [State.commanded]
@[simp] theorem State.commanded_role {on : Bool} {run : Option (Nat × Option Nat)} :
    (s.commanded c on run).chans.map Chan.role = s.chans.map Chan.role := State.updCh_role fun _ => ⟨rfl, rfl, rfl⟩
/-- An on or off command acts on the state commanded, whatever holds the channel (R94). -/
theorem State.cmdSwitch_chans {on : Bool} {t : Nat} {act : Bool} :
    (s.cmdSwitch c on t act).chans.map Chan.orders = (s.commanded c on none).chans.map Chan.orders := by
  unfold State.cmdSwitch
  dsimp only
  (repeat' split) <;> simp
theorem State.cmdRunStart_chans {p start t : Nat} {own : Option Nat} {act : Bool} :
    (s.cmdRunStart c p own start t act).chans.map Chan.orders = (s.commanded c true (some (p, own))).chans.map Chan.orders := by
  unfold State.cmdRunStart
  dsimp only
  split <;> simp
theorem State.cmdSwitch_orders {on : Bool} {t : Nat} {act : Bool} :
    ((s.cmdSwitch c on t act).ch c).orders = { (s.ch c).orders with cmdOn := on, cmdRun := none } :=
  (State.ch_keeps State.cmdSwitch_chans c).trans State.commanded_orders
theorem State.cmdRunStart_orders {p start t : Nat} {own : Option Nat} {act : Bool} :
    ((s.cmdRunStart c p own start t act).ch c).orders = { (s.ch c).orders with cmdOn := true, cmdRun := some (p, own) } :=
  (State.ch_keeps State.cmdRunStart_chans c).trans State.commanded_orders
/-- An on or off command sets the commanded state, ends the commanded run and leaves the pulses (R94). -/
theorem State.cmdSwitch_sets {on : Bool} {t : Nat} {act : Bool} : ((s.cmdSwitch c on t act).ch c).cmdOn = on ∧
    ((s.cmdSwitch c on t act).ch c).cmdRun = none ∧ ((s.cmdSwitch c on t act).ch c).pulses = (s.ch c).pulses := by
  have h := State.cmdSwitch_orders (s := s) (c := c) (on := on) (t := t) (act := act)
  simp only [Chan.orders, Orders.mk.injEq] at h
  obtain ⟨-, -, -, hsets⟩ := h
  exact hsets
/-- A command to run sets the commanded state and the commanded run (R129). -/
theorem State.cmdRunStart_sets {p start t : Nat} {own : Option Nat} {act : Bool} : ((s.cmdRunStart c p own start t act).ch c).cmdOn = true ∧
    ((s.cmdRunStart c p own start t act).ch c).cmdRun = some (p, own) := by
  have h := State.cmdRunStart_orders (s := s) (c := c) (p := p) (own := own) (start := start) (t := t) (act := act)
  simp only [Chan.orders, Orders.mk.injEq] at h
  obtain ⟨-, -, -, hon, hrun, -⟩ := h
  exact ⟨hon, hrun⟩
@[simp] theorem State.cmdSwitch_role {on : Bool} {t : Nat} {act : Bool} :
    (s.cmdSwitch c on t act).chans.map Chan.role = s.chans.map Chan.role :=
  (State.role_of_orders State.cmdSwitch_chans).trans State.commanded_role
@[simp] theorem State.cmdRunStart_role {p start t : Nat} {own : Option Nat} {act : Bool} :
    (s.cmdRunStart c p own start t act).chans.map Chan.role = s.chans.map Chan.role :=
  (State.role_of_orders State.cmdRunStart_chans).trans State.commanded_role
@[simp] theorem State.cmdSwitch_ctl {on : Bool} {t : Nat} {act : Bool} :
    (s.cmdSwitch c on t act).dies.map Die.ctl = s.dies.map Die.ctl := by
  unfold State.cmdSwitch State.commanded
  dsimp only
  (repeat' split) <;> simp
@[simp] theorem State.cmdRunStart_ctl {p start t : Nat} {own : Option Nat} {act : Bool} :
    (s.cmdRunStart c p own start t act).dies.map Die.ctl = s.dies.map Die.ctl := by
  unfold State.cmdRunStart State.commanded
  dsimp only
  split <;> simp
/-- A channel has a switch of its own by its role. -/
theorem State.switchable_of_role {t : State} (h : (t.ch c).role = (s.ch c).role) : t.switchable c = s.switchable c := by
  simp only [Chan.role, Prod.mk.injEq] at h
  obtain ⟨hmode, hmember, hpark⟩ := h
  exact State.switchable_congr hmode hmember hpark

/-! The off-edges of pulses -/

/-- The off-edge of a pulse is made: it commands off (R109). -/
def State.pulseEnds (s : State) (c : Ch) (p : Nat × Nat) : State :=
  let s1 := s.updCh c fun k => { k with pulses := k.pulses.erase p, lastT := p.1, lastG := p.2 }
  if s1.switchable c then s1.cmdSwitch c false p.2 true else s1
/-- The pulses of a channel whose off-edges a test picks, in the order of their gate instants. -/
def State.endingPulses (s : State) (c : Ch) (p : Nat × Nat → Bool) : List (Nat × Nat) :=
  sortBy (fun a b => a.2 ≤ b.2) ((s.ch c).pulses.filter p)
theorem State.pulsesTo_eq {p : Nat × Nat → Bool} : s.pulsesTo c p = (s.endingPulses c p).foldl (fun s p => s.pulseEnds c p) s := rfl
@[simp] theorem State.pulseEnds_role {p : Nat × Nat} : (s.pulseEnds c p).chans.map Chan.role = s.chans.map Chan.role := by
  unfold State.pulseEnds
  dsimp only
  split <;> simp
@[simp] theorem State.pulseEnds_ctl {p : Nat × Nat} : (s.pulseEnds c p).dies.map Die.ctl = s.dies.map Die.ctl := by
  unfold State.pulseEnds
  dsimp only
  split <;> simp
theorem State.pulseEnds_pulses {p : Nat × Nat} : ((s.pulseEnds c p).ch c).pulses = (s.ch c).pulses.erase p := by
  unfold State.pulseEnds
  dsimp only
  split
  · obtain ⟨-, -, hpulses⟩ := State.cmdSwitch_sets (c := c) (on := false) (t := p.2) (act := true)
      (s := s.updCh c fun k => { k with pulses := k.pulses.erase p, lastT := p.1, lastG := p.2 })
    exact hpulses.trans (by simp)
  · simp
theorem State.pulseEnds_off {p : Nat × Nat} (h : s.switchable c = true) : ((s.pulseEnds c p).ch c).cmdOn = false := by
  have hsw : (s.updCh c fun k => { k with pulses := k.pulses.erase p, lastT := p.1, lastG := p.2 }).switchable c = true :=
    (State.switchable_of_role (State.ch_keeps (by simp) c)).trans h
  unfold State.pulseEnds
  rw [if_pos hsw]
  exact State.cmdSwitch_sets.1
@[simp] theorem State.pulsesTo_role {p : Nat × Nat → Bool} : (s.pulsesTo c p).chans.map Chan.role = s.chans.map Chan.role :=
  State.foldl_keep (fun s => s.chans.map Chan.role) (fun _ _ => State.pulseEnds_role) _ s
@[simp] theorem State.pulsesTo_ctl {p : Nat × Nat → Bool} : (s.pulsesTo c p).dies.map Die.ctl = s.dies.map Die.ctl :=
  State.foldl_keep (fun s => s.dies.map Die.ctl) (fun _ _ => State.pulseEnds_ctl) _ s
/-- The off-edges that a test picks are taken from the list, and no others (R109). -/
theorem State.mem_pulsesTo {p : Nat × Nat → Bool} {x : Nat × Nat} :
    x ∈ ((s.pulsesTo c p).ch c).pulses ↔ x ∈ (s.ch c).pulses ∧ p x = false := by
  have hlist (l : List (Nat × Nat)) (s : State) : ((l.foldl (fun s p => s.pulseEnds c p) s).ch c).pulses = l.foldl List.erase (s.ch c).pulses := by
    induction l generalizing s with
    | nil => rfl
    | cons y t ih => rw [List.foldl_cons, ih, State.pulseEnds_pulses, List.foldl_cons]
  rw [State.pulsesTo_eq, hlist, State.endingPulses, mem_foldl_erase (sortBy_perm ..)]
/-- An off-edge that is made leaves the channel commanded off. -/
theorem State.pulsesTo_off {p : Nat × Nat → Bool} (h : s.switchable c = true) (hdue : ∃ x ∈ (s.ch c).pulses, p x = true) :
    ((s.pulsesTo c p).ch c).cmdOn = false := by
  have hlist (l : List (Nat × Nat)) (s : State) (h : s.switchable c = true) (hl : l ≠ []) :
      ((l.foldl (fun s p => s.pulseEnds c p) s).ch c).cmdOn = false := by
    induction l generalizing s with
    | nil => exact absurd rfl hl
    | cons y t ih =>
      cases t with
      | nil => exact State.pulseEnds_off h
      | cons z u => exact ih (s.pulseEnds c y) ((State.switchable_of_role (State.ch_keeps State.pulseEnds_role c)).trans h) (by simp)
  obtain ⟨x, hx, hp⟩ := hdue
  refine hlist _ s h (List.ne_nil_of_mem (a := x) ?_)
  exact (sortBy_perm _ _).mem_iff.mpr (List.mem_filter.mpr ⟨hx, hp⟩)
theorem State.pulsesTo_none {p : Nat × Nat → Bool} (h : (s.ch c).pulses = []) : s.pulsesTo c p = s := by
  simp [State.pulsesTo_eq, State.endingPulses, h, sortBy]
end
end Sys2Proof.Machine

/-! ### Timed commands at their gate instants (R109, R113, R115, R129, R130, R178, R234) -/
namespace Sys2Proof.Machine
section
variable {s : State} {c : Ch} {h : Held}

@[simp] theorem State.dacAction_ctl {code : Nat} : (s.dacAction c code).dies.map Die.ctl = s.dies.map Die.ctl := by
  unfold State.dacAction State.dacTold
  simp
@[simp] theorem State.discardAt_ctl {fold : Bool} : (s.discardAt c fold).dies.map Die.ctl = s.dies.map Die.ctl := State.evt_ctl
@[simp] theorem State.runTimed_ctl {t : Nat} : (s.runTimed c h t).dies.map Die.ctl = s.dies.map Die.ctl := by
  unfold State.runTimed State.addPulse
  dsimp only
  (repeat' split) <;> simp

/-! A held command is carried out -/

/-- A held command is taken from its die, the off-edges of pulses that stand before it are made, and it becomes the last of its channel when
it makes an edge (R115, R496). -/
def State.heldReady (s : State) (c : Ch) (h : Held) (t : Nat) : State :=
  let now := s.dieNow (grpOf c)
  let taken := s.updDie (grpOf c) fun d =>
    { d with held := d.held.erase h, recents := (d.recents.filter fun r => decide (now < r.1 + 8000)) ++ [(now, h.cmd)] }
  let ended := taken.pulsesTo c fun p => decide (p.2 < t) || (p.2 == t && decide (p.1 ≤ h.t))
  if h.cmd.makesEdge then ended.updCh c fun k => { k with lastT := h.t, lastG := t } else ended
/-- The state in which a held command acts: a gate edge that it makes is its slot's. -/
def State.heldActing (s : State) (c : Ch) (h : Held) (t : Nat) : State :=
  (s.heldReady c h t).updCh c fun x => { x with acting := h.info.map (·.order) }
/-- The instant at which a held command is carried out: its gate instant, or now when it is late (R113). -/
def State.heldAt (s : State) (c : Ch) (h : Held) : Nat := if h.late then s.at c else h.gate
/-- A command that a reflex action of its MCLKx period supersedes is reported, and each other is carried out (R234). -/
theorem State.runHeld_eq : s.runHeld c h =
    if h.cmd.kind ≤ 6 ∧ (s.ch c).rfxAt = some (s.heldAt c h / 40) then (s.heldReady c h (s.heldAt c h)).evt (grpOf c) .coincident
    else (s.heldReady c h (s.heldAt c h)).forSlot c (h.info.map (·.order)) fun u => u.runTimed c h (s.heldAt c h) := rfl
theorem State.runHeld_acts (hfree : ¬(h.cmd.kind ≤ 6 ∧ (s.ch c).rfxAt = some (s.heldAt c h / 40))) :
    s.runHeld c h = ((s.heldActing c h (s.heldAt c h)).runTimed c h (s.heldAt c h)).updCh c fun x => { x with acting := none } :=
  State.runHeld_eq.trans (if_neg hfree)
theorem State.heldReady_role {t : Nat} : (s.heldReady c h t).chans.map Chan.role = s.chans.map Chan.role := by
  unfold State.heldReady
  dsimp only
  split <;> simp
theorem State.heldActing_role {t : Nat} : ((s.heldActing c h t).ch c).role = (s.ch c).role :=
  State.ch_keeps (Eq.trans (State.updCh_role fun _ => by simp) State.heldReady_role) c
theorem State.heldReady_held {t : Nat} : ((s.heldReady c h t).dieOf (grpOf c)).held = (s.dieOf (grpOf c)).held.erase h := by
  have hended (u : State) (p : Nat × Nat → Bool) : ((u.pulsesTo c p).dieOf (grpOf c)).held = (u.dieOf (grpOf c)).held :=
    State.dieOf_part (fun _ => rfl) State.pulsesTo_ctl _
  unfold State.heldReady
  dsimp only
  split <;> simp [hended]
/-- A held command that is carried out leaves the held commands (R115). -/
theorem State.runHeld_held : ((s.runHeld c h).dieOf (grpOf c)).held = (s.dieOf (grpOf c)).held.erase h := by
  have hpart {u : State} (hu : u.dies.map Die.ctl = (s.heldReady c h (s.heldAt c h)).dies.map Die.ctl) :
      (u.dieOf (grpOf c)).held = (s.dieOf (grpOf c)).held.erase h :=
    (State.dieOf_part (fun _ => rfl) hu _).trans State.heldReady_held
  rw [State.runHeld_eq]
  split
  · exact hpart State.evt_ctl
  · exact hpart State.runTimed_ctl
end

/-! What a held command does -/

section
variable {s : State} {c : Ch} {h : Held} {t : Nat}

theorem State.runTimed_edge {n : ChN} {on : Bool} {g : Nat} (hcmd : h.cmd = .edge n on g) (hsw : s.switchable c = true) :
    s.runTimed c h t = s.cmdSwitch c on t true := by
  simp [State.runTimed, hcmd, hsw]
theorem State.addPulse_sets {term gate : Nat} : ((s.addPulse c term gate).ch c).cmdOn = (s.ch c).cmdOn ∧
    (term, gate) ∈ ((s.addPulse c term gate).ch c).pulses := by
  simp [State.addPulse]
/-- A pulse that begins is on, and its off-edge stands (R109). -/
theorem State.pulse_sets {act : Bool} {term gate : Nat} : (((s.cmdSwitch c true t act).addPulse c term gate).ch c).cmdOn = true ∧
    (term, gate) ∈ (((s.cmdSwitch c true t act).addPulse c term gate).ch c).pulses := by
  obtain ⟨hon, hmem⟩ := State.addPulse_sets (s := s.cmdSwitch c true t act) (c := c) (term := term) (gate := gate)
  exact ⟨hon.trans State.cmdSwitch_sets.1, hmem⟩
theorem State.runTimed_pulse {n : ChN} {g w off : Nat} (hcmd : h.cmd = .pulse n g w off) (hsw : s.switchable c = true) :
    s.runTimed c h t = (s.cmdSwitch c true t true).addPulse c (h.t + w) h.gateOff := by
  simp [State.runTimed, hcmd, hsw]
theorem State.runTimed_pwmStart {n : ChN} {p g a b : Nat} {duty : Option Nat} (hcmd : h.cmd = .pwmStart n p duty g a b)
    (hsw : s.switchable c = true) (hmode : (s.ch c).mode ≠ 9) : s.runTimed c h t = s.cmdRunStart c p duty h.runT t true := by
  simp [State.runTimed, hcmd, hsw, hmode]
theorem State.runTimed_pwmStop {n : ChN} {on : Bool} {g d : Nat} (hcmd : h.cmd = .pwmStop n on g d) (hsw : s.switchable c = true)
    (hmode : (s.ch c).mode ≠ 9) : s.runTimed c h t = s.cmdSwitch c on t true := by
  simp [State.runTimed, hcmd, hsw, hmode]
theorem State.runTimed_pwmDuty {n : ChN} {g a b duty : Nat} {r : Run} (hcmd : h.cmd = .pwmDuty n g duty a b) (hsw : s.switchable c = true)
    (hmode : (s.ch c).mode ≠ 9) (hrun : (s.ch c).run = some r) (hfree : s.free11 c = true) :
    ((s.runTimed c h t).ch c).run =
      some { r with pend := some (if h.info.isSome then h.t else g + a, duty, h.info.map (·.order)) } := by
  have hT : h.runT = if h.info.isSome then h.t else g + a := by
    unfold Held.runT
    cases h.info <;> simp [hcmd]
  simp [State.runTimed, hcmd, hsw, hmode, hrun, hfree, hT]
theorem State.runTimed_dac {n : ChN} {g code : Nat} (hcmd : h.cmd = .dac n g code) (hmode : dacMode (s.ch c).mode = true)
    (hpark : (s.ch c).park = none) : s.runTimed c h t = s.dacAction c code := by
  simp [State.runTimed, hcmd, hmode, hpark]
/-- The DAC's target touches no field of the die but DAC_NOW and RAMPING (R179). -/
theorem State.dreg_dacTarget {v : Nat} {f : Fld} (hnow : F.AN_STATUS_DAC_NOW c ≠ f) (hramp : F.AN_STATUS_RAMPING c ≠ f) :
    (s.dacTarget c v).dreg f = s.dreg f := by
  unfold State.dacTarget State.dacStep State.setEffective
  split <;> simp [hnow, hramp]
/-- CODE keeps what a DAC action writes (R178). -/
theorem State.dacAction_code {code : Nat} : (s.dacAction c code).dreg (F.AN_DAC_CODE c) = code % 2 ^ 16 := by
  have htold (u : State) (v : Nat) : (u.dacTold c v).dreg (F.AN_DAC_CODE c) = u.dreg (F.AN_DAC_CODE c) := by
    simp [State.dacTold, State.dreg]
  rw [State.dacAction, htold, State.dreg_updCh, State.dacCommand]
  split <;> simp [State.dreg_dacTarget, State.showClamped]

/-! The first of its kind -/

theorem upTo_none {k : Nat} {l : List Held} (hk : ∀ h ∈ l, h.cmd.kind ≠ k) : upTo k l = [] := by
  cases l with
  | nil => rfl
  | cons h t =>
    obtain ⟨hh, ht⟩ := List.forall_mem_cons.mp hk
    have hany : t.any (fun x => x.cmd.kind == k) = false := List.any_eq_false.mpr fun x hx => by simp [ht x hx]
    simp [upTo, hh, hany]
theorem State.timedAt_none {k : Nat} (hk : ∀ h ∈ (s.dieOf (grpOf c)).dueHeld (s.at c) (chN c), h.cmd.kind ≠ k) : s.timedAt c k = s := by
  simp [State.timedAt, upTo_none hk]
theorem State.timedAt_first {l : List Held} (htimed : (s.dieOf (grpOf c)).timed = true)
    (hl : (s.dieOf (grpOf c)).dueHeld (s.at c) (chN c) = h :: l) : s.timedAt c h.cmd.kind = s.runHeld c h := by
  simp [State.timedAt, htimed, hl, upTo]
theorem DlCmd.edge_of_kind {x : DlCmd} {on : Bool} (hk : x.kind = if on then 1 else 2) : ∃ n g, x = .edge n on g := by
  cases x with
  | edge n b g => cases b <;> cases on <;> simp_all [DlCmd.kind]
  | _ => cases on <;> simp [DlCmd.kind] at hk
/-- A die but for its timed commands. -/
def Die.unheld (d : Die) : Die := { d.ctl with held := [], recents := [] }
/-- Whether commands act on a channel depends on no timed command that its die holds, and on no gate edge (R94). -/
theorem State.free11_congr {u : State} (hrole : ∀ d, (u.ch d).role = (s.ch d).role) (hprot : ∀ d, (u.ch d).prot = (s.ch d).prot)
    (hpermit : (u.ch c).permitHeld = (s.ch c).permitHeld) (hdie : u.die = s.die) (hd : ∀ g, (u.dieOf g).unheld = (s.dieOf g).unheld) :
    u.free11 c = s.free11 c := by
  simp only [Chan.role, Prod.mk.injEq, forall_and] at hrole
  simp only [Chan.prot, Prot.mk.injEq, forall_and] at hprot
  obtain ⟨hmode, hmember, hpark⟩ := hrole
  obtain ⟨hfault, -, htherm, hclamp, hfuse, -⟩ := hprot
  have hpart {α : Type} (p : Die → α) (hp : ∀ d, p d.unheld = p d) (g : Grp) : p (u.dieOf g) = p (s.dieOf g) := by rw [← hp, hd, hp]
  have hsupply : u.supplyHeld c = s.supplyHeld c :=
    hpart (fun d => !d.powered || d.hold || d.uv || d.ov || d.rev || d.rel.any (fun x => x.1 == chN c) || decide (chN c ∈ d.wait))
      (fun _ => rfl) _
  have hsafe := hpart Die.safe (fun _ => rfl) (grpOf c)
  have hlimp := hpart Die.limp (fun _ => rfl) (grpOf c)
  simp [State.free11, State.hold, State.latches, State.legs, State.pairHead, State.permit, State.follows, State.limpByte, State.switchable,
    State.don, State.dreg, List.any_map, Function.comp_def, hmode, hmember, hpark, hfault, htherm, hclamp, hfuse, hpermit, hdie, hsupply,
    hsafe, hlimp]
/-- With no pulse to end, a held command that makes no edge acts where the channel stood. -/
theorem State.heldActing_quiet (hp : (s.ch c).pulses = []) (hedge : h.cmd.makesEdge = false) :
    (s.heldActing c h t).free11 c = s.free11 c ∧ ((s.heldActing c h t).ch c).run = (s.ch c).run := by
  rw [State.heldActing, State.heldReady, hedge, if_neg Bool.false_ne_true, State.pulsesTo_none]
  swap
  · exact hp
  refine ⟨State.free11_congr (fun d => ?_) (fun d => ?_) (by simp) rfl fun g => ?_, by simp⟩
  · exact State.ch_keeps (p := Chan.role) (by simp) d
  · exact State.ch_keeps (p := Chan.prot) (by simp) d
  · rw [State.dieOf_updCh, State.dieOf_updDie]
    split <;> rfl

/-! Effects of a command that is carried out -/

/-- A command that no reflex action of its MCLKx period supersedes finds its channel of the same kind (R234). -/
theorem State.heldActing_switchable : (s.heldActing c h t).switchable c = s.switchable c := State.switchable_of_role State.heldActing_role
theorem State.heldActing_mode : ((s.heldActing c h t).ch c).mode = (s.ch c).mode := congrArg Prod.fst State.heldActing_role
theorem State.heldActing_park : ((s.heldActing c h t).ch c).park = (s.ch c).park := congrArg (·.2.2) State.heldActing_role

/-- No reflex action of the same MCLKx period supersedes a held command (R234). -/
def State.unrivalled (s : State) (c : Ch) (h : Held) : Prop := ¬(h.cmd.kind ≤ 6 ∧ (s.ch c).rfxAt = some (s.heldAt c h / 40))
theorem State.runHeld_edge {n : ChN} {on : Bool} {g : Nat} (hfree : s.unrivalled c h) (hcmd : h.cmd = .edge n on g)
    (hsw : s.switchable c = true) : ((s.runHeld c h).ch c).cmdOn = on ∧ ((s.runHeld c h).ch c).cmdRun = none := by
  rw [State.runHeld_acts hfree, State.runTimed_edge hcmd (State.heldActing_switchable.trans hsw), State.ch_updCh, if_pos rfl]
  dsimp only
  exact State.cmdSwitch_sets.imp_right And.left
theorem State.runHeld_pulse {n : ChN} {g w off : Nat} (hfree : s.unrivalled c h) (hcmd : h.cmd = .pulse n g w off)
    (hsw : s.switchable c = true) :
    ((s.runHeld c h).ch c).cmdOn = true ∧ (h.t + w, h.gateOff) ∈ ((s.runHeld c h).ch c).pulses := by
  rw [State.runHeld_acts hfree, State.runTimed_pulse hcmd (State.heldActing_switchable.trans hsw), State.ch_updCh, if_pos rfl]
  dsimp only
  exact State.pulse_sets
theorem State.runHeld_pwmStart {n : ChN} {p g a b : Nat} {duty : Option Nat} (hfree : s.unrivalled c h)
    (hcmd : h.cmd = .pwmStart n p duty g a b) (hsw : s.switchable c = true) (hmode : (s.ch c).mode ≠ 9) :
    ((s.runHeld c h).ch c).cmdOn = true ∧ ((s.runHeld c h).ch c).cmdRun = some (p, duty) := by
  rw [State.runHeld_acts hfree, State.runTimed_pwmStart hcmd (State.heldActing_switchable.trans hsw) (State.heldActing_mode.trans_ne hmode),
    State.ch_updCh, if_pos rfl]
  dsimp only
  exact State.cmdRunStart_sets
theorem State.runHeld_pwmStop {n : ChN} {on : Bool} {g d : Nat} (hfree : s.unrivalled c h) (hcmd : h.cmd = .pwmStop n on g d)
    (hsw : s.switchable c = true) (hmode : (s.ch c).mode ≠ 9) :
    ((s.runHeld c h).ch c).cmdOn = on ∧ ((s.runHeld c h).ch c).cmdRun = none := by
  rw [State.runHeld_acts hfree, State.runTimed_pwmStop hcmd (State.heldActing_switchable.trans hsw) (State.heldActing_mode.trans_ne hmode),
    State.ch_updCh, if_pos rfl]
  dsimp only
  exact State.cmdSwitch_sets.imp_right And.left
theorem State.runHeld_pwmDuty {n : ChN} {g a b duty : Nat} {r : Run} (hfree : s.unrivalled c h) (hcmd : h.cmd = .pwmDuty n g duty a b)
    (hsw : s.switchable c = true) (hmode : (s.ch c).mode ≠ 9) (hrun : (s.ch c).run = some r) (hp : (s.ch c).pulses = [])
    (h11 : s.free11 c = true) : ((s.runHeld c h).ch c).run =
      some { r with pend := some (if h.info.isSome then h.t else g + a, duty, h.info.map (·.order)) } := by
  obtain ⟨hfree11, hrun'⟩ := State.heldActing_quiet (t := s.heldAt c h) hp (by rw [hcmd]; rfl)
  rw [State.runHeld_acts hfree, State.ch_updCh, if_pos rfl]
  dsimp only
  exact State.runTimed_pwmDuty hcmd (State.heldActing_switchable.trans hsw) (State.heldActing_mode.trans_ne hmode) (hrun'.trans hrun)
    (hfree11.trans h11)
theorem State.runHeld_dac {n : ChN} {g code : Nat} (hcmd : h.cmd = .dac n g code) (hmode : dacMode (s.ch c).mode = true)
    (hpark : (s.ch c).park = none) : (s.runHeld c h).dreg (F.AN_DAC_CODE c) = code % 2 ^ 16 := by
  have hfree : s.unrivalled c h := by simp [State.unrivalled, hcmd, DlCmd.kind]
  rw [State.runHeld_acts hfree, State.runTimed_dac hcmd (by rw [State.heldActing_mode, hmode]) (State.heldActing_park.trans hpark),
    State.dreg_updCh]
  exact State.dacAction_code
end
end Sys2Proof.Machine

namespace Sys2Proof
open Machine

/-- Settles O12: a row of a kind is `State.timedAt` of it, which carries out the first held command when it is of the kind; what that does
is a lemma for each kind. -/
theorem timedCommands : Obligations.TimedCommands := by
  unfold Obligations.TimedCommands
  intro s c hon htimed p hp
  have hexec : exec p.1 s = .next (s.timedAt c p.2) := by
    simp only [List.mem_cons, List.not_mem_nil, or_false] at hp
    obtain rfl | rfl | rfl | rfl | rfl | rfl | rfl := hp <;> exact onDie_on (k := fun s => s.timedAt c _) hon
  refine ⟨fun hnone => by rw [hexec, State.timedAt_none hnone], fun h l hl hk => ⟨s.runHeld c h, ?_, State.runHeld_held, ?_, ?_⟩⟩
  · rw [hexec, ← hk, State.timedAt_first htimed hl]
  · intro hrfx hsw
    have hfree : s.unrivalled c h := fun hr => hrfx hr.2
    refine ⟨fun h1 => ?_, fun h2 => ?_, fun n g w off hcmd => State.runHeld_pulse hfree hcmd hsw, fun hmode =>
      ⟨fun n x duty g a b hcmd => State.runHeld_pwmStart hfree hcmd hsw hmode, fun n on g d hcmd => State.runHeld_pwmStop hfree hcmd hsw hmode,
        fun n g duty a b r hcmd hrun hpulses h11 => State.runHeld_pwmDuty hfree hcmd hsw hmode hrun hpulses h11⟩⟩
    · obtain ⟨n, g, hcmd⟩ := DlCmd.edge_of_kind (on := true) h1
      exact State.runHeld_edge hfree hcmd hsw
    · obtain ⟨n, g, hcmd⟩ := DlCmd.edge_of_kind (on := false) h2
      exact State.runHeld_edge hfree hcmd hsw
  · exact fun n g code hcmd hmode hpark => State.runHeld_dac hcmd hmode hpark
end Sys2Proof

/-! ### Pulse ends, PWM edges and reflex actions (R109, R128 to R130, R231, R233, R234) -/
namespace Sys2Proof.Machine
section
variable {s : State} {c : Ch}

/-! The off-edges of pulses -/

/-- With no held command to come before them, the off-edges whose instants have come are made (R109). -/
theorem State.pulseOff_quiet (h : (s.dieOf (grpOf c)).dueHeld (s.at c) (chN c) = []) :
    s.pulseOff c = s.pulsesTo c fun p => decide (p.2 ≤ s.at c) := by
  simp [State.pulseOff, h]
theorem State.pulseOff_later {p : Nat × Nat} (h : p ∈ ((s.pulseOff c).ch c).pulses) : s.at c < p.2 := by
  have hp := (State.mem_pulsesTo.mp h).2
  simpa using hp

/-! The edges of a PWM run -/

theorem State.runEdge_off {r : Run} {x : Rat} (hrun : (s.ch c).run = some r) (hnext : r.next = (false, x))
    (hgate : r.gate (s.ch c).dOn (s.ch c).dOff (false, x) ≤ s.at c) :
    s.runEdge c = s.runOff c r x (r.gate (s.ch c).dOn (s.ch c).dOff (false, x)) := by
  simp [State.runEdge, hrun, hnext, hgate]
/-- A period start carries out the duties that come with it, and then makes its edge (R130). -/
theorem State.runEdge_on {r0 r : Run} {x : Rat} (hrun : (s.ch c).run = some r0) (hnext : r0.next = (true, x))
    (hgate : r0.gate (s.ch c).dOn (s.ch c).dOff (true, x) ≤ s.at c) (hrun1 : ((s.dutiesTo c x).ch c).run = some r) :
    s.runEdge c = (s.dutiesTo c x).runOn c r x (r0.gate (s.ch c).dOn (s.ch c).dOff (true, x)) := by
  simp [State.runEdge, hrun, hnext, hgate, State.runStart, hrun1]
/-- An off-edge of a run leaves its channel off but within the peak phase (R128, R129). -/
theorem State.runOff_run {r : Run} {x : Rat} {t : Nat} : ∃ r', ((s.runOff c r x t).ch c).run = some r' ∧ r'.next = r.nextEdge x ∧
    (r.endsPeak x = true → ((s.runOff c r x t).ch c).sw = false ∧ r'.peak = none) ∧
    (r.endsPeak x = false → ((s.runOff c r x t).ch c).sw = (s.ch c).sw ∧ r'.peak = r.peak) := by
  have hoff (meas : Bool) : ((s.gateOff c t meas).ch c).sw = false := Bool.eq_false_iff.mpr fun h => (State.sw_of_gateOff h).1 rfl
  unfold State.runOff
  dsimp only
  split
  · next hpeak => exact ⟨_, by simp; rfl, rfl, by simp_all, by simp⟩
  · next hpeak =>
    split
    · exact ⟨_, by simp; rfl, rfl, by simp [hoff], by simp_all⟩
    · next hsw => exact ⟨_, by simp; rfl, rfl, by simp_all, by simp_all⟩
theorem State.gateOn_sw {t : Nat} {meas : Bool} : ((s.gateOn c t meas).ch c).sw = true := by
  have hfirst (u : State) (d : Ch) (hd : d = c ∨ (u.ch c).sw = true) : ((u.gateOn1 d).ch c).sw = true := by
    have hch : (u.gateOn1 d).ch c = (u.updCh d fun k => { k with sw := true, edgeAt := u.clock, edgeOf := k.acting }).ch c := by
      simp [State.gateOn1, State.ch]
    rw [hch, State.ch_updCh]
    split
    · rfl
    · next hne => exact hd.resolve_left hne
  unfold State.gateOn
  dsimp only
  have hone : (((s.gateOn1 c).updCh c fun k =>
      { k with edge := some (true, meas), gateT := t, lpE := s.lpTenths (grpOf c) }).ch c).sw = true := by
    rw [State.ch_updCh, if_pos rfl]
    exact hfirst s c (.inl rfl)
  split
  · exact hfirst _ _ (.inr hone)
  · exact hone
/-- A period start of a run that has an on-phase leaves its channel on (R128). -/
theorem State.runOn_sw {r : Run} {x : Rat} {t : Nat} (hwidth : (s.adopt c r x).width ≠ 0) (hpeak : (s.adopt c r x).peak = none) :
    ((s.runOn c r x t).ch c).sw = true := by
  unfold State.runOn
  dsimp only
  rw [if_neg hwidth]
  split
  · next h =>
    rw [hpeak] at h
    simpa using h
  · rw [State.ch_updCh, if_pos rfl, State.forSlot, State.ch_updCh, if_pos rfl]
    exact State.gateOn_sw
/-- A period start leaves the run at its next grid edge, or before the off-edge that is led (R128). -/
theorem State.runOn_next {r : Run} {x : Rat} {t : Nat} : ∃ r', ((s.runOn c r x t).ch c).run = some r' ∧ r'.next =
    if (s.adopt c r x).width = 0 ∧ (s.ch c).sw = true ∧ s.at c < (s.adopt c r x).gate (s.ch c).dOn (s.ch c).dOff (false, x) then (false, x)
    else (s.adopt c r x).nextEdge x := by
  unfold State.runOn
  dsimp only
  split
  · next hwidth =>
    split
    · next h => exact ⟨_, by rw [State.ch_updCh, if_pos rfl], by simp_all⟩
    · next h =>
      obtain ⟨r', hr, hnext, -⟩ := State.runOff_run (s := s) (c := c) (r := s.adopt c r x) (x := x)
        (t := (s.adopt c r x).gate (s.ch c).dOn (s.ch c).dOff (false, x))
      exact ⟨r', hr, by simp_all⟩
  · next hwidth => split <;> exact ⟨_, by rw [State.ch_updCh, if_pos rfl], by simp [hwidth]⟩

/-! Reflex actions -/

/-- What a change of a die keeps of it, it keeps of every die. -/
theorem State.updDie_keeps {α : Type} {p : Die → α} {g : Grp} {k : Die → Die} (h : ∀ d, p (k d) = p d) :
    (s.updDie g k).dies.map p = s.dies.map p := by
  ext1 i hi
  simp only [State.updDie, Vector.getElem_map, Vector.getElem_set]
  split
  · next e =>
    subst e
    exact h _
  · rfl
/-- What keeps a die but for its reports keeps it but for its timed commands. -/
theorem State.unheld_of_ctl {u : State} (h : u.dies.map Die.ctl = s.dies.map Die.ctl) : u.dies.map Die.unheld = s.dies.map Die.unheld := by
  have hsame : Die.unheld ∘ Die.ctl = Die.unheld := rfl
  simpa [Vector.map_map, hsame] using congrArg (Vector.map Die.unheld) h
theorem State.heldReady_unheld {h : Held} {t : Nat} : (s.heldReady c h t).dies.map Die.unheld = s.dies.map Die.unheld := by
  unfold State.heldReady
  dsimp only
  rw [apply_ite State.dies, State.updCh_dies, ite_self, State.unheld_of_ctl State.pulsesTo_ctl]
  exact State.updDie_keeps fun _ => rfl
theorem State.runHeld_unheld {h : Held} : (s.runHeld c h).dies.map Die.unheld = s.dies.map Die.unheld := by
  rw [State.runHeld_eq]
  split
  · exact (State.unheld_of_ctl State.evt_ctl).trans State.heldReady_unheld
  · exact (State.unheld_of_ctl State.runTimed_ctl).trans State.heldReady_unheld
/-- The timed commands of the MCLKx period of a reflex action leave a die but for its timed commands (R234). -/
theorem State.coincide_unheld : (s.coincide c).dies.map Die.unheld = s.dies.map Die.unheld := by
  have hrun (l : List Held) (u : State) : (l.foldl (fun s h => s.runHeld c h) u).dies.map Die.unheld = u.dies.map Die.unheld :=
    State.foldl_keep (fun s => s.dies.map Die.unheld) (fun _ _ => State.runHeld_unheld) l u
  have hnote (l : List Unit) (u : State) :
      (l.foldl (fun s _ => s.evt (grpOf c) .coincident) u).dies.map Die.unheld = u.dies.map Die.unheld :=
    State.foldl_keep (fun s => s.dies.map Die.unheld) (fun _ _ => State.unheld_of_ctl State.evt_ctl) l u
  unfold State.coincide
  dsimp only
  rw [hnote, State.updCh_dies, State.unheld_of_ctl State.pulsesTo_ctl, hrun]
theorem State.dieOf_unheld {u : State} {α : Type} {p : Die → α} (hp : ∀ d, p d.unheld = p d) (h : u.dies.map Die.unheld = s.dies.map Die.unheld)
    (g : Grp) : p (u.dieOf g) = p (s.dieOf g) := by
  have hg : (u.dieOf g).unheld = (s.dieOf g).unheld := by simpa [State.dieOf] using congrArg (fun v => v[g.val]) h
  rw [← hp, hg, hp]
theorem State.coincide_at : (s.coincide c).at c = s.at c := by
  rw [State.at, State.dieNow, State.dieOf_unheld (p := Die.time) (fun _ => rfl) State.coincide_unheld]
  rfl
/-- A reflex action that is carried out is taken from the list, and what it does follows the timed commands of its MCLKx period (R231, R234). -/
theorem State.reflexAt_acts {a : Act} {k : State → Nat → State} {pwm : Bool}
    (ha : (s.dieOf (grpOf c)).acts.find? (fun a => a.n == chN c) = some a)
    (hk : ∀ (u : State) p, (k u p).dies.map Die.ctl = u.dies.map Die.ctl) :
    ((s.reflexAt c a.code k pwm).dieOf (grpOf c)).acts = (s.dieOf (grpOf c)).acts.erase a := by
  have htaken : ((s.updDie (grpOf c) fun d => { d with acts := d.acts.erase a }).dieOf (grpOf c)).acts = (s.dieOf (grpOf c)).acts.erase a := by
    simp
  unfold State.reflexAt
  rw [ha]
  dsimp only
  rw [if_neg (by simp)]
  split
  · exact (State.dieOf_part (fun _ => rfl) (hk _ _) _).trans ((State.dieOf_unheld (fun _ => rfl) State.coincide_unheld _).trans htaken)
  · exact (State.dieOf_part (fun _ => rfl) State.discardAt_ctl _).trans htaken
/-- The state in which a reflex action acts. -/
def State.reflexReady (s : State) (c : Ch) (a : Act) : State :=
  (s.updDie (grpOf c) fun d => { d with acts := d.acts.erase a }).coincide c
theorem State.reflexReady_at {a : Act} : (s.reflexReady c a).at c = s.at c := by
  rw [State.reflexReady, State.coincide_at]
  simp [State.at, State.dieNow]
theorem State.reflexAt_runs {a : Act} {k : State → Nat → State} {pwm : Bool}
    (ha : (s.dieOf (grpOf c)).acts.find? (fun a => a.n == chN c) = some a)
    (hsw : s.switchable c = true) (hmode : (pwm && (s.ch c).mode == 9) = false) :
    s.reflexAt c a.code k pwm = k (s.reflexReady c a) a.param := by
  have hsw1 : (s.updDie (grpOf c) fun d => { d with acts := d.acts.erase a }).switchable c = true := hsw
  unfold State.reflexAt
  rw [ha]
  dsimp only
  rw [if_neg (by simp), State.ch_updDie, hsw1, hmode, if_pos (by rfl)]
  rfl
theorem State.reflexAt_other {a : Act} {n : Nat} {k : State → Nat → State} {pwm : Bool}
    (ha : (s.dieOf (grpOf c)).acts.find? (fun a => a.n == chN c) = some a) (hn : a.code ≠ n) : s.reflexAt c n k pwm = s := by
  simp [State.reflexAt, ha, hn]
end

/-! The rows -/

section
variable {s : State} {c : Ch}

/-- What a reflex action of a code does, and whether it starts a run (R231). -/
def State.reflexDoes (n : Nat) (c : Ch) : State → Nat → State :=
  match n with
  | 1 => fun s _ => s.cmdSwitch c true (s.at c) true
  | 2 => fun s _ => s.cmdSwitch c false (s.at c) true
  | 3 => fun s p => (s.cmdSwitch c true (s.at c) true).addPulse c (s.at c + p / 4 * 4) (s.at c + p / 4 * 4)
  | _ => fun s p => s.cmdRunStart c (p % 2) none (s.at c) (s.at c) true
theorem State.reflexDoes_ctl {n p : Nat} : (State.reflexDoes n c s p).dies.map Die.ctl = s.dies.map Die.ctl := by
  unfold State.reflexDoes State.addPulse
  split <;> simp
theorem exec_reflex (hon : s.dieOn (grpOf c) = true) :
    ∀ p ∈ [(Instr.reflexOn c, 1), (.reflexOff c, 2), (.reflexPulse c, 3), (.reflexPwm c, 4)],
      exec p.1 s = .next (s.reflexAt c p.2 (State.reflexDoes p.2 c) (p.2 == 4)) := by
  have row (n : Nat) (pwm : Bool) : onDie (grpOf c) (fun s => s.reflexAt c n (State.reflexDoes n c) pwm) s =
      .next (s.reflexAt c n (State.reflexDoes n c) pwm) := onDie_on hon
  intro p hp
  simp only [List.mem_cons, List.not_mem_nil, or_false] at hp
  obtain rfl | rfl | rfl | rfl := hp
  exacts [row 1 false, row 2 false, row 3 false, row 4 true]
end
end Sys2Proof.Machine

namespace Sys2Proof
open Machine

/-- Settles O13: each row is one operation of the die; a pulse's end is taken from the list of pulses, a run's edge sets the run anew, and a
reflex action is taken from the list of actions before it acts. -/
theorem pulsePwmAndReflexActions : Obligations.PulsePwmAndReflexActions := by
  unfold Obligations.PulsePwmAndReflexActions
  intro s c hon
  refine ⟨?_, fun r x hrun hnext hgate => ?_, fun r0 r a x s1 hrun hnext hgate hs1 hrun1 ha => ?_, fun a ha p hp => ?_⟩
  · refine ⟨s.pulseOff c, onDie_on (k := (State.pulseOff · c)) hon, fun p hp => State.pulseOff_later hp, fun hquiet => ?_⟩
    rw [State.pulseOff_quiet hquiet]
    refine ⟨fun p => by simp [State.mem_pulsesTo], fun ⟨p, hp, hdue⟩ hsw => State.pulsesTo_off hsw ⟨p, hp, by simpa using hdue⟩⟩
  · refine ⟨s.runEdge c, onDie_on (k := (State.runEdge · c)) hon, ?_⟩
    rw [State.runEdge_off hrun hnext hgate]
    exact State.runOff_run
  · refine ⟨s.runEdge c, onDie_on (k := (State.runEdge · c)) hon, ?_⟩
    subst hs1 ha
    rw [State.runEdge_on hrun hnext hgate hrun1]
    exact ⟨State.runOn_sw, State.runOn_next⟩
  · have hexec := exec_reflex hon p hp
    refine ⟨fun hne => by rw [hexec, State.reflexAt_other ha hne], fun hcode => ⟨_, hexec, ?_, fun hsw => ?_⟩⟩
    · rw [← hcode]
      exact State.reflexAt_acts ha fun _ _ => State.reflexDoes_ctl
    · rw [← hcode]
      refine ⟨fun h1 => ?_, fun h2 => ?_, fun h3 => ?_, fun h4 hmode => ?_⟩
      · rw [State.reflexAt_runs ha hsw (by simp [h1]), h1]
        exact State.cmdSwitch_sets.imp_right And.left
      · rw [State.reflexAt_runs ha hsw (by simp [h2]), h2]
        exact State.cmdSwitch_sets.imp_right And.left
      · rw [State.reflexAt_runs ha hsw (by simp [h3]), h3, ← State.reflexReady_at (a := a)]
        exact State.pulse_sets
      · rw [State.reflexAt_runs ha hsw (by simp [hmode]), h4]
        exact State.cmdRunStart_sets
end Sys2Proof

/-! ### What a group die sends reaches the hub die (R124, R159, R229, R276) -/
namespace Sys2Proof.Machine
section
variable {s : State} {g : Grp} {c : Ch} {r : RecData} {q : Nat}

/-- Links and dies that agree, agree for each group. -/
theorem State.link_congr {t : State} (h : t.links = s.links) : t.link g = s.link g := by rw [State.link, h, State.link]
theorem State.dieOf_congr {t : State} (h : t.dies = s.dies) : t.dieOf g = s.dieOf g := by rw [State.dieOf, h, State.dieOf]
@[simp] theorem State.timestampIn_link {rising epoch : Bool} {t : Nat} : (s.timestampIn c rising epoch t).link g = s.link g :=
  State.link_congr (by simp)
@[simp] theorem State.recIn_dieOf {j : Grp} : (s.recIn j q r).dieOf g = s.dieOf g := State.dieOf_congr (by simp)
@[simp] theorem State.shedSeen_dieOf {urgent : Bool} {n : Nat} : (s.shedSeen c urgent n).dieOf g = s.dieOf g := State.dieOf_congr (by simp)
@[simp] theorem State.delayIn_dieOf {on : Bool} {d v cross : Nat} {slot : Option Nat} : (s.delayIn c on d v cross slot).dieOf g = s.dieOf g :=
  State.dieOf_congr (by simp)
@[simp] theorem State.condition_dieOf {j : Grp} {x : Cond} : (s.condition j x).dieOf g = s.dieOf g := State.dieOf_congr (by simp)

/-! A reliable record is taken in sequence -/

@[simp] theorem State.setSafe_recSeq {on : Bool} {cause : Nat} {j : Grp} : ((s.setSafe g on cause).link j).recSeq = (s.link j).recSeq := by
  have hheld : ((if on then s.updLink g fun l => { l with fedHold := false } else s).link j).recSeq = (s.link j).recSeq := by
    split
    · rw [State.link_updLink]
      split <;> rfl
    · rfl
  rw [← hheld]
  unfold State.setSafe
  generalize (if on then s.updLink g fun l => { l with fedHold := false } else s) = s0
  dsimp only
  split
  · rfl
  · rw [State.link_congr]
    split <;> simp
/-- No report of a die changes which record comes next. -/
@[simp] theorem State.eventIn_recSeq {e : EvData} {j : Grp} : ((s.eventIn g e).link j).recSeq = (s.link j).recSeq := by
  cases e with
  | safe on cause => exact State.setSafe_recSeq
  | _ =>
    refine congrArg Link.recSeq (State.link_congr ?_)
    unfold State.eventIn
    dsimp only
    (repeat' split) <;> simp
/-- What a record that is taken does at the hub die (R276). -/
def State.recTaken (s : State) (g : Grp) (q : Nat) (r : RecData) : State :=
  let s1 := s.updLink g fun l => { l with recSeq := some q }
  match r with
  | .void => s1
  | .timestamp n rising epoch t => s1.timestampIn (chOf g n) rising epoch t
  | .event e => s1.eventIn g e
  | .iol n o => s1.updPort (chOf g n) fun p => { p with odIn := o }
/-- A record is taken when none was taken yet or it is the next one (R276). -/
theorem State.recIn_next (h : (s.link g).recSeq = none ∨ (s.link g).recSeq = some ((q + 255) % 256)) : s.recIn g q r = s.recTaken g q r := by
  unfold State.recIn
  obtain h | h := h <;> exact if_pos (by simp [h])
theorem State.recTaken_recSeq : ((s.recTaken g q r).link g).recSeq = some q := by
  have hmarked : ((s.updLink g fun l => { l with recSeq := some q }).link g).recSeq = some q := by simp
  cases r with
  | event e => exact State.eventIn_recSeq.trans hmarked
  | void => exact hmarked
  | timestamp n rising epoch t => exact (congrArg Link.recSeq State.timestampIn_link).trans hmarked
  | iol n o => exact hmarked
theorem State.recTaken_dieOf : (s.recTaken g q r).dieOf g = s.dieOf g := by
  unfold State.recTaken
  dsimp only
  split <;> exact State.dieOf_congr (by simp)

/-! A record is sent -/

/-- A record leaves its die with the next sequence and is kept (R276). -/
def State.recSent (s : State) (g : Grp) (r : RecData) (drop : Die → Die) : State :=
  (s.laneTake g r.size).updDie g fun d => { drop d with seq := (d.seq + 1) % 256, sent := d.sent ++ [((s.dieOf g).seq, s.clock, r)] }
theorem State.sendRec_sends {ok : Bool} {rank : Nat} {l : List RecData} {drop : Die → Die} (hfirst : (s.dieOf g).firstAck = true)
    (hup : s.upOn g = true) (hlane : s.laneFor g rank r.size = true) : s.sendRec g ok rank (r :: l) drop =
      if ok then (s.recSent g r drop).recIn g (s.dieOf g).seq r else s.recSent g r drop := by
  simp [State.sendRec, hfirst, hup, hlane, State.recSent]
/-- What the hub die makes of a record changes no die. -/
theorem State.sendRec_dies {ok : Bool} {drop : Die → Die} :
    (if ok then (s.recSent g r drop).recIn g q r else s.recSent g r drop).dieOf g = (s.recSent g r drop).dieOf g := by
  split
  · exact State.recIn_dieOf
  · rfl
theorem State.recSent_dieOf {drop : Die → Die} : (s.recSent g r drop).dieOf g =
    { drop ((s.laneTake g r.size).dieOf g) with
      seq := ((s.dieOf g).seq + 1) % 256, sent := (s.dieOf g).sent ++ [((s.dieOf g).seq, s.clock, r)] } := by
  simp [State.recSent, State.laneTake]

/-! What a record does at the hub die -/

/-- The fields that a timestamp of an instant sets (R159, Table 7.5). -/
def State.stamped (s : State) (c : Ch) (rising : Bool) (i : Nat) : State :=
  ((((s.wrapTally (F.IN_STATUS_EDGE_SEQ c)).setReg (F.IN_LAST_LO_INSTANT c) (i / 4)).setReg (F.IN_LAST_HI c) (i / 2 ^ 32)).setReg
    (F.IN_LAST_LO_VALID c) 1).setReg (F.IN_LAST_LO_DIR c) (b2n rising)
/-- Beside them a timestamp sets a cause and raises a notification. -/
theorem State.reg_timestampIn {rising epoch : Bool} {t i : Nat} {f : Fld} (hi : s.stampInstant epoch t = some i) (hf : f.plain = true) :
    (s.timestampIn c rising epoch t).reg f = (s.stamped c rising (i / 4 * 4)).reg f := by
  unfold State.timestampIn
  rw [hi]
  dsimp only
  split
  · rw [State.reg_updCh, State.reg_raise _ _ _ hf, State.reg_cause_plain _ _ hf, State.stamped]
  · rw [State.reg_cause_plain _ _ hf, State.stamped]
/-- IN_LAST takes the instant and the direction of a timestamp (R159). -/
theorem State.timestampIn_last {rising epoch : Bool} {t i : Nat} (hi : s.stampInstant epoch t = some i) :
    (s.timestampIn c rising epoch t).reg (F.IN_LAST_HI c) = i / 2 ^ 32 % 2 ^ 32 ∧
    (s.timestampIn c rising epoch t).reg (F.IN_LAST_LO_INSTANT c) = i / 4 % 2 ^ 30 ∧
    (s.timestampIn c rising epoch t).reg (F.IN_LAST_LO_DIR c) = b2n rising := by
  have hhi : i / 4 * 4 / 4294967296 = i / 4294967296 := by omega
  have hdir : b2n rising % 2 = b2n rising := by cases rising <;> rfl
  rw [State.reg_timestampIn hi rfl, State.reg_timestampIn hi rfl, State.reg_timestampIn hi rfl]
  simp [State.stamped, hhi, hdir]
/-- A tally that overflowed shows it (R164). -/
theorem State.tallyOvf_shown {n : ChN} : (s.eventIn g (.tallyOvf n)).reg (F.IN_STATUS_TALLY_OVF (chOf g n)) = 1 := by
  have hw : (F.IN_STATUS_TALLY_OVF (chOf g n)).w = 1 := rfl
  rw [State.eventIn, State.reg_cause_plain _ _ rfl, State.reg_stick, if_pos rfl, hw, Nat.or_mod_two_pow]
  obtain h | h := Nat.mod_two_eq_zero_or_one (s.reg (F.IN_STATUS_TALLY_OVF (chOf g n))) <;> simp [h]
/-- DELAY_ON_LAST or DELAY_OFF_LAST takes a measured delay, as far as it goes (R124). -/
theorem State.delayIn_last {on : Bool} {d v cross : Nat} {slot : Option Nat} :
    (s.delayIn c on d v cross slot).reg (if on then F.TO_DELAY_ON_LAST c else F.TO_DELAY_OFF_LAST c) = min d (2 ^ 16 - 1) := by
  have hmin : min d 65535 % 65536 = min d 65535 := by omega
  have hends (u : State) (w : EdgeWait) (f : Fld) (hf : f.plain = true) (hne : F.TO_STATUS_LAST_UNCOMP c ≠ f) :
      (u.waitEnds c w false cross d).reg f = u.reg f := by
    unfold State.waitEnds State.edgeDone
    dsimp only
    (repeat' split) <;> simp [hne, State.reg_notify _ _ hf]
  unfold State.delayIn
  cases on with
  | true =>
    dsimp only
    rw [if_pos rfl, if_pos rfl]
    split
    · simp [hmin, apply_ite (State.reg · (F.TO_DELAY_ON_LAST c)), State.reg_tally]
    · rw [hends _ _ _ rfl (by simp)]
      simp [hmin, apply_ite (State.reg · (F.TO_DELAY_ON_LAST c)), State.reg_tally]
  | false =>
    dsimp only
    rw [if_neg Bool.false_ne_true, if_neg Bool.false_ne_true]
    split
    · simp [hmin, apply_ite (State.reg · (F.TO_DELAY_OFF_LAST c)), State.reg_tally]
    · rw [hends _ _ _ rfl (by simp)]
      simp [hmin, apply_ite (State.reg · (F.TO_DELAY_OFF_LAST c)), State.reg_tally]
end

/-! Conditions -/

theorem length_queueCond {x : Cond} {l : List Cond} : (queueCond x l).length = l.length + 1 := by
  induction l with
  | nil => rfl
  | cons y t ih =>
    unfold queueCond
    split
    · rfl
    · exact congrArg (· + 1) ih
/-- A condition takes its place in a lane that has room (R232). -/
theorem State.condition_lane {s : State} {g : Grp} {x : Cond} (hon : s.on F.RFX_CTRL_ENABLE = true) (hroom : s.rfx.lanes[g.val].length < 32) :
    (s.condition g x).rfx.lanes[g.val] = queueCond { x with tick := s.tick } s.rfx.lanes[g.val] := by
  have hlen : (queueCond { x with tick := s.tick } s.rfx.lanes[g.val]).length ≤ 32 := by
    rw [length_queueCond]
    exact hroom
  simp [State.condition, hon, Nat.not_lt.mpr hlen, List.take_of_length_le hlen]
/-- The n-th shed of a channel is recorded and changes nothing of the reflex engine. -/
theorem State.shedSeen_enable {s : State} {c : Ch} {urgent : Bool} {n : Nat} :
    (s.shedSeen c urgent n).on F.RFX_CTRL_ENABLE = s.on F.RFX_CTRL_ENABLE := by
  unfold State.shedSeen State.shedRecord
  dsimp only
  split <;> simp [State.on, State.reg_tally]

/-! The rows -/

section
variable {s : State} {g : Grp} {r : RecData} {l : List RecData} {ok : Bool}

/-- The state after a record was sent: its frame was good or not (R276). -/
def State.recDone (s : State) (g : Grp) (ok : Bool) (r : RecData) (drop : Die → Die) : State :=
  if ok then (s.recSent g r drop).recIn g (s.dieOf g).seq r else s.recSent g r drop
theorem State.recDone_dieOf {drop : Die → Die} : (s.recDone g ok r drop).dieOf g =
    { drop ((s.laneTake g r.size).dieOf g) with
      seq := ((s.dieOf g).seq + 1) % 256, sent := (s.dieOf g).sent ++ [((s.dieOf g).seq, s.clock, r)] } :=
  State.sendRec_dies.trans State.recSent_dieOf
theorem State.recDone_taken {drop : Die → Die} (hok : ok = true)
    (h : (s.link g).recSeq = none ∨ (s.link g).recSeq = some (((s.dieOf g).seq + 255) % 256)) :
    s.recDone g ok r drop = (s.recSent g r drop).recTaken g (s.dieOf g).seq r := by
  subst hok
  exact State.recIn_next (s := s.recSent g r drop) h
theorem exec_timestamp (hhub : s.hubOn = true) (hon : s.dieOn g = true) (hup : s.upOn g = true) (hfirst : (s.dieOf g).firstAck = true)
    (hq : (s.dieOf g).tsQ = r :: l) (hlane : s.laneFor g 2 r.size = true) :
    exec (.timestamp g ok) s = .next (s.recDone g ok r fun d => { d with tsQ := d.tsQ.drop 1 }) := by
  rw [show exec (.timestamp g ok) s = execTimestamp g ok s from rfl, execTimestamp, onBoth_on hhub hon, hq, State.sendRec_sends hfirst hup hlane,
    State.recDone]
theorem exec_event (hhub : s.hubOn = true) (hon : s.dieOn g = true) (hup : s.upOn g = true) (hfirst : (s.dieOf g).firstAck = true)
    (hq : (s.dieOf g).evQ = r :: l) (hlane : s.laneFor g 3 r.size = true) :
    exec (.event g ok) s = .next (s.recDone g ok r fun d => { d with evQ := d.evQ.drop 1 }) := by
  rw [show exec (.event g ok) s = execEvent g ok s from rfl, execEvent, onBoth_on hhub hon, hq, State.sendRec_sends hfirst hup hlane,
    State.recDone]
theorem exec_iolRecord (hhub : s.hubOn = true) (hon : s.dieOn g = true) (hup : s.upOn g = true) (hfirst : (s.dieOf g).firstAck = true)
    (hq : (s.dieOf g).iolQ = r :: l) (hlane : s.laneFor g 4 r.size = true) :
    exec (.iolRecord g ok) s = .next (s.recDone g ok r fun d => { d with iolQ := d.iolQ.drop 1 }) := by
  rw [show exec (.iolRecord g ok) s = execIolRecord g ok s from rfl, execIolRecord, onBoth_on hhub hon, hq, State.sendRec_sends hfirst hup hlane,
    State.recDone]
/-- A record that is kept is sent again, and taken when it is the next one (R276). -/
theorem exec_recordResend {k q u : Nat} (hhub : s.hubOn = true) (hon : s.dieOn g = true) (hup : s.upOn g = true)
    (hk : (s.dieOf g).sent[k]? = some (q, u, r)) (hseq : (s.link g).recSeq = some ((q + 255) % 256)) (hpassed : s.passed g u 2000 = true)
    (hlane : s.laneFor g r.rank r.size = true) : exec (.recordResend g k true) s =
      .next (((s.laneTake g r.size).updDie g fun d => { d with sent := d.sent.set k (q, s.clock, r) }).recTaken g q r) := by
  rw [show exec (.recordResend g k true) s = execRecordResend g k true s from rfl, execRecordResend, onBoth_on hhub hon, hk]
  dsimp only
  rw [hpassed, hlane, if_neg (by simp), hup, if_pos (by rfl), State.recIn_next]
  exact .inr hseq
theorem exec_delay {x : DelayRec} {q : List DelayRec} (hhub : s.hubOn = true) (hon : s.dieOn g = true) (hup : s.upOn g = true)
    (hq : (s.dieOf g).delayQ = x :: q) (hlane : s.laneFor g 0 5 = true) : exec (.delay g true) s =
      .next (((s.laneTake g 5).updDie g fun y => { y with delayQ := q }).delayIn (chOf g x.n) x.dir x.delay x.lp x.cross x.slot) := by
  rw [show exec (.delay g true) s = execDelay g true s from rfl, execDelay, onBoth_on hhub hon, hq]
  dsimp only
  rw [hlane, if_neg (by simp), hup, if_pos (by rfl)]
theorem State.upOn_updDie {j : Grp} {k : Die → Die} : (s.updDie g k).upOn j = s.upOn j := rfl
/-- An urgent word has left its die, and a shed that it tells of is recorded (R105, R229). -/
def State.urgSeen (s : State) (g : Grp) (n : ChN) (code k : Nat) (rest : List UrgUp) : State :=
  let s1 := s.updDie g fun d => { d with urgUp := rest, urgCnt := d.urgCnt + 1, lane := d.lane - 2 }
  if code = 7 then s1.shedSeen (chOf g n) true k else s1
/-- An urgent word of a condition leaves its die, and the condition goes to its lane (R229). -/
theorem exec_urgentCondition {n : ChN} {code k : Nat} {rest : List UrgUp} (hhub : s.hubOn = true) (hon : s.dieOn g = true)
    (hup : s.upOn g = true) (htake : takeUrg UrgUp.isCond (s.dieOf g).urgUp = (some (.cond n code k), rest)) (hcnt : (s.dieOf g).urgCnt < 3) :
    exec (.urgentCondition g true) s = .next ((s.urgSeen g n code k rest).condition g (urgCond (chOf g n) code)) := by
  rw [show exec (.urgentCondition g true) s = execUrgentCondition g true s from rfl, execUrgentCondition, onBoth_on hhub hon, State.urgCondIn,
    State.urgentUp, htake]
  dsimp only
  rw [if_neg (by omega), State.upOn_updDie, hup]
  rfl
theorem State.urgSeen_frame {n : ChN} {code k : Nat} {rest : List UrgUp} : (s.urgSeen g n code k rest).rfx = s.rfx ∧
    (s.urgSeen g n code k rest).tick = s.tick ∧ (s.urgSeen g n code k rest).on F.RFX_CTRL_ENABLE = s.on F.RFX_CTRL_ENABLE ∧
    ((s.urgSeen g n code k rest).dieOf g).urgUp = rest := by
  unfold State.urgSeen
  dsimp only
  split
  · refine ⟨by simp, by simp [State.tick], State.shedSeen_enable, by simp⟩
  · exact ⟨rfl, rfl, rfl, by simp⟩
end
end Sys2Proof.Machine

namespace Sys2Proof
open Machine

/-- Settles O20: the state after each row is written out by a lemma of the row; a record that is taken sets the sequence last taken, and what
it does at the hub die touches no die. -/
theorem upLinkRecordCommands : Obligations.UpLinkRecordCommands := by
  unfold Obligations.UpLinkRecordCommands
  intro s g hhub hon hup
  refine ⟨fun ok r l hfirst hq hlane => ?_, fun ok r l hfirst hq hlane => ?_, fun ok r l hfirst hq hlane => ?_,
    fun k q u r hk hseq hpassed hlane => ?_, fun x l hq hlane => ?_, fun n code k l htake hcnt => ?_⟩
  · refine ⟨_, exec_timestamp hhub hon hup hfirst hq hlane, ?_⟩
    rw [State.recDone_dieOf]
    refine ⟨by simp [State.laneTake, hq], rfl, rfl, fun n rising epoch x i hok hnone hr hi => ?_⟩
    rw [State.recDone_taken hok (.inl hnone), hr]
    exact State.timestampIn_last hi
  · refine ⟨_, exec_event hhub hon hup hfirst hq hlane, ?_⟩
    rw [State.recDone_dieOf]
    refine ⟨by simp [State.laneTake, hq], rfl, rfl, fun hok hnext => ?_, fun n hok hnone hr => ?_⟩
    · rw [State.recDone_taken hok hnext]
      exact State.recTaken_recSeq
    · rw [State.recDone_taken hok (.inl hnone), hr]
      exact State.tallyOvf_shown
  · refine ⟨_, exec_iolRecord hhub hon hup hfirst hq hlane, ?_⟩
    rw [State.recDone_dieOf]
    refine ⟨by simp [State.laneTake, hq], rfl, fun n o hok hnone hr => ?_⟩
    rw [State.recDone_taken hok (.inl hnone), hr]
    simp [State.recTaken, State.updPort]
  · refine ⟨_, exec_recordResend hhub hon hup hk hseq hpassed hlane, State.recTaken_recSeq, ?_⟩
    rw [State.recTaken_dieOf]
    simp [State.laneTake]
  · refine ⟨_, exec_delay hhub hon hup hq hlane, by simp, State.delayIn_last⟩
  · obtain ⟨hrfx, htick, hkept, hurg⟩ := State.urgSeen_frame (s := s) (g := g) (n := n) (code := code) (k := k) (rest := l)
    refine ⟨_, exec_urgentCondition hhub hon hup htake hcnt, by rw [State.condition_dieOf, hurg], fun hen hroom => ?_⟩
    rw [State.condition_lane (hkept.trans hen) (by rw [hrfx]; exact hroom), htick, hrfx]
end Sys2Proof

/-! ### The words of the time base, the Fold and the rules (R121, R229, R235, R236, R244, R280) -/
namespace Sys2Proof.Machine
section
variable {s s0 : State} {rq : Req} {u : U} {off : Nat} {v : Word} {r : RuleNo} {f : Fld}

/-! A word that is written whole -/

/-- A full write of a word that is no word of a pair, of a unit that is always reached, is that of one word. -/
theorem writeCmd_one (hrq : rq ≠ .fw) (hs : s.serves rq (U.at u off)) (hspot : spotAt (U.at u off / 4 * 4) = .word u off)
    (hlink : linkUnit u = false) (hlow : off ∉ writePairs u) (hhigh : 4 ≤ off → off - 4 ∉ writePairs u) (hbased : s.based u off = s) :
    writeCmd rq (U.at u off) 15 v.toNat s = .next (s.oneWrite rq u off (U.at u off / 4 * 4) 15 v.toNat).1 := by
  rw [writeCmd_serves hs (by simp [enables_full]), enables_full, State.writeWord_one hrq hspot (.inl hlink) hlow hhigh, hbased]
theorem word_and_beMask (v : Word) : v.toNat &&& beMask 15 = v.toNat :=
  (Nat.and_two_pow_sub_one_eq_mod v.toNat 32).trans (Nat.mod_eq_of_lt v.isLt)
/-- A plain word that nothing holds, with no field that its lock bit guards, is stored and then does what it does beside. -/
theorem writeCmd_stored (hw : PlainWord u off) (hrq : rq ≠ .fw) (hs : s.serves rq (U.at u off)) (hbased : s.based u off = s)
    (hheld : s.wordHeld u off (merge 15 (s.unitWord u off) v.toNat) = none) (hrwl : ∀ r ∈ rowsAt u off, r.acc ≠ .rwl)
    (hro : ∃ r ∈ rowsAt u off, r.acc ≠ .ro) :
    writeCmd rq (U.at u off) 15 v.toNat s = .next ((s.stored rq u off v.toNat).wordDone s rq u off 15 v.toNat).1 := by
  rw [writeCmd_one hrq hs hw.spot hw.link hw.low hw.high hbased,
    State.oneWrite_open hrq hheld (hw.own _ _ _ _) (fun r hr hacc => absurd hacc (hrwl r hr)) hro hw.limit, word_and_beMask]

/-! The slew and FOLD_CANCEL -/

theorem slew_spot : spotAt (U.at .tb 0x38 / 4 * 4) = .word .tb 0x38 := rfl
/-- TB_SLEW is written in a way of its own (R244). -/
theorem State.oneWrite_slew {addr : Nat} : (s.oneWrite rq .tb 0x38 addr 15 v.toNat).1 = s.slewWritten v.toNat := by
  simp [State.oneWrite, State.wordHeld, State.wordOwn, merge_full _ v.isLt]
theorem exec_slewWrite (hrq : rq ≠ .fw) (hs : s.serves rq (U.at .tb 0x38)) :
    exec (.slewWrite rq 15 v) s = .next (s.slewWritten v.toNat) := by
  rw [show exec (.slewWrite rq 15 v) s = execSlewWrite rq 15 v s from rfl, execSlewWrite,
    writeCmd_one hrq hs slew_spot rfl (by decide) (fun _ => by decide) rfl, State.oneWrite_slew]
theorem plainWord_foldCancel : PlainWord .fold 0x2C := ⟨rfl, rfl, by decide, fun _ => by decide, fun _ _ _ _ => rfl, nofun, nofun, nofun⟩
theorem exec_foldCancelWrite (hrq : rq ≠ .fw) (hs : s.serves rq (U.at .fold 0x2C)) :
    exec (.foldCancelWrite rq 15 v) s = .next ((s.stored rq .fold 0x2C v.toNat).foldCancel v.toNat) := by
  rw [show exec (.foldCancelWrite rq 15 v) s = execFoldCancelWrite rq 15 v s from rfl, execFoldCancelWrite,
    writeCmd_stored plainWord_foldCancel hrq hs rfl rfl (by decide) (by decide)]
  simp [State.wordDone]

/-! A rule's words -/

/-- The words of a rule that act when they are written. -/
def ruleWords : List Nat := [0, 4, 8, 0xC]
/-- Each of them has a field that is written, and none that a lock guards (Table 10.17). -/
theorem ruleWords_rows (ho : off ∈ ruleWords) (r : RuleNo) :
    (∀ y ∈ rowsAt (.rule r) off, y.acc ≠ .rwl) ∧ ∃ y ∈ rowsAt (.rule r) off, y.acc ≠ .ro := by
  have h : (((rowsAt (.rule r) off).all fun y => y.acc != .rwl) && (rowsAt (.rule r) off).any fun y => y.acc != .ro) = true := by
    simp only [ruleWords, List.mem_cons, List.not_mem_nil, or_false] at ho
    obtain rfl | rfl | rfl | rfl := ho <;> rfl
  simpa using h
theorem plainWord_arm (r : RuleNo) : PlainWord (.rule r) 4 where
  spot := by revert r; decide
  link := rfl
  low := by simp [writePairs]
  high _ := by simp [writePairs]
  own _ _ _ _ := rfl
  limit := nofun
  lock := nofun
  root := nofun
theorem State.wordHeld_arm (n : Nat) : s.wordHeld (.rule r) 4 n = none := by simp [State.wordHeld]
theorem exec_rfxArmWrite (hrq : rq ≠ .fw) (hs : s.serves rq (U.at (.rule r) 4)) :
    exec (.rfxArmWrite rq r 15 v) s = .next ((s.stored rq (.rule r) 4 v.toNat).armWritten r) := by
  obtain ⟨hopen, hwritten⟩ := ruleWords_rows (off := 4) (by decide) r
  rw [show exec (.rfxArmWrite rq r 15 v) s = execRfxArmWrite rq r 15 v s from rfl, execRfxArmWrite,
    writeCmd_stored (plainWord_arm r) hrq hs rfl (State.wordHeld_arm _) hopen hwritten]
  simp [State.wordDone, U.isUnit]
/-- The offset of RFX_COND, RFX_ACTION and RFX_PARAM in a rule. -/
def ruleOff (w : Fin 3) : Nat := if w = 0 then 0 else 4 + 4 * w.val
theorem ruleOff_cases (w : Fin 3) : ruleOff w = 0 ∨ ruleOff w = 8 ∨ ruleOff w = 0xC := by revert w; decide
theorem ruleOff_sent {w : Fin 3} (hw : w ≠ 0) : ruleOff w = 8 ∨ ruleOff w = 0xC := by revert w; decide
theorem plainWord_ruleOff (r : RuleNo) (w : Fin 3) : PlainWord (.rule r) (ruleOff w) := plainWord_rule r w
/-- A word of a rule that is not disarmed is refused (R236). -/
theorem exec_ruleWrite_busy {w : Fin 3} (hrq : rq ≠ .fw) (hs : s.serves rq (U.at (.rule r) (ruleOff w)))
    (hbusy : s.regOld (F.RFX_ARM_PHASE r) ≠ 0) : exec (.ruleWrite rq r w 15 v) s = .next s.busyRule := by
  obtain ⟨hspot, hlink, hlow, hhigh, -, -, -, -⟩ := plainWord_ruleOff r w
  have hheld (n : Nat) : s.wordHeld (.rule r) (ruleOff w) n = some (s.busyRule, .locked) := if_pos ⟨ruleOff_cases w, hbusy⟩
  rw [show exec (.ruleWrite rq r w 15 v) s = writeCmd rq (U.at (.rule r) (ruleOff w)) 15 v.toNat s from rfl,
    writeCmd_one hrq hs hspot hlink hlow hhigh rfl, State.oneWrite, hheld]
/-- A word of a disarmed rule is stored, and acts (R236). -/
theorem exec_ruleWrite_free {w : Fin 3} (hrq : rq ≠ .fw) (hs : s.serves rq (U.at (.rule r) (ruleOff w)))
    (hfree : s.regOld (F.RFX_ARM_PHASE r) = 0) : exec (.ruleWrite rq r w 15 v) s =
      .next ((s.stored rq (.rule r) (ruleOff w) v.toNat).wordDone s rq (.rule r) (ruleOff w) 15 v.toNat).1 := by
  have hoff : ruleOff w ∈ ruleWords := by
    obtain h | h | h := ruleOff_cases w <;> rw [h] <;> decide
  obtain ⟨hopen, hwritten⟩ := ruleWords_rows hoff r
  rw [show exec (.ruleWrite rq r w 15 v) s = writeCmd rq (U.at (.rule r) (ruleOff w)) 15 v.toNat s from rfl,
    writeCmd_stored (plainWord_ruleOff r w) hrq hs rfl (if_neg fun h => h.2 hfree) hopen hwritten]
/-- RFX_ACTION and RFX_PARAM are made known to the group of the rule's target (R280). -/
theorem wordDone_sent {x : Nat} (ho : off = 8 ∨ off = 0xC) : (s.wordDone s0 rq (.rule r) off 15 x).1 = s.sendRule r := by
  obtain rfl | rfl := ho <;> simp [State.wordDone, U.isUnit]

/-! What these words do -/

/-- The phase that a write of RFX_ARM gives a rule (R235). -/
theorem State.armWritten_regs : (s.armWritten r).reg (F.RFX_ARM_ARM r) = s.reg (F.RFX_ARM_ARM r) ∧
    (s.armWritten r).reg (F.RFX_ARM_HOLDOFF r) = s.reg (F.RFX_ARM_HOLDOFF r) ∧ (s.armWritten r).reg (F.RFX_ARM_PHASE r) =
      if armed (s.reg (F.RFX_ARM_ARM r)) then (if s.now < s.pair (F.RFX_ARM_AT_LO r) (F.RFX_ARM_AT_HI r) then 1 else 2) else 0 := by
  have hmasks (t : State) {f : Fld} (hf : f.unit = .rule r) : t.edgeMasks.reg f = t.reg f :=
    State.reg_edgeMasks (fun g e => by simp [← e] at hf) fun g e => by simp [← e] at hf
  have hnote (t : State) (f k : Fld) (a : Nat) : (t.noteWrite f a).reg k = t.reg k := by simp [State.reg]
  unfold State.armWritten
  refine ⟨?_, ?_, ?_⟩ <;> rw [hmasks _ rfl, State.reg_setReg]
  · rw [if_neg (by simp), hnote]
  · rw [if_neg (by simp), hnote]
  · rw [if_pos rfl]
    (repeat' split) <;> rfl
/-- A rule that is not disarmed keeps its fields, and the refusal is counted and reported (R236). -/
theorem State.busyRule_regs : s.busyRule.reg F.RFX_LAST_BUSY_WRITE = min (s.reg F.RFX_LAST_BUSY_WRITE + 1) (2 ^ 16 - 1) % 2 ^ 16 ∧
    bit (s.busyRule.reg (F.CAUSE .rfx)) 4 = true ∧ ∀ f, f.plain = true → F.RFX_LAST_BUSY_WRITE ≠ f → s.busyRule.reg f = s.reg f := by
  refine ⟨?_, State.cause_sets_bit _ nofun (by decide), fun f hf hne => ?_⟩
  · rw [State.busyRule, State.reg_cause_plain _ _ rfl, State.reg_tally, if_pos rfl]
  · rw [State.busyRule, State.reg_cause_plain _ _ hf, State.reg_tally, if_neg hne]
/-- The group of a rule's target has the rule to confirm, and a RULE command queued while it is present (R280). -/
theorem State.sendRule_link : r ∈ ((s.sendRule r).link (grpOf (s.ruleTarget r))).unR ∧
    (s.absent (grpOf (s.ruleTarget r)) = false → ∃ y ∈ ((s.sendRule r).link (grpOf (s.ruleTarget r))).rule,
      y.cmd = .rule r (s.reg (F.RFX_ACTION_CODE r)) (chN (s.ruleTarget r)) (s.reg (F.RFX_PARAM r))) := by
  have hmem (l : List RuleNo) : r ∈ if r ∈ l then l else l ++ [r] := by split <;> simp_all
  unfold State.sendRule
  dsimp only
  rw [← State.ruleTarget]
  split
  · next habs => exact ⟨by simp [hmem], fun h => by simp [h] at habs⟩
  · exact ⟨by simp [hmem], fun _ => ⟨_, by simp; exact .inr rfl, rfl⟩⟩
theorem State.sendRule_target : (s.sendRule r).ruleTarget r = s.ruleTarget r := by simp [State.ruleTarget, State.reg]
/-- A full write of RFX_ARM leaves in ARM and HOLDOFF the bits written (R37). -/
theorem State.stored_arm (hrq : rq ≠ .fw) : (s.stored rq (.rule r) 4 v.toNat).reg (F.RFX_ARM_ARM r) = v.toNat / 2 ^ 30 ∧
    (s.stored rq (.rule r) 4 v.toNat).reg (F.RFX_ARM_HOLDOFF r) = v.toNat % 2 ^ 16 := by
  have hrows : rowsAt (.rule r) 4 = [⟨0x4, 30, 2, 0, .rw, false⟩, ⟨0x4, 28, 2, 0, .ro, false⟩, ⟨0x4, 0, 16, 0, .rw, false⟩] := rfl
  have hstored {y : Row} (hy : y ∈ rowsAt (.rule r) 4) (hacc : y.acc = .rw) :
      (s.stored rq (.rule r) 4 v.toNat).reg (y.fld (.rule r)) = v.toNat / 2 ^ y.lo % 2 ^ y.w :=
    State.reg_stored hrq v.isLt hy (.inl hacc) (fun h => by simp [hacc] at h) (Row.asWritten_of nofun nofun nofun)
  have harm := hstored (y := ⟨0x4, 30, 2, 0, .rw, false⟩) (by simp [hrows]) rfl
  have hhold := hstored (y := ⟨0x4, 0, 16, 0, .rw, false⟩) (by simp [hrows]) rfl
  have hv := v.isLt
  exact ⟨harm.trans (Nat.mod_eq_of_lt (by dsimp only; omega)), hhold.trans (by simp)⟩
/-- A word that is stored leaves the state of a group, which no rule's word holds. -/
theorem State.stored_absent {g : Grp} {n : Nat} (ho : off ≠ 0x20) : (s.stored rq u off n).absent g = s.absent g :=
  congrArg absentState (State.reg_stored_off (Ne.symm ho))
end
end Sys2Proof.Machine

namespace Sys2Proof
open Machine

/-- Settles O44: a slew is written in its own way; FOLD_CANCEL, RFX_ARM and a disarmed rule's words are stored and then act; a word of a rule
that is not disarmed is refused. -/
theorem timeFoldRuleWords : Obligations.TimeFoldRuleWords := by
  unfold Obligations.TimeFoldRuleWords
  intro s rq r v hrq
  have hv := v.isLt
  refine ⟨fun hs => ?_, fun hs => ?_, fun hs => ?_, fun w hs => ?_⟩
  · refine ⟨_, exec_slewWrite hrq hs, rfl, ?_, rfl⟩
    rw [State.slewWritten, State.reg_setReg, if_pos rfl]
    cases v.toNat != 0 <;> rfl
  · refine ⟨_, exec_foldCancelWrite hrq hs, ?_⟩
    rw [State.foldCancel, State.cancelSlots_slots]
    simp [State.stored]
  · refine ⟨_, exec_rfxArmWrite hrq hs, ?_⟩
    obtain ⟨harm, hholdoff, hphase⟩ := State.armWritten_regs (s := s.stored rq (.rule r) 4 v.toNat) (r := r)
    obtain ⟨ha, hh⟩ := State.stored_arm (s := s) (r := r) (v := v) hrq
    refine ⟨harm.trans ha, hholdoff.trans hh, hphase.trans ?_⟩
    have hpair : (s.stored rq (.rule r) 4 v.toNat).pair (F.RFX_ARM_AT_LO r) (F.RFX_ARM_AT_HI r) = s.pair (F.RFX_ARM_AT_LO r) (F.RFX_ARM_AT_HI r) := by
      rw [State.pair, State.reg_stored_off (by simp), State.reg_stored_off (by simp), State.pair]
    have hnow : (s.stored rq (.rule r) 4 v.toNat).now = s.now := by simp [State.now, State.stored]
    simp only [ha, hpair, hnow, armed, Bool.or_eq_true, beq_iff_eq]
  · by_cases hold : s.regOld (F.RFX_ARM_PHASE r) = 0
    · refine ⟨_, exec_ruleWrite_free hrq hs hold, fun hne => absurd hold hne, fun _ hw => ?_⟩
      have habsent (g : Grp) (n : Nat) : (s.stored rq (.rule r) (ruleOff w) n).absent g = s.absent g :=
        State.stored_absent (by obtain h | h | h := ruleOff_cases w <;> rw [h] <;> decide)
      obtain ⟨hmem, hqueued⟩ := State.sendRule_link (s := s.stored rq (.rule r) (ruleOff w) v.toNat) (r := r)
      rw [wordDone_sent (ruleOff_sent hw), State.sendRule_target]
      exact ⟨hmem, fun h => by simpa [State.reg] using hqueued ((habsent _ _).trans h)⟩
    · obtain ⟨htally, hcause, hkept⟩ := State.busyRule_regs (s := s)
      refine ⟨_, exec_ruleWrite_busy hrq hs hold, fun _ => ⟨fun y hy => hkept _ ?_ nofun, htally, hcause⟩, fun h => absurd h hold⟩
      have ho : y.off = ruleOff w := (Row.mem_rowsAt.mp hy).2
      refine Fld.plain_iff.mpr ⟨?_, nofun, nofun, nofun⟩
      obtain h | h | h := ruleOff_cases w <;> simp [Row.fld, ho, h]
end Sys2Proof

/-! ### The commands of the analogue loops (R173, R174, R179, R182 to R185) -/

namespace Sys2Proof.Machine

section
variable {s : State} {c : Ch} {l : List (Nat × Bool)}

/-! The fault flags -/

theorem State.don_setFlag {k : Nat} {v : Bool} : (s.setDie (anFld c k) (b2n v)).don (anFld c k) = v := by
  rw [State.don, State.dreg_setDie, if_pos rfl]
  cases v <;> rfl
/-- Flags set one after another: one whose entries all give it the same value holds it, if it had it before or has an entry. -/
theorem State.don_setFlags {k : Nat} {v : Bool} (hone : ∀ p ∈ l, p.1 = k → p.2 = v) (h : s.don (anFld c k) = v ∨ (k, v) ∈ l) :
    (l.foldl (fun s p => s.setDie (anFld c p.1) (b2n p.2)) s).don (anFld c k) = v := by
  induction l generalizing s with
  | nil => simpa using h
  | cons p l ih =>
    obtain ⟨j, w⟩ := p
    refine ih (fun q hq => hone q (List.mem_cons_of_mem _ hq)) ?_
    by_cases hj : j = k
    · obtain rfl : w = v := hone (j, w) List.mem_cons_self hj
      exact .inl (hj ▸ State.don_setFlag)
    · rw [State.don_setDie (by simp [anFld, hj])]
      exact h.imp_right fun hmem => (List.mem_cons.mp hmem).resolve_left fun e => hj (Prod.mk.inj e).1.symm
/-- Of the die's fields the flags that change are set, and nothing else. -/
theorem State.anFlags_die :
    (s.anFlags c l).die = ((l.filter fun p => s.don (anFld c p.1) != p.2).foldl (fun s p => s.setDie (anFld c p.1) (b2n p.2)) s).die := by
  unfold State.anFlags
  dsimp only
  split
  · next hnone => rw [hnone]; rfl
  · simp
/-- A flag stands as it was found. -/
theorem State.anFlags_don {k : Nat} {v : Bool} (hone : ∀ p ∈ l, p.1 = k → p.2 = v) (h : (k, v) ∈ l) : (s.anFlags c l).don (anFld c k) = v := by
  rw [State.don, State.dreg, State.anFlags_die]
  refine State.don_setFlags (fun p hp => hone p (List.mem_of_mem_filter hp)) ?_
  by_cases hv : s.don (anFld c k) = v
  · exact .inl hv
  · exact .inr (List.mem_filter.mpr ⟨h, by simpa using hv⟩)
theorem State.anFlags_single (k : Nat) (v : Bool) : (s.anFlags c [(k, v)]).don (anFld c k) = v := State.anFlags_don (by simp) (by simp)

/-! What the flags leave of the channels -/

theorem State.loopNote_ch (old : Nat) : ∃ n, ∀ d, (s.loopNote c old).ch d = if d = c then { s.ch c with anNote := n } else s.ch d := by
  have hnoted (n : Option (Nat × Nat × OutEntry)) (d : Ch) :
      (s.updCh c fun k => { k with anNote := n }).ch d = if d = c then { s.ch c with anNote := n } else s.ch d := by
    rw [State.ch_updCh]
    by_cases hd : d = c
    · subst hd; simp
    · simp [hd, Ne.symm hd]
  unfold State.loopNote
  dsimp only
  (repeat' split) <;> exact ⟨_, fun d => by simpa [State.ch, State.evt] using hnoted _ d⟩
/-- Flags that change end in the one notification that tells of them, with no channel touched before it (R186). -/
theorem State.anFlags_notes (h : (l.filter fun p => s.don (anFld c p.1) != p.2) ≠ []) :
    ∃ (t : State) (old : Nat), t.chans = s.chans ∧ s.anFlags c l = t.loopNote c old := by
  unfold State.anFlags
  dsimp only
  rw [if_neg h]
  have hset (l : List (Nat × Bool)) : (l.foldl (fun s p => s.setDie (anFld c p.1) (b2n p.2)) s).chans = s.chans :=
    State.foldl_keep State.chans (fun s p => State.setDie_chans s (anFld c p.1) (b2n p.2)) l s
  exact ⟨_, _, by simp [hset], rfl⟩
/-- Flags that are set leave every channel as it was, but for the notification noted of their own. -/
theorem State.anFlags_ch (c : Ch) (l : List (Nat × Bool)) :
    ∃ n, ∀ d, (s.anFlags c l).ch d = if d = c then { s.ch c with anNote := n } else s.ch d := by
  by_cases h : (l.filter fun p => s.don (anFld c p.1) != p.2) = []
  · exact ⟨(s.ch c).anNote, fun d => by rw [State.anFlags, if_pos h]; split <;> simp [*]⟩
  · obtain ⟨t, old, hchans, hnotes⟩ := State.anFlags_notes h
    have hch (d : Ch) : t.ch d = s.ch d := by rw [State.ch, hchans, State.ch]
    obtain ⟨n, hn⟩ := t.loopNote_ch (c := c) old
    exact ⟨n, fun d => by rw [hnotes, hn, hch, hch]⟩
/-- Whatever of a channel is not its notification stands while flags are set. -/
theorem State.anFlags_part {α : Type} {p : Chan → α} (hp : ∀ k n, p { k with anNote := n } = p k) (d : Ch) :
    p ((s.anFlags c l).ch d) = p (s.ch d) := by
  obtain ⟨n, hn⟩ := State.anFlags_ch (s := s) c l
  rw [hn]
  split
  · next hd => rw [hp, hd]
  · rfl
/-- A channel changed before its flags are set. -/
theorem State.updCh_anFlags_part {α : Type} {p : Chan → α} (k : Chan → Chan) (hp : ∀ k n, p { k with anNote := n } = p k) :
    p (((s.updCh c k).anFlags c l).ch c) = p (k (s.ch c)) := by
  rw [State.anFlags_part hp, State.ch_updCh, if_pos rfl]

/-- A retry leaves its flag clear. -/
theorem State.retried_don (k : Nat) : (s.retried c k).don (anFld c k) = false := by
  have hrec (t : State) : (t.anRecord c).don (anFld c k) = t.don (anFld c k) := by simp [State.don, State.dreg]
  unfold State.retried
  dsimp only
  split
  · rw [hrec, State.anFlags_single]
  · exact State.anFlags_single k false
theorem State.retried_chans (k : Nat) : (s.retried c k).chans = (s.anFlags c [(k, false)]).chans := by
  unfold State.retried
  dsimp only
  split <;> simp
theorem State.updCh_retried_part {α : Type} {p : Chan → α} (k : Chan → Chan) (hp : ∀ k n, p { k with anNote := n } = p k) (b : Nat) :
    p (((s.updCh c k).retried c b).ch c) = p (k (s.ch c)) := by
  rw [State.ch, State.retried_chans]
  exact State.updCh_anFlags_part k hp

/-! The analogue output brought to what its state asks -/

theorem State.dacStep_anOff {v : Nat} : ((s.dacStep c v).ch c).anOff = (s.ch c).anOff := by
  simp [State.dacStep, State.setEffective]
theorem State.anSettle_anOff : ((s.anSettle c).ch c).anOff = (s.ch c).anOff := by
  unfold State.anSettle
  (repeat' split)
  · rfl
  all_goals exact State.dacStep_anOff
theorem State.dacStep_don {v : Nat} {f : Fld} (hnow : F.AN_STATUS_DAC_NOW c ≠ f) (hramp : F.AN_STATUS_RAMPING c ≠ f) :
    (s.dacStep c v).don f = s.don f := by
  rw [State.dacStep, State.don_setDie hramp, State.don_setDie hnow]
  rfl
theorem State.anSettle_don {f : Fld} (hnow : F.AN_STATUS_DAC_NOW c ≠ f) (hramp : F.AN_STATUS_RAMPING c ≠ f) :
    (s.anSettle c).don f = s.don f := by
  unfold State.anSettle
  (repeat' split)
  · exact State.don_setDie hramp
  all_goals exact State.dacStep_don hnow hramp

/-- A ramp takes its step toward the effective command, and no further (R179). -/
theorem State.rampStep_now (hramp : s.don (F.AN_STATUS_RAMPING c) = true) (hdac : s.dacOn c = true) (hrate : s.dreg (F.AN_CFG_RAMP c) ≠ 0) :
    (s.rampStep c).chans = s.chans ∧ (s.rampStep c).dreg (F.AN_STATUS_DAC_NOW c) =
      (if s.dreg (F.AN_STATUS_DAC_NOW c) < (s.ch c).dacCmd then
          min (s.ch c).dacCmd (s.dreg (F.AN_STATUS_DAC_NOW c) + s.dreg (F.AN_CFG_RAMP c) * 16)
        else max (s.ch c).dacCmd (s.dreg (F.AN_STATUS_DAC_NOW c) - s.dreg (F.AN_CFG_RAMP c) * 16)) % 2 ^ 16 := by
  have hstep : s.dreg (F.AN_CFG_RAMP c) * 16 ≠ 0 := by omega
  have hgo : ¬((!s.don (F.AN_STATUS_RAMPING c) || !s.dacOn c) = true) := by simp [hramp, hdac]
  rw [State.rampStep, if_neg hgo]
  dsimp only
  rw [if_neg hstep]
  exact ⟨rfl, by rw [State.dreg_setDie, if_neg (by simp), State.dreg_setDie, if_pos rfl]⟩

/-! The rows, while the channel's die runs -/

variable (hon : s.dieOn (grpOf c) = true)
include hon

theorem exec_dacRampStep : exec (.dacRampStep c) s = .next (s.rampStep c) := by
  rw [show exec (.dacRampStep c) s = execDacRampStep c s from rfl, execDacRampStep, onDie_on hon]
theorem exec_compliance (hmode : (s.ch c).mode = 6) (hdac : s.dacOn c = true) (hsup : (s.dieOf (grpOf c)).suspended = false) :
    exec (.compliance c) s = .next (s.anFlags c ([(2, true)] ++ if s.openNow c then [(4, true)] else [])) := by
  rw [show exec (.compliance c) s = execCompliance c s from rfl, execCompliance, onDie_on hon, if_pos (by simp [hmode, hdac, hsup])]
theorem exec_complianceClear (hsup : (s.dieOf (grpOf c)).suspended = false) :
    exec (.complianceClear c) s = .next (s.anFlags c [(2, false), (4, false)]) := by
  rw [show exec (.complianceClear c) s = execComplianceClear c s from rfl, execComplianceClear, onDie_on hon, if_neg (by simp [hsup])]
theorem exec_mismatch (hruns : s.misRuns c = true) (hspan : s.spanMs c (s.ch c).misAt (s.dreg (F.AN_CFG_MISMATCH_TIME c)) = true) :
    exec (.mismatch (grpOf c) (chN c)) s =
      .next ((s.updCh c fun k => { k with misAt := none }).anFlags c [(3, !s.don (F.AN_STATUS_MISMATCH c))]) := by
  rw [show exec (.mismatch (grpOf c) (chN c)) s = execMismatch (grpOf c) (chN c) s from rfl, execMismatch, onDie_on hon]
  simp only [chOf_grpOf_chN, hruns, hspan, Bool.and_self, if_true]
theorem exec_bufferOverload (hmode : (s.ch c).mode = 7) (set : Bool) : exec (.bufferOverload c set) s = .next (s.anFlags c [(5, set)]) := by
  rw [show exec (.bufferOverload c set) s = execBufferOverload c set s from rfl, execBufferOverload, onDie_on hon, if_pos hmode]
theorem exec_analogHot (hmode : analogMode (s.ch c).mode = true) :
    exec (.analogHot c) s = .next ((s.updCh c fun k => { k with anOff := true }).anFlags c [(10, true)]) := by
  rw [show exec (.analogHot c) s = execAnalogHot c s from rfl, execAnalogHot, onDie_on hon, if_pos hmode]
theorem exec_analogHotClear (hoff : (s.ch c).anOff = true) :
    exec (.analogHotClear c) s = .next (((s.updCh c fun k => { k with anOff := false }).anFlags c [(10, false)]).anSettle c) := by
  rw [show exec (.analogHotClear c) s = execAnalogHotClear c s from rfl, execAnalogHotClear, onDie_on hon, if_pos hoff]
theorem exec_loopShort (hloop : s.loopOn c = true) :
    exec (.loopShort c) s = .next ((s.updCh c fun k => { k with loopOff := true }).anFlags c [(6, true)]) := by
  rw [show exec (.loopShort c) s = execLoopShort c s from rfl, execLoopShort, onDie_on hon, if_pos hloop]
theorem exec_loopSupplyRetry (hoff : (s.ch c).loopOff = true) (hfree : s.loopFree c = true) :
    exec (.loopSupplyRetry c false) s = .next ((s.updCh c fun k => { k with loopOff := false }).retried c 6) := by
  rw [show exec (.loopSupplyRetry c false) s = execLoopSupplyRetry c false s from rfl, execLoopSupplyRetry, onDie_on hon,
    if_pos (by simp [hoff, hfree])]
theorem exec_inOverload (hin : s.loopIn c = true) (hsup : s.don (F.AN_CFG_LOOP_SUPPLY c) = false) :
    exec (.inOverload c) s = .next ((s.updCh c fun k => { k with shuntOff := true }).anFlags c [(7, true)]) := by
  rw [show exec (.inOverload c) s = execInOverload c s from rfl, execInOverload, onDie_on hon, if_pos (by simp [hin, hsup])]
theorem exec_shuntRetry (hoff : (s.ch c).shuntOff = true) :
    exec (.shuntRetry c false) s = .next ((s.updCh c fun k => { k with shuntOff := false }).retried c 7) := by
  rw [show exec (.shuntRetry c false) s = execShuntRetry c false s from rfl, execShuntRetry, onDie_on hon, if_pos (by simp [hoff])]
theorem exec_loopCheck {high : Bool} (hruns : s.loopRuns c high = true)
    (hspan : s.spanMs c (if high then (s.ch c).highAt else (s.ch c).lowAt) (s.dreg (F.AN_LOOP_CHECK_TIME c)) = true) :
    exec (.loopCheck (grpOf c) (chN c) high) s =
      .next ((s.updCh c fun k => if high then { k with highAt := none } else { k with lowAt := none }).anFlags c
        [(b2n high, !s.don (if high then F.AN_STATUS_OVER c else F.AN_STATUS_UNDER c))]) := by
  rw [show exec (.loopCheck (grpOf c) (chN c) high) s = execLoopCheck (grpOf c) (chN c) high s from rfl, execLoopCheck, onDie_on hon]
  simp only [chOf_grpOf_chN, hruns, hspan, Bool.and_self, if_true]
end
end Sys2Proof.Machine

namespace Sys2Proof
open Machine

/-- Settles O10: each row is its operation; a flag stands as `State.anFlags_don` says, and of the channel the flags leave all but its
notification (`State.anFlags_part`). -/
theorem analogCommands : Obligations.AnalogCommands := by
  unfold Obligations.AnalogCommands
  intro s c hon
  refine ⟨fun hramp hdac hrate => ?ramp, fun hmode hdac hsup => ?compliance, fun hsup => ?complianceClear, fun hruns hspan => ?mismatch,
    fun set hmode => ?overload, fun hmode => ?hot, fun hoff => ?hotClear, fun hloop => ?short, fun hoff hfree => ?supplyRetry,
    fun hin hsup => ?inOverload, fun hoff => ?shuntRetry, fun high hruns hspan => ?loopCheck⟩
  case ramp => exact ⟨_, exec_dacRampStep hon, State.rampStep_now hramp hdac hrate⟩
  case compliance =>
    refine ⟨_, exec_compliance hon hmode hdac hsup, State.anFlags_don (k := 2) ?_ (by simp), fun hopen => State.anFlags_don (k := 4) ?_ ?_⟩
    · split <;> simp
    all_goals simp [hopen]
  case complianceClear =>
    exact ⟨_, exec_complianceClear hon hsup, State.anFlags_don (k := 2) (by simp) (by simp), State.anFlags_don (k := 4) (by simp) (by simp)⟩
  case mismatch =>
    exact ⟨_, exec_mismatch hon hruns hspan, State.anFlags_single 3 _, State.updCh_anFlags_part (p := Chan.misAt) _ fun _ _ => rfl⟩
  case overload => exact ⟨_, exec_bufferOverload hon hmode set, State.anFlags_single 5 _, State.anFlags_ch c _⟩
  case hot =>
    exact ⟨_, exec_analogHot hon hmode, State.updCh_anFlags_part (p := Chan.anOff) _ fun _ _ => rfl, State.anFlags_single 10 _⟩
  case hotClear =>
    refine ⟨_, exec_analogHotClear hon hoff, ?_, ?_⟩
    · rw [State.anSettle_anOff]
      exact State.updCh_anFlags_part (p := Chan.anOff) _ fun _ _ => rfl
    · rw [State.anSettle_don (by simp) (by simp)]
      exact State.anFlags_single 10 false
  case short =>
    exact ⟨_, exec_loopShort hon hloop, State.updCh_anFlags_part (p := Chan.loopOff) _ fun _ _ => rfl, State.anFlags_single 6 _⟩
  case supplyRetry =>
    exact ⟨_, exec_loopSupplyRetry hon hoff hfree, State.updCh_retried_part (p := Chan.loopOff) _ (fun _ _ => rfl) 6, State.retried_don 6⟩
  case inOverload =>
    exact ⟨_, exec_inOverload hon hin hsup, State.updCh_anFlags_part (p := Chan.shuntOff) _ fun _ _ => rfl, State.anFlags_single 7 _⟩
  case shuntRetry =>
    exact ⟨_, exec_shuntRetry hon hoff, State.updCh_retried_part (p := Chan.shuntOff) _ (fun _ _ => rfl) 7, State.retried_don 7⟩
  case loopCheck =>
    refine ⟨_, exec_loopCheck hon hruns hspan, ?_⟩
    have hfld : (if high then F.AN_STATUS_OVER c else F.AN_STATUS_UNDER c) = anFld c (b2n high) := by cases high <;> rfl
    rw [hfld]
    exact State.anFlags_single _ _
end Sys2Proof

/-! ### What the consumers of the samples leave of the words of a chain (R137, R213 to R217, R222 to R227, R350)

`Fld.sampled` picks out the words that a sample chain has beside its interrupt words and its comparators: SC_CFG to SC_COARSE. The
comparators, the stroke detector and the Drover take the samples and write none of them. One lemma per operation says so. -/

namespace Sys2Proof.Machine

/-- Where the words of a sample chain stand: from SC_CFG to SC_COARSE. -/
@[simp] def sampledAt : U → Nat → Bool
  | .chain _, o => decide (0x20 ≤ o) && decide (o < 0x40)
  | _, _ => false
/-- A field of a sample chain outside its interrupt words and its comparators. -/
def Fld.sampled (f : Fld) : Bool := sampledAt f.unit f.off
@[simp] theorem Fld.sampled_mk (u : U) (o l w d : Nat) : (Fld.mk u o l w d).sampled = sampledAt u o := rfl
@[simp] theorem winState_sampled (x : Strm) (fine : Bool) : (winState x fine).sampled = false := by cases fine <;> rfl

section
variable {s : State} {f g : Fld} (hf : f.sampled = true)
include hf

theorem Fld.ne_of_sampled (hg : g.sampled = false) : g ≠ f := by
  rintro rfl
  simp [hf] at hg
theorem Fld.sampled_plain : f.plain = true := by
  have hoff (u : U) {o : Nat} (h : sampledAt u o = true) : o ≠ 0x10 := by
    cases u <;> simp at h
    omega
  exact Fld.plain_iff.mpr ⟨hoff f.unit hf, (Fld.ne_of_sampled hf rfl).symm, (Fld.ne_of_sampled hf rfl).symm, (Fld.ne_of_sampled hf rfl).symm⟩

@[simp high] theorem State.setReg_sampled (hg : g.sampled = false) (v : Nat) : (s.setReg g v).reg f = s.reg f :=
  (State.reg_setReg ..).trans (if_neg (Fld.ne_of_sampled hf hg))
@[simp] theorem State.tally_sampled (hg : g.sampled = false) (n : Nat) : (s.tally g n).reg f = s.reg f := State.setReg_sampled hf hg _
@[simp] theorem State.stick_sampled (hg : g.sampled = false) (v : Nat) : (s.stick g v).reg f = s.reg f := State.setReg_sampled hf hg _
@[simp] theorem State.hwSet_sampled (hg : g.sampled = false) (v : Nat) : (s.hwSet g v).reg f = s.reg f := by
  unfold State.hwSet
  split
  · rfl
  · exact State.setReg_sampled hf hg v
@[simp] theorem State.cause_sampled (u : U) (k : Nat) : (s.cause u k).reg f = s.reg f := State.reg_cause_plain u k (Fld.sampled_plain hf)
@[simp] theorem State.raise_sampled (kind t : Nat) (body : List Place) : (s.raise kind t body).reg f = s.reg f :=
  State.reg_raise kind t body (Fld.sampled_plain hf)
@[simp] theorem State.notify_sampled (kind : Nat) (body : List Place) : (s.notify kind body).reg f = s.reg f :=
  State.reg_notify kind body (Fld.sampled_plain hf)
@[simp] theorem State.condition_sampled (lane : Grp) (x : Cond) : (s.condition lane x).reg f = s.reg f :=
  State.reg_condition (Fld.sampled_plain hf) (Fld.ne_of_sampled hf rfl)

/-! The comparators -/

@[simp] theorem State.windowNote_sampled {x : Strm} {fine gap : Bool} {dir word t : Nat} : (s.windowNote x fine dir word t gap).reg f = s.reg f := by
  unfold State.windowNote
  dsimp only
  (repeat' split) <;> simp -implicitDefEqProofs [hf]
@[simp] theorem State.windowExit_sampled {x : Strm} {fine gap : Bool} {dir word t : Nat} : (s.windowExit x fine dir word t gap).reg f = s.reg f := by
  unfold State.windowExit
  simp -implicitDefEqProofs [hf]
@[simp] theorem State.compare_sampled {x : Strm} {fine settle gap : Bool} {v : Int} {word t : Nat} :
    (s.compare x fine v settle gap word t).reg f = s.reg f := by
  unfold State.compare
  dsimp only
  (repeat' split) <;> simp -implicitDefEqProofs [hf]
@[simp] theorem State.cmpUnset_sampled {x : Strm} {fine : Bool} : (s.cmpUnset x fine).reg f = s.reg f := by
  unfold State.cmpUnset
  simp -implicitDefEqProofs [hf]

/-! The stroke detector -/

@[simp] theorem State.learn_sampled {c : Ch} {x d : Rat} : (s.learn c x d).reg f = s.reg f := by
  unfold State.learn
  dsimp only
  split <;> simp -implicitDefEqProofs [hf]
@[simp] theorem State.trend_sampled {c : Ch} {x : Rat} : (s.trend c x).reg f = s.reg f := by
  unfold State.trend
  dsimp only
  split <;> simp -implicitDefEqProofs [hf]
@[simp] theorem State.strokeDecide_sampled {c : Ch} {w : Stroke} {kind reason : Nat} : (s.strokeDecide c w kind reason).reg f = s.reg f := by
  unfold State.strokeDecide
  simp -implicitDefEqProofs [hf, apply_ite (State.reg · f)]
@[simp] theorem State.strokeSample_sampled {c : Ch} {gap settle : Bool} {i : Rat} {t : Nat} :
    (s.strokeSample c gap settle i t).reg f = s.reg f := by
  unfold State.strokeSample
  (repeat' split) <;> simp -implicitDefEqProofs [hf, apply_ite (State.reg · f)]
@[simp] theorem State.strokeFeed_sampled {x : Strm} : (s.strokeFeed x).reg f = s.reg f := by
  unfold State.strokeFeed
  dsimp only
  (repeat' split) <;> simp -implicitDefEqProofs [hf]

/-! The Drover -/

@[simp] theorem State.drvEvent_sampled {k : DrvNo} {i : Nat} : (s.drvEvent k i).reg f = s.reg f :=
  State.reg_drvEvent (Fld.sampled_plain hf) (Fld.ne_of_sampled hf rfl)
@[simp] theorem State.levelShow_sampled {k : DrvNo} : (s.levelShow k).reg f = s.reg f := by
  unfold State.levelShow
  simp -implicitDefEqProofs [hf]
@[simp] theorem State.formWindow_sampled {k : DrvNo} : (s.formWindow k).reg f = s.reg f := by
  unfold State.formWindow
  (repeat' split) <;> simp -implicitDefEqProofs [hf]
@[simp] theorem State.frameIn_sampled {k : DrvNo} {t : Nat} {words : List Nat} : (s.frameIn k t words).reg f = s.reg f := by
  unfold State.frameIn
  dsimp only
  (repeat' split) <;> simp -implicitDefEqProofs [hf]
@[simp] theorem State.feedChannel_sampled {k : DrvNo} {x : Strm} {word key t : Nat} : (s.feedChannel k x word key t).reg f = s.reg f := by
  unfold State.feedChannel State.gatherWord
  dsimp only
  (repeat' split) <;> simp -implicitDefEqProofs [hf]
@[simp] theorem State.feedStream_sampled {fine : Bool} {x : Strm} {word key t : Nat} : (s.feedStream fine x word key t).reg f = s.reg f :=
  State.foldl_keep (·.reg f) (fun _ _ => State.feedChannel_sampled hf) _ _
end
end Sys2Proof.Machine

/-! ### The outputs of a sample chain (R194, R197, R202, R205, R206, R217) -/

namespace Sys2Proof.Machine

/-- A chain but for what its comparators keep of it. -/
def Chain.uncompared (k : Chain) : Chain := { k with coarse := {}, fine := {} }

section
variable {s t : State} {x y : Strm}

/-- What a change of a chain keeps of it, it keeps of every chain. -/
theorem State.updChain_keeps {α : Type} {p : Chain → α} {k : Chain → Chain} (h : ∀ c, p (k c) = p c) :
    (s.updChain x k).chains.map p = s.chains.map p := by
  ext1 i hi
  simp only [State.updChain, Vector.getElem_map, Vector.getElem_set]
  split
  · next e =>
    subst e
    exact h _
  · rfl
/-- Chains that agree in a part of each agree in it one by one. -/
theorem State.chain_keeps {α : Type} {p : Chain → α} (h : t.chains.map p = s.chains.map p) (y : Strm) : p (t.chain y) = p (s.chain y) := by
  simpa [State.chain] using congrArg (fun v => v[y.val]) h
/-- What its comparators keep is no part of what else a chain holds. -/
theorem State.chain_part {α : Type} {p : Chain → α} (hp : ∀ k : Chain, p k.uncompared = p k)
    (h : t.chains.map Chain.uncompared = s.chains.map Chain.uncompared) : p (t.chain y) = p (s.chain y) := by
  rw [← hp, State.chain_keeps h, hp]
theorem State.chain_congr (h : t.chains = s.chains) : t.chain y = s.chain y := by rw [State.chain, h, State.chain]

/-! The comparators change nothing else of their chain -/

@[simp] theorem State.updCmp_uncompared {fine : Bool} {k : Cmp → Cmp} :
    (s.updChain x fun c => c.updCmp fine k).chains.map Chain.uncompared = s.chains.map Chain.uncompared :=
  State.updChain_keeps fun _ => by cases fine <;> rfl
@[simp] theorem State.windowNote_uncompared {fine gap : Bool} {dir word t : Nat} :
    (s.windowNote x fine dir word t gap).chains.map Chain.uncompared = s.chains.map Chain.uncompared := by
  unfold State.windowNote
  dsimp only
  (repeat' split) <;> simp
@[simp] theorem State.windowExit_uncompared {fine gap : Bool} {dir word t : Nat} :
    (s.windowExit x fine dir word t gap).chains.map Chain.uncompared = s.chains.map Chain.uncompared := by
  unfold State.windowExit
  simp
@[simp] theorem State.compare_uncompared {fine settle gap : Bool} {v : Int} {word t : Nat} :
    (s.compare x fine v settle gap word t).chains.map Chain.uncompared = s.chains.map Chain.uncompared := by
  unfold State.compare
  dsimp only
  (repeat' split) <;> simp
@[simp] theorem State.cmpUnset_uncompared {fine : Bool} :
    (s.cmpUnset x fine).chains.map Chain.uncompared = s.chains.map Chain.uncompared := by
  unfold State.cmpUnset
  simp

@[simp] theorem State.overBegins_chain : (s.overBegins x).chain y = s.chain y := State.chain_congr (by simp)
@[simp] theorem State.settleShow_chain : (s.settleShow x).chain y = s.chain y := State.chain_congr (by simp)
@[simp] theorem State.swapDone_chain {bank : Nat} : (s.swapDone x bank).chain y = s.chain y := State.chain_congr (by simp)
end

/-! Sample words (Table 9.7) -/

theorem b2n_le_one (b : Bool) : b2n b ≤ 1 := by cases b <;> decide
theorem smpWord_value (o : Smp) : smpWord o false false 0 % 2 ^ 32 / 2 ^ 8 = unsgn 24 o.v % 2 ^ 24 := by
  have hlow := b2n_le_one o.low
  have hovr := b2n_le_one o.ovr
  have hsettle := b2n_le_one o.settle
  have hgap := b2n_le_one o.gap
  simp only [smpWord, show b2n false = 0 from rfl]
  omega
theorem smpWord_settle (o : Smp) (dcf fade : Bool) (bank : Nat) : smpWord o dcf fade bank % 2 ^ 32 / 2 % 2 = b2n o.settle := by
  have hsettle := b2n_le_one o.settle
  have hgap := b2n_le_one o.gap
  rw [smpWord]
  omega

section
variable {s : State} {x : Strm}

/-! The capture tap (R192 to R194, R213 to R217) -/

/-- The half-band stages change of a chain only their own inputs and those of the FIR (R196). -/
theorem halfRun_keeps {α : Type} {p : Chain → α} (hhb : ∀ (k : Chain) l, p { k with hb := l } = p k)
    (hfir : ∀ (k : Chain) l, p { k with fir := l } = p k) (tick hMax n h : Nat) (i : Smp) (k : Chain) :
    p (halfRun tick hMax n h i k).1 = p k := by
  induction n generalizing h i k with
  | zero => rfl
  | succ n ih =>
    unfold halfRun
    dsimp only
    split
    · exact hfir _ _
    split
    · exact (ih _ _ _).trans (hhb _ _)
    · exact hhb _ _

/-- The phase of the pattern that fills a gap, as a capture takes it (R213). -/
def State.capPhase (s : State) (x : Strm) : Nat :=
  if ((s.chain x).sinc.head?.map (·.gap)).getD false then (s.chain x).phase else s.openValue.1 % 2
/-- The 13 bits of the decimator with the five of the tick (R194). -/
def State.capBits (s : State) (x : Strm) : List MBit :=
  ((takeBits (s.chain x).bits s.tick (s.capPhase x) (!s.absent (grpOf (streamCh x))) (s.lowRange x)).reverse ++ (s.chain x).sinc).take 13
/-- The capture sample of the tick. -/
def State.capSmp (s : State) (x : Strm) : Smp := sincOut (s.capBits x) ((s.chain x).clear != 0)
/-- A chain with its capture sample, which has gone on to no half-band stage yet. -/
def State.captured (s : State) (x : Strm) : Chain :=
  { s.chain x with
    bits := (s.chain x).bits.filter fun b => s.tick < b.t, sinc := s.capBits x, phase := s.capPhase x, clear := (s.chain x).clear - 1,
    cap := (s.capSmp x :: (s.chain x).cap).take 128, capTick := some s.tick, capCnt := (s.chain x).capCnt + 1, wasGap := (s.capSmp x).gap,
    wasOver := (s.capSmp x).ovr }
/-- A chain whose capture sample has gone through the half-band stages of its tick, and whether a run of OVER begins in one of them. -/
def State.halved (s : State) (x : Strm) : Chain × Bool := halfRun s.tick (s.hOf x) 7 1 (s.capSmp x) (s.captured x)
/-- The state in which a chain has taken its bits, and has shown and passed on nothing yet. -/
def State.capTaken (s : State) (x : Strm) : State :=
  let s1 := (s.openValue.2.runMarks x (s.capSmp x)).updChain x fun _ => (s.halved x).1
  if (s.halved x).2 then s1.overBegins x else s1
theorem State.capTaken_chain : (s.capTaken x).chain x = (s.halved x).1 := by
  unfold State.capTaken
  dsimp only
  split <;> simp
/-- In a tick of the capture grid that has had no capture yet the bits are taken; the settling flags, a comparator, the stroke detector and
the Drover follow. -/
theorem State.capture_due (hgrid : s.tick % 50 = 0) (hfresh : (s.chain x).capTick ≠ some s.tick) :
    ∃ v settle gap w t w' key t', s.capture x =
      ((((s.capTaken x).settleShow x).compare x false v settle gap w t).strokeFeed x).feedStream false x w' key t' := by
  rw [State.capture, if_neg (by simp [hgrid, hfresh])]
  exact ⟨_, _, _, _, _, _, _, _, rfl⟩
/-- What neither the half-band stages nor the comparators keep of a chain is as the capture left it. -/
theorem State.capture_part {α : Type} {p : Chain → α} (hcmp : ∀ k : Chain, p k.uncompared = p k)
    (hhb : ∀ (k : Chain) l, p { k with hb := l } = p k) (hfir : ∀ (k : Chain) l, p { k with fir := l } = p k)
    (hgrid : s.tick % 50 = 0) (hfresh : (s.chain x).capTick ≠ some s.tick) : p ((s.capture x).chain x) = p (s.captured x) := by
  obtain ⟨v, settle, gap, w, t, w', key, t', h⟩ := State.capture_due hgrid hfresh
  rw [h]
  refine (State.chain_part (s := (s.capTaken x).settleShow x) hcmp (by simp)).trans ?_
  rw [State.settleShow_chain, State.capTaken_chain]
  exact halfRun_keeps hhb hfir ..
/-- From the eighth capture after a synchronising reset on COARSE_SETTLING reads 0 (R216). -/
theorem State.settleShow_settled (h : 8 ≤ (s.chain x).capCnt) : (s.settleShow x).reg (F.SC_STATUS_COARSE_SETTLING x) = 0 := by
  unfold State.settleShow
  dsimp only
  rw [if_pos h]
  split
  · rw [State.reg_cause_plain _ _ rfl]
    simp
  · simp
theorem State.capture_settled (hgrid : s.tick % 50 = 0) (hfresh : (s.chain x).capTick ≠ some s.tick) (h : 7 ≤ (s.chain x).capCnt) :
    (s.capture x).reg (F.SC_STATUS_COARSE_SETTLING x) = 0 := by
  have hcnt : ((s.capTaken x).chain x).capCnt = (s.chain x).capCnt + 1 := by
    rw [State.capTaken_chain]
    exact halfRun_keeps (p := Chain.capCnt) (fun _ _ => rfl) (fun _ _ => rfl) ..
  obtain ⟨v, settle, gap, w, t, w', key, t', hcap⟩ := State.capture_due hgrid hfresh
  rw [hcap, State.feedStream_sampled rfl, State.strokeFeed_sampled rfl, State.compare_sampled rfl, State.settleShow_settled (by omega)]
/-- A capture of a tick whose five bits have all come takes these (R192, R194). -/
theorem State.capSmp_of_bits {five : List MBit} (h : ∀ phase lost low, takeBits (s.chain x).bits s.tick phase lost low = five) :
    s.capSmp x = sincOut ((five.reverse ++ (s.chain x).sinc).take 13) ((s.chain x).clear != 0) := by
  rw [State.capSmp, State.capBits, h]

/-! The coarse register (R217) -/

/-- The mean of the last 8 capture samples, SETTLING while fewer have come since the synchronising reset (R216). -/
def State.coarseSmp (s : State) (x : Strm) : Smp :=
  { coarseMean (s.chain x) with settle := (coarseMean (s.chain x)).settle || decide ((s.chain x).capCnt < 8) }
theorem State.coarse_due (hgrid : s.tick % 400 = 0) (hcap : (s.chain x).capTick = some s.tick) :
    s.coarse x = s.setReg (F.SC_COARSE x) (smpWord (s.coarseSmp x) false false 0) := by
  rw [State.coarse, if_pos ⟨hgrid, hcap⟩]
  rfl

/-! The FIR and the DC blocker (R197, R201 to R205) -/

/-- With no fade and no request the FIR gives its sum of the active bank (R197). -/
theorem State.firNext_active (hfade : (s.chain x).fade = none) (hreq : (s.chain x).req = none) (hen : s.on (F.SC_CFG_FIR_EN x) = true) :
    s.firNext x = (s.firOf x (s.firSum x (s.reg (F.SC_SWAP_BANK x))), s.reg (F.SC_SWAP_BANK x), false, s) := by
  simp [State.firNext, hfade, hreq, hen]
/-- After the last output of a fade its new bank is the active one (R202). -/
theorem State.firNext_fadeEnds {f : Fade} (hfade : (s.chain x).fade = some f) (hlast : f.j + 1 = f.len) :
    (s.firNext x).2.2.2 = (s.updChain x fun k => { k with fade := none }).swapDone x f.new := by
  simp [State.firNext, hfade, State.fadeOut, hlast]
/-- The next FIR output through the DC blocker, and the estimate after it (R205). -/
def State.firBlocked (s : State) (x : Strm) : Smp × Rat :=
  dcStep (s.chain x).est (dcShift (s.reg (F.SC_DC_K x))) (s.on (F.SC_DC_FREEZE x)) (s.firNext x).1
/-- The next FIR output as the resampler keeps it. -/
def State.firOutput (s : State) (x : Strm) : FirOut :=
  { s := (s.firBlocked x).1, bank := (s.firNext x).2.1, fade := (s.firNext x).2.2.1, dcf := s.on (F.SC_DC_FREEZE x), t := s.hub.time }
/-- The state after a FIR output, in which no run of OVER has been reported. -/
def State.firDone (s : State) (x : Strm) : State :=
  ((s.firNext x).2.2.2.updChain x fun k =>
    { k with firTick := some s.tick, est := (s.firBlocked x).2, res := (s.firOutput x :: k.res).take 64 }).setReg (F.SC_DC_EST x)
      (unsgn 24 (sat24 (roundOpen 33 (s.firBlocked x).2)).1)
theorem State.firRun_due (hgrid : s.tick % (50 * 2 ^ s.hOf x) = 0) (hcap : (s.chain x).capTick = some s.tick)
    (hfresh : (s.chain x).firTick ≠ some s.tick) :
    ∃ begins : Bool, s.firRun x = if begins then (s.firDone x).overBegins x else s.firDone x := by
  rw [State.firRun, if_neg (by simp [hgrid, hcap, hfresh])]
  exact ⟨_, rfl⟩
/-- A FIR output is taken into its chain; of the registers a run of OVER that begins changes none but its flag and a cause. -/
theorem State.firRun_done (hgrid : s.tick % (50 * 2 ^ s.hOf x) = 0) (hcap : (s.chain x).capTick = some s.tick)
    (hfresh : (s.chain x).firTick ≠ some s.tick) : (s.firRun x).chain x = (s.firDone x).chain x ∧
      (s.firRun x).reg (F.SC_SWAP_BANK x) = (s.firDone x).reg (F.SC_SWAP_BANK x) := by
  obtain ⟨begins, h⟩ := State.firRun_due hgrid hcap hfresh
  rw [h]
  cases begins
  · exact ⟨rfl, rfl⟩
  · exact ⟨State.overBegins_chain, (State.reg_cause_plain _ _ rfl).trans (by simp [State.reg_stick])⟩
theorem State.firDone_chain : (s.firDone x).chain x =
    { (s.firNext x).2.2.2.chain x with
      firTick := some s.tick, est := (s.firBlocked x).2, res := (s.firOutput x :: ((s.firNext x).2.2.2.chain x).res).take 64 } := by
  simp [State.firDone]
/-- With DC_FREEZE set the estimate stands (R205). -/
theorem dcStep_frozen (e : Rat) (k : Nat) (i : Smp) : (dcStep e k true i).2 = e := by simp [dcStep]

/-! The resampler (R206 to R208) -/

/-- A chain that has given the sample of its next instant. -/
def State.fineTaken (s : State) (x : Strm) : State :=
  s.updChain x fun k => { k with lastT := some (s.fineInstant x), jump := k.jump.filter fun j => s.fineInstant x < j.2 * 2 ^ 24 }
/-- Whether the sample of an instant still settles (R216). -/
def State.fineSettles (s : State) (x : Strm) : Bool :=
  decide (s.tick < (s.chain x).sync + settleNs (s.hOf x) (s.on (F.SC_CFG_FIR_EN x)) / 4)
/-- An instant whose time has come has its sample word in SC_FINE; a comparator and the Drover follow. -/
theorem State.fineRun_due
    (hdue : ((s.fineInstant x : Nat) : Rat) / 2 ^ 24 + s.fineLag x + 8 * (tFir (s.hOf x) : Rat) ≤ (s.now : Rat)) :
    ∃ (begins : Bool) (o : Smp) (w t : Nat), s.fineRun x =
        (((if begins then (s.fineTaken x).overBegins x else s.fineTaken x).setReg (F.SC_FINE x) w).compare x true o.v o.settle o.gap w
          t).feedStream true x w (s.fineInstant x) t ∧
      o.settle = s.fineSettles x ∧ ∃ dcf fade bank, w = smpWord o dcf fade bank := by
  rw [State.fineRun, if_neg (not_lt.mpr hdue)]
  extract_lets pos after before lo l mu v f o w s0 s1
  refine ⟨_, o, w, _, rfl, rfl, ?_⟩
  cases hbefore : before with
  | nil => exact ⟨s.on (F.SC_DC_FREEZE x), false, s.reg (F.SC_SWAP_BANK x), by simp only [w, hbefore]⟩
  | cons a _ => exact ⟨a.dcf, a.fade, a.bank, by simp only [w, hbefore]⟩
theorem State.fineRun_done
    (hdue : ((s.fineInstant x : Nat) : Rat) / 2 ^ 24 + s.fineLag x + 8 * (tFir (s.hOf x) : Rat) ≤ (s.now : Rat)) :
    ((s.fineRun x).chain x).lastT = some (s.fineInstant x) ∧ (s.fineRun x).reg (F.SC_FINE x) / 2 % 2 = b2n (s.fineSettles x) := by
  obtain ⟨begins, o, w, t, hrun, hsettle, dcf, fade, bank, rfl⟩ := State.fineRun_due hdue
  rw [hrun]
  generalize htaken : (if begins then (s.fineTaken x).overBegins x else s.fineTaken x) = taken
  constructor
  · have hlast (u : State) {w : Nat} :
        (((u.compare x true o.v o.settle o.gap w t).feedStream true x w (s.fineInstant x) t).chain x).lastT = (u.chain x).lastT :=
      State.chain_part (fun _ => rfl) (by simp)
    rw [hlast, State.chain_setReg, ← htaken, apply_ite (State.chain · x), State.overBegins_chain, ite_self]
    simp [State.fineTaken]
  · rw [State.feedStream_sampled rfl, State.compare_sampled rfl, State.reg_setReg, if_pos rfl, smpWord_settle, hsettle]

/-! The rows -/

theorem exec_captureSample (hon : s.hubOn = true) : exec (.captureSample x) s = .next (s.capture x) := onHub_on (k := fun s => s.capture x) hon
theorem exec_coarseSample (hon : s.hubOn = true) : exec (.coarseSample x) s = .next (s.coarse x) := onHub_on (k := fun s => s.coarse x) hon
theorem exec_firOutput (hon : s.hubOn = true) : exec (.firOutput x) s = .next (s.firRun x) := onHub_on (k := fun s => s.firRun x) hon
theorem exec_fineSample (hon : s.hubOn = true) : exec (.fineSample x) s = .next (s.fineRun x) := onHub_on (k := fun s => s.fineRun x) hon
end
end Sys2Proof.Machine

namespace Sys2Proof
open Machine

/-- Settles O22: each row is its operation; beside its chain an output changes only what the comparators, the stroke detector and the Drover
make of the sample, none of whose fields is a word of the chain. -/
theorem chainCommands : Obligations.ChainCommands := by
  unfold Obligations.ChainCommands
  intro s x hon
  refine ⟨fun hgrid hfresh => ?_, fun hgrid hcap => ?_, fun hgrid hcap hfresh => ?_, fun hdue => ?_⟩
  · have hpart {α : Type} {p : Chain → α} (hcmp : ∀ k : Chain, p k.uncompared = p k) (hhb : ∀ (k : Chain) l, p { k with hb := l } = p k)
        (hfir : ∀ (k : Chain) l, p { k with fir := l } = p k) := State.capture_part hcmp hhb hfir hgrid hfresh
    refine ⟨_, exec_captureSample hon, hpart (p := Chain.capTick) (fun _ => rfl) (fun _ _ => rfl) (fun _ _ => rfl),
      hpart (p := Chain.capCnt) (fun _ => rfl) (fun _ _ => rfl) (fun _ _ => rfl),
      hpart (p := Chain.bits) (fun _ => rfl) (fun _ _ => rfl) (fun _ _ => rfl), fun five hfive => ?_, State.capture_settled hgrid hfresh⟩
    refine (hpart (p := Chain.cap) (fun _ => rfl) (fun _ _ => rfl) (fun _ _ => rfl)).trans ?_
    rw [State.captured, State.capSmp_of_bits hfive]
  · refine ⟨_, exec_coarseSample hon, ?_, fun f hf => ?_⟩
    · rw [State.coarse_due hgrid hcap, State.reg_setReg, if_pos rfl]
      exact smpWord_value _
    · rw [State.coarse_due hgrid hcap, State.reg_setReg, if_neg hf.symm]
  · obtain ⟨hchain, hbank⟩ := State.firRun_done hgrid hcap hfresh
    refine ⟨_, exec_firOutput hon, ?_, fun hfade hreq hen => ⟨?_, fun hfreeze => ?_⟩, fun f hfade hlast => ⟨?_, ?_⟩⟩
    · rw [hchain, State.firDone_chain]
    · rw [hchain, State.firDone_chain]
      simp [State.firOutput, State.firBlocked, State.firNext_active hfade hreq hen]
    · rw [hchain, State.firDone_chain]
      simp [State.firBlocked, hfreeze, dcStep_frozen]
    · rw [hchain, State.firDone_chain, State.firNext_fadeEnds hfade hlast]
      simp
    · rw [hbank, State.firDone, State.firNext_fadeEnds hfade hlast, State.swapDone]
      simp
  · exact ⟨_, exec_fineSample hon, State.fineRun_done hdue⟩
end Sys2Proof

/-! ### The words of a sample chain and of the coefficient memory (R198 to R205, R215, R226) -/

namespace Sys2Proof.Machine
section
variable {s : State} {rq : Req} {x : Strm} {v : Word} {f : Fld} {off : Nat}

/-! A bit of a word -/

theorem bit_iff {n k : Nat} : bit n k = true ↔ n / 2 ^ k % 2 = 1 := by rw [bit, Nat.testBit_eq_decide_div_mod_eq, decide_eq_true_iff]

/-! SC_CFG and SC_DC as words -/

theorem plainWord_chain (x : Strm) (ho : off = 0x20 ∨ off = 0x30) : PlainWord (.chain x) off where
  spot := by obtain rfl | rfl := ho <;> revert x <;> decide
  link := rfl
  low := by obtain rfl | rfl := ho <;> simp [writePairs]
  high _ := by obtain rfl | rfl := ho <;> simp [writePairs]
  own _ _ _ _ := if_neg (by omega)
  limit := nofun
  lock := nofun
  root := nofun
/-- Each has a field that is written, and none that a lock guards (Tables 9.13, 9.16). -/
theorem chain_rows (ho : off = 0x20 ∨ off = 0x30) (x : Strm) :
    (∀ y ∈ rowsAt (.chain x) off, y.acc ≠ .rwl) ∧ ∃ y ∈ rowsAt (.chain x) off, y.acc ≠ .ro := by
  have h : (((rowsAt (.chain x) off).all fun y => y.acc != .rwl) && (rowsAt (.chain x) off).any fun y => y.acc != .ro) = true := by
    obtain rfl | rfl := ho <;> rfl
  simpa using h
/-- Such a word is stored, and then acts (`State.chainDone`). -/
theorem writeCmd_chain (ho : off = 0x20 ∨ off = 0x30) (hrq : rq ≠ .fw) (hs : s.serves rq (U.at (.chain x) off)) :
    writeCmd rq (U.at (.chain x) off) 15 v.toNat s =
      .next ((s.stored rq (.chain x) off v.toNat).chainDone s x off v.toNat) := by
  obtain ⟨hopen, hwritten⟩ := chain_rows ho x
  rw [writeCmd_stored (plainWord_chain x ho) hrq hs rfl rfl hopen hwritten]
  obtain rfl | rfl := ho <;> rfl

/-! A synchronising reset (R204, R215, R216) -/

/-- The state in which the fade and the request of a chain have ended in their banks (R204). -/
def State.swapsEnded (s : State) (x : Strm) : State :=
  match (s.chain x).fade, (s.chain x).req with
  | some f, some r => (s.swapDone x f.new).swapDone x r.1
  | some f, none => s.swapDone x f.new
  | none, _ => s
theorem State.swapsEnded_chains : (s.swapsEnded x).chains = s.chains := by
  unfold State.swapsEnded
  split <;> simp
theorem State.reg_swapDone {bank : Nat} (hf : f.plain = true) (hb : F.SC_SWAP_BANK x ≠ f) : (s.swapDone x bank).reg f = s.reg f := by
  rw [State.swapDone, State.reg_cause_plain _ _ hf, State.reg_setReg, if_neg hb]
theorem State.reg_swapsEnded (hf : f.plain = true) (hb : F.SC_SWAP_BANK x ≠ f) : (s.swapsEnded x).reg f = s.reg f := by
  unfold State.swapsEnded
  split <;> simp only [State.reg_swapDone hf hb]
/-- A chain whose stages after the decimator start anew, from a capture instant on (R215, R216). -/
def Chain.synced (k : Chain) (start : Nat) : Chain :=
  { k with
    hb := k.hb.map fun l => l.map Smp.cleared, fir := k.fir.map Smp.cleared, res := [], req := if k.fade.isSome then none else k.req,
    fade := none, capCnt := 0, sync := start }
/-- The state with the chain started anew, its samples settling. -/
def State.syncShown (s : State) (x : Strm) : State :=
  (((s.swapsEnded x).updChain x fun k => k.synced (s.tick / 50 * 50)).setReg (F.SC_STATUS_COARSE_SETTLING x) 1).setReg
    (F.SC_STATUS_FINE_SETTLING x) 1
theorem State.syncReset_eq : s.syncReset x = ((s.syncShown x).cmpUnset x false).cmpUnset x true := by
  rw [State.syncReset, State.syncShown, State.swapsEnded]
  cases (s.chain x).fade with
  | none => rfl
  | some f => cases (s.chain x).req <;> rfl
/-- But for its comparators a chain is as the reset starts it. -/
theorem State.syncReset_part {α : Type} {p : Chain → α} (hp : ∀ k : Chain, p k.uncompared = p k) :
    p ((s.syncReset x).chain x) = p ((s.chain x).synced (s.tick / 50 * 50)) := by
  rw [State.syncReset_eq, State.chain_part hp State.cmpUnset_uncompared, State.chain_part hp State.cmpUnset_uncompared]
  simp [State.syncShown, State.chain_congr State.swapsEnded_chains]
theorem State.reg_syncReset (hf : f.sampled = true) : (s.syncReset x).reg f = (s.syncShown x).reg f := by
  rw [State.syncReset_eq, State.cmpUnset_sampled hf, State.cmpUnset_sampled hf]
theorem cleared_value {l : List Smp} {y : Smp} (h : y ∈ l.map Smp.cleared) : y.v = 0 := by
  obtain ⟨o, -, rfl⟩ := List.mem_map.mp h
  rfl
/-- What a reset makes of a chain (R204, R215). -/
theorem State.syncReset_restarts : ((s.syncReset x).chain x).capCnt = 0 ∧ (∀ y ∈ ((s.syncReset x).chain x).fir, y.v = 0) ∧
    ((s.syncReset x).chain x).res = [] ∧ ((s.syncReset x).chain x).fade = none ∧
    ((s.chain x).fade = none → ((s.syncReset x).chain x).req = (s.chain x).req) ∧
    ((s.chain x).fade ≠ none → ((s.syncReset x).chain x).req = none) := by
  have hreq := State.syncReset_part (s := s) (x := x) (p := Chain.req) fun _ => rfl
  refine ⟨State.syncReset_part (p := Chain.capCnt) fun _ => rfl, fun y hy => ?_, State.syncReset_part (p := Chain.res) fun _ => rfl,
    State.syncReset_part (p := Chain.fade) fun _ => rfl, fun h => ?_, fun h => ?_⟩
  · rw [State.syncReset_part (p := Chain.fir) fun _ => rfl] at hy
    exact cleared_value hy
  · rw [hreq, Chain.synced, h]
    rfl
  · rw [hreq, Chain.synced]
    exact if_pos (Option.isSome_iff_ne_none.mpr h)
/-- Both paths settle (R216). -/
theorem State.syncReset_settling : (s.syncReset x).reg (F.SC_STATUS_COARSE_SETTLING x) = 1 ∧
    (s.syncReset x).reg (F.SC_STATUS_FINE_SETTLING x) = 1 := by
  rw [State.reg_syncReset rfl, State.reg_syncReset rfl]
  simp [State.syncShown]
/-- SC_CFG stands as it was written. -/
theorem State.reg_syncReset_cfg (hu : f.unit = .chain x) (ho : f.off = 0x20) : (s.syncReset x).reg f = s.reg f := by
  have hsampled : f.sampled = true := by simp [Fld.sampled, hu, ho]
  have hne {g : Fld} (h : g.off ≠ 0x20) : g ≠ f := fun e => h (e ▸ ho)
  rw [State.reg_syncReset hsampled, State.syncShown, State.reg_setReg, if_neg (hne (by simp)), State.reg_setReg, if_neg (hne (by simp)),
    State.reg_updChain, State.reg_swapsEnded (Fld.sampled_plain hsampled) (hne (by simp))]

/-! SC_CFG (R215) -/

/-- Whether a write of SC_CFG makes a synchronising reset: SYNC, or a change of the word. -/
def State.cfgSyncs (s : State) (rq : Req) (x : Strm) (n : Nat) : Prop :=
  n / 2 ^ 31 % 2 = 1 ∨ wordOf (s.stored rq (.chain x) 0x20 n).regs (.chain x) 0x20 ≠ wordOf s.regs (.chain x) 0x20
theorem State.cfgDone_syncs (h : s.cfgSyncs rq x v.toNat) :
    (s.stored rq (.chain x) 0x20 v.toNat).chainDone s x 0x20 v.toNat = (s.stored rq (.chain x) 0x20 v.toNat).syncReset x := by
  rw [State.chainDone, if_pos rfl, if_pos]
  simpa [State.cfgSyncs, bit_iff] using h
theorem State.cfgDone_stands (h : ¬s.cfgSyncs rq x v.toNat) :
    (s.stored rq (.chain x) 0x20 v.toNat).chainDone s x 0x20 v.toNat = s.stored rq (.chain x) 0x20 v.toNat := by
  rw [State.chainDone, if_pos rfl, if_neg]
  simpa [State.cfgSyncs, bit_iff] using h
/-- SC_CFG stands as it is stored, whether it makes a reset or not. -/
theorem State.reg_cfgDone (hu : f.unit = .chain x) (ho : f.off = 0x20) :
    ((s.stored rq (.chain x) 0x20 v.toNat).chainDone s x 0x20 v.toNat).reg f = (s.stored rq (.chain x) 0x20 v.toNat).reg f := by
  by_cases h : s.cfgSyncs rq x v.toNat
  · rw [State.cfgDone_syncs h, State.reg_syncReset_cfg hu ho]
  · rw [State.cfgDone_stands h]
theorem State.stored_chains {n : Nat} : (s.stored rq (.chain x) off n).chains = s.chains := by simp [State.stored]
theorem State.wordOf_cfgDone : wordOf ((s.stored rq (.chain x) 0x20 v.toNat).chainDone s x 0x20 v.toNat).regs (.chain x) 0x20 =
    wordOf (s.stored rq (.chain x) 0x20 v.toNat).regs (.chain x) 0x20 := wordOf_congr fun _ hu ho => State.reg_cfgDone hu ho

/-! SC_SWAP (R201, R203) -/

theorem swap_spot (x : Strm) : spotAt (U.at (.chain x) 0x2C / 4 * 4) = .word (.chain x) 0x2C := by revert x; decide
/-- SC_SWAP is written in a way of its own: without REQ it changes nothing (R201, log entry 49). -/
theorem exec_swapRequest (hrq : rq ≠ .fw) (hs : s.serves rq (U.at (.chain x) 0x2C)) : exec (.swapRequest rq x 15 v) s =
    .next (if v.toNat / 2 ^ 15 % 2 = 1 then s.swapAsk x (v.toNat / 2 ^ 14 % 2) (v.toNat % 2 ^ 12) else s) := by
  rw [show exec (.swapRequest rq x 15 v) s = execSwapRequest rq x 15 v s from rfl, execSwapRequest,
    writeCmd_one hrq hs (swap_spot x) rfl (by simp [writePairs]) (fun _ => by simp [writePairs]) rfl, State.oneWrite]
  dsimp only [State.wordHeld, State.wordOwn]
  rw [if_pos rfl, merge_full _ v.isLt, word_and_beMask]
  simp only [bit_iff, bitsOf]
  split <;> rfl
/-- The state with a request's fade length shown, and a request that it replaces counted (R203). -/
def State.swapNoted (s : State) (x : Strm) (len : Nat) : State :=
  let s1 := s.setReg (F.SC_SWAP_FADE x) len
  if (s.chain x).req.isSome then (s1.tally (F.SC_SWAP_REPLACED x)).cause (.chain x) 1 else s1
@[simp] theorem State.swapNoted_chain {len : Nat} : (s.swapNoted x len).chain x = s.chain x := by
  refine State.chain_congr ?_
  unfold State.swapNoted
  simp
/-- A request for the bank in use while no fade runs is done at once (R201, log entry 82). -/
theorem State.swapAsk_inUse {bank len : Nat} (h : (s.chain x).fade = none ∧ bank = s.reg (F.SC_SWAP_BANK x)) :
    s.swapAsk x bank len = ((s.swapNoted x len).updChain x fun k => { k with req := none }).cause (.chain x) 0 := by
  simp [State.swapAsk, State.swapNoted, h]
/-- Any other one is held, in place of one held before (R203). -/
theorem State.swapAsk_held {bank len : Nat} (h : ¬((s.chain x).fade = none ∧ bank = s.reg (F.SC_SWAP_BANK x))) :
    s.swapAsk x bank len = (s.swapNoted x len).updChain x fun k => { k with req := some (bank, len, s.tick) } := by
  rw [State.swapAsk, if_neg (by simpa using h)]
  rfl
theorem State.reg_swapAsk {bank len : Nat} (hf : f.plain = true) : (s.swapAsk x bank len).reg f = (s.swapNoted x len).reg f := by
  by_cases h : (s.chain x).fade = none ∧ bank = s.reg (F.SC_SWAP_BANK x)
  · rw [State.swapAsk_inUse h, State.reg_cause_plain _ _ hf, State.reg_updChain]
  · rw [State.swapAsk_held h, State.reg_updChain]
theorem State.swapNoted_fade {len : Nat} : (s.swapNoted x len).reg (F.SC_SWAP_FADE x) = len % 2 ^ 12 := by
  unfold State.swapNoted
  dsimp only
  split
  · rw [State.reg_cause_plain _ _ rfl, State.reg_tally, if_neg (by simp), State.reg_setReg, if_pos rfl]
  · rw [State.reg_setReg, if_pos rfl]
theorem State.swapNoted_replaced {len : Nat} (h : (s.chain x).req.isSome = true) :
    (s.swapNoted x len).reg (F.SC_SWAP_REPLACED x) = min (s.reg (F.SC_SWAP_REPLACED x) + 1) (2 ^ 16 - 1) % 2 ^ 16 := by
  rw [State.swapNoted, if_pos h, State.reg_cause_plain _ _ rfl, State.reg_tally, if_pos rfl, State.reg_setReg, if_neg (by simp)]
@[simp] theorem State.cause_chain {u : U} {k : Nat} : (s.cause u k).chain x = s.chain x := State.chain_congr (by simp)
/-- A request leaves the fade that runs. -/
theorem State.swapAsk_fade {bank len : Nat} : ((s.swapAsk x bank len).chain x).fade = (s.chain x).fade := by
  by_cases h : (s.chain x).fade = none ∧ bank = s.reg (F.SC_SWAP_BANK x)
  · simp [State.swapAsk_inUse h]
  · simp [State.swapAsk_held h]

/-! SC_DC (R205) -/

theorem exec_dcClear (hrq : rq ≠ .fw) (hs : s.serves rq (U.at (.chain x) 0x30)) (hclear : v.toNat / 2 ^ 30 % 2 = 1) :
    exec (.dcClear rq x 15 v) s = .next ((s.stored rq (.chain x) 0x30 v.toNat).dcCleared x) := by
  rw [show exec (.dcClear rq x 15 v) s = execDcClear rq x 15 v s from rfl, execDcClear, writeCmd_chain (.inr rfl) hrq hs, State.chainDone,
    if_neg (by decide), if_pos rfl, if_pos (bit_iff.mpr hclear)]
theorem State.dcCleared_est : ((s.dcCleared x).chain x).est = 0 ∧ (s.dcCleared x).reg (F.SC_DC_EST x) = 0 := by simp [State.dcCleared]

/-! The coefficient memory (R198 to R200) -/

theorem coef_spot {o : Nat} (ho : o < 0x10000) (h4 : o % 4 = 0) : spotAt ((0x20000 + o % 0x10000) / 4 * 4) = .coef o := by
  rw [show (0x20000 + o % 0x10000) / 4 * 4 = 0x20000 + o by omega]
  unfold spotAt
  (repeat rw [if_neg (by omega)])
  rw [if_pos (by omega), Nat.add_sub_cancel_left]
/-- A write of a word of the window is that of the memory (R198, R200). -/
theorem exec_coefWrite {o : Nat} (hrq : rq ≠ .fw) (ho : o < 0x10000) (h4 : o % 4 = 0) (hs : s.serves rq (0x20000 + o)) (hw : coefWord o = true) :
    exec (.coefWrite rq o 15 v) s = .next (s.coefWrite o v.toNat).2 := by
  rw [show exec (.coefWrite rq o 15 v) s = execCoefWrite rq o 15 v s from rfl, execCoefWrite,
    writeCmd_serves (by rwa [Nat.mod_eq_of_lt ho]) (by simp [enables_full]), enables_full]
  simp only [State.writeWord, coef_spot ho h4, hrq, if_false, hw, Bool.not_true, Bool.false_eq_true, merge_full _ v.isLt]
/-- A coefficient of a bank that is not in service takes the bits written (R198). -/
theorem State.coefWrite_free {o n : Nat} (hcoef : o % 0x400 ≠ 0x3F0) (hfree : s.bankUsed (o / 0x400) (o % 0x400 / 0x200) = false) :
    (s.coefWrite o n).2 = s.coefSet o (n % 2 ^ 18) := by
  simp [State.coefWrite, hcoef, hfree]
/-- One of a bank in service is discarded and counted (R200). -/
theorem State.coefWrite_busy {o n : Nat} (hcoef : o % 0x400 ≠ 0x3F0) (hused : s.bankUsed (o / 0x400) (o % 0x400 / 0x200) = true) :
    (s.coefWrite o n).2 = (s.tally F.SCB_COEF_TALLY_DISCARDED).cause .bank 0 := by
  simp [State.coefWrite, hcoef, hused]
/-- Another word of a table than the one written is as it was. -/
theorem lookup_insSorted_ne {k v p : Nat} (h : p ≠ k) (l : List (Nat × Nat)) :
    (insSorted (fun a b => a.1 ≤ b.1) (k, v) l).lookup p = l.lookup p := by
  induction l with
  | nil => simp [insSorted, List.lookup_cons, beq_false_of_ne h]
  | cons y l ih =>
    unfold insSorted
    split
    · rw [List.lookup_cons, List.lookup_cons, ih]
    · rw [List.lookup_cons, beq_false_of_ne h]
theorem lookup_filter_ne {k p : Nat} (h : p ≠ k) (l : List (Nat × Nat)) : (l.filter fun y => y.1 != k).lookup p = l.lookup p := by
  induction l with
  | nil => rfl
  | cons y l ih =>
    rw [List.filter_cons]
    split
    · rw [List.lookup_cons, List.lookup_cons, ih]
    · next hy =>
      have hy : y.1 = k := by simpa using hy
      rw [ih, List.lookup_cons, hy, beq_false_of_ne h]
theorem tabSet_lookup_ne {k p : Nat} (h : p ≠ k) (l : List (Nat × Nat)) (v d : Nat) : (tabSet l k v d).lookup p = l.lookup p := by
  unfold tabSet
  dsimp only
  split
  · exact lookup_filter_ne h l
  · rw [lookup_insSorted_ne h, lookup_filter_ne h]
theorem State.coefSet_coef {o n : Nat} : (s.coefSet o n).coef = tabSet s.coef o n (coefDefault o) := rfl
/-- A word of the window reads what was put in. -/
theorem State.coefAt_coefSet {o n : Nat} : (s.coefSet o n).coefAt o = n := by rw [State.coefAt, State.coefSet_coef, tabSet_lookup]
theorem State.coefAt_coefSet_ne {o n p : Nat} (h : p ≠ o) : (s.coefSet o n).coefAt p = s.coefAt p := by
  rw [State.coefAt, State.coefSet_coef, tabSet_lookup_ne h, State.coefAt]
theorem State.coefRead_coefficient {o : Nat} (hw : coefWord o = true) (hcoef : o % 0x400 ≠ 0x3F0) :
    s.coefRead o = unsgn 32 (sgn 18 (s.coefAt o % 2 ^ 18)) := by
  simp [State.coefRead, hw, hcoef]
end
end Sys2Proof.Machine

namespace Sys2Proof
open Machine

/-- Settles O43: SC_CFG and SC_DC are stored and then act; SC_SWAP is a request of its own; a coefficient is put into its table, or discarded. -/
theorem chainWords : Obligations.ChainWords := by
  unfold Obligations.ChainWords
  intro s rq x v hrq
  refine ⟨fun hs i hi => ?_, fun hs => ?_, fun hs hclear => ?_, fun o ho h4 hs hw hcoef => ?_⟩
  · have hexec : exec i s = .next ((s.stored rq (.chain x) 0x20 v.toNat).chainDone s x 0x20 v.toNat) := by
      obtain rfl | rfl : i = .chainSync rq x 15 v ∨ i = .scCfgWrite rq x 15 v := by simpa using hi
      · exact writeCmd_chain (.inl rfl) hrq hs
      · exact writeCmd_chain (.inl rfl) hrq hs
    refine ⟨_, hexec, fun y hy hacc => ?_, fun hsync => ?_, fun hno hsame => ?_⟩
    · rw [State.reg_cfgDone rfl (Row.mem_rowsAt.mp hy).2]
      exact State.reg_stored hrq v.isLt hy (.inl hacc) (fun h => by simp [hacc] at h) (Row.asWritten_of nofun nofun nofun)
    · rw [State.wordOf_cfgDone] at hsync
      rw [State.cfgDone_syncs hsync, ← State.chain_congr (s := s) State.stored_chains]
      obtain ⟨hcnt, hfir, hres, hfade, hkept, hdone⟩ := State.syncReset_restarts (s := s.stored rq (.chain x) 0x20 v.toNat) (x := x)
      exact ⟨hcnt, hfir, hres, hfade, hkept, hdone, State.syncReset_settling⟩
    · rw [State.wordOf_cfgDone] at hsame
      rw [State.cfgDone_stands fun h => h.elim (by omega) fun hne => hne hsame, State.stored_chains]
  · refine ⟨_, exec_swapRequest hrq hs, fun hno => if_neg (by omega), fun hreq => ?_⟩
    rw [if_pos hreq]
    refine ⟨?_, State.swapAsk_fade, fun hfade hbank => ?_, fun hother => ?_, fun hheld => ?_⟩
    · rw [State.reg_swapAsk rfl, State.swapNoted_fade, Nat.mod_mod]
    · rw [State.swapAsk_inUse ⟨hfade, hbank⟩]
      simp
    · rw [State.swapAsk_held hother]
      simp
    · rw [State.reg_swapAsk rfl, State.swapNoted_replaced hheld]
  · exact ⟨_, exec_dcClear hrq hs hclear, State.dcCleared_est⟩
  · refine ⟨_, exec_coefWrite hrq ho h4 hs hw, fun hfree => ?_, fun hused => ?_⟩
    · rw [State.coefWrite_free hcoef hfree]
      refine ⟨?_, fun p hp => State.coefAt_coefSet_ne hp⟩
      rw [State.coefRead_coefficient hw hcoef, State.coefAt_coefSet, Nat.mod_mod]
    · rw [State.coefWrite_busy hcoef hused]
      exact ⟨by simp, by rw [State.reg_cause_plain _ _ rfl, State.reg_tally, if_pos rfl]⟩
end Sys2Proof

/-! ### The rules of the reflex engine (R228 to R238) -/
namespace Sys2Proof.Machine

/-- The fields of a rule that an evaluation counts or moves on, and those that decide how. -/
def markFlds (r : RuleNo) : List Fld :=
  [F.RFX_FIRES_FIRES r, F.RFX_FIRES_IGNORED r, F.RFX_ARM_PHASE r, F.RFX_ARM_ARM r, F.RFX_ARM_HOLDOFF r]
/-- The values of these fields, with what ARM held before a write of the tick. -/
structure RuleMarks where
  armWas : Option Nat
  fires : Nat
  ignored : Nat
  phase : Nat
  arm : Nat
  holdoff : Nat
/-- What a rule's counts, phase and arming stand at. -/
def State.marks (s : State) (r : RuleNo) : RuleMarks where
  armWas := s.tk.old.lookup (F.RFX_ARM_ARM r)
  fires := s.reg (F.RFX_FIRES_FIRES r)
  ignored := s.reg (F.RFX_FIRES_IGNORED r)
  phase := s.reg (F.RFX_ARM_PHASE r)
  arm := s.reg (F.RFX_ARM_ARM r)
  holdoff := s.reg (F.RFX_ARM_HOLDOFF r)
/-- A firing is counted (R233). -/
def RuleMarks.counted (m : RuleMarks) : RuleMarks := { m with fires := min (m.fires + 1) (2 ^ 16 - 1) % 2 ^ 16 }
/-- A match in holdoff is counted (R235). -/
def RuleMarks.passed (m : RuleMarks) : RuleMarks := { m with ignored := min (m.ignored + 1) (2 ^ 16 - 1) % 2 ^ 16 }
/-- The arming after a firing: as it was written in the tick, else disarmed, as it is, or in holdoff (R42, R235). -/
def RuleMarks.armNext (m : RuleMarks) (once : Bool) : RuleMarks :=
  if m.armWas.isSome then m else if once then { m with arm := 0, phase := 0 } else if m.holdoff = 0 then m else { m with phase := 3 }
/-- A rule that has fired. -/
def RuleMarks.fired (m : RuleMarks) : RuleMarks := m.counted.armNext (m.armWas.getD m.arm == 2)

section
variable {s t : State} {r q : RuleNo} {k f : Fld} {v : Nat} {m : RuleMarks}

theorem RuleMarks.armNext_fires (once : Bool) : (m.armNext once).fires = m.fires := by
  unfold RuleMarks.armNext
  (repeat' split) <;> rfl
theorem RuleMarks.fired_fires : m.fired.fires = min (m.fires + 1) (2 ^ 16 - 1) % 2 ^ 16 := RuleMarks.armNext_fires _
/-- A write of RFX_ARM in the tick of the firing holds (R42). -/
theorem RuleMarks.fired_phase_written (h : m.armWas.isSome = true) : m.fired.phase = m.phase := by
  have hcounted : m.fired = m.counted := if_pos h
  rw [hcounted, RuleMarks.counted]
theorem RuleMarks.fired_phase (h : m.armWas.isSome = false) :
    m.fired.phase = if m.arm = 2 then 0 else if m.holdoff = 0 then m.phase else 3 := by
  have hwas : m.armWas = none := by simpa using h
  simp only [RuleMarks.fired, RuleMarks.armNext, RuleMarks.counted, hwas, Option.isSome_none, Option.getD_none, beq_iff_eq]
  (repeat' split) <;> simp_all

/-! What accesses have written in the tick, which no operation of the hub die itself changes -/

@[simp] theorem State.stick_old : (s.stick f v).tk.old = s.tk.old := rfl
@[simp] theorem State.crossBlocked_old : s.crossBlocked.tk.old = s.tk.old := by
  unfold State.crossBlocked State.orCause
  dsimp only
  split <;> simp
@[simp] theorem State.requestMsix_old {n : Nat} {u : Option U} : (s.requestMsix n u).tk.old = s.tk.old := by
  unfold State.requestMsix
  (repeat' split) <;> simp
@[simp] theorem State.cause_old {u : U} {n : Nat} : (s.cause u n).tk.old = s.tk.old := by
  unfold State.cause State.unitMessage State.orCause
  (repeat' split) <;> simp
@[simp] theorem State.notify_old {kind : Nat} {body : List Place} : (s.notify kind body).tk.old = s.tk.old := by
  unfold State.notify State.raise State.loseNote
  dsimp only
  (repeat' split) <;> simp

/-! What leaves the marks of a rule -/

theorem State.marks_congr (ho : t.tk.old = s.tk.old) (h : ∀ f ∈ markFlds r, t.reg f = s.reg f) : t.marks r = s.marks r := by
  simp only [markFlds, List.forall_mem_cons] at h
  obtain ⟨hfires, hignored, hphase, harm, hholdoff, -⟩ := h
  simp only [State.marks, ho, hfires, hignored, hphase, harm, hholdoff]
theorem plain_of_mem_markFlds (h : f ∈ markFlds r) : f.plain = true := by
  simp only [markFlds, List.mem_cons, List.not_mem_nil, or_false] at h
  obtain rfl | rfl | rfl | rfl | rfl := h <;> rfl
theorem unit_of_mem_markFlds (h : f ∈ markFlds r) : f.unit = .rule r := by
  simp only [markFlds, List.mem_cons, List.not_mem_nil, or_false] at h
  obtain rfl | rfl | rfl | rfl | rfl := h <;> rfl
/-- A field of no rule, or of another one, is none of a rule's marks. -/
theorem not_mem_markFlds (h : f.unit ≠ .rule r) : f ∉ markFlds r := fun hf => h (unit_of_mem_markFlds hf)

@[simp] theorem State.rfx_marks {x : RfxSt} : ({ s with rfx := x } : State).marks q = s.marks q := rfl
@[simp] theorem State.fold_marks {x : FoldSt} : ({ s with fold := x } : State).marks q = s.marks q := rfl
@[simp] theorem State.updLink_marks {g : Grp} {k : Link → Link} : (s.updLink g k).marks q = s.marks q := rfl
@[simp] theorem State.ite_marks {p : Prop} [Decidable p] {a b : State} : (if p then a else b).marks q = if p then a.marks q else b.marks q :=
  apply_ite (State.marks · q) ..
theorem State.setReg_marks (h : k ∉ markFlds q) : (s.setReg k v).marks q = s.marks q :=
  State.marks_congr rfl fun f hf => (State.reg_setReg ..).trans (if_neg (by rintro rfl; exact h hf))
theorem State.tally_marks (h : k ∉ markFlds q) : (s.tally k v).marks q = s.marks q := State.setReg_marks h
theorem State.hwSet_marks (h : k ∉ markFlds q) : (s.hwSet k v).marks q = s.marks q := by
  unfold State.hwSet
  split
  · rfl
  · exact State.setReg_marks h
@[simp] theorem State.cause_marks {u : U} {n : Nat} : (s.cause u n).marks q = s.marks q :=
  State.marks_congr State.cause_old fun _ hf => State.reg_cause_plain _ _ (plain_of_mem_markFlds hf)
@[simp] theorem State.notify_marks {kind : Nat} {body : List Place} : (s.notify kind body).marks q = s.marks q :=
  State.marks_congr State.notify_old fun _ hf => State.reg_notify _ _ (plain_of_mem_markFlds hf)
@[simp] theorem State.edgeMasks_marks : s.edgeMasks.marks q = s.marks q :=
  State.marks_congr (by simp) fun f hf => by
    have hu := unit_of_mem_markFlds hf
    exact State.reg_edgeMasks (fun g e => by simp [← e] at hu) fun g e => by simp [← e] at hu

/-! What a firing rule does -/

@[simp] theorem State.urgWait_marks : s.urgWait.marks q = s.marks q :=
  State.cause_marks.trans (State.tally_marks (not_mem_markFlds nofun))
@[simp] theorem State.urgGo_marks {g : Grp} : (s.urgGo g).marks q = s.marks q :=
  State.marks_congr (by simp) fun _ _ => by simp [State.reg]
@[simp] theorem State.sendAction_marks : (s.sendAction r).marks q = s.marks q := by
  unfold State.sendAction State.queueAction
  dsimp only
  (repeat' split) <;> simp
@[simp] theorem State.setCmd_marks {c : Ch} {on run : Bool} : (s.setCmd c on run).marks q = s.marks q :=
  (State.hwSet_marks (not_mem_markFlds (by simp))).trans (State.hwSet_marks (not_mem_markFlds (by simp)))
@[simp] theorem State.cmdAt_marks {n : Nat} {c : Ch} {on run : Bool} : (s.cmdAt n c on run).marks q = s.marks q := by
  unfold State.cmdAt
  split <;> simp
@[simp] theorem State.fireAction_marks : (s.fireAction r).marks q = s.marks q := by
  unfold State.fireAction State.reflexCmd
  dsimp only
  (repeat' split) <;> simp
theorem State.fireArm_marks_ne {once : Bool} (h : r ≠ q) : (s.fireArm r once).marks q = s.marks q := by
  have hu : U.rule r ≠ U.rule q := fun e => h (U.rule.inj e)
  unfold State.fireArm
  (repeat' split) <;> simp [State.setReg_marks (not_mem_markFlds (f := F.RFX_ARM_ARM r) hu),
    State.setReg_marks (not_mem_markFlds (f := F.RFX_ARM_PHASE r) hu)]
theorem State.fireArm_marks {once : Bool} : (s.fireArm r once).marks r = (s.marks r).armNext once := by
  have harm (t : State) : (t.setReg (F.RFX_ARM_ARM r) 0).marks r = { t.marks r with arm := 0 } := by simp [State.marks]
  have hphase (t : State) (n : Nat) : (t.setReg (F.RFX_ARM_PHASE r) n).marks r = { t.marks r with phase := n % 2 ^ 2 } := by simp [State.marks]
  have hwritten : s.written (F.RFX_ARM_ARM r) = (s.marks r).armWas.isSome := rfl
  have hholdoff : s.reg (F.RFX_ARM_HOLDOFF r) = (s.marks r).holdoff := rfl
  unfold State.fireArm
  simp [harm, hphase, hwritten, hholdoff, RuleMarks.armNext]
/-- A rule that fires leaves the marks of every other one. -/
theorem State.fire_marks_ne {x : Cond} (h : r ≠ q) : (s.fire x r).marks q = s.marks q := by
  have hu : U.rule r ≠ U.rule q := fun e => h (U.rule.inj e)
  unfold State.fire
  simp [State.fireArm_marks_ne h, State.setReg_marks, State.tally_marks, not_mem_markFlds, hu]
/-- A rule that fires is counted, and its arming goes on (R233, R235). -/
theorem State.fire_marks {x : Cond} : (s.fire x r).marks r = (s.marks r).fired := by
  have htally (t : State) : (t.tally (F.RFX_FIRES_FIRES r)).marks r = (t.marks r).counted := by
    simp [State.marks, RuleMarks.counted, State.reg_tally]
  have hwas : s.regOld (F.RFX_ARM_ARM r) = (s.marks r).armWas.getD (s.marks r).arm := rfl
  unfold State.fire
  simp [State.fireArm_marks, State.setReg_marks, htally, hwas, markFlds, RuleMarks.fired]

/-! An evaluation -/

theorem State.foldl_marks {k : State → RuleNo → State} {d : RuleMarks → RuleMarks} {l : List RuleNo} (hl : l.Nodup)
    (hne : ∀ s q, q ≠ r → (k s q).marks r = s.marks r) (heq : ∀ s, (k s r).marks r = d (s.marks r)) (s : State) :
    (l.foldl k s).marks r = if r ∈ l then d (s.marks r) else s.marks r := by
  induction l generalizing s with
  | nil => rfl
  | cons q l ih =>
    obtain ⟨hq, hl⟩ := List.nodup_cons.mp hl
    rw [List.foldl_cons, ih hl]
    by_cases h : q = r
    · rw [if_neg (h ▸ hq), if_pos (by simp [h]), h, heq]
    · simp [hne s q h, Ne.symm h]
/-- A matching rule that was live fires, one in holdoff is passed over, and no other rule changes (R232, R233, R235). -/
theorem State.evaluate_marks {x : Cond} : (s.evaluate x).marks r =
    if s.ruleMatches r x = true ∧ s.regOld (F.RFX_ARM_PHASE r) = 2 then (s.marks r).fired
    else if s.ruleMatches r x = true ∧ s.regOld (F.RFX_ARM_PHASE r) = 3 then (s.marks r).passed else s.marks r := by
  have hrules (p : RuleNo → Bool) : ((List.finRange 64).filter p).Nodup := (List.nodup_finRange 64).filter p
  have hpass (t : State) : (t.tally (F.RFX_FIRES_IGNORED r)).marks r = (t.marks r).passed := by
    simp [State.marks, RuleMarks.passed, State.reg_tally]
  unfold State.evaluate
  dsimp only
  rw [State.foldl_marks (hrules _) (fun _ _ h => State.fire_marks_ne h) (fun _ => State.fire_marks),
    State.foldl_marks (hrules _) (fun _ _ h => State.tally_marks (not_mem_markFlds fun e => h (U.rule.inj e))) hpass]
  simp only [List.mem_filter, List.mem_finRange, true_and, Bool.and_eq_true, beq_iff_eq]
  split
  · next hlive => rw [if_neg fun hhold => by omega]
  · rfl
/-- The lanes of the conditions, and when each was last looked at. -/
def RfxSt.queues (x : RfxSt) : Vector (List Cond) 4 × Vector (Option Nat) 4 := (x.lanes, x.evalAt)
theorem State.evaluate_queues {x : Cond} : (s.evaluate x).rfx.queues = s.rfx.queues := by
  have hfire (t : State) (r : RuleNo) : (t.fire x r).rfx.queues = t.rfx.queues := by
    unfold State.fire State.fireArm State.fireAction
    dsimp only
    (repeat' split) <;> simp [RfxSt.queues]
  unfold State.evaluate
  exact (State.foldl_keep (·.rfx.queues) hfire _ _).trans (State.foldl_keep (·.rfx.queues) (fun _ _ => by simp) _ _)
end

/-! The rows -/

section
variable {s : State} {g : Grp} {x : Cond} {l : List Cond} {r : RuleNo}

/-- The head of a lane is taken in this tick. -/
def State.laneTaken (s : State) (g : Grp) (l : List Cond) : State :=
  { s with rfx := { s.rfx with lanes := s.rfx.lanes.set g.val l, evalAt := s.rfx.evalAt.set g.val (some s.tick) } }
theorem exec_conditionEvaluate (hon : s.hubOn = true) (hl : s.rfx.lanes[g.val] = x :: l) : exec (.conditionEvaluate g) s =
    .next (if s.rfx.evalAt[g.val] = some s.tick ∨ s.tick ≤ x.tick then s
      else if s.on F.RFX_CTRL_ENABLE then (s.laneTaken g l).evaluate x else s.laneTaken g l) := by
  rw [show exec (.conditionEvaluate g) s = execConditionEvaluate g s from rfl, execConditionEvaluate, onHub_on hon]
  simp only [hl]
  rfl
/-- The cancels of earlier ticks. -/
def State.cancelsDue (s : State) : List (RuleNo × Ch × Nat) := s.rfx.cancels.filter fun p => p.2.2 < s.tick
/-- Cancels are carried out, each on its channel (R230). -/
def State.cancelEach (s : State) (l : List (RuleNo × Ch × Nat)) : State := l.foldl (fun s p => s.cancelSlots (slotOf p.2.1) 1 p.1.val) s
theorem State.cancelEach_rfx (l : List (RuleNo × Ch × Nat)) : (s.cancelEach l).rfx = s.rfx := by simp [State.cancelEach]
theorem State.cancelEach_links (l : List (RuleNo × Ch × Nat)) : (s.cancelEach l).links = s.links := by simp [State.cancelEach]
/-- A slot that is left is of none of the channels. -/
theorem State.cancelEach_slots (l : List (RuleNo × Ch × Nat)) {y : Slot} :
    y ∈ (s.cancelEach l).fold.slots ↔ y ∈ s.fold.slots ∧ ∀ p ∈ l, slotOf p.2.1 y = false := by
  induction l generalizing s with
  | nil => simp [State.cancelEach]
  | cons p l ih =>
    rw [show s.cancelEach (p :: l) = (s.cancelSlots (slotOf p.2.1) 1 p.1.val).cancelEach l from rfl, ih, State.cancelSlots_slots]
    simp [and_assoc]
theorem exec_reflexCancel (hon : s.hubOn = true) : exec .reflexCancel s =
    .next (({ s with rfx := { s.rfx with cancels := s.rfx.cancels.filter fun p => !(p.2.2 < s.tick) } } : State).cancelEach s.cancelsDue) := by
  rw [show exec .reflexCancel s = execReflexCancel s from rfl, execReflexCancel, onHub_on hon]
  rfl
theorem exec_ruleLive (hon : s.hubOn = true) (hwait : s.reg (F.RFX_ARM_PHASE r) = 1)
    (hnow : s.regOld (F.RFX_ARM_AT_HI r) * 2 ^ 32 + s.regOld (F.RFX_ARM_AT_LO r) ≤ s.now) :
    exec (.ruleLive r) s = .next (s.setReg (F.RFX_ARM_PHASE r) 2) :=
  (onHub_on hon).trans (congrArg _ (if_pos ⟨hwait, hnow⟩))
theorem exec_holdoffEnd (hon : s.hubOn = true) (hhold : s.reg (F.RFX_ARM_PHASE r) = 3)
    (hpast : (s.rfx.fired.lookup r.val).getD 0 + 250 * s.reg (F.RFX_ARM_HOLDOFF r) ≤ s.tick) :
    exec (.holdoffEnd r) s = .next (s.setReg (F.RFX_ARM_PHASE r) 2) :=
  (onHub_on hon).trans (congrArg _ (if_pos ⟨hhold, hpast⟩))
end
end Sys2Proof.Machine

namespace Sys2Proof
open Machine

/-- Settles O3: an evaluation moves each rule's marks on by itself (`State.evaluate_marks`), and the counts and the phase are read off them. -/
theorem matchingRulesFire : Obligations.MatchingRulesFire := by
  unfold Obligations.MatchingRulesFire
  intro s t g x l r hon hl hat htick hen hexec
  rw [exec_conditionEvaluate hon hl, if_neg (not_or.mpr ⟨hat, by omega⟩), if_pos hen] at hexec
  cases hexec
  have hmarks : ((s.laneTaken g l).evaluate x).marks r =
      if s.ruleMatches r x = true ∧ s.regOld (F.RFX_ARM_PHASE r) = 2 then (s.marks r).fired
      else if s.ruleMatches r x = true ∧ s.regOld (F.RFX_ARM_PHASE r) = 3 then (s.marks r).passed else s.marks r := State.evaluate_marks
  generalize (s.laneTaken g l).evaluate x = t at hmarks
  refine ⟨fun hmatch hlive => ?_, fun hmatch hhold => ?_, fun hother => ?_⟩
  · rw [if_pos ⟨hmatch, hlive⟩] at hmarks
    have hphase : t.reg (F.RFX_ARM_PHASE r) = (s.marks r).fired.phase := congrArg RuleMarks.phase hmarks
    exact ⟨(congrArg RuleMarks.fires hmarks).trans RuleMarks.fired_fires, fun hw => hphase.trans (RuleMarks.fired_phase_written hw),
      fun hw => hphase.trans (RuleMarks.fired_phase hw)⟩
  · rw [if_neg (by omega), if_pos ⟨hmatch, hhold⟩] at hmarks
    exact ⟨congrArg RuleMarks.ignored hmarks, congrArg RuleMarks.phase hmarks⟩
  · have hnone (n : Nat) (hn : n = 2 ∨ n = 3) : ¬(s.ruleMatches r x = true ∧ s.regOld (F.RFX_ARM_PHASE r) = n) := by
      rintro ⟨hmatch, hphase⟩
      obtain hno | ⟨hlive, hhold⟩ := hother
      · simp [hno] at hmatch
      · omega
    rw [if_neg (hnone 2 (.inl rfl)), if_neg (hnone 3 (.inr rfl))] at hmarks
    exact ⟨congrArg RuleMarks.fires hmarks, congrArg RuleMarks.ignored hmarks, congrArg RuleMarks.phase hmarks⟩

/-- Settles O2: a lane's head is taken once in a tick; the due cancels leave the slots of no channel of theirs; the two instants turn a rule live. -/
theorem reflexCommands : Obligations.ReflexCommands := by
  unfold Obligations.ReflexCommands
  refine ⟨fun s g x l hon hl => ⟨fun hat htick => ?_, fun hwait => ?_⟩, fun s hon => ?_, fun s r hon => exec_ruleLive hon,
    fun s r hon => exec_holdoffEnd hon⟩
  · have hqueues : (if s.on F.RFX_CTRL_ENABLE then (s.laneTaken g l).evaluate x else s.laneTaken g l).rfx.queues = (s.laneTaken g l).rfx.queues := by
      split
      · exact State.evaluate_queues
      · rfl
    refine ⟨_, exec_conditionEvaluate hon hl, ?_⟩
    rw [if_neg (not_or.mpr ⟨hat, by omega⟩)]
    exact ⟨congrArg Prod.fst hqueues, congrArg Prod.snd hqueues⟩
  · rw [exec_conditionEvaluate hon hl, if_pos hwait]
  · refine ⟨_, exec_reflexCancel hon, fun p => ?_, State.cancelEach_links _, fun p hp hdue y hy => ?_⟩
    · simp [State.cancelEach_rfx]
    · exact ((State.cancelEach_slots _).mp hy).2 p (List.mem_filter.mpr ⟨hp, by simpa using hdue⟩)
end Sys2Proof

/-! ### The commands of machine time (R241, R244, R245, R250, R251) -/

namespace Sys2Proof.Machine

/-- Machine time, the last step made, the tick count, and the tick of the last SYNC_IN capture. -/
def Hub.timing (h : Hub) : Nat × (Int × Nat) × Nat × Option Nat := (h.time, h.last, h.grid, h.siTick)
/-- A captured SYNC_IN edge, before LOAD_ARM is looked at (R250). -/
def State.siCaptured (s : State) (rising : Bool) : State :=
  (((({ s with hub := { s.hub with siTick := some s.tick } } : State).setPair F.TB_SI_LO F.TB_SI_HI (s.now - 9)).setReg
    F.TB_SI_STATUS_DIR (b2n rising)).wrapTally F.TB_SI_STATUS_COUNT).cause .tb 0
/-- The load that a captured edge makes while LOAD_ARM is 1 (R250). -/
def State.siLoaded (s : State) (cap : Nat) : State :=
  let t := s.stepAsked ((s.pair F.TB_LOAD_LO F.TB_LOAD_HI : Int) - cap) 1
  if t.hub.step.isSome then { t with hub := { t.hub with disarm := true } } else t.hwSet F.TB_CTRL_LOAD_ARM 0
/-- A SYNC_IN edge taken. -/
def State.siTaken (s : State) (rising : Bool) : State :=
  if (s.siCaptured rising).on F.TB_CTRL_LOAD_ARM then (s.siCaptured rising).siLoaded (s.now - 9) else s.siCaptured rising

section
variable {s : State} {f lo hi : Fld} {d : Int} {c k n v cap : Nat} {rising : Bool}

/-- SLEW_DONE (R244). -/
theorem exec_slewDone (hon : s.hubOn = true) (hslew : s.reg F.TB_STATUS_SLEWING = 1) (hrest : s.hub.slew = 0) :
    exec .slewDone s = .next ((s.setReg F.TB_STATUS_SLEWING 0).cause .tb 4) :=
  (onHub_on hon).trans (congrArg _ (if_pos (by simp [State.on, hslew, hrest])))

/-! A step is applied -/

@[simp] theorem State.stepRelease_timing : s.stepRelease.hub.timing = s.hub.timing := by
  unfold State.stepRelease
  (repeat' split) <;> rfl
@[simp] theorem State.soAim_timing : (s.soAim n).hub.timing = s.hub.timing := rfl
/-- A step that leaves machine time at 0 or above moves it by its amount, and the grid not (R245, R248): of what follows it only the aim of
SYNC_OUT and the next step's release set anything of the hub's own, and neither touches these. -/
theorem State.stepApplied_timing (h : 0 ≤ (s.hub.time : Int) + d * 2 ^ 32) :
    (s.stepApplied d c k).hub.timing = (((s.hub.time : Int) + d * 2 ^ 32).toNat % 2 ^ 96, (d, s.now), s.hub.grid, s.hub.siTick) := by
  unfold State.stepApplied
  rw [if_neg (by simpa using h)]
  simp [apply_ite Hub.timing, State.now]
  rfl
/-- STEP_APPLY, in a tick after that of the commit (R245). -/
theorem exec_stepApply (hon : s.hubOn = true) (hstep : s.hub.step = some (d, c, k, n)) (hpast : n < s.tick) :
    exec .stepApply s = .next (s.stepApplied d c k) := by
  rw [show exec .stepApply s = execStepApply s from rfl, execStepApply, onHub_on hon, hstep]
  exact congrArg _ (if_pos hpast)

/-! A SYNC_IN edge is captured -/

theorem State.pair_setPair (hlo : lo.w = 32) (hhi : hi.w = 32) (hne : lo ≠ hi) (hv : v < 2 ^ 64) : (s.setPair lo hi v).pair lo hi = v := by
  simp only [State.pair, State.setPair, State.reg_setReg, if_neg hne.symm, if_true, hlo, hhi]
  omega
theorem State.stepAsked_timing : (s.stepAsked d c).hub.timing = s.hub.timing := by
  unfold State.stepAsked
  (repeat' split) <;> rfl
theorem State.siLoaded_timing : (s.siLoaded cap).hub.timing = s.hub.timing := by
  unfold State.siLoaded
  dsimp only
  split
  · exact State.stepAsked_timing
  · simpa using State.stepAsked_timing
/-- A load touches no field but those of TB_STATUS and LOAD_ARM (R250). -/
theorem State.siLoaded_reg (hstatus : f.off ≠ 0x64) (harm : f.off ≠ 0x20) : (s.siLoaded cap).reg f = s.reg f := by
  have hasked (d : Int) : (s.stepAsked d 1).reg f = s.reg f :=
    State.reg_stepAsked (by rintro rfl; exact hstatus rfl) (by rintro rfl; exact hstatus rfl)
  have hset (t : State) : (t.hwSet F.TB_CTRL_LOAD_ARM 0).reg f = t.reg f := by
    unfold State.hwSet
    split
    · rfl
    · exact (State.reg_setReg ..).trans (if_neg (by rintro rfl; exact harm rfl))
  unfold State.siLoaded
  dsimp only
  split
  · exact hasked _
  · exact (hset _).trans (hasked _)
theorem State.siTaken_timing : (s.siTaken rising).hub.timing = (s.hub.time, s.hub.last, s.hub.grid, some s.tick) := by
  have hcap : (s.siCaptured rising).hub.timing = (s.hub.time, s.hub.last, s.hub.grid, some s.tick) := by simp [State.siCaptured, Hub.timing]
  rw [State.siTaken]
  split
  · exact State.siLoaded_timing.trans hcap
  · exact hcap
theorem State.siTaken_reg (hstatus : f.off ≠ 0x64) (harm : f.off ≠ 0x20) : (s.siTaken rising).reg f = (s.siCaptured rising).reg f := by
  rw [State.siTaken]
  split
  · exact State.siLoaded_reg hstatus harm
  · rfl
theorem State.siCaptured_pair : (s.siCaptured rising).pair F.TB_SI_LO F.TB_SI_HI = s.now - 9 := by
  have hnow : s.now - 9 < 2 ^ 64 := Nat.lt_of_le_of_lt (Nat.sub_le ..) (Nat.mod_lt _ (Nat.two_pow_pos 64))
  rw [← State.pair_setPair (s := { s with hub := { s.hub with siTick := some s.tick } }) (lo := F.TB_SI_LO) (hi := F.TB_SI_HI) rfl rfl nofun hnow]
  simp [State.siCaptured, State.pair, State.reg_cause_plain, State.reg_wrapTally, Fld.plain]
theorem State.siCaptured_dir : (s.siCaptured rising).reg F.TB_SI_STATUS_DIR = b2n rising := by
  rw [State.siCaptured, State.reg_cause_plain _ _ (by decide), State.reg_wrapTally, if_neg nofun, State.reg_setReg, if_pos rfl]
  cases rising <;> rfl
/-- SYNC_IN_EDGE: a selected edge at least 100 ns after the last capture (R250). -/
theorem exec_syncInEdge (hon : s.hubOn = true) (hsel : s.siSelected rising = true) (hgap : ∀ k, s.hub.siTick = some k → 25 ≤ s.tick - k) :
    exec (.syncInEdge rising) s = .next (s.siTaken rising) := by
  have hfree : ((s.hub.siTick.map fun t => decide (s.tick - t < 25)) == some true) = false := by
    cases hk : s.hub.siTick with
    | none => rfl
    | some k => simpa using hgap k hk
  rw [show exec (.syncInEdge rising) s = execSyncInEdge rising s from rfl, execSyncInEdge, onHub_on hon, State.siEdge, if_neg (by simp [hsel]),
    if_neg (by simp [hfree])]
  rfl

/-! SYNC_OUT -/

/-- SYNC_OUT_PULSE (R251). -/
theorem exec_syncOutPulse (hon : s.hubOn = true) (hnext : s.hub.soNext = some k) (hen : s.on F.TB_CTRL_SO_EN = true) (hpast : k ≤ s.now)
    (hidle : s.hub.so = none) :
    exec .syncOutPulse s = .next (({ s with hub := { s.hub with so := some (s.tick + max 1 (s.reg F.TB_SO_WIDTH)) } } : State).soAim
      (max (k + 1) s.now)) := by
  rw [show exec .syncOutPulse s = execSyncOutPulse s from rfl, execSyncOutPulse, onHub_on hon, hnext]
  exact congrArg _ (if_pos (by simp [hen, hpast, hidle]))
/-- SYNC_OUT_END (R251). -/
theorem exec_syncOutEnd (hon : s.hubOn = true) (hso : s.hub.so = some k) (hpast : k ≤ s.tick) :
    exec .syncOutEnd s = .next { s with hub := { s.hub with so := none } } := by
  rw [show exec .syncOutEnd s = execSyncOutEnd s from rfl, execSyncOutEnd, onHub_on hon, hso]
  exact congrArg _ (if_pos hpast)
end
end Sys2Proof.Machine

namespace Sys2Proof
open Machine

/-- Settles O1: each row is its operation; of the hub die's times a step moves machine time alone, and a captured edge none (`Hub.timing`). -/
theorem machineTimeCommands : Obligations.MachineTimeCommands := by
  unfold Obligations.MachineTimeCommands
  refine ⟨fun s hon hslew hrest => ?_, fun s d c k n hon hstep hpast hge => ?_, fun s rising hon hsel hgap => ?_,
    fun s k hon hnext hen hpast hidle => ⟨_, exec_syncOutPulse hon hnext hen hpast hidle, rfl, rfl⟩, fun s k => exec_syncOutEnd⟩
  · exact ⟨_, exec_slewDone hon hslew hrest, by rw [State.reg_cause_plain _ _ (by decide), State.reg_setReg, if_pos rfl]; rfl,
      State.cause_sets_bit .tb nofun (by decide), by simp⟩
  · obtain ⟨htime, hlast, hgrid, -⟩ := by simpa only [Hub.timing, Prod.mk.injEq] using s.stepApplied_timing (c := c) (k := k) hge
    exact ⟨_, exec_stepApply hon hstep hpast, htime, by rw [hlast], hgrid, by simp⟩
  · obtain ⟨htime, -, -, hedge⟩ := by simpa only [Hub.timing, Prod.mk.injEq] using State.siTaken_timing (s := s) (rising := rising)
    refine ⟨_, exec_syncInEdge hon hsel hgap, ?_, (State.siTaken_reg (by decide) (by decide)).trans State.siCaptured_dir, hedge, htime⟩
    rw [State.pair, State.siTaken_reg (by decide) (by decide), State.siTaken_reg (by decide) (by decide)]
    exact State.siCaptured_pair
end Sys2Proof

/-! ### What a group die keeps while its channels take their states and it holds timed commands (R113, R115, R276, R290)

`Die.linkEnd` is a die but for its reports, its local Ledger, the safe state and the commands that have come; `State.linkEnds` is that of
every die, with the port of every channel. The lemmas that bear the name `_part` hold of whatever part of a die its reports leave. -/

namespace Sys2Proof.Machine

/-- A die but for its reports, its local Ledger, the safe state and the commands that have come to it. -/
def Die.linkEnd (d : Die) : Die :=
  { d.unheld with inbox := [], seqs := [], urgUp := d.urgUp, safe := false, safeCause := 0, safeAt := 0 }
/-- The dies but for what `Die.linkEnd` leaves out, and the ports of the channels. -/
def State.linkEnds (s : State) : Vector Die 4 × Vector Port 32 := (s.dies.map Die.linkEnd, s.chans.map Chan.port)

section
variable {s t : State} {g : Grp} {c : Ch}

theorem State.linkEnds_congr (hd : t.dies.map Die.linkEnd = s.dies.map Die.linkEnd) (hc : t.chans.map Chan.port = s.chans.map Chan.port) :
    t.linkEnds = s.linkEnds := Prod.ext hd hc
theorem State.updDie_linkEnds {k : Die → Die} (h : ∀ d, (k d).linkEnd = d.linkEnd) : (s.updDie g k).linkEnds = s.linkEnds :=
  State.linkEnds_congr (State.updDie_keeps h) rfl
theorem State.updCh_linkEnds {k : Chan → Chan} (h : ∀ x, (k x).port = x.port) : (s.updCh c k).linkEnds = s.linkEnds :=
  State.linkEnds_congr rfl (State.updCh_keeps h)
/-- What `Die.linkEnd` shows of a die is the same at dies that agree in it. -/
theorem State.dieOf_linkEnd {α : Type} {p : Die → α} (hp : ∀ d, p d.linkEnd = p d) (h : t.dies.map Die.linkEnd = s.dies.map Die.linkEnd)
    (g : Grp) : p (t.dieOf g) = p (s.dieOf g) := by
  have hg : (t.dieOf g).linkEnd = (s.dieOf g).linkEnd := by simpa [State.dieOf] using congrArg (fun v => v[g.val]) h
  rw [← hp, hg, hp]
theorem State.dieOf_linkEnds {α : Type} {p : Die → α} (hp : ∀ d, p d.linkEnd = p d) (h : t.linkEnds = s.linkEnds) (g : Grp) :
    p (t.dieOf g) = p (s.dieOf g) := State.dieOf_linkEnd hp (congrArg Prod.fst h) g
theorem State.port_linkEnds (h : t.linkEnds = s.linkEnds) (c : Ch) : (t.ch c).port = (s.ch c).port :=
  State.ch_keeps (congrArg Prod.snd h) c

/-! A channel brought to its state changes of a die its reports alone -/

section
variable {α : Type} {p : Die → α} (hp : ∀ d q, p { d with evQ := q } = p d)
include hp

theorem State.evt_part {e : EvData} : (s.evt g e).dies.map p = s.dies.map p := State.updDie_keeps fun _ => hp ..
theorem State.gateOn1_part : (s.gateOn1 c).dies.map p = s.dies.map p := State.evt_part hp
theorem State.gateStart_part {n : Nat} {meas : Bool} : (s.gateStart c n meas).dies.map p = s.dies.map p := by
  unfold State.gateStart State.gateOn State.residual
  dsimp only
  (repeat' split) <;> simp [State.gateOn1_part hp]
theorem State.turnOn_part {n : Nat} : (s.turnOn c n).dies.map p = s.dies.map p := by
  unfold State.turnOn
  simp [State.gateStart_part hp]
theorem State.startRun_part {i start n : Nat} {own : Option Nat} {act : Bool} :
    (s.startRun c i own start n act).dies.map p = s.dies.map p := by
  unfold State.startRun
  dsimp only
  (repeat' split) <;> simp [State.gateStart_part hp, State.turnOn_part hp]
theorem State.bringOn_part {n : Nat} {act : Bool} : (s.bringOn c n act).dies.map p = s.dies.map p := by
  unfold State.bringOn
  dsimp only
  (repeat' split) <;> simp [State.gateStart_part hp, State.turnOn_part hp]
theorem State.settle_part : (s.settle c).dies.map p = s.dies.map p := by
  unfold State.settle
  (repeat' split) <;> simp [State.bringOn_part hp, State.startRun_part hp]
theorem State.settleAll_part : (s.settleAll g).dies.map p = s.dies.map p :=
  State.foldl_keep (fun s => s.dies.map p) (fun s c => by simp [State.settle_part hp]) _ s
end

theorem State.evt_linkEnds {e : EvData} : (s.evt g e).linkEnds = s.linkEnds := State.updDie_linkEnds fun _ => rfl
theorem State.beginCommit_linkEnd : (s.beginCommit g).dies.map Die.linkEnd = s.dies.map Die.linkEnd :=
  State.updDie_keeps fun d => by split <;> rfl
theorem State.local_linkEnd {code chan cls data : Nat} : (s.local g code chan cls data).dies.map Die.linkEnd = s.dies.map Die.linkEnd := by
  have hrec {u : State} {n : Nat} {l : Die → List LocRec} :
      (u.updDie g fun d => { d with lseq := n, dirty := true, store := l d }).dies.map Die.linkEnd = u.dies.map Die.linkEnd :=
    State.updDie_keeps fun _ => rfl
  unfold State.local
  dsimp only
  split <;> simp [State.beginCommit_linkEnd, State.evt_part (p := Die.linkEnd) fun _ _ => rfl, hrec]
/-- Entry into the safe state (R290). -/
theorem State.safeEnter_linkEnd {cause : Nat} : (s.safeEnter g cause).dies.map Die.linkEnd = s.dies.map Die.linkEnd := by
  unfold State.safeEnter
  split
  · rfl
  · rw [State.beginCommit_linkEnd, State.safeReport, State.local_linkEnd, State.evt_part fun _ _ => rfl, State.settleAll_part fun _ _ => rfl]
    exact State.updDie_keeps fun _ => rfl

/-! Timed commands are held -/

theorem State.held_linkEnds {l : Die → List Held} : (s.updDie g fun d => { d with held := l d }).linkEnds = s.linkEnds :=
  State.updDie_linkEnds fun _ => rfl
theorem State.placeHeld_linkEnds {n : ChN} : (s.placeHeld g n).linkEnds = s.linkEnds := by
  unfold State.placeHeld
  refine (State.foldl_keep State.linkEnds (fun _ _ => State.evt_linkEnds) _ _).trans ((State.updCh_linkEnds ?_).trans (State.updDie_linkEnds ?_))
  · exact fun _ => rfl
  · exact fun _ => rfl
theorem State.holdLate_linkEnds {h : Held} : (s.holdLate g h).linkEnds = s.linkEnds := by
  unfold State.holdLate
  dsimp only
  rw [State.held_linkEnds]
  (repeat' split) <;> simp [State.evt_linkEnds]
theorem State.supersede_linkEnds {h : Held} {n : ChN} : (s.supersede g h n).linkEnds = s.linkEnds := by
  unfold State.supersede
  exact (State.foldl_keep State.linkEnds (fun _ _ => State.evt_linkEnds) _ _).trans (State.updDie_linkEnds fun _ => rfl)
theorem State.keepDelays_linkEnds {x : DlCmd} : (s.keepDelays c x).linkEnds = s.linkEnds := by
  unfold State.keepDelays
  split
  · exact State.updCh_linkEnds fun _ => rfl
  · exact State.updCh_linkEnds fun _ => rfl
  · rfl
/-- A timed command taken is held, superseded or discarded (R113, R115, R275). -/
theorem State.acceptTimed_linkEnds {x : DlCmd} {i : Option SlotInfo} {epoch : Bool} : (s.acceptTimed g x i epoch).linkEnds = s.linkEnds := by
  unfold State.acceptTimed State.acceptAt
  dsimp only
  (repeat' split) <;> simp [State.placeHeld_linkEnds, State.holdLate_linkEnds, State.supersede_linkEnds, State.keepDelays_linkEnds,
    State.held_linkEnds]
theorem State.takeTimed_linkEnds (k : Nat) (s : State) : (State.takeTimed g k s).linkEnds = s.linkEnds := by
  induction k generalizing s with
  | zero => rfl
  | succ k ih =>
    unfold State.takeTimed
    split
    · rfl
    · split
      · rw [ih, State.acceptTimed_linkEnds]
        exact State.updDie_linkEnds fun _ => rfl
      · rfl
theorem State.takeHeads_linkEnds : (s.takeHeads g).linkEnds = s.linkEnds := State.takeTimed_linkEnds _ _
theorem State.takeHeads_dieOf {α : Type} {p : Die → α} (hp : ∀ d, p d.linkEnd = p d) : p ((s.takeHeads g).dieOf g) = p (s.dieOf g) :=
  State.dieOf_linkEnds hp State.takeHeads_linkEnds g
end
end Sys2Proof.Machine

/-! ### The group die's end of a Staed link (R246, R249, R272 to R275, R277, R279, R281) -/

namespace Sys2Proof.Machine

/-- A part that has come is taken from the wire and acknowledged (R272, R277). -/
def State.partSeen (s : State) (g : Grp) (p : Part) (l : List Part) (ok : Bool) : State :=
  (s.updLink g fun k => { k with wire := l }).updDie g fun d =>
    { d with urgUp := d.urgUp ++ [.partAck p.alive p.isB ok], downErr := if ok then d.downErr else min 0xFFFF (d.downErr + 1) }

section
variable {s : State} {g : Grp} {p : Part} {q : Nat} {r : RuleNo} {ok : Bool}

/-! A part -/

theorem State.takeCmd_linkEnds {sync : Nat} {x : TxCmd} : (s.takeCmd g sync x).linkEnds = s.linkEnds := by
  unfold State.takeCmd
  dsimp only
  split
  · exact State.updDie_linkEnds fun _ => rfl
  · split
    · rfl
    · exact State.updDie_linkEnds fun _ => rfl
/-- The commands of a part change nothing of what its header or its acknowledgements have set. -/
theorem State.partIn_linkEnds :
    (s.partIn g p).linkEnds = (if p.isB then (s.takeAcks g p).takeRate g p else s.takeHeader g p).linkEnds :=
  State.takeHeads_linkEnds.trans (State.foldl_keep State.linkEnds (fun _ _ => State.takeCmd_linkEnds) _ _)
/-- The header of a good part A (R273, R281). -/
theorem State.takeHeader_shows :
    ((s.takeHeader g p).dieOf g).lastAlive = some p.alive ∧ ((s.takeHeader g p).dieOf g).hdr = p.epoch ∧
      ((s.takeHeader g p).dieOf g).forced = p.safe ∧ ((s.takeHeader g p).dieOf g).urgUp = (s.dieOf g).urgUp := by
  have hsafe {u : State} {α : Type} {f : Die → α} (hf : ∀ d, f d.linkEnd = f d) :
      f ((if p.safe then u.safeEnter g 2 else u).dieOf g) = f (u.dieOf g) := by
    split
    · exact State.dieOf_linkEnd hf State.safeEnter_linkEnd g
    · rfl
  unfold State.takeHeader
  dsimp only
  refine ⟨(hsafe (f := Die.lastAlive) fun _ => rfl).trans ?_, (hsafe (f := Die.hdr) fun _ => rfl).trans ?_,
    (hsafe (f := Die.forced) fun _ => rfl).trans ?_, (hsafe (f := Die.urgUp) fun _ => rfl).trans ?_⟩ <;> simp
/-- The acknowledgements and the rate of a good part B (R249, R276). -/
theorem State.takeAcks_takeRate_shows :
    (((s.takeAcks g p).takeRate g p).dieOf g).firstAck = true ∧ (((s.takeAcks g p).takeRate g p).dieOf g).rate = 2 * p.rate ∧
      (((s.takeAcks g p).takeRate g p).dieOf g).urgUp = (s.dieOf g).urgUp := by
  have hacks : ((s.takeAcks g p).dieOf g).firstAck = true ∧ ((s.takeAcks g p).dieOf g).urgUp = (s.dieOf g).urgUp := by
    have hfixed (k : Fin 8 → Chan → Chan) (u : State) :
        ((List.finRange 8).foldl (fun s n => s.updCh (chOf g n) (k n)) u).dieOf g = u.dieOf g :=
      State.foldl_keep (fun s => s.dieOf g) (fun _ _ => State.dieOf_updCh ..) _ u
    have htallies : ((List.finRange 8).foldl (fun s n => s.tallyAcked (chOf g n) (bit p.ackT n.val)) s).dieOf g = s.dieOf g :=
      State.foldl_keep (fun s => s.dieOf g) (fun _ _ => by simp [State.dieOf]) _ s
    unfold State.takeAcks
    dsimp only
    split
    · rw [hfixed]
      simp
    · next hfirst => simpa [htallies] using hfirst
  simpa [State.takeRate] using hacks
/-- A good part A leaves its header (R273, R281). -/
theorem State.partIn_header (hB : p.isB = false) :
    ((s.partIn g p).dieOf g).lastAlive = some p.alive ∧ ((s.partIn g p).dieOf g).hdr = p.epoch ∧
      ((s.partIn g p).dieOf g).forced = p.safe ∧ ((s.partIn g p).dieOf g).urgUp = (s.dieOf g).urgUp := by
  have hends := State.partIn_linkEnds (s := s) (g := g) (p := p)
  rw [if_neg (by simp [hB])] at hends
  rw [State.dieOf_linkEnds (p := Die.lastAlive) (fun _ => rfl) hends, State.dieOf_linkEnds (p := Die.hdr) (fun _ => rfl) hends,
    State.dieOf_linkEnds (p := Die.forced) (fun _ => rfl) hends, State.dieOf_linkEnds (p := Die.urgUp) (fun _ => rfl) hends]
  exact State.takeHeader_shows
/-- A good part B leaves its acknowledgements and its rate (R249, R276). -/
theorem State.partIn_acks (hB : p.isB = true) :
    ((s.partIn g p).dieOf g).firstAck = true ∧ ((s.partIn g p).dieOf g).rate = 2 * p.rate ∧
      ((s.partIn g p).dieOf g).urgUp = (s.dieOf g).urgUp := by
  have hends := State.partIn_linkEnds (s := s) (g := g) (p := p)
  rw [if_pos hB] at hends
  rw [State.dieOf_linkEnds (p := Die.firstAck) (fun _ => rfl) hends, State.dieOf_linkEnds (p := Die.rate) (fun _ => rfl) hends,
    State.dieOf_linkEnds (p := Die.urgUp) (fun _ => rfl) hends]
  exact State.takeAcks_takeRate_shows
theorem State.partIn_urgUp : ((s.partIn g p).dieOf g).urgUp = (s.dieOf g).urgUp := by
  cases hB : p.isB with
  | false =>
    obtain ⟨-, -, -, hurg⟩ := State.partIn_header (s := s) (g := g) hB
    exact hurg
  | true =>
    obtain ⟨-, -, hurg⟩ := State.partIn_acks (s := s) (g := g) hB
    exact hurg

section
variable {check : Option (BitVec 16)} {isB : Bool} {l : List Part} (htimed : (s.dieOf g).timed = true) (hwire : (s.link g).wire = p :: l)
  (hB : p.isB = isB) (hdue : p.due ≤ s.clock)
include htimed hwire hB hdue

/-- A part that is due is taken when its CRC is good, and acknowledged as good or failed (R272, R274, R277). -/
theorem State.takePart_of (hok : (check == some (BitVec.ofNat 16 (crc16 p.bytes))) = ok) :
    s.takePart g check isB = if ok then (s.partSeen g p l ok).partIn g p else s.partSeen g p l ok := by
  subst hB hok
  rw [State.takePart, hwire]
  exact if_neg (by simp [htimed, hdue])
theorem State.takePart_wire : ((s.takePart g check isB).link g).wire = l := by
  rw [State.takePart_of htimed hwire hB hdue rfl]
  split <;> simp [State.partSeen, State.link, State.updLink]
theorem State.takePart_urgUp :
    .partAck p.alive isB (check == some (BitVec.ofNat 16 (crc16 p.bytes))) ∈ ((s.takePart g check isB).dieOf g).urgUp := by
  have hack {ok : Bool} : .partAck p.alive isB ok ∈ ((s.partSeen g p l ok).dieOf g).urgUp := by simp [State.partSeen, hB]
  rw [State.takePart_of htimed hwire hB hdue rfl]
  split
  · rw [State.partIn_urgUp]
    exact hack
  · exact hack
theorem State.takePart_good (hgood : check = some (BitVec.ofNat 16 (crc16 p.bytes))) :
    s.takePart g check isB = (s.partSeen g p l true).partIn g p :=
  (State.takePart_of htimed hwire hB hdue (beq_iff_eq.mpr hgood)).trans (if_pos rfl)
theorem State.takePart_failed (hbad : check ≠ some (BitVec.ofNat 16 (crc16 p.bytes))) : s.takePart g check isB = s.partSeen g p l false :=
  (State.takePart_of htimed hwire hB hdue (beq_eq_false_iff_ne.mpr hbad)).trans (if_neg nofun)
end

/-- PART_A_TAKEN (R272 to R274, R277, R281). -/
theorem exec_partATaken {check : Option (BitVec 16)} {l : List Part} (hon : s.dieOn g = true) (htimed : (s.dieOf g).timed = true)
    (hwire : (s.link g).wire = p :: l) (hB : p.isB = false) (hdue : p.due ≤ s.clock) :
    ∃ t, exec (.partATaken g check) s = .next t ∧ (t.link g).wire = l ∧
      .partAck p.alive false (check == some (BitVec.ofNat 16 (crc16 p.bytes))) ∈ (t.dieOf g).urgUp ∧
      (check = some (BitVec.ofNat 16 (crc16 p.bytes)) →
        (t.dieOf g).lastAlive = some p.alive ∧ (t.dieOf g).hdr = p.epoch ∧ (t.dieOf g).forced = p.safe) ∧
      (check ≠ some (BitVec.ofNat 16 (crc16 p.bytes)) →
        (t.dieOf g).downErr = min 0xFFFF ((s.dieOf g).downErr + 1) ∧ (t.dieOf g).inbox = (s.dieOf g).inbox) := by
  refine ⟨_, onDie_on (k := fun s => s.takePart g check false) hon, State.takePart_wire htimed hwire hB hdue,
    State.takePart_urgUp htimed hwire hB hdue, fun hgood => ?_, fun hbad => ?_⟩
  · obtain ⟨halive, hhdr, hforced, -⟩ := (s.partSeen g p l true).partIn_header (g := g) hB
    rw [State.takePart_good htimed hwire hB hdue hgood]
    exact ⟨halive, hhdr, hforced⟩
  · rw [State.takePart_failed htimed hwire hB hdue hbad]
    simp [State.partSeen]
/-- PART_B_TAKEN (R249, R272, R274 to R277). -/
theorem exec_partBTaken {check : Option (BitVec 16)} {l : List Part} (hon : s.dieOn g = true) (htimed : (s.dieOf g).timed = true)
    (hwire : (s.link g).wire = p :: l) (hB : p.isB = true) (hdue : p.due ≤ s.clock) :
    ∃ t, exec (.partBTaken g check) s = .next t ∧ (t.link g).wire = l ∧
      .partAck p.alive true (check == some (BitVec.ofNat 16 (crc16 p.bytes))) ∈ (t.dieOf g).urgUp ∧
      (check = some (BitVec.ofNat 16 (crc16 p.bytes)) → (t.dieOf g).firstAck = true ∧ (t.dieOf g).rate = 2 * p.rate) := by
  refine ⟨_, onDie_on (k := fun s => s.takePart g check true) hon, State.takePart_wire htimed hwire hB hdue,
    State.takePart_urgUp htimed hwire hB hdue, fun hgood => ?_⟩
  obtain ⟨hfirst, hrate, -⟩ := (s.partSeen g p l true).partIn_acks (g := g) hB
  rw [State.takePart_good htimed hwire hB hdue hgood]
  exact ⟨hfirst, hrate⟩

/-! An urgent word -/

/-- An urgent word carried out is acknowledged (R279). -/
theorem State.urgRun_urgUp : ((s.urgRun g q r).dieOf g).urgUp = (s.dieOf g).urgUp ++ [.actAck q r] := by
  unfold State.urgRun
  dsimp only
  (repeat' split) <;> simp [State.evt]
/-- After an urgent word the next is expected; one that is held stays (R279). -/
theorem State.urgRun_expects :
    ((s.urgRun g q r).dieOf g).urgExp = (q + 1) % 4 ∧ ((s.urgRun g q r).dieOf g).urgHeld = (s.dieOf g).urgHeld := by
  unfold State.urgRun
  dsimp only
  (repeat' split) <;> simp [State.evt]
/-- The held word that follows takes back no acknowledgement. -/
theorem State.mem_urgNext_urgUp {x : UrgUp} (h : x ∈ (s.dieOf g).urgUp) : x ∈ ((s.urgNext g).dieOf g).urgUp := by
  unfold State.urgNext
  (repeat' split)
  · rw [State.urgRun_urgUp]
    simp [h]
  · exact h
  · exact h
/-- URGENT_ACTION of the word that is expected (R279). -/
theorem exec_urgentAction {l : List (Nat × RuleNo)} (hon : s.dieOn g = true) (htimed : (s.dieOf g).timed = true)
    (hwire : (s.link g).urgWire = (q, r) :: l) (hq : q = (s.dieOf g).urgExp) :
    ∃ t, exec (.urgentAction g true) s = .next t ∧ (t.link g).urgWire = l ∧ .actAck q r ∈ (t.dieOf g).urgUp := by
  have htake : s.urgTake g true = ((s.updLink g fun k => { k with urgWire := l }).urgRun g q r).urgNext g := by
    simp only [State.urgTake, hwire, htimed, hq, Bool.not_true, Bool.false_eq_true, if_false, if_true]
  refine ⟨_, onDie_on (k := fun s => s.urgTake g true) hon, ?_⟩
  rw [htake]
  refine ⟨by simp [State.link, State.updLink], State.mem_urgNext_urgUp ?_⟩
  rw [State.urgRun_urgUp]
  simp
/-- URGENT_SKIP (R279). -/
theorem exec_urgentSkip (hon : s.dieOn g = true) (hhub : s.hubOn = true) (hheld : (s.dieOf g).urgHeld = some (q, r)) :
    ∃ t, exec (.urgentSkip g) s = .next t ∧ (t.dieOf g).urgHeld = none ∧ (t.dieOf g).urgExp = (q + 1) % 4 ∧
      .actAck q r ∈ (t.dieOf g).urgUp := by
  obtain ⟨hexp, hnone⟩ := (s.updDie g fun d => { d with urgHeld := none }).urgRun_expects (g := g) (q := q) (r := r)
  refine ⟨_, onBoth_on (k := fun s => s.urgSkip g) hhub hon, ?_⟩
  have hdies : (s.urgSkip g).dies = ((s.updDie g fun d => { d with urgHeld := none }).urgRun g q r).dies := by
    rw [State.urgSkip, hheld]
    simp
  rw [State.dieOf, hdies, ← State.dieOf, hexp, hnone, State.urgRun_urgUp]
  simp
end

/-! ### Down-link commands (R246, R249, R274, R280, Table 13.2) -/

section
variable {s : State} {g : Grp} {n : ChN} {r : RuleNo} {q v code param : Nat} {d : Int} {rel : Bool} {o : List Byte}

/-! The die's machine time -/

theorem State.heldLate_linkEnds : (s.heldLate g).linkEnds = s.linkEnds := by
  unfold State.heldLate
  refine State.held_linkEnds.trans (State.foldl_keep State.linkEnds (fun u h => ?_) _ _)
  (repeat' split) <;> simp [State.evt_linkEnds]
/-- The die's copy of machine time moves, and the epoch is that of the header (R246). -/
theorem State.dieMoves_shows :
    ((s.dieMoves g d rel).dieOf g).time = (((s.dieOf g).time : Int) + d * 2 ^ 32).toNat % 2 ^ 96 ∧
      ((s.dieMoves g d rel).dieOf g).epoch = (s.dieOf g).hdr := by
  have hch (k : Chan → Chan) (u : State) (l : List Ch) : (l.foldl (fun s c => s.updCh c k) u).dieOf g = u.dieOf g :=
    State.foldl_keep (fun s => s.dieOf g) (fun _ _ => State.dieOf_updCh ..) _ u
  unfold State.dieMoves
  dsimp only
  rw [State.dieOf_linkEnds (p := Die.time) (fun _ => rfl) State.heldLate_linkEnds,
    State.dieOf_linkEnds (p := Die.epoch) (fun _ => rfl) State.heldLate_linkEnds, hch]
  simp
/-- At an attach the inputs start anew, which changes of a die its reports alone (R153, R285). -/
theorem State.takeTime_ctl : (s.takeTime g v).dies.map Die.ctl =
    ((s.dieMoves g (((v + (s.clock - (s.dieOf g).timeAt) : Nat) : Int) - s.dieNow g) false).updDie g fun d => { d with gotTime := true }).dies.map
      Die.ctl := by
  unfold State.takeTime
  dsimp only
  split
  · rfl
  · rw [State.foldl_dies fun _ _ => State.setDie_dies .., State.foldl_keep (fun s => s.dies.map Die.ctl)]
    intro u c
    split <;> simp
/-- A time moved to a sum is that sum, as far as 64 bits go. -/
theorem ns_of_moved (old v : Nat) :
    ((old : Int) + ((v : Int) - (old / 2 ^ 32 % 2 ^ 64 : Nat)) * 2 ^ 32).toNat % 2 ^ 96 / 2 ^ 32 % 2 ^ 64 = v % 2 ^ 64 := by
  omega

/-! The rows -/

section
variable {x : TxCmd} {l : List TxCmd} (hon : s.dieOn g = true) (hin : (s.dieOf g).inbox = x :: l)
include hon hin

/-- A command that stands first is carried out as one of its kind; the timed commands behind it are then held. -/
theorem onDie_dlHead {kind : Nat} (hk : x.cmd.kind = kind) (k : State → TxCmd → State) :
    onDie g (fun s => s.dlHead g kind k) s = .next ((k (s.updDie g fun d => { d with inbox := l }) x).takeHeads g) := by
  rw [onDie_on hon, State.dlHead, hin]
  exact congrArg _ (if_pos hk)
/-- DL_RULE (R280). -/
theorem exec_dlRule (hx : x.cmd = .rule r code n param) :
    ∃ t, exec (.dlRule g) s = .next t ∧ ∀ e, e ∈ (t.dieOf g).table ↔ e = (r, code, n, param) ∨ e ∈ (s.dieOf g).table ∧ e.1 ≠ r := by
  refine ⟨_, onDie_dlHead hon hin (congrArg DlCmd.kind hx) _, fun e => ?_⟩
  rw [State.takeHeads_dieOf (p := Die.table) fun _ => rfl, hx]
  simp [or_comm]
/-- DL_ACTION (R274). -/
theorem exec_dlAction (hx : x.cmd = .action n code q param) :
    ∃ t, exec (.dlAction g) s = .next t ∧ (t.dieOf g).acts = (s.dieOf g).acts ++ [{ n := n, code := code, param := param }] := by
  refine ⟨_, onDie_dlHead hon hin (congrArg DlCmd.kind hx) _, ?_⟩
  rw [State.takeHeads_dieOf (p := Die.acts) fun _ => rfl, hx]
  simp
/-- DL_TIME (R249). -/
theorem exec_dlTime (hx : x.cmd = .time v) :
    ∃ t, exec (.dlTime g) s = .next t ∧ t.dieNow g = (v + (s.clock - (s.dieOf g).timeAt)) % 2 ^ 64 ∧ (t.dieOf g).gotTime = true ∧
      (t.dieOf g).epoch = (s.dieOf g).hdr := by
  refine ⟨_, onDie_dlHead hon hin (congrArg DlCmd.kind hx) _, ?_⟩
  rw [State.dieNow, State.takeHeads_dieOf (p := Die.time) fun _ => rfl, State.takeHeads_dieOf (p := Die.gotTime) fun _ => rfl,
    State.takeHeads_dieOf (p := Die.epoch) fun _ => rfl, hx]
  dsimp only
  rw [State.dieOf_part (p := Die.time) (fun _ => rfl) State.takeTime_ctl, State.dieOf_part (p := Die.gotTime) (fun _ => rfl) State.takeTime_ctl,
    State.dieOf_part (p := Die.epoch) (fun _ => rfl) State.takeTime_ctl]
  simp only [State.dieOf_updDie, if_true, State.dieMoves_shows, State.dieNow, State.clock, State.updDie_hub, and_true]
  exact ns_of_moved (s.dieOf g).time (v + (s.clock - (s.dieOf g).timeAt))
/-- DL_STEP in a frame of the new epoch (R246). -/
theorem exec_dlStep (hx : x.cmd = .step d rel) (hepoch : (s.dieOf g).epoch ≠ (s.dieOf g).hdr) :
    ∃ t, exec (.dlStep g) s = .next t ∧ (t.dieOf g).time = (((s.dieOf g).time : Int) + d * 2 ^ 32).toNat % 2 ^ 96 ∧
      (t.dieOf g).epoch = (s.dieOf g).hdr := by
  refine ⟨_, onDie_dlHead hon hin (congrArg DlCmd.kind hx) _, ?_⟩
  rw [State.takeHeads_dieOf (p := Die.time) fun _ => rfl, State.takeHeads_dieOf (p := Die.epoch) fun _ => rfl, hx]
  dsimp only
  rw [State.takeStep, if_neg (by simpa using hepoch)]
  simp [State.dieMoves_shows]
/-- DL_IOL (Table 13.2). -/
theorem exec_dlIol (hx : x.cmd = .iol n q o) :
    ∃ t, exec (.dlIol g) s = .next t ∧ (t.ch (chOf g n)).port.odOut = o ∧ t.die = s.die := by
  refine ⟨_, onDie_dlHead hon hin (congrArg DlCmd.kind hx) _, ?_⟩
  rw [State.port_linkEnds State.takeHeads_linkEnds, hx]
  simp
end
end
end Sys2Proof.Machine

namespace Sys2Proof
open Machine

/-- Settles O16: each row is its operation; the timed commands taken behind it, and the channels brought to their states by a forced safe
state, leave of the die what `Die.linkEnd` shows. -/
theorem dieLinkCommands : Obligations.DieLinkCommands := by
  unfold Obligations.DieLinkCommands
  exact fun s g hon => ⟨fun _ _ _ => exec_partATaken hon, fun _ _ _ => exec_partBTaken hon, fun _ _ _ => exec_urgentAction hon,
    fun _ _ => exec_urgentSkip hon, fun _ _ _ _ _ _ => exec_dlRule hon, fun _ _ _ _ _ _ => exec_dlAction hon, fun _ _ _ => exec_dlTime hon,
    fun _ _ _ _ => exec_dlStep hon, fun _ _ _ _ _ => exec_dlIol hon⟩
end Sys2Proof

/-! ### What waits at a port for ring 5, and its ISDUs (R261, R263, R268, R269) -/

namespace Sys2Proof.Machine

/-- A channel as a port, but for what waits at it for ring 5: the SUPPLY in effect and the port (R61, R269). -/
def Chan.unsent (k : Chan) : Nat × Port := (k.sup, { k.port with stateEnt := none, pdEnt := none, resp := [] })
/-- A channel as a port, but for its ISDUs and what is noted of its supplier as well (R257, R268). -/
def Chan.line (k : Chan) : Nat × Port :=
  (k.unsent.1, { k.unsent.2 with isdu := none, queue := [], frag := none, down := false })

@[simp] theorem Chan.unsent_isdu (k : Chan) : k.unsent.2.isdu = k.port.isdu := rfl
@[simp] theorem Chan.unsent_queue (k : Chan) : k.unsent.2.queue = k.port.queue := rfl
@[simp] theorem Chan.unsent_dev (k : Chan) : k.unsent.2.dev = k.port.dev := rfl
@[simp] theorem Chan.unsent_cycle (k : Chan) : k.unsent.2.cycle = k.port.cycle := rfl
@[simp] theorem Chan.unsent_outOk (k : Chan) : k.unsent.2.outOk = k.port.outOk := rfl
@[simp] theorem Chan.line_cycOff (k : Chan) : k.line.2.cycOff = k.port.cycOff := rfl
@[simp] theorem Chan.line_sup (k : Chan) : k.line.1 = k.sup := rfl
@[simp] theorem Chan.line_dev (k : Chan) : k.line.2.dev = k.port.dev := rfl
@[simp] theorem Chan.line_rxOnly (k : Chan) : k.line.2.rxOnly = k.port.rxOnly := rfl
@[simp] theorem Chan.line_lastStart (k : Chan) : k.line.2.lastStart = k.port.lastStart := rfl

section
variable {s t : State} {c d : Ch} {e : OutEntry} {q : Isdu} {st rs : Nat} {f : Fld}

theorem State.line_of_unsent (h : (t.ch d).unsent = (s.ch d).unsent) : (t.ch d).line = (s.ch d).line := by
  rw [Chan.line, h, Chan.line]
theorem State.unsent_updPort {k : Port → Port} (hk : ∀ x : Chan, ({ x with port := k x.port } : Chan).unsent = x.unsent) :
    ((s.updPort c k).ch d).unsent = (s.ch d).unsent := by
  rw [State.ch_updPort]
  split
  · exact hk _
  · rfl
theorem State.line_updPort {k : Port → Port} (hk : ∀ x : Chan, ({ x with port := k x.port } : Chan).line = x.line) :
    ((s.updPort c k).ch d).line = (s.ch d).line := by
  rw [State.ch_updPort]
  split
  · exact hk _
  · rfl

@[simp] theorem State.ch_ringOut {r : RingNo} : (s.ringOut r e).ch d = s.ch d := State.ch_of_chans (by simp)
@[simp] theorem State.ch_cause {u : U} {k : Nat} : (s.cause u k).ch d = s.ch d := State.ch_of_chans (by simp)
@[simp] theorem State.ch_markDead {k : Nat × Nat × Nat × Nat} {on : Bool} : (s.markDead k on).ch d = s.ch d := State.ch_of_chans (by simp)

/-! Entries of ring 5 -/

theorem State.putState_unsent : ((s.putState c e).ch d).unsent = (s.ch d).unsent := by
  unfold State.putState
  dsimp only
  split
  · exact (State.unsent_updPort fun _ => rfl).trans (by rw [State.ch_ringOut])
  · exact State.unsent_updPort fun _ => rfl
theorem State.putPd_unsent : ((s.putPd c e).ch d).unsent = (s.ch d).unsent := by
  unfold State.putPd
  dsimp only
  split
  · exact (State.unsent_updPort fun _ => rfl).trans (by rw [State.ch_ringOut])
  · exact State.unsent_updPort fun _ => rfl
theorem State.putResp_unsent : ((s.putResp c e).ch d).unsent = (s.ch d).unsent := by
  unfold State.putResp
  split
  · rw [State.ch_ringOut]
  · exact State.unsent_updPort fun _ => rfl

/-! ISDUs that end -/

theorem State.endIsdu_unsent : ((s.endIsdu c q st).ch d).unsent = (s.ch d).unsent := State.putResp_unsent
/-- An ISDU_WRITE that ends before it is whole is no ISDU that the port runs or holds (R268). -/
theorem State.endFrag_isdu : ((s.endFrag c st).ch c).port.isdu = (s.ch c).port.isdu ∧ ((s.endFrag c st).ch c).port.queue = (s.ch c).port.queue := by
  unfold State.endFrag
  split
  · next f _ =>
    have h : (((s.endIsdu c f st).markDead (f.key c.val) true).ch c).unsent = (s.ch c).unsent :=
      (congrArg Chan.unsent State.ch_markDead).trans State.endIsdu_unsent
    rw [State.ch_updPort, if_pos rfl, ← Chan.unsent_isdu (s.ch c), ← Chan.unsent_queue (s.ch c), ← h]
    exact ⟨rfl, rfl⟩
  · exact ⟨rfl, rfl⟩
theorem State.endFrag_line : ((s.endFrag c st).ch d).line = (s.ch d).line := by
  unfold State.endFrag
  split
  · refine (State.line_updPort fun _ => rfl).trans ?_
    rw [State.ch_markDead]
    exact State.line_of_unsent State.endIsdu_unsent
  · rfl
theorem State.endFrag_none (h : (s.ch c).port.frag = none) : s.endFrag c st = s := by
  rw [State.endFrag, h]
theorem State.endIsdus_line : ((s.endIsdus c).ch d).line = (s.ch d).line := by
  unfold State.endIsdus
  refine State.endFrag_line.trans ((State.foldl_keep (fun s => (s.ch d).line) (fun _ _ => ?_) _ _).trans (State.line_updPort fun _ => rfl))
  exact State.line_of_unsent State.endIsdu_unsent
/-- No ISDU is left at the port (R261, R263, R264). -/
theorem State.endIsdus_ends : ((s.endIsdus c).ch c).port.isdu = none ∧ ((s.endIsdus c).ch c).port.queue = [] := by
  unfold State.endIsdus
  dsimp only
  have hkept (l : List Isdu) (t : State) : ((l.foldl (fun s q => s.endIsdu c q 4) t).ch c).unsent = (t.ch c).unsent :=
    State.foldl_keep (fun s => (s.ch c).unsent) (fun _ _ => State.endIsdu_unsent) _ _
  have hnone (l : List Isdu) (t : State) (hi : (t.ch c).unsent.2.isdu = none) (hq : (t.ch c).unsent.2.queue = []) :
      ((l.foldl (fun s q => s.endIsdu c q 4) t).ch c).port.isdu = none ∧ ((l.foldl (fun s q => s.endIsdu c q 4) t).ch c).port.queue = [] := by
    rw [← hkept l t] at hi hq
    exact ⟨hi, hq⟩
  rw [State.endFrag_isdu.1, State.endFrag_isdu.2]
  exact hnone _ _ (by simp) (by simp)

/-! A port's state -/

theorem State.portSet_unsent : ((s.portSet c st rs).ch d).unsent = (s.ch d).unsent := by
  have hcall (t : State) : ((t.updCh c fun k => { k with valid := false, qual := false, comp := false }).ch d).unsent = (t.ch d).unsent := by
    rw [State.ch_updCh]
    split <;> rfl
  unfold State.portSet
  dsimp only
  split
  · rfl
  · rw [State.putState_unsent, State.ch_cause]
    simp only [apply_ite (State.ch · d), apply_ite Chan.unsent, hcall, State.ch_setReg, ite_self]
theorem State.reason_portSet (st : Nat) (h : rs < 16) : (s.portSet c st rs).reg (F.IOL_CTRL_REASON c) = rs := by
  rw [State.reg_portSet_entered rfl (by simp) (by simp)]
  split
  · next hsame => exact hsame.2
  · simp [Nat.mod_eq_of_lt h]
/-- COM is kept in the states that have a device (Table 12.3). -/
theorem State.com_portSet (h5 : 5 ≤ st) (h8 : st ≤ 8) : (s.portSet c st rs).reg (F.IOL_CTRL_COM c) = s.reg (F.IOL_CTRL_COM c) := by
  unfold State.portSet
  dsimp only
  split
  · rfl
  · rw [State.reg, State.putState_frame.2.1, ← State.reg, State.reg_cause_plain _ _ rfl]
    simp [apply_ite (State.reg · (F.IOL_CTRL_COM c)), h5, h8]
/-- No change of state makes invalid process data valid (R263). -/
theorem State.invalid_portSet (h : s.reg (F.IOL_CTRL_PD_VALID c) = 0) : (s.portSet c st rs).reg (F.IOL_CTRL_PD_VALID c) = 0 := by
  unfold State.portSet
  dsimp only
  split
  · exact h
  · rw [State.reg, State.putState_frame.2.1, ← State.reg, State.reg_cause_plain _ _ rfl]
    simp [apply_ite (State.reg · (F.IOL_CTRL_PD_VALID c)), h]

/-! A port and its supply -/

theorem State.portSet_line : ((s.portSet c st rs).ch d).line = (s.ch d).line := State.line_of_unsent State.portSet_unsent
theorem State.portGo_line : ((s.portGo c).ch d).line = (s.ch d).line := by
  unfold State.portGo
  split <;> exact State.portSet_line
theorem State.powering_line : ((s.powering c).ch d).line = (s.ch d).line := by
  unfold State.powering
  dsimp only
  split
  · exact State.portGo_line.trans State.portSet_line
  · exact State.portSet_line
theorem State.portCheck_line : ((s.portCheck c).ch d).line = (s.ch d).line := by
  have hnoted (on : Bool) : ((s.updPort c fun p => { p with down := on }).ch d).line = (s.ch d).line := State.line_updPort fun _ => rfl
  unfold State.portCheck
  dsimp only
  split
  · rfl
  split
  · refine State.portSet_line.trans ?_
    split
    · exact hnoted _
    · exact State.endIsdus_line.trans (hnoted _)
  split
  · exact State.powering_line.trans (hnoted _)
  · exact hnoted _
end
end Sys2Proof.Machine

/-! ### The commands of a port: discovery, cycles and driver (R258 to R266, Table 12.3) -/

namespace Sys2Proof.Machine

/-- The state that a port with power enters for its TARGET (R260). -/
def targetState (target : Nat) : Nat :=
  match target with
  | 0 => 4
  | 2 => 2
  | _ => 1

section
variable {s : State} {c d : Ch} {dev : IolDevice} {f : Fld}

/-! Discovery -/

theorem State.portGo_state : (s.portGo c).portState c = targetState (s.reg (F.IOL_CTRL_TARGET c)) := by
  unfold State.portGo targetState
  generalize s.reg (F.IOL_CTRL_TARGET c) = n
  match n with
  | 0 => exact State.portState_portSet _ (by decide)
  | 1 => exact State.portState_portSet 0 (by decide)
  | 2 => exact State.portState_portSet 0 (by decide)
  | _ + 3 => exact State.portState_portSet 0 (by decide)
/-- POWERING_END (Table 12.3). -/
theorem exec_poweringEnd (hon : s.hubOn = true) (hrun : s.fwRuns = true) (hstate : s.portState c = 3)
    (hfed : ∀ d, s.feeder c = some d → s.on (F.OUT_STATE_SWITCH d) = true) :
    ∃ t, exec (.poweringEnd c) s = .next t ∧ t.portState c = targetState (s.reg (F.IOL_CTRL_TARGET c)) := by
  refine ⟨s.portGo c, (onHub_on hon).trans (congrArg _ ?_), State.portGo_state⟩
  cases h : s.feeder c with
  | none => simp [hrun, hstate]
  | some d => simp [hrun, hstate, hfed d h]
/-- WAKE_UP (Table 12.3). -/
theorem exec_wakeUp (hon : s.hubOn = true) (hrun : s.fwRuns = true) (hstate : s.portState c = 4) :
    ∃ t, exec (.wakeUp c) s = .next t ∧ (t.ch c).port.pulses = (s.ch c).port.pulses % 3 + 1 :=
  ⟨_, (onHub_on hon).trans (congrArg _ (if_pos (by simp [hrun, hstate]))), by simp⟩
/-- DEVICE_ANSWER: the port is in STARTUP at the COM rate that was answered (Table 12.3). -/
theorem exec_deviceAnswer {com : Fin 4} (hon : s.hubOn = true) (hrun : s.fwRuns = true) (hstate : s.portState c = 4) (hcom : com.val ≠ 0) :
    ∃ t, exec (.deviceAnswer c com) s = .next t ∧ t.portState c = 5 ∧ t.reg (F.IOL_CTRL_COM c) = com.val := by
  refine ⟨_, (onHub_on hon).trans (congrArg _ (if_pos (by simp [hrun, hstate, hcom]))), State.portState_portSet 0 (by decide), ?_⟩
  rw [State.com_portSet (by decide) (by decide)]
  simp

/-- The device that has been read is the one present (R262). -/
theorem State.inspect_dev : ((s.inspect c dev).ch c).port.dev = some dev := by
  have hkept (t : State) (st rs : Nat) : ((t.portSet c st rs).ch c).port.dev = (t.ch c).port.dev := by
    rw [← Chan.unsent_dev, State.portSet_unsent, Chan.unsent_dev]
  unfold State.inspect
  dsimp only
  (repeat' split) <;> rw [hkept] <;> simp
theorem State.inspect_incompatible (h : incompatible dev = true) :
    (s.inspect c dev).portState c = 8 ∧ (s.inspect c dev).reg (F.IOL_CTRL_REASON c) = 7 := by
  rw [State.inspect, if_pos h]
  exact ⟨State.portState_portSet 7 (by decide), State.reason_portSet 8 (by decide)⟩
/-- The first compatible device becomes the reference (R262). -/
theorem State.inspect_first (h : incompatible dev = false) (href : (s.ch c).port.ref = none) :
    (s.inspect c dev).portState c = 6 ∧ ((s.inspect c dev).ch c).port.ref = some (dev.vendor, dev.device, dev.revision) := by
  rw [State.inspect, if_neg (by simp [h]), href]
  refine ⟨State.portState_portSet 0 (by decide), (State.portSet_ref 6 0).trans ?_⟩
  simp
theorem State.inspect_known (h : incompatible dev = false) (href : (s.ch c).port.ref = some (dev.vendor, dev.device, dev.revision)) :
    (s.inspect c dev).portState c = 6 := by
  rw [State.inspect, if_neg (by simp [h]), href]
  dsimp only
  rw [if_pos rfl]
  exact State.portState_portSet 0 (by decide)
theorem State.inspect_changed {r : Nat × Nat × Nat} (h : incompatible dev = false) (href : (s.ch c).port.ref = some r)
    (hne : r ≠ (dev.vendor, dev.device, dev.revision)) :
    (s.inspect c dev).portState c = 8 ∧ (s.inspect c dev).reg (F.IOL_CTRL_REASON c) = 8 := by
  rw [State.inspect, if_neg (by simp [h]), href]
  dsimp only
  rw [if_neg hne]
  exact ⟨State.portState_portSet 8 (by decide), State.reason_portSet 8 (by decide)⟩
theorem State.reg_pdOutMask (h : F.IOL_PD_PDOUT c ≠ f) : (s.pdOutMask c).reg f = s.reg f := by
  unfold State.pdOutMask
  (repeat' split) <;> simp [h]
@[simp] theorem State.ch_pdOutMask : (s.pdOutMask c).ch d = s.ch d := State.ch_of_chans (by simp)
/-- PAGE1_INSPECTED: the port leaves STARTUP as the inspection has it, its PDOUT cut to what the device has (R262, R266). -/
theorem exec_page1Inspected (hon : s.hubOn = true) (hrun : s.fwRuns = true) (hstate : s.portState c = 5) :
    ∃ t, exec (.page1Inspected c dev) s = .next t ∧ t.portState c = (s.inspect c dev).portState c ∧
      t.reg (F.IOL_CTRL_REASON c) = (s.inspect c dev).reg (F.IOL_CTRL_REASON c) ∧ t.ch c = (s.inspect c dev).ch c :=
  ⟨_, (onHub_on hon).trans (congrArg _ (if_pos (by simp [hrun, hstate]))), State.reg_pdOutMask (by simp), State.reg_pdOutMask (by simp),
    State.ch_pdOutMask⟩
/-- PREOPERATE_DONE: the cycle comes into effect, with outputs invalid (R265, R266). -/
theorem exec_preoperateDone (hon : s.hubOn = true) (hrun : s.fwRuns = true) (hstate : s.portState c = 6) :
    ∃ t, exec (.preoperateDone c) s = .next t ∧ t.portState c = 7 ∧ (t.ch c).port.cycle = s.cycleNs c ∧ (t.ch c).port.outOk = false := by
  refine ⟨_, (onHub_on hon).trans (congrArg _ (if_pos (by simp [hrun, hstate]))), State.portState_portSet 0 (by decide), ?_, ?_⟩
  · rw [← Chan.unsent_cycle, State.portSet_unsent]
    simp [State.masterCycle]
  · rw [← Chan.unsent_outOk, State.portSet_unsent]
    simp

/-! The supplier (R257, R264) -/

theorem State.feeder_congr {t : State} (hregs : t.regs = s.regs) (hsup : (t.ch c).sup = (s.ch c).sup) : t.feeder c = s.feeder c := by
  rw [State.feeder, State.imgMode, State.reg, hregs, hsup, ← State.reg, ← State.imgMode, State.feeder]
/-- A word sent changes nothing of a port (R181). -/
theorem State.imageWrite_line {g : Grp} {off data : Nat} : ((s.imageWrite g off data).2.ch d).line = (s.ch d).line := by
  have hdac (e : Ch) (n : Nat) : ((s.updCh e fun k => { k with dacImg := n }).ch d).line = (s.ch d).line := by
    rw [State.ch_updCh]
    split <;> rfl
  unfold State.imageWrite
  extract_lets wid s0 s1
  have hnoted : (s0.ch d).line = (s.ch d).line := by
    unfold s0
    split
    · split
      · exact hdac _ _
      · rfl
    · rfl
  split <;> exact hnoted
theorem State.supplierCmd_line {on : Bool} : ((s.supplierCmd c on).ch d).line = (s.ch d).line := by
  unfold State.supplierCmd
  split
  · rfl
  · exact State.imageWrite_line.trans rfl
/-- The supplier is commanded as asked (R257). -/
theorem State.supplierCmd_on {on : Bool} (h : (if s.isPort c then s.feeder c else s.supplier c) = some d) :
    (s.supplierCmd c on).reg (F.OUT_CMD_ON d) = b2n on := by
  unfold State.supplierCmd
  rw [h]
  dsimp only
  rw [State.reg_sendWord fun _ => by simp]
  cases on <;> simp [b2n]
/-- POWER_CYCLE_END: the supplier is commanded on (R257, R264). -/
theorem exec_powerCycleEnd {n : Nat} (hon : s.hubOn = true) (hrun : s.fwRuns = true) (hoff : (s.ch c).port.cycOff = some n) (hn : n ≤ s.tick) :
    ∃ t, exec (.powerCycleEnd c) s = .next t ∧ (t.ch c).port.cycOff = none ∧
      ∀ d, (if s.isPort c then s.feeder c else s.supplier c) = some d → t.reg (F.OUT_CMD_ON d) = 1 := by
  refine ⟨_, (onHub_on hon).trans (congrArg _ (if_pos (by simp [hrun, hoff, hn]))), ?_⟩
  have hcommands (k : Port → Port) : (if (s.updPort c k).isPort c then (s.updPort c k).feeder c else (s.updPort c k).supplier c) =
      if s.isPort c then s.feeder c else s.supplier c := by
    rw [State.feeder_congr (t := s.updPort c k) (s := s) rfl (by simp)]
    rfl
  have hnone : (((s.updPort c fun p => { p with cycOff := none }).supplierCmd c true).ch c).port.cycOff = none := by
    rw [← Chan.line_cycOff, State.supplierCmd_line]
    simp
  have hfed (d : Ch) (h : (if s.isPort c then s.feeder c else s.supplier c) = some d) :
      ((s.updPort c fun p => { p with cycOff := none }).supplierCmd c true).reg (F.OUT_CMD_ON d) = 1 :=
    State.supplierCmd_on (on := true) ((hcommands _).trans h)
  generalize (s.updPort c fun p => { p with cycOff := none }).supplierCmd c true = s1 at hnone hfed ⊢
  dsimp only
  split
  · refine ⟨?_, fun d h => ?_⟩
    · rw [← Chan.line_cycOff, State.portCheck_line, State.powering_line, Chan.line_cycOff, hnone]
    · rw [State.reg_portCheck rfl (by simp), State.reg_powering rfl (by simp), hfed d h]
  · exact ⟨hnone, hfed⟩

/-! A cycle (R263, R265, R266) -/

/-- A cycle's message counts, and in OPERATE the device is sent the cycle in effect. -/
def State.cycleCounted (s : State) (c : Ch) (good : Bool) : State :=
  if (s.portMessage c good).fwRuns && (s.portMessage c good).portState c == 7 then (s.portMessage c good).masterCycle c
  else s.portMessage c good
/-- The octets of process data that the device present sends. -/
def Port.octetsIn (p : Port) : Nat :=
  match p.dev with
  | some d => d.pdIn
  | none => 0

@[simp] theorem State.ch_openValue : s.openValue.2.ch d = s.ch d := rfl
/-- A cycle in its turn on the grid is begun; a good one brings process data, a missed one makes them invalid. -/
theorem State.portCycle_due {good : Bool} {pd u : Nat} (hgrid : (s.ch c).port.gridStart (s.at c) = some u)
    (hlast : ∀ l, (s.ch c).port.lastStart = some l → l + (s.ch c).port.cycle ≤ u) : ∃ s1 : State, s1.regs = s.regs ∧
      (s1.ch c).port.lastStart = some u ∧ (s1.ch c).port.missed = (s.ch c).port.missed ∧
      s.portCycle c good pd = (if good then (s1.setReg (F.IOL_CTRL_PD_VALID c) 1).pdIn c (s.ch c).port.octetsIn (pdMask (s.ch c).port.octetsIn pd) u
        else s1.setReg (F.IOL_CTRL_PD_VALID c) 0).cycleCounted c good := by
  unfold State.portCycle
  dsimp only
  rw [hgrid]
  dsimp only
  rw [if_neg ?notEarly]
  case notEarly =>
    cases h : (s.ch c).port.lastStart with
    | none => nofun
    | some l => exact fun hearly => absurd (hlast l h) (Nat.not_le.mpr (of_decide_eq_true hearly))
  refine ⟨_, ?_, ?_, ?_, rfl⟩ <;> split <;> simp

/-! Process data -/

section
variable {n v u : Nat}

theorem State.reg_pdIn (hf : f.plain = true) (h : F.IOL_PD_PDIN c ≠ f) : (s.pdIn c n v u).reg f = s.reg f := by
  unfold State.pdIn
  dsimp only
  split
  · rfl
  split
  · rw [State.reg, State.putPd_frame.2.1, ← State.reg, State.reg_cause_plain _ _ hf, State.reg_setReg, if_neg h]
  · rw [State.reg_setReg, if_neg h]
theorem State.pdIn_pdin (hv : v < 2 ^ 16) : (s.pdIn c n v u).reg (F.IOL_PD_PDIN c) = v := by
  have hset : (s.setReg (F.IOL_PD_PDIN c) v).reg (F.IOL_PD_PDIN c) = v := by simpa using hv
  unfold State.pdIn
  dsimp only
  split
  · next h => exact h
  split
  · rw [State.reg, State.putPd_frame.2.1, ← State.reg, State.reg_cause_plain _ _ rfl, hset]
  · exact hset
theorem State.pdIn_line : ((s.pdIn c n v u).ch d).line = (s.ch d).line := by
  unfold State.pdIn
  dsimp only
  split
  · rfl
  split
  · rw [State.line_of_unsent State.putPd_unsent, State.ch_cause, State.ch_setReg]
  · rfl
end

/-! A message, and a loss (R263) -/

theorem State.portMessage_good : s.portMessage c true = s.updPort c fun p => { p with missed := 0 } :=
  if_neg (by simp)
theorem State.portMessage_missed : s.portMessage c false =
    if 2 ≤ (s.ch c).port.missed ∧ s.fwRuns then (s.updPort c fun p => { p with missed := p.missed + 1 }).portLost c
    else s.updPort c fun p => { p with missed := p.missed + 1 } := by
  have hcount : 3 ≤ ((s.updPort c fun p => { p with missed := p.missed + 1 }).ch c).port.missed ↔ 2 ≤ (s.ch c).port.missed := by simp
  have hrun : (s.updPort c fun p => { p with missed := p.missed + 1 }).fwRuns = s.fwRuns := rfl
  unfold State.portMessage
  simp only [Bool.false_eq_true, if_false, hcount, hrun]
/-- A loss leaves the port SEEKING with reason 6 (R263). -/
theorem State.portLost_seeks : (s.portLost c).portState c = 4 ∧ (s.portLost c).reg (F.IOL_CTRL_REASON c) = 6 := by
  rw [State.portLost, State.portState, State.reg_updPort, State.reg_updPort]
  exact ⟨State.portState_portSet 6 (by decide), State.reason_portSet 4 (by decide)⟩
theorem State.portLost_invalid (h : s.reg (F.IOL_CTRL_PD_VALID c) = 0) : (s.portLost c).reg (F.IOL_CTRL_PD_VALID c) = 0 := by
  rw [State.portLost, State.reg_updPort]
  refine State.invalid_portSet ?_
  rw [State.reg, State.endIsdus_frame.2.1, ← State.reg, h]
theorem State.portLost_lastStart : ((s.portLost c).ch c).port.lastStart = (s.ch c).port.lastStart := by
  have hline : (((s.endIsdus c).portSet c 4 6).ch c).line = (s.ch c).line := State.portSet_line.trans State.endIsdus_line
  rw [State.portLost, State.ch_updPort, if_pos rfl, ← Chan.line_lastStart (s.ch c), ← hline, Chan.line_lastStart]
theorem State.reg_cycleCounted {good : Bool} : (s.cycleCounted c good).reg f = (s.portMessage c good).reg f := by
  unfold State.cycleCounted
  split <;> rfl
theorem State.cycleCounted_port {good : Bool} : ((s.cycleCounted c good).ch c).port.lastStart = ((s.portMessage c good).ch c).port.lastStart ∧
    ((s.cycleCounted c good).ch c).port.missed = ((s.portMessage c good).ch c).port.missed := by
  unfold State.cycleCounted
  split <;> simp [State.masterCycle]
theorem State.cycleCounted_missed : ((s.cycleCounted c false).ch c).port.lastStart = (s.ch c).port.lastStart ∧
    (s.reg (F.IOL_CTRL_PD_VALID c) = 0 → (s.cycleCounted c false).reg (F.IOL_CTRL_PD_VALID c) = 0) ∧
    (2 ≤ (s.ch c).port.missed → s.fwRuns = true →
      (s.cycleCounted c false).portState c = 4 ∧ (s.cycleCounted c false).reg (F.IOL_CTRL_REASON c) = 6) := by
  simp only [State.cycleCounted_port.1, State.portState, State.reg_cycleCounted]
  rw [State.portMessage_missed]
  split
  · refine ⟨?_, fun h => State.portLost_invalid h, fun _ _ => State.portLost_seeks⟩
    rw [State.portLost_lastStart]
    simp
  · next h => exact ⟨by simp, id, fun hm hr => absurd ⟨hm, hr⟩ h⟩

section
variable {pd u : Nat} (hgrid : (s.ch c).port.gridStart (s.at c) = some u)
  (hlast : ∀ l, (s.ch c).port.lastStart = some l → l + (s.ch c).port.cycle ≤ u)
include hgrid hlast

/-- A good cycle brings valid process data and ends a run of missed ones (R263, R266). -/
theorem State.portCycle_good : ((s.portCycle c true pd).ch c).port.lastStart = some u ∧
    (s.portCycle c true pd).on (F.IOL_CTRL_PD_VALID c) = true ∧
    (s.portCycle c true pd).reg (F.IOL_PD_PDIN c) = pdMask (s.ch c).port.octetsIn pd ∧ ((s.portCycle c true pd).ch c).port.missed = 0 := by
  have hkept (t : State) (n v : Nat) : ((t.pdIn c n v u).ch c).port.lastStart = (t.ch c).port.lastStart := by
    rw [← Chan.line_lastStart, State.pdIn_line, Chan.line_lastStart]
  obtain ⟨s1, -, hstart, -, hcycle⟩ := State.portCycle_due (good := true) (pd := pd) hgrid hlast
  rw [hcycle, if_pos rfl, State.on]
  simp only [State.cycleCounted_port, State.reg_cycleCounted, State.portMessage_good, State.reg_updPort]
  refine ⟨?_, ?_, State.pdIn_pdin (pdMask_lt _ _), by simp⟩
  · rw [State.ch_updPort, if_pos rfl, ← hstart]
    exact hkept _ _ _
  · rw [State.reg_pdIn rfl (by simp)]
    simp
/-- A missed cycle makes the process data invalid; the third in a row is a loss (R263). -/
theorem State.portCycle_missed : ((s.portCycle c false pd).ch c).port.lastStart = some u ∧
    (s.portCycle c false pd).reg (F.IOL_CTRL_PD_VALID c) = 0 ∧
    (2 ≤ (s.ch c).port.missed → s.fwRuns = true →
      (s.portCycle c false pd).portState c = 4 ∧ (s.portCycle c false pd).reg (F.IOL_CTRL_REASON c) = 6) := by
  obtain ⟨s1, hregs, hstart, hmissed, hcycle⟩ := State.portCycle_due (good := false) (pd := pd) hgrid hlast
  rw [hcycle, if_neg (by simp)]
  obtain ⟨hkept, hinvalid, hlost⟩ := (s1.setReg (F.IOL_CTRL_PD_VALID c) 0).cycleCounted_missed (c := c)
  refine ⟨hkept.trans hstart, hinvalid (by simp), fun hm hrun => hlost (hmissed ▸ hm) ?_⟩
  simpa [State.fwRuns, State.reg, hregs] using hrun
/-- IOL_CYCLE of a port in OPERATE, in its turn on the grid, while its line is neither held nor without MCLKx (R256, R261, R265). -/
theorem exec_iolCycle {good : Bool} (hon : s.hubOn = true) (hdie : s.dieOn (grpOf c) = true) (hmode : (s.ch c).mode = 8)
    (hpark : (s.ch c).park = none) (hsafe : (s.dieOf (grpOf c)).safe = false) (hlimp : (s.dieOf (grpOf c)).limp = false)
    (hpermit : s.permit c = true) (hrx : (s.ch c).port.rxOnly = false) (hstate : s.portState c = 7)
    (htimed : (s.dieOf (grpOf c)).timed = true) :
    ∃ t, exec (.iolCycle c good pd) s = .next t ∧ (t.ch c).port.lastStart = some u ∧
      (good = true → t.on (F.IOL_CTRL_PD_VALID c) = true ∧ t.reg (F.IOL_PD_PDIN c) = pdMask (s.ch c).port.octetsIn pd ∧
        (t.ch c).port.missed = 0) ∧
      (good = false → t.reg (F.IOL_CTRL_PD_VALID c) = 0 ∧
        (2 ≤ (s.ch c).port.missed → s.fwRuns = true → t.portState c = 4 ∧ t.reg (F.IOL_CTRL_REASON c) = 6)) := by
  have hexec : exec (.iolCycle c good pd) s = .next (s.portCycle c good pd) := by
    rw [show exec (.iolCycle c good pd) s = execIolCycle c good pd s from rfl, execIolCycle, onBoth_on hon hdie]
    simp [hmode, hpark, hsafe, hlimp, hpermit, hrx, hstate, htimed]
  refine ⟨_, hexec, ?_⟩
  cases good with
  | true =>
    obtain ⟨hstart, hgood⟩ := State.portCycle_good (pd := pd) hgrid hlast
    exact ⟨hstart, fun _ => hgood, nofun⟩
  | false =>
    obtain ⟨hstart, hmissed⟩ := State.portCycle_missed (pd := pd) hgrid hlast
    exact ⟨hstart, nofun, fun _ => hmissed⟩
end

/-! The C/Q driver (R258) -/

theorem State.portCheck_rxOnly : ((s.portCheck c).ch c).port.rxOnly = (s.ch c).port.rxOnly := by
  rw [← Chan.line_rxOnly, State.portCheck_line, Chan.line_rxOnly]
/-- DRIVER_OVERLOAD. -/
theorem exec_driverOverload (hdie : s.dieOn (grpOf c) = true) (hmode : (s.ch c).mode = 8) :
    ∃ t, exec (.driverOverload c) s = .next t ∧ (t.ch c).port.rxOnly = true := by
  refine ⟨_, (onDie_on hdie).trans (congrArg _ (if_pos hmode)), ?_⟩
  dsimp only
  split
  · rw [State.portCheck_rxOnly]
    simp
  · simp
/-- DRIVER_RETRY of a try that stays below the limit. -/
theorem exec_driverRetry (hdie : s.dieOn (grpOf c) = true) (hrx : (s.ch c).port.rxOnly = true) :
    ∃ t, exec (.driverRetry c false) s = .next t ∧ (t.ch c).port.rxOnly = false := by
  refine ⟨_, (onDie_on hdie).trans (congrArg _ (if_pos (by simp [hrx]))), ?_⟩
  dsimp only
  split
  · rw [State.portCheck_rxOnly]
    simp
  · simp
end
end Sys2Proof.Machine

namespace Sys2Proof
open Machine

/-- Settles O23: each row is its operation at the port; what waits for ring 5, the ISDUs that end and the checks of the supply leave of the
port what `Chan.line` shows. -/
theorem ioLinkPortCommands : Obligations.IoLinkPortCommands := by
  unfold Obligations.IoLinkPortCommands
  intro s c
  refine ⟨fun hon hrun => ⟨exec_poweringEnd hon hrun, exec_wakeUp hon hrun, fun _ => exec_deviceAnswer hon hrun, fun dev hstate => ?_,
    exec_preoperateDone hon hrun, fun _ => exec_powerCycleEnd hon hrun⟩, fun good pd u hon hdie hmode hpark hsafe hlimp hpermit hrx hstate htimed
      hgrid hlast => exec_iolCycle hgrid hlast hon hdie hmode hpark hsafe hlimp hpermit hrx hstate htimed, exec_driverOverload, exec_driverRetry⟩
  obtain ⟨t, hexec, hentered, hreason, hch⟩ := exec_page1Inspected (dev := dev) hon hrun hstate
  refine ⟨t, hexec, ?_⟩
  rw [hentered, hreason, hch]
  exact ⟨State.inspect_dev, State.inspect_incompatible, State.inspect_first, State.inspect_known, fun _ => State.inspect_changed⟩
end Sys2Proof

/-! ### The requests of ring 4 (R264, R266 to R268, Table 12.5) -/

namespace Sys2Proof.Machine

/-- The request at the head of those the firmware holds is taken (R340). -/
def State.reqTaken (s : State) (l : List Entry) : State := { s with fw := { s.fw with reqs := l } }

section
variable {s t : State} {c d : Ch} {e : Entry} {l : List Entry} {q : Isdu} {st op : Nat} {f : Fld}

@[simp] theorem State.reqs_reqTaken : (s.reqTaken l).fw.reqs = l := rfl
@[simp] theorem State.ch_odSend : (s.odSend c).ch d = s.ch d := State.ch_of_chans (by simp)
theorem State.reqPort_isPort (h : s.reqPort e = some c) : s.isPort c = true := by
  unfold State.reqPort at h
  split at h
  · split at h
    · next hport =>
      obtain rfl := Option.some.inj h
      exact hport
    · cases h
  · cases h
/-- A request that is the first held is taken by the row of its opcode. -/
theorem State.takeReq_takes {k : State → Entry → State} (hreqs : s.fw.reqs = e :: l) (htakes : s.fwTakes = true) (hroom : s.room5 = true)
    (hop : entByte e 0 = op) : s.takeReq op k = k (s.reqTaken l) e := by
  unfold State.takeReq
  rw [hreqs]
  exact if_pos (by simp [htakes, hroom, hop])

theorem onHub_takeReq {k : State → Entry → State} (hon : s.hubOn = true) (hreqs : s.fw.reqs = e :: l) (htakes : s.fwTakes = true)
    (hroom : s.room5 = true) (hop : entByte e 0 = op) : onHub (fun s => s.takeReq op k) s = .next (k (s.reqTaken l) e) := by
  rw [onHub_on hon, State.takeReq_takes hreqs htakes hroom hop]

/-! What the operations on requests leave of those that the firmware holds -/

@[simp] theorem State.reqs_ringOut {r : RingNo} {x : OutEntry} : (s.ringOut r x).fw.reqs = s.fw.reqs := rfl
@[simp] theorem State.reqs_markDead {k : Nat × Nat × Nat × Nat} {on : Bool} : (s.markDead k on).fw.reqs = s.fw.reqs := rfl
@[simp] theorem State.reqs_passOver : (s.passOver e).fw.reqs = s.fw.reqs := rfl
@[simp] theorem State.reqs_endFrag : (s.endFrag c st).fw.reqs = s.fw.reqs := by
  unfold State.endFrag
  split <;> simp
@[simp] theorem State.reqs_interleave : (s.interleave c).fw.reqs = s.fw.reqs := State.reqs_endFrag
@[simp] theorem State.reqs_endIsdus : (s.endIsdus c).fw.reqs = s.fw.reqs := by
  unfold State.endIsdus
  rw [State.reqs_endFrag]
  exact (State.foldl_keep (fun s => s.fw.reqs) (fun _ _ => by simp) _ _).trans rfl
@[simp] theorem State.reqs_fragment : (s.fragment c e).fw.reqs = s.fw.reqs := by
  unfold State.fragment
  dsimp only
  (repeat' split) <;> simp
@[simp] theorem State.reqs_powerCycle : (s.powerCycle c e).fw.reqs = s.fw.reqs := by
  unfold State.powerCycle
  dsimp only
  (repeat' split) <;> simp

/-! A port at rest takes an ISDU at once -/

/-- A port whose device answers on-request messages and at which no ISDU, answer or fragment waits (R268). -/
structure State.AtRest (s : State) (c : Ch) : Prop where
  state : s.portState c = 6 ∨ s.portState c = 7 ∨ s.portState c = 8
  isdu : (s.ch c).port.isdu = none
  queue : (s.ch c).port.queue = []
  resp : (s.ch c).port.resp = []
  frag : (s.ch c).port.frag = none

theorem State.AtRest.queueIsdu (h : s.AtRest c) : ((s.queueIsdu c q).ch c).port.isdu = some q := by
  obtain ⟨hstate, hisdu, hqueue, hresp, -⟩ := h
  have hopen : (!(s.portState c == 6 || s.portState c == 7 || s.portState c == 8)) = false := by
    obtain h | h | h := hstate <;> rw [h] <;> rfl
  unfold State.queueIsdu
  dsimp only
  rw [hopen, if_neg nofun, if_pos ⟨by rw [hisdu]; rfl, hqueue, hresp⟩, State.ch_odSend]
  simp
theorem State.AtRest.congr (h : s.AtRest c) (hregs : t.regs = s.regs) (hch : t.ch c = s.ch c) : t.AtRest c := by
  obtain ⟨hstate, hisdu, hqueue, hresp, hfrag⟩ := h
  rw [← hch] at hisdu hqueue hresp hfrag
  exact ⟨by rwa [State.portState, State.reg, hregs], hisdu, hqueue, hresp, hfrag⟩
theorem State.AtRest.interleave (h : s.AtRest c) : s.interleave c = s := State.endFrag_none h.frag
/-- An ISDU_WRITE of one fragment is whole (R268). -/
theorem State.AtRest.fragment (h : s.AtRest c) (hlast : entByte e 11 % 2 = 1) (hoff : bytesAt e 14 2 = 0) (hpos : 1 ≤ bytesAt e 12 2)
    (hlen : bytesAt e 12 2 ≤ 40) : ((s.fragment c e).ch c).port.isdu =
      some { entIsdu e with write := some (bytesAt e 12 2, (e.drop 16).take (bytesAt e 12 2)) } := by
  have hbit : bit (entByte e 11) 0 = true := by simp [bit, Nat.testBit_zero, hlast]
  have hall : min 40 (bytesAt e 12 2 - bytesAt e 14 2) = bytesAt e 12 2 := by omega
  have hrest : (s.updPort c fun p => { p with frag := none }).AtRest c := by
    obtain ⟨hstate, hisdu, hqueue, hresp, -⟩ := h
    exact ⟨hstate, by simpa, by simpa, by simpa, by simp⟩
  have hwhole : s.fragment c e = (s.updPort c fun p => { p with frag := none }).queueIsdu c
      { entIsdu e with write := some (bytesAt e 12 2, (e.drop 16).take (bytesAt e 12 2)) } := by
    unfold State.fragment
    dsimp only
    rw [h.frag, hall, hbit]
    dsimp only
    rw [if_pos ⟨hoff, hpos, by omega, fun _ => rfl⟩, if_pos rfl]
  rw [hwhole]
  exact hrest.queueIsdu

/-! A power cycle (R264) -/

theorem State.isPort_congr (h : t.regs = s.regs) : t.isPort c = s.isPort c := by
  simp only [State.isPort, State.changing, State.on, State.reg, h]
/-- A POWER_CYCLE of a port with a switched supply turns the supplier off for the time asked for, 500 ms where it is 0 (Table 12.5). -/
theorem State.powerCycle_cycles (hport : s.isPort c = true) (hfeeder : s.feeder c = some d)
    (htime : bytesAt e 8 2 = 0 ∨ 10 ≤ bytesAt e 8 2 ∧ bytesAt e 8 2 ≤ 6000) :
    ((s.powerCycle c e).ch c).port.cycOff = some (s.tick + (if bytesAt e 8 2 = 0 then 50 else bytesAt e 8 2) * 2500000) ∧
      (s.powerCycle c e).reg (F.OUT_CMD_ON d) = 0 := by
  have hregs : ((s.interleave c).endIsdus c).regs = s.regs := by simp
  have hline : (((s.interleave c).endIsdus c).ch c).line = (s.ch c).line := State.endIsdus_line.trans State.endFrag_line
  have hfed : (s.interleave c).feeder c = some d := by
    rw [← hfeeder]
    exact State.feeder_congr (by simp) (by rw [State.interleave, ← Chan.line_sup, State.endFrag_line, Chan.line_sup])
  have hfed' : ((s.interleave c).endIsdus c).feeder c = some d := by
    rw [← hfeeder]
    exact State.feeder_congr hregs (by rw [← Chan.line_sup, hline, Chan.line_sup])
  unfold State.powerCycle
  dsimp only
  rw [hfed, if_neg (by simp), if_neg (by split <;> omega)]
  constructor
  · rw [State.reqDone, ← Chan.line_cycOff, State.line_of_unsent State.putResp_unsent]
    simp
  · rw [State.reg, State.reqDone_frame.2.1, ← State.reg, State.reg_updPort]
    refine State.supplierCmd_on (on := false) ?_
    rw [State.isPort_congr hregs, hport, if_pos rfl, hfed']

/-! PDOUT by request (R266) -/

/-- A record of a PD_OUT request: PDOUT of the channel it names is written (Table 12.5). -/
def State.pdPut (s : State) (p : Nat × Nat) : State :=
  if h : p.1 < 32 then ((s.interleave ⟨p.1, h⟩).setReg (F.IOL_PD_PDOUT ⟨p.1, h⟩) p.2).pdOutWritten ⟨p.1, h⟩ else s
/-- What PDOUT keeps of a value written: the bits that the device present has (R266). -/
def State.pdKept (s : State) (c : Ch) (v : Nat) : Nat :=
  match (s.ch c).port.dev with
  | some d => if 6 ≤ s.portState c ∧ s.portState c ≤ 8 then pdMask d.pdOut (v % 2 ^ 16) else v % 2 ^ 16
  | none => v % 2 ^ 16

theorem State.pdKept_congr {v : Nat} (hdev : (t.ch c).port.dev = (s.ch c).port.dev) (hstate : t.portState c = s.portState c) :
    t.pdKept c v = s.pdKept c v := by
  rw [State.pdKept, hdev, hstate, State.pdKept]
theorem State.pdOutMask_kept {v : Nat} (h : s.reg (F.IOL_PD_PDOUT c) = v % 2 ^ 16) : (s.pdOutMask c).reg (F.IOL_PD_PDOUT c) = s.pdKept c v := by
  unfold State.pdKept
  cases hdev : (s.ch c).port.dev with
  | none => rw [State.pdOutMask_unmasked (.inl hdev), h]
  | some dev =>
    dsimp only
    split
    · next hstate =>
      rw [State.pdOutMask_masked hdev hstate.1 hstate.2, State.reg_setReg, if_pos rfl, h, Nat.mod_eq_of_lt (pdMask_lt _ _)]
    · rw [State.pdOutMask_unmasked (by omega), h]
theorem State.pdOutWritten_kept {v : Nat} : ((s.setReg (F.IOL_PD_PDOUT c) v).pdOutWritten c).reg (F.IOL_PD_PDOUT c) = s.pdKept c v := by
  obtain ⟨s1, hregs, hdev, hwritten⟩ := State.pdOutWritten_noted (s := s.setReg (F.IOL_PD_PDOUT c) v) (c := c)
  have hstate : s1.portState c = s.portState c := by simp [State.portState, State.reg, hregs]
  rw [State.reg, hwritten, ← State.reg, State.pdOutMask_kept (v := v) (by simp [State.reg, hregs])]
  exact State.pdKept_congr hdev hstate
theorem State.reg_pdOutWritten (h : F.IOL_PD_PDOUT c ≠ f) : (s.pdOutWritten c).reg f = s.reg f := by
  obtain ⟨s1, hregs, -, hwritten⟩ := State.pdOutWritten_noted (s := s) (c := c)
  rw [State.reg, hwritten, ← State.reg, State.reg_pdOutMask h, State.reg, hregs, State.reg]
@[simp] theorem State.ch_sendPlain {off : Nat} : (s.sendPlain c off).ch d = s.ch d := State.ch_of_chans (by simp)
theorem State.pdOutWritten_dev : ((s.pdOutWritten c).ch d).port.dev = (s.ch d).port.dev := by
  rw [State.pdOutWritten, State.ch_sendPlain, State.ch_pdOutMask]
  split
  · rw [State.ch_updPort]
    split <;> rfl
  · rfl
theorem State.pdPut_reqs {p : Nat × Nat} : (s.pdPut p).fw.reqs = s.fw.reqs := by
  unfold State.pdPut
  split <;> simp
/-- The state and the device of a port stay as they were. -/
theorem State.pdPut_port {p : Nat × Nat} : ((s.pdPut p).ch c).port.dev = (s.ch c).port.dev ∧ (s.pdPut p).portState c = s.portState c := by
  unfold State.pdPut
  split
  · rw [State.pdOutWritten_dev, State.portState, State.reg_pdOutWritten (by simp), State.ch_setReg, State.interleave, ← Chan.line_dev,
      State.endFrag_line]
    simp [State.portState, State.reg]
  · exact ⟨rfl, rfl⟩
theorem State.pdPut_reg {p : Nat × Nat} :
    (s.pdPut p).reg (F.IOL_PD_PDOUT c) = if p.1 = c.val then s.pdKept c p.2 else s.reg (F.IOL_PD_PDOUT c) := by
  unfold State.pdPut
  split
  · next h =>
    have hregs : (s.interleave ⟨p.1, h⟩).regs = s.regs := by simp
    split
    · next hc =>
      obtain rfl : (⟨p.1, h⟩ : Ch) = c := Fin.ext hc
      rw [State.pdOutWritten_kept]
      refine State.pdKept_congr ?_ (congrArg (Store.get · _) hregs)
      rw [State.interleave, ← Chan.line_dev, State.endFrag_line, Chan.line_dev]
    · next hc =>
      have hne : F.IOL_PD_PDOUT ⟨p.1, h⟩ ≠ F.IOL_PD_PDOUT c := by simpa [Fin.ext_iff] using hc
      rw [State.reg_pdOutWritten hne, State.reg_setReg, if_neg hne, State.reg, hregs, State.reg]
  · next h => rw [if_neg (by omega)]
/-- Of the records of a request that name a port the last one holds. -/
theorem State.pdPuts_reg (rs : List (Nat × Nat)) : (rs.foldl State.pdPut s).reg (F.IOL_PD_PDOUT c) =
    match rs.reverse.lookup c.val with
    | some v => s.pdKept c v
    | none => s.reg (F.IOL_PD_PDOUT c) := by
  induction rs using List.reverseRecOn with
  | nil => rfl
  | append_singleton rs p ih =>
    have hkept (v : Nat) : (rs.foldl State.pdPut s).pdKept c v = s.pdKept c v := State.pdKept_congr
      (State.foldl_keep (fun s => (s.ch c).port.dev) (fun _ _ => State.pdPut_port.1) _ _)
      (State.foldl_keep (fun s => s.portState c) (fun _ _ => State.pdPut_port.2) _ _)
    rw [List.foldl_append, List.foldl_cons, List.foldl_nil, State.pdPut_reg, hkept, ih, List.reverse_append, List.reverse_singleton,
      List.singleton_append, List.lookup_cons]
    by_cases hp : p.1 = c.val
    · rw [if_pos hp, beq_iff_eq.mpr hp.symm]
    · rw [if_neg hp, beq_eq_false_iff_ne.mpr (Ne.symm hp)]

/-! The rows -/

section
variable (hon : s.hubOn = true) (hreqs : s.fw.reqs = e :: l) (htakes : s.fwTakes = true) (hroom : s.room5 = true)
include hon hreqs htakes hroom

/-- ISDU_READ (R268). -/
theorem exec_isduRead (hop : entByte e 0 = 0x40) : ∃ t, exec .isduRead s = .next t ∧ t.fw.reqs = l ∧
    ∀ c, s.reqPort e = some c → s.AtRest c → (t.ch c).port.isdu = some (entIsdu e) := by
  refine ⟨_, (onHub_takeReq hon hreqs htakes hroom hop : execIsduRead s = _), ?_⟩
  have hport : (s.reqTaken l).reqPort e = s.reqPort e := rfl
  rw [hport]
  cases s.reqPort e with
  | none => exact ⟨by simp, nofun⟩
  | some c =>
    refine ⟨by simp, fun d hd hrest => ?_⟩
    obtain rfl := Option.some.inj hd
    have hrest : (s.reqTaken l).AtRest c := hrest.congr rfl rfl
    dsimp only
    rw [hrest.interleave]
    exact hrest.queueIsdu
/-- ISDU_WRITE, with an ISDU of one fragment (R268). -/
theorem exec_isduWrite (hop : entByte e 0 = 0x41) : ∃ t, exec .isduWrite s = .next t ∧ t.fw.reqs = l ∧
    ∀ c, s.reqPort e = some c → s.AtRest c → entByte e 11 % 2 = 1 → bytesAt e 14 2 = 0 → 1 ≤ bytesAt e 12 2 → bytesAt e 12 2 ≤ 40 →
      (t.ch c).port.isdu = some { entIsdu e with write := some (bytesAt e 12 2, (e.drop 16).take (bytesAt e 12 2)) } := by
  refine ⟨_, (onHub_takeReq hon hreqs htakes hroom hop : execIsduWrite s = _), ?_⟩
  have hport : (s.reqTaken l).reqPort e = s.reqPort e := rfl
  dsimp only
  rw [hport]
  cases s.reqPort e with
  | none =>
    refine ⟨?_, nofun⟩
    dsimp only
    split <;> simp
  | some c =>
    refine ⟨?_, fun d hd hrest hlast hoff hpos hlen => ?_⟩
    · dsimp only
      split <;> simp
    · obtain rfl := Option.some.inj hd
      dsimp only
      rw [if_neg (by simp [hoff])]
      have hrest : ((s.reqTaken l).markDead ((entIsdu e).key (entByte e 6)) false).AtRest c := hrest.congr rfl rfl
      exact hrest.fragment hlast hoff hpos hlen
/-- POWER_CYCLE (R264). -/
theorem exec_powerCycle (hop : entByte e 0 = 0x42) : ∃ t, exec .powerCycle s = .next t ∧ t.fw.reqs = l ∧
    ∀ c d, s.reqPort e = some c → s.feeder c = some d → bytesAt e 8 2 = 0 ∨ 10 ≤ bytesAt e 8 2 ∧ bytesAt e 8 2 ≤ 6000 →
      (t.ch c).port.cycOff = some (s.tick + (if bytesAt e 8 2 = 0 then 50 else bytesAt e 8 2) * 2500000) ∧ t.reg (F.OUT_CMD_ON d) = 0 := by
  refine ⟨_, (onHub_takeReq hon hreqs htakes hroom hop : execPowerCycle s = _), ?_⟩
  have hport : (s.reqTaken l).reqPort e = s.reqPort e := rfl
  rw [hport]
  cases hnamed : s.reqPort e with
  | none => exact ⟨by simp, nofun⟩
  | some c =>
    refine ⟨by simp, fun _ d hc hfeeder htime => ?_⟩
    obtain rfl := Option.some.inj hc
    have hisPort : (s.reqTaken l).isPort c = true := State.reqPort_isPort hnamed
    exact State.powerCycle_cycles hisPort hfeeder htime
/-- ABORT (Table 12.5). -/
theorem exec_abort (hop : entByte e 0 = 0x44) : ∃ t, exec .abort s = .next t ∧ t.fw.reqs = l ∧
    ∀ c, s.reqPort e = some c → (t.ch c).port.isdu = none ∧ (t.ch c).port.queue = [] := by
  refine ⟨_, (onHub_takeReq hon hreqs htakes hroom hop : execAbort s = _), ?_⟩
  have hport : (s.reqTaken l).reqPort e = s.reqPort e := rfl
  rw [hport]
  cases s.reqPort e with
  | none => exact ⟨by simp, nofun⟩
  | some c =>
    refine ⟨by simp, fun d hd => ?_⟩
    obtain rfl := Option.some.inj hd
    dsimp only
    rw [State.reqDone, ← Chan.unsent_isdu, ← Chan.unsent_queue, State.putResp_unsent, Chan.unsent_isdu, Chan.unsent_queue]
    exact State.endIsdus_ends
/-- PD_OUT: PDOUT of each port it lists, or nothing where it lists a channel that is no port (R266, Table 12.5). -/
theorem exec_pdOut (hop : entByte e 0 = 0x43) : ∃ t, exec .pdOut s = .next t ∧ t.fw.reqs = l ∧
    ((∀ p ∈ pdRecords e, ∃ h : p.1 < 32, s.isPort ⟨p.1, h⟩ = true) → ∀ c, t.reg (F.IOL_PD_PDOUT c) =
      match (pdRecords e).reverse.lookup c.val with
      | some v => s.pdKept c v
      | none => s.reg (F.IOL_PD_PDOUT c)) ∧
    ((∃ p ∈ pdRecords e, ∀ h : p.1 < 32, s.isPort ⟨p.1, h⟩ = false) → t.regs = s.regs) := by
  refine ⟨_, (onHub_takeReq hon hreqs htakes hroom hop : execPdOut s = _), ?_⟩
  dsimp only
  split
  · next hall =>
    have hreqs' : ((pdRecords e).foldl State.pdPut (s.reqTaken l)).fw.reqs = l :=
      State.foldl_keep (fun s => s.fw.reqs) (fun _ _ => State.pdPut_reqs) _ _
    refine ⟨?_, fun _ c => ?_, fun hbad => ?_⟩
    · rw [State.reqs_ringOut]
      exact hreqs'
    · rw [State.reg, State.ringOut_frame.2.1, ← State.reg]
      exact State.pdPuts_reg (s := s.reqTaken l) _
    · obtain ⟨p, hp, hno⟩ := hbad
      have hport := List.all_eq_true.mp hall p hp
      split at hport
      · next h => exact absurd ((hno h).symm.trans hport) nofun
      · cases hport
  · next hall =>
    refine ⟨by simp, fun hports => ?_, fun _ => by simp; rfl⟩
    refine absurd (List.all_eq_true.mpr fun p hp => ?_) hall
    obtain ⟨h, hport⟩ := hports p hp
    rw [dif_pos h]
    exact hport
end

/-! What the device answers (R268, R269) -/

theorem State.nextIsdu_none (h : (s.ch c).port.queue = []) : s.nextIsdu c = s := by
  unfold State.nextIsdu
  dsimp only
  split
  · next hq _ => rw [h] at hq; cases hq
  · rfl
/-- ISDU_RESPONSE, with no other ISDU waiting. -/
theorem exec_isduResponse {status err : Nat} {data : List Byte} (hon : s.hubOn = true) (hisdu : (s.ch c).port.isdu = some q)
    (hqueue : (s.ch c).port.queue = []) (hrun : s.fwRuns = true) (hstatus : status = 0 ∨ status = 1 ∨ status = 7) :
    ∃ t, exec (.isduResponse c status err data) s = .next t ∧ (t.ch c).port.isdu = none := by
  have hkept (es : List OutEntry) (t : State) : ((es.foldl (fun s e => s.putResp c e) t).ch c).unsent = (t.ch c).unsent :=
    State.foldl_keep (fun s => (s.ch c).unsent) (fun _ _ => State.putResp_unsent) _ _
  refine ⟨_, (onHub_on hon : execIsduResponse c status err data s = _), ?_⟩
  rw [hisdu]
  dsimp only
  rw [if_pos (by simpa [hrun, or_assoc] using hstatus), State.nextIsdu_none]
  · rw [← Chan.unsent_isdu, hkept]
    simp
  · rw [← Chan.unsent_queue, hkept]
    simp [hqueue]
/-- ISDU_TIMEOUT, with no other ISDU waiting. -/
theorem exec_isduTimeout (hon : s.hubOn = true) (hisdu : (s.ch c).port.isdu = some q) (hqueue : (s.ch c).port.queue = [])
    (hrun : s.fwRuns = true) : ∃ t, exec (.isduTimeout c) s = .next t ∧ (t.ch c).port.isdu = none := by
  refine ⟨_, (onHub_on hon : execIsduTimeout c s = _), ?_⟩
  rw [hisdu]
  dsimp only
  rw [if_pos hrun, State.nextIsdu_none]
  · rw [← Chan.unsent_isdu, State.endIsdu_unsent]
    simp
  · rw [← Chan.unsent_queue, State.endIsdu_unsent]
    simp [hqueue]

theorem State.room5_updPort {k : Port → Port} : (s.updPort c k).room5 = s.room5 := rfl
/-- Events wait at the port, in their order, while ring 5 has no room (R269). -/
theorem State.putEvents_wait {α : Type} (k : α → OutEntry) (ev : List α) (h : s.room5 = false) :
    ((ev.foldl (fun s e => s.putEvent c (k e)) s).ch c).port.events = (s.ch c).port.events ++ ev.map k := by
  induction ev generalizing s with
  | nil => simp
  | cons x ev ih =>
    have hput : s.putEvent c (k x) = s.updPort c fun p => { p with events := p.events ++ [k x] } := if_neg (by simp [h])
    rw [List.foldl_cons, hput, ih (State.room5_updPort.trans h)]
    simp
theorem State.confirmEvents_events : ((s.confirmEvents c).ch c).port.events = (s.ch c).port.events := by
  unfold State.confirmEvents
  split <;> simp
/-- PORT_EVENT: the events of a device stand on ring 5, or wait at the port (R269). -/
theorem exec_portEvent {ev : List (Nat × Nat)} (hon : s.hubOn = true) (hstate : s.portState c = 6 ∨ s.portState c = 7 ∨ s.portState c = 8) :
    ∃ t, exec (.portEvent c ev) s = .next t ∧ t.die = s.die ∧
      (s.room5 = false → (t.ch c).port.events.length = (s.ch c).port.events.length + ev.length) := by
  refine ⟨_, (onHub_on hon : execPortEvent c ev s = _), ?_⟩
  dsimp only
  rw [if_pos hstate]
  refine ⟨by simp, fun hroom => ?_⟩
  rw [State.confirmEvents_events, State.putEvents_wait _ ev (State.room5_updPort.trans hroom)]
  simp
end
end Sys2Proof.Machine

namespace Sys2Proof
open Machine

/-- Settles O24: a request that is the first held is taken (`onHub_takeReq`), and what it does to its port is that of its opcode; what waits for
ring 5 leaves of the port what `Chan.unsent` shows. -/
theorem ioLinkRequestCommands : Obligations.IoLinkRequestCommands := by
  unfold Obligations.IoLinkRequestCommands
  intro s hon
  refine ⟨fun e l hreqs htakes hroom => ⟨fun hop => ?_, fun hop => ?_, exec_powerCycle hon hreqs htakes hroom,
    exec_pdOut hon hreqs htakes hroom, exec_abort hon hreqs htakes hroom⟩, fun _ _ _ _ _ => exec_isduResponse hon,
    fun _ _ => exec_isduTimeout hon, fun _ _ => exec_portEvent hon⟩
  · obtain ⟨t, hexec, hl, hread⟩ := exec_isduRead hon hreqs htakes hroom hop
    exact ⟨t, hexec, hl, fun c hport hstate hisdu hqueue hresp hfrag => hread c hport ⟨hstate, hisdu, hqueue, hresp, hfrag⟩⟩
  · obtain ⟨t, hexec, hl, hwrite⟩ := exec_isduWrite hon hreqs htakes hroom hop
    exact ⟨t, hexec, hl, fun c hport hstate hisdu hqueue hresp hfrag => hwrite c hport ⟨hstate, hisdu, hqueue, hresp, hfrag⟩⟩
end Sys2Proof
